-- ==== Sys2Proof/Word.lean ====
section
/-! DEFINITION. The word types of the head and the plainest list helpers: registers and engine
registers are 64 bits (R10, R53), memory is bytes (R9), a completion status is a 16-bit code kept as a
number (R38). -/
namespace Sys2Proof

/-- A management register or an engine register (R10, R53). -/
abbrev Word := BitVec 64
/-- A byte of memory or of a wire. -/
abbrev Byte := BitVec 8
/-- A 16-bit completion status; its high nibble is the class (R38, R139). -/
abbrev Status := Nat

end Sys2Proof
end

