-- ==== Sys2Proof/Terms.lean ====
section
/-! DEFINITION. The operand types of the commands: engines and contexts (R53, R72), the outside outcome an
event brings with it, and the headers of the messages that arrive on the head's wires. -/
namespace Sys2Proof

/-- The four kinds of IXA engine (R72). -/
inductive EngKind where
  | hand | sequencer | council | strongroom
  deriving DecidableEq, Repr, Inhabited

/-- A context of an engine: kind, unit (Hand 0 to 15, Sequencer 0 to 3, core 0 to 2) and context number. -/
structure Eng where
  kind : EngKind
  unit : Nat
  ctx : Nat
  deriving DecidableEq, Repr, Inhabited

/-- The number under which a context is kept. Hand contexts are 64 h + c, as in the ctx register (R53). -/
def Eng.key (e : Eng) : Nat :=
  match e.kind with
  | .hand => (e.unit % 16) * 64 + e.ctx % 64
  | .sequencer => 1024 + (e.unit % 4) * 64 + e.ctx % 64
  | .council => 1280 + (e.unit % 4) * 64 + e.ctx % 64
  | .strongroom => 1536 + e.ctx % 64

/-- The pocket a unit's contexts share (R62): the Hand's number, or a number of its own for other engines. -/
def Eng.unitNo (e : Eng) : Nat := e.key / 64

/-- What the outside brings to the completion of an operation: a status other than zero is a failure the
surroundings or a failing unit cause; data and numbers are what a wire or a medium delivers. -/
structure Env where
  status : Status
  n : Nat
  m : Nat
  data : List Byte
  deriving DecidableEq, Repr, Inhabited

/-- A Carrier message as it arrives (R355 to R357): the sender's node, the fabric port 0 to 7 (half in bit 2) or 8
for Carrier-M, FLAGS, KEY, EPOCH, SEQ, whether a datagram bore CE, and what the whole-message checks find: 0
nothing, 1 segments that disagree, 2 a body of `arrived` bytes where LENGTH says `declared`, 3 a failing PCRC or
GCM tag. -/
structure CarHdr where
  node : Nat
  port : Nat
  flags : Nat
  key : Nat
  epoch : Nat
  seq : Nat
  ce : Bool
  fault : Nat
  declared : Nat
  arrived : Nat
  addr : Nat := 0        -- the service address it came to, 0 to 15, on a fabric port
  v4 : Bool := false     -- it came over IPv4 (R354)
  deriving DecidableEq, Repr, Inhabited

/-- What the submission entry of an admin command brings beside the command's own fields: its CID, and whether it sets a reserved
bit (R128). -/
structure AdminCid where
  num : Nat
  reserved : Bool := false
  deriving DecidableEq, Repr, Inhabited

/-- The fields of an NVMe I/O command that the head reads (R128, R130). buffer is the length of the host's
buffer for a read. -/
structure IoCmd where
  nsid : Nat
  lba : Nat
  nlb : Nat
  ordered : Bool
  fused : Bool
  reserved : Bool
  pract : Bool
  prchk : Nat
  type2 : Bool
  appTag : Nat
  appMask : Nat
  refTag : Nat
  buffer : Nat
  car : Option CarHdr    -- the header of the CMD message that carries it; none on a RoCEv2 queue pair (R358, R374)
  reg : Nat              -- its data pointer: the host's registration and offset
  ofs : Nat
  ce : Bool := false     -- on a RoCEv2 queue pair: its packets bore CE (R374)
  deriving DecidableEq, Repr, Inhabited

/-- A region image as the flash holds it (R143, R266). -/
structure FlashImage where
  take : Nat
  record : List Byte
  frame : Nat
  grain : Nat
  addr : Nat
  data : List Byte
  deriving DecidableEq, Repr, Inhabited

/-- What the flash of a commons holds, as a head finds it at a start or on adoption (R287, R290, R341): the
surroundings bring it. -/
structure FlashCmn where
  commons : Nat
  anchors : List (List Byte)   -- its two anchor copies, each 4 KiB as read; short where unreadable
  book : List (List Byte × List Byte)   -- Daybook pages, each in both copies as read, in the ring's order; short where unreadable
  roots : Bool                 -- every root table the checkpoint names loads
  epoch : Nat                  -- the ownership epoch the bridges report (R303)
  rival : Nat                  -- epoch of an OWN of the partner that reaches the bridges as this head claims (R25); 0 none
  writeSeq : Nat               -- the highest WRITE_SEQ among its tags (R288)
  vols : List (Nat × Nat × Nat × Nat)   -- the volumes of the commons, as they were made: number, leaves, format, PI type (R130)
  dir : List (Nat × Nat)       -- directory entries of the checkpoint's pages
  map : List (Nat × List (BitVec 128))   -- grains of the checkpoint's pages: volume · 2^48 + grain
  nextBlock : Nat
  snaps : List (Nat × Nat × List (Nat × List (BitVec 128)))   -- retained snapshots: volume, epoch, map
  buckets : Nat                -- B of its Sieve index (R230)
  sieve : List (Nat × BitVec 128 × Nat × Nat × Nat)   -- vault · 2^256 + fingerprint, entry, REFS, FIRST_VOLUME +
                                                  -- 65,536 · (1 MULTI, 2 SATURATED), DEATH_EPOCH plus one
  sheaves : List (Nat × List Nat × Nat × Nat)    -- closed sheaves: number, locations, SLC mask, 1 take + 2 secure + 4 pages
  ledger : List (List Byte)    -- pages of its ledger sets as read from the first record member (R340)
  ledger2 : List (List Byte)   -- and from the second
  scan : List (Nat × Nat)      -- what TAGSCAN finds: sheaf, mask of its chunks whose tags agree
  scanned : Nat                -- blocks scanned
  duplicates : Nat
  images : List FlashImage     -- region images
  deriving DecidableEq, Repr, Inhabited

/-- A sled port as a start finds it (R293, R295): what its training, identify data and label yield. -/
structure BootSled where
  port : Nat
  width : Nat
  label : Nat
  dies : Nat
  blocks : Nat
  cycles : Nat
  ecc : Nat
  geometry : Bool
  deriving DecidableEq, Repr, Inhabited

/-- A row of the holding table (R331): commons, its first die and how many, home slot, record
members, failed members. -/
structure TableRow where
  commons : Nat
  first : Nat
  dies : Nat
  home : Nat
  recordFirst : Nat
  recordSecond : Nat
  failed : List Nat
  deriving DecidableEq, Repr, Inhabited

/-- What the surroundings bring to a start (R49, R441 to R445). Steps end by the rows of R49 and R528 unless ms names
another time. -/
structure BootEnv where
  ms : List (Nat × Nat)        -- step, ms from t0 at which its work ends
  fails : List (Nat × Nat)     -- step, status: the step's work reports failure
  stall : Nat                  -- a step whose work never ends; 0 none
  clocks : Nat                 -- WARDEN_CLOCKS [4:0] at t0
  bankV : Nat                  -- bank voltage found, mV, at least 1 of a connected bank; 0 where none is connected
  sleds : List BootSled
  tables : List (Nat × List TableRow)  -- the holding table on each label, with its sequence number; empty: as this head last knew it
  flash : List FlashCmn
  repairs : List (Nat × Nat)   -- channel and row a hard repair replaces at BL-13 (R435)
  katFails : List (Nat × Nat)  -- kind and unit: units that fail their known-answer tests at BL-14 to BL-18
  links : Nat                  -- fabric links that train, a bit each
  mags : Nat                   -- magazine ports that begin to train, a bit each
  cfLanes : Nat                -- Counterfoil lanes that train whole
  deriving DecidableEq, Repr, Inhabited

/-- What the surroundings bring to a request that a register write makes: a start, where the write begins one, and whether a
unit it restores passes its test. -/
structure Outside where
  boot : BootEnv
  pass : Bool
  deriving DecidableEq, Repr, Inhabited

/-- General register number. -/
abbrev GReg := BitVec 5
/-- Descriptor number. -/
abbrev DReg := BitVec 4
/-- Predicate number. -/
abbrev PReg := BitVec 3

/-- The paths to the registers: the management paths SPI and Carrier-M (R29), and the engines' windows (R218). -/
inductive Path where
  | spi | carrierM | sequencer | council | strongroom
  deriving DecidableEq, Repr, Inhabited

/-- A path's number. -/
def Path.num : Path → Nat
  | .spi => 0
  | .carrierM => 1
  | .sequencer => 2
  | .council => 3
  | .strongroom => 4

/-- An engine's path, its firmware register window, which R218 gives it to the TALLY block. -/
def Path.engine (p : Path) : Bool := decide (2 ≤ p.num)

end Sys2Proof
end

