-- ==== Sys2Proof/Syntax.lean ====
section
/-! DEFINITION. The commands of the head: one constructor for each row of spec/opcode_table.json, in the
table's order. The table gives no operand fields; the operands here are those the row's rule reads, and
for an event what the outside brings with it. An instruction command names the engine and context that
issues it. -/
namespace Sys2Proof

/-- The commands (spec/opcode_table.json). -/
inductive Instr where
  | powerUp (vin : Nat)
  | powerGood (env : BootEnv)
  | bootStepTimeout
  | bootFailReset (env : BootEnv)
  | moduleReset (env : BootEnv)
  | headSlotChange (level : Bool)
  | modeReqService
  | modeReqPaired
  | modeReqSolo
  | modeReqJoining
  | modeReqReplay
  | modeReqBootstrap (env : BootEnv)
  | modeReqInvalid
  | featNegotiate (persist : Bool)
  | spiRead (addr : Nat)
  | spiWrite (addr : Nat) (v : Word) (o : Outside)
  | spiReadBurst (addr : Nat) (count : Nat)
  | spiRead32 (addr : Nat)
  | spiWrite32 (addr : Nat) (v : Nat) (o : Outside)
  | spiRead16 (addr : Nat)
  | spiRead8 (addr : Nat)
  | spiWrite16 (addr : Nat) (v : Nat)
  | spiWrite8 (addr : Nat) (v : Nat)
  | spiUnknownOpcode (count : Nat)
  | spiCsEarlyRise (bytes : List Byte) (o : Outside)
  | mgmtRead (h : CarHdr) (body : List Byte)
  | mgmtWrite (h : CarHdr) (body : List Byte) (o : Outside)
  | mgmtData (h : CarHdr) (body : List Byte)
  | registerWrite (p : Path) (addr : Nat) (v : Word) (o : Outside)
  | hallmarkWord0Read (p : Path) (word : Nat)
  | authNonceRead
  | nonceExpiry
  | takeInfoRead (p : Path)
  | dispatch (tag : Nat)
  | watchdogExpiry (e : Eng)
  | doorbell (e : Eng) (word : Word)
  | waitTimeout (e : Eng)
  | accelCompletion (e : Eng) (slot : Nat) (env : Env)
  | trapEntry (e : Eng)
  | contextFreed (e : Eng)
  | handStoreError (e : Eng) (parity : Bool)
  | handCorrectedError (hand : Nat)
  | handLockup (hand : Nat)
  | drainTimeout (e : Eng)
  | handsLoadBegin
  | handsLoadData (v : Word)
  | handsLoadCommit
  | handsLoadAbort
  | handsBind (slot : Nat)
  | handsUnload (slot : Nat)
  | handsRetireReq (hand : Nat)
  | handsRestoreReq (hand : Nat) (pass : Bool)
  | actReplyTimeout
  | illegalEncoding (e : Eng)
  | add (e : Eng) (rd : GReg) (ra : GReg) (rb : GReg)
  | sub (e : Eng) (rd : GReg) (ra : GReg) (rb : GReg)
  | and (e : Eng) (rd : GReg) (ra : GReg) (rb : GReg)
  | or (e : Eng) (rd : GReg) (ra : GReg) (rb : GReg)
  | xor (e : Eng) (rd : GReg) (ra : GReg) (rb : GReg)
  | andn (e : Eng) (rd : GReg) (ra : GReg) (rb : GReg)
  | shl (e : Eng) (rd : GReg) (ra : GReg) (rb : GReg)
  | shr (e : Eng) (rd : GReg) (ra : GReg) (rb : GReg)
  | sar (e : Eng) (rd : GReg) (ra : GReg) (rb : GReg)
  | shli (e : Eng) (rd : GReg) (ra : GReg) (amt : BitVec 6)
  | shri (e : Eng) (rd : GReg) (ra : GReg) (amt : BitVec 6)
  | sari (e : Eng) (rd : GReg) (ra : GReg) (amt : BitVec 6)
  | rotr (e : Eng) (rd : GReg) (ra : GReg) (rb : GReg)
  | mul (e : Eng) (rd : GReg) (ra : GReg) (rb : GReg)
  | mulhu (e : Eng) (rd : GReg) (ra : GReg) (rb : GReg)
  | mulhs (e : Eng) (rd : GReg) (ra : GReg) (rb : GReg)
  | divu (e : Eng) (rd : GReg) (ra : GReg) (rb : GReg)
  | remu (e : Eng) (rd : GReg) (ra : GReg) (rb : GReg)
  | divs (e : Eng) (rd : GReg) (ra : GReg) (rb : GReg)
  | rems (e : Eng) (rd : GReg) (ra : GReg) (rb : GReg)
  | minu (e : Eng) (rd : GReg) (ra : GReg) (rb : GReg)
  | maxu (e : Eng) (rd : GReg) (ra : GReg) (rb : GReg)
  | mins (e : Eng) (rd : GReg) (ra : GReg) (rb : GReg)
  | maxs (e : Eng) (rd : GReg) (ra : GReg) (rb : GReg)
  | clz (e : Eng) (rd : GReg) (ra : GReg)
  | ctz (e : Eng) (rd : GReg) (ra : GReg)
  | popc (e : Eng) (rd : GReg) (ra : GReg)
  | bswap (e : Eng) (rd : GReg) (ra : GReg)
  | sel (e : Eng) (rd : GReg) (ra : GReg) (rb : GReg) (p : PReg)
  | ext (e : Eng) (rd : GReg) (ra : GReg) (rb : GReg) (sh : BitVec 5)
  | mfs (e : Eng) (rd : GReg) (sh : BitVec 5)
  | ptog (e : Eng) (rd : GReg)
  | gtop (e : Eng) (ra : GReg)
  | addi (e : Eng) (rd : GReg) (ra : GReg) (imm : BitVec 16)
  | andi (e : Eng) (rd : GReg) (ra : GReg) (imm : BitVec 16)
  | ori (e : Eng) (rd : GReg) (ra : GReg) (imm : BitVec 16)
  | xori (e : Eng) (rd : GReg) (ra : GReg) (imm : BitVec 16)
  | liL (e : Eng) (rd : GReg) (imm : BitVec 42)
  | liuL (e : Eng) (rd : GReg) (imm : BitVec 22)
  | addiL (e : Eng) (rd : GReg) (imm : BitVec 42)
  | andiL (e : Eng) (rd : GReg) (imm : BitVec 42)
  | oriL (e : Eng) (rd : GReg) (imm : BitVec 42)
  | cmp (e : Eng) (pd : PReg) (cond : BitVec 3) (ra : GReg) (rb : GReg)
  | cmpi (e : Eng) (pd : PReg) (cond : BitVec 3) (ra : GReg) (imm : BitVec 15)
  | predAnd (e : Eng) (pd : PReg) (pa : PReg) (pb : PReg)
  | predOr (e : Eng) (pd : PReg) (pa : PReg) (pb : PReg)
  | predXor (e : Eng) (pd : PReg) (pa : PReg) (pb : PReg)
  | predAndn (e : Eng) (pd : PReg) (pa : PReg) (pb : PReg)
  | predNot (e : Eng) (pd : PReg) (pa : PReg)
  | predMov (e : Eng) (pd : PReg) (pa : PReg)
  | predSet (e : Eng) (pd : PReg)
  | predClr (e : Eng) (pd : PReg)
  | b (e : Eng) (off : BitVec 16)
  | bt (e : Eng) (p : PReg) (off : BitVec 16)
  | bf (e : Eng) (p : PReg) (off : BitVec 16)
  | call (e : Eng) (off : BitVec 16)
  | jr (e : Eng) (rd : GReg) (ra : GReg)
  | ldp (e : Eng) (rt : GReg) (ra : GReg) (sz : BitVec 2) (sx : Bool) (off : BitVec 13)
  | stp (e : Eng) (rt : GReg) (ra : GReg) (sz : BitVec 2) (off : BitVec 13)
  | ldg (e : Eng) (rt : GReg) (ra : GReg) (sz : BitVec 2) (sx : Bool) (off : BitVec 13)
  | stg (e : Eng) (rt : GReg) (ra : GReg) (sz : BitVec 2) (off : BitVec 13)
  | ldd (e : Eng) (rt : GReg) (ra : GReg) (dn : DReg) (sz : BitVec 2) (sx : Bool) (off : BitVec 9)
  | std (e : Eng) (rt : GReg) (ra : GReg) (dn : DReg) (sz : BitVec 2) (off : BitVec 9)
  | atomSwap (e : Eng) (rd : GReg) (ra : GReg) (rb : GReg)
  | atomAdd (e : Eng) (rd : GReg) (ra : GReg) (rb : GReg)
  | atomCas (e : Eng) (rd : GReg) (ra : GReg) (rb : GReg)
  | fenceG (e : Eng)
  | dmk (e : Eng) (dn : DReg) (ra : GReg) (rb : GReg) (sh : BitVec 3)
  | dmov (e : Eng) (dn : DReg) (dm : DReg)
  | dadv (e : Eng) (dn : DReg) (rb : GReg)
  | dtrim (e : Eng) (dn : DReg) (rb : GReg)
  | ddrop (e : Eng) (dn : DReg) (sh : BitVec 2)
  | dget (e : Eng) (rd : GReg) (dm : DReg) (sh : BitVec 5)
  | dclr (e : Eng) (dn : DReg)
  | waitAll (e : Eng) (pd : PReg) (ra : GReg) (imm : BitVec 16)
  | waitAny (e : Eng) (pd : PReg) (ra : GReg) (imm : BitVec 16)
  | waitDoorbell (e : Eng) (pd : PReg) (ra : GReg) (imm : BitVec 16)
  | waitSleep (e : Eng) (imm : BitVec 16)
  | endCtx (e : Eng) (ra : GReg)
  | trap (e : Eng) (imm : BitVec 16)
  | pressC (e : Eng) (rd : GReg) (da : DReg) (db : DReg) (ra : GReg) (imm : BitVec 8)
  | pressD (e : Eng) (rd : GReg) (da : DReg) (db : DReg) (ra : GReg) (imm : BitVec 8)
  | seal (e : Eng) (rd : GReg) (da : DReg) (db : DReg) (ra : GReg) (imm : BitVec 8)
  | unseal (e : Eng) (rd : GReg) (da : DReg) (db : DReg) (ra : GReg) (imm : BitVec 8)
  | assayOne (e : Eng) (rd : GReg) (da : DReg) (db : DReg) (ra : GReg) (imm : BitVec 8)
  | assayStart (e : Eng) (rd : GReg) (da : DReg) (db : DReg) (ra : GReg) (imm : BitVec 8)
  | assayMore (e : Eng) (rd : GReg) (da : DReg) (db : DReg) (ra : GReg) (imm : BitVec 8)
  | assayFinish (e : Eng) (rd : GReg) (da : DReg) (db : DReg) (ra : GReg) (imm : BitVec 8)
  | tallyCheckPi (e : Eng) (rd : GReg) (da : DReg) (db : DReg) (ra : GReg) (imm : BitVec 8)
  | tallyGenPi (e : Eng) (rd : GReg) (da : DReg) (db : DReg) (ra : GReg) (imm : BitVec 8)
  | tallyCrc64 (e : Eng) (rd : GReg) (da : DReg) (db : DReg) (ra : GReg) (imm : BitVec 8)
  | tallyCrc32c (e : Eng) (rd : GReg) (da : DReg) (db : DReg) (ra : GReg) (imm : BitVec 8)
  | tallyCrc16 (e : Eng) (rd : GReg) (da : DReg) (db : DReg) (ra : GReg) (imm : BitVec 8)
  | sieveLookup (e : Eng) (rd : GReg) (da : DReg) (db : DReg) (ra : GReg) (imm : BitVec 8)
  | sieveInsert (e : Eng) (rd : GReg) (da : DReg) (db : DReg) (ra : GReg) (imm : BitVec 8)
  | sieveUnref (e : Eng) (rd : GReg) (da : DReg) (db : DReg) (ra : GReg) (imm : BitVec 8)
  | mapL (e : Eng) (rd : GReg) (da : DReg) (db : DReg) (ra : GReg) (imm : BitVec 8)
  | mapU (e : Eng) (rd : GReg) (da : DReg) (db : DReg) (ra : GReg) (imm : BitVec 8)
  | tillP (e : Eng) (rd : GReg) (da : DReg) (db : DReg) (ra : GReg) (imm : BitVec 8)
  | sledReadEntry (e : Eng) (rd : GReg) (da : DReg) (db : DReg) (ra : GReg) (imm : BitVec 8)
  | sledRead (e : Eng) (rd : GReg) (da : DReg) (db : DReg) (ra : GReg) (imm : BitVec 8)
  | sledProgram (e : Eng) (rd : GReg) (da : DReg) (db : DReg) (ra : GReg) (imm : BitVec 8)
  | sledErase (e : Eng) (rd : GReg) (da : DReg) (db : DReg) (ra : GReg) (imm : BitVec 8)
  | sledFold (e : Eng) (rd : GReg) (da : DReg) (db : DReg) (ra : GReg) (imm : BitVec 8)
  | sledTagscan (e : Eng) (rd : GReg) (da : DReg) (db : DReg) (ra : GReg) (imm : BitVec 8)
  | sledLevels (e : Eng) (rd : GReg) (da : DReg) (db : DReg) (ra : GReg) (imm : BitVec 8)
  | sledOwn (e : Eng) (rd : GReg) (da : DReg) (db : DReg) (ra : GReg) (imm : BitVec 8)
  | carry (e : Eng) (rd : GReg) (da : DReg) (db : DReg) (ra : GReg) (imm : BitVec 8)
  | emit (e : Eng) (rd : GReg) (da : DReg) (db : DReg) (ra : GReg) (imm : BitVec 8)
  | reeveE (e : Eng) (rd : GReg) (da : DReg) (db : DReg) (ra : GReg) (imm : BitVec 8)
  | sqStart (e : Eng) (rd : GReg) (ra : GReg)
  | sqStop (e : Eng) (rd : GReg) (ra : GReg)
  | sqWidth (e : Eng) (rd : GReg) (ra : GReg)
  | tollCap (e : Eng) (rd : GReg) (da : DReg)
  | handRetire (e : Eng) (rd : GReg) (ra : GReg)
  | pressTarget (e : Eng) (rd : GReg) (ra : GReg)
  | spareCall (e : Eng) (rd : GReg) (ra : GReg)
  | reelPut (e : Eng) (rd : GReg) (da : DReg)
  | keyLoad (e : Eng) (rd : GReg) (da : DReg) (ra : GReg)
  | keyZero (e : Eng) (rd : GReg) (ra : GReg)
  | millLock (e : Eng) (rd : GReg) (ra : GReg)
  | millFree (e : Eng) (rd : GReg) (ra : GReg)
  | nvmeConnect (ctrl : Nat) (qid : Nat) (depth : Nat) (peer : Nat) (cid : AdminCid)
  | propertyGet (q : Nat) (cid : AdminCid) (ofs : Nat)
  | propertySet (q : Nat) (cid : AdminCid) (ofs : Nat) (v : Nat)
  | getLogPage (q : Nat) (cid : AdminCid) (page : Nat) (lsi : Nat) (n : Nat)
  | identify (q : Nat) (cid : AdminCid) (cns : Nat) (nsid : Nat)
  | nvmeAbort (q : Nat) (cid : AdminCid) (sqid : Nat) (tcid : Nat)
  | setFeatures (q : Nat) (cid : AdminCid) (fid : Nat) (v : Nat)
  | getFeatures (q : Nat) (cid : AdminCid) (fid : Nat)
  | asyncEventRequest (q : Nat) (cid : AdminCid)
  | keepAlive (q : Nat) (cid : AdminCid)
  | queueResume (q : Nat) (cid : AdminCid) (qid : Nat)
  | queueReset (q : Nat) (cid : AdminCid) (qid : Nat)
  | nvmeFlush (q : Nat) (cid : Nat) (c : IoCmd)
  | nvmeWrite (q : Nat) (cid : Nat) (c : IoCmd)
  | nvmeRead (q : Nat) (cid : Nat) (c : IoCmd)
  | nvmeCompare (q : Nat) (cid : Nat) (c : IoCmd)
  | nvmeWriteZeroes (q : Nat) (cid : Nat) (c : IoCmd)
  | datasetManagement (q : Nat) (cid : Nat) (c : IoCmd) (ranges : List (Nat × Nat)) (dealloc : Bool)
  | nvmeVerify (q : Nat) (cid : Nat) (c : IoCmd)
  | unsupportedOpcode (q : Nat) (cid : Nat) (op : Nat) (car : Option CarHdr)
  | dataArrived (tag : Nat) (data : List Byte) (closed : Bool)
  | completionHandoff (tag : Nat)
  | docketQueueResume
  | docketQueueReset
  | docketQueueFreeze
  | docketAbortGo (tag : Nat)
  | tollWindow
  | tollReqGo
  | tollReqClose
  | armWindowExpiry (take : Nat)
  | keptUntilExpiry (take : Nat)
  | lapsedExpiry (take : Nat)
  | bulkHoldExpiry (tag : Nat)
  | soloTestTimeout
  | capacityTick (granaryS : Nat) (residence : Nat) (glean : Nat) (fp : Nat) (gcm : Nat)
  | pressAdaptWindow
  | pressLaneTest
  | pressLaneRetire
  | pressLaneRestore
  | pressStreamCfgWrite (v : Word)
  | pressLaneFailure (lane : Nat)
  | millLockGranted (e : Eng) (slot : Nat)
  | millLockExpiry (core : Nat)
  | keyZeroDrained (e : Eng) (slot : Nat)
  | drbgReseed
  | rngHealthFail
  | reseedOverdue
  | millKatDue (core : Nat)
  | millCoreTest
  | millCoreRetire
  | millCoreRestore
  | millCoreFailure (core : Nat)
  | assayDmaGo
  | assayDmaComplete (env : Env)
  | assayFeed (v : Word)
  | assayFeedTail (v : Word)
  | assayDmaClose
  | assayDmaAbort
  | assayCompareGo
  | assayLaneTest
  | assayLaneRetire
  | assayLaneRestore
  | assayKatDue (lane : Nat)
  | assayLaneFailure (lane : Nat)
  | tallyClaim (path : Nat)
  | tallyRelease (path : Nat) (unit : Nat)
  | tallyFeedB (path : Nat) (unit : Nat) (v : Word)
  | tallyFeedH (path : Nat) (unit : Nat) (v : Word)
  | tallyFeedW (path : Nat) (unit : Nat) (v : Word)
  | tallyFeedD (path : Nat) (unit : Nat) (v : Word)
  | tallyValueWrite (path : Nat) (unit : Nat) (v : Word)
  | tallyAlgWrite (path : Nat) (unit : Nat) (alg : Nat)
  | tallyCompare (path : Nat) (unit : Nat)
  | tallyReset (path : Nat) (unit : Nat)
  | sieveVaultWrite (v : Word)
  | sievePageTimeout (e : Eng) (slot : Nat)
  | sieveFilterReady (commons : Nat)
  | snapTake
  | snapDelete
  | snapPresent
  | snapWithdraw
  | replOpen
  | replClose
  | replCycleNow
  | replCycleExpiry (link : Nat)
  | replRecOpen (peer : Nat) (link : Nat) (batch : Nat) (body : List Byte)
  | replRecOpenReply (link : Nat) (body : List Byte)
  | replRecOffer (peer : Nat) (link : Nat) (batch : Nat) (epoch : Nat) (count : Nat) (body : List Byte)
  | replRecHave (link : Nat) (body : List Byte)
  | replRecGrain (peer : Nat) (link : Nat) (body : List Byte)
  | replRecUnmap (peer : Nat) (link : Nat) (count : Nat) (body : List Byte)
  | replRecCommit (peer : Nat) (link : Nat) (batch : Nat) (epoch : Nat) (body : List Byte)
  | replRecCommitAck (link : Nat) (body : List Byte)
  | replRecSyncWrite (peer : Nat) (link : Nat) (body : List Byte)
  | replRecSyncAck (link : Nat) (body : List Byte)
  | syncAckTimeout (link : Nat)
  | replLinkLost (link : Nat)
  | replLinkReturn (link : Nat)
  | cfHeartbeat (b : List Byte)
  | cfTillData (b : List Byte)
  | cfDaybook (b : List Byte)
  | cfLedger (b : List Byte)
  | cfTakeState (b : List Byte)
  | cfDocket (b : List Byte)
  | cfRelease (b : List Byte)
  | cfAct (b : List Byte) (fl : List FlashCmn)
  | cfJoin (b : List Byte) (fl : List FlashCmn)
  | cfHoldupNotice (b : List Byte)
  | cfFlushDone (b : List Byte) (fl : List FlashCmn)
  | cfNak (b : List Byte)
  | heartbeatTick
  | budgetRecompute (v : Nat)
  | flushDoneTimeout (fl : List FlashCmn)
  | holdupFlushComplete
  | bankReserveReached (flushed : Nat)
  | tillCfRetrain
  | cfTrained (whole : Nat)
  | cfLaneFailure (failed : Nat)
  | cfLinkDown
  | partnerLost (fl : List FlashCmn)
  | secondWaitExpiry (fl : List FlashCmn)
  | joinWaitExpiry (fl : List FlashCmn)
  | failbackHoldoffExpiry
  | selfFence
  | fenceInEffect
  | fenceInPulse
  | testPulseEnd
  | aliveTick
  | drillDue
  | councilDrillGo
  | drillHoldExpiry
  | councilBallot (core : Nat) (minor : Nat) (ra : Nat) (da : List Byte) (input : Nat)
  | voteWindowExpiry
  | activeCoreTimeout
  | coreResyncDone (core : Nat)
  | councilCoreTest
  | councilCoreRetire
  | councilCoreRestore
  | councilCheckpoint (body : List Byte)
  | groupCommit (e : Eng)
  | daybookFlushTimer (commons : Nat)
  | daybookPageDurable (commons : Nat) (failed : List Nat)
  | checkpointTimer (commons : Nat)
  | checkpointSize (commons : Nat)
  | stewardCkptGo
  | mapPageFetched (e : Eng) (slot : Nat) (lost : Bool)
  | sledPresence (sled : Nat)
  | sledPowerTimer (sled : Nat)
  | sledTrained (sled : Nat) (width : Nat) (label : Nat) (dies : Nat) (blocks : Nat) (cycles : Nat) (ecc : Nat) (geometry : Bool)
  | sledTrainFail (sled : Nat) (geometry : Bool)
  | sledLaneFault (sled : Nat)
  | sledRemoved (sled : Nat)
  | sledCmdTimeout (sled : Nat)
  | sledPowerOff
  | sledPowerOn
  | sledReset
  | sledRetrain
  | slcRecompute
  | foldStart
  | foldComplete (die : Nat) (status : Nat) (failing : Nat)
  | foldRateWindow
  | gleanBlock (commons : Nat) (status : Nat)
  | thinSheaf (commons : Nat) (sheaf : Nat) (data : List Byte)
  | calibrationDue (die : Nat) (group : Nat)
  | secureBoundExpiry (commons : Nat) (sheaf : Nat) (data : List Byte)
  | stewardSecureWrite (v : Word)
  | holdForm
  | holdDissolve
  | holdTakeIn
  | holdFail
  | holdResync
  | holdWatchNow
  | ledgerWriteTick (commons : Nat) (copies : Nat)
  | rebuildChunk (commons : Nat) (status : Nat)
  | resyncPass (commons : Nat) (data : List Byte) (decodes : Bool)
  | watchSheaf (commons : Nat) (data : List Byte) (decodes : Bool)
  | watchOverdue (commons : Nat)
  | carrierHello (h : CarHdr) (body : List Byte)
  | carrierHelloReply (h : CarHdr) (body : List Byte)
  | carrierFloor (h : CarHdr) (body : List Byte)
  | carrierAck (h : CarHdr) (body : List Byte)
  | carrierWrite (h : CarHdr) (body : List Byte)
  | carrierRead (h : CarHdr) (body : List Byte)
  | carrierReadResp (h : CarHdr) (body : List Byte)
  | frameDone (h : CarHdr) (body : List Byte)
  | queueOpen (h : CarHdr) (body : List Byte)
  | queueReply (h : CarHdr) (body : List Byte)
  | queueCtl (h : CarHdr) (body : List Byte)
  | cmdDone (h : CarHdr) (body : List Byte)
  | carrierAbort (h : CarHdr) (body : List Byte)
  | abortReply (h : CarHdr) (body : List Byte)
  | queueNotice (h : CarHdr) (body : List Byte)
  | takeOpen (h : CarHdr) (body : List Byte)
  | takeGrant (h : CarHdr) (body : List Byte)
  | takeClose (h : CarHdr) (body : List Byte)
  | takeNotice (h : CarHdr) (body : List Byte)
  | carrierRepl (h : CarHdr) (body : List Byte)
  | carrierCrier (h : CarHdr) (body : List Byte)
  | reasmTimeout (h : CarHdr)
  | missingGap (h : CarHdr) (map : Nat)
  | ackDelayExpiry (peer : Nat)
  | rtoExpiry (peer : Nat) (seq : Nat)
  | giveupExpiry (peer : Nat)
  | queueGraceExpiry (peer : Nat)
  | rateInterval (qp : Bool) (n : Nat)
  | peerReset
  | peerPin
  | peerUnpin
  | regCreate
  | regRevoke
  | revocationDrained (index : Nat)
  | cmLinkDown
  | qpError (q : Nat)
  | roceCnp (q : Nat)
  | saddrAnnounce (saddr : Nat)
  | magTrain (port : Nat) (err : Nat) (f : List Byte)
  | magTrainReply (port : Nat) (err : Nat) (f : List Byte)
  | magAck (port : Nat) (err : Nat) (f : List Byte)
  | magResendReq (port : Nat) (err : Nat) (f : List Byte)
  | magIdentify (port : Nat) (err : Nat) (f : List Byte)
  | magRead (port : Nat) (err : Nat) (f : List Byte)
  | magWrite (port : Nat) (err : Nat) (f : List Byte)
  | magFlush (port : Nat) (err : Nat) (f : List Byte)
  | magTrim (port : Nat) (err : Nat) (f : List Byte)
  | recordArm (port : Nat) (err : Nat) (f : List Byte)
  | recordStop (port : Nat) (err : Nat) (f : List Byte)
  | magTaskStatus (port : Nat) (err : Nat) (f : List Byte)
  | magData (port : Nat) (err : Nat) (f : List Byte)
  | magTaskReset (port : Nat) (err : Nat) (f : List Byte)
  | magAbort (port : Nat) (err : Nat) (f : List Byte)
  | magAbortReply (port : Nat) (err : Nat) (f : List Byte)
  | magNotice (port : Nat) (err : Nat) (f : List Byte)
  | magTwin (port : Nat) (err : Nat) (f : List Byte)
  | magResendTimer (port : Nat)
  | magLockLoss (port : Nat)
  | magRetrain (port : Nat)
  | magTrainRetry (port : Nat)
  | magLaneFail (port : Nat) (lanes : Nat)
  | twinTick (port : Nat)
  | handbackDrained (port : Nat)
  | ingestStart (port : Nat)
  | ingestStop (port : Nat)
  | ingestClipVerdict (port : Nat)
  | larderClean
  | larderInvalidate
  | larderDisable
  | larderEnable
  | larderWaysWrite (count : Nat)
  | larderWayRetire (way : Nat)
  | larderWayRestore (way : Nat) (pass : Bool)
  | larderFillComplete (line : Nat)
  | larderEccError (bank : Nat) (set : Nat) (way : Nat) (uncorr : Bool)
  | hbmEccError (addr : Nat) (row : Nat) (uncorr : Bool)
  | hbmScrubDue
  | hbmRowRemap (row : Nat)
  | strongRetry (env : BootEnv)
  | strongClearAlt
  | fwBegin
  | fwData (v : Word)
  | fwEndBlock
  | fwVerify
  | fwAbort
  | fwActivate (env : BootEnv)
  | fwCommit
  | fwRollback (env : BootEnv)
  | rollGo
  | rollStepAdvance (env : BootEnv)
  | quoteGo
  | keyImportOmk
  | keyEnrollProgkey
  | keyVaultCreate (vault : Nat)
  | keyVaultExport (vault : Nat)
  | keyVaultImport (vault : Nat)
  | keyVaultDelete (vault : Nat)
  | keySessionLoad (slot : Nat)
  | keyData (v : Word)
  | authData (v : Word)
  | wallWrite (seconds : Nat)
  | parishSnapshot (p : Path) (area : Nat) (from_ : Nat)
  | parishClearGo
  | crierWindow
  | hushPeriod (source : Nat)
  | countLatchGo
  | countCfgWrite (n : Nat) (v : Word)
  | counterWrap (n : Nat)
  | counterSample (n : Nat) (e : Eng) (insn : Nat)
  | reelFreeze
  | reelThaw
  | replayStop
  | replayEnd (result : Nat) (count : Nat) (at_ : Nat) (recorded : Nat) (replayed : Nat) (offset : Nat)
  | opsecSave
  | gradeFall (vin : Nat)
  | gradeRise (vin : Nat)
  | vinLoss (vin : Nat)
  | vinReturn (vin : Nat)
  | powerCapExceeded (mw : Nat)
  | powerCapRelax (mw : Nat)
  | bankCharged
  | bankStepTestDue
  | bankMeasure
  | bankDisconnect
  | holdSenseMismatch
  | thermalCapOn (temp : Nat)
  | thermalCapOff (temp : Nat)
  | overTemp (temp : Nat)
  | caseTooCold (temp : Nat)
  | overtempCooled (temp : Nat)
  | pllFault (pll : Nat)
  | pllRelockFail
  | rtcxLoss
  | refclkLoss (ref : Nat)
  | wardenTestGo (kind : Nat) (unit : Nat) (force : Bool)
  | periodicTestDue (kind : Nat) (unit : Nat)
  | testWithdrawal
  | unitTestDone (beside : Bool) (pass : Bool) (c : Nat) (esr : Nat) (v : Nat)
  | chargeWindow (refine : Bool) (dt : Nat)
  | converterStop
  | hbmStackHot (temp0 : Nat) (temp1 : Nat)
  | fabricLinkDown (link : Nat)
  | fabricLinkTrained (link : Nat)
  | carrierReservedType (h : CarHdr) (type : Nat) (body : List Byte)
  | cfReservedStub (b : List Byte)
  | magReservedFolio (port : Nat) (err : Nat) (f : List Byte)
  | magUnknownOpcode (port : Nat) (err : Nat) (f : List Byte)
  | falseMark (port : Nat)
  | malformedSegment (port : Nat)
  | larderMaintDone
  | larderDisableDone
  | vinAboveRange (vin : Nat)
  | alarmLedExpiry
  | fenceInRelease
  | laneMarkersFound (port : Nat)
  | keepAliveTimeout (ctrl : Nat)
  | localAckTimeout (q : Nat)
  deriving DecidableEq, Repr

end Sys2Proof
end

