-- ==== Sys2Proof/Decode.lean ====
section
/-! DEFINITION. The decoder of the table's words, and the words of the Ixaro instructions (R91 to R119). No row of
spec/opcode_table.json gives bits: the commands are register accesses, messages, pins and instructions whose operands their sender
names. The words of the instructions stand in the recipe store; decodeIxa and encodeIxa say how they spell them (assumption log 11). -/
namespace Sys2Proof

/-- The command that a word of the table spells: none, for no row gives a bit. -/
def decodeTableWord (_nbits _w : Nat) : Option Instr := none

/-! ### Formats (R92) -/

/-- n bits of a word from bit lo on. -/
def fieldOf (w lo n : Nat) : Nat := w / 2 ^ lo % 2 ^ n

/-- n bits of a number replaced by a value. -/
def putField (x lo n v : Nat) : Nat := x - x / 2 ^ lo % 2 ^ n * 2 ^ lo + v * 2 ^ lo

/-- A truth value as a bit. -/
def bitOf (b : Bool) : Nat := if b then 1 else 0

/-- Format R. -/
def wordR (major rd ra rb sh fn : Nat) : Nat :=
  major * 2 ^ 26 + rd * 2 ^ 21 + ra * 2 ^ 16 + rb * 2 ^ 11 + sh * 2 ^ 6 + fn

/-- Format I. -/
def wordI (major rd ra imm : Nat) : Nat := major * 2 ^ 26 + rd * 2 ^ 21 + ra * 2 ^ 16 + imm

/-- Format C. -/
def wordC (major pd cond ra imm : Nat) : Nat := major * 2 ^ 26 + pd * 2 ^ 23 + cond * 2 ^ 20 + ra * 2 ^ 15 + imm

/-- Format P. -/
def wordP (major pd pa pb fn : Nat) : Nat := major * 2 ^ 26 + pd * 2 ^ 23 + pa * 2 ^ 20 + pb * 2 ^ 17 + fn * 2 ^ 14

/-- Format B. -/
def wordB (major kind p off : Nat) : Nat := major * 2 ^ 26 + kind * 2 ^ 24 + p * 2 ^ 21 + off

/-- Format M. -/
def wordM (major rt ra sz sx off : Nat) : Nat :=
  major * 2 ^ 26 + rt * 2 ^ 21 + ra * 2 ^ 16 + sz * 2 ^ 14 + sx * 2 ^ 13 + off

/-- Format D. -/
def wordD (major rt ra dn sz sx off : Nat) : Nat :=
  major * 2 ^ 26 + rt * 2 ^ 21 + ra * 2 ^ 16 + dn * 2 ^ 12 + sz * 2 ^ 10 + sx * 2 ^ 9 + off

/-- Format A. -/
def wordA (major rd da db ra imm : Nat) : Nat :=
  major * 2 ^ 26 + rd * 2 ^ 21 + da * 2 ^ 17 + db * 2 ^ 13 + ra * 2 ^ 8 + imm

/-- Format W. -/
def wordW (major kind pd ra imm : Nat) : Nat := major * 2 ^ 26 + kind * 2 ^ 24 + pd * 2 ^ 21 + ra * 2 ^ 16 + imm

/-- Format L: word 0 and word 1 of a 42-bit immediate (R93). -/
def longWords (rd fn imm : Nat) : List Nat :=
  [0x3E * 2 ^ 26 + rd * 2 ^ 21 + fn * 2 ^ 16 + imm / 2 ^ 26, 0x3F * 2 ^ 26 + imm % 2 ^ 26]

/-! ### Decoding -/

/-- Major 0x00, by fn (R95). -/
def decodeOp (e : Eng) (w : Nat) : Option Instr :=
  let rb := fieldOf w 11 5
  let sh := fieldOf w 6 5
  match fieldOf w 0 6 with
  | 0x00 => some (.add e (BitVec.ofNat 5 (w / 2 ^ 21)) (BitVec.ofNat 5 (w / 2 ^ 16)) (BitVec.ofNat 5 (w / 2 ^ 11)))
  | 0x01 => some (.sub e (BitVec.ofNat 5 (w / 2 ^ 21)) (BitVec.ofNat 5 (w / 2 ^ 16)) (BitVec.ofNat 5 (w / 2 ^ 11)))
  | 0x02 => some (.and e (BitVec.ofNat 5 (w / 2 ^ 21)) (BitVec.ofNat 5 (w / 2 ^ 16)) (BitVec.ofNat 5 (w / 2 ^ 11)))
  | 0x03 => some (.or e (BitVec.ofNat 5 (w / 2 ^ 21)) (BitVec.ofNat 5 (w / 2 ^ 16)) (BitVec.ofNat 5 (w / 2 ^ 11)))
  | 0x04 => some (.xor e (BitVec.ofNat 5 (w / 2 ^ 21)) (BitVec.ofNat 5 (w / 2 ^ 16)) (BitVec.ofNat 5 (w / 2 ^ 11)))
  | 0x05 => some (.andn e (BitVec.ofNat 5 (w / 2 ^ 21)) (BitVec.ofNat 5 (w / 2 ^ 16)) (BitVec.ofNat 5 (w / 2 ^ 11)))
  | 0x06 => some (.shl e (BitVec.ofNat 5 (w / 2 ^ 21)) (BitVec.ofNat 5 (w / 2 ^ 16)) (BitVec.ofNat 5 (w / 2 ^ 11)))
  | 0x07 => some (.shr e (BitVec.ofNat 5 (w / 2 ^ 21)) (BitVec.ofNat 5 (w / 2 ^ 16)) (BitVec.ofNat 5 (w / 2 ^ 11)))
  | 0x08 => some (.sar e (BitVec.ofNat 5 (w / 2 ^ 21)) (BitVec.ofNat 5 (w / 2 ^ 16)) (BitVec.ofNat 5 (w / 2 ^ 11)))
  | 0x09 => if rb < 2 then some (.shli e (BitVec.ofNat 5 (w / 2 ^ 21)) (BitVec.ofNat 5 (w / 2 ^ 16)) (BitVec.ofNat 6 (rb * 32 + sh))) else none
  | 0x0A => if rb < 2 then some (.shri e (BitVec.ofNat 5 (w / 2 ^ 21)) (BitVec.ofNat 5 (w / 2 ^ 16)) (BitVec.ofNat 6 (rb * 32 + sh))) else none
  | 0x0B => if rb < 2 then some (.sari e (BitVec.ofNat 5 (w / 2 ^ 21)) (BitVec.ofNat 5 (w / 2 ^ 16)) (BitVec.ofNat 6 (rb * 32 + sh))) else none
  | 0x0C => some (.rotr e (BitVec.ofNat 5 (w / 2 ^ 21)) (BitVec.ofNat 5 (w / 2 ^ 16)) (BitVec.ofNat 5 (w / 2 ^ 11)))
  | 0x0D => some (.mul e (BitVec.ofNat 5 (w / 2 ^ 21)) (BitVec.ofNat 5 (w / 2 ^ 16)) (BitVec.ofNat 5 (w / 2 ^ 11)))
  | 0x0E => some (.mulhu e (BitVec.ofNat 5 (w / 2 ^ 21)) (BitVec.ofNat 5 (w / 2 ^ 16)) (BitVec.ofNat 5 (w / 2 ^ 11)))
  | 0x0F => some (.mulhs e (BitVec.ofNat 5 (w / 2 ^ 21)) (BitVec.ofNat 5 (w / 2 ^ 16)) (BitVec.ofNat 5 (w / 2 ^ 11)))
  | 0x10 => some (.divu e (BitVec.ofNat 5 (w / 2 ^ 21)) (BitVec.ofNat 5 (w / 2 ^ 16)) (BitVec.ofNat 5 (w / 2 ^ 11)))
  | 0x11 => some (.remu e (BitVec.ofNat 5 (w / 2 ^ 21)) (BitVec.ofNat 5 (w / 2 ^ 16)) (BitVec.ofNat 5 (w / 2 ^ 11)))
  | 0x12 => some (.divs e (BitVec.ofNat 5 (w / 2 ^ 21)) (BitVec.ofNat 5 (w / 2 ^ 16)) (BitVec.ofNat 5 (w / 2 ^ 11)))
  | 0x13 => some (.rems e (BitVec.ofNat 5 (w / 2 ^ 21)) (BitVec.ofNat 5 (w / 2 ^ 16)) (BitVec.ofNat 5 (w / 2 ^ 11)))
  | 0x14 => some (.minu e (BitVec.ofNat 5 (w / 2 ^ 21)) (BitVec.ofNat 5 (w / 2 ^ 16)) (BitVec.ofNat 5 (w / 2 ^ 11)))
  | 0x15 => some (.maxu e (BitVec.ofNat 5 (w / 2 ^ 21)) (BitVec.ofNat 5 (w / 2 ^ 16)) (BitVec.ofNat 5 (w / 2 ^ 11)))
  | 0x16 => some (.mins e (BitVec.ofNat 5 (w / 2 ^ 21)) (BitVec.ofNat 5 (w / 2 ^ 16)) (BitVec.ofNat 5 (w / 2 ^ 11)))
  | 0x17 => some (.maxs e (BitVec.ofNat 5 (w / 2 ^ 21)) (BitVec.ofNat 5 (w / 2 ^ 16)) (BitVec.ofNat 5 (w / 2 ^ 11)))
  | 0x18 => if rb = 0 then some (.clz e (BitVec.ofNat 5 (w / 2 ^ 21)) (BitVec.ofNat 5 (w / 2 ^ 16))) else none
  | 0x19 => if rb = 0 then some (.ctz e (BitVec.ofNat 5 (w / 2 ^ 21)) (BitVec.ofNat 5 (w / 2 ^ 16))) else none
  | 0x1A => if rb = 0 then some (.popc e (BitVec.ofNat 5 (w / 2 ^ 21)) (BitVec.ofNat 5 (w / 2 ^ 16))) else none
  | 0x1B => if rb = 0 then some (.bswap e (BitVec.ofNat 5 (w / 2 ^ 21)) (BitVec.ofNat 5 (w / 2 ^ 16))) else none
  | 0x1C => if sh < 8 then some (.sel e (BitVec.ofNat 5 (w / 2 ^ 21)) (BitVec.ofNat 5 (w / 2 ^ 16)) (BitVec.ofNat 5 (w / 2 ^ 11)) (BitVec.ofNat 3 (w / 2 ^ 6))) else none
  | 0x1D => some (.ext e (BitVec.ofNat 5 (w / 2 ^ 21)) (BitVec.ofNat 5 (w / 2 ^ 16)) (BitVec.ofNat 5 (w / 2 ^ 11)) (BitVec.ofNat 5 (w / 2 ^ 6)))
  | 0x1E => if fieldOf w 16 5 = 0 ∧ rb = 0 then some (.mfs e (BitVec.ofNat 5 (w / 2 ^ 21)) (BitVec.ofNat 5 (w / 2 ^ 6))) else none
  | 0x1F => if fieldOf w 16 5 = 0 ∧ rb = 0 then some (.ptog e (BitVec.ofNat 5 (w / 2 ^ 21))) else none
  | 0x20 => if fieldOf w 21 5 = 0 ∧ rb = 0 then some (.gtop e (BitVec.ofNat 5 (w / 2 ^ 16))) else none
  | _ => none

/-- Major 0x08, by fn (R97). -/
def decodePred (e : Eng) (w : Nat) : Option Instr :=
  let pa := fieldOf w 20 3
  let pb := fieldOf w 17 3
  if fieldOf w 0 14 ≠ 0 then none
  else match fieldOf w 14 3 with
  | 0 => some (.predAnd e (BitVec.ofNat 3 (w / 2 ^ 23)) (BitVec.ofNat 3 (w / 2 ^ 20)) (BitVec.ofNat 3 (w / 2 ^ 17)))
  | 1 => some (.predOr e (BitVec.ofNat 3 (w / 2 ^ 23)) (BitVec.ofNat 3 (w / 2 ^ 20)) (BitVec.ofNat 3 (w / 2 ^ 17)))
  | 2 => some (.predXor e (BitVec.ofNat 3 (w / 2 ^ 23)) (BitVec.ofNat 3 (w / 2 ^ 20)) (BitVec.ofNat 3 (w / 2 ^ 17)))
  | 3 => some (.predAndn e (BitVec.ofNat 3 (w / 2 ^ 23)) (BitVec.ofNat 3 (w / 2 ^ 20)) (BitVec.ofNat 3 (w / 2 ^ 17)))
  | 4 => if pb = 0 then some (.predNot e (BitVec.ofNat 3 (w / 2 ^ 23)) (BitVec.ofNat 3 (w / 2 ^ 20))) else none
  | 5 => if pb = 0 then some (.predMov e (BitVec.ofNat 3 (w / 2 ^ 23)) (BitVec.ofNat 3 (w / 2 ^ 20))) else none
  | 6 => if pa = 0 ∧ pb = 0 then some (.predSet e (BitVec.ofNat 3 (w / 2 ^ 23))) else none
  | _ => if pa = 0 ∧ pb = 0 then some (.predClr e (BitVec.ofNat 3 (w / 2 ^ 23))) else none

/-- Major 0x10, by kind (R98). -/
def decodeBr (e : Eng) (w : Nat) : Option Instr :=
  if fieldOf w 16 5 ≠ 0 then none
  else match fieldOf w 24 2 with
  | 0 => if fieldOf w 21 3 = 0 then some (.b e (BitVec.ofNat 16 (w / 2 ^ 0))) else none
  | 1 => some (.bt e (BitVec.ofNat 3 (w / 2 ^ 21)) (BitVec.ofNat 16 (w / 2 ^ 0)))
  | 2 => some (.bf e (BitVec.ofNat 3 (w / 2 ^ 21)) (BitVec.ofNat 16 (w / 2 ^ 0)))
  | _ => if fieldOf w 21 3 = 0 then some (.call e (BitVec.ofNat 16 (w / 2 ^ 0))) else none

/-- Majors 0x14 to 0x19: loads and stores (R99). A store with sx set, or an 8-byte load with it, is reserved. -/
def decodeMem (e : Eng) (w : Nat) : Option Instr :=
  let sx := fieldOf w 13 1
  let sxd := fieldOf w 9 1
  match fieldOf w 26 6 with
  | 0x14 => if sx = 1 ∧ fieldOf w 14 2 = 3 then none else some (.ldp e (BitVec.ofNat 5 (w / 2 ^ 21)) (BitVec.ofNat 5 (w / 2 ^ 16)) (BitVec.ofNat 2 (w / 2 ^ 14)) (decide (sx = 1)) (BitVec.ofNat 13 (w / 2 ^ 0)))
  | 0x15 => if sx = 1 then none else some (.stp e (BitVec.ofNat 5 (w / 2 ^ 21)) (BitVec.ofNat 5 (w / 2 ^ 16)) (BitVec.ofNat 2 (w / 2 ^ 14)) (BitVec.ofNat 13 (w / 2 ^ 0)))
  | 0x16 => if sx = 1 ∧ fieldOf w 14 2 = 3 then none else some (.ldg e (BitVec.ofNat 5 (w / 2 ^ 21)) (BitVec.ofNat 5 (w / 2 ^ 16)) (BitVec.ofNat 2 (w / 2 ^ 14)) (decide (sx = 1)) (BitVec.ofNat 13 (w / 2 ^ 0)))
  | 0x17 => if sx = 1 then none else some (.stg e (BitVec.ofNat 5 (w / 2 ^ 21)) (BitVec.ofNat 5 (w / 2 ^ 16)) (BitVec.ofNat 2 (w / 2 ^ 14)) (BitVec.ofNat 13 (w / 2 ^ 0)))
  | 0x18 => if sxd = 1 ∧ fieldOf w 10 2 = 3 then none else some (.ldd e (BitVec.ofNat 5 (w / 2 ^ 21)) (BitVec.ofNat 5 (w / 2 ^ 16)) (BitVec.ofNat 4 (w / 2 ^ 12)) (BitVec.ofNat 2 (w / 2 ^ 10)) (decide (sxd = 1)) (BitVec.ofNat 9 (w / 2 ^ 0)))
  | 0x19 => if sxd = 1 then none else some (.std e (BitVec.ofNat 5 (w / 2 ^ 21)) (BitVec.ofNat 5 (w / 2 ^ 16)) (BitVec.ofNat 4 (w / 2 ^ 12)) (BitVec.ofNat 2 (w / 2 ^ 10)) (BitVec.ofNat 9 (w / 2 ^ 0)))
  | _ => none

/-- Major 0x1C, by fn (R101): operands that a function does not list are zero. -/
def decodeDesc (e : Eng) (w : Nat) : Option Instr :=
  let rd := fieldOf w 21 5
  let ra := fieldOf w 16 5
  let rb := fieldOf w 11 5
  let sh := fieldOf w 6 5
  match fieldOf w 0 6 with
  | 0 => if rd < 16 ∧ sh < 8 then some (.dmk e (BitVec.ofNat 4 (w / 2 ^ 21)) (BitVec.ofNat 5 (w / 2 ^ 16)) (BitVec.ofNat 5 (w / 2 ^ 11)) (BitVec.ofNat 3 (w / 2 ^ 6))) else none
  | 1 => if rd < 16 ∧ ra < 16 ∧ rb = 0 ∧ sh = 0 then some (.dmov e (BitVec.ofNat 4 (w / 2 ^ 21)) (BitVec.ofNat 4 (w / 2 ^ 16))) else none
  | 2 => if rd < 16 ∧ ra = 0 ∧ sh = 0 then some (.dadv e (BitVec.ofNat 4 (w / 2 ^ 21)) (BitVec.ofNat 5 (w / 2 ^ 11))) else none
  | 3 => if rd < 16 ∧ ra = 0 ∧ sh = 0 then some (.dtrim e (BitVec.ofNat 4 (w / 2 ^ 21)) (BitVec.ofNat 5 (w / 2 ^ 11))) else none
  | 4 => if rd < 16 ∧ ra = 0 ∧ rb = 0 ∧ sh < 4 then some (.ddrop e (BitVec.ofNat 4 (w / 2 ^ 21)) (BitVec.ofNat 2 (w / 2 ^ 6))) else none
  | 5 => if ra < 16 ∧ rb = 0 ∧ sh < 3 then some (.dget e (BitVec.ofNat 5 (w / 2 ^ 21)) (BitVec.ofNat 4 (w / 2 ^ 16)) (BitVec.ofNat 5 (w / 2 ^ 6))) else none
  | 6 => if rd < 16 ∧ ra = 0 ∧ rb = 0 ∧ sh = 0 then some (.dclr e (BitVec.ofNat 4 (w / 2 ^ 21))) else none
  | _ => none

/-- Major 0x20, by kind (R102). -/
def decodeWait (e : Eng) (w : Nat) : Option Instr :=
  match fieldOf w 24 2 with
  | 0 => some (.waitAll e (BitVec.ofNat 3 (w / 2 ^ 21)) (BitVec.ofNat 5 (w / 2 ^ 16)) (BitVec.ofNat 16 (w / 2 ^ 0)))
  | 1 => some (.waitAny e (BitVec.ofNat 3 (w / 2 ^ 21)) (BitVec.ofNat 5 (w / 2 ^ 16)) (BitVec.ofNat 16 (w / 2 ^ 0)))
  | 2 => some (.waitDoorbell e (BitVec.ofNat 3 (w / 2 ^ 21)) (BitVec.ofNat 5 (w / 2 ^ 16)) (BitVec.ofNat 16 (w / 2 ^ 0)))
  | _ => if fieldOf w 16 8 = 0 then some (.waitSleep e (BitVec.ofNat 16 (w / 2 ^ 0))) else none

/-- Majors 0x28 to 0x36: accelerator operations, by imm8 where a major has functions (R108 to R119). -/
def decodeAccel (e : Eng) (w : Nat) : Option Instr :=
  match fieldOf w 26 6 with
  | 0x28 => some (.pressC e (BitVec.ofNat 5 (w / 2 ^ 21)) (BitVec.ofNat 4 (w / 2 ^ 17)) (BitVec.ofNat 4 (w / 2 ^ 13)) (BitVec.ofNat 5 (w / 2 ^ 8)) (BitVec.ofNat 8 (w / 2 ^ 0)))
  | 0x29 => some (.pressD e (BitVec.ofNat 5 (w / 2 ^ 21)) (BitVec.ofNat 4 (w / 2 ^ 17)) (BitVec.ofNat 4 (w / 2 ^ 13)) (BitVec.ofNat 5 (w / 2 ^ 8)) (BitVec.ofNat 8 (w / 2 ^ 0)))
  | 0x2A => some (.seal e (BitVec.ofNat 5 (w / 2 ^ 21)) (BitVec.ofNat 4 (w / 2 ^ 17)) (BitVec.ofNat 4 (w / 2 ^ 13)) (BitVec.ofNat 5 (w / 2 ^ 8)) (BitVec.ofNat 8 (w / 2 ^ 0)))
  | 0x2B => some (.unseal e (BitVec.ofNat 5 (w / 2 ^ 21)) (BitVec.ofNat 4 (w / 2 ^ 17)) (BitVec.ofNat 4 (w / 2 ^ 13)) (BitVec.ofNat 5 (w / 2 ^ 8)) (BitVec.ofNat 8 (w / 2 ^ 0)))
  | 0x2C => match fieldOf w 2 2 with
    | 0 => some (.assayOne e (BitVec.ofNat 5 (w / 2 ^ 21)) (BitVec.ofNat 4 (w / 2 ^ 17)) (BitVec.ofNat 4 (w / 2 ^ 13)) (BitVec.ofNat 5 (w / 2 ^ 8)) (BitVec.ofNat 8 (w / 2 ^ 0)))
    | 1 => some (.assayStart e (BitVec.ofNat 5 (w / 2 ^ 21)) (BitVec.ofNat 4 (w / 2 ^ 17)) (BitVec.ofNat 4 (w / 2 ^ 13)) (BitVec.ofNat 5 (w / 2 ^ 8)) (BitVec.ofNat 8 (w / 2 ^ 0)))
    | 2 => some (.assayMore e (BitVec.ofNat 5 (w / 2 ^ 21)) (BitVec.ofNat 4 (w / 2 ^ 17)) (BitVec.ofNat 4 (w / 2 ^ 13)) (BitVec.ofNat 5 (w / 2 ^ 8)) (BitVec.ofNat 8 (w / 2 ^ 0)))
    | _ => some (.assayFinish e (BitVec.ofNat 5 (w / 2 ^ 21)) (BitVec.ofNat 4 (w / 2 ^ 17)) (BitVec.ofNat 4 (w / 2 ^ 13)) (BitVec.ofNat 5 (w / 2 ^ 8)) (BitVec.ofNat 8 (w / 2 ^ 0)))
  | 0x2D => match fieldOf w 0 3 with
    | 0 => some (.tallyCheckPi e (BitVec.ofNat 5 (w / 2 ^ 21)) (BitVec.ofNat 4 (w / 2 ^ 17)) (BitVec.ofNat 4 (w / 2 ^ 13)) (BitVec.ofNat 5 (w / 2 ^ 8)) (BitVec.ofNat 8 (w / 2 ^ 0)))
    | 1 => some (.tallyGenPi e (BitVec.ofNat 5 (w / 2 ^ 21)) (BitVec.ofNat 4 (w / 2 ^ 17)) (BitVec.ofNat 4 (w / 2 ^ 13)) (BitVec.ofNat 5 (w / 2 ^ 8)) (BitVec.ofNat 8 (w / 2 ^ 0)))
    | 2 => some (.tallyCrc64 e (BitVec.ofNat 5 (w / 2 ^ 21)) (BitVec.ofNat 4 (w / 2 ^ 17)) (BitVec.ofNat 4 (w / 2 ^ 13)) (BitVec.ofNat 5 (w / 2 ^ 8)) (BitVec.ofNat 8 (w / 2 ^ 0)))
    | 3 => some (.tallyCrc32c e (BitVec.ofNat 5 (w / 2 ^ 21)) (BitVec.ofNat 4 (w / 2 ^ 17)) (BitVec.ofNat 4 (w / 2 ^ 13)) (BitVec.ofNat 5 (w / 2 ^ 8)) (BitVec.ofNat 8 (w / 2 ^ 0)))
    | 4 => some (.tallyCrc16 e (BitVec.ofNat 5 (w / 2 ^ 21)) (BitVec.ofNat 4 (w / 2 ^ 17)) (BitVec.ofNat 4 (w / 2 ^ 13)) (BitVec.ofNat 5 (w / 2 ^ 8)) (BitVec.ofNat 8 (w / 2 ^ 0)))
    | _ => none
  | 0x2E => match fieldOf w 0 2 with
    | 0 => some (.sieveLookup e (BitVec.ofNat 5 (w / 2 ^ 21)) (BitVec.ofNat 4 (w / 2 ^ 17)) (BitVec.ofNat 4 (w / 2 ^ 13)) (BitVec.ofNat 5 (w / 2 ^ 8)) (BitVec.ofNat 8 (w / 2 ^ 0)))
    | 1 => some (.sieveInsert e (BitVec.ofNat 5 (w / 2 ^ 21)) (BitVec.ofNat 4 (w / 2 ^ 17)) (BitVec.ofNat 4 (w / 2 ^ 13)) (BitVec.ofNat 5 (w / 2 ^ 8)) (BitVec.ofNat 8 (w / 2 ^ 0)))
    | 2 => some (.sieveUnref e (BitVec.ofNat 5 (w / 2 ^ 21)) (BitVec.ofNat 4 (w / 2 ^ 17)) (BitVec.ofNat 4 (w / 2 ^ 13)) (BitVec.ofNat 5 (w / 2 ^ 8)) (BitVec.ofNat 8 (w / 2 ^ 0)))
    | _ => none
  | 0x2F => some (.mapL e (BitVec.ofNat 5 (w / 2 ^ 21)) (BitVec.ofNat 4 (w / 2 ^ 17)) (BitVec.ofNat 4 (w / 2 ^ 13)) (BitVec.ofNat 5 (w / 2 ^ 8)) (BitVec.ofNat 8 (w / 2 ^ 0)))
  | 0x30 => some (.mapU e (BitVec.ofNat 5 (w / 2 ^ 21)) (BitVec.ofNat 4 (w / 2 ^ 17)) (BitVec.ofNat 4 (w / 2 ^ 13)) (BitVec.ofNat 5 (w / 2 ^ 8)) (BitVec.ofNat 8 (w / 2 ^ 0)))
  | 0x31 => some (.tillP e (BitVec.ofNat 5 (w / 2 ^ 21)) (BitVec.ofNat 4 (w / 2 ^ 17)) (BitVec.ofNat 4 (w / 2 ^ 13)) (BitVec.ofNat 5 (w / 2 ^ 8)) (BitVec.ofNat 8 (w / 2 ^ 0)))
  | 0x32 => match fieldOf w 0 3 with
    | 0 => some (.sledReadEntry e (BitVec.ofNat 5 (w / 2 ^ 21)) (BitVec.ofNat 4 (w / 2 ^ 17)) (BitVec.ofNat 4 (w / 2 ^ 13)) (BitVec.ofNat 5 (w / 2 ^ 8)) (BitVec.ofNat 8 (w / 2 ^ 0)))
    | 1 => some (.sledRead e (BitVec.ofNat 5 (w / 2 ^ 21)) (BitVec.ofNat 4 (w / 2 ^ 17)) (BitVec.ofNat 4 (w / 2 ^ 13)) (BitVec.ofNat 5 (w / 2 ^ 8)) (BitVec.ofNat 8 (w / 2 ^ 0)))
    | 2 => some (.sledProgram e (BitVec.ofNat 5 (w / 2 ^ 21)) (BitVec.ofNat 4 (w / 2 ^ 17)) (BitVec.ofNat 4 (w / 2 ^ 13)) (BitVec.ofNat 5 (w / 2 ^ 8)) (BitVec.ofNat 8 (w / 2 ^ 0)))
    | 3 => some (.sledErase e (BitVec.ofNat 5 (w / 2 ^ 21)) (BitVec.ofNat 4 (w / 2 ^ 17)) (BitVec.ofNat 4 (w / 2 ^ 13)) (BitVec.ofNat 5 (w / 2 ^ 8)) (BitVec.ofNat 8 (w / 2 ^ 0)))
    | 4 => some (.sledFold e (BitVec.ofNat 5 (w / 2 ^ 21)) (BitVec.ofNat 4 (w / 2 ^ 17)) (BitVec.ofNat 4 (w / 2 ^ 13)) (BitVec.ofNat 5 (w / 2 ^ 8)) (BitVec.ofNat 8 (w / 2 ^ 0)))
    | 5 => some (.sledTagscan e (BitVec.ofNat 5 (w / 2 ^ 21)) (BitVec.ofNat 4 (w / 2 ^ 17)) (BitVec.ofNat 4 (w / 2 ^ 13)) (BitVec.ofNat 5 (w / 2 ^ 8)) (BitVec.ofNat 8 (w / 2 ^ 0)))
    | 6 => some (.sledLevels e (BitVec.ofNat 5 (w / 2 ^ 21)) (BitVec.ofNat 4 (w / 2 ^ 17)) (BitVec.ofNat 4 (w / 2 ^ 13)) (BitVec.ofNat 5 (w / 2 ^ 8)) (BitVec.ofNat 8 (w / 2 ^ 0)))
    | _ => some (.sledOwn e (BitVec.ofNat 5 (w / 2 ^ 21)) (BitVec.ofNat 4 (w / 2 ^ 17)) (BitVec.ofNat 4 (w / 2 ^ 13)) (BitVec.ofNat 5 (w / 2 ^ 8)) (BitVec.ofNat 8 (w / 2 ^ 0)))
  | 0x33 => some (.carry e (BitVec.ofNat 5 (w / 2 ^ 21)) (BitVec.ofNat 4 (w / 2 ^ 17)) (BitVec.ofNat 4 (w / 2 ^ 13)) (BitVec.ofNat 5 (w / 2 ^ 8)) (BitVec.ofNat 8 (w / 2 ^ 0)))
  | 0x34 => some (.emit e (BitVec.ofNat 5 (w / 2 ^ 21)) (BitVec.ofNat 4 (w / 2 ^ 17)) (BitVec.ofNat 4 (w / 2 ^ 13)) (BitVec.ofNat 5 (w / 2 ^ 8)) (BitVec.ofNat 8 (w / 2 ^ 0)))
  | 0x35 => some (.reeveE e (BitVec.ofNat 5 (w / 2 ^ 21)) (BitVec.ofNat 4 (w / 2 ^ 17)) (BitVec.ofNat 4 (w / 2 ^ 13)) (BitVec.ofNat 5 (w / 2 ^ 8)) (BitVec.ofNat 8 (w / 2 ^ 0)))
  | 0x36 => match fieldOf w 0 8 with
    | 0x01 => some (.sqStart e (BitVec.ofNat 5 (w / 2 ^ 21)) (BitVec.ofNat 5 (w / 2 ^ 8)))
    | 0x02 => some (.sqStop e (BitVec.ofNat 5 (w / 2 ^ 21)) (BitVec.ofNat 5 (w / 2 ^ 8)))
    | 0x03 => some (.sqWidth e (BitVec.ofNat 5 (w / 2 ^ 21)) (BitVec.ofNat 5 (w / 2 ^ 8)))
    | 0x10 => some (.tollCap e (BitVec.ofNat 5 (w / 2 ^ 21)) (BitVec.ofNat 4 (w / 2 ^ 17)))
    | 0x11 => some (.handRetire e (BitVec.ofNat 5 (w / 2 ^ 21)) (BitVec.ofNat 5 (w / 2 ^ 8)))
    | 0x12 => some (.pressTarget e (BitVec.ofNat 5 (w / 2 ^ 21)) (BitVec.ofNat 5 (w / 2 ^ 8)))
    | 0x13 => some (.spareCall e (BitVec.ofNat 5 (w / 2 ^ 21)) (BitVec.ofNat 5 (w / 2 ^ 8)))
    | 0x14 => some (.reelPut e (BitVec.ofNat 5 (w / 2 ^ 21)) (BitVec.ofNat 4 (w / 2 ^ 17)))
    | 0x20 => some (.keyLoad e (BitVec.ofNat 5 (w / 2 ^ 21)) (BitVec.ofNat 4 (w / 2 ^ 17)) (BitVec.ofNat 5 (w / 2 ^ 8)))
    | 0x21 => some (.keyZero e (BitVec.ofNat 5 (w / 2 ^ 21)) (BitVec.ofNat 5 (w / 2 ^ 8)))
    | 0x22 => some (.millLock e (BitVec.ofNat 5 (w / 2 ^ 21)) (BitVec.ofNat 5 (w / 2 ^ 8)))
    | 0x23 => some (.millFree e (BitVec.ofNat 5 (w / 2 ^ 21)) (BitVec.ofNat 5 (w / 2 ^ 8)))
    | _ => none
  | _ => none

/-- One word of a short form by its major opcode (R94); none where it is reserved or a field that must be zero is not (R91). -/
def decodeShort (e : Eng) (w : Nat) : Option Instr :=
  match fieldOf w 26 6 with
  | 0x00 => decodeOp e w
  | 0x01 => some (.addi e (BitVec.ofNat 5 (w / 2 ^ 21)) (BitVec.ofNat 5 (w / 2 ^ 16)) (BitVec.ofNat 16 (w / 2 ^ 0)))
  | 0x02 => some (.andi e (BitVec.ofNat 5 (w / 2 ^ 21)) (BitVec.ofNat 5 (w / 2 ^ 16)) (BitVec.ofNat 16 (w / 2 ^ 0)))
  | 0x03 => some (.ori e (BitVec.ofNat 5 (w / 2 ^ 21)) (BitVec.ofNat 5 (w / 2 ^ 16)) (BitVec.ofNat 16 (w / 2 ^ 0)))
  | 0x04 => some (.xori e (BitVec.ofNat 5 (w / 2 ^ 21)) (BitVec.ofNat 5 (w / 2 ^ 16)) (BitVec.ofNat 16 (w / 2 ^ 0)))
  | 0x06 => if fieldOf w 24 2 = 0 ∧ fieldOf w 3 3 = 0 then some (.cmp e (BitVec.ofNat 3 (w / 2 ^ 21)) (BitVec.ofNat 3 (w / 2 ^ 0)) (BitVec.ofNat 5 (w / 2 ^ 16)) (BitVec.ofNat 5 (w / 2 ^ 11))) else none
  | 0x07 => some (.cmpi e (BitVec.ofNat 3 (w / 2 ^ 23)) (BitVec.ofNat 3 (w / 2 ^ 20)) (BitVec.ofNat 5 (w / 2 ^ 15)) (BitVec.ofNat 15 (w / 2 ^ 0)))
  | 0x08 => decodePred e w
  | 0x10 => decodeBr e w
  | 0x11 => some (.jr e (BitVec.ofNat 5 (w / 2 ^ 21)) (BitVec.ofNat 5 (w / 2 ^ 16)))
  | 0x1A => match fieldOf w 0 6 with
    | 0 => some (.atomSwap e (BitVec.ofNat 5 (w / 2 ^ 21)) (BitVec.ofNat 5 (w / 2 ^ 16)) (BitVec.ofNat 5 (w / 2 ^ 11)))
    | 1 => some (.atomAdd e (BitVec.ofNat 5 (w / 2 ^ 21)) (BitVec.ofNat 5 (w / 2 ^ 16)) (BitVec.ofNat 5 (w / 2 ^ 11)))
    | 2 => some (.atomCas e (BitVec.ofNat 5 (w / 2 ^ 21)) (BitVec.ofNat 5 (w / 2 ^ 16)) (BitVec.ofNat 5 (w / 2 ^ 11)))
    | _ => none
  | 0x1B => if fieldOf w 0 6 = 0 then some (.fenceG e) else none
  | 0x1C => decodeDesc e w
  | 0x20 => decodeWait e w
  | 0x21 => if fieldOf w 21 5 = 0 ∧ fieldOf w 0 16 = 0 then some (.endCtx e (BitVec.ofNat 5 (w / 2 ^ 16))) else none
  | 0x22 => if fieldOf w 16 10 = 0 then some (.trap e (BitVec.ofNat 16 (w / 2 ^ 0))) else none
  | m => if m < 0x20 then decodeMem e w else decodeAccel e w

/-- A long form: word 0 and the word after it (R93). -/
def decodeLong (e : Eng) (w v : Nat) : Option Instr :=
  let imm := fieldOf w 0 16 * 2 ^ 26 + fieldOf v 0 26
  if fieldOf v 26 6 ≠ 0x3F then none
  else match fieldOf w 16 5 with
  | 0 => some (.liL e (BitVec.ofNat 5 (w / 2 ^ 21)) (BitVec.ofNat 42 imm))
  | 1 => if imm < 2 ^ 22 then some (.liuL e (BitVec.ofNat 5 (w / 2 ^ 21)) (BitVec.ofNat 22 imm)) else none
  | 2 => some (.addiL e (BitVec.ofNat 5 (w / 2 ^ 21)) (BitVec.ofNat 42 imm))
  | 3 => some (.andiL e (BitVec.ofNat 5 (w / 2 ^ 21)) (BitVec.ofNat 42 imm))
  | 4 => some (.oriL e (BitVec.ofNat 5 (w / 2 ^ 21)) (BitVec.ofNat 42 imm))
  | _ => none

/-- The instruction a context of an engine finds at its pc, from the words that stand there: the first and, for a long form, the
next. A reserved encoding is the one that takes ILLEGAL_OP (R91, R93). -/
def decodeIxa (e : Eng) (ws : List Nat) : Instr :=
  match ws with
  | [] => .illegalEncoding e
  | w :: r =>
    if fieldOf w 26 6 = 0x3E then
      match r with
      | v :: _ => (decodeLong e w v).getD (.illegalEncoding e)
      | [] => .illegalEncoding e
    else (decodeShort e w).getD (.illegalEncoding e)

/-! ### Encoding -/

/-- The words of an Ixaro instruction; none for a command that is not one. Fields that its format does not use are zero, and imm8
names the function of its row. -/
def encodeIxa (i : Instr) : Option (List Nat) :=
  match i with
  | .add _ rd ra rb => some [wordR 0x00 rd.toNat ra.toNat rb.toNat 0 0x00]
  | .sub _ rd ra rb => some [wordR 0x00 rd.toNat ra.toNat rb.toNat 0 0x01]
  | .and _ rd ra rb => some [wordR 0x00 rd.toNat ra.toNat rb.toNat 0 0x02]
  | .or _ rd ra rb => some [wordR 0x00 rd.toNat ra.toNat rb.toNat 0 0x03]
  | .xor _ rd ra rb => some [wordR 0x00 rd.toNat ra.toNat rb.toNat 0 0x04]
  | .andn _ rd ra rb => some [wordR 0x00 rd.toNat ra.toNat rb.toNat 0 0x05]
  | .shl _ rd ra rb => some [wordR 0x00 rd.toNat ra.toNat rb.toNat 0 0x06]
  | .shr _ rd ra rb => some [wordR 0x00 rd.toNat ra.toNat rb.toNat 0 0x07]
  | .sar _ rd ra rb => some [wordR 0x00 rd.toNat ra.toNat rb.toNat 0 0x08]
  | .rotr _ rd ra rb => some [wordR 0x00 rd.toNat ra.toNat rb.toNat 0 0x0C]
  | .mul _ rd ra rb => some [wordR 0x00 rd.toNat ra.toNat rb.toNat 0 0x0D]
  | .mulhu _ rd ra rb => some [wordR 0x00 rd.toNat ra.toNat rb.toNat 0 0x0E]
  | .mulhs _ rd ra rb => some [wordR 0x00 rd.toNat ra.toNat rb.toNat 0 0x0F]
  | .divu _ rd ra rb => some [wordR 0x00 rd.toNat ra.toNat rb.toNat 0 0x10]
  | .remu _ rd ra rb => some [wordR 0x00 rd.toNat ra.toNat rb.toNat 0 0x11]
  | .divs _ rd ra rb => some [wordR 0x00 rd.toNat ra.toNat rb.toNat 0 0x12]
  | .rems _ rd ra rb => some [wordR 0x00 rd.toNat ra.toNat rb.toNat 0 0x13]
  | .minu _ rd ra rb => some [wordR 0x00 rd.toNat ra.toNat rb.toNat 0 0x14]
  | .maxu _ rd ra rb => some [wordR 0x00 rd.toNat ra.toNat rb.toNat 0 0x15]
  | .mins _ rd ra rb => some [wordR 0x00 rd.toNat ra.toNat rb.toNat 0 0x16]
  | .maxs _ rd ra rb => some [wordR 0x00 rd.toNat ra.toNat rb.toNat 0 0x17]
  | .shli _ rd ra amt => some [wordR 0x00 rd.toNat ra.toNat (amt.toNat / 32) (amt.toNat % 32) 0x09]
  | .shri _ rd ra amt => some [wordR 0x00 rd.toNat ra.toNat (amt.toNat / 32) (amt.toNat % 32) 0x0A]
  | .sari _ rd ra amt => some [wordR 0x00 rd.toNat ra.toNat (amt.toNat / 32) (amt.toNat % 32) 0x0B]
  | .clz _ rd ra => some [wordR 0x00 rd.toNat ra.toNat 0 0 0x18]
  | .ctz _ rd ra => some [wordR 0x00 rd.toNat ra.toNat 0 0 0x19]
  | .popc _ rd ra => some [wordR 0x00 rd.toNat ra.toNat 0 0 0x1A]
  | .bswap _ rd ra => some [wordR 0x00 rd.toNat ra.toNat 0 0 0x1B]
  | .sel _ rd ra rb p => some [wordR 0x00 rd.toNat ra.toNat rb.toNat p.toNat 0x1C]
  | .ext _ rd ra rb sh => some [wordR 0x00 rd.toNat ra.toNat rb.toNat sh.toNat 0x1D]
  | .mfs _ rd sh => some [wordR 0x00 rd.toNat 0 0 sh.toNat 0x1E]
  | .ptog _ rd => some [wordR 0x00 rd.toNat 0 0 0 0x1F]
  | .gtop _ ra => some [wordR 0x00 0 ra.toNat 0 0 0x20]
  | .addi _ rd ra imm => some [wordI 0x01 rd.toNat ra.toNat imm.toNat]
  | .andi _ rd ra imm => some [wordI 0x02 rd.toNat ra.toNat imm.toNat]
  | .ori _ rd ra imm => some [wordI 0x03 rd.toNat ra.toNat imm.toNat]
  | .xori _ rd ra imm => some [wordI 0x04 rd.toNat ra.toNat imm.toNat]
  | .liL _ rd imm => some (longWords rd.toNat 0 imm.toNat)
  | .liuL _ rd imm => some (longWords rd.toNat 1 imm.toNat)
  | .addiL _ rd imm => some (longWords rd.toNat 2 imm.toNat)
  | .andiL _ rd imm => some (longWords rd.toNat 3 imm.toNat)
  | .oriL _ rd imm => some (longWords rd.toNat 4 imm.toNat)
  | .cmp _ pd cond ra rb => some [wordR 0x06 pd.toNat ra.toNat rb.toNat 0 cond.toNat]
  | .cmpi _ pd cond ra imm => some [wordC 0x07 pd.toNat cond.toNat ra.toNat imm.toNat]
  | .predAnd _ pd pa pb => some [wordP 0x08 pd.toNat pa.toNat pb.toNat 0]
  | .predOr _ pd pa pb => some [wordP 0x08 pd.toNat pa.toNat pb.toNat 1]
  | .predXor _ pd pa pb => some [wordP 0x08 pd.toNat pa.toNat pb.toNat 2]
  | .predAndn _ pd pa pb => some [wordP 0x08 pd.toNat pa.toNat pb.toNat 3]
  | .predNot _ pd pa => some [wordP 0x08 pd.toNat pa.toNat 0 4]
  | .predMov _ pd pa => some [wordP 0x08 pd.toNat pa.toNat 0 5]
  | .predSet _ pd => some [wordP 0x08 pd.toNat 0 0 6]
  | .predClr _ pd => some [wordP 0x08 pd.toNat 0 0 7]
  | .b _ off => some [wordB 0x10 0 0 off.toNat]
  | .bt _ p off => some [wordB 0x10 1 p.toNat off.toNat]
  | .bf _ p off => some [wordB 0x10 2 p.toNat off.toNat]
  | .call _ off => some [wordB 0x10 3 0 off.toNat]
  | .jr _ rd ra => some [wordR 0x11 rd.toNat ra.toNat 0 0 0]
  | .ldp _ rt ra sz sx off => some [wordM 0x14 rt.toNat ra.toNat sz.toNat (bitOf sx) off.toNat]
  | .ldg _ rt ra sz sx off => some [wordM 0x16 rt.toNat ra.toNat sz.toNat (bitOf sx) off.toNat]
  | .stp _ rt ra sz off => some [wordM 0x15 rt.toNat ra.toNat sz.toNat 0 off.toNat]
  | .stg _ rt ra sz off => some [wordM 0x17 rt.toNat ra.toNat sz.toNat 0 off.toNat]
  | .ldd _ rt ra dn sz sx off => some [wordD 0x18 rt.toNat ra.toNat dn.toNat sz.toNat (bitOf sx) off.toNat]
  | .std _ rt ra dn sz off => some [wordD 0x19 rt.toNat ra.toNat dn.toNat sz.toNat 0 off.toNat]
  | .atomSwap _ rd ra rb => some [wordR 0x1A rd.toNat ra.toNat rb.toNat 0 0]
  | .atomAdd _ rd ra rb => some [wordR 0x1A rd.toNat ra.toNat rb.toNat 0 1]
  | .atomCas _ rd ra rb => some [wordR 0x1A rd.toNat ra.toNat rb.toNat 0 2]
  | .fenceG _ => some [wordR 0x1B 0 0 0 0 0]
  | .dmk _ dn ra rb sh => some [wordR 0x1C dn.toNat ra.toNat rb.toNat sh.toNat 0]
  | .dmov _ dn dm => some [wordR 0x1C dn.toNat dm.toNat 0 0 1]
  | .dadv _ dn rb => some [wordR 0x1C dn.toNat 0 rb.toNat 0 2]
  | .dtrim _ dn rb => some [wordR 0x1C dn.toNat 0 rb.toNat 0 3]
  | .ddrop _ dn sh => some [wordR 0x1C dn.toNat 0 0 sh.toNat 4]
  | .dget _ rd dm sh => some [wordR 0x1C rd.toNat dm.toNat 0 sh.toNat 5]
  | .dclr _ dn => some [wordR 0x1C dn.toNat 0 0 0 6]
  | .waitAll _ pd ra imm => some [wordW 0x20 0 pd.toNat ra.toNat imm.toNat]
  | .waitAny _ pd ra imm => some [wordW 0x20 1 pd.toNat ra.toNat imm.toNat]
  | .waitDoorbell _ pd ra imm => some [wordW 0x20 2 pd.toNat ra.toNat imm.toNat]
  | .waitSleep _ imm => some [wordW 0x20 3 0 0 imm.toNat]
  | .endCtx _ ra => some [wordR 0x21 0 ra.toNat 0 0 0]
  | .trap _ imm => some [wordI 0x22 0 0 imm.toNat]
  | .pressC _ rd da db ra imm => some [wordA 0x28 rd.toNat da.toNat db.toNat ra.toNat imm.toNat]
  | .pressD _ rd da db ra imm => some [wordA 0x29 rd.toNat da.toNat db.toNat ra.toNat imm.toNat]
  | .seal _ rd da db ra imm => some [wordA 0x2A rd.toNat da.toNat db.toNat ra.toNat imm.toNat]
  | .unseal _ rd da db ra imm => some [wordA 0x2B rd.toNat da.toNat db.toNat ra.toNat imm.toNat]
  | .assayOne _ rd da db ra imm => some [wordA 0x2C rd.toNat da.toNat db.toNat ra.toNat (putField imm.toNat 2 2 0)]
  | .assayStart _ rd da db ra imm => some [wordA 0x2C rd.toNat da.toNat db.toNat ra.toNat (putField imm.toNat 2 2 1)]
  | .assayMore _ rd da db ra imm => some [wordA 0x2C rd.toNat da.toNat db.toNat ra.toNat (putField imm.toNat 2 2 2)]
  | .assayFinish _ rd da db ra imm => some [wordA 0x2C rd.toNat da.toNat db.toNat ra.toNat (putField imm.toNat 2 2 3)]
  | .tallyCheckPi _ rd da db ra imm => some [wordA 0x2D rd.toNat da.toNat db.toNat ra.toNat (putField imm.toNat 0 3 0)]
  | .tallyGenPi _ rd da db ra imm => some [wordA 0x2D rd.toNat da.toNat db.toNat ra.toNat (putField imm.toNat 0 3 1)]
  | .tallyCrc64 _ rd da db ra imm => some [wordA 0x2D rd.toNat da.toNat db.toNat ra.toNat (putField imm.toNat 0 3 2)]
  | .tallyCrc32c _ rd da db ra imm => some [wordA 0x2D rd.toNat da.toNat db.toNat ra.toNat (putField imm.toNat 0 3 3)]
  | .tallyCrc16 _ rd da db ra imm => some [wordA 0x2D rd.toNat da.toNat db.toNat ra.toNat (putField imm.toNat 0 3 4)]
  | .sieveLookup _ rd da db ra imm => some [wordA 0x2E rd.toNat da.toNat db.toNat ra.toNat (putField imm.toNat 0 2 0)]
  | .sieveInsert _ rd da db ra imm => some [wordA 0x2E rd.toNat da.toNat db.toNat ra.toNat (putField imm.toNat 0 2 1)]
  | .sieveUnref _ rd da db ra imm => some [wordA 0x2E rd.toNat da.toNat db.toNat ra.toNat (putField imm.toNat 0 2 2)]
  | .mapL _ rd da db ra imm => some [wordA 0x2F rd.toNat da.toNat db.toNat ra.toNat imm.toNat]
  | .mapU _ rd da db ra imm => some [wordA 0x30 rd.toNat da.toNat db.toNat ra.toNat imm.toNat]
  | .tillP _ rd da db ra imm => some [wordA 0x31 rd.toNat da.toNat db.toNat ra.toNat imm.toNat]
  | .sledReadEntry _ rd da db ra imm => some [wordA 0x32 rd.toNat da.toNat db.toNat ra.toNat (putField imm.toNat 0 3 0)]
  | .sledRead _ rd da db ra imm => some [wordA 0x32 rd.toNat da.toNat db.toNat ra.toNat (putField imm.toNat 0 3 1)]
  | .sledProgram _ rd da db ra imm => some [wordA 0x32 rd.toNat da.toNat db.toNat ra.toNat (putField imm.toNat 0 3 2)]
  | .sledErase _ rd da db ra imm => some [wordA 0x32 rd.toNat da.toNat db.toNat ra.toNat (putField imm.toNat 0 3 3)]
  | .sledFold _ rd da db ra imm => some [wordA 0x32 rd.toNat da.toNat db.toNat ra.toNat (putField imm.toNat 0 3 4)]
  | .sledTagscan _ rd da db ra imm => some [wordA 0x32 rd.toNat da.toNat db.toNat ra.toNat (putField imm.toNat 0 3 5)]
  | .sledLevels _ rd da db ra imm => some [wordA 0x32 rd.toNat da.toNat db.toNat ra.toNat (putField imm.toNat 0 3 6)]
  | .sledOwn _ rd da db ra imm => some [wordA 0x32 rd.toNat da.toNat db.toNat ra.toNat (putField imm.toNat 0 3 7)]
  | .carry _ rd da db ra imm => some [wordA 0x33 rd.toNat da.toNat db.toNat ra.toNat imm.toNat]
  | .emit _ rd da db ra imm => some [wordA 0x34 rd.toNat da.toNat db.toNat ra.toNat imm.toNat]
  | .reeveE _ rd da db ra imm => some [wordA 0x35 rd.toNat da.toNat db.toNat ra.toNat imm.toNat]
  | .sqStart _ rd ra => some [wordA 0x36 rd.toNat 0 0 ra.toNat 0x01]
  | .sqStop _ rd ra => some [wordA 0x36 rd.toNat 0 0 ra.toNat 0x02]
  | .sqWidth _ rd ra => some [wordA 0x36 rd.toNat 0 0 ra.toNat 0x03]
  | .tollCap _ rd da => some [wordA 0x36 rd.toNat da.toNat 0 0 0x10]
  | .handRetire _ rd ra => some [wordA 0x36 rd.toNat 0 0 ra.toNat 0x11]
  | .pressTarget _ rd ra => some [wordA 0x36 rd.toNat 0 0 ra.toNat 0x12]
  | .spareCall _ rd ra => some [wordA 0x36 rd.toNat 0 0 ra.toNat 0x13]
  | .reelPut _ rd da => some [wordA 0x36 rd.toNat da.toNat 0 0 0x14]
  | .keyLoad _ rd da ra => some [wordA 0x36 rd.toNat da.toNat 0 ra.toNat 0x20]
  | .keyZero _ rd ra => some [wordA 0x36 rd.toNat 0 0 ra.toNat 0x21]
  | .millLock _ rd ra => some [wordA 0x36 rd.toNat 0 0 ra.toNat 0x22]
  | .millFree _ rd ra => some [wordA 0x36 rd.toNat 0 0 ra.toNat 0x23]
  | _ => none

/-- Whether an instruction has an encoding: not an 8-byte load that sign-extends, the result select of DGET listed, and imm8 of its
row's function (R99, R101, R111 to R116). -/
def ixaOk (i : Instr) : Bool :=
  match i with
  | .ldp _ _ _ sz sx _ => !(sx && sz.toNat = 3)
  | .ldg _ _ _ sz sx _ => !(sx && sz.toNat = 3)
  | .ldd _ _ _ _ sz sx _ => !(sx && sz.toNat = 3)
  | .dget _ _ _ sh => decide (sh.toNat < 3)
  | .assayOne _ _ _ _ _ imm => decide (fieldOf imm.toNat 2 2 = 0)
  | .assayStart _ _ _ _ _ imm => decide (fieldOf imm.toNat 2 2 = 1)
  | .assayMore _ _ _ _ _ imm => decide (fieldOf imm.toNat 2 2 = 2)
  | .assayFinish _ _ _ _ _ imm => decide (fieldOf imm.toNat 2 2 = 3)
  | .tallyCheckPi _ _ _ _ _ imm => decide (fieldOf imm.toNat 0 3 = 0)
  | .tallyGenPi _ _ _ _ _ imm => decide (fieldOf imm.toNat 0 3 = 1)
  | .tallyCrc64 _ _ _ _ _ imm => decide (fieldOf imm.toNat 0 3 = 2)
  | .tallyCrc32c _ _ _ _ _ imm => decide (fieldOf imm.toNat 0 3 = 3)
  | .tallyCrc16 _ _ _ _ _ imm => decide (fieldOf imm.toNat 0 3 = 4)
  | .sieveLookup _ _ _ _ _ imm => decide (fieldOf imm.toNat 0 2 = 0)
  | .sieveInsert _ _ _ _ _ imm => decide (fieldOf imm.toNat 0 2 = 1)
  | .sieveUnref _ _ _ _ _ imm => decide (fieldOf imm.toNat 0 2 = 2)
  | .sledReadEntry _ _ _ _ _ imm => decide (fieldOf imm.toNat 0 3 = 0)
  | .sledRead _ _ _ _ _ imm => decide (fieldOf imm.toNat 0 3 = 1)
  | .sledProgram _ _ _ _ _ imm => decide (fieldOf imm.toNat 0 3 = 2)
  | .sledErase _ _ _ _ _ imm => decide (fieldOf imm.toNat 0 3 = 3)
  | .sledFold _ _ _ _ _ imm => decide (fieldOf imm.toNat 0 3 = 4)
  | .sledTagscan _ _ _ _ _ imm => decide (fieldOf imm.toNat 0 3 = 5)
  | .sledLevels _ _ _ _ _ imm => decide (fieldOf imm.toNat 0 3 = 6)
  | .sledOwn _ _ _ _ _ imm => decide (fieldOf imm.toNat 0 3 = 7)
  | _ => true

/-- The engine an Ixaro instruction names. -/
def ixaEng (i : Instr) : Eng :=
  match i with
  | .add e _ _ _ => e
  | .sub e _ _ _ => e
  | .and e _ _ _ => e
  | .or e _ _ _ => e
  | .xor e _ _ _ => e
  | .andn e _ _ _ => e
  | .shl e _ _ _ => e
  | .shr e _ _ _ => e
  | .sar e _ _ _ => e
  | .rotr e _ _ _ => e
  | .mul e _ _ _ => e
  | .mulhu e _ _ _ => e
  | .mulhs e _ _ _ => e
  | .divu e _ _ _ => e
  | .remu e _ _ _ => e
  | .divs e _ _ _ => e
  | .rems e _ _ _ => e
  | .minu e _ _ _ => e
  | .maxu e _ _ _ => e
  | .mins e _ _ _ => e
  | .maxs e _ _ _ => e
  | .shli e _ _ _ => e
  | .shri e _ _ _ => e
  | .sari e _ _ _ => e
  | .clz e _ _ => e
  | .ctz e _ _ => e
  | .popc e _ _ => e
  | .bswap e _ _ => e
  | .sel e _ _ _ _ => e
  | .ext e _ _ _ _ => e
  | .mfs e _ _ => e
  | .ptog e _ => e
  | .gtop e _ => e
  | .addi e _ _ _ => e
  | .andi e _ _ _ => e
  | .ori e _ _ _ => e
  | .xori e _ _ _ => e
  | .liL e _ _ => e
  | .liuL e _ _ => e
  | .addiL e _ _ => e
  | .andiL e _ _ => e
  | .oriL e _ _ => e
  | .cmp e _ _ _ _ => e
  | .cmpi e _ _ _ _ => e
  | .predAnd e _ _ _ => e
  | .predOr e _ _ _ => e
  | .predXor e _ _ _ => e
  | .predAndn e _ _ _ => e
  | .predNot e _ _ => e
  | .predMov e _ _ => e
  | .predSet e _ => e
  | .predClr e _ => e
  | .b e _ => e
  | .call e _ => e
  | .bt e _ _ => e
  | .bf e _ _ => e
  | .jr e _ _ => e
  | .ldp e _ _ _ _ _ => e
  | .ldg e _ _ _ _ _ => e
  | .stp e _ _ _ _ => e
  | .stg e _ _ _ _ => e
  | .ldd e _ _ _ _ _ _ => e
  | .std e _ _ _ _ _ => e
  | .atomSwap e _ _ _ => e
  | .atomAdd e _ _ _ => e
  | .atomCas e _ _ _ => e
  | .fenceG e => e
  | .dmk e _ _ _ _ => e
  | .dmov e _ _ => e
  | .dadv e _ _ => e
  | .dtrim e _ _ => e
  | .ddrop e _ _ => e
  | .dget e _ _ _ => e
  | .dclr e _ => e
  | .waitAll e _ _ _ => e
  | .waitAny e _ _ _ => e
  | .waitDoorbell e _ _ _ => e
  | .waitSleep e _ => e
  | .endCtx e _ => e
  | .trap e _ => e
  | .pressC e _ _ _ _ _ => e
  | .pressD e _ _ _ _ _ => e
  | .seal e _ _ _ _ _ => e
  | .unseal e _ _ _ _ _ => e
  | .assayOne e _ _ _ _ _ => e
  | .assayStart e _ _ _ _ _ => e
  | .assayMore e _ _ _ _ _ => e
  | .assayFinish e _ _ _ _ _ => e
  | .tallyCheckPi e _ _ _ _ _ => e
  | .tallyGenPi e _ _ _ _ _ => e
  | .tallyCrc64 e _ _ _ _ _ => e
  | .tallyCrc32c e _ _ _ _ _ => e
  | .tallyCrc16 e _ _ _ _ _ => e
  | .sieveLookup e _ _ _ _ _ => e
  | .sieveInsert e _ _ _ _ _ => e
  | .sieveUnref e _ _ _ _ _ => e
  | .mapL e _ _ _ _ _ => e
  | .mapU e _ _ _ _ _ => e
  | .tillP e _ _ _ _ _ => e
  | .sledReadEntry e _ _ _ _ _ => e
  | .sledRead e _ _ _ _ _ => e
  | .sledProgram e _ _ _ _ _ => e
  | .sledErase e _ _ _ _ _ => e
  | .sledFold e _ _ _ _ _ => e
  | .sledTagscan e _ _ _ _ _ => e
  | .sledLevels e _ _ _ _ _ => e
  | .sledOwn e _ _ _ _ _ => e
  | .carry e _ _ _ _ _ => e
  | .emit e _ _ _ _ _ => e
  | .reeveE e _ _ _ _ _ => e
  | .sqStart e _ _ => e
  | .sqStop e _ _ => e
  | .sqWidth e _ _ => e
  | .handRetire e _ _ => e
  | .pressTarget e _ _ => e
  | .spareCall e _ _ => e
  | .keyZero e _ _ => e
  | .millLock e _ _ => e
  | .millFree e _ _ => e
  | .tollCap e _ _ => e
  | .reelPut e _ _ => e
  | .keyLoad e _ _ _ => e
  | _ => ⟨.hand, 0, 0⟩

end Sys2Proof
end

