-- ==== Sys2Proof/Machine/Store.lean ====
section
/-! DEFINITION. Sparse stores: lists of (key, value) pairs with strictly rising keys and no pair that
holds the key's default, so equal contents are equal lists. Memory, registers and every table of the
head keyed by a number are held this way. -/
namespace Sys2Proof.Machine

/-- A sparse table from numbers to values. -/
abbrev AMap (α : Type) := List (Nat × α)

/-- The value at key k, or d k where nothing is listed. -/
def AMap.getD {α : Type} (d : Nat → α) : AMap α → Nat → α
  | [], k => d k
  | (a, v) :: m, k => if k = a then v else AMap.getD d m k

/-- The table without key k. -/
def AMap.erase {α : Type} (m : AMap α) (k : Nat) : AMap α := m.filter (fun p => p.1 ≠ k)

/-- Set key k to v, keeping the canonical form for the default d. -/
def AMap.setD {α : Type} [DecidableEq α] (d : Nat → α) : AMap α → Nat → α → AMap α
  | [], k, v => if v = d k then [] else [(k, v)]
  | (a, w) :: m, k, v =>
    if k < a then (if v = d k then AMap.erase ((a, w) :: m) k else (k, v) :: AMap.erase ((a, w) :: m) k)
    else if k = a then (if v = d k then AMap.erase m k else (a, v) :: AMap.erase m k)
    else (a, w) :: AMap.setD d m k v

/-- Every listed key is at least lo, keys rise strictly, and no entry holds its default. -/
def AMap.wfFrom {α : Type} [DecidableEq α] (d : Nat → α) : Nat → AMap α → Bool
  | _, [] => true
  | lo, (a, v) :: m => decide (lo ≤ a) && !decide (v = d a) && AMap.wfFrom d (a + 1) m

/-- The canonical form. -/
def AMap.wf {α : Type} [DecidableEq α] (d : Nat → α) (m : AMap α) : Bool := AMap.wfFrom d 0 m

/-- The table with default value `default` everywhere. -/
def AMap.get {α : Type} [Inhabited α] (m : AMap α) (k : Nat) : α := AMap.getD (fun _ => default) m k

/-- Set in the table with default value `default`. -/
def AMap.set {α : Type} [Inhabited α] [DecidableEq α] (m : AMap α) (k : Nat) (v : α) : AMap α :=
  AMap.setD (fun _ => default) m k v

/-- The keys that hold something other than the default. -/
def AMap.keys {α : Type} (m : AMap α) : List Nat := m.map Prod.fst

/-- Change the value at a key. -/
def AMap.upd {α : Type} [Inhabited α] [DecidableEq α] (m : AMap α) (k : Nat) (f : α → α) : AMap α :=
  m.set k (f (m.get k))

/-- Numbers 0 to n - 1 in ascending order. -/
def upto (n : Nat) : List Nat := List.range n

/-- n bytes of a number, least significant first (R9). -/
def leBytes : Nat → Nat → List Byte
  | 0, _ => []
  | n + 1, v => BitVec.ofNat 8 v :: leBytes n (v / 256)

/-- The number a list of bytes spells, least significant first (R9). -/
def leNat : List Byte → Nat
  | [] => 0
  | b :: r => b.toNat + 256 * leNat r

/-- The n-byte field at an offset of a little-endian block. -/
def fieldAt (l : List Byte) (ofs n : Nat) : Nat := leNat ((l.drop ofs).take n)

/-- n bytes of a number, most significant first. -/
def beBytes (n v : Nat) : List Byte := (leBytes n v).reverse

/-- The number a list of bytes spells, most significant first. -/
def beNat (l : List Byte) : Nat := leNat l.reverse

/-- Bits hi down to lo of a number. -/
def bitsOf (v hi lo : Nat) : Nat := (v >>> lo) % 2 ^ (hi + 1 - lo)

/-- Bit i of a number. -/
def bitOf (v i : Nat) : Bool := v.testBit i

/-- A condition as a bit. -/
def b2n (b : Bool) : Nat := if b then 1 else 0

/-- The class of a status: its top nibble (R139). -/
def classOf (st : Status) : Nat := (st / 4096) % 16

/-- Set or clear bit i of a number. -/
def setBit (v i : Nat) (b : Bool) : Nat :=
  if v.testBit i = b then v else if b then v + 2 ^ i else v - 2 ^ i

/-- Subtract one, not below zero, saturating at a ceiling on the way up. -/
def satInc (v cap : Nat) : Nat := if v < cap then v + 1 else cap

end Sys2Proof.Machine
end

