-- ==== Sys2Proof/Machine/Codec.lean ====
section
/-! DEFINITION. Check values (R217) and the coded grain of the Press (R175 to R178, R182). -/
namespace Sys2Proof.Machine

/-! ### Check values (R217) -/

/-- One bit of a reflected division. -/
def crcBitR (poly v : Nat) : Nat := if v % 2 = 1 then (v / 2) ^^^ poly else v / 2

/-- One byte into a reflected running state. -/
def crcByteR (poly v : Nat) (b : Byte) : Nat :=
  (upto 8).foldl (fun x _ => crcBitR poly x) (v ^^^ b.toNat)

/-- One byte into the running state of CRC-16 T10-DIF, which is not reflected. -/
def crcByte16 (v : Nat) (b : Byte) : Nat :=
  (upto 8).foldl (fun x _ => (if 0x8000 ≤ x then (2 * x) ^^^ 0x8BB7 else 2 * x) % 0x10000) (v ^^^ (b.toNat * 256))

/-- Width of algorithm ALG: 0 CRC-64/NVME, 1 CRC-32C, 2 CRC-16 T10-DIF. -/
def crcWidth (alg : Nat) : Nat := if alg = 0 then 64 else if alg = 1 then 32 else 16

/-- The final XOR, which is also the initial state of the reflected algorithms. -/
def crcXor (alg : Nat) : Nat := if alg = 2 then 0 else 2 ^ crcWidth alg - 1

/-- Feed bytes to a running state. -/
def crcFeed (alg v : Nat) (l : List Byte) : Nat :=
  match alg with
  | 0 => l.foldl (crcByteR 0x9A6C9329AC4BC9B5) v
  | 1 => l.foldl (crcByteR 0x82F63B78) v
  | _ => l.foldl crcByte16 v

/-- Continue a check value over more bytes: the value in and out carries the final XOR (R112, R219). -/
def crcMore (alg value : Nat) (l : List Byte) : Nat :=
  crcFeed alg ((value % 2 ^ crcWidth alg) ^^^ crcXor alg) l ^^^ crcXor alg

/-- CRC-32C of bytes. -/
def crc32c (l : List Byte) : Nat := crcMore 1 0 l

/-! ### Bits of the payload, most significant first (R176) -/

/-- The bits of a byte from the most significant down. -/
def byteBits (b : Byte) : List Bool := (upto 8).map (fun i => b.getLsbD (7 - i))

/-- w bits of a number, most significant first. -/
def natBits (w v : Nat) : List Bool := (upto w).map (fun i => v.testBit (w - 1 - i))

/-- The number a bit string spells, most significant first. -/
def bitsNat (l : List Bool) : Nat := l.foldl (fun n b => 2 * n + b2n b) 0

/-- Pack a bit string into n bytes, zero bits following its end. -/
def packBits : Nat → List Bool → List Byte
  | 0, _ => []
  | n + 1, l => BitVec.ofNat 8 (bitsNat ((l.take 8 ++ List.replicate 8 false).take 8)) :: packBits n (l.drop 8)

/-- Cut a list into n pieces of k. -/
def pieces {α : Type} (k : Nat) : Nat → List α → List (List α)
  | 0, _ => []
  | n + 1, l => l.take k :: pieces k n (l.drop k)

/-! ### Coding (R175 to R178) -/

/-- The stride of a model, 0 for a reserved model. -/
def strideOf (m : Nat) : Nat :=
  match m with
  | 1 => 1 | 2 => 2 | 3 => 4 | 4 => 7 | 5 => 8 | _ => 0

/-- The residuals e of a grain at a stride, as numbers modulo 256. -/
def residuals (s : Nat) (x : List Byte) : List Nat :=
  List.zipWith (fun a b => (a - b).toNat) x (List.replicate s 0 ++ x)

/-- The code number u of a residual. -/
def zigzag (e : Nat) : Nat := if e < 128 then 2 * e else 2 * (256 - e) - 1

/-- The residual of a code number, modulo 256. -/
def unzigzag (u : Nat) : Nat := if u % 2 = 0 then u / 2 else (256 - (u + 1) / 2) % 256

/-- Bits of the Rice code of u under K. -/
def riceSize (k u : Nat) : Nat := if u / 2 ^ k < 16 then u / 2 ^ k + 1 + k else 24

/-- The Rice code of u under K. -/
def riceBits (k u : Nat) : List Bool :=
  if u / 2 ^ k < 16 then List.replicate (u / 2 ^ k) true ++ [false] ++ natBits k (u % 2 ^ k)
  else List.replicate 16 true ++ natBits 8 u

/-- The choices of K for a block of code numbers with their sizes, lowest K first. -/
def blockChoices (us : List Nat) : List (Nat × Nat) :=
  (upto 8).map (fun k => (k, 4 + us.foldl (fun n u => n + riceSize k u) 0)) ++
    (if us.all (fun u => u = 0) then [(14, 4)] else []) ++ [(15, 4 + 2048)]

/-- The first entry of the least second component. -/
def leastSnd : List (Nat × Nat) → Nat × Nat
  | [] => (0, 0)
  | [a] => a
  | a :: r =>
    let b := leastSnd r
    if a.2 ≤ b.2 then a else b

/-- The record of a block under K. -/
def blockBits (k : Nat) (xs : List Byte) (us : List Nat) : List Bool :=
  natBits 4 k ++ (if k = 14 then [] else if k = 15 then xs.flatMap byteBits else us.flatMap (riceBits k))

/-- The blocks of a grain with their code numbers. -/
def grainBlocks (m : Nat) (x : List Byte) : List (List Byte × List Nat) :=
  (pieces 256 256 x).zip (pieces 256 256 ((residuals (strideOf m) x).map zigzag))

/-- Payload bits of a grain under a model. -/
def modelSize (m : Nat) (x : List Byte) : Nat :=
  (grainBlocks m x).foldl (fun n b => n + (leastSnd (blockChoices b.2)).2) 0

/-- The model of the shortest payload and that payload's bits (R177). -/
def bestModel (x : List Byte) : Nat × Nat :=
  leastSnd ([1, 2, 3, 4, 5].map (fun m => (m, modelSize m x)))

/-- The natural size of a grain in slots (R177). -/
def naturalSize (x : List Byte) : Nat := ((bestModel x).2 + 128 + 32767) / 32768

/-- The payload of a grain under a model. -/
def payloadBits (m : Nat) (x : List Byte) : List Bool :=
  (grainBlocks m x).flatMap (fun b => blockBits (leastSnd (blockChoices b.2)).1 b.1 b.2)

/-- The trailer without its own check (R178). -/
def trailerHead (t m bits check : Nat) : List Byte :=
  leBytes 2 1 ++ leBytes 1 t ++ leBytes 1 m ++ leBytes 4 bits ++ leBytes 4 check

/-- The coded form of a grain at target t (R176 to R178). -/
def codeGrain (t : Nat) (x : List Byte) : List Byte :=
  let m := (bestModel x).1
  let h := trailerHead t m (bestModel x).2 (crc32c x)
  packBits (t * 4096 - 16) (payloadBits m x) ++ h ++ leBytes 4 (crc32c h)

/-! ### Decoding (R182) -/

/-- n bits as a number, or none where they run out. -/
def takeBits : Nat → List Bool → Option (Nat × List Bool)
  | 0, l => some (0, l)
  | _ + 1, [] => none
  | n + 1, b :: l =>
    match takeBits n l with
    | none => none
    | some (v, r) => some (b2n b * 2 ^ n + v, r)

/-- Count one-bits up to a limit; below the limit the zero-bit is used up too. -/
def takeOnes : Nat → List Bool → Option (Nat × List Bool)
  | 0, l => some (0, l)
  | _ + 1, [] => none
  | _ + 1, false :: l => some (0, l)
  | n + 1, true :: l => (takeOnes n l).map (fun p => (p.1 + 1, p.2))

/-- One Rice code; faults 0x04 and 0x05. -/
def takeRice (k : Nat) (l : List Bool) : Except Nat (Nat × List Bool) :=
  match takeOnes 16 l with
  | none => .error 5
  | some (q, r) =>
    match takeBits (if q = 16 then 8 else k) r with
    | none => .error 5
    | some (v, r') =>
      if q = 16 then .ok (v, r')
      else if 255 < q * 2 ^ k + v then .error 4
      else .ok (q * 2 ^ k + v, r')

/-- The byte predicted from what has been decoded, newest first. -/
def predicted (s : Nat) (out : List Byte) : Byte := out.getD (s - 1) 0

/-- n bytes of Rice codes onto the decoded bytes, newest first. -/
def riceBody (s k : Nat) : Nat → List Byte → List Bool → Except Nat (List Byte × List Bool)
  | 0, out, l => .ok (out, l)
  | n + 1, out, l =>
    match takeRice k l with
    | .error f => .error f
    | .ok (u, r) => riceBody s k n ((predicted s out + BitVec.ofNat 8 (unzigzag u)) :: out) r

/-- n bytes whose residuals are zero. -/
def zeroBody (s : Nat) : Nat → List Byte → List Byte
  | 0, out => out
  | n + 1, out => zeroBody s n (predicted s out :: out)

/-- n raw bytes. -/
def rawBody : Nat → List Byte → List Bool → Except Nat (List Byte × List Bool)
  | 0, out, l => .ok (out, l)
  | n + 1, out, l =>
    match takeBits 8 l with
    | none => .error 5
    | some (v, r) => rawBody n (BitVec.ofNat 8 v :: out) r

/-- One block record. -/
def blockBody (s k : Nat) (out : List Byte) (l : List Bool) : Except Nat (List Byte × List Bool) :=
  if k < 8 then riceBody s k 256 out l
  else if k = 14 then .ok (zeroBody s 256 out, l)
  else if k = 15 then rawBody 256 out l
  else .error 4

/-- n block records. -/
def walkBlocks (s : Nat) : Nat → List Byte → List Bool → Except Nat (List Byte × List Bool)
  | 0, out, l => .ok (out, l)
  | n + 1, out, l =>
    match takeBits 4 l with
    | none => .error 5
    | some (k, r) =>
      match blockBody s k out r with
      | .error f => .error f
      | .ok (out', r') => walkBlocks s n out' r'

/-- Decode coded slots: the grain, or the first fault of R182. -/
def decodeGrain (da : List Byte) : Except Nat (List Byte) :=
  let tr := da.drop (da.length - 16)
  let fmt := leNat (tr.take 2)
  let slots := leNat ((tr.drop 2).take 1)
  let model := leNat ((tr.drop 3).take 1)
  let bits := leNat ((tr.drop 4).take 4)
  let check := leNat ((tr.drop 8).take 4)
  if leNat (tr.drop 12) ≠ crc32c (tr.take 12) then .error 1
  else if fmt ≠ 1 ∨ strideOf model = 0 then .error 2
  else if slots ≠ da.length / 4096 ∨ slots * 32768 - 128 < bits then .error 3
  else
    let room := (da.take (da.length - 16)).flatMap byteBits
    match walkBlocks (strideOf model) 256 [] (room.take bits) with
    | .error f => .error f
    | .ok (out, rest) =>
      if rest ≠ [] then .error 6
      else if (room.drop bits).any id then .error 7
      else if crc32c out.reverse ≠ check then .error 8
      else .ok out.reverse

end Sys2Proof.Machine
end

