-- ==== Sys2Proof/Config.lean ====
section
/-! DEFINITION. What the spec leaves open: free values without a body (no proof can see what they are),
and the functions that outside standards or a module's own secrets fix. -/
namespace Sys2Proof.Config

/-- The n-th value nobody constrains: the nonce of a random draw, a key half, a cycle count. The step
supplies n from State.freeCtr and advances it (assumption log 8). -/
opaque freeValue : Nat → BitVec 64

/-- A byte of a context's scratch area that nothing has written since its dispatch (R96): undefined. -/
opaque scratchByte : Nat → Nat → BitVec 8


/-- The signature the Strongroom makes over a message (R450, R398); its private keys are outside the spec. -/
opaque sign : Nat → List (BitVec 8) → List (BitVec 8)

/-- SHA-512 digest of release public key k, 0 to 3, as the ROM holds it (R446, R453). -/
opaque releaseDigest : Nat → List (BitVec 8)

/-- What RSAES-OAEP under the identity key yields of a blob; none where it fails (R447). The identity key is the
module's own. -/
opaque oaep : List (BitVec 8) → Option (List (BitVec 8))

/-- A byte of the factory firmware image, by bank and offset: its content is outside the spec (assumption log 10). -/
opaque factoryByte : Nat → Nat → BitVec 8

/-- SHA-512 digest of a part of the factory firmware image: bank, PART (assumption log 10). -/
opaque factoryDigest : Nat → Nat → List (BitVec 8)

/-- The NVM key-encrypting key, derived in hardware from the device root key in the fuses (R446). -/
opaque deviceKey : List (BitVec 8)

/-- A byte of the identity certificate chain (R448): per module. -/
opaque certByte : Nat → BitVec 8

/-- The key material of a vault set that is not loaded, where feature 34 is off and a Hand names it (R199
lets the operation run, and no rule says with what key). -/
opaque unloadedKey : Nat → List (BitVec 8)

/-- A byte of a slot that stands on flash: slot address with its commons, offset. What the flash holds is the
surroundings' (assumption log 8). -/
opaque flashByte : Nat → Nat → BitVec 8

/-- A byte of an NVMe Identify page or log page that the spec does not fix: kind, page, namespace, offset. -/
opaque pageByte : Nat → Nat → Nat → Nat → BitVec 8

/-- The NVMe properties CAP and VS, whose values the spec does not give (R128). -/
opaque property : Nat → BitVec 64

/-- CREDIT of the folios the head sends on a port: its free receive buffer in units of 64 KiB, which the spec does not
give (R381). -/
opaque magCredit : Nat → BitVec 32

/-- The i-th of the 11 probes of a presence filter for a record's key (R231), which the spec does not give. -/
opaque filterProbe : Nat → Nat → Nat

/-- The 99.9th-percentile latency of the Counterfoil in ns, once so many stubs are acknowledged: a measurement the model has no
clock for (R272, assumption log 42). -/
opaque linkLatency : Nat → BitVec 32

/-- Byte i of the 64-byte header of an index page (R230), which the spec does not give: bucket key, page, byte. -/
opaque indexHeader : Nat → Nat → Nat → BitVec 8

/-- Temperature of a sled as its sideband reports it, by the time, in 0.1 °C, signed (R326); the spec gives no value. FREE VALUE
(assumption log 42). -/
opaque sledTemp : Nat → Nat → BitVec 16

/-- The hottest die sensor by the time, in 0.1 °C, signed (R508); no command brings its reading. FREE VALUE (assumption log 42). -/
opaque dieTemp : Nat → BitVec 16

end Sys2Proof.Config
end

