-- ==== Sys2Proof/Machine/Regs.lean ====
section
/-! DEFINITION. The management map of R37 as data: the address of every register, the bit range of every
field its table names, and the reset values. Written from the register tables of the chapters; a
register that stands behind a selector keeps one word per selected unit, at address + unit * 2^32. -/
namespace Sys2Proof.Machine

/-- A field of a register: its key in the register file, its lowest bit and its width. -/
structure Fld where
  addr : Nat
  lo : Nat
  w : Nat
  deriving DecidableEq, Repr

/-- The same field of unit n of a register behind a selector. -/
def Fld.at (f : Fld) (n : Nat) : Fld := { f with addr := f.addr + n * 4294967296 }

/-- The same field of the k-th register of an array of consecutive registers. -/
def Fld.nth (f : Fld) (k : Nat) : Fld := { f with addr := f.addr + 8 * k }

/-- The same field in the k-th window of the given stride. -/
def Fld.win (f : Fld) (stride k : Nat) : Fld := { f with addr := f.addr + stride * k }

namespace R

/-- IDENT_PART, R42 (RO). -/
def IDENT_PART : Nat := 0x0
/-- IDENT_SERIAL, R42 (RO). -/
def IDENT_SERIAL : Nat := 0x8
/-- IDENT_SLOT, R42 (RO). -/
def IDENT_SLOT : Nat := 0x10
/-- IDENT_POOL, R42 (RO). -/
def IDENT_POOL : Nat := 0x18
/-- IDENT_MODE, R42 (RO). -/
def IDENT_MODE : Nat := 0x20
/-- IDENT_MODE_REQ, R42 (RW). -/
def IDENT_MODE_REQ : Nat := 0x28
/-- IDENT_MODE_SEQ, R42 (RO). -/
def IDENT_MODE_SEQ : Nat := 0x30
/-- IDENT_FW, R42 (RO). -/
def IDENT_FW : Nat := 0x38
/-- IDENT_START, R42 (RO). -/
def IDENT_START : Nat := 0x40
/-- IDENT_MAP_ERR, R42 (W1C). -/
def IDENT_MAP_ERR : Nat := 0x48
/-- IDENT_JOIN, R42 (RW). -/
def IDENT_JOIN : Nat := 0x50
/-- IDENT_SCRATCH, R42 (RW). -/
def IDENT_SCRATCH : Nat := 0x58
/-- IDENT_FEAT_CTL, R42 (RW). -/
def IDENT_FEAT_CTL : Nat := 0x60
/-- IDENT_FEAT_SUPP0–3, R42 (RO). -/
def IDENT_FEAT_SUPP : Nat := 0x100
/-- IDENT_FEAT_OFFER0–3, R42 (RW). -/
def IDENT_FEAT_OFFER : Nat := 0x120
/-- IDENT_FEAT_MGMT0–3, R42 (RO). -/
def IDENT_FEAT_MGMT : Nat := 0x140
/-- IDENT_FEAT_STAND0–3, R42 (RO). -/
def IDENT_FEAT_STAND : Nat := 0x160
/-- IDENT_FEAT_PAIR0–3, R42 (RO). -/
def IDENT_FEAT_PAIR : Nat := 0x180
/-- IDENT_FEAT_DIFF0–3, R42 (RO). -/
def IDENT_FEAT_DIFF : Nat := 0x1A0
/-- HANDS_STATE, R90 (RO). -/
def HANDS_STATE : Nat := 0x200000
/-- HANDS_ISSUED, R90 (RO). -/
def HANDS_ISSUED : Nat := 0x200008
/-- HANDS_BUSY_CYCLES, R90 (RO). -/
def HANDS_BUSY_CYCLES : Nat := 0x200010
/-- HANDS_ERRORS, R90 (RO). -/
def HANDS_ERRORS : Nat := 0x200018
/-- HANDS_TRAP_COUNT, R90 (RO). -/
def HANDS_TRAP_COUNT : Nat := 0x200020
/-- HANDS_LAST_TRAP, R90 (RO). -/
def HANDS_LAST_TRAP : Nat := 0x200028
/-- HANDS_LAST_TRAP_SEQ, R90 (RO). -/
def HANDS_LAST_TRAP_SEQ : Nat := 0x200030
/-- HANDS_CTX0–63, R90 (RO). -/
def HANDS_CTX : Nat := 0x200100
/-- HANDS_SUMMARY, R90 (RO). -/
def HANDS_SUMMARY : Nat := 0x208000
/-- HANDS_RETIRE, R90 (RW). -/
def HANDS_RETIRE : Nat := 0x208008
/-- HANDS_WATCHDOG, R90 (RW). -/
def HANDS_WATCHDOG : Nat := 0x208010
/-- HANDS_LOAD_CTL, R90 (RW). -/
def HANDS_LOAD_CTL : Nat := 0x208018
/-- HANDS_LOAD_LEN, R90 (RW). -/
def HANDS_LOAD_LEN : Nat := 0x208020
/-- HANDS_LOAD_DATA, R90 (WO). -/
def HANDS_LOAD_DATA : Nat := 0x208028
/-- HANDS_LOAD_COUNT, R90 (RO). -/
def HANDS_LOAD_COUNT : Nat := 0x208030
/-- HANDS_PROGKEY, R90 (RO). -/
def HANDS_PROGKEY : Nat := 0x208038
/-- HANDS_BIND_SEL, R90 (RW). -/
def HANDS_BIND_SEL : Nat := 0x208040
/-- HANDS_BIND, R90 (RW). -/
def HANDS_BIND : Nat := 0x208048
/-- HANDS_UNLOAD, R90 (RW). -/
def HANDS_UNLOAD : Nat := 0x208050
/-- HANDS_STORE, R90 (RO). -/
def HANDS_STORE : Nat := 0x208058
/-- HANDS_RECIPE_ID0–63, R90 (RO). -/
def HANDS_RECIPE_ID : Nat := 0x208100
/-- HANDS_RECIPE_STAT0–63, R90 (RO). -/
def HANDS_RECIPE_STAT : Nat := 0x208300
/-- DOCKET_TAGS, R146 (RO). -/
def DOCKET_TAGS : Nat := 0x100000
/-- DOCKET_ACCEPTED, R146 (RO). -/
def DOCKET_ACCEPTED : Nat := 0x100008
/-- DOCKET_COMPLETED, R146 (RO). -/
def DOCKET_COMPLETED : Nat := 0x100010
/-- DOCKET_LATE, R146 (RW). -/
def DOCKET_LATE : Nat := 0x100018
/-- DOCKET_ATOMIC, R146 (RO). -/
def DOCKET_ATOMIC : Nat := 0x100020
/-- DOCKET_TAG_SEL, R146 (RW). -/
def DOCKET_TAG_SEL : Nat := 0x100028
/-- DOCKET_TAG_STATE, R146 (RO). -/
def DOCKET_TAG_STATE : Nat := 0x100030
/-- DOCKET_QSEL, R146 (RW). -/
def DOCKET_QSEL : Nat := 0x100038
/-- DOCKET_QCFG, R146 (RO). -/
def DOCKET_QCFG : Nat := 0x100040
/-- DOCKET_QSTATE, R146 (RO). -/
def DOCKET_QSTATE : Nat := 0x100048
/-- DOCKET_QCTL, R146 (RW). -/
def DOCKET_QCTL : Nat := 0x100050
/-- DOCKET_ELOG_SEL, R146 (RW). -/
def DOCKET_ELOG_SEL : Nat := 0x100058
/-- DOCKET_ELOG_DATA0–7, R146 (RO). -/
def DOCKET_ELOG_DATA : Nat := 0x100060
/-- DOCKET_ABORT, R146 (RW). -/
def DOCKET_ABORT : Nat := 0x1000A0
/-- DOCKET_LAST_ERR_SEQ, R146 (RO). -/
def DOCKET_LAST_ERR_SEQ : Nat := 0x1000A8
/-- DOCKET_FROZEN0–63, R146 (RO). -/
def DOCKET_FROZEN : Nat := 0x100100
/-- TOLL_STATE, R167 (RO). -/
def TOLL_STATE : Nat := 0xA0000
/-- TOLL_CAP_INGEST, R167 (RO). -/
def TOLL_CAP_INGEST : Nat := 0xA0008
/-- TOLL_CAP_READ, R167 (RO). -/
def TOLL_CAP_READ : Nat := 0xA0010
/-- TOLL_CAP_FOLD, R167 (RO). -/
def TOLL_CAP_FOLD : Nat := 0xA0018
/-- TOLL_CAP_SLC, R167 (RO). -/
def TOLL_CAP_SLC : Nat := 0xA0020
/-- TOLL_CAP_SPACE, R167 (RO). -/
def TOLL_CAP_SPACE : Nat := 0xA0028
/-- TOLL_CAP_BUDGET, R167 (RO). -/
def TOLL_CAP_BUDGET : Nat := 0xA0030
/-- TOLL_CAP_TIMES, R167 (RO). -/
def TOLL_CAP_TIMES : Nat := 0xA0038
/-- TOLL_CAP_FLOORS, R167 (RO). -/
def TOLL_CAP_FLOORS : Nat := 0xA0040
/-- TOLL_CAP_SEQ, R167 (RO). -/
def TOLL_CAP_SEQ : Nat := 0xA0048
/-- TOLL_POLICY, R167 (RW). -/
def TOLL_POLICY : Nat := 0xA0050
/-- TOLL_HOLD, R167 (RW). -/
def TOLL_HOLD : Nat := 0xA0058
/-- TOLL_RATE_SUM, R167 (RO). -/
def TOLL_RATE_SUM : Nat := 0xA0060
/-- TOLL_SLC_NEED, R167 (RO). -/
def TOLL_SLC_NEED : Nat := 0xA0068
/-- TOLL_REQ_CTL, R167 (RW). -/
def TOLL_REQ_CTL : Nat := 0xA0070
/-- TOLL_CAP_SLC_SIZE, R167 (RO). -/
def TOLL_CAP_SLC_SIZE : Nat := 0xA0078
/-- TOLL_REQ_DATA0–7, R167 (RW). -/
def TOLL_REQ_DATA : Nat := 0xA0080
/-- TOLL_GRANT_DATA0–7, R167 (RO). -/
def TOLL_GRANT_DATA : Nat := 0xA00C0
/-- TOLL_TAKE_SEL, R167 (RW). -/
def TOLL_TAKE_SEL : Nat := 0xA0100
/-- TOLL_TAKE_INFO, R167 (RO). -/
def TOLL_TAKE_INFO : Nat := 0xA0108
/-- TOLL_TAKE_RATE, R167 (RO). -/
def TOLL_TAKE_RATE : Nat := 0xA0110
/-- TOLL_TAKE_KEPT, R167 (RO). -/
def TOLL_TAKE_KEPT : Nat := 0xA0118
/-- TOLL_TAKE_LANDED, R167 (RO). -/
def TOLL_TAKE_LANDED : Nat := 0xA0120
/-- TOLL_TAKE_LATE, R167 (RO). -/
def TOLL_TAKE_LATE : Nat := 0xA0128
/-- TOLL_CLASS_BYTES0–3, R167 (RO). -/
def TOLL_CLASS_BYTES : Nat := 0xA0200
/-- TOLL_CLASS_LATE0–3, R167 (RO). -/
def TOLL_CLASS_LATE : Nat := 0xA0220
/-- TOLL_CLASS_DEFER0–3, R167 (RO). -/
def TOLL_CLASS_DEFER : Nat := 0xA0240
/-- PRESS_STATE, R190 (RO). -/
def PRESS_STATE : Nat := 0x300000
/-- PRESS_ADAPT, R190 (RW). -/
def PRESS_ADAPT : Nat := 0x300008
/-- PRESS_CODED, R190 (RO). -/
def PRESS_CODED : Nat := 0x300010
/-- PRESS_RAW, R190 (RO). -/
def PRESS_RAW : Nat := 0x300018
/-- PRESS_MISMATCH, R190 (RO). -/
def PRESS_MISMATCH : Nat := 0x300020
/-- PRESS_DECODED, R190 (RO). -/
def PRESS_DECODED : Nat := 0x300028
/-- PRESS_DECODE_FAULT, R190 (RO). -/
def PRESS_DECODE_FAULT : Nat := 0x300030
/-- PRESS_LAST_FAULT, R190 (RO). -/
def PRESS_LAST_FAULT : Nat := 0x300038
/-- PRESS_LAST_FAULT_SEQ, R190 (RO). -/
def PRESS_LAST_FAULT_SEQ : Nat := 0x300040
/-- PRESS_LANE_SEL, R190 (RW). -/
def PRESS_LANE_SEL : Nat := 0x300100
/-- PRESS_LANE, R190 (RO). -/
def PRESS_LANE : Nat := 0x300108
/-- PRESS_LANE_CTL, R190 (RW). -/
def PRESS_LANE_CTL : Nat := 0x300110
/-- PRESS_STREAM_SEL, R190 (RW). -/
def PRESS_STREAM_SEL : Nat := 0x300200
/-- PRESS_STREAM_CFG, R190 (RW). -/
def PRESS_STREAM_CFG : Nat := 0x300208
/-- PRESS_STREAM_GRAINS, R190 (RO). -/
def PRESS_STREAM_GRAINS : Nat := 0x300210
/-- PRESS_STREAM_RAW, R190 (RO). -/
def PRESS_STREAM_RAW : Nat := 0x300218
/-- PRESS_STREAM_SLOTS, R190 (RO). -/
def PRESS_STREAM_SLOTS : Nat := 0x300220
/-- PRESS_STREAM_TSEQ, R190 (RO). -/
def PRESS_STREAM_TSEQ : Nat := 0x300228
/-- PRESS_STREAM_HIST0–15, R190 (RO). -/
def PRESS_STREAM_HIST : Nat := 0x300280
/-- MILL_STATE, R208 (RO). -/
def MILL_STATE : Nat := 0x320000
/-- MILL_BYTES, R208 (RO). -/
def MILL_BYTES : Nat := 0x320008
/-- MILL_SWITCHES, R208 (RO). -/
def MILL_SWITCHES : Nat := 0x320010
/-- MILL_SPILLS, R208 (RO). -/
def MILL_SPILLS : Nat := 0x320018
/-- MILL_TAG_FAIL, R208 (RO). -/
def MILL_TAG_FAIL : Nat := 0x320020
/-- MILL_UNWRAP_FAIL, R208 (RO). -/
def MILL_UNWRAP_FAIL : Nat := 0x320028
/-- MILL_LAST_ERR, R208 (RO). -/
def MILL_LAST_ERR : Nat := 0x320030
/-- MILL_LAST_ERR_SEQ, R208 (RO). -/
def MILL_LAST_ERR_SEQ : Nat := 0x320038
/-- MILL_RNG, R208 (W1C). -/
def MILL_RNG : Nat := 0x320040
/-- MILL_KAT, R208 (RW). -/
def MILL_KAT : Nat := 0x320048
/-- MILL_LOCK_LIMIT, R208 (RW). -/
def MILL_LOCK_LIMIT : Nat := 0x320050
/-- MILL_CORE_SEL, R208 (RW). -/
def MILL_CORE_SEL : Nat := 0x320100
/-- MILL_CORE, R208 (RO). -/
def MILL_CORE : Nat := 0x320108
/-- MILL_CORE_CTL, R208 (RW). -/
def MILL_CORE_CTL : Nat := 0x320110
/-- MILL_CORE_TESTED, R208 (RO). -/
def MILL_CORE_TESTED : Nat := 0x320118
/-- MILL_SLOT_SEL, R208 (RW). -/
def MILL_SLOT_SEL : Nat := 0x320200
/-- MILL_SLOT, R208 (RO). -/
def MILL_SLOT : Nat := 0x320208
/-- MILL_SLOT_ID, R208 (RO). -/
def MILL_SLOT_ID : Nat := 0x320210
/-- MILL_SLOT_SEQ, R208 (RO). -/
def MILL_SLOT_SEQ : Nat := 0x320218
/-- MILL_VAULT_SEL, R208 (RW). -/
def MILL_VAULT_SEL : Nat := 0x320300
/-- MILL_VAULT, R208 (RO). -/
def MILL_VAULT : Nat := 0x320308
/-- ASSAY_STATE, R224 (RO). -/
def ASSAY_STATE : Nat := 0x340000
/-- ASSAY_BYTES, R224 (RO). -/
def ASSAY_BYTES : Nat := 0x340008
/-- ASSAY_LENGTH_FAIL, R224 (RO). -/
def ASSAY_LENGTH_FAIL : Nat := 0x340010
/-- ASSAY_NO_HELD, R224 (RO). -/
def ASSAY_NO_HELD : Nat := 0x340018
/-- ASSAY_LAST_ERR, R224 (RO). -/
def ASSAY_LAST_ERR : Nat := 0x340020
/-- ASSAY_LAST_ERR_SEQ, R224 (RO). -/
def ASSAY_LAST_ERR_SEQ : Nat := 0x340028
/-- ASSAY_KAT, R224 (RW). -/
def ASSAY_KAT : Nat := 0x340030
/-- ASSAY_LANE_SEL, R224 (RW). -/
def ASSAY_LANE_SEL : Nat := 0x340038
/-- ASSAY_LANE, R224 (RO). -/
def ASSAY_LANE : Nat := 0x340040
/-- ASSAY_LANE_CTL, R224 (RW). -/
def ASSAY_LANE_CTL : Nat := 0x340048
/-- ASSAY_HMi_k, R224 (RO). -/
def ASSAY_HM : Nat := 0x340100
/-- ASSAY_HM_COUNT0–7, R224 (RO). -/
def ASSAY_HM_COUNT : Nat := 0x340300
/-- ASSAY_HM_SEQ0–7, R224 (RO). -/
def ASSAY_HM_SEQ : Nat := 0x340340
/-- ASSAY_DMA_CTL, R224 (RW). -/
def ASSAY_DMA_CTL : Nat := 0x340400
/-- ASSAY_DMA_ADDR, R224 (RW). -/
def ASSAY_DMA_ADDR : Nat := 0x340408
/-- ASSAY_DMA_LEN, R224 (RW). -/
def ASSAY_DMA_LEN : Nat := 0x340410
/-- ASSAY_DMA_COUNT, R224 (RO). -/
def ASSAY_DMA_COUNT : Nat := 0x340418
/-- ASSAY_FEED, R224 (WO). -/
def ASSAY_FEED : Nat := 0x340420
/-- ASSAY_FEED_TAIL, R224 (WO). -/
def ASSAY_FEED_TAIL : Nat := 0x340428
/-- ASSAY_DIGEST0–7, R224 (RO). -/
def ASSAY_DIGEST : Nat := 0x340440
/-- ASSAY_EXPECT0–7, R224 (RW). -/
def ASSAY_EXPECT : Nat := 0x340500
/-- ASSAY_CMP_CTL, R224 (RW). -/
def ASSAY_CMP_CTL : Nat := 0x340540
/-- ASSAY_CMP_RESULT, R224 (RO). -/
def ASSAY_CMP_RESULT : Nat := 0x340548
/-- TALLY_STATE, R225 (RO). -/
def TALLY_STATE : Nat := 0x360000
/-- TALLY_MISMATCH, R225 (W1C). -/
def TALLY_MISMATCH : Nat := 0x360008
/-- TALLY_IRQ_EN, R225 (RW). -/
def TALLY_IRQ_EN : Nat := 0x360010
/-- TALLY_INLINE_ERR, R225 (RO). -/
def TALLY_INLINE_ERR : Nat := 0x360018
/-- TALLY_PI_FAIL, R225 (RO). -/
def TALLY_PI_FAIL : Nat := 0x360020
/-- TALLY_CLAIM, R225 (RW). -/
def TALLY_CLAIM : Nat := 0x360028
/-- TALLY_U_CFG, R225 (RW). -/
def TALLY_U_CFG : Nat := 0x361000
/-- TALLY_U_VALUE, R225 (RW). -/
def TALLY_U_VALUE : Nat := 0x361008
/-- TALLY_U_EXPECT, R225 (RW). -/
def TALLY_U_EXPECT : Nat := 0x361010
/-- TALLY_U_FEED_B, R225 (WO). -/
def TALLY_U_FEED_B : Nat := 0x361018
/-- TALLY_U_FEED_H, R225 (WO). -/
def TALLY_U_FEED_H : Nat := 0x361020
/-- TALLY_U_FEED_W, R225 (WO). -/
def TALLY_U_FEED_W : Nat := 0x361028
/-- TALLY_U_FEED_D, R225 (WO). -/
def TALLY_U_FEED_D : Nat := 0x361030
/-- TALLY_U_CTL, R225 (RW). -/
def TALLY_U_CTL : Nat := 0x361038
/-- SIEVE_STATE, R251 (RO). -/
def SIEVE_STATE : Nat := 0x380000
/-- SIEVE_CFG, R251 (RW). -/
def SIEVE_CFG : Nat := 0x380008
/-- SIEVE_LOOKUPS, R251 (RO). -/
def SIEVE_LOOKUPS : Nat := 0x380010
/-- SIEVE_HITS, R251 (RO). -/
def SIEVE_HITS : Nat := 0x380018
/-- SIEVE_FILTER_FALSE, R251 (RO). -/
def SIEVE_FILTER_FALSE : Nat := 0x380020
/-- SIEVE_UNAVAIL, R251 (RO). -/
def SIEVE_UNAVAIL : Nat := 0x380028
/-- SIEVE_SKIPPED, R251 (RO). -/
def SIEVE_SKIPPED : Nat := 0x380030
/-- SIEVE_SLOTS_SAVED, R251 (RO). -/
def SIEVE_SLOTS_SAVED : Nat := 0x380038
/-- SIEVE_EPOCH, R251 (RO). -/
def SIEVE_EPOCH : Nat := 0x380040
/-- SIEVE_VOL_SEL, R251 (RW). -/
def SIEVE_VOL_SEL : Nat := 0x380100
/-- SIEVE_VOL_CFG, R251 (RW). -/
def SIEVE_VOL_CFG : Nat := 0x380108
/-- SIEVE_VOL_SNAPS, R251 (RO). -/
def SIEVE_VOL_SNAPS : Nat := 0x380110
/-- SIEVE_SNAP_CTL, R251 (RW). -/
def SIEVE_SNAP_CTL : Nat := 0x380200
/-- SIEVE_SNAP_ARG, R251 (RW). -/
def SIEVE_SNAP_ARG : Nat := 0x380208
/-- SIEVE_SNAP_SET0–15, R251 (RW). -/
def SIEVE_SNAP_SET : Nat := 0x380240
/-- SIEVE_SNAP_SEL, R251 (RW). -/
def SIEVE_SNAP_SEL : Nat := 0x380300
/-- SIEVE_SNAP_INFO, R251 (RO). -/
def SIEVE_SNAP_INFO : Nat := 0x380308
/-- SIEVE_REPL_SEL, R251 (RW). -/
def SIEVE_REPL_SEL : Nat := 0x380400
/-- SIEVE_REPL_CFG, R251 (RW). -/
def SIEVE_REPL_CFG : Nat := 0x380408
/-- SIEVE_REPL_PEER, R251 (RW). -/
def SIEVE_REPL_PEER : Nat := 0x380410
/-- SIEVE_REPL_STATE, R251 (RO). -/
def SIEVE_REPL_STATE : Nat := 0x380418
/-- SIEVE_REPL_EPOCHS, R251 (RO). -/
def SIEVE_REPL_EPOCHS : Nat := 0x380420
/-- SIEVE_REPL_BYTES, R251 (RO). -/
def SIEVE_REPL_BYTES : Nat := 0x380428
/-- SIEVE_REPL_LAG, R251 (RO). -/
def SIEVE_REPL_LAG : Nat := 0x380430
/-- SIEVE_REPL_CTL, R251 (RW). -/
def SIEVE_REPL_CTL : Nat := 0x380438
/-- TILL_STATE, R272 (RO). -/
def TILL_STATE : Nat := 0x400000
/-- TILL_DIRTY, R272 (RO). -/
def TILL_DIRTY : Nat := 0x400008
/-- TILL_MIRROR, R272 (RO). -/
def TILL_MIRROR : Nat := 0x400010
/-- TILL_CLEAN, R272 (RO). -/
def TILL_CLEAN : Nat := 0x400018
/-- TILL_LIMIT, R272 (RO). -/
def TILL_LIMIT : Nat := 0x400020
/-- TILL_BUDGET, R272 (RO). -/
def TILL_BUDGET : Nat := 0x400028
/-- TILL_BUDGET_IN, R272 (RO). -/
def TILL_BUDGET_IN : Nat := 0x400030
/-- TILL_BUDGET_CFG, R272 (RW). -/
def TILL_BUDGET_CFG : Nat := 0x400038
/-- TILL_WAITS, R272 (RO). -/
def TILL_WAITS : Nat := 0x400040
/-- TILL_WAIT_US, R272 (RO). -/
def TILL_WAIT_US : Nat := 0x400048
/-- TILL_REGIONS, R272 (RO). -/
def TILL_REGIONS : Nat := 0x400050
/-- TILL_LAST_HOLDUP, R272 (RO). -/
def TILL_LAST_HOLDUP : Nat := 0x400058
/-- TILL_LAST_HOLDUP_SEQ, R272 (RO). -/
def TILL_LAST_HOLDUP_SEQ : Nat := 0x400060
/-- TILL_CF_STATE, R272 (RO). -/
def TILL_CF_STATE : Nat := 0x400100
/-- TILL_CF_TX_STUBS, R272 (RO). -/
def TILL_CF_TX_STUBS : Nat := 0x400108
/-- TILL_CF_RX_STUBS, R272 (RO). -/
def TILL_CF_RX_STUBS : Nat := 0x400110
/-- TILL_CF_RESENDS, R272 (RO). -/
def TILL_CF_RESENDS : Nat := 0x400118
/-- TILL_CF_ERR, R272 (RO). -/
def TILL_CF_ERR : Nat := 0x400120
/-- TILL_CF_LATENCY, R272 (RO). -/
def TILL_CF_LATENCY : Nat := 0x400128
/-- TILL_CF_TX_BYTES, R272 (RO). -/
def TILL_CF_TX_BYTES : Nat := 0x400130
/-- TILL_CF_CTL, R272 (RW). -/
def TILL_CF_CTL : Nat := 0x400138
/-- STEWARD_MAP_STATE, R292 (RO). -/
def STEWARD_MAP_STATE : Nat := 0x500000
/-- STEWARD_MAP_CFG, R292 (RW). -/
def STEWARD_MAP_CFG : Nat := 0x500008
/-- STEWARD_MAP_HITS, R292 (RO). -/
def STEWARD_MAP_HITS : Nat := 0x500010
/-- STEWARD_MAP_MISSES, R292 (RO). -/
def STEWARD_MAP_MISSES : Nat := 0x500018
/-- STEWARD_MAP_WRITEBACKS, R292 (RO). -/
def STEWARD_MAP_WRITEBACKS : Nat := 0x500020
/-- STEWARD_GROUPS, R292 (RO). -/
def STEWARD_GROUPS : Nat := 0x500028
/-- STEWARD_GROUPS_DISCARDED, R292 (RO). -/
def STEWARD_GROUPS_DISCARDED : Nat := 0x500030
/-- STEWARD_SPLITS, R292 (RO). -/
def STEWARD_SPLITS : Nat := 0x500038
/-- STEWARD_ROOT_ENTRIES, R292 (RO). -/
def STEWARD_ROOT_ENTRIES : Nat := 0x500040
/-- STEWARD_OVERLAY, R292 (RO). -/
def STEWARD_OVERLAY : Nat := 0x500048
/-- STEWARD_CMN_SEL, R292 (RW). -/
def STEWARD_CMN_SEL : Nat := 0x500100
/-- STEWARD_DB_LSN, R292 (RO). -/
def STEWARD_DB_LSN : Nat := 0x500108
/-- STEWARD_DB_FLASH_LSN, R292 (RO). -/
def STEWARD_DB_FLASH_LSN : Nat := 0x500110
/-- STEWARD_DB_REPLAY_LSN, R292 (RO). -/
def STEWARD_DB_REPLAY_LSN : Nat := 0x500118
/-- STEWARD_DB_SINCE, R292 (RO). -/
def STEWARD_DB_SINCE : Nat := 0x500120
/-- STEWARD_CKPT_CTL, R292 (RW). -/
def STEWARD_CKPT_CTL : Nat := 0x500128
/-- STEWARD_CKPT_SEQ, R292 (RO). -/
def STEWARD_CKPT_SEQ : Nat := 0x500130
/-- STEWARD_ANCHOR, R292 (RO). -/
def STEWARD_ANCHOR : Nat := 0x500138
/-- STEWARD_RECOVERY, R292 (RO). -/
def STEWARD_RECOVERY : Nat := 0x500200
/-- STEWARD_RECOVERY_GROUPS, R292 (RO). -/
def STEWARD_RECOVERY_GROUPS : Nat := 0x500208
/-- STEWARD_RECOVERY_SCAN, R292 (RO). -/
def STEWARD_RECOVERY_SCAN : Nat := 0x500210
/-- STEWARD_RECOVERY_SEQ, R292 (RO). -/
def STEWARD_RECOVERY_SEQ : Nat := 0x500218
/-- STEWARD_MEDIA_STATE, R325 (RO). -/
def STEWARD_MEDIA_STATE : Nat := 0x501000
/-- STEWARD_MEDIA_CFG, R325 (RW). -/
def STEWARD_MEDIA_CFG : Nat := 0x501008
/-- STEWARD_GRANARY_CFG, R325 (RW). -/
def STEWARD_GRANARY_CFG : Nat := 0x501010
/-- STEWARD_CAL_CFG, R325 (RW). -/
def STEWARD_CAL_CFG : Nat := 0x501018
/-- STEWARD_SLC_SIZE, R325 (RO). -/
def STEWARD_SLC_SIZE : Nat := 0x501020
/-- STEWARD_SLC_USED, R325 (RO). -/
def STEWARD_SLC_USED : Nat := 0x501028
/-- STEWARD_SLC_TAKE_RSV, R325 (RO). -/
def STEWARD_SLC_TAKE_RSV : Nat := 0x501030
/-- STEWARD_POOL_FILL, R325 (RO). -/
def STEWARD_POOL_FILL : Nat := 0x501038
/-- STEWARD_FOLD_RATE, R325 (RO). -/
def STEWARD_FOLD_RATE : Nat := 0x501040
/-- STEWARD_FOLDS, R325 (RO). -/
def STEWARD_FOLDS : Nat := 0x501048
/-- STEWARD_GLEAN_RATE, R325 (RO). -/
def STEWARD_GLEAN_RATE : Nat := 0x501050
/-- STEWARD_GLEANED, R325 (RO). -/
def STEWARD_GLEANED : Nat := 0x501058
/-- STEWARD_CMN_FREE, R325 (RO). -/
def STEWARD_CMN_FREE : Nat := 0x501100
/-- STEWARD_CMN_GRANARY, R325 (RO). -/
def STEWARD_CMN_GRANARY : Nat := 0x501108
/-- STEWARD_CMN_GROWN_BAD, R325 (RO). -/
def STEWARD_CMN_GROWN_BAD : Nat := 0x501110
/-- STEWARD_CMN_THIN, R325 (RO). -/
def STEWARD_CMN_THIN : Nat := 0x501118
/-- STEWARD_VOL_SEL, R325 (RW). -/
def STEWARD_VOL_SEL : Nat := 0x501200
/-- STEWARD_VOL_MEDIA, R325 (RW). -/
def STEWARD_VOL_MEDIA : Nat := 0x501208
/-- STEWARD_SECURE, R325 (RO). -/
def STEWARD_SECURE : Nat := 0x501210
/-- STEWARD_SECURE_SEQ, R325 (RO). -/
def STEWARD_SECURE_SEQ : Nat := 0x501218
/-- STEWARD_SECURE_UNERASED, R325 (RO). -/
def STEWARD_SECURE_UNERASED : Nat := 0x501220
/-- SLED_READY, R326 (RO). -/
def SLED_READY : Nat := 0x580000
/-- SLED_FAILED, R326 (RO). -/
def SLED_FAILED : Nat := 0x580008
/-- SLED_TIMEOUT, R326 (RW). -/
def SLED_TIMEOUT : Nat := 0x580010
/-- SLED_SEL, R326 (RW). -/
def SLED_SEL : Nat := 0x580100
/-- SLED_STATE, R326 (RO). -/
def SLED_STATE : Nat := 0x580108
/-- SLED_GEOM, R326 (RO). -/
def SLED_GEOM : Nat := 0x580110
/-- SLED_LABEL, R326 (RO). -/
def SLED_LABEL : Nat := 0x580118
/-- SLED_OWN_CMN, R326 (RW). -/
def SLED_OWN_CMN : Nat := 0x580120
/-- SLED_OWN_EPOCH, R326 (RO). -/
def SLED_OWN_EPOCH : Nat := 0x580128
/-- SLED_CMDS, R326 (RO). -/
def SLED_CMDS : Nat := 0x580130
/-- SLED_ERRORS, R326 (RO). -/
def SLED_ERRORS : Nat := 0x580138
/-- SLED_TEMP, R326 (RO). -/
def SLED_TEMP : Nat := 0x580140
/-- SLED_CTL, R326 (RW). -/
def SLED_CTL : Nat := 0x580148
/-- HOLD_STATE, R353 (RO). -/
def HOLD_STATE : Nat := 0x600000
/-- HOLD_CFG, R353 (RW). -/
def HOLD_CFG : Nat := 0x600008
/-- HOLD_REBUILD_RATE, R353 (RO). -/
def HOLD_REBUILD_RATE : Nat := 0x600010
/-- HOLD_REBUILD_DONE, R353 (RO). -/
def HOLD_REBUILD_DONE : Nat := 0x600018
/-- HOLD_DEGRADED_READS, R353 (RO). -/
def HOLD_DEGRADED_READS : Nat := 0x600020
/-- HOLD_WATCH_SHEAVES, R353 (RO). -/
def HOLD_WATCH_SHEAVES : Nat := 0x600028
/-- HOLD_WATCH_REPAIRS, R353 (RO). -/
def HOLD_WATCH_REPAIRS : Nat := 0x600030
/-- HOLD_SCAR_COUNT, R353 (RO). -/
def HOLD_SCAR_COUNT : Nat := 0x600038
/-- HOLD_CTL, R353 (RW). -/
def HOLD_CTL : Nat := 0x600040
/-- HOLD_CTL_ARG, R353 (RW). -/
def HOLD_CTL_ARG : Nat := 0x600048
/-- HOLD_CMN_SEL, R353 (RW). -/
def HOLD_CMN_SEL : Nat := 0x600100
/-- HOLD_CMN, R353 (RO). -/
def HOLD_CMN : Nat := 0x600108
/-- HOLD_CMN_RECORD, R353 (RO). -/
def HOLD_CMN_RECORD : Nat := 0x600110
/-- HOLD_CMN_SPARE, R353 (RO). -/
def HOLD_CMN_SPARE : Nat := 0x600118
/-- HOLD_CMN_REBUILD, R353 (RO). -/
def HOLD_CMN_REBUILD : Nat := 0x600120
/-- HOLD_CMN_DUE, R353 (RO). -/
def HOLD_CMN_DUE : Nat := 0x600128
/-- HOLD_CMN_LEDGER, R353 (RO). -/
def HOLD_CMN_LEDGER : Nat := 0x600130
/-- HOLD_CMN_WATCH, R353 (RO). -/
def HOLD_CMN_WATCH : Nat := 0x600138
/-- HOLD_CMN_RESYNC, R353 (RO). -/
def HOLD_CMN_RESYNC : Nat := 0x600140
/-- HOLD_SCAR_SEL, R353 (RW). -/
def HOLD_SCAR_SEL : Nat := 0x600200
/-- HOLD_SCAR_ADDR, R353 (RO). -/
def HOLD_SCAR_ADDR : Nat := 0x600208
/-- HOLD_SCAR_INFO, R353 (RO). -/
def HOLD_SCAR_INFO : Nat := 0x600210
/-- HOLD_MEMBER_SEL, R353 (RW). -/
def HOLD_MEMBER_SEL : Nat := 0x600300
/-- HOLD_MEMBER, R353 (RO). -/
def HOLD_MEMBER : Nat := 0x600308
/-- CARRIER_STATE, R376 (RO). -/
def CARRIER_STATE : Nat := 0x140000
/-- CARRIER_CFG, R376 (RW). -/
def CARRIER_CFG : Nat := 0x140008
/-- CARRIER_RX_MSGS, R376 (RO). -/
def CARRIER_RX_MSGS : Nat := 0x140010
/-- CARRIER_TX_MSGS, R376 (RO). -/
def CARRIER_TX_MSGS : Nat := 0x140018
/-- CARRIER_DUPS, R376 (RO). -/
def CARRIER_DUPS : Nat := 0x140020
/-- CARRIER_RESENDS, R376 (RO). -/
def CARRIER_RESENDS : Nat := 0x140028
/-- CARRIER_TAG_FAIL, R376 (RO). -/
def CARRIER_TAG_FAIL : Nat := 0x140030
/-- CARRIER_EVICTIONS, R376 (RO). -/
def CARRIER_EVICTIONS : Nat := 0x140038
/-- CARRIER_LAST_ERR, R376 (RO). -/
def CARRIER_LAST_ERR : Nat := 0x140040
/-- CARRIER_LAST_ERR_SEQ, R376 (RO). -/
def CARRIER_LAST_ERR_SEQ : Nat := 0x140048
/-- CARRIER_KEYMAP0–1, R376 (RW). -/
def CARRIER_KEYMAP : Nat := 0x140050
/-- CARRIER_PEER_SEL, R376 (RW). -/
def CARRIER_PEER_SEL : Nat := 0x140100
/-- CARRIER_PEER, R376 (RO). -/
def CARRIER_PEER : Nat := 0x140108
/-- CARRIER_PEER_NODE, R376 (RO). -/
def CARRIER_PEER_NODE : Nat := 0x140110
/-- CARRIER_PEER_EPOCHS, R376 (RO). -/
def CARRIER_PEER_EPOCHS : Nat := 0x140118
/-- CARRIER_PEER_WINDOW, R376 (RO). -/
def CARRIER_PEER_WINDOW : Nat := 0x140120
/-- CARRIER_PEER_RATE, R376 (RO). -/
def CARRIER_PEER_RATE : Nat := 0x140128
/-- CARRIER_PEER_FEAT, R376 (RO). -/
def CARRIER_PEER_FEAT : Nat := 0x140130
/-- CARRIER_PEER_CTL, R376 (RW). -/
def CARRIER_PEER_CTL : Nat := 0x140138
/-- CARRIER_REG_SEL, R376 (RW). -/
def CARRIER_REG_SEL : Nat := 0x140200
/-- CARRIER_REG_HANDLE, R376 (RO). -/
def CARRIER_REG_HANDLE : Nat := 0x140208
/-- CARRIER_REG_INFO, R376 (RO). -/
def CARRIER_REG_INFO : Nat := 0x140210
/-- CARRIER_REG_BASE, R376 (RW). -/
def CARRIER_REG_BASE : Nat := 0x140218
/-- CARRIER_REG_PEER, R376 (RW). -/
def CARRIER_REG_PEER : Nat := 0x140220
/-- CARRIER_REG_CTL, R376 (RW). -/
def CARRIER_REG_CTL : Nat := 0x140228
/-- CARRIER_REG_REVOKE_SEQ, R376 (RO). -/
def CARRIER_REG_REVOKE_SEQ : Nat := 0x140230
/-- FABRIC_CFG, R377 (RW). -/
def FABRIC_CFG : Nat := 0x180000
/-- FABRIC_LINK, R377 (RO). -/
def FABRIC_LINK : Nat := 0x180008
/-- FABRIC_Pp_MAC, R377 (RO). -/
def FABRIC_P_MAC : Nat := 0x180100
/-- FABRIC_Pp_RX_BYTES, R377 (RO). -/
def FABRIC_P_RX_BYTES : Nat := 0x180108
/-- FABRIC_Pp_TX_BYTES, R377 (RO). -/
def FABRIC_P_TX_BYTES : Nat := 0x180110
/-- FABRIC_Pp_CE, R377 (RO). -/
def FABRIC_P_CE : Nat := 0x180118
/-- FABRIC_Pp_ERR, R377 (RO). -/
def FABRIC_P_ERR : Nat := 0x180120
/-- FABRIC_SADDR_SEL, R377 (RW). -/
def FABRIC_SADDR_SEL : Nat := 0x180400
/-- FABRIC_SADDR_CFG, R377 (RW). -/
def FABRIC_SADDR_CFG : Nat := 0x180408
/-- FABRIC_SADDR_V6_HI, R377 (RW). -/
def FABRIC_SADDR_V6_HI : Nat := 0x180410
/-- FABRIC_SADDR_V6_LO, R377 (RW). -/
def FABRIC_SADDR_V6_LO : Nat := 0x180418
/-- FABRIC_SADDR_STATE, R377 (RO). -/
def FABRIC_SADDR_STATE : Nat := 0x180420
/-- MAGPORT_SUMMARY, R401 (RO). -/
def MAGPORT_SUMMARY : Nat := 0x1C0000
/-- MAGPORT_TIMERS, R401 (RW). -/
def MAGPORT_TIMERS : Nat := 0x1C0008
/-- MAGPORT_Pp_CFG, R401 (RW). -/
def MAGPORT_P_CFG : Nat := 0x1C0100
/-- MAGPORT_Pp_LINK, R401 (RO). -/
def MAGPORT_P_LINK : Nat := 0x1C0108
/-- MAGPORT_Pp_FEAT, R401 (RO). -/
def MAGPORT_P_FEAT : Nat := 0x1C0110
/-- MAGPORT_Pp_FOLIOS_RX, R401 (RO). -/
def MAGPORT_P_FOLIOS_RX : Nat := 0x1C0118
/-- MAGPORT_Pp_FOLIOS_TX, R401 (RO). -/
def MAGPORT_P_FOLIOS_TX : Nat := 0x1C0120
/-- MAGPORT_Pp_SYNC, R401 (RO). -/
def MAGPORT_P_SYNC : Nat := 0x1C0128
/-- MAGPORT_Pp_RESEND, R401 (RO). -/
def MAGPORT_P_RESEND : Nat := 0x1C0130
/-- MAGPORT_Pp_ERR, R401 (RO). -/
def MAGPORT_P_ERR : Nat := 0x1C0138
/-- MAGPORT_Pp_TWIN, R401 (RO). -/
def MAGPORT_P_TWIN : Nat := 0x1C0140
/-- MAGPORT_Pp_CTL, R401 (RW). -/
def MAGPORT_P_CTL : Nat := 0x1C0148
/-- MAGPORT_Pp_TASK_SEL, R401 (RW). -/
def MAGPORT_P_TASK_SEL : Nat := 0x1C0150
/-- MAGPORT_Pp_TASK, R401 (RO). -/
def MAGPORT_P_TASK : Nat := 0x1C0158
/-- MAGPORT_Pp_INGEST_CTL, R401 (RW). -/
def MAGPORT_P_INGEST_CTL : Nat := 0x1C0180
/-- MAGPORT_Pp_INGEST_TARGET, R401 (RW). -/
def MAGPORT_P_INGEST_TARGET : Nat := 0x1C0188
/-- MAGPORT_Pp_INGEST_REPORT, R401 (RW). -/
def MAGPORT_P_INGEST_REPORT : Nat := 0x1C0190
/-- MAGPORT_Pp_INGEST_PROGRESS, R401 (RO). -/
def MAGPORT_P_INGEST_PROGRESS : Nat := 0x1C0198
/-- MAGPORT_Pp_INGEST_BYTES, R401 (RO). -/
def MAGPORT_P_INGEST_BYTES : Nat := 0x1C01A0
/-- MAGPORT_Pp_INGEST_OUTCOMES, R401 (RO). -/
def MAGPORT_P_INGEST_OUTCOMES : Nat := 0x1C01A8
/-- MAGPORT_Pp_REPORT_LEN, R401 (RO). -/
def MAGPORT_P_REPORT_LEN : Nat := 0x1C01B0
/-- MAGPORT_Pp_REPORT_SEL, R401 (RW). -/
def MAGPORT_P_REPORT_SEL : Nat := 0x1C01B8
/-- MAGPORT_Pp_REPORT_DATA, R401 (RO). -/
def MAGPORT_P_REPORT_DATA : Nat := 0x1C01C0
/-- MAGPORT_Pp_REPORT_SEQ, R401 (RO). -/
def MAGPORT_P_REPORT_SEQ : Nat := 0x1C01C8
/-- COUNCIL_STATE, R423 (RO). -/
def COUNCIL_STATE : Nat := 0x80000
/-- COUNCIL_CFG, R423 (RW). -/
def COUNCIL_CFG : Nat := 0x80008
/-- COUNCIL_DECISIONS, R423 (RO). -/
def COUNCIL_DECISIONS : Nat := 0x80010
/-- COUNCIL_DISSENT, R423 (RO). -/
def COUNCIL_DISSENT : Nat := 0x80018
/-- COUNCIL_LAST_DISSENT, R423 (RO). -/
def COUNCIL_LAST_DISSENT : Nat := 0x80020
/-- COUNCIL_LAST_DISSENT_SEQ, R423 (RO). -/
def COUNCIL_LAST_DISSENT_SEQ : Nat := 0x80028
/-- COUNCIL_CORE_SEL, R423 (RW). -/
def COUNCIL_CORE_SEL : Nat := 0x80030
/-- COUNCIL_CORE, R423 (RO). -/
def COUNCIL_CORE : Nat := 0x80038
/-- COUNCIL_CORE_CTL, R423 (RW). -/
def COUNCIL_CORE_CTL : Nat := 0x80040
/-- COUNCIL_PAIR, R423 (RO). -/
def COUNCIL_PAIR : Nat := 0x80100
/-- COUNCIL_SWITCH, R423 (RO). -/
def COUNCIL_SWITCH : Nat := 0x80108
/-- COUNCIL_SWITCH_SEQ, R423 (RO). -/
def COUNCIL_SWITCH_SEQ : Nat := 0x80110
/-- COUNCIL_FAILBACK, R423 (RO). -/
def COUNCIL_FAILBACK : Nat := 0x80118
/-- COUNCIL_DRILL_CFG, R423 (RW). -/
def COUNCIL_DRILL_CFG : Nat := 0x80200
/-- COUNCIL_DRILL_CTL, R423 (RW). -/
def COUNCIL_DRILL_CTL : Nat := 0x80208
/-- COUNCIL_DRILL_RESULT, R423 (RO). -/
def COUNCIL_DRILL_RESULT : Nat := 0x80210
/-- COUNCIL_DRILL_SEQ, R423 (RO). -/
def COUNCIL_DRILL_SEQ : Nat := 0x80218
/-- LARDER_STATE, R437 (RO). -/
def LARDER_STATE : Nat := 0x480000
/-- LARDER_CTL, R437 (RW). -/
def LARDER_CTL : Nat := 0x480008
/-- LARDER_HITS, R437 (RO). -/
def LARDER_HITS : Nat := 0x480010
/-- LARDER_MISSES, R437 (RO). -/
def LARDER_MISSES : Nat := 0x480018
/-- LARDER_EVICT_DIRTY, R437 (RO). -/
def LARDER_EVICT_DIRTY : Nat := 0x480020
/-- LARDER_ECC, R437 (RO). -/
def LARDER_ECC : Nat := 0x480028
/-- LARDER_POISON, R437 (RO). -/
def LARDER_POISON : Nat := 0x480030
/-- LARDER_LAST_ERR, R437 (RO). -/
def LARDER_LAST_ERR : Nat := 0x480038
/-- LARDER_LAST_ERR_SEQ, R437 (RO). -/
def LARDER_LAST_ERR_SEQ : Nat := 0x480040
/-- LARDER_MAINT_ADDR, R437 (RW). -/
def LARDER_MAINT_ADDR : Nat := 0x480048
/-- LARDER_MAINT_LEN, R437 (RW). -/
def LARDER_MAINT_LEN : Nat := 0x480050
/-- LARDER_MAINT_CTL, R437 (RW). -/
def LARDER_MAINT_CTL : Nat := 0x480058
/-- LARDER_WAYS, R437 (RW). -/
def LARDER_WAYS : Nat := 0x480060
/-- LARDER_BANK_SEL, R437 (RW). -/
def LARDER_BANK_SEL : Nat := 0x480100
/-- LARDER_BANK, R437 (RO). -/
def LARDER_BANK : Nat := 0x480108
/-- LARDER_BANK_CTL, R437 (RW). -/
def LARDER_BANK_CTL : Nat := 0x480110
/-- HBM_STATE, R438 (RO). -/
def HBM_STATE : Nat := 0x4C0000
/-- HBM_TEMP, R438 (RO). -/
def HBM_TEMP : Nat := 0x4C0008
/-- HBM_ECC, R438 (RO). -/
def HBM_ECC : Nat := 0x4C0010
/-- HBM_LAST_ERR, R438 (RO). -/
def HBM_LAST_ERR : Nat := 0x4C0018
/-- HBM_LAST_ERR_SEQ, R438 (RO). -/
def HBM_LAST_ERR_SEQ : Nat := 0x4C0020
/-- HBM_REMAP_CFG, R438 (RW). -/
def HBM_REMAP_CFG : Nat := 0x4C0028
/-- HBM_CH_SEL, R438 (RW). -/
def HBM_CH_SEL : Nat := 0x4C0100
/-- HBM_CH, R438 (RO). -/
def HBM_CH : Nat := 0x4C0108
/-- HBM_ROW_CTL, R438 (RW). -/
def HBM_ROW_CTL : Nat := 0x4C0110
/-- STRONG_STATE, R460 (RO). -/
def STRONG_STATE : Nat := 0x60000
/-- STRONG_BOOT_CTL, R460 (RW). -/
def STRONG_BOOT_CTL : Nat := 0x60008
/-- STRONG_BOOT_SEL, R460 (RW). -/
def STRONG_BOOT_SEL : Nat := 0x60010
/-- STRONG_BOOT_ENTRY, R460 (RO). -/
def STRONG_BOOT_ENTRY : Nat := 0x60018
/-- STRONG_BOOT_ALT, R460 (RO). -/
def STRONG_BOOT_ALT : Nat := 0x60020
/-- STRONG_BOOT_SKIP, R460 (RO). -/
def STRONG_BOOT_SKIP : Nat := 0x60028
/-- STRONG_FW_CTL, R460 (RW). -/
def STRONG_FW_CTL : Nat := 0x60030
/-- STRONG_FW_BLK, R460 (RW). -/
def STRONG_FW_BLK : Nat := 0x60038
/-- STRONG_FW_DATA, R460 (WO). -/
def STRONG_FW_DATA : Nat := 0x60040
/-- STRONG_FW_COUNT, R460 (RO). -/
def STRONG_FW_COUNT : Nat := 0x60048
/-- STRONG_FW_BANKA, R460 (RO). -/
def STRONG_FW_BANKA : Nat := 0x60050
/-- STRONG_FW_BANKB, R460 (RO). -/
def STRONG_FW_BANKB : Nat := 0x60058
/-- STRONG_FW_SECV, R460 (RO). -/
def STRONG_FW_SECV : Nat := 0x60060
/-- STRONG_FW_CFG, R460 (RW). -/
def STRONG_FW_CFG : Nat := 0x60068
/-- STRONG_ROLL_CTL, R460 (RW). -/
def STRONG_ROLL_CTL : Nat := 0x60070
/-- STRONG_ROLL_STATE, R460 (RO). -/
def STRONG_ROLL_STATE : Nat := 0x60078
/-- STRONG_QUOTE_NONCE0–7, R460 (RW). -/
def STRONG_QUOTE_NONCE : Nat := 0x60080
/-- STRONG_QUOTE_CTL, R460 (RW). -/
def STRONG_QUOTE_CTL : Nat := 0x600C0
/-- STRONG_QUOTE_SEL, R460 (RW). -/
def STRONG_QUOTE_SEL : Nat := 0x600C8
/-- STRONG_QUOTE_DATA, R460 (RO). -/
def STRONG_QUOTE_DATA : Nat := 0x600D0
/-- STRONG_CERT_LEN, R460 (RO). -/
def STRONG_CERT_LEN : Nat := 0x60100
/-- STRONG_CERT_SEL, R460 (RW). -/
def STRONG_CERT_SEL : Nat := 0x60108
/-- STRONG_CERT_DATA, R460 (RO). -/
def STRONG_CERT_DATA : Nat := 0x60110
/-- STRONG_ID_KEYID, R460 (RO). -/
def STRONG_ID_KEYID : Nat := 0x60118
/-- STRONG_KEY_CTL, R460 (RW). -/
def STRONG_KEY_CTL : Nat := 0x60200
/-- STRONG_KEY_LEN, R460 (RW). -/
def STRONG_KEY_LEN : Nat := 0x60208
/-- STRONG_KEY_DATA, R460 (WO). -/
def STRONG_KEY_DATA : Nat := 0x60210
/-- STRONG_KEY_OUT_SEL, R460 (RW). -/
def STRONG_KEY_OUT_SEL : Nat := 0x60218
/-- STRONG_KEY_OUT, R460 (RO). -/
def STRONG_KEY_OUT : Nat := 0x60220
/-- STRONG_VAULT_SEL, R460 (RW). -/
def STRONG_VAULT_SEL : Nat := 0x60228
/-- STRONG_VAULT_ID, R460 (RO). -/
def STRONG_VAULT_ID : Nat := 0x60230
/-- STRONG_OMK_ID, R460 (RO). -/
def STRONG_OMK_ID : Nat := 0x60238
/-- STRONG_AUTH_NONCE, R460 (RC). -/
def STRONG_AUTH_NONCE : Nat := 0x60300
/-- STRONG_AUTH_NONCE1–3, R460 (RO). -/
def STRONG_AUTH_NONCE1 : Nat := 0x60308
/-- STRONG_AUTH_LEN, R460 (RW). -/
def STRONG_AUTH_LEN : Nat := 0x60320
/-- STRONG_AUTH_DATA, R460 (WO). -/
def STRONG_AUTH_DATA : Nat := 0x60328
/-- REEVE_NOW, R486 (RO). -/
def REEVE_NOW : Nat := 0x20000
/-- REEVE_START, R486 (RO). -/
def REEVE_START : Nat := 0x20008
/-- REEVE_RATE, R486 (RO). -/
def REEVE_RATE : Nat := 0x20010
/-- REEVE_TIME, R486 (RO). -/
def REEVE_TIME : Nat := 0x20018
/-- REEVE_WALL, R486 (RW). -/
def REEVE_WALL : Nat := 0x20020
/-- REEVE_REEL_BASE, R486 (RO). -/
def REEVE_REEL_BASE : Nat := 0x20100
/-- REEVE_REEL_SEQ, R486 (RO). -/
def REEVE_REEL_SEQ : Nat := 0x20108
/-- REEVE_REEL_OLDEST, R486 (RO). -/
def REEVE_REEL_OLDEST : Nat := 0x20110
/-- REEVE_REEL_CTL, R486 (RW). -/
def REEVE_REEL_CTL : Nat := 0x20118
/-- REEVE_REEL_LOST, R486 (RO). -/
def REEVE_REEL_LOST : Nat := 0x20120
/-- REEVE_REPLAY, R486 (RO). -/
def REEVE_REPLAY : Nat := 0x20200
/-- REEVE_REPLAY_AT, R486 (RO). -/
def REEVE_REPLAY_AT : Nat := 0x20208
/-- REEVE_REPLAY_DIFF, R486 (RO). -/
def REEVE_REPLAY_DIFF : Nat := 0x20210
/-- REEVE_REPLAY_CTL, R486 (RW). -/
def REEVE_REPLAY_CTL : Nat := 0x20218
/-- PARISH_STATE, R487 (RO). -/
def PARISH_STATE : Nat := 0x30000
/-- PARISH_OLDEST, R487 (RO). -/
def PARISH_OLDEST : Nat := 0x30008
/-- PARISH_WRITTEN, R487 (RO). -/
def PARISH_WRITTEN : Nat := 0x30010
/-- PARISH_CLEAR, R487 (RW). -/
def PARISH_CLEAR : Nat := 0x30018
/-- PARISH_CLEARED_SEQ, R487 (RO). -/
def PARISH_CLEARED_SEQ : Nat := 0x30020
/-- PARISH_SNAP_CTL, R487 (RW). -/
def PARISH_SNAP_CTL : Nat := 0x30100
/-- PARISH_SNAP_INFO, R487 (RO). -/
def PARISH_SNAP_INFO : Nat := 0x30108
/-- PARISH_SNAP_SEQ, R487 (RO). -/
def PARISH_SNAP_SEQ : Nat := 0x30110
/-- PARISH_SNAP_SEL, R487 (RW). -/
def PARISH_SNAP_SEL : Nat := 0x30118
/-- PARISH_SNAP_DATA0–7, R487 (RO). -/
def PARISH_SNAP_DATA : Nat := 0x30120
/-- CRIER_STATE, R488 (RO). -/
def CRIER_STATE : Nat := 0x40000
/-- CRIER_CFG, R488 (RW). -/
def CRIER_CFG : Nat := 0x40008
/-- CRIER_TRACE_EN0–1, R488 (RW). -/
def CRIER_TRACE_EN : Nat := 0x40010
/-- CRIER_SENT0–2, R488 (RO). -/
def CRIER_SENT : Nat := 0x40020
/-- CRIER_COALESCED, R488 (RO). -/
def CRIER_COALESCED : Nat := 0x40038
/-- CRIER_HUSHED, R488 (RO). -/
def CRIER_HUSHED : Nat := 0x40040
/-- CRIER_DROPPED, R488 (RO). -/
def CRIER_DROPPED : Nat := 0x40048
/-- CRIER_RING_HEAD, R488 (RO). -/
def CRIER_RING_HEAD : Nat := 0x40100
/-- CRIER_RING_SEL, R488 (RW). -/
def CRIER_RING_SEL : Nat := 0x40108
/-- CRIER_RING_DATA0–7, R488 (RO). -/
def CRIER_RING_DATA : Nat := 0x40110
/-- COUNT_CYCLES0–6, R489 (RO). -/
def COUNT_CYCLES : Nat := 0x50000
/-- COUNT_LATCH, R489 (RW). -/
def COUNT_LATCH : Nat := 0x50040
/-- COUNT_LATCH_SEQ, R489 (RO). -/
def COUNT_LATCH_SEQ : Nat := 0x50048
/-- COUNT_SAMPLE_BASE, R489 (RO). -/
def COUNT_SAMPLE_BASE : Nat := 0x50050
/-- COUNT_SAMPLE_HEAD, R489 (RO). -/
def COUNT_SAMPLE_HEAD : Nat := 0x50058
/-- COUNT_SAMPLE_LOST, R489 (RO). -/
def COUNT_SAMPLE_LOST : Nat := 0x50060
/-- COUNT_Pn_CFG, R489 (RW). -/
def COUNT_P_CFG : Nat := 0x50100
/-- COUNT_Pn_VALUE, R489 (RW). -/
def COUNT_P_VALUE : Nat := 0x50108
/-- COUNT_Pn_SHADOW, R489 (RO). -/
def COUNT_P_SHADOW : Nat := 0x50110
/-- COUNT_Pn_PERIOD, R489 (RW). -/
def COUNT_P_PERIOD : Nat := 0x50118
/-- COUNT_OVF, R489 (W1C). -/
def COUNT_OVF : Nat := 0x50500
/-- COUNT_RUN, R489 (RW). -/
def COUNT_RUN : Nat := 0x50508
/-- WARDEN_GRADE, R508 (RO). -/
def WARDEN_GRADE : Nat := 0x10000
/-- WARDEN_VIN, R508 (RO). -/
def WARDEN_VIN : Nat := 0x10008
/-- WARDEN_POWER, R508 (RO). -/
def WARDEN_POWER : Nat := 0x10010
/-- WARDEN_TEMP, R508 (RO). -/
def WARDEN_TEMP : Nat := 0x10018
/-- WARDEN_BANK, R508 (RO). -/
def WARDEN_BANK : Nat := 0x10020
/-- WARDEN_BANK_MEAS, R508 (RO). -/
def WARDEN_BANK_MEAS : Nat := 0x10028
/-- WARDEN_BANK_SEQ, R508 (RO). -/
def WARDEN_BANK_SEQ : Nat := 0x10030
/-- WARDEN_BANK_CFG, R508 (RW). -/
def WARDEN_BANK_CFG : Nat := 0x10038
/-- WARDEN_BANK_CTL, R508 (RW). -/
def WARDEN_BANK_CTL : Nat := 0x10040
/-- WARDEN_CLOCKS, R508 (RO). -/
def WARDEN_CLOCKS : Nat := 0x10048
/-- WARDEN_TEST_CFG, R508 (RW). -/
def WARDEN_TEST_CFG : Nat := 0x10050
/-- WARDEN_TEST_CTL, R508 (RW). -/
def WARDEN_TEST_CTL : Nat := 0x10058
/-- WARDEN_TEST_STATE, R508 (RO). -/
def WARDEN_TEST_STATE : Nat := 0x10060
/-- WARDEN_LAST_EVENT, R508 (RO). -/
def WARDEN_LAST_EVENT : Nat := 0x10068
/-- WARDEN_LAST_EVENT_SEQ, R508 (RO). -/
def WARDEN_LAST_EVENT_SEQ : Nat := 0x10070
/-- WARDEN_SPARE_SEL, R508 (RW). -/
def WARDEN_SPARE_SEL : Nat := 0x10100
/-- WARDEN_SPARE, R508 (RO). -/
def WARDEN_SPARE : Nat := 0x10108
/-- WARDEN_SERDES_SEL, R508 (RW). -/
def WARDEN_SERDES_SEL : Nat := 0x10200
/-- WARDEN_SERDES, R508 (RO). -/
def WARDEN_SERDES : Nat := 0x10208
end R

namespace F
def IDENT_PART_ALL : Fld := ⟨R.IDENT_PART, 0, 64⟩
def IDENT_SERIAL_ALL : Fld := ⟨R.IDENT_SERIAL, 0, 64⟩
def IDENT_SLOT_SLOT : Fld := ⟨R.IDENT_SLOT, 0, 1⟩
def IDENT_POOL_ALL : Fld := ⟨R.IDENT_POOL, 0, 64⟩
def IDENT_MODE_SINCE : Fld := ⟨R.IDENT_MODE, 24, 40⟩
def IDENT_MODE_CAUSE : Fld := ⟨R.IDENT_MODE, 16, 8⟩
def IDENT_MODE_PREV : Fld := ⟨R.IDENT_MODE, 12, 4⟩
def IDENT_MODE_PARTNER : Fld := ⟨R.IDENT_MODE, 8, 1⟩
def IDENT_MODE_MODE : Fld := ⟨R.IDENT_MODE, 0, 4⟩
def IDENT_MODE_REQ_STATUS : Fld := ⟨R.IDENT_MODE_REQ, 48, 16⟩
def IDENT_MODE_REQ_BUSY : Fld := ⟨R.IDENT_MODE_REQ, 32, 1⟩
def IDENT_MODE_REQ_TARGET : Fld := ⟨R.IDENT_MODE_REQ, 0, 4⟩
def IDENT_MODE_SEQ_ALL : Fld := ⟨R.IDENT_MODE_SEQ, 0, 64⟩
def IDENT_FW_VERSION : Fld := ⟨R.IDENT_FW, 32, 32⟩
def IDENT_FW_BANK : Fld := ⟨R.IDENT_FW, 0, 1⟩
def IDENT_START_POWER_CYCLE : Fld := ⟨R.IDENT_START, 40, 24⟩
def IDENT_START_ALTERNATES : Fld := ⟨R.IDENT_START, 24, 16⟩
def IDENT_START_SKIPPED : Fld := ⟨R.IDENT_START, 16, 8⟩
def IDENT_START_STEP : Fld := ⟨R.IDENT_START, 8, 8⟩
def IDENT_START_STATE : Fld := ⟨R.IDENT_START, 0, 2⟩
def IDENT_MAP_ERR_ADDR : Fld := ⟨R.IDENT_MAP_ERR, 32, 32⟩
def IDENT_MAP_ERR_PATH : Fld := ⟨R.IDENT_MAP_ERR, 5, 1⟩
def IDENT_MAP_ERR_TORN : Fld := ⟨R.IDENT_MAP_ERR, 4, 1⟩
def IDENT_MAP_ERR_WIDTH : Fld := ⟨R.IDENT_MAP_ERR, 3, 1⟩
def IDENT_MAP_ERR_ALIGN : Fld := ⟨R.IDENT_MAP_ERR, 2, 1⟩
def IDENT_MAP_ERR_RSVD_ADDR : Fld := ⟨R.IDENT_MAP_ERR, 1, 1⟩
def IDENT_MAP_ERR_NOT_READY : Fld := ⟨R.IDENT_MAP_ERR, 0, 1⟩
def IDENT_JOIN_HOLDOFF : Fld := ⟨R.IDENT_JOIN, 32, 16⟩
def IDENT_JOIN_WAIT : Fld := ⟨R.IDENT_JOIN, 0, 32⟩
def IDENT_SCRATCH_ALL : Fld := ⟨R.IDENT_SCRATCH, 0, 64⟩
def IDENT_FEAT_CTL_STATUS : Fld := ⟨R.IDENT_FEAT_CTL, 48, 16⟩
def IDENT_FEAT_CTL_PERSIST : Fld := ⟨R.IDENT_FEAT_CTL, 1, 1⟩
def IDENT_FEAT_CTL_GO : Fld := ⟨R.IDENT_FEAT_CTL, 0, 1⟩
def IDENT_FEAT_SUPP_ALL : Fld := ⟨R.IDENT_FEAT_SUPP, 0, 64⟩
def IDENT_FEAT_OFFER_ALL : Fld := ⟨R.IDENT_FEAT_OFFER, 0, 64⟩
def IDENT_FEAT_MGMT_ALL : Fld := ⟨R.IDENT_FEAT_MGMT, 0, 64⟩
def IDENT_FEAT_STAND_ALL : Fld := ⟨R.IDENT_FEAT_STAND, 0, 64⟩
def IDENT_FEAT_PAIR_ALL : Fld := ⟨R.IDENT_FEAT_PAIR, 0, 64⟩
def IDENT_FEAT_DIFF_ALL : Fld := ⟨R.IDENT_FEAT_DIFF, 0, 64⟩
def HANDS_STATE_RETIRE_CAUSE : Fld := ⟨R.HANDS_STATE, 56, 8⟩
def HANDS_STATE_FREE : Fld := ⟨R.HANDS_STATE, 32, 7⟩
def HANDS_STATE_READY : Fld := ⟨R.HANDS_STATE, 24, 7⟩
def HANDS_STATE_WAITING : Fld := ⟨R.HANDS_STATE, 16, 7⟩
def HANDS_STATE_STATE : Fld := ⟨R.HANDS_STATE, 0, 3⟩
def HANDS_ISSUED_ALL : Fld := ⟨R.HANDS_ISSUED, 0, 64⟩
def HANDS_BUSY_CYCLES_ALL : Fld := ⟨R.HANDS_BUSY_CYCLES, 0, 64⟩
def HANDS_ERRORS_CORR : Fld := ⟨R.HANDS_ERRORS, 32, 32⟩
def HANDS_ERRORS_UNCORR : Fld := ⟨R.HANDS_ERRORS, 0, 32⟩
def HANDS_TRAP_COUNT_ALL : Fld := ⟨R.HANDS_TRAP_COUNT, 0, 64⟩
def HANDS_LAST_TRAP_TAG : Fld := ⟨R.HANDS_LAST_TRAP, 48, 16⟩
def HANDS_LAST_TRAP_CAUSE : Fld := ⟨R.HANDS_LAST_TRAP, 40, 8⟩
def HANDS_LAST_TRAP_CTX : Fld := ⟨R.HANDS_LAST_TRAP, 34, 6⟩
def HANDS_LAST_TRAP_ENTRY : Fld := ⟨R.HANDS_LAST_TRAP, 30, 4⟩
def HANDS_LAST_TRAP_PC : Fld := ⟨R.HANDS_LAST_TRAP, 0, 17⟩
def HANDS_LAST_TRAP_SEQ_ALL : Fld := ⟨R.HANDS_LAST_TRAP_SEQ, 0, 64⟩
def HANDS_CTX_TAG : Fld := ⟨R.HANDS_CTX, 48, 16⟩
def HANDS_CTX_RECIPE : Fld := ⟨R.HANDS_CTX, 40, 8⟩
def HANDS_CTX_ENTRY : Fld := ⟨R.HANDS_CTX, 36, 4⟩
def HANDS_CTX_PC : Fld := ⟨R.HANDS_CTX, 20, 15⟩
def HANDS_CTX_OUTSTANDING : Fld := ⟨R.HANDS_CTX, 16, 4⟩
def HANDS_CTX_STATE : Fld := ⟨R.HANDS_CTX, 0, 3⟩
def HANDS_SUMMARY_RETIRED : Fld := ⟨R.HANDS_SUMMARY, 48, 16⟩
def HANDS_SUMMARY_WITHDRAWN : Fld := ⟨R.HANDS_SUMMARY, 32, 16⟩
def HANDS_SUMMARY_DRAINING : Fld := ⟨R.HANDS_SUMMARY, 16, 16⟩
def HANDS_SUMMARY_IN_SERVICE : Fld := ⟨R.HANDS_SUMMARY, 0, 16⟩
def HANDS_RETIRE_STATUS : Fld := ⟨R.HANDS_RETIRE, 48, 16⟩
def HANDS_RETIRE_RETRY_MS : Fld := ⟨R.HANDS_RETIRE, 32, 16⟩
def HANDS_RETIRE_BUSY : Fld := ⟨R.HANDS_RETIRE, 10, 1⟩
def HANDS_RETIRE_RESTORE : Fld := ⟨R.HANDS_RETIRE, 9, 1⟩
def HANDS_RETIRE_RETIRE : Fld := ⟨R.HANDS_RETIRE, 8, 1⟩
def HANDS_RETIRE_HAND : Fld := ⟨R.HANDS_RETIRE, 0, 4⟩
def HANDS_WATCHDOG_CYCLES : Fld := ⟨R.HANDS_WATCHDOG, 0, 32⟩
def HANDS_LOAD_CTL_STATUS : Fld := ⟨R.HANDS_LOAD_CTL, 48, 16⟩
def HANDS_LOAD_CTL_SLOT : Fld := ⟨R.HANDS_LOAD_CTL, 40, 8⟩
def HANDS_LOAD_CTL_BUSY : Fld := ⟨R.HANDS_LOAD_CTL, 3, 1⟩
def HANDS_LOAD_CTL_ABORT : Fld := ⟨R.HANDS_LOAD_CTL, 2, 1⟩
def HANDS_LOAD_CTL_COMMIT : Fld := ⟨R.HANDS_LOAD_CTL, 1, 1⟩
def HANDS_LOAD_CTL_BEGIN : Fld := ⟨R.HANDS_LOAD_CTL, 0, 1⟩
def HANDS_LOAD_LEN_VAL : Fld := ⟨R.HANDS_LOAD_LEN, 0, 32⟩
def HANDS_LOAD_DATA_ALL : Fld := ⟨R.HANDS_LOAD_DATA, 0, 64⟩
def HANDS_LOAD_COUNT_ALL : Fld := ⟨R.HANDS_LOAD_COUNT, 0, 64⟩
def HANDS_PROGKEY_ALL : Fld := ⟨R.HANDS_PROGKEY, 0, 64⟩
def HANDS_BIND_SEL_VOLUME : Fld := ⟨R.HANDS_BIND_SEL, 0, 12⟩
def HANDS_BIND_STATUS : Fld := ⟨R.HANDS_BIND, 48, 16⟩
def HANDS_BIND_BOUND : Fld := ⟨R.HANDS_BIND, 32, 1⟩
def HANDS_BIND_SLOT : Fld := ⟨R.HANDS_BIND, 0, 8⟩
def HANDS_UNLOAD_STATUS : Fld := ⟨R.HANDS_UNLOAD, 48, 16⟩
def HANDS_UNLOAD_SLOT : Fld := ⟨R.HANDS_UNLOAD, 0, 8⟩
def HANDS_STORE_FREE : Fld := ⟨R.HANDS_STORE, 32, 32⟩
def HANDS_STORE_SHARED : Fld := ⟨R.HANDS_STORE, 0, 32⟩
def HANDS_RECIPE_ID_ID : Fld := ⟨R.HANDS_RECIPE_ID, 32, 32⟩
def HANDS_RECIPE_ID_VERSION : Fld := ⟨R.HANDS_RECIPE_ID, 0, 32⟩
def HANDS_RECIPE_STAT_BOUND : Fld := ⟨R.HANDS_RECIPE_STAT, 51, 13⟩
def HANDS_RECIPE_STAT_RUNNING : Fld := ⟨R.HANDS_RECIPE_STAT, 40, 11⟩
def HANDS_RECIPE_STAT_STATE : Fld := ⟨R.HANDS_RECIPE_STAT, 0, 3⟩
def DOCKET_TAGS_RESERVED_EXT : Fld := ⟨R.DOCKET_TAGS, 48, 16⟩
def DOCKET_TAGS_QUEUES : Fld := ⟨R.DOCKET_TAGS, 32, 16⟩
def DOCKET_TAGS_EXT_IN_USE : Fld := ⟨R.DOCKET_TAGS, 16, 16⟩
def DOCKET_TAGS_INT_IN_USE : Fld := ⟨R.DOCKET_TAGS, 0, 16⟩
def DOCKET_ACCEPTED_ALL : Fld := ⟨R.DOCKET_ACCEPTED, 0, 64⟩
def DOCKET_COMPLETED_ALL : Fld := ⟨R.DOCKET_COMPLETED, 0, 64⟩
def DOCKET_LATE_MIN_US : Fld := ⟨R.DOCKET_LATE, 0, 16⟩
def DOCKET_ATOMIC_VAL : Fld := ⟨R.DOCKET_ATOMIC, 0, 32⟩
def DOCKET_TAG_SEL_VAL : Fld := ⟨R.DOCKET_TAG_SEL, 0, 16⟩
def DOCKET_TAG_STATE_QUEUE : Fld := ⟨R.DOCKET_TAG_STATE, 48, 16⟩
def DOCKET_TAG_STATE_ENTRY : Fld := ⟨R.DOCKET_TAG_STATE, 44, 4⟩
def DOCKET_TAG_STATE_STATE : Fld := ⟨R.DOCKET_TAG_STATE, 0, 3⟩
def DOCKET_QSEL_VAL : Fld := ⟨R.DOCKET_QSEL, 0, 12⟩
def DOCKET_QCFG_SOURCE : Fld := ⟨R.DOCKET_QCFG, 32, 32⟩
def DOCKET_QCFG_DEPTH : Fld := ⟨R.DOCKET_QCFG, 19, 13⟩
def DOCKET_QCFG_KIND : Fld := ⟨R.DOCKET_QCFG, 16, 3⟩
def DOCKET_QCFG_CLASS : Fld := ⟨R.DOCKET_QCFG, 0, 2⟩
def DOCKET_QSTATE_HELD : Fld := ⟨R.DOCKET_QSTATE, 48, 16⟩
def DOCKET_QSTATE_OUTSTANDING : Fld := ⟨R.DOCKET_QSTATE, 32, 16⟩
def DOCKET_QSTATE_ERRORS : Fld := ⟨R.DOCKET_QSTATE, 8, 24⟩
def DOCKET_QSTATE_STATE : Fld := ⟨R.DOCKET_QSTATE, 0, 3⟩
def DOCKET_QCTL_STATUS : Fld := ⟨R.DOCKET_QCTL, 48, 16⟩
def DOCKET_QCTL_OP : Fld := ⟨R.DOCKET_QCTL, 0, 2⟩
def DOCKET_ELOG_SEL_VAL : Fld := ⟨R.DOCKET_ELOG_SEL, 0, 6⟩
def DOCKET_ELOG_DATA_ALL : Fld := ⟨R.DOCKET_ELOG_DATA, 0, 64⟩
def DOCKET_ABORT_STATUS : Fld := ⟨R.DOCKET_ABORT, 48, 16⟩
def DOCKET_ABORT_RESULT : Fld := ⟨R.DOCKET_ABORT, 32, 2⟩
def DOCKET_ABORT_GO : Fld := ⟨R.DOCKET_ABORT, 16, 1⟩
def DOCKET_ABORT_TAG : Fld := ⟨R.DOCKET_ABORT, 0, 16⟩
def DOCKET_LAST_ERR_SEQ_ALL : Fld := ⟨R.DOCKET_LAST_ERR_SEQ, 0, 64⟩
def DOCKET_FROZEN_ALL : Fld := ⟨R.DOCKET_FROZEN, 0, 64⟩
def TOLL_STATE_NOTICES : Fld := ⟨R.TOLL_STATE, 48, 16⟩
def TOLL_STATE_TAKES : Fld := ⟨R.TOLL_STATE, 32, 8⟩
def TOLL_STATE_ADMIT : Fld := ⟨R.TOLL_STATE, 0, 1⟩
def TOLL_CAP_INGEST_ALL : Fld := ⟨R.TOLL_CAP_INGEST, 0, 64⟩
def TOLL_CAP_READ_ALL : Fld := ⟨R.TOLL_CAP_READ, 0, 64⟩
def TOLL_CAP_FOLD_ALL : Fld := ⟨R.TOLL_CAP_FOLD, 0, 64⟩
def TOLL_CAP_SLC_ALL : Fld := ⟨R.TOLL_CAP_SLC, 0, 64⟩
def TOLL_CAP_SPACE_ALL : Fld := ⟨R.TOLL_CAP_SPACE, 0, 64⟩
def TOLL_CAP_BUDGET_ALL : Fld := ⟨R.TOLL_CAP_BUDGET, 0, 64⟩
def TOLL_CAP_TIMES_GRANARY_S : Fld := ⟨R.TOLL_CAP_TIMES, 32, 32⟩
def TOLL_CAP_TIMES_RESIDENCE_US : Fld := ⟨R.TOLL_CAP_TIMES, 0, 32⟩
def TOLL_CAP_FLOORS_REBUILD_FLOOR : Fld := ⟨R.TOLL_CAP_FLOORS, 32, 32⟩
def TOLL_CAP_FLOORS_GLEAN_FLOOR : Fld := ⟨R.TOLL_CAP_FLOORS, 0, 32⟩
def TOLL_CAP_SEQ_ALL : Fld := ⟨R.TOLL_CAP_SEQ, 0, 64⟩
def TOLL_POLICY_TAKE_SHARE : Fld := ⟨R.TOLL_POLICY, 56, 8⟩
def TOLL_POLICY_DIRTY_SHARE : Fld := ⟨R.TOLL_POLICY, 48, 8⟩
def TOLL_POLICY_SLC_RSV : Fld := ⟨R.TOLL_POLICY, 40, 8⟩
def TOLL_POLICY_REGION_FRAMES : Fld := ⟨R.TOLL_POLICY, 32, 8⟩
def TOLL_POLICY_NOTICE_MIN : Fld := ⟨R.TOLL_POLICY, 16, 16⟩
def TOLL_POLICY_ARM_WINDOW : Fld := ⟨R.TOLL_POLICY, 0, 16⟩
def TOLL_HOLD_BULK_MS : Fld := ⟨R.TOLL_HOLD, 16, 16⟩
def TOLL_HOLD_INTER_TARGET_US : Fld := ⟨R.TOLL_HOLD, 0, 16⟩
def TOLL_RATE_SUM_ALL : Fld := ⟨R.TOLL_RATE_SUM, 0, 64⟩
def TOLL_SLC_NEED_ALL : Fld := ⟨R.TOLL_SLC_NEED, 0, 64⟩
def TOLL_REQ_CTL_STATUS : Fld := ⟨R.TOLL_REQ_CTL, 48, 16⟩
def TOLL_REQ_CTL_BUSY : Fld := ⟨R.TOLL_REQ_CTL, 32, 1⟩
def TOLL_REQ_CTL_CLOSE : Fld := ⟨R.TOLL_REQ_CTL, 9, 1⟩
def TOLL_REQ_CTL_GO : Fld := ⟨R.TOLL_REQ_CTL, 8, 1⟩
def TOLL_REQ_CTL_TAKE : Fld := ⟨R.TOLL_REQ_CTL, 0, 6⟩
def TOLL_CAP_SLC_SIZE_ALL : Fld := ⟨R.TOLL_CAP_SLC_SIZE, 0, 64⟩
def TOLL_REQ_DATA_ALL : Fld := ⟨R.TOLL_REQ_DATA, 0, 64⟩
def TOLL_GRANT_DATA_ALL : Fld := ⟨R.TOLL_GRANT_DATA, 0, 64⟩
def TOLL_TAKE_SEL_VAL : Fld := ⟨R.TOLL_TAKE_SEL, 0, 6⟩
def TOLL_TAKE_INFO_STREAM : Fld := ⟨R.TOLL_TAKE_INFO, 48, 16⟩
def TOLL_TAKE_INFO_VOLUME : Fld := ⟨R.TOLL_TAKE_INFO, 36, 12⟩
def TOLL_TAKE_INFO_QUEUE : Fld := ⟨R.TOLL_TAKE_INFO, 24, 12⟩
def TOLL_TAKE_INFO_PORT : Fld := ⟨R.TOLL_TAKE_INFO, 16, 8⟩
def TOLL_TAKE_INFO_PRIORITY : Fld := ⟨R.TOLL_TAKE_INFO, 13, 3⟩
def TOLL_TAKE_INFO_SOLO_SAFE : Fld := ⟨R.TOLL_TAKE_INFO, 12, 1⟩
def TOLL_TAKE_INFO_ADOPTED : Fld := ⟨R.TOLL_TAKE_INFO, 11, 1⟩
def TOLL_TAKE_INFO_DIRECT : Fld := ⟨R.TOLL_TAKE_INFO, 10, 1⟩
def TOLL_TAKE_INFO_STATE : Fld := ⟨R.TOLL_TAKE_INFO, 0, 3⟩
def TOLL_TAKE_RATE_ALL : Fld := ⟨R.TOLL_TAKE_RATE, 0, 64⟩
def TOLL_TAKE_KEPT_CYCLE : Fld := ⟨R.TOLL_TAKE_KEPT, 40, 24⟩
def TOLL_TAKE_KEPT_KEPT_UNTIL : Fld := ⟨R.TOLL_TAKE_KEPT, 0, 40⟩
def TOLL_TAKE_LANDED_ALL : Fld := ⟨R.TOLL_TAKE_LANDED, 0, 64⟩
def TOLL_TAKE_LATE_FRAMES : Fld := ⟨R.TOLL_TAKE_LATE, 32, 32⟩
def TOLL_TAKE_LATE_LARGEST : Fld := ⟨R.TOLL_TAKE_LATE, 0, 32⟩
def TOLL_CLASS_BYTES_ALL : Fld := ⟨R.TOLL_CLASS_BYTES, 0, 64⟩
def TOLL_CLASS_LATE_ALL : Fld := ⟨R.TOLL_CLASS_LATE, 0, 64⟩
def TOLL_CLASS_DEFER_ALL : Fld := ⟨R.TOLL_CLASS_DEFER, 0, 64⟩
def PRESS_STATE_HALF : Fld := ⟨R.PRESS_STATE, 24, 1⟩
def PRESS_STATE_READER_SPARE : Fld := ⟨R.PRESS_STATE, 22, 1⟩
def PRESS_STATE_CHECKER_SPARE : Fld := ⟨R.PRESS_STATE, 21, 1⟩
def PRESS_STATE_CODER_SPARE : Fld := ⟨R.PRESS_STATE, 20, 1⟩
def PRESS_STATE_READERS : Fld := ⟨R.PRESS_STATE, 16, 4⟩
def PRESS_STATE_CHECKERS : Fld := ⟨R.PRESS_STATE, 8, 4⟩
def PRESS_STATE_CODERS : Fld := ⟨R.PRESS_STATE, 0, 4⟩
def PRESS_ADAPT_WINDOW_MS : Fld := ⟨R.PRESS_ADAPT, 48, 16⟩
def PRESS_ADAPT_MIN_GRAINS : Fld := ⟨R.PRESS_ADAPT, 32, 16⟩
def PRESS_ADAPT_FIT_FLOOR : Fld := ⟨R.PRESS_ADAPT, 22, 10⟩
def PRESS_ADAPT_START : Fld := ⟨R.PRESS_ADAPT, 0, 4⟩
def PRESS_CODED_ALL : Fld := ⟨R.PRESS_CODED, 0, 64⟩
def PRESS_RAW_ALL : Fld := ⟨R.PRESS_RAW, 0, 64⟩
def PRESS_MISMATCH_ALL : Fld := ⟨R.PRESS_MISMATCH, 0, 64⟩
def PRESS_DECODED_ALL : Fld := ⟨R.PRESS_DECODED, 0, 64⟩
def PRESS_DECODE_FAULT_ALL : Fld := ⟨R.PRESS_DECODE_FAULT, 0, 64⟩
def PRESS_LAST_FAULT_TAG : Fld := ⟨R.PRESS_LAST_FAULT, 48, 16⟩
def PRESS_LAST_FAULT_CODE : Fld := ⟨R.PRESS_LAST_FAULT, 40, 8⟩
def PRESS_LAST_FAULT_LANE : Fld := ⟨R.PRESS_LAST_FAULT, 34, 6⟩
def PRESS_LAST_FAULT_SEQ_ALL : Fld := ⟨R.PRESS_LAST_FAULT_SEQ, 0, 64⟩
def PRESS_LANE_SEL_VAL : Fld := ⟨R.PRESS_LANE_SEL, 0, 6⟩
def PRESS_LANE_MISMATCHES : Fld := ⟨R.PRESS_LANE, 48, 16⟩
def PRESS_LANE_FAULTS : Fld := ⟨R.PRESS_LANE, 32, 16⟩
def PRESS_LANE_RETIRE_CAUSE : Fld := ⟨R.PRESS_LANE, 24, 8⟩
def PRESS_LANE_STATE : Fld := ⟨R.PRESS_LANE, 0, 3⟩
def PRESS_LANE_CTL_STATUS : Fld := ⟨R.PRESS_LANE_CTL, 48, 16⟩
def PRESS_LANE_CTL_RETRY_MS : Fld := ⟨R.PRESS_LANE_CTL, 32, 16⟩
def PRESS_LANE_CTL_BUSY : Fld := ⟨R.PRESS_LANE_CTL, 3, 1⟩
def PRESS_LANE_CTL_RESTORE : Fld := ⟨R.PRESS_LANE_CTL, 2, 1⟩
def PRESS_LANE_CTL_RETIRE : Fld := ⟨R.PRESS_LANE_CTL, 1, 1⟩
def PRESS_LANE_CTL_TEST : Fld := ⟨R.PRESS_LANE_CTL, 0, 1⟩
def PRESS_STREAM_SEL_VAL : Fld := ⟨R.PRESS_STREAM_SEL, 0, 16⟩
def PRESS_STREAM_CFG_STATUS : Fld := ⟨R.PRESS_STREAM_CFG, 48, 16⟩
def PRESS_STREAM_CFG_TARGET : Fld := ⟨R.PRESS_STREAM_CFG, 28, 4⟩
def PRESS_STREAM_CFG_TARGET_MIN : Fld := ⟨R.PRESS_STREAM_CFG, 24, 4⟩
def PRESS_STREAM_CFG_TARGET_MAX : Fld := ⟨R.PRESS_STREAM_CFG, 20, 4⟩
def PRESS_STREAM_CFG_RAW_ONLY : Fld := ⟨R.PRESS_STREAM_CFG, 2, 1⟩
def PRESS_STREAM_CFG_PIN : Fld := ⟨R.PRESS_STREAM_CFG, 1, 1⟩
def PRESS_STREAM_CFG_OPEN : Fld := ⟨R.PRESS_STREAM_CFG, 0, 1⟩
def PRESS_STREAM_GRAINS_ALL : Fld := ⟨R.PRESS_STREAM_GRAINS, 0, 64⟩
def PRESS_STREAM_RAW_ALL : Fld := ⟨R.PRESS_STREAM_RAW, 0, 64⟩
def PRESS_STREAM_SLOTS_ALL : Fld := ⟨R.PRESS_STREAM_SLOTS, 0, 64⟩
def PRESS_STREAM_TSEQ_ALL : Fld := ⟨R.PRESS_STREAM_TSEQ, 0, 64⟩
def PRESS_STREAM_HIST_ALL : Fld := ⟨R.PRESS_STREAM_HIST, 0, 64⟩
def MILL_STATE_SPARE : Fld := ⟨R.MILL_STATE, 59, 5⟩
def MILL_STATE_LOCKS : Fld := ⟨R.MILL_STATE, 56, 3⟩
def MILL_STATE_SERVING : Fld := ⟨R.MILL_STATE, 51, 5⟩
def MILL_STATE_RETIRED : Fld := ⟨R.MILL_STATE, 0, 17⟩
def MILL_BYTES_ALL : Fld := ⟨R.MILL_BYTES, 0, 64⟩
def MILL_SWITCHES_ALL : Fld := ⟨R.MILL_SWITCHES, 0, 64⟩
def MILL_SPILLS_ALL : Fld := ⟨R.MILL_SPILLS, 0, 64⟩
def MILL_TAG_FAIL_ALL : Fld := ⟨R.MILL_TAG_FAIL, 0, 64⟩
def MILL_UNWRAP_FAIL_ALL : Fld := ⟨R.MILL_UNWRAP_FAIL, 0, 64⟩
def MILL_LAST_ERR_TAG : Fld := ⟨R.MILL_LAST_ERR, 48, 16⟩
def MILL_LAST_ERR_STATUS : Fld := ⟨R.MILL_LAST_ERR, 32, 16⟩
def MILL_LAST_ERR_CORE : Fld := ⟨R.MILL_LAST_ERR, 27, 5⟩
def MILL_LAST_ERR_SEQ_ALL : Fld := ⟨R.MILL_LAST_ERR_SEQ, 0, 64⟩
def MILL_RNG_RESEEDS : Fld := ⟨R.MILL_RNG, 32, 32⟩
def MILL_RNG_OVERDUE : Fld := ⟨R.MILL_RNG, 2, 1⟩
def MILL_RNG_HEALTH_FAIL : Fld := ⟨R.MILL_RNG, 1, 1⟩
def MILL_RNG_READY : Fld := ⟨R.MILL_RNG, 0, 1⟩
def MILL_KAT_INTERVAL_S : Fld := ⟨R.MILL_KAT, 0, 32⟩
def MILL_LOCK_LIMIT_LIMIT_US : Fld := ⟨R.MILL_LOCK_LIMIT, 0, 32⟩
def MILL_CORE_SEL_VAL : Fld := ⟨R.MILL_CORE_SEL, 0, 5⟩
def MILL_CORE_FAULTS : Fld := ⟨R.MILL_CORE, 48, 16⟩
def MILL_CORE_RETIRE_CAUSE : Fld := ⟨R.MILL_CORE, 40, 8⟩
def MILL_CORE_HOLDER : Fld := ⟨R.MILL_CORE, 37, 3⟩
def MILL_CORE_STATE : Fld := ⟨R.MILL_CORE, 0, 3⟩
def MILL_CORE_CTL_STATUS : Fld := ⟨R.MILL_CORE_CTL, 48, 16⟩
def MILL_CORE_CTL_RETRY_MS : Fld := ⟨R.MILL_CORE_CTL, 32, 16⟩
def MILL_CORE_CTL_BUSY : Fld := ⟨R.MILL_CORE_CTL, 3, 1⟩
def MILL_CORE_CTL_RESTORE : Fld := ⟨R.MILL_CORE_CTL, 2, 1⟩
def MILL_CORE_CTL_RETIRE : Fld := ⟨R.MILL_CORE_CTL, 1, 1⟩
def MILL_CORE_CTL_TEST : Fld := ⟨R.MILL_CORE_CTL, 0, 1⟩
def MILL_CORE_TESTED_CYCLE : Fld := ⟨R.MILL_CORE_TESTED, 40, 24⟩
def MILL_CORE_TESTED_SECONDS : Fld := ⟨R.MILL_CORE_TESTED, 0, 40⟩
def MILL_SLOT_SEL_VAL : Fld := ⟨R.MILL_SLOT_SEL, 0, 9⟩
def MILL_SLOT_IN_FLIGHT : Fld := ⟨R.MILL_SLOT, 48, 16⟩
def MILL_SLOT_KIND : Fld := ⟨R.MILL_SLOT, 4, 2⟩
def MILL_SLOT_STATE : Fld := ⟨R.MILL_SLOT, 0, 2⟩
def MILL_SLOT_ID_ALL : Fld := ⟨R.MILL_SLOT_ID, 0, 64⟩
def MILL_SLOT_SEQ_ALL : Fld := ⟨R.MILL_SLOT_SEQ, 0, 64⟩
def MILL_VAULT_SEL_VAL : Fld := ⟨R.MILL_VAULT_SEL, 0, 12⟩
def MILL_VAULT_NONE : Fld := ⟨R.MILL_VAULT, 8, 1⟩
def MILL_VAULT_VAULT : Fld := ⟨R.MILL_VAULT, 0, 8⟩
def ASSAY_STATE_HELD_IN_USE : Fld := ⟨R.ASSAY_STATE, 48, 16⟩
def ASSAY_STATE_HELD_PEAK : Fld := ⟨R.ASSAY_STATE, 32, 16⟩
def ASSAY_STATE_RETIRED : Fld := ⟨R.ASSAY_STATE, 0, 18⟩
def ASSAY_BYTES_ALL : Fld := ⟨R.ASSAY_BYTES, 0, 64⟩
def ASSAY_LENGTH_FAIL_ALL : Fld := ⟨R.ASSAY_LENGTH_FAIL, 0, 64⟩
def ASSAY_NO_HELD_ALL : Fld := ⟨R.ASSAY_NO_HELD, 0, 64⟩
def ASSAY_LAST_ERR_TAG : Fld := ⟨R.ASSAY_LAST_ERR, 48, 16⟩
def ASSAY_LAST_ERR_STATUS : Fld := ⟨R.ASSAY_LAST_ERR, 32, 16⟩
def ASSAY_LAST_ERR_LANE : Fld := ⟨R.ASSAY_LAST_ERR, 27, 5⟩
def ASSAY_LAST_ERR_SEQ_ALL : Fld := ⟨R.ASSAY_LAST_ERR_SEQ, 0, 64⟩
def ASSAY_KAT_INTERVAL_S : Fld := ⟨R.ASSAY_KAT, 0, 32⟩
def ASSAY_LANE_SEL_VAL : Fld := ⟨R.ASSAY_LANE_SEL, 0, 5⟩
def ASSAY_LANE_FAULTS : Fld := ⟨R.ASSAY_LANE, 48, 16⟩
def ASSAY_LANE_RETIRE_CAUSE : Fld := ⟨R.ASSAY_LANE, 40, 8⟩
def ASSAY_LANE_HELD : Fld := ⟨R.ASSAY_LANE, 32, 7⟩
def ASSAY_LANE_STATE : Fld := ⟨R.ASSAY_LANE, 0, 3⟩
def ASSAY_LANE_CTL_STATUS : Fld := ⟨R.ASSAY_LANE_CTL, 48, 16⟩
def ASSAY_LANE_CTL_RETRY_MS : Fld := ⟨R.ASSAY_LANE_CTL, 32, 16⟩
def ASSAY_LANE_CTL_BUSY : Fld := ⟨R.ASSAY_LANE_CTL, 3, 1⟩
def ASSAY_LANE_CTL_RESTORE : Fld := ⟨R.ASSAY_LANE_CTL, 2, 1⟩
def ASSAY_LANE_CTL_RETIRE : Fld := ⟨R.ASSAY_LANE_CTL, 1, 1⟩
def ASSAY_LANE_CTL_TEST : Fld := ⟨R.ASSAY_LANE_CTL, 0, 1⟩
def ASSAY_HM_ALL : Fld := ⟨R.ASSAY_HM, 0, 64⟩
def ASSAY_HM_COUNT_ALL : Fld := ⟨R.ASSAY_HM_COUNT, 0, 64⟩
def ASSAY_HM_SEQ_ALL : Fld := ⟨R.ASSAY_HM_SEQ, 0, 64⟩
def ASSAY_DMA_CTL_STATUS : Fld := ⟨R.ASSAY_DMA_CTL, 48, 16⟩
def ASSAY_DMA_CTL_BUSY : Fld := ⟨R.ASSAY_DMA_CTL, 34, 1⟩
def ASSAY_DMA_CTL_INVALID : Fld := ⟨R.ASSAY_DMA_CTL, 33, 1⟩
def ASSAY_DMA_CTL_DONE : Fld := ⟨R.ASSAY_DMA_CTL, 32, 1⟩
def ASSAY_DMA_CTL_ABORT : Fld := ⟨R.ASSAY_DMA_CTL, 8, 1⟩
def ASSAY_DMA_CTL_CLOSE : Fld := ⟨R.ASSAY_DMA_CTL, 7, 1⟩
def ASSAY_DMA_CTL_GO : Fld := ⟨R.ASSAY_DMA_CTL, 6, 1⟩
def ASSAY_DMA_CTL_SOURCE : Fld := ⟨R.ASSAY_DMA_CTL, 5, 1⟩
def ASSAY_DMA_CTL_ALG : Fld := ⟨R.ASSAY_DMA_CTL, 0, 2⟩
def ASSAY_DMA_ADDR_ALL : Fld := ⟨R.ASSAY_DMA_ADDR, 0, 64⟩
def ASSAY_DMA_LEN_VAL : Fld := ⟨R.ASSAY_DMA_LEN, 0, 40⟩
def ASSAY_DMA_COUNT_VAL : Fld := ⟨R.ASSAY_DMA_COUNT, 0, 40⟩
def ASSAY_FEED_ALL : Fld := ⟨R.ASSAY_FEED, 0, 64⟩
def ASSAY_FEED_TAIL_COUNT : Fld := ⟨R.ASSAY_FEED_TAIL, 56, 3⟩
def ASSAY_FEED_TAIL_BYTES : Fld := ⟨R.ASSAY_FEED_TAIL, 0, 56⟩
def ASSAY_DIGEST_ALL : Fld := ⟨R.ASSAY_DIGEST, 0, 64⟩
def ASSAY_EXPECT_ALL : Fld := ⟨R.ASSAY_EXPECT, 0, 64⟩
def ASSAY_CMP_CTL_STATUS : Fld := ⟨R.ASSAY_CMP_CTL, 48, 16⟩
def ASSAY_CMP_CTL_HM : Fld := ⟨R.ASSAY_CMP_CTL, 8, 3⟩
def ASSAY_CMP_CTL_SOURCE : Fld := ⟨R.ASSAY_CMP_CTL, 4, 1⟩
def ASSAY_CMP_CTL_GO : Fld := ⟨R.ASSAY_CMP_CTL, 0, 1⟩
def ASSAY_CMP_RESULT_ALL : Fld := ⟨R.ASSAY_CMP_RESULT, 0, 64⟩
def TALLY_STATE_CLAIMED : Fld := ⟨R.TALLY_STATE, 0, 32⟩
def TALLY_MISMATCH_VAL : Fld := ⟨R.TALLY_MISMATCH, 0, 32⟩
def TALLY_IRQ_EN_VAL : Fld := ⟨R.TALLY_IRQ_EN, 0, 32⟩
def TALLY_INLINE_ERR_ALL : Fld := ⟨R.TALLY_INLINE_ERR, 0, 64⟩
def TALLY_PI_FAIL_ALL : Fld := ⟨R.TALLY_PI_FAIL, 0, 64⟩
def TALLY_CLAIM_STATUS : Fld := ⟨R.TALLY_CLAIM, 48, 16⟩
def TALLY_CLAIM_GRANTED : Fld := ⟨R.TALLY_CLAIM, 32, 5⟩
def TALLY_CLAIM_RELEASE : Fld := ⟨R.TALLY_CLAIM, 8, 1⟩
def TALLY_CLAIM_CLAIM : Fld := ⟨R.TALLY_CLAIM, 7, 1⟩
def TALLY_CLAIM_UNIT : Fld := ⟨R.TALLY_CLAIM, 0, 5⟩
def TALLY_U_CFG_OWNER : Fld := ⟨R.TALLY_U_CFG, 56, 8⟩
def TALLY_U_CFG_ALG : Fld := ⟨R.TALLY_U_CFG, 0, 2⟩
def TALLY_U_VALUE_ALL : Fld := ⟨R.TALLY_U_VALUE, 0, 64⟩
def TALLY_U_EXPECT_ALL : Fld := ⟨R.TALLY_U_EXPECT, 0, 64⟩
def TALLY_U_FEED_B_VAL : Fld := ⟨R.TALLY_U_FEED_B, 0, 8⟩
def TALLY_U_FEED_H_VAL : Fld := ⟨R.TALLY_U_FEED_H, 0, 16⟩
def TALLY_U_FEED_W_VAL : Fld := ⟨R.TALLY_U_FEED_W, 0, 32⟩
def TALLY_U_FEED_D_VAL : Fld := ⟨R.TALLY_U_FEED_D, 0, 64⟩
def TALLY_U_CTL_BYTES : Fld := ⟨R.TALLY_U_CTL, 32, 32⟩
def TALLY_U_CTL_MISMATCH : Fld := ⟨R.TALLY_U_CTL, 4, 1⟩
def TALLY_U_CTL_MATCH : Fld := ⟨R.TALLY_U_CTL, 3, 1⟩
def TALLY_U_CTL_AUTO : Fld := ⟨R.TALLY_U_CTL, 2, 1⟩
def TALLY_U_CTL_COMPARE : Fld := ⟨R.TALLY_U_CTL, 1, 1⟩
def TALLY_U_CTL_RESET : Fld := ⟨R.TALLY_U_CTL, 0, 1⟩
def SIEVE_STATE_RECORDS : Fld := ⟨R.SIEVE_STATE, 32, 32⟩
def SIEVE_STATE_REBUILDING : Fld := ⟨R.SIEVE_STATE, 0, 1⟩
def SIEVE_CFG_ARRAY_NO : Fld := ⟨R.SIEVE_CFG, 48, 16⟩
def SIEVE_CFG_HOT_MIB : Fld := ⟨R.SIEVE_CFG, 0, 13⟩
def SIEVE_LOOKUPS_ALL : Fld := ⟨R.SIEVE_LOOKUPS, 0, 64⟩
def SIEVE_HITS_ALL : Fld := ⟨R.SIEVE_HITS, 0, 64⟩
def SIEVE_FILTER_FALSE_ALL : Fld := ⟨R.SIEVE_FILTER_FALSE, 0, 64⟩
def SIEVE_UNAVAIL_ALL : Fld := ⟨R.SIEVE_UNAVAIL, 0, 64⟩
def SIEVE_SKIPPED_ALL : Fld := ⟨R.SIEVE_SKIPPED, 0, 64⟩
def SIEVE_SLOTS_SAVED_ALL : Fld := ⟨R.SIEVE_SLOTS_SAVED, 0, 64⟩
def SIEVE_EPOCH_VAL : Fld := ⟨R.SIEVE_EPOCH, 0, 32⟩
def SIEVE_VOL_SEL_VAL : Fld := ⟨R.SIEVE_VOL_SEL, 0, 12⟩
def SIEVE_VOL_CFG_STATUS : Fld := ⟨R.SIEVE_VOL_CFG, 48, 16⟩
def SIEVE_VOL_CFG_READ_ONLY : Fld := ⟨R.SIEVE_VOL_CFG, 16, 1⟩
def SIEVE_VOL_CFG_VAULT : Fld := ⟨R.SIEVE_VOL_CFG, 8, 8⟩
def SIEVE_VOL_CFG_EXCLUDED : Fld := ⟨R.SIEVE_VOL_CFG, 2, 1⟩
def SIEVE_VOL_CFG_DEDUP : Fld := ⟨R.SIEVE_VOL_CFG, 0, 1⟩
def SIEVE_VOL_SNAPS_VAL : Fld := ⟨R.SIEVE_VOL_SNAPS, 0, 16⟩
def SIEVE_SNAP_CTL_STATUS : Fld := ⟨R.SIEVE_SNAP_CTL, 48, 16⟩
def SIEVE_SNAP_CTL_EPOCH : Fld := ⟨R.SIEVE_SNAP_CTL, 16, 32⟩
def SIEVE_SNAP_CTL_BUSY : Fld := ⟨R.SIEVE_SNAP_CTL, 8, 1⟩
def SIEVE_SNAP_CTL_OP : Fld := ⟨R.SIEVE_SNAP_CTL, 0, 3⟩
def SIEVE_SNAP_ARG_AT_VOLUME : Fld := ⟨R.SIEVE_SNAP_ARG, 48, 12⟩
def SIEVE_SNAP_ARG_VOLUME : Fld := ⟨R.SIEVE_SNAP_ARG, 32, 12⟩
def SIEVE_SNAP_ARG_EPOCH : Fld := ⟨R.SIEVE_SNAP_ARG, 0, 32⟩
def SIEVE_SNAP_SET_ALL : Fld := ⟨R.SIEVE_SNAP_SET, 0, 64⟩
def SIEVE_SNAP_SEL_VOLUME : Fld := ⟨R.SIEVE_SNAP_SEL, 32, 12⟩
def SIEVE_SNAP_SEL_EPOCH : Fld := ⟨R.SIEVE_SNAP_SEL, 0, 32⟩
def SIEVE_SNAP_INFO_PRESENTED_AS : Fld := ⟨R.SIEVE_SNAP_INFO, 48, 16⟩
def SIEVE_SNAP_INFO_HOLDERS : Fld := ⟨R.SIEVE_SNAP_INFO, 43, 5⟩
def SIEVE_SNAP_INFO_STATE : Fld := ⟨R.SIEVE_SNAP_INFO, 0, 2⟩
def SIEVE_REPL_SEL_VAL : Fld := ⟨R.SIEVE_REPL_SEL, 0, 4⟩
def SIEVE_REPL_CFG_CYCLE_S : Fld := ⟨R.SIEVE_REPL_CFG, 48, 16⟩
def SIEVE_REPL_CFG_RATE_MB : Fld := ⟨R.SIEVE_REPL_CFG, 32, 16⟩
def SIEVE_REPL_CFG_TARGET_VOL : Fld := ⟨R.SIEVE_REPL_CFG, 20, 12⟩
def SIEVE_REPL_CFG_SOURCE_VOL : Fld := ⟨R.SIEVE_REPL_CFG, 8, 12⟩
def SIEVE_REPL_CFG_HALT : Fld := ⟨R.SIEVE_REPL_CFG, 3, 1⟩
def SIEVE_REPL_CFG_OFFERS : Fld := ⟨R.SIEVE_REPL_CFG, 2, 1⟩
def SIEVE_REPL_CFG_MODE : Fld := ⟨R.SIEVE_REPL_CFG, 0, 2⟩
def SIEVE_REPL_PEER_VAL : Fld := ⟨R.SIEVE_REPL_PEER, 0, 32⟩
def SIEVE_REPL_STATE_LAST_STATUS : Fld := ⟨R.SIEVE_REPL_STATE, 48, 16⟩
def SIEVE_REPL_STATE_BATCH : Fld := ⟨R.SIEVE_REPL_STATE, 16, 32⟩
def SIEVE_REPL_STATE_STATE : Fld := ⟨R.SIEVE_REPL_STATE, 0, 4⟩
def SIEVE_REPL_EPOCHS_SENT : Fld := ⟨R.SIEVE_REPL_EPOCHS, 32, 32⟩
def SIEVE_REPL_EPOCHS_HELD : Fld := ⟨R.SIEVE_REPL_EPOCHS, 0, 32⟩
def SIEVE_REPL_BYTES_ALL : Fld := ⟨R.SIEVE_REPL_BYTES, 0, 64⟩
def SIEVE_REPL_LAG_SECONDS : Fld := ⟨R.SIEVE_REPL_LAG, 32, 32⟩
def SIEVE_REPL_LAG_UNACKED : Fld := ⟨R.SIEVE_REPL_LAG, 0, 32⟩
def SIEVE_REPL_CTL_STATUS : Fld := ⟨R.SIEVE_REPL_CTL, 48, 16⟩
def SIEVE_REPL_CTL_BUSY : Fld := ⟨R.SIEVE_REPL_CTL, 2, 1⟩
def SIEVE_REPL_CTL_OP : Fld := ⟨R.SIEVE_REPL_CTL, 0, 2⟩
def TILL_STATE_FLUSHING : Fld := ⟨R.TILL_STATE, 7, 1⟩
def TILL_STATE_EXCESS : Fld := ⟨R.TILL_STATE, 6, 1⟩
def TILL_STATE_OVER : Fld := ⟨R.TILL_STATE, 5, 1⟩
def TILL_STATE_WAITING : Fld := ⟨R.TILL_STATE, 4, 1⟩
def TILL_STATE_MIRRORED : Fld := ⟨R.TILL_STATE, 3, 1⟩
def TILL_DIRTY_ALL : Fld := ⟨R.TILL_DIRTY, 0, 64⟩
def TILL_MIRROR_ALL : Fld := ⟨R.TILL_MIRROR, 0, 64⟩
def TILL_CLEAN_ALL : Fld := ⟨R.TILL_CLEAN, 0, 64⟩
def TILL_LIMIT_ALL : Fld := ⟨R.TILL_LIMIT, 0, 64⟩
def TILL_BUDGET_ALL : Fld := ⟨R.TILL_BUDGET, 0, 64⟩
def TILL_BUDGET_IN_C : Fld := ⟨R.TILL_BUDGET_IN, 48, 16⟩
def TILL_BUDGET_IN_V : Fld := ⟨R.TILL_BUDGET_IN, 32, 16⟩
def TILL_BUDGET_IN_WINDOW : Fld := ⟨R.TILL_BUDGET_IN, 16, 16⟩
def TILL_BUDGET_IN_SLEDS : Fld := ⟨R.TILL_BUDGET_IN, 0, 16⟩
def TILL_BUDGET_CFG_STATUS : Fld := ⟨R.TILL_BUDGET_CFG, 48, 16⟩
def TILL_BUDGET_CFG_DERATE : Fld := ⟨R.TILL_BUDGET_CFG, 32, 10⟩
def TILL_BUDGET_CFG_FLUSH_W : Fld := ⟨R.TILL_BUDGET_CFG, 16, 16⟩
def TILL_BUDGET_CFG_EFF : Fld := ⟨R.TILL_BUDGET_CFG, 8, 8⟩
def TILL_BUDGET_CFG_RESERVE : Fld := ⟨R.TILL_BUDGET_CFG, 0, 8⟩
def TILL_WAITS_ALL : Fld := ⟨R.TILL_WAITS, 0, 64⟩
def TILL_WAIT_US_ALL : Fld := ⟨R.TILL_WAIT_US, 0, 64⟩
def TILL_REGIONS_BYTES : Fld := ⟨R.TILL_REGIONS, 16, 48⟩
def TILL_REGIONS_COUNT : Fld := ⟨R.TILL_REGIONS, 0, 16⟩
def TILL_LAST_HOLDUP_MIB : Fld := ⟨R.TILL_LAST_HOLDUP, 32, 32⟩
def TILL_LAST_HOLDUP_MS : Fld := ⟨R.TILL_LAST_HOLDUP, 16, 16⟩
def TILL_LAST_HOLDUP_UNFLUSHED : Fld := ⟨R.TILL_LAST_HOLDUP, 0, 16⟩
def TILL_LAST_HOLDUP_SEQ_ALL : Fld := ⟨R.TILL_LAST_HOLDUP_SEQ, 0, 64⟩
def TILL_CF_STATE_LINK_EPOCH : Fld := ⟨R.TILL_CF_STATE, 32, 32⟩
def TILL_CF_STATE_LANES_UP : Fld := ⟨R.TILL_CF_STATE, 8, 8⟩
def TILL_CF_STATE_LANES : Fld := ⟨R.TILL_CF_STATE, 4, 4⟩
def TILL_CF_STATE_FULL : Fld := ⟨R.TILL_CF_STATE, 3, 1⟩
def TILL_CF_STATE_STATE : Fld := ⟨R.TILL_CF_STATE, 0, 3⟩
def TILL_CF_TX_STUBS_ALL : Fld := ⟨R.TILL_CF_TX_STUBS, 0, 64⟩
def TILL_CF_RX_STUBS_ALL : Fld := ⟨R.TILL_CF_RX_STUBS, 0, 64⟩
def TILL_CF_RESENDS_ALL : Fld := ⟨R.TILL_CF_RESENDS, 0, 64⟩
def TILL_CF_ERR_CRC : Fld := ⟨R.TILL_CF_ERR, 32, 32⟩
def TILL_CF_ERR_LENGTH : Fld := ⟨R.TILL_CF_ERR, 0, 32⟩
def TILL_CF_LATENCY_VAL : Fld := ⟨R.TILL_CF_LATENCY, 0, 32⟩
def TILL_CF_TX_BYTES_ALL : Fld := ⟨R.TILL_CF_TX_BYTES, 0, 64⟩
def TILL_CF_CTL_STATUS : Fld := ⟨R.TILL_CF_CTL, 48, 16⟩
def TILL_CF_CTL_BUSY : Fld := ⟨R.TILL_CF_CTL, 8, 1⟩
def TILL_CF_CTL_RETRAIN : Fld := ⟨R.TILL_CF_CTL, 0, 1⟩
def STEWARD_MAP_STATE_PAGES : Fld := ⟨R.STEWARD_MAP_STATE, 32, 32⟩
def STEWARD_MAP_STATE_DIRTY_PAGES : Fld := ⟨R.STEWARD_MAP_STATE, 8, 24⟩
def STEWARD_MAP_STATE_ADOPTING : Fld := ⟨R.STEWARD_MAP_STATE, 2, 1⟩
def STEWARD_MAP_STATE_CHECKPOINTING : Fld := ⟨R.STEWARD_MAP_STATE, 1, 1⟩
def STEWARD_MAP_STATE_RECOVERING : Fld := ⟨R.STEWARD_MAP_STATE, 0, 1⟩
def STEWARD_MAP_CFG_STATUS : Fld := ⟨R.STEWARD_MAP_CFG, 48, 16⟩
def STEWARD_MAP_CFG_CACHE_GIB : Fld := ⟨R.STEWARD_MAP_CFG, 40, 8⟩
def STEWARD_MAP_CFG_CHECKPOINT_S : Fld := ⟨R.STEWARD_MAP_CFG, 24, 16⟩
def STEWARD_MAP_CFG_CHECKPOINT_MIB : Fld := ⟨R.STEWARD_MAP_CFG, 8, 16⟩
def STEWARD_MAP_CFG_FLUSH_MS : Fld := ⟨R.STEWARD_MAP_CFG, 0, 8⟩
def STEWARD_MAP_HITS_ALL : Fld := ⟨R.STEWARD_MAP_HITS, 0, 64⟩
def STEWARD_MAP_MISSES_ALL : Fld := ⟨R.STEWARD_MAP_MISSES, 0, 64⟩
def STEWARD_MAP_WRITEBACKS_ALL : Fld := ⟨R.STEWARD_MAP_WRITEBACKS, 0, 64⟩
def STEWARD_GROUPS_ALL : Fld := ⟨R.STEWARD_GROUPS, 0, 64⟩
def STEWARD_GROUPS_DISCARDED_ALL : Fld := ⟨R.STEWARD_GROUPS_DISCARDED, 0, 64⟩
def STEWARD_SPLITS_SINCE : Fld := ⟨R.STEWARD_SPLITS, 32, 32⟩
def STEWARD_SPLITS_HELD : Fld := ⟨R.STEWARD_SPLITS, 0, 32⟩
def STEWARD_ROOT_ENTRIES_ALL : Fld := ⟨R.STEWARD_ROOT_ENTRIES, 0, 64⟩
def STEWARD_OVERLAY_ENTRIES : Fld := ⟨R.STEWARD_OVERLAY, 32, 32⟩
def STEWARD_OVERLAY_MIB : Fld := ⟨R.STEWARD_OVERLAY, 0, 32⟩
def STEWARD_CMN_SEL_VAL : Fld := ⟨R.STEWARD_CMN_SEL, 0, 12⟩
def STEWARD_DB_LSN_ALL : Fld := ⟨R.STEWARD_DB_LSN, 0, 64⟩
def STEWARD_DB_FLASH_LSN_ALL : Fld := ⟨R.STEWARD_DB_FLASH_LSN, 0, 64⟩
def STEWARD_DB_REPLAY_LSN_ALL : Fld := ⟨R.STEWARD_DB_REPLAY_LSN, 0, 64⟩
def STEWARD_DB_SINCE_ALL : Fld := ⟨R.STEWARD_DB_SINCE, 0, 64⟩
def STEWARD_CKPT_CTL_STATUS : Fld := ⟨R.STEWARD_CKPT_CTL, 48, 16⟩
def STEWARD_CKPT_CTL_BUSY : Fld := ⟨R.STEWARD_CKPT_CTL, 1, 1⟩
def STEWARD_CKPT_CTL_GO : Fld := ⟨R.STEWARD_CKPT_CTL, 0, 1⟩
def STEWARD_CKPT_SEQ_ALL : Fld := ⟨R.STEWARD_CKPT_SEQ, 0, 64⟩
def STEWARD_ANCHOR_ANCHOR_SEQ : Fld := ⟨R.STEWARD_ANCHOR, 1, 63⟩
def STEWARD_ANCHOR_COPY : Fld := ⟨R.STEWARD_ANCHOR, 0, 1⟩
def STEWARD_RECOVERY_RECORDS : Fld := ⟨R.STEWARD_RECOVERY, 32, 32⟩
def STEWARD_RECOVERY_MS : Fld := ⟨R.STEWARD_RECOVERY, 8, 24⟩
def STEWARD_RECOVERY_KIND : Fld := ⟨R.STEWARD_RECOVERY, 0, 3⟩
def STEWARD_RECOVERY_GROUPS_INCOMPLETE : Fld := ⟨R.STEWARD_RECOVERY_GROUPS, 32, 32⟩
def STEWARD_RECOVERY_GROUPS_DROPPED : Fld := ⟨R.STEWARD_RECOVERY_GROUPS, 0, 32⟩
def STEWARD_RECOVERY_SCAN_BLOCKS : Fld := ⟨R.STEWARD_RECOVERY_SCAN, 32, 32⟩
def STEWARD_RECOVERY_SCAN_DUPLICATES : Fld := ⟨R.STEWARD_RECOVERY_SCAN, 0, 32⟩
def STEWARD_RECOVERY_SEQ_ALL : Fld := ⟨R.STEWARD_RECOVERY_SEQ, 0, 64⟩
def STEWARD_MEDIA_STATE_SEALING : Fld := ⟨R.STEWARD_MEDIA_STATE, 4, 1⟩
def STEWARD_MEDIA_STATE_WARN : Fld := ⟨R.STEWARD_MEDIA_STATE, 3, 1⟩
def STEWARD_MEDIA_STATE_SLC_LIMITED : Fld := ⟨R.STEWARD_MEDIA_STATE, 2, 1⟩
def STEWARD_MEDIA_STATE_CATCHUP : Fld := ⟨R.STEWARD_MEDIA_STATE, 1, 1⟩
def STEWARD_MEDIA_STATE_SECURE_PENDING : Fld := ⟨R.STEWARD_MEDIA_STATE, 0, 1⟩
def STEWARD_MEDIA_CFG_STATUS : Fld := ⟨R.STEWARD_MEDIA_CFG, 48, 16⟩
def STEWARD_MEDIA_CFG_FREE_LOW : Fld := ⟨R.STEWARD_MEDIA_CFG, 40, 8⟩
def STEWARD_MEDIA_CFG_FREE_HIGH : Fld := ⟨R.STEWARD_MEDIA_CFG, 32, 8⟩
def STEWARD_MEDIA_CFG_THIN_PM : Fld := ⟨R.STEWARD_MEDIA_CFG, 22, 10⟩
def STEWARD_MEDIA_CFG_SECURE_BOUND_S : Fld := ⟨R.STEWARD_MEDIA_CFG, 0, 16⟩
def STEWARD_GRANARY_CFG_STATUS : Fld := ⟨R.STEWARD_GRANARY_CFG, 48, 16⟩
def STEWARD_GRANARY_CFG_FORMAT_PM : Fld := ⟨R.STEWARD_GRANARY_CFG, 24, 8⟩
def STEWARD_GRANARY_CFG_WARN_PM : Fld := ⟨R.STEWARD_GRANARY_CFG, 12, 12⟩
def STEWARD_GRANARY_CFG_SEAL_PM : Fld := ⟨R.STEWARD_GRANARY_CFG, 0, 12⟩
def STEWARD_CAL_CFG_CAL_TRIGGER_PCT : Fld := ⟨R.STEWARD_CAL_CFG, 16, 8⟩
def STEWARD_CAL_CFG_CAL_HOURS : Fld := ⟨R.STEWARD_CAL_CFG, 0, 16⟩
def STEWARD_SLC_SIZE_ALL : Fld := ⟨R.STEWARD_SLC_SIZE, 0, 64⟩
def STEWARD_SLC_USED_ALL : Fld := ⟨R.STEWARD_SLC_USED, 0, 64⟩
def STEWARD_SLC_TAKE_RSV_ALL : Fld := ⟨R.STEWARD_SLC_TAKE_RSV, 0, 64⟩
def STEWARD_POOL_FILL_VAL : Fld := ⟨R.STEWARD_POOL_FILL, 0, 16⟩
def STEWARD_FOLD_RATE_ALL : Fld := ⟨R.STEWARD_FOLD_RATE, 0, 64⟩
def STEWARD_FOLDS_ALL : Fld := ⟨R.STEWARD_FOLDS, 0, 64⟩
def STEWARD_GLEAN_RATE_ALL : Fld := ⟨R.STEWARD_GLEAN_RATE, 0, 64⟩
def STEWARD_GLEANED_ALL : Fld := ⟨R.STEWARD_GLEANED, 0, 64⟩
def STEWARD_CMN_FREE_QLC : Fld := ⟨R.STEWARD_CMN_FREE, 32, 32⟩
def STEWARD_CMN_FREE_SLC : Fld := ⟨R.STEWARD_CMN_FREE, 0, 32⟩
def STEWARD_CMN_GRANARY_FORMED : Fld := ⟨R.STEWARD_CMN_GRANARY, 32, 32⟩
def STEWARD_CMN_GRANARY_REMAINING : Fld := ⟨R.STEWARD_CMN_GRANARY, 0, 32⟩
def STEWARD_CMN_GROWN_BAD_FORMATION : Fld := ⟨R.STEWARD_CMN_GROWN_BAD, 32, 32⟩
def STEWARD_CMN_GROWN_BAD_START : Fld := ⟨R.STEWARD_CMN_GROWN_BAD, 0, 32⟩
def STEWARD_CMN_THIN_ALL : Fld := ⟨R.STEWARD_CMN_THIN, 0, 64⟩
def STEWARD_VOL_SEL_VAL : Fld := ⟨R.STEWARD_VOL_SEL, 0, 12⟩
def STEWARD_VOL_MEDIA_STATUS : Fld := ⟨R.STEWARD_VOL_MEDIA, 48, 16⟩
def STEWARD_VOL_MEDIA_SECURE : Fld := ⟨R.STEWARD_VOL_MEDIA, 0, 1⟩
def STEWARD_SECURE_PENDING : Fld := ⟨R.STEWARD_SECURE, 32, 32⟩
def STEWARD_SECURE_OLDEST : Fld := ⟨R.STEWARD_SECURE, 0, 32⟩
def STEWARD_SECURE_SEQ_ALL : Fld := ⟨R.STEWARD_SECURE_SEQ, 0, 64⟩
def STEWARD_SECURE_UNERASED_VAL : Fld := ⟨R.STEWARD_SECURE_UNERASED, 0, 32⟩
def SLED_READY_DEGRADED : Fld := ⟨R.SLED_READY, 24, 24⟩
def SLED_READY_READY : Fld := ⟨R.SLED_READY, 0, 24⟩
def SLED_FAILED_PRESENT : Fld := ⟨R.SLED_FAILED, 24, 24⟩
def SLED_FAILED_FAILED : Fld := ⟨R.SLED_FAILED, 0, 24⟩
def SLED_TIMEOUT_VAL : Fld := ⟨R.SLED_TIMEOUT, 0, 16⟩
def SLED_SEL_VAL : Fld := ⟨R.SLED_SEL, 0, 5⟩
def SLED_STATE_FAIL_CAUSE : Fld := ⟨R.SLED_STATE, 56, 8⟩
def SLED_STATE_WIDTH : Fld := ⟨R.SLED_STATE, 16, 8⟩
def SLED_STATE_STATE : Fld := ⟨R.SLED_STATE, 0, 4⟩
def SLED_GEOM_ECC_BITS : Fld := ⟨R.SLED_GEOM, 56, 8⟩
def SLED_GEOM_DIES : Fld := ⟨R.SLED_GEOM, 32, 12⟩
def SLED_GEOM_BLOCKS : Fld := ⟨R.SLED_GEOM, 16, 16⟩
def SLED_GEOM_CYCLES : Fld := ⟨R.SLED_GEOM, 0, 16⟩
def SLED_LABEL_ALL : Fld := ⟨R.SLED_LABEL, 0, 64⟩
def SLED_OWN_CMN_VAL : Fld := ⟨R.SLED_OWN_CMN, 0, 12⟩
def SLED_OWN_EPOCH_EPOCH : Fld := ⟨R.SLED_OWN_EPOCH, 32, 32⟩
def SLED_OWN_EPOCH_CLAIMED : Fld := ⟨R.SLED_OWN_EPOCH, 0, 1⟩
def SLED_CMDS_ALL : Fld := ⟨R.SLED_CMDS, 0, 64⟩
def SLED_ERRORS_PROGRAM : Fld := ⟨R.SLED_ERRORS, 32, 32⟩
def SLED_ERRORS_ERASE : Fld := ⟨R.SLED_ERRORS, 16, 16⟩
def SLED_ERRORS_UNCORR : Fld := ⟨R.SLED_ERRORS, 0, 16⟩
def SLED_TEMP_VAL : Fld := ⟨R.SLED_TEMP, 0, 16⟩
def SLED_CTL_STATUS : Fld := ⟨R.SLED_CTL, 48, 16⟩
def SLED_CTL_BUSY : Fld := ⟨R.SLED_CTL, 4, 1⟩
def SLED_CTL_RETRAIN : Fld := ⟨R.SLED_CTL, 3, 1⟩
def SLED_CTL_RESET : Fld := ⟨R.SLED_CTL, 2, 1⟩
def SLED_CTL_POWER_ON : Fld := ⟨R.SLED_CTL, 1, 1⟩
def SLED_CTL_POWER_OFF : Fld := ⟨R.SLED_CTL, 0, 1⟩
def HOLD_STATE_COMMONS : Fld := ⟨R.HOLD_STATE, 48, 16⟩
def HOLD_STATE_SCAN_PENDING : Fld := ⟨R.HOLD_STATE, 5, 1⟩
def HOLD_STATE_STALLED : Fld := ⟨R.HOLD_STATE, 4, 1⟩
def HOLD_STATE_SCARRED : Fld := ⟨R.HOLD_STATE, 3, 1⟩
def HOLD_STATE_STATE : Fld := ⟨R.HOLD_STATE, 0, 3⟩
def HOLD_CFG_STATUS : Fld := ⟨R.HOLD_CFG, 48, 16⟩
def HOLD_CFG_REBUILD_MAX_MB : Fld := ⟨R.HOLD_CFG, 32, 16⟩
def HOLD_CFG_REBUILD_BOUND_H : Fld := ⟨R.HOLD_CFG, 24, 8⟩
def HOLD_CFG_DOUBLE_BOUND_H : Fld := ⟨R.HOLD_CFG, 19, 5⟩
def HOLD_CFG_SPARE_SLEDS : Fld := ⟨R.HOLD_CFG, 18, 1⟩
def HOLD_CFG_LEDGER_MS : Fld := ⟨R.HOLD_CFG, 10, 8⟩
def HOLD_CFG_WATCH_DAYS : Fld := ⟨R.HOLD_CFG, 0, 10⟩
def HOLD_REBUILD_RATE_ALL : Fld := ⟨R.HOLD_REBUILD_RATE, 0, 64⟩
def HOLD_REBUILD_DONE_ALL : Fld := ⟨R.HOLD_REBUILD_DONE, 0, 64⟩
def HOLD_DEGRADED_READS_ALL : Fld := ⟨R.HOLD_DEGRADED_READS, 0, 64⟩
def HOLD_WATCH_SHEAVES_ALL : Fld := ⟨R.HOLD_WATCH_SHEAVES, 0, 64⟩
def HOLD_WATCH_REPAIRS_ALL : Fld := ⟨R.HOLD_WATCH_REPAIRS, 0, 64⟩
def HOLD_SCAR_COUNT_SLOTS : Fld := ⟨R.HOLD_SCAR_COUNT, 32, 32⟩
def HOLD_SCAR_COUNT_ENTRIES : Fld := ⟨R.HOLD_SCAR_COUNT, 0, 32⟩
def HOLD_CTL_STATUS : Fld := ⟨R.HOLD_CTL, 48, 16⟩
def HOLD_CTL_BUSY : Fld := ⟨R.HOLD_CTL, 8, 1⟩
def HOLD_CTL_OP : Fld := ⟨R.HOLD_CTL, 0, 3⟩
def HOLD_CTL_ARG_COMMONS : Fld := ⟨R.HOLD_CTL_ARG, 52, 12⟩
def HOLD_CTL_ARG_HOME : Fld := ⟨R.HOLD_CTL_ARG, 48, 1⟩
def HOLD_CTL_ARG_FIRST_DIE : Fld := ⟨R.HOLD_CTL_ARG, 32, 16⟩
def HOLD_CTL_ARG_DIES : Fld := ⟨R.HOLD_CTL_ARG, 16, 16⟩
def HOLD_CTL_ARG_MEMBER : Fld := ⟨R.HOLD_CTL_ARG, 0, 16⟩
def HOLD_CTL_ARG_VAL : Fld := ⟨R.HOLD_CTL_ARG, 0, 5⟩
def HOLD_CMN_SEL_VAL : Fld := ⟨R.HOLD_CMN_SEL, 0, 12⟩
def HOLD_CMN_FIRST_DIE : Fld := ⟨R.HOLD_CMN, 48, 16⟩
def HOLD_CMN_DIES : Fld := ⟨R.HOLD_CMN, 32, 16⟩
def HOLD_CMN_SLEDS : Fld := ⟨R.HOLD_CMN, 24, 8⟩
def HOLD_CMN_FAILED : Fld := ⟨R.HOLD_CMN, 16, 8⟩
def HOLD_CMN_HOME : Fld := ⟨R.HOLD_CMN, 7, 1⟩
def HOLD_CMN_OWNED : Fld := ⟨R.HOLD_CMN, 6, 1⟩
def HOLD_CMN_STALLED : Fld := ⟨R.HOLD_CMN, 5, 1⟩
def HOLD_CMN_SCARRED : Fld := ⟨R.HOLD_CMN, 4, 1⟩
def HOLD_CMN_UNCERTAIN : Fld := ⟨R.HOLD_CMN, 3, 1⟩
def HOLD_CMN_STATE : Fld := ⟨R.HOLD_CMN, 0, 3⟩
def HOLD_CMN_RECORD_SECOND : Fld := ⟨R.HOLD_CMN_RECORD, 48, 16⟩
def HOLD_CMN_RECORD_FIRST : Fld := ⟨R.HOLD_CMN_RECORD, 0, 16⟩
def HOLD_CMN_SPARE_RESERVE : Fld := ⟨R.HOLD_CMN_SPARE, 32, 32⟩
def HOLD_CMN_SPARE_USED : Fld := ⟨R.HOLD_CMN_SPARE, 0, 32⟩
def HOLD_CMN_REBUILD_TWOPAGE : Fld := ⟨R.HOLD_CMN_REBUILD, 32, 32⟩
def HOLD_CMN_REBUILD_OTHER : Fld := ⟨R.HOLD_CMN_REBUILD, 0, 32⟩
def HOLD_CMN_DUE_DOUBLE : Fld := ⟨R.HOLD_CMN_DUE, 32, 32⟩
def HOLD_CMN_DUE_SINGLE : Fld := ⟨R.HOLD_CMN_DUE, 0, 32⟩
def HOLD_CMN_LEDGER_LEDGER_SEQ : Fld := ⟨R.HOLD_CMN_LEDGER, 32, 32⟩
def HOLD_CMN_LEDGER_COPIES : Fld := ⟨R.HOLD_CMN_LEDGER, 16, 2⟩
def HOLD_CMN_LEDGER_OPEN : Fld := ⟨R.HOLD_CMN_LEDGER, 0, 11⟩
def HOLD_CMN_WATCH_END : Fld := ⟨R.HOLD_CMN_WATCH, 40, 24⟩
def HOLD_CMN_WATCH_OVERDUE : Fld := ⟨R.HOLD_CMN_WATCH, 39, 1⟩
def HOLD_CMN_WATCH_PROGRESS : Fld := ⟨R.HOLD_CMN_WATCH, 0, 16⟩
def HOLD_CMN_RESYNC_CHECKED : Fld := ⟨R.HOLD_CMN_RESYNC, 32, 32⟩
def HOLD_CMN_RESYNC_TOCHECK : Fld := ⟨R.HOLD_CMN_RESYNC, 0, 32⟩
def HOLD_SCAR_SEL_VAL : Fld := ⟨R.HOLD_SCAR_SEL, 0, 12⟩
def HOLD_SCAR_ADDR_VOLUME : Fld := ⟨R.HOLD_SCAR_ADDR, 52, 12⟩
def HOLD_SCAR_ADDR_LEAF : Fld := ⟨R.HOLD_SCAR_ADDR, 0, 52⟩
def HOLD_SCAR_INFO_LEAVES : Fld := ⟨R.HOLD_SCAR_INFO, 32, 32⟩
def HOLD_SCAR_INFO_SEQ : Fld := ⟨R.HOLD_SCAR_INFO, 0, 32⟩
def HOLD_MEMBER_SEL_VAL : Fld := ⟨R.HOLD_MEMBER_SEL, 0, 16⟩
def HOLD_MEMBER_COMMONS : Fld := ⟨R.HOLD_MEMBER, 52, 12⟩
def HOLD_MEMBER_CAUSE : Fld := ⟨R.HOLD_MEMBER, 40, 12⟩
def HOLD_MEMBER_LIVE : Fld := ⟨R.HOLD_MEMBER, 8, 32⟩
def HOLD_MEMBER_STATE : Fld := ⟨R.HOLD_MEMBER, 0, 2⟩
def CARRIER_STATE_PEERS : Fld := ⟨R.CARRIER_STATE, 40, 24⟩
def CARRIER_STATE_REGS : Fld := ⟨R.CARRIER_STATE, 20, 20⟩
def CARRIER_STATE_ERROR : Fld := ⟨R.CARRIER_STATE, 0, 16⟩
def CARRIER_CFG_STATUS : Fld := ⟨R.CARRIER_CFG, 48, 16⟩
def CARRIER_CFG_GIVEUP_MS : Fld := ⟨R.CARRIER_CFG, 40, 8⟩
def CARRIER_CFG_EVICT_QUIET_MS : Fld := ⟨R.CARRIER_CFG, 30, 10⟩
def CARRIER_CFG_RTO_MIN_US : Fld := ⟨R.CARRIER_CFG, 20, 10⟩
def CARRIER_CFG_ACK_DELAY_US : Fld := ⟨R.CARRIER_CFG, 14, 6⟩
def CARRIER_CFG_REASM_MS : Fld := ⟨R.CARRIER_CFG, 10, 4⟩
def CARRIER_CFG_RATE_STEP : Fld := ⟨R.CARRIER_CFG, 6, 4⟩
def CARRIER_CFG_QUEUE_GRACE_S : Fld := ⟨R.CARRIER_CFG, 0, 6⟩
def CARRIER_RX_MSGS_ALL : Fld := ⟨R.CARRIER_RX_MSGS, 0, 64⟩
def CARRIER_TX_MSGS_ALL : Fld := ⟨R.CARRIER_TX_MSGS, 0, 64⟩
def CARRIER_DUPS_DUPS : Fld := ⟨R.CARRIER_DUPS, 32, 32⟩
def CARRIER_DUPS_STALE : Fld := ⟨R.CARRIER_DUPS, 0, 32⟩
def CARRIER_RESENDS_ALL : Fld := ⟨R.CARRIER_RESENDS, 0, 64⟩
def CARRIER_TAG_FAIL_ALL : Fld := ⟨R.CARRIER_TAG_FAIL, 0, 64⟩
def CARRIER_EVICTIONS_ALL : Fld := ⟨R.CARRIER_EVICTIONS, 0, 64⟩
def CARRIER_LAST_ERR_STATUS : Fld := ⟨R.CARRIER_LAST_ERR, 48, 16⟩
def CARRIER_LAST_ERR_PEER : Fld := ⟨R.CARRIER_LAST_ERR, 16, 32⟩
def CARRIER_LAST_ERR_TYPE : Fld := ⟨R.CARRIER_LAST_ERR, 0, 8⟩
def CARRIER_LAST_ERR_SEQ_ALL : Fld := ⟨R.CARRIER_LAST_ERR_SEQ, 0, 64⟩
def CARRIER_KEYMAP_ALL : Fld := ⟨R.CARRIER_KEYMAP, 0, 64⟩
def CARRIER_PEER_SEL_VAL : Fld := ⟨R.CARRIER_PEER_SEL, 0, 32⟩
def CARRIER_PEER_FABRIC_PORT : Fld := ⟨R.CARRIER_PEER, 48, 16⟩
def CARRIER_PEER_ROLE : Fld := ⟨R.CARRIER_PEER, 40, 8⟩
def CARRIER_PEER_PINNED : Fld := ⟨R.CARRIER_PEER, 8, 1⟩
def CARRIER_PEER_STATE : Fld := ⟨R.CARRIER_PEER, 0, 2⟩
def CARRIER_PEER_NODE_ALL : Fld := ⟨R.CARRIER_PEER_NODE, 0, 64⟩
def CARRIER_PEER_EPOCHS_PEER : Fld := ⟨R.CARRIER_PEER_EPOCHS, 32, 32⟩
def CARRIER_PEER_EPOCHS_SEND : Fld := ⟨R.CARRIER_PEER_EPOCHS, 0, 32⟩
def CARRIER_PEER_WINDOW_FLOOR : Fld := ⟨R.CARRIER_PEER_WINDOW, 32, 32⟩
def CARRIER_PEER_WINDOW_SENDSEQ : Fld := ⟨R.CARRIER_PEER_WINDOW, 0, 32⟩
def CARRIER_PEER_RATE_MBPS : Fld := ⟨R.CARRIER_PEER_RATE, 32, 32⟩
def CARRIER_PEER_RATE_ALPHA : Fld := ⟨R.CARRIER_PEER_RATE, 0, 16⟩
def CARRIER_PEER_FEAT_WORD2 : Fld := ⟨R.CARRIER_PEER_FEAT, 32, 32⟩
def CARRIER_PEER_FEAT_WORD0 : Fld := ⟨R.CARRIER_PEER_FEAT, 0, 32⟩
def CARRIER_PEER_CTL_STATUS : Fld := ⟨R.CARRIER_PEER_CTL, 48, 16⟩
def CARRIER_PEER_CTL_RESET : Fld := ⟨R.CARRIER_PEER_CTL, 2, 1⟩
def CARRIER_PEER_CTL_UNPIN : Fld := ⟨R.CARRIER_PEER_CTL, 1, 1⟩
def CARRIER_PEER_CTL_PIN : Fld := ⟨R.CARRIER_PEER_CTL, 0, 1⟩
def CARRIER_REG_SEL_VAL : Fld := ⟨R.CARRIER_REG_SEL, 0, 20⟩
def CARRIER_REG_HANDLE_ALL : Fld := ⟨R.CARRIER_REG_HANDLE, 0, 64⟩
def CARRIER_REG_INFO_LENGTH : Fld := ⟨R.CARRIER_REG_INFO, 32, 32⟩
def CARRIER_REG_INFO_KIND : Fld := ⟨R.CARRIER_REG_INFO, 4, 4⟩
def CARRIER_REG_INFO_ACCESS : Fld := ⟨R.CARRIER_REG_INFO, 2, 2⟩
def CARRIER_REG_INFO_READ : Fld := ⟨R.CARRIER_REG_INFO, 3, 1⟩
def CARRIER_REG_INFO_WRITE : Fld := ⟨R.CARRIER_REG_INFO, 2, 1⟩
def CARRIER_REG_INFO_STATE : Fld := ⟨R.CARRIER_REG_INFO, 0, 2⟩
def CARRIER_REG_BASE_ALL : Fld := ⟨R.CARRIER_REG_BASE, 0, 64⟩
def CARRIER_REG_PEER_ALL : Fld := ⟨R.CARRIER_REG_PEER, 0, 64⟩
def CARRIER_REG_CTL_STATUS : Fld := ⟨R.CARRIER_REG_CTL, 48, 16⟩
def CARRIER_REG_CTL_LENGTH : Fld := ⟨R.CARRIER_REG_CTL, 12, 32⟩
def CARRIER_REG_CTL_ACCESS : Fld := ⟨R.CARRIER_REG_CTL, 3, 2⟩
def CARRIER_REG_CTL_BUSY : Fld := ⟨R.CARRIER_REG_CTL, 2, 1⟩
def CARRIER_REG_CTL_REVOKE : Fld := ⟨R.CARRIER_REG_CTL, 1, 1⟩
def CARRIER_REG_CTL_CREATE : Fld := ⟨R.CARRIER_REG_CTL, 0, 1⟩
def CARRIER_REG_REVOKE_SEQ_ALL : Fld := ⟨R.CARRIER_REG_REVOKE_SEQ, 0, 64⟩
def FABRIC_CFG_STATUS : Fld := ⟨R.FABRIC_CFG, 48, 16⟩
def FABRIC_CFG_MODE : Fld := ⟨R.FABRIC_CFG, 0, 8⟩
def FABRIC_LINK_LINKS : Fld := ⟨R.FABRIC_LINK, 0, 16⟩
def FABRIC_P_MAC_MAC : Fld := ⟨R.FABRIC_P_MAC, 0, 48⟩
def FABRIC_P_RX_BYTES_ALL : Fld := ⟨R.FABRIC_P_RX_BYTES, 0, 64⟩
def FABRIC_P_TX_BYTES_ALL : Fld := ⟨R.FABRIC_P_TX_BYTES, 0, 64⟩
def FABRIC_P_CE_ALL : Fld := ⟨R.FABRIC_P_CE, 0, 64⟩
def FABRIC_P_ERR_FCS : Fld := ⟨R.FABRIC_P_ERR, 32, 32⟩
def FABRIC_P_ERR_DISCARDED : Fld := ⟨R.FABRIC_P_ERR, 0, 32⟩
def FABRIC_SADDR_SEL_VAL : Fld := ⟨R.FABRIC_SADDR_SEL, 0, 4⟩
def FABRIC_SADDR_CFG_STATUS : Fld := ⟨R.FABRIC_SADDR_CFG, 48, 16⟩
def FABRIC_SADDR_CFG_PORT : Fld := ⟨R.FABRIC_SADDR_CFG, 36, 4⟩
def FABRIC_SADDR_CFG_HOME : Fld := ⟨R.FABRIC_SADDR_CFG, 35, 1⟩
def FABRIC_SADDR_CFG_V4 : Fld := ⟨R.FABRIC_SADDR_CFG, 34, 1⟩
def FABRIC_SADDR_CFG_VALID : Fld := ⟨R.FABRIC_SADDR_CFG, 33, 1⟩
def FABRIC_SADDR_CFG_IPV4 : Fld := ⟨R.FABRIC_SADDR_CFG, 0, 32⟩
def FABRIC_SADDR_V6_HI_ALL : Fld := ⟨R.FABRIC_SADDR_V6_HI, 0, 64⟩
def FABRIC_SADDR_V6_LO_ALL : Fld := ⟨R.FABRIC_SADDR_V6_LO, 0, 64⟩
def FABRIC_SADDR_STATE_SENT : Fld := ⟨R.FABRIC_SADDR_STATE, 32, 32⟩
def FABRIC_SADDR_STATE_ADOPTED : Fld := ⟨R.FABRIC_SADDR_STATE, 1, 1⟩
def FABRIC_SADDR_STATE_SERVING : Fld := ⟨R.FABRIC_SADDR_STATE, 0, 1⟩
def MAGPORT_SUMMARY_ALL : Fld := ⟨R.MAGPORT_SUMMARY, 0, 64⟩
def MAGPORT_TIMERS_TWIN_LOSS_MS : Fld := ⟨R.MAGPORT_TIMERS, 16, 16⟩
def MAGPORT_TIMERS_RESEND_US : Fld := ⟨R.MAGPORT_TIMERS, 0, 16⟩
def MAGPORT_P_CFG_STATUS : Fld := ⟨R.MAGPORT_P_CFG, 48, 16⟩
def MAGPORT_P_CFG_VOLUME : Fld := ⟨R.MAGPORT_P_CFG, 36, 12⟩
def MAGPORT_P_CFG_TWIN : Fld := ⟨R.MAGPORT_P_CFG, 3, 1⟩
def MAGPORT_P_CFG_ENABLE : Fld := ⟨R.MAGPORT_P_CFG, 2, 1⟩
def MAGPORT_P_CFG_ROLE : Fld := ⟨R.MAGPORT_P_CFG, 0, 2⟩
def MAGPORT_P_LINK_LINK_EPOCH : Fld := ⟨R.MAGPORT_P_LINK, 32, 32⟩
def MAGPORT_P_LINK_LANES_UP : Fld := ⟨R.MAGPORT_P_LINK, 24, 4⟩
def MAGPORT_P_LINK_STATE : Fld := ⟨R.MAGPORT_P_LINK, 0, 3⟩
def MAGPORT_P_FEAT_WORD3 : Fld := ⟨R.MAGPORT_P_FEAT, 32, 32⟩
def MAGPORT_P_FEAT_WORD0 : Fld := ⟨R.MAGPORT_P_FEAT, 0, 32⟩
def MAGPORT_P_FOLIOS_RX_ALL : Fld := ⟨R.MAGPORT_P_FOLIOS_RX, 0, 64⟩
def MAGPORT_P_FOLIOS_TX_ALL : Fld := ⟨R.MAGPORT_P_FOLIOS_TX, 0, 64⟩
def MAGPORT_P_SYNC_BITERR : Fld := ⟨R.MAGPORT_P_SYNC, 32, 32⟩
def MAGPORT_P_SYNC_HCRC : Fld := ⟨R.MAGPORT_P_SYNC, 0, 32⟩
def MAGPORT_P_RESEND_RESEND_REQ : Fld := ⟨R.MAGPORT_P_RESEND, 32, 32⟩
def MAGPORT_P_RESEND_AGAIN : Fld := ⟨R.MAGPORT_P_RESEND, 0, 32⟩
def MAGPORT_P_ERR_PCRC : Fld := ⟨R.MAGPORT_P_ERR, 32, 32⟩
def MAGPORT_P_ERR_DISCARDED : Fld := ⟨R.MAGPORT_P_ERR, 0, 32⟩
def MAGPORT_P_TWIN_EPOCH : Fld := ⟨R.MAGPORT_P_TWIN, 32, 32⟩
def MAGPORT_P_TWIN_TAKE : Fld := ⟨R.MAGPORT_P_TWIN, 8, 8⟩
def MAGPORT_P_TWIN_STATE : Fld := ⟨R.MAGPORT_P_TWIN, 0, 2⟩
def MAGPORT_P_CTL_STATUS : Fld := ⟨R.MAGPORT_P_CTL, 48, 16⟩
def MAGPORT_P_CTL_BUSY : Fld := ⟨R.MAGPORT_P_CTL, 1, 1⟩
def MAGPORT_P_CTL_RETRAIN : Fld := ⟨R.MAGPORT_P_CTL, 0, 1⟩
def MAGPORT_P_TASK_SEL_VAL : Fld := ⟨R.MAGPORT_P_TASK_SEL, 0, 6⟩
def MAGPORT_P_TASK_TAG : Fld := ⟨R.MAGPORT_P_TASK, 48, 16⟩
def MAGPORT_P_TASK_STATUS : Fld := ⟨R.MAGPORT_P_TASK, 32, 16⟩
def MAGPORT_P_TASK_OPCODE : Fld := ⟨R.MAGPORT_P_TASK, 16, 8⟩
def MAGPORT_P_TASK_STATE : Fld := ⟨R.MAGPORT_P_TASK, 0, 2⟩
def MAGPORT_P_INGEST_CTL_STATUS : Fld := ⟨R.MAGPORT_P_INGEST_CTL, 48, 16⟩
def MAGPORT_P_INGEST_CTL_CAUSE : Fld := ⟨R.MAGPORT_P_INGEST_CTL, 40, 8⟩
def MAGPORT_P_INGEST_CTL_STATE : Fld := ⟨R.MAGPORT_P_INGEST_CTL, 8, 3⟩
def MAGPORT_P_INGEST_CTL_STOP : Fld := ⟨R.MAGPORT_P_INGEST_CTL, 1, 1⟩
def MAGPORT_P_INGEST_CTL_START : Fld := ⟨R.MAGPORT_P_INGEST_CTL, 0, 1⟩
def MAGPORT_P_INGEST_TARGET_VOLUME : Fld := ⟨R.MAGPORT_P_INGEST_TARGET, 52, 12⟩
def MAGPORT_P_INGEST_TARGET_OFFSET : Fld := ⟨R.MAGPORT_P_INGEST_TARGET, 0, 52⟩
def MAGPORT_P_INGEST_REPORT_VOLUME : Fld := ⟨R.MAGPORT_P_INGEST_REPORT, 52, 12⟩
def MAGPORT_P_INGEST_REPORT_LEAF : Fld := ⟨R.MAGPORT_P_INGEST_REPORT, 0, 52⟩
def MAGPORT_P_INGEST_PROGRESS_DONE : Fld := ⟨R.MAGPORT_P_INGEST_PROGRESS, 32, 32⟩
def MAGPORT_P_INGEST_PROGRESS_USED : Fld := ⟨R.MAGPORT_P_INGEST_PROGRESS, 0, 32⟩
def MAGPORT_P_INGEST_BYTES_ALL : Fld := ⟨R.MAGPORT_P_INGEST_BYTES, 0, 64⟩
def MAGPORT_P_INGEST_OUTCOMES_VERIFIED : Fld := ⟨R.MAGPORT_P_INGEST_OUTCOMES, 48, 16⟩
def MAGPORT_P_INGEST_OUTCOMES_MISMATCH : Fld := ⟨R.MAGPORT_P_INGEST_OUTCOMES, 32, 16⟩
def MAGPORT_P_INGEST_OUTCOMES_NO_DIGEST : Fld := ⟨R.MAGPORT_P_INGEST_OUTCOMES, 16, 16⟩
def MAGPORT_P_INGEST_OUTCOMES_READ_ERROR : Fld := ⟨R.MAGPORT_P_INGEST_OUTCOMES, 0, 16⟩
def MAGPORT_P_REPORT_LEN_ALL : Fld := ⟨R.MAGPORT_P_REPORT_LEN, 0, 64⟩
def MAGPORT_P_REPORT_SEL_VAL : Fld := ⟨R.MAGPORT_P_REPORT_SEL, 0, 17⟩
def MAGPORT_P_REPORT_DATA_ALL : Fld := ⟨R.MAGPORT_P_REPORT_DATA, 0, 64⟩
def MAGPORT_P_REPORT_SEQ_ALL : Fld := ⟨R.MAGPORT_P_REPORT_SEQ, 0, 64⟩
def COUNCIL_STATE_ALIVE : Fld := ⟨R.COUNCIL_STATE, 32, 32⟩
def COUNCIL_STATE_CONFIG : Fld := ⟨R.COUNCIL_STATE, 6, 2⟩
def COUNCIL_STATE_HALTED : Fld := ⟨R.COUNCIL_STATE, 5, 1⟩
def COUNCIL_STATE_ACTIVE : Fld := ⟨R.COUNCIL_STATE, 3, 2⟩
def COUNCIL_STATE_IN_SERVICE : Fld := ⟨R.COUNCIL_STATE, 0, 3⟩
def COUNCIL_CFG_STATUS : Fld := ⟨R.COUNCIL_CFG, 48, 16⟩
def COUNCIL_CFG_VOTE_WINDOW_US : Fld := ⟨R.COUNCIL_CFG, 32, 16⟩
def COUNCIL_CFG_DISSENT_LIMIT : Fld := ⟨R.COUNCIL_CFG, 24, 8⟩
def COUNCIL_DECISIONS_ALL : Fld := ⟨R.COUNCIL_DECISIONS, 0, 64⟩
def COUNCIL_DISSENT_BALLOTS : Fld := ⟨R.COUNCIL_DISSENT, 32, 32⟩
def COUNCIL_DISSENT_DISCARDED : Fld := ⟨R.COUNCIL_DISSENT, 0, 32⟩
def COUNCIL_LAST_DISSENT_PRIV : Fld := ⟨R.COUNCIL_LAST_DISSENT, 56, 8⟩
def COUNCIL_LAST_DISSENT_AGREED : Fld := ⟨R.COUNCIL_LAST_DISSENT, 8, 3⟩
def COUNCIL_LAST_DISSENT_DISSENTED : Fld := ⟨R.COUNCIL_LAST_DISSENT, 0, 3⟩
def COUNCIL_LAST_DISSENT_SEQ_ALL : Fld := ⟨R.COUNCIL_LAST_DISSENT_SEQ, 0, 64⟩
def COUNCIL_CORE_SEL_VAL : Fld := ⟨R.COUNCIL_CORE_SEL, 0, 2⟩
def COUNCIL_CORE_DISSENTS : Fld := ⟨R.COUNCIL_CORE, 48, 16⟩
def COUNCIL_CORE_RETIRE_CAUSE : Fld := ⟨R.COUNCIL_CORE, 40, 8⟩
def COUNCIL_CORE_STATE : Fld := ⟨R.COUNCIL_CORE, 0, 3⟩
def COUNCIL_CORE_CTL_STATUS : Fld := ⟨R.COUNCIL_CORE_CTL, 48, 16⟩
def COUNCIL_CORE_CTL_BUSY : Fld := ⟨R.COUNCIL_CORE_CTL, 3, 1⟩
def COUNCIL_CORE_CTL_RESTORE : Fld := ⟨R.COUNCIL_CORE_CTL, 2, 1⟩
def COUNCIL_CORE_CTL_RETIRE : Fld := ⟨R.COUNCIL_CORE_CTL, 1, 1⟩
def COUNCIL_CORE_CTL_TEST : Fld := ⟨R.COUNCIL_CORE_CTL, 0, 1⟩
def COUNCIL_PAIR_HB_GAP_MAX : Fld := ⟨R.COUNCIL_PAIR, 32, 32⟩
def COUNCIL_PAIR_TEST_PULSES : Fld := ⟨R.COUNCIL_PAIR, 16, 16⟩
def COUNCIL_PAIR_ROLE : Fld := ⟨R.COUNCIL_PAIR, 8, 2⟩
def COUNCIL_PAIR_FENCE_IN_RAW : Fld := ⟨R.COUNCIL_PAIR, 4, 1⟩
def COUNCIL_PAIR_FENCE_IN : Fld := ⟨R.COUNCIL_PAIR, 3, 1⟩
def COUNCIL_PAIR_FENCE_OUT : Fld := ⟨R.COUNCIL_PAIR, 2, 1⟩
def COUNCIL_PAIR_SELF_FENCED : Fld := ⟨R.COUNCIL_PAIR, 1, 1⟩
def COUNCIL_PAIR_HB : Fld := ⟨R.COUNCIL_PAIR, 0, 1⟩
def COUNCIL_SWITCH_GAP_MS : Fld := ⟨R.COUNCIL_SWITCH, 48, 16⟩
def COUNCIL_SWITCH_CAUSE : Fld := ⟨R.COUNCIL_SWITCH, 40, 8⟩
def COUNCIL_SWITCH_KIND : Fld := ⟨R.COUNCIL_SWITCH, 32, 8⟩
def COUNCIL_SWITCH_COMMONS : Fld := ⟨R.COUNCIL_SWITCH, 16, 16⟩
def COUNCIL_SWITCH_TAKES : Fld := ⟨R.COUNCIL_SWITCH, 0, 8⟩
def COUNCIL_SWITCH_SEQ_ALL : Fld := ⟨R.COUNCIL_SWITCH_SEQ, 0, 64⟩
def COUNCIL_FAILBACK_LEFT : Fld := ⟨R.COUNCIL_FAILBACK, 32, 32⟩
def COUNCIL_FAILBACK_RESTARTS : Fld := ⟨R.COUNCIL_FAILBACK, 16, 16⟩
def COUNCIL_FAILBACK_STATE : Fld := ⟨R.COUNCIL_FAILBACK, 0, 2⟩
def COUNCIL_DRILL_CFG_STATUS : Fld := ⟨R.COUNCIL_DRILL_CFG, 48, 16⟩
def COUNCIL_DRILL_CFG_INTERVAL_H : Fld := ⟨R.COUNCIL_DRILL_CFG, 32, 16⟩
def COUNCIL_DRILL_CFG_HOLD_S : Fld := ⟨R.COUNCIL_DRILL_CFG, 16, 16⟩
def COUNCIL_DRILL_CFG_ENABLE : Fld := ⟨R.COUNCIL_DRILL_CFG, 0, 1⟩
def COUNCIL_DRILL_CTL_STATUS : Fld := ⟨R.COUNCIL_DRILL_CTL, 48, 16⟩
def COUNCIL_DRILL_CTL_RETRY_MS : Fld := ⟨R.COUNCIL_DRILL_CTL, 24, 24⟩
def COUNCIL_DRILL_CTL_BUSY : Fld := ⟨R.COUNCIL_DRILL_CTL, 1, 1⟩
def COUNCIL_DRILL_CTL_GO : Fld := ⟨R.COUNCIL_DRILL_CTL, 0, 1⟩
def COUNCIL_DRILL_RESULT_GAP_MS : Fld := ⟨R.COUNCIL_DRILL_RESULT, 48, 16⟩
def COUNCIL_DRILL_RESULT_SLOT : Fld := ⟨R.COUNCIL_DRILL_RESULT, 40, 1⟩
def COUNCIL_DRILL_RESULT_FAILED : Fld := ⟨R.COUNCIL_DRILL_RESULT, 0, 16⟩
def COUNCIL_DRILL_SEQ_ALL : Fld := ⟨R.COUNCIL_DRILL_SEQ, 0, 64⟩
def LARDER_STATE_DIRTY : Fld := ⟨R.LARDER_STATE, 48, 16⟩
def LARDER_STATE_WRITE_THROUGH : Fld := ⟨R.LARDER_STATE, 3, 1⟩
def LARDER_STATE_CLEANING : Fld := ⟨R.LARDER_STATE, 2, 1⟩
def LARDER_STATE_DISABLED : Fld := ⟨R.LARDER_STATE, 1, 1⟩
def LARDER_STATE_READY : Fld := ⟨R.LARDER_STATE, 0, 1⟩
def LARDER_CTL_STATUS : Fld := ⟨R.LARDER_CTL, 48, 16⟩
def LARDER_CTL_BUSY : Fld := ⟨R.LARDER_CTL, 32, 1⟩
def LARDER_CTL_SEED : Fld := ⟨R.LARDER_CTL, 16, 16⟩
def LARDER_CTL_ENABLE : Fld := ⟨R.LARDER_CTL, 0, 1⟩
def LARDER_HITS_ALL : Fld := ⟨R.LARDER_HITS, 0, 64⟩
def LARDER_MISSES_ALL : Fld := ⟨R.LARDER_MISSES, 0, 64⟩
def LARDER_EVICT_DIRTY_ALL : Fld := ⟨R.LARDER_EVICT_DIRTY, 0, 64⟩
def LARDER_ECC_CORR : Fld := ⟨R.LARDER_ECC, 32, 32⟩
def LARDER_ECC_UNCORR : Fld := ⟨R.LARDER_ECC, 0, 32⟩
def LARDER_POISON_ALL : Fld := ⟨R.LARDER_POISON, 0, 64⟩
def LARDER_LAST_ERR_KIND : Fld := ⟨R.LARDER_LAST_ERR, 60, 4⟩
def LARDER_LAST_ERR_BANK : Fld := ⟨R.LARDER_LAST_ERR, 52, 5⟩
def LARDER_LAST_ERR_WAY : Fld := ⟨R.LARDER_LAST_ERR, 47, 5⟩
def LARDER_LAST_ERR_ADDR : Fld := ⟨R.LARDER_LAST_ERR, 0, 36⟩
def LARDER_LAST_ERR_SEQ_ALL : Fld := ⟨R.LARDER_LAST_ERR_SEQ, 0, 64⟩
def LARDER_MAINT_ADDR_VAL : Fld := ⟨R.LARDER_MAINT_ADDR, 0, 36⟩
def LARDER_MAINT_LEN_VAL : Fld := ⟨R.LARDER_MAINT_LEN, 0, 31⟩
def LARDER_MAINT_CTL_STATUS : Fld := ⟨R.LARDER_MAINT_CTL, 48, 16⟩
def LARDER_MAINT_CTL_DONE : Fld := ⟨R.LARDER_MAINT_CTL, 3, 1⟩
def LARDER_MAINT_CTL_BUSY : Fld := ⟨R.LARDER_MAINT_CTL, 2, 1⟩
def LARDER_MAINT_CTL_OP : Fld := ⟨R.LARDER_MAINT_CTL, 1, 1⟩
def LARDER_MAINT_CTL_GO : Fld := ⟨R.LARDER_MAINT_CTL, 0, 1⟩
def LARDER_WAYS_STATUS : Fld := ⟨R.LARDER_WAYS, 48, 16⟩
def LARDER_WAYS_RETRY_MS : Fld := ⟨R.LARDER_WAYS, 32, 16⟩
def LARDER_WAYS_COUNT : Fld := ⟨R.LARDER_WAYS, 0, 5⟩
def LARDER_BANK_SEL_VAL : Fld := ⟨R.LARDER_BANK_SEL, 0, 5⟩
def LARDER_BANK_CORR : Fld := ⟨R.LARDER_BANK, 48, 16⟩
def LARDER_BANK_SPARE : Fld := ⟨R.LARDER_BANK, 40, 5⟩
def LARDER_BANK_SERVING : Fld := ⟨R.LARDER_BANK, 32, 5⟩
def LARDER_BANK_RETIRED : Fld := ⟨R.LARDER_BANK, 0, 17⟩
def LARDER_BANK_CTL_STATUS : Fld := ⟨R.LARDER_BANK_CTL, 48, 16⟩
def LARDER_BANK_CTL_RESTORE : Fld := ⟨R.LARDER_BANK_CTL, 6, 1⟩
def LARDER_BANK_CTL_RETIRE : Fld := ⟨R.LARDER_BANK_CTL, 5, 1⟩
def LARDER_BANK_CTL_WAY : Fld := ⟨R.LARDER_BANK_CTL, 0, 5⟩
def HBM_STATE_GIB : Fld := ⟨R.HBM_STATE, 32, 32⟩
def HBM_STATE_STACKS : Fld := ⟨R.HBM_STATE, 8, 2⟩
def HBM_STATE_DOUBLED : Fld := ⟨R.HBM_STATE, 1, 1⟩
def HBM_STATE_TRAINED : Fld := ⟨R.HBM_STATE, 0, 1⟩
def HBM_TEMP_STACK1 : Fld := ⟨R.HBM_TEMP, 16, 16⟩
def HBM_TEMP_STACK0 : Fld := ⟨R.HBM_TEMP, 0, 16⟩
def HBM_ECC_CORR : Fld := ⟨R.HBM_ECC, 32, 32⟩
def HBM_ECC_UNCORR : Fld := ⟨R.HBM_ECC, 0, 32⟩
def HBM_LAST_ERR_KIND : Fld := ⟨R.HBM_LAST_ERR, 60, 4⟩
def HBM_LAST_ERR_ADDR : Fld := ⟨R.HBM_LAST_ERR, 0, 36⟩
def HBM_LAST_ERR_SEQ_ALL : Fld := ⟨R.HBM_LAST_ERR_SEQ, 0, 64⟩
def HBM_REMAP_CFG_STATUS : Fld := ⟨R.HBM_REMAP_CFG, 48, 16⟩
def HBM_REMAP_CFG_SCRUB_H : Fld := ⟨R.HBM_REMAP_CFG, 0, 8⟩
def HBM_CH_SEL_VAL : Fld := ⟨R.HBM_CH_SEL, 0, 5⟩
def HBM_CH_CORR : Fld := ⟨R.HBM_CH, 48, 16⟩
def HBM_CH_REPAIRED : Fld := ⟨R.HBM_CH, 16, 8⟩
def HBM_CH_USED : Fld := ⟨R.HBM_CH, 8, 8⟩
def HBM_CH_LEFT : Fld := ⟨R.HBM_CH, 0, 7⟩
def HBM_ROW_CTL_STATUS : Fld := ⟨R.HBM_ROW_CTL, 48, 16⟩
def HBM_ROW_CTL_BUSY : Fld := ⟨R.HBM_ROW_CTL, 33, 1⟩
def HBM_ROW_CTL_REMAP : Fld := ⟨R.HBM_ROW_CTL, 32, 1⟩
def HBM_ROW_CTL_ROW : Fld := ⟨R.HBM_ROW_CTL, 0, 20⟩
def STRONG_STATE_SECURITY_MIN : Fld := ⟨R.STRONG_STATE, 32, 32⟩
def STRONG_STATE_OMK : Fld := ⟨R.STRONG_STATE, 5, 1⟩
def STRONG_STATE_IDENT : Fld := ⟨R.STRONG_STATE, 4, 1⟩
def STRONG_STATE_REVOKED : Fld := ⟨R.STRONG_STATE, 2, 2⟩
def STRONG_STATE_COMMITTED : Fld := ⟨R.STRONG_STATE, 1, 1⟩
def STRONG_STATE_HALTED : Fld := ⟨R.STRONG_STATE, 0, 1⟩
def STRONG_BOOT_CTL_STATUS : Fld := ⟨R.STRONG_BOOT_CTL, 48, 16⟩
def STRONG_BOOT_CTL_RETRY : Fld := ⟨R.STRONG_BOOT_CTL, 1, 1⟩
def STRONG_BOOT_CTL_CLEAR_ALT : Fld := ⟨R.STRONG_BOOT_CTL, 0, 1⟩
def STRONG_BOOT_SEL_PREV : Fld := ⟨R.STRONG_BOOT_SEL, 6, 1⟩
def STRONG_BOOT_SEL_STEP : Fld := ⟨R.STRONG_BOOT_SEL, 0, 6⟩
def STRONG_BOOT_ENTRY_ALL : Fld := ⟨R.STRONG_BOOT_ENTRY, 0, 64⟩
def STRONG_BOOT_ALT_ALT : Fld := ⟨R.STRONG_BOOT_ALT, 0, 40⟩
def STRONG_BOOT_SKIP_SKIP : Fld := ⟨R.STRONG_BOOT_SKIP, 0, 40⟩
def STRONG_FW_CTL_STATUS : Fld := ⟨R.STRONG_FW_CTL, 48, 16⟩
def STRONG_FW_CTL_BUSY : Fld := ⟨R.STRONG_FW_CTL, 8, 1⟩
def STRONG_FW_CTL_ROLLBACK : Fld := ⟨R.STRONG_FW_CTL, 6, 1⟩
def STRONG_FW_CTL_COMMIT : Fld := ⟨R.STRONG_FW_CTL, 5, 1⟩
def STRONG_FW_CTL_ACTIVATE : Fld := ⟨R.STRONG_FW_CTL, 4, 1⟩
def STRONG_FW_CTL_VERIFY : Fld := ⟨R.STRONG_FW_CTL, 3, 1⟩
def STRONG_FW_CTL_END_BLOCK : Fld := ⟨R.STRONG_FW_CTL, 2, 1⟩
def STRONG_FW_CTL_ABORT : Fld := ⟨R.STRONG_FW_CTL, 1, 1⟩
def STRONG_FW_CTL_BEGIN : Fld := ⟨R.STRONG_FW_CTL, 0, 1⟩
def STRONG_FW_BLK_VAL : Fld := ⟨R.STRONG_FW_BLK, 0, 9⟩
def STRONG_FW_DATA_ALL : Fld := ⟨R.STRONG_FW_DATA, 0, 64⟩
def STRONG_FW_COUNT_ALL : Fld := ⟨R.STRONG_FW_COUNT, 0, 64⟩
def STRONG_FW_BANKA_VERSION : Fld := ⟨R.STRONG_FW_BANKA, 32, 32⟩
def STRONG_FW_BANKA_BLOCKS : Fld := ⟨R.STRONG_FW_BANKA, 12, 20⟩
def STRONG_FW_BANKA_STATE : Fld := ⟨R.STRONG_FW_BANKA, 0, 3⟩
def STRONG_FW_BANKB_ALL : Fld := ⟨R.STRONG_FW_BANKB, 0, 64⟩
def STRONG_FW_SECV_B : Fld := ⟨R.STRONG_FW_SECV, 32, 32⟩
def STRONG_FW_SECV_A : Fld := ⟨R.STRONG_FW_SECV, 0, 32⟩
def STRONG_FW_CFG_AUTO_COMMIT : Fld := ⟨R.STRONG_FW_CFG, 0, 1⟩
def STRONG_ROLL_CTL_STATUS : Fld := ⟨R.STRONG_ROLL_CTL, 48, 16⟩
def STRONG_ROLL_CTL_RETRY_MS : Fld := ⟨R.STRONG_ROLL_CTL, 24, 24⟩
def STRONG_ROLL_CTL_BUSY : Fld := ⟨R.STRONG_ROLL_CTL, 1, 1⟩
def STRONG_ROLL_CTL_GO : Fld := ⟨R.STRONG_ROLL_CTL, 0, 1⟩
def STRONG_ROLL_STATE_FAILED_STEP : Fld := ⟨R.STRONG_ROLL_STATE, 8, 8⟩
def STRONG_ROLL_STATE_STEP : Fld := ⟨R.STRONG_ROLL_STATE, 0, 3⟩
def STRONG_QUOTE_NONCE_ALL : Fld := ⟨R.STRONG_QUOTE_NONCE, 0, 64⟩
def STRONG_QUOTE_CTL_STATUS : Fld := ⟨R.STRONG_QUOTE_CTL, 48, 16⟩
def STRONG_QUOTE_CTL_BUSY : Fld := ⟨R.STRONG_QUOTE_CTL, 1, 1⟩
def STRONG_QUOTE_CTL_GO : Fld := ⟨R.STRONG_QUOTE_CTL, 0, 1⟩
def STRONG_QUOTE_SEL_VAL : Fld := ⟨R.STRONG_QUOTE_SEL, 0, 8⟩
def STRONG_QUOTE_DATA_ALL : Fld := ⟨R.STRONG_QUOTE_DATA, 0, 64⟩
def STRONG_CERT_LEN_ALL : Fld := ⟨R.STRONG_CERT_LEN, 0, 64⟩
def STRONG_CERT_SEL_VAL : Fld := ⟨R.STRONG_CERT_SEL, 0, 12⟩
def STRONG_CERT_DATA_ALL : Fld := ⟨R.STRONG_CERT_DATA, 0, 64⟩
def STRONG_ID_KEYID_ALL : Fld := ⟨R.STRONG_ID_KEYID, 0, 64⟩
def STRONG_KEY_CTL_STATUS : Fld := ⟨R.STRONG_KEY_CTL, 48, 16⟩
def STRONG_KEY_CTL_BUSY : Fld := ⟨R.STRONG_KEY_CTL, 24, 1⟩
def STRONG_KEY_CTL_OP : Fld := ⟨R.STRONG_KEY_CTL, 16, 3⟩
def STRONG_KEY_CTL_TARGET : Fld := ⟨R.STRONG_KEY_CTL, 0, 8⟩
def STRONG_KEY_LEN_VAL : Fld := ⟨R.STRONG_KEY_LEN, 0, 16⟩
def STRONG_KEY_DATA_ALL : Fld := ⟨R.STRONG_KEY_DATA, 0, 64⟩
def STRONG_KEY_OUT_SEL_VAL : Fld := ⟨R.STRONG_KEY_OUT_SEL, 0, 4⟩
def STRONG_KEY_OUT_ALL : Fld := ⟨R.STRONG_KEY_OUT, 0, 64⟩
def STRONG_VAULT_SEL_VAL : Fld := ⟨R.STRONG_VAULT_SEL, 0, 8⟩
def STRONG_VAULT_ID_ALL : Fld := ⟨R.STRONG_VAULT_ID, 0, 64⟩
def STRONG_OMK_ID_ALL : Fld := ⟨R.STRONG_OMK_ID, 0, 64⟩
def STRONG_AUTH_NONCE_ALL : Fld := ⟨R.STRONG_AUTH_NONCE, 0, 64⟩
def STRONG_AUTH_NONCE1_ALL : Fld := ⟨R.STRONG_AUTH_NONCE1, 0, 64⟩
def STRONG_AUTH_LEN_VAL : Fld := ⟨R.STRONG_AUTH_LEN, 0, 16⟩
def STRONG_AUTH_DATA_ALL : Fld := ⟨R.STRONG_AUTH_DATA, 0, 64⟩
def REEVE_NOW_ALL : Fld := ⟨R.REEVE_NOW, 0, 64⟩
def REEVE_START_ALL : Fld := ⟨R.REEVE_START, 0, 64⟩
def REEVE_RATE_ALL : Fld := ⟨R.REEVE_RATE, 0, 64⟩
def REEVE_TIME_CYCLE : Fld := ⟨R.REEVE_TIME, 40, 24⟩
def REEVE_TIME_SECONDS : Fld := ⟨R.REEVE_TIME, 0, 40⟩
def REEVE_WALL_WALL_EPOCH : Fld := ⟨R.REEVE_WALL, 56, 8⟩
def REEVE_WALL_VALID : Fld := ⟨R.REEVE_WALL, 48, 1⟩
def REEVE_WALL_SECONDS : Fld := ⟨R.REEVE_WALL, 0, 40⟩
def REEVE_REEL_BASE_ALL : Fld := ⟨R.REEVE_REEL_BASE, 0, 64⟩
def REEVE_REEL_SEQ_ALL : Fld := ⟨R.REEVE_REEL_SEQ, 0, 64⟩
def REEVE_REEL_OLDEST_ALL : Fld := ⟨R.REEVE_REEL_OLDEST, 0, 64⟩
def REEVE_REEL_CTL_STATUS : Fld := ⟨R.REEVE_REEL_CTL, 48, 16⟩
def REEVE_REEL_CTL_FREEZE : Fld := ⟨R.REEVE_REEL_CTL, 0, 1⟩
def REEVE_REEL_LOST_ALL : Fld := ⟨R.REEVE_REEL_LOST, 0, 64⟩
def REEVE_REPLAY_COUNT : Fld := ⟨R.REEVE_REPLAY, 32, 32⟩
def REEVE_REPLAY_RESULT : Fld := ⟨R.REEVE_REPLAY, 4, 3⟩
def REEVE_REPLAY_STATE : Fld := ⟨R.REEVE_REPLAY, 0, 2⟩
def REEVE_REPLAY_AT_ALL : Fld := ⟨R.REEVE_REPLAY_AT, 0, 64⟩
def REEVE_REPLAY_DIFF_RECORDED : Fld := ⟨R.REEVE_REPLAY_DIFF, 56, 8⟩
def REEVE_REPLAY_DIFF_REPLAYED : Fld := ⟨R.REEVE_REPLAY_DIFF, 48, 8⟩
def REEVE_REPLAY_DIFF_OFFSET : Fld := ⟨R.REEVE_REPLAY_DIFF, 0, 32⟩
def REEVE_REPLAY_CTL_STATUS : Fld := ⟨R.REEVE_REPLAY_CTL, 48, 16⟩
def REEVE_REPLAY_CTL_STOP : Fld := ⟨R.REEVE_REPLAY_CTL, 0, 1⟩
def PARISH_STATE_NEXT_SEQ : Fld := ⟨R.PARISH_STATE, 32, 32⟩
def PARISH_STATE_FOUNDING : Fld := ⟨R.PARISH_STATE, 16, 16⟩
def PARISH_STATE_FOUNDING_FULL : Fld := ⟨R.PARISH_STATE, 1, 1⟩
def PARISH_STATE_READY : Fld := ⟨R.PARISH_STATE, 0, 1⟩
def PARISH_OLDEST_ALL : Fld := ⟨R.PARISH_OLDEST, 0, 64⟩
def PARISH_WRITTEN_ALL : Fld := ⟨R.PARISH_WRITTEN, 0, 64⟩
def PARISH_CLEAR_STATUS : Fld := ⟨R.PARISH_CLEAR, 48, 16⟩
def PARISH_CLEAR_BUSY : Fld := ⟨R.PARISH_CLEAR, 1, 1⟩
def PARISH_CLEAR_GO : Fld := ⟨R.PARISH_CLEAR, 0, 1⟩
def PARISH_CLEARED_SEQ_ALL : Fld := ⟨R.PARISH_CLEARED_SEQ, 0, 64⟩
def PARISH_SNAP_CTL_STATUS : Fld := ⟨R.PARISH_SNAP_CTL, 48, 16⟩
def PARISH_SNAP_CTL_BUSY : Fld := ⟨R.PARISH_SNAP_CTL, 40, 1⟩
def PARISH_SNAP_CTL_AREA : Fld := ⟨R.PARISH_SNAP_CTL, 36, 1⟩
def PARISH_SNAP_CTL_GO : Fld := ⟨R.PARISH_SNAP_CTL, 32, 1⟩
def PARISH_SNAP_CTL_FROM : Fld := ⟨R.PARISH_SNAP_CTL, 0, 32⟩
def PARISH_SNAP_INFO_FIRST : Fld := ⟨R.PARISH_SNAP_INFO, 32, 32⟩
def PARISH_SNAP_INFO_COPIED : Fld := ⟨R.PARISH_SNAP_INFO, 0, 17⟩
def PARISH_SNAP_SEQ_ALL : Fld := ⟨R.PARISH_SNAP_SEQ, 0, 64⟩
def PARISH_SNAP_SEL_VAL : Fld := ⟨R.PARISH_SNAP_SEL, 0, 17⟩
def PARISH_SNAP_DATA_ALL : Fld := ⟨R.PARISH_SNAP_DATA, 0, 64⟩
def CRIER_STATE_ALARMS : Fld := ⟨R.CRIER_STATE, 48, 16⟩
def CRIER_STATE_LOGS : Fld := ⟨R.CRIER_STATE, 32, 16⟩
def CRIER_STATE_PUSH : Fld := ⟨R.CRIER_STATE, 0, 1⟩
def CRIER_CFG_STATUS : Fld := ⟨R.CRIER_CFG, 48, 16⟩
def CRIER_CFG_LOG_RATE : Fld := ⟨R.CRIER_CFG, 32, 16⟩
def CRIER_CFG_LOG_BURST : Fld := ⟨R.CRIER_CFG, 16, 16⟩
def CRIER_CFG_HUSH_S : Fld := ⟨R.CRIER_CFG, 8, 8⟩
def CRIER_TRACE_EN_ALL : Fld := ⟨R.CRIER_TRACE_EN, 0, 64⟩
def CRIER_SENT_ALL : Fld := ⟨R.CRIER_SENT, 0, 64⟩
def CRIER_COALESCED_ALL : Fld := ⟨R.CRIER_COALESCED, 0, 64⟩
def CRIER_HUSHED_ALL : Fld := ⟨R.CRIER_HUSHED, 0, 64⟩
def CRIER_DROPPED_ALL : Fld := ⟨R.CRIER_DROPPED, 0, 64⟩
def CRIER_RING_HEAD_ALL : Fld := ⟨R.CRIER_RING_HEAD, 0, 64⟩
def CRIER_RING_SEL_STATUS : Fld := ⟨R.CRIER_RING_SEL, 48, 16⟩
def CRIER_RING_SEL_VAL : Fld := ⟨R.CRIER_RING_SEL, 0, 32⟩
def CRIER_RING_DATA_ALL : Fld := ⟨R.CRIER_RING_DATA, 0, 64⟩
def COUNT_CYCLES_ALL : Fld := ⟨R.COUNT_CYCLES, 0, 64⟩
def COUNT_LATCH_STATUS : Fld := ⟨R.COUNT_LATCH, 48, 16⟩
def COUNT_LATCH_GO : Fld := ⟨R.COUNT_LATCH, 0, 1⟩
def COUNT_LATCH_SEQ_ALL : Fld := ⟨R.COUNT_LATCH_SEQ, 0, 64⟩
def COUNT_SAMPLE_BASE_ALL : Fld := ⟨R.COUNT_SAMPLE_BASE, 0, 64⟩
def COUNT_SAMPLE_HEAD_ALL : Fld := ⟨R.COUNT_SAMPLE_HEAD, 0, 64⟩
def COUNT_SAMPLE_LOST_ALL : Fld := ⟨R.COUNT_SAMPLE_LOST, 0, 64⟩
def COUNT_P_CFG_STATUS : Fld := ⟨R.COUNT_P_CFG, 48, 16⟩
def COUNT_P_CFG_HAND_MASK : Fld := ⟨R.COUNT_P_CFG, 32, 16⟩
def COUNT_P_CFG_OVF_LOG : Fld := ⟨R.COUNT_P_CFG, 12, 1⟩
def COUNT_P_CFG_CHAIN : Fld := ⟨R.COUNT_P_CFG, 11, 1⟩
def COUNT_P_CFG_SAMPLE : Fld := ⟨R.COUNT_P_CFG, 10, 1⟩
def COUNT_P_CFG_LEVEL : Fld := ⟨R.COUNT_P_CFG, 9, 1⟩
def COUNT_P_CFG_EVENT : Fld := ⟨R.COUNT_P_CFG, 0, 8⟩
def COUNT_P_VALUE_ALL : Fld := ⟨R.COUNT_P_VALUE, 0, 64⟩
def COUNT_P_SHADOW_ALL : Fld := ⟨R.COUNT_P_SHADOW, 0, 64⟩
def COUNT_P_PERIOD_VAL : Fld := ⟨R.COUNT_P_PERIOD, 0, 32⟩
def COUNT_OVF_VAL : Fld := ⟨R.COUNT_OVF, 0, 32⟩
def COUNT_RUN_VAL : Fld := ⟨R.COUNT_RUN, 0, 32⟩
def WARDEN_GRADE_SINCE : Fld := ⟨R.WARDEN_GRADE, 24, 40⟩
def WARDEN_GRADE_THERMAL : Fld := ⟨R.WARDEN_GRADE, 2, 1⟩
def WARDEN_GRADE_GRADE : Fld := ⟨R.WARDEN_GRADE, 0, 2⟩
def WARDEN_VIN_VIN : Fld := ⟨R.WARDEN_VIN, 48, 16⟩
def WARDEN_VIN_LOWEST : Fld := ⟨R.WARDEN_VIN, 32, 16⟩
def WARDEN_VIN_CHANGES : Fld := ⟨R.WARDEN_VIN, 0, 32⟩
def WARDEN_POWER_MW : Fld := ⟨R.WARDEN_POWER, 32, 32⟩
def WARDEN_POWER_CAP : Fld := ⟨R.WARDEN_POWER, 16, 16⟩
def WARDEN_POWER_LIMITED : Fld := ⟨R.WARDEN_POWER, 0, 1⟩
def WARDEN_TEMP_CASE : Fld := ⟨R.WARDEN_TEMP, 48, 16⟩
def WARDEN_TEMP_DIE : Fld := ⟨R.WARDEN_TEMP, 32, 16⟩
def WARDEN_TEMP_HIGHEST : Fld := ⟨R.WARDEN_TEMP, 0, 16⟩
def WARDEN_BANK_ENERGY : Fld := ⟨R.WARDEN_BANK, 48, 16⟩
def WARDEN_BANK_ESR_HIGH : Fld := ⟨R.WARDEN_BANK, 3, 1⟩
def WARDEN_BANK_STATE : Fld := ⟨R.WARDEN_BANK, 0, 3⟩
def WARDEN_BANK_MEAS_C : Fld := ⟨R.WARDEN_BANK_MEAS, 48, 16⟩
def WARDEN_BANK_MEAS_ESR : Fld := ⟨R.WARDEN_BANK_MEAS, 32, 16⟩
def WARDEN_BANK_MEAS_VTARGET : Fld := ⟨R.WARDEN_BANK_MEAS, 16, 16⟩
def WARDEN_BANK_MEAS_V : Fld := ⟨R.WARDEN_BANK_MEAS, 0, 16⟩
def WARDEN_BANK_SEQ_ALL : Fld := ⟨R.WARDEN_BANK_SEQ, 0, 64⟩
def WARDEN_BANK_CFG_STATUS : Fld := ⟨R.WARDEN_BANK_CFG, 48, 16⟩
def WARDEN_BANK_CFG_ESR_MAX : Fld := ⟨R.WARDEN_BANK_CFG, 16, 16⟩
def WARDEN_BANK_CFG_MEAS_H : Fld := ⟨R.WARDEN_BANK_CFG, 0, 16⟩
def WARDEN_BANK_CTL_STATUS : Fld := ⟨R.WARDEN_BANK_CTL, 48, 16⟩
def WARDEN_BANK_CTL_RETRY_MS : Fld := ⟨R.WARDEN_BANK_CTL, 24, 24⟩
def WARDEN_BANK_CTL_BUSY : Fld := ⟨R.WARDEN_BANK_CTL, 1, 1⟩
def WARDEN_BANK_CTL_MEASURE : Fld := ⟨R.WARDEN_BANK_CTL, 0, 1⟩
def WARDEN_CLOCKS_LOCKED : Fld := ⟨R.WARDEN_CLOCKS, 8, 6⟩
def WARDEN_CLOCKS_RTCX : Fld := ⟨R.WARDEN_CLOCKS, 4, 1⟩
def WARDEN_CLOCKS_XTAL : Fld := ⟨R.WARDEN_CLOCKS, 3, 1⟩
def WARDEN_CLOCKS_REFCLK_C : Fld := ⟨R.WARDEN_CLOCKS, 0, 3⟩
def WARDEN_TEST_CFG_STATUS : Fld := ⟨R.WARDEN_TEST_CFG, 48, 16⟩
def WARDEN_TEST_CFG_HAND_H : Fld := ⟨R.WARDEN_TEST_CFG, 40, 8⟩
def WARDEN_TEST_CFG_COUNCIL_H : Fld := ⟨R.WARDEN_TEST_CFG, 32, 8⟩
def WARDEN_TEST_CFG_PRESS_MIN : Fld := ⟨R.WARDEN_TEST_CFG, 16, 16⟩
def WARDEN_TEST_CFG_SERDES_MIN : Fld := ⟨R.WARDEN_TEST_CFG, 0, 16⟩
def WARDEN_TEST_CTL_STATUS : Fld := ⟨R.WARDEN_TEST_CTL, 48, 16⟩
def WARDEN_TEST_CTL_RETRY_MS : Fld := ⟨R.WARDEN_TEST_CTL, 24, 24⟩
def WARDEN_TEST_CTL_BUSY : Fld := ⟨R.WARDEN_TEST_CTL, 18, 1⟩
def WARDEN_TEST_CTL_FORCE : Fld := ⟨R.WARDEN_TEST_CTL, 17, 1⟩
def WARDEN_TEST_CTL_GO : Fld := ⟨R.WARDEN_TEST_CTL, 16, 1⟩
def WARDEN_TEST_CTL_KIND : Fld := ⟨R.WARDEN_TEST_CTL, 8, 8⟩
def WARDEN_TEST_CTL_UNIT : Fld := ⟨R.WARDEN_TEST_CTL, 0, 8⟩
def WARDEN_TEST_STATE_QUEUED : Fld := ⟨R.WARDEN_TEST_STATE, 48, 16⟩
def WARDEN_TEST_STATE_DEFERRED : Fld := ⟨R.WARDEN_TEST_STATE, 32, 16⟩
def WARDEN_TEST_STATE_KIND : Fld := ⟨R.WARDEN_TEST_STATE, 8, 8⟩
def WARDEN_TEST_STATE_UNIT : Fld := ⟨R.WARDEN_TEST_STATE, 0, 8⟩
def WARDEN_LAST_EVENT_STATUS : Fld := ⟨R.WARDEN_LAST_EVENT, 48, 16⟩
def WARDEN_LAST_EVENT_KIND : Fld := ⟨R.WARDEN_LAST_EVENT, 8, 8⟩
def WARDEN_LAST_EVENT_UNIT : Fld := ⟨R.WARDEN_LAST_EVENT, 0, 8⟩
def WARDEN_LAST_EVENT_SEQ_ALL : Fld := ⟨R.WARDEN_LAST_EVENT_SEQ, 0, 64⟩
def WARDEN_SPARE_SEL_VAL : Fld := ⟨R.WARDEN_SPARE_SEL, 0, 4⟩
def WARDEN_SPARE_FORMED : Fld := ⟨R.WARDEN_SPARE, 32, 32⟩
def WARDEN_SPARE_USED : Fld := ⟨R.WARDEN_SPARE, 16, 16⟩
def WARDEN_SPARE_CALLS : Fld := ⟨R.WARDEN_SPARE, 0, 16⟩
def WARDEN_SERDES_SEL_VAL : Fld := ⟨R.WARDEN_SERDES_SEL, 0, 4⟩
def WARDEN_SERDES_RECALS : Fld := ⟨R.WARDEN_SERDES, 32, 32⟩
def WARDEN_SERDES_LANE : Fld := ⟨R.WARDEN_SERDES, 8, 8⟩
def WARDEN_SERDES_SPARE_FREE : Fld := ⟨R.WARDEN_SERDES, 0, 1⟩
end F

/-- Reset values other than zero: (first address, how many, stride, value). "From NVM" registers take
the factory values of their field tables; the others the value assumption log 9 names. -/
def resetRows : List (Nat × Nat × Nat × Nat) :=
  [
    (0x100, 1, 0x8, 0x7FF0000007F) /- IDENT_FEAT_SUPP0 -/,
    (0x108, 1, 0x8, 0x3F0000007F) /- IDENT_FEAT_SUPP1 -/,
    (0x110, 1, 0x8, 0xFF) /- IDENT_FEAT_SUPP2 -/,
    (0x140, 1, 0x8, 0x7FF0000007F) /- IDENT_FEAT_MGMT0 -/,
    (0x148, 1, 0x8, 0x3F0000007F) /- IDENT_FEAT_MGMT1 -/,
    (0x150, 1, 0x8, 0xE9) /- IDENT_FEAT_MGMT2 -/,
    (0x160, 1, 0x8, 0x7FF0000007F) /- IDENT_FEAT_STAND0 -/,
    (0x168, 1, 0x8, 0x3F0000007F) /- IDENT_FEAT_STAND1 -/,
    (0x170, 1, 0x8, 0xE9) /- IDENT_FEAT_STAND2 -/,
    (0x0, 1, 0x8, 0xF1BE6480484D0100) /- IDENT_PART -/,
    (0x20, 1, 0x8, 0x1) /- IDENT_MODE -/,
    (0x50, 1, 0x8, 0x7800002710) /- IDENT_JOIN -/,
    (0x200000, 16, 0x10000, 0x4000000000) /- HANDS_STATE -/,
    (0x208000, 1, 0x8, 0xFFFF) /- HANDS_SUMMARY -/,
    (0x208010, 1, 0x8, 0x30D40) /- HANDS_WATCHDOG -/,
    (0x208018, 1, 0x8, 0xFF0000000000) /- HANDS_LOAD_CTL -/,
    (0x208048, 1, 0x8, 0xFF) /- HANDS_BIND -/,
    (0x208058, 1, 0x8, 0x1C0000001C000) /- HANDS_STORE -/,
    (0x100018, 1, 0x8, 0xA) /- DOCKET_LATE -/,
    (0x100020, 1, 0x8, 0x10000) /- DOCKET_ATOMIC -/,
    (0xA0050, 1, 0x8, 0x504B1402000A000A) /- TOLL_POLICY -/,
    (0xA0058, 1, 0x8, 0x138801F4) /- TOLL_HOLD -/,
    (0x300000, 1, 0x8, 0x780808) /- PRESS_STATE -/,
    (0x300008, 1, 0x8, 0x3E81000E100000F) /- PRESS_ADAPT -/,
    (0x300208, 1, 0x8, 0xF1F00000) /- PRESS_STREAM_CFG -/,
    (0x320000, 1, 0x8, 0x8080000000000000) /- MILL_STATE -/,
    (0x320048, 1, 0x8, 0xE10) /- MILL_KAT -/,
    (0x320050, 1, 0x8, 0x2710) /- MILL_LOCK_LIMIT -/,
    (0x340030, 1, 0x8, 0xE10) /- ASSAY_KAT -/,
    (0x380008, 1, 0x8, 0x800) /- SIEVE_CFG -/,
    (0x380108, 1, 0x8, 0x1) /- SIEVE_VOL_CFG -/,
    (0x380308, 1, 0x8, 0xFFFF000000000000) /- SIEVE_SNAP_INFO -/,
    (0x380408, 1, 0x8, 0x12C000000000004) /- SIEVE_REPL_CFG -/,
    (0x400038, 1, 0x8, 0x2BC002E581E) /- TILL_BUDGET_CFG -/,
    (0x500008, 1, 0x8, 0x10001E04000A) /- STEWARD_MAP_CFG -/,
    (0x501008, 1, 0x8, 0xA143E800258) /- STEWARD_MEDIA_CFG -/,
    (0x501010, 1, 0x8, 0x140FA032) /- STEWARD_GRANARY_CFG -/,
    (0x501018, 1, 0x8, 0x4B00A8) /- STEWARD_CAL_CFG -/,
    (0x580010, 1, 0x8, 0x7D0) /- SLED_TIMEOUT -/,
    (0x600008, 1, 0x8, 0x75301810500E) /- HOLD_CFG -/,
    (0x140008, 1, 0x8, 0x32320281095E) /- CARRIER_CFG -/,
    (0x1C0008, 1, 0x8, 0x140032) /- MAGPORT_TIMERS -/,
    (0x1C0190, 4, 0x100, 0xFFFFFFFFFFFFFFFF) /- MAGPORT_P_INGEST_REPORT -/,
    (0x80000, 1, 0x8, 0x7) /- COUNCIL_STATE -/,
    (0x80008, 1, 0x8, 0x3203000000) /- COUNCIL_CFG -/,
    (0x80200, 1, 0x8, 0x2D0000A0001) /- COUNCIL_DRILL_CFG -/,
    (0x480008, 1, 0x8, 0xACE10001) /- LARDER_CTL -/,
    (0x480060, 1, 0x8, 0x10) /- LARDER_WAYS -/,
    (0x480108, 1, 0x8, 0x101000000000) /- LARDER_BANK -/,
    (0x4C0028, 1, 0x8, 0x18) /- HBM_REMAP_CFG -/,
    (0x4C0108, 1, 0x8, 0x40) /- HBM_CH -/,
    (0x60000, 1, 0x8, 0x2) /- STRONG_STATE -/,
    (0x60050, 1, 0x8, 0x4) /- STRONG_FW_BANKA -/,
    (0x60068, 1, 0x8, 0x1) /- STRONG_FW_CFG -/,
    (0x30000, 1, 0x8, 0x100000000) /- PARISH_STATE -/,
    (0x40008, 1, 0x8, 0x3E80FA00100) /- CRIER_CFG -/,
    (0x10038, 1, 0x8, 0x1900018) /- WARDEN_BANK_CFG -/,
    (0x10050, 1, 0x8, 0x18A8003C000A) /- WARDEN_TEST_CFG -/,
    (0x10208, 1, 0x8, 0xFF01) /- WARDEN_SERDES -/
  ]

/-- Spare units formed of each kind of R507 (assumption log 9). -/
def spareFormed (kind : Nat) : Nat :=
  match kind with
  | 2 => 1 | 3 => 1 | 4 => 3 | 5 => 32 | 6 => 11 | 7 => 2048 | 8 => 24 | 9 => 1 | _ => 0

/-- Look an address up in the reset rows. -/
def resetScan : List (Nat × Nat × Nat × Nat) → Nat → Nat
  | [], _ => 0
  | (lo, n, st, v) :: r, a =>
    if lo ≤ a ∧ a < lo + n * st ∧ (a - lo) % st = 0 then v else resetScan r a

/-- The reset value of the register kept at a key (R11). -/
def resetOf (key : Nat) : Word :=
  if key % 4294967296 = R.WARDEN_SPARE then BitVec.ofNat 64 (spareFormed (key / 4294967296) * 4294967296)
  else if key % 4294967296 = R.PRESS_LANE ∧ key / 4294967296 < 36 then BitVec.ofNat 64 (if (key / 4294967296) % 9 = 8 then 1 else 0)
  else if key = R.MILL_CORE + 16 * 4294967296 then 1
  else BitVec.ofNat 64 (resetScan resetRows (key % 4294967296))

/-- Registers whose contents a start keeps: those the secure NVM, the module or the pool holds, and the Warden's readings
(first address, how many, stride; assumption log 36). -/
def nvmRows : List (Nat × Nat × Nat) :=
  [(0x8, 1, 0x8) /- IDENT_SERIAL -/,
   (0x50, 1, 0x8) /- IDENT_JOIN -/,
   (0x160, 4, 0x8) /- IDENT_FEAT_STAND -/,
   (0x200000, 16, 0x10000) /- HANDS_STATE -/,
   (0x200018, 16, 0x10000) /- HANDS_ERRORS -/,
   (0x208000, 1, 0x8) /- HANDS_SUMMARY -/,
   (0x208038, 1, 0x8) /- HANDS_PROGKEY -/,
   (0xA0050, 1, 0x8) /- TOLL_POLICY -/,
   (0xA0058, 1, 0x8) /- TOLL_HOLD -/,
   (0x300000, 1, 0x8) /- PRESS_STATE -/,
   (0x300008, 1, 0x8) /- PRESS_ADAPT -/,
   (0x300108, 1, 0x8) /- PRESS_LANE -/,
   (0x300208, 1, 0x8) /- PRESS_STREAM_CFG -/,
   (0x320000, 1, 0x8) /- MILL_STATE -/,
   (0x320048, 1, 0x8) /- MILL_KAT -/,
   (0x320108, 1, 0x8) /- MILL_CORE -/,
   (0x340000, 1, 0x8) /- ASSAY_STATE -/,
   (0x340030, 1, 0x8) /- ASSAY_KAT -/,
   (0x340040, 1, 0x8) /- ASSAY_LANE -/,
   (0x380008, 1, 0x8) /- SIEVE_CFG -/,
   (0x380040, 1, 0x8) /- SIEVE_EPOCH -/,
   (0x380108, 1, 0x8) /- SIEVE_VOL_CFG -/,
   (0x380408, 1, 0x8) /- SIEVE_REPL_CFG -/,
   (0x380410, 1, 0x8) /- SIEVE_REPL_PEER -/,
   (0x400038, 1, 0x8) /- TILL_BUDGET_CFG -/,
   (0x400058, 1, 0x8) /- TILL_LAST_HOLDUP -/,
   (0x400060, 1, 0x8) /- TILL_LAST_HOLDUP_SEQ -/,
   (0x500008, 1, 0x8) /- STEWARD_MAP_CFG -/,
   (0x500200, 1, 0x8) /- STEWARD_RECOVERY -/,
   (0x500208, 1, 0x8) /- STEWARD_RECOVERY_GROUPS -/,
   (0x500210, 1, 0x8) /- STEWARD_RECOVERY_SCAN -/,
   (0x500218, 1, 0x8) /- STEWARD_RECOVERY_SEQ -/,
   (0x501000, 1, 0x8) /- STEWARD_MEDIA_STATE -/,
   (0x501008, 1, 0x8) /- STEWARD_MEDIA_CFG -/,
   (0x501010, 1, 0x8) /- STEWARD_GRANARY_CFG -/,
   (0x501018, 1, 0x8) /- STEWARD_CAL_CFG -/,
   (0x501108, 1, 0x8) /- STEWARD_CMN_GRANARY -/,
   (0x501110, 1, 0x8) /- STEWARD_CMN_GROWN_BAD -/,
   (0x501208, 1, 0x8) /- STEWARD_VOL_MEDIA -/,
   (0x501220, 1, 0x8) /- STEWARD_SECURE_UNERASED -/,
   (0x580138, 1, 0x8) /- SLED_ERRORS -/,
   (0x600008, 1, 0x8) /- HOLD_CFG -/,
   (0x600038, 1, 0x8) /- HOLD_SCAR_COUNT -/,
   (0x600108, 1, 0x8) /- HOLD_CMN -/,
   (0x600110, 1, 0x8) /- HOLD_CMN_RECORD -/,
   (0x600118, 1, 0x8) /- HOLD_CMN_SPARE -/,
   (0x140008, 1, 0x8) /- CARRIER_CFG -/,
   (0x180000, 1, 0x8) /- FABRIC_CFG -/,
   (0x180100, 4, 0x40) /- FABRIC_P_MAC -/,
   (0x180408, 1, 0x8) /- FABRIC_SADDR_CFG -/,
   (0x180410, 1, 0x8) /- FABRIC_SADDR_V6_HI -/,
   (0x180418, 1, 0x8) /- FABRIC_SADDR_V6_LO -/,
   (0x1C0008, 1, 0x8) /- MAGPORT_TIMERS -/,
   (0x1C0100, 4, 0x100) /- MAGPORT_P_CFG -/,
   (0x80008, 1, 0x8) /- COUNCIL_CFG -/,
   (0x80038, 1, 0x8) /- COUNCIL_CORE -/,
   (0x80108, 1, 0x8) /- COUNCIL_SWITCH -/,
   (0x80110, 1, 0x8) /- COUNCIL_SWITCH_SEQ -/,
   (0x80200, 1, 0x8) /- COUNCIL_DRILL_CFG -/,
   (0x80210, 1, 0x8) /- COUNCIL_DRILL_RESULT -/,
   (0x80218, 1, 0x8) /- COUNCIL_DRILL_SEQ -/,
   (0x480108, 1, 0x8) /- LARDER_BANK -/,
   (0x4C0028, 1, 0x8) /- HBM_REMAP_CFG -/,
   (0x4C0108, 1, 0x8) /- HBM_CH -/,
   (0x60000, 1, 0x8) /- STRONG_STATE -/,
   (0x60020, 1, 0x8) /- STRONG_BOOT_ALT -/,
   (0x60028, 1, 0x8) /- STRONG_BOOT_SKIP -/,
   (0x60050, 1, 0x8) /- STRONG_FW_BANKA -/,
   (0x60058, 1, 0x8) /- STRONG_FW_BANKB -/,
   (0x60060, 1, 0x8) /- STRONG_FW_SECV -/,
   (0x60068, 1, 0x8) /- STRONG_FW_CFG -/,
   (0x60100, 1, 0x8) /- STRONG_CERT_LEN -/,
   (0x60110, 1, 0x8) /- STRONG_CERT_DATA -/,
   (0x60118, 1, 0x8) /- STRONG_ID_KEYID -/,
   (0x60238, 1, 0x8) /- STRONG_OMK_ID -/,
   (0x20018, 1, 0x8) /- REEVE_TIME -/,
   (0x30000, 1, 0x8) /- PARISH_STATE -/,
   (0x30008, 1, 0x8) /- PARISH_OLDEST -/,
   (0x30020, 1, 0x8) /- PARISH_CLEARED_SEQ -/,
   (0x40008, 1, 0x8) /- CRIER_CFG -/,
   (0x10000, 1, 0x8) /- WARDEN_GRADE -/,
   (0x10008, 1, 0x8) /- WARDEN_VIN -/,
   (0x10010, 1, 0x8) /- WARDEN_POWER -/,
   (0x10018, 1, 0x8) /- WARDEN_TEMP -/,
   (0x10038, 1, 0x8) /- WARDEN_BANK_CFG -/,
   (0x10050, 1, 0x8) /- WARDEN_TEST_CFG -/,
   (0x10108, 1, 0x8) /- WARDEN_SPARE -/,
   (0x10208, 1, 0x8) /- WARDEN_SERDES -/]

/-- Whether a start keeps the word at a key. -/
def nvmKept (key : Nat) : Bool :=
  nvmRows.any (fun r => decide (r.1 ≤ key % 4294967296) && decide (key % 4294967296 < r.1 + r.2.1 * r.2.2) && (key % 4294967296 - r.1) % r.2.2 = 0)

end Sys2Proof.Machine
end

