-- ==== Sys2Proof/Machine/Types.lean ====
section
/-! DEFINITION. The parts of the state, block by block: everything the spec gives the head that no
management register holds (registers stand in State.regs). Each structure's docstring names its rules. -/
namespace Sys2Proof.Machine

/-- Places in HBM fixed at start-up, which the spec does not give (assumption log 5): the Till area, the
scratch areas, the Strongroom's regions, the Docket records, the reel, the sample ring. -/
structure Plan where
  tillBase : Nat
  tillLen : Nat
  scratchBase : Nat
  strong : List (Nat × Nat)
  recordBase : Nat
  reelBase : Nat
  sampleBase : Nat
  cacheGib : Nat        -- the map cache of this start (R277, R292)
  spillBase : Nat       -- the Mill's 16 MiB for spilled state records (R204)
  deriving DecidableEq, Repr, Inhabited

/-- The modes of R31. -/
inductive Mode where
  | bootstrap | joining | paired | solo | holdup | sealedMode | service | replay
  deriving DecidableEq, Repr, Inhabited

/-- The mode codes of R31. -/
def Mode.code : Mode → Nat
  | .bootstrap => 1 | .joining => 2 | .paired => 3 | .solo => 4
  | .holdup => 5 | .sealedMode => 6 | .service => 7 | .replay => 8

/-- The power phase of R498, R499: without supply; coming up, before t0; running; POWER_DOWN written;
converter stopped. -/
inductive Power where
  | off | rising | on | down
  deriving DecidableEq, Repr, Inhabited

/-- What the head has sent on its wires, oldest first (assumption log 1). -/
inductive Out where
  /-- bytes driven on SPI_MISO (R40) -/
  | miso (bytes : List Byte)
  /-- a Carrier message: peer entry, TYPE, FLAGS + 256 · KEY, EPOCH, SEQ, IV_CTR, body (R355, R358) -/
  | carrier (peer type flags epoch seq iv : Nat) (body : List Byte)
  /-- a doorbell refused: context and status (R102) -/
  | bell (ctx : Nat) (status : Status)
  /-- a RoCEv2 CNP or a go-back-N retransmission on the queue pair of a queue (R374) -/
  | roce (queue kind : Nat)
  /-- a Counterfoil stub: TYPE, fields, payload (R257) -/
  | stub (type : Nat) (args : List Nat) (data : List Byte)
  /-- a folio on a magazine port: port, and its bytes from the sync mark on (R381) -/
  | folio (port : Nat) (bytes : List Byte)
  /-- an NVMe completion: queue, command identifier, status, NVMe status field, Dword 0 (R140) -/
  | nvme (queue cid : Nat) (status : Status) (field dword0 : Nat)
  /-- data transferred to a host or peer for a command of a queue -/
  | hostData (queue cid : Nat) (data : List Byte)
  /-- an NVMe asynchronous event of a controller: type, information, log page (R142) -/
  | asyncEvent (ctrl type info page : Nat)
  /-- a raw command to a sled bridge: port, opcode, fields (R299) -/
  | sled (port op : Nat) (args : List Nat)
  /-- pages of the Steward's to program: the location of the first, how many, their tags (R288), and the bytes of records among
  them (R281, R286, R340) -/
  | prog (loc pages : Nat) (tags data : List Byte)
  /-- a neighbour advertisement or gratuitous ARP for a service address (R409) -/
  | announce (addr : Nat)
  /-- a record pushed on Carrier-M (R473): code, DETAIL, Crier sequence -/
  | push (code detail seq : Nat)
  deriving DecidableEq, Repr

/-- One record of R466: everything but its sequence is fixed when it is made. -/
structure Rec where
  seq : Nat
  code : Nat
  source : Nat
  chan : Nat
  founding : Bool
  isCount : Bool
  reeve : Nat
  time : Nat
  wall : Nat             -- wall seconds plus one; 0 while invalid
  wallEpoch : Nat
  detail : Nat
  body : List Byte
  deriving DecidableEq, Repr, Inhabited

/-- The Crier's LOG bucket and suppression of one source (R475). -/
structure LogSrc where
  used : Nat
  suppressing : Bool
  suppressed : Nat
  first : Nat
  last : Nat
  deriving DecidableEq, Repr, Inhabited

/-- One path of the Crier (R473): what waits, and the windows a large record still takes. -/
structure CPath where
  alarms : List Rec
  logs : List Rec
  traces : List Rec
  busy : Nat
  gapCount : Nat
  gapFirst : Nat
  gapLast : Nat
  deriving DecidableEq, Repr, Inhabited

/-- One record of the Replay reel (R482): KIND, RSEQ, REEVE, and where in the reel its bytes stand. -/
structure ReelRec where
  kind : Nat
  rseq : Nat
  reeve : Nat
  off : Nat
  len : Nat
  deriving DecidableEq, Repr, Inhabited

/-- Reeve, Parish, Crier and counters (R461 to R489). -/
structure Obs where
  reserved : Nat        -- first number above the last block reserved in the NVM (R461)
  rateMark : Nat        -- REEVE_NOW at the last operating second (R486)
  opsecBase : Nat       -- operating seconds at t0 (R464)
  opsecSaved : Nat      -- count last saved in the NVM (R464)
  founding : List Rec   -- founding area, oldest first (R469)
  circ : List Rec       -- circulating area, oldest first (R469)
  regQ : List Rec       -- register events waiting for the Register (R470)
  parish : CPath
  push : CPath
  ringP : CPath
  ring : List Rec       -- HBM ring, oldest first (R473)
  srcs : AMap LogSrc
  snaps : AMap (List (List Byte))   -- snapshot per path, record by record (R471)
  foundingFullAlarm : Bool
  counts : AMap Nat     -- occurrences seen by counter n toward its next sample (R481)
  samples : List (List Byte)
  reel : List ReelRec   -- oldest first (R482)
  reelLostAtFreeze : Nat
  cycleShadow : List Nat   -- the cycle counts at the last latch (R480)
  grant : List Byte     -- bytes written to STRONG_AUTH_DATA (R451, R472)
  replayFirst : Nat
  replayLast : Nat
  deriving DecidableEq, Repr, Inhabited

/-- The states of a context (R56). -/
inductive CtxState where
  | free | ready | waiting | trapping | halted
  deriving DecidableEq, Repr, Inhabited

def CtxState.code : CtxState → Nat
  | .free => 0 | .ready => 1 | .waiting => 2 | .trapping => 3 | .halted => 4

/-- What a WAITING context waits for (R56, R60, R102). -/
inductive WaitOn where
  | nothing
  /-- a pending register that an instruction read (R58) -/
  | reg (r : Nat)
  /-- a place for a ninth accelerator operation (R59) -/
  | slot
  /-- a line fill for a global load or an atomic operation (R56, R425): the line, kind (0 load, 1 SWAP,
  2 ADD, 3 CAS), destination register, address, size, sign extension, operand rb -/
  | fill (line kind rt addr size : Nat) (sx : Bool) (v : Word)
  /-- WAIT ALL or ANY on a register mask, writing predicate pd (R102) -/
  | mask (all : Bool) (mask pd : Nat)
  /-- WAIT DOORBELL into ra, writing pd (R102) -/
  | bell (ra pd : Nat)
  | sleep
  /-- END waiting for outstanding operations (R103); the register END named -/
  | ending (ra : Nat)
  /-- END waiting for its group commit (R103, R280): status and detail word -/
  | commit (st det : Nat)
  /-- END waiting for the partner to acknowledge the commit's records (R280) -/
  | ack (seq st det : Nat)
  deriving DecidableEq, Repr, Inhabited

/-- The accelerator operations (R94). -/
inductive AccelKind where
  | pressC | pressD | seal | unseal | assay | tally | sieve | mapL | mapU | tillP | sledOp | carry
  | emit | reeveE | priv
  deriving DecidableEq, Repr, Inhabited

/-- An outstanding accelerator operation: its operands as they stood at issue (R58, R65). -/
structure AccelOp where
  op : AccelKind
  rd : Nat
  da : BitVec 128
  db : BitVec 128
  dc : BitVec 128       -- the chained descriptor db + 1 of PRESS.C (R180)
  ra : Word
  imm : Nat
  aborted : Bool
  admitted : Bool       -- TILL.P: the Till has admitted the placement (R263)
  n : Nat               -- PRESS.C: target at issue, 0 raw; SEAL, UNSEAL, KEY.ZERO: key slot; TILL.P: the
                        -- placement; MILL.LOCK: Reeve number of acceptance
  id : Nat              -- its number in the order of issue across the head (R169, R192)
  die : Nat := 0        -- SLED.OP: the die it names, plus one (R297)
  susp : Nat := 0       -- SLED.OP: times a READ has suspended it (R297)
  again : Bool := false -- READ_ENTRY: a page was uncorrectable and is read once more (R316)
  deriving DecidableEq, Repr, Inhabited

/-- One update of a map group (R114); refs counts the Sieve references taken for it. -/
structure MapUpd where
  leaf : Bool
  cond : Bool
  addr : Nat
  entry : BitVec 128
  expect : BitVec 128
  deriving DecidableEq, Repr, Inhabited

/-- A change of a Sieve record in a tag's group (R113, R234): OP 1 create, 2 add a reference, 3 drop one,
4 revive. -/
structure SieveOp where
  op : Nat
  key : Nat
  vol : Nat
  entry : BitVec 128
  deriving DecidableEq, Repr, Inhabited

/-- A context (R53 to R61). General registers and descriptors hold zero where unlisted; g0 is never listed. -/
structure Ctx where
  state : CtxState
  g : AMap Word
  d : AMap (BitVec 128)
  p : Nat
  pc : Nat
  tag : Nat
  recipe : Nat
  entry : Nat
  vol : Nat
  codeLen : Nat
  pend : List Nat
  ops : List AccelOp
  bells : List Word
  wait : WaitOn
  inTrap : Bool
  cause : Nat
  imm : Nat
  issued : Bool
  serial : Nat
  group : List MapUpd
  refs : List SieveOp    -- changes of Sieve records under the tag (R113, R234)
  vault : Nat            -- vault of the command's volume, fixed at dispatch (R73)
  readEntry : List (BitVec 128 × List Byte)   -- db and entry of its READ_ENTRYs, the latest first (R184)
  scratch : AMap (Option Byte)   -- bytes of the scratch area written since dispatch (R96)
  deriving DecidableEq, Repr, Inhabited

/-- A resident recipe (R81 to R84). -/
structure Recipe where
  state : Nat            -- 0 EMPTY, 1 LOADING, 2 RESIDENT, 3 RETIRING
  ident : Nat
  version : Nat
  codeLen : Nat
  constLen : Nat
  frameNeed : Nat
  constOff : Nat         -- pocket offset of its constants (g5 of R76)
  entries : List Nat     -- the 16 words of the entry table
  digest : List Byte
  code : List Byte
  consts : List Byte
  pkg : List Byte        -- the package as loaded, which a joining head is sent (R80)
  deriving DecidableEq, Repr, Inhabited

/-- An act of the array (R79): kind, arguments, blob; live is false once this head has given it up. -/
structure Act where
  live : Bool
  kind : Nat
  a : Nat
  b : Nat
  c : Nat
  blob : List Byte
  deriving DecidableEq, Repr, Inhabited

/-- The Hands (R53 to R90). -/
structure Hands where
  ctxs : AMap Ctx
  recipes : AMap Recipe
  versions : AMap (Option Nat)   -- highest version committed per identifier, in the NVM (R84)
  loadOpen : Bool
  loadBuf : List Byte
  acts : List Act                -- acts asked of the partner and not answered, oldest first (R79)
  asked : List Act               -- acts of the partner this head has agreed to and not committed (R79)
  drain : Option (Nat × Nat)     -- the Hand that drains, and its cause; 0 for a withdrawal for self-test (R86)
  retireQ : List (Nat × Nat)     -- retirements queued behind a drain: Hand, cause (R89)
  uncorr : AMap (List Nat)       -- operating seconds of uncorrectable errors per Hand (R85)
  corr : AMap (List Nat)         -- operating seconds of corrected errors per Hand (R85)
  opSeq : Nat                    -- accelerator operations issued, which numbers them (R169)
  deriving DecidableEq, Repr, Inhabited

/-- The states of a tag (R125). -/
inductive TagState where
  | free | arriving | waiting | held | dispatched | completing
  deriving DecidableEq, Repr, Inhabited

def TagState.code : TagState → Nat
  | .free => 0 | .arriving => 1 | .waiting => 2 | .held => 3 | .dispatched => 4 | .completing => 5

/-- A command the Docket tracks (R125 to R138): its Docket record and its progress. -/
structure Tag where
  state : TagState
  queue : Nat
  entry : Nat            -- recipe entry of R74; 16 for a command without an entry
  op : Nat               -- NVMe opcode or task opcode
  reeve : Nat
  origin : Nat           -- the partner's number of an adopted command (R463)
  vol : Nat
  leaf : Nat
  leaves : Nat
  declared : Nat
  arrived : Nat
  ordered : Bool
  flags : Nat            -- FLAGS of R127 above ORDERED
  cid : Nat
  qid : Nat
  peer : Nat
  stream : Nat
  appTag : Nat
  appMask : Nat
  refTag : Nat
  tollPassed : Bool
  tollUs : Nat           -- delay held by the Toll (R138)
  tillUs : Nat           -- waits of TILL.P (R115)
  redisp : Bool          -- re-dispatched once (R87)
  aborted : Bool
  committing : Bool      -- its group commit has begun (R141)
  ended : Bool
  status : Status
  detail : Nat
  chain : Nat            -- grains of R135 already run
  take : Nat             -- FRAME_LANDED, or a landing command: take, frame, grain (R124)
  frame : Nat
  grain : Nat
  second : Bool          -- FRAME_LANDED: second dispatch of its grain (R143)
  ctx : Nat              -- context key while dispatched
  ranges : List (Nat × Nat)   -- Dataset Management ranges
  taskReg : Nat          -- magazine task register
  inbound : Bool         -- the sender's data arrive in STAGE (R125)
  tollFrom : Nat         -- time the Toll began to hold it, plus one (R138)
  late : List (List Nat) -- replies to LATE aborts that follow its completion (R141)
  guardBad : List Nat    -- leaves the inline checker failed on arrival (R221)
  silent : Bool          -- no TASK_STATUS is sent (R390)
  reg : Nat              -- the host's registration and offset of a Carrier command (R358)
  ofs : Nat
  killSeq : Nat          -- Reeve number of its kill record (R137)
  slot : Nat             -- recipe slot bound at its acceptance, plus one; 0 none (R78)
  deriving DecidableEq, Repr, Inhabited

/-- The error ring entry of R144. -/
structure ErrEnt where
  count : Nat
  reeve : Nat
  tag : Nat
  queue : Nat
  status : Status
  cid : Nat
  addr : Nat
  leaves : Nat
  detail : Nat
  declared : Nat
  arrived : Nat
  time : Nat
  read : Bool            -- whether the command was a read (R140)
  deriving DecidableEq, Repr, Inhabited

/-- A queue (R122, R142). Kind 0 is a queue not in use. -/
structure Queue where
  kind : Nat
  depth : Nat
  cls : Nat
  state : Nat            -- 0 ACTIVE, 1 FROZEN, 2 RESETTING, 3 DELETED
  source : Nat
  ctrl : Nat
  qid : Nat
  errors : Nat
  ring : List ErrEnt     -- newest first, at most 64
  byError : Bool         -- FROZEN by an error completion, not by DOCKET_QCTL (R137, R142)
  deriving DecidableEq, Repr, Inhabited

/-- An NVMe controller (R128). -/
structure Ctrl where
  live : Bool
  cc : Nat
  aers : List Nat        -- tags of outstanding Asynchronous Event Requests
  aerCfg : Nat
  kato : Nat
  nqueues : Nat
  errs : List ErrEnt     -- last 64 errors of the controller (R129)
  events : List Nat      -- asynchronous events waiting for a request, as completion Dword 0
  deriving DecidableEq, Repr, Inhabited

/-- A volume as its pool defines it (R130). -/
structure Vol where
  size : Nat             -- leaves; 0 means no such volume
  format : Nat
  piType : Nat
  commons : Nat
  slot : Nat             -- recipe slot bound, plus one; 0 unbound (R78)
  readOnly : Bool
  presented : Nat        -- 0, or snapshot epoch presented plus one (R240)
  presVol : Nat          -- the volume a presented snapshot came from
  deriving DecidableEq, Repr, Inhabited

/-- A grain of a landing region kept as a region image (R143, R266): its take's number and record, its frame, the first leaf,
and the bytes; due is true while it waits to be dispatched. -/
structure RegionImage where
  due : Bool
  take : Nat
  record : List Byte
  frame : Nat
  grain : Nat
  vol : Nat
  leaf : Nat
  data : List Byte
  deriving DecidableEq, Repr, Inhabited

/-- The Docket. -/
structure Docket where
  tags : AMap Tag
  queues : AMap Queue
  ctrls : AMap Ctrl
  vols : AMap Vol
  errCount : Nat
  images : List RegionImage
  deriving DecidableEq, Repr, Inhabited

/-- A take (R147 to R166). -/
structure Take where
  state : Nat            -- codes of R156
  rate : Nat
  frameBytes : Nat
  frameRate : Nat
  firstLeaf : Nat
  vol : Nat
  priority : Nat
  port : Nat
  soloSafe : Bool
  direct : Bool
  adopted : Bool
  kept : Nat             -- operating second of KEPT_UNTIL
  admitted : Nat         -- Reeve number of the decision
  origin : Nat
  queue : Nat
  client : Nat
  landed : Nat           -- frames landed
  late : Nat             -- frames served late (R167)
  lateFrames : List Nat  -- those of them with a grain still to release
  largest : Nat
  tokens : Int           -- balance of the gate in bytes (R156)
  regBase : Nat          -- first byte of the landing region in the TILL space
  regFrames : Nat
  regIdx : Nat           -- registration index, plus one
  slots : AMap (Option Nat)   -- region slot → frame k: FILLING or LANDED in covered below
  slotLanded : AMap Bool
  covered : AMap (List (Nat × Nat))   -- leaf ranges written per frame (R370)
  grains : List (Nat × Nat)   -- landed grains not yet released: frame, grain
  toGen : List (Nat × Nat × Bool)    -- landed grains whose command is not yet generated: frame, grain, second (R124, R143)
  route : Nat            -- 0 management, 1 Carrier peer, 2 magazine port
  peer : Nat
  ref : Nat              -- message or task the grant answers
  backlog : Nat          -- frames below it were held while the TAKE queue was FROZEN, and pass without the take's gate (R157)
  req : List Byte        -- request block
  grant : List Byte      -- grant record
  deriving DecidableEq, Repr, Inhabited

/-- A capacity block (R150). -/
structure Cap where
  ingest : Nat
  read : Nat
  fold : Nat
  slcFree : Nat
  spaceFree : Nat
  budget : Nat
  granaryS : Nat
  residence : Nat
  rebuildFloor : Nat
  gleanFloor : Nat
  slcSize : Nat
  deriving DecidableEq, Repr, Inhabited

/-- A take request waiting for the partner's SOLO test (R162): the block and its route. -/
structure TakeReq where
  block : List Byte
  route : Nat            -- 0 management, 1 Carrier peer, 2 magazine port
  peer : Nat
  ref : Nat
  deriving DecidableEq, Repr, Inhabited

/-- The Toll. -/
structure Toll where
  inTok : Int            -- INGEST bytes left in this window, a debt where negative (R159)
  rdTok : Int            -- READ bytes left in this window
  rebTok : Int           -- bytes of the rebuild floor left in this window (R160)
  gleanTok : Int         -- bytes of the gleaning floor left in this window
  takes : AMap Take
  cap : Cap
  solo : Option TakeReq
  powerPct : Nat         -- percent of the grade's INGEST and READ after the steps of R492
  partnerSlcFree : Nat   -- figures the partner reports for the SOLO test (R162)
  partnerSpaceFree : Nat
  due : Bool             -- a trigger of R163 stands: a capacity block follows
  waiting : List TakeReq -- requests behind the one whose SOLO test is under way (R152)
  deriving DecidableEq, Repr, Inhabited

/-- An operation at the Press (R169): the context and the number of issue it stands for; the kind of lane it needs (0 coder,
1 checker, 2 reader; 3 failed twice); the lane it holds, plus one, 0 while it waits; the coder lane that coded it; how often a
lane of this kind has failed under it; the copy of its grain (R179). -/
structure PressJob where
  key : Nat
  id : Nat
  kind : Nat
  lane : Nat
  coder : Nat
  tries : Nat
  copy : List Byte
  deriving DecidableEq, Repr, Inhabited

/-- The Press (R168 to R190). Lane states, counts and stream settings are registers. -/
structure Press where
  everSet : AMap Bool        -- volume streams opened or written before (R173)
  closing : List Nat         -- streams closed once their last operation ends (R189)
  transient : AMap (List Nat)   -- operating seconds of transient mismatches per coder lane (R188)
  histMark : AMap Nat        -- histogram counts at the last window: stream * 16 + k (R185)
  jobs : List PressJob       -- operations at the lanes and in their queues, in the order of issue (R169)
  drain : AMap Nat           -- what a DRAINING lane enters: 1 TESTING, 2 + cause RETIRED, 0 none (R187)
  deriving DecidableEq, Repr, Inhabited

/-- A key slot (R196 to R198): STATE 0 EMPTY, 1 LOADED, 2 ZEROING. Its material is held as two masked shares, whose exclusive
or it is. -/
structure KeySlot where
  state : Nat
  kind : Nat
  ident : Nat
  seq : Nat
  share : List Byte
  mask : List Byte
  deriving DecidableEq, Repr, Inhabited

/-- A message at the Mill's scheduler (R192, R203, R204). -/
structure MillMsg where
  id : Nat                   -- the number of issue of its operation
  key : Nat                  -- the context of its operation; 4,096 for the Carrier's
  mode : Nat                 -- 0 XTS, 1 GCM, 2 key wrap
  dec : Bool
  slot : Nat                 -- the key slot named
  core : Nat                 -- the locked core that serves it whole, plus one; 0 data service
  whole : Bool               -- served whole, in one go
  units : Nat
  next : Nat                 -- units dealt for the first time
  done : Nat                 -- units finished
  redo : List Nat            -- units to run again, their core having failed
  acc : Nat                  -- GHASH accumulator, its first bit the highest
  block : List Byte          -- the GCM block at issue (R110)
  text : List Byte           -- the Carrier's text
  record : Nat               -- where a suspended state stands: 0 none, 1 to 4 in the save area, 5 on in HBM
  tries : Nat                -- failures of the unit under way
  failed : Bool              -- it ends with 0xF050
  bad : Bool                 -- a key unwrap found the integrity check failing
  last : Nat                 -- the core that served it last
  deriving DecidableEq, Repr, Inhabited

/-- The Mill (R191 to R208). Core states are registers; slot 63 is private to each core. -/
structure Mill where
  slots : AMap KeySlot
  clear : AMap KeySlot       -- slot 63 of each core
  msgs : List MillMsg        -- messages, the one to be served next first (R192)
  busy : List (Nat × Nat × Nat)   -- the unit each core works on: core, message, unit (R203)
  drain : AMap Nat           -- what a DRAINING core enters: 1 TESTING, 2 + cause RETIRED, 0 none (R207)
  seeds : AMap (List Byte)   -- the seed of each core's mask generator (R200)
  since : AMap Nat           -- bytes a core has processed since its generator was reseeded (R200)
  gens : Nat                 -- generate requests to the DRBG since its last reseed (R201)
  ctxKey : List Byte         -- the per-boot context key (R204)
  deriving DecidableEq, Repr, Inhabited

/-- A held context of the Assay (R210), kept under its handle's lane * 64 + context; lane is where its
message stands now (R212). -/
structure Held where
  used : Bool
  gen : Nat
  lane : Nat
  owner : Nat
  alg : Nat
  data : List Byte
  invalid : Bool
  deriving DecidableEq, Repr, Inhabited

/-- The Assay's DMA job (R213) and hallmark latches (R215). -/
structure Assay where
  held : AMap Held
  busy : Bool
  alg : Nat                  -- of the running or last job
  feed : Bool                -- SOURCE of the running job
  len : Nat                  -- length declared at GO (R211)
  addr : Nat                 -- address at GO
  data : List Byte
  latch : AMap (List Word)   -- path * 8 + hallmark: eight words, count, Reeve number
  deriving DecidableEq, Repr, Inhabited

/-- A Sieve record (R229); it stands under commons · 2^264 + vault · 2^256 + fingerprint. -/
structure SieveRec where
  valid : Bool
  entry : BitVec 128
  refs : Nat
  defunct : Bool
  saturated : Bool
  multi : Bool
  death : Nat
  firstVol : Nat
  deriving DecidableEq, Repr, Inhabited

/-- A retained snapshot (R237 to R241), under volume · 2^32 + epoch: STATE 1 RETAINED, 2 DELETING; the volume
number it is presented as, plus one; the map as it stood. -/
structure Snap where
  state : Nat
  presented : Nat
  reeve : Nat
  map : AMap (List (BitVec 128))
  rooted : Bool := false      -- its root pages are written (R278)
  deriving DecidableEq, Repr, Inhabited

/-- A write a synchronous link has sent and awaits (R247): SEQ, tag, the status its completion carries, time. -/
structure SyncWait where
  seq : Nat
  tag : Nat
  status : Status
  detail : Nat
  at_ : Nat
  deriving DecidableEq, Repr, Inhabited

/-- A replication link (R242 to R249), besides its registers: the base and the sending snapshot (epochs plus
one), the batch under way, and, where this head is the target, the staging epoch. -/
structure Link where
  base : Nat
  sending : Nat
  batch : List Nat           -- grains of the batch, kept until it commits
  todo : List Nat            -- grains of the batch still to send
  toOffer : List Nat         -- whole indexed grains of the batch still to offer
  offered : List Nat         -- grains of the OFFER awaiting its HAVE
  records : Nat
  bytes : Nat
  held : Nat                 -- offers the remote holds in this batch
  copying : Nat              -- grains, from the front of todo, that the COPY command under way covers
  waits : List SyncWait
  catchUp : List Nat         -- grains marked while the mirror is not in step (R248)
  lastCommit : Nat           -- operating second of the last commit
  target : Bool              -- this head is the target of the link
  tgtVol : Nat
  staging : List MapUpd      -- the delta of the staging epoch, in order of arrival
  stageRecs : Nat
  stageBytes : Nat
  stageRefs : List SieveOp
  heldEpoch : Nat
  arrayNo : Nat              -- ARRAY_NO and HEAD_SLOT of the sending head (R243)
  parts : List (Nat × List Byte)   -- SYNC_WRITE parts of the SEQ being gathered
  last : Status              -- last status of a receiving link
  deriving DecidableEq, Repr, Inhabited

/-- Sieve, snapshots and replication. -/
structure Sieve where
  recs : AMap SieveRec
  buckets : AMap Nat              -- B of each commons, fixed when it is made (R230)
  filters : AMap (List Nat)       -- the bits set in each commons's presence filter, rising (R231)
  hot : List Nat                  -- keys of the hot records in HBM, the last used first (R231)
  hotMax : Nat                    -- how many of them HOT_MIB of the last start holds
  dirtyIdx : List Nat             -- buckets whose index pages on the members are behind: commons · 2^64 + bucket
  idxAt : AMap Nat                -- where an index page stands: (commons · 2^64 + bucket) · 2^24 + page, slot address plus one
  pendingFp : List (Nat × Nat)    -- fingerprint key, context whose tag holds it PENDING (R113)
  building : List Nat             -- commons whose filter is being rebuilt (R235)
  snaps : AMap Snap
  links : AMap Link               -- 0 to 15 sending; 16 + k receiving from a remote's link k
  counters : AMap Nat             -- replication COUNTER of each vault (R244)
  countersTop : AMap Nat          -- first value above the block reserved in the NVM (R244)
  barrier : List Nat              -- volumes of a set whose partner has not answered yet (R239)
  barrierEpoch : Nat
  skipLog : Nat                   -- operating minute of the last capacity LOG, plus one (R236)
  deriving DecidableEq, Repr, Inhabited

/-- A placement of TILL.P (R115, R263, R273). Phase 1 waits for admission, 2 stands in the Till and waits
for the partner, 3 is complete and dirty. -/
structure Place where
  phase : Nat
  addr : Nat
  slots : Nat
  leaf : Bool
  commons : Nat
  slot : Nat
  data : List Byte
  issue : Nat
  waitFrom : Nat             -- time at which it began to wait, plus one
  waited : Nat               -- µs
  take : Bool
  cls : Nat
  key : Nat                  -- context that issued it
  stub : Nat                 -- SEQ of the stub that carries it
  lsn : Nat                  -- LSN of the record that names its slots, 0 before the commit
  off : Nat                  -- MIRROR_OFF at the partner
  deriving DecidableEq, Repr, Inhabited

/-- A range the partner has mirrored here (R257, R259). -/
structure MirrorItem where
  off : Nat
  addr : Nat
  tag : Nat
  kind : Nat
  reeve : Nat
  data : List Byte
  deriving DecidableEq, Repr, Inhabited

/-- A Daybook record (R282). -/
structure DbRec where
  typ : Nat
  lsn : Nat
  body : List Byte
  deriving DecidableEq, Repr, Inhabited

/-- A stub in the resend store (R258). -/
structure Stub where
  seq : Nat
  bytes : List Byte
  deriving DecidableEq, Repr, Inhabited

/-- The Counterfoil link and what the partner has mirrored here (R255 to R260, R287). -/
structure Cf where
  txSeq : Nat                 -- stubs sent, counted through every training
  txBase : Nat                -- how many of them came before SEQ 1 of this training
  rxSeq : Nat
  acked : Nat
  sent : Nat                  -- the last of them that has gone out in this training; the rest find no room in the resend store
  store : List Stub
  nakAt : Nat                 -- time of the last NAK, plus one
  standby : Bool              -- the partner stands as this head's standby (R260)
  lastBeat : Nat              -- time of the last HEARTBEAT
  partnerMode : Nat
  sealBy : Bool               -- the partner, not this head, found spares too low (R35, R322)
  partnerGrade : Nat
  partnerLimit : Nat
  partnerOpsec : Nat
  holdup : Bool               -- the partner has sent HOLDUP_NOTICE (R269)
  flushDone : Bool
  mirror : List MirrorItem
  overlay : AMap DbRec        -- commons · 2^80 + kind · 2^72 + name: the newest record of that name
  gathering : AMap (List DbRec)   -- records of a group whose GROUP_END has not come, by commons
  ledger : AMap (List Byte)   -- the partner's open-sheaf entries, by commons · 2^33 + sheaf
  takes : AMap (List Byte)    -- the partner's take records, by take number
  docket : AMap (List Byte)   -- the partner's in-flight table, by tag
  deriving DecidableEq, Repr, Inhabited

/-- The Till (R252 to R272). -/
structure Till where
  places : AMap Place
  nextPlace : Nat
  nextOff : Nat
  holdupFrom : Nat            -- time HOLDUP was entered, plus one
  holdupBytes : Nat           -- DIRTY at that moment
  deriving DecidableEq, Repr, Inhabited

/-- A Daybook page being programmed (R281). -/
structure DbPage where
  seq : Nat
  first : Nat
  last : Nat
  bytes : List Byte
  deriving DecidableEq, Repr, Inhabited

/-- The Daybook of a commons (R281 to R285). LSNs and sizes stand in the STEWARD registers. -/
structure Daybook where
  buf : List DbRec            -- records of the page being filled
  firstAt : Nat               -- time of its first record, plus one
  flying : List DbPage
  pageSeq : Nat
  ckptLast : Nat              -- LSN of the running checkpoint's last part; 0 none
  ckptReplay : Nat
  ckptPage : Nat              -- PAGE_SEQ of the page that holds part 0
  ckptAt : Nat                -- operating second of the last checkpoint
  ckptFirst : Nat             -- LSN of its part 0
  hist : List DbRec           -- records from REPLAY_LSN on, for the transfer to a standby (R51)
  deriving DecidableEq, Repr, Inhabited

/-- Slots placed together (R241, R273), under commons · 2^43 + slot address: how many, the volume, the epoch
of placement, the epoch of death plus one, the live map names, the Sieve record's key plus one. -/
structure Extent where
  n : Nat
  vol : Nat
  leaf : Nat                  -- first leaf it was placed for
  birth : Nat
  death : Nat
  names : Nat
  sieve : Nat
  page : Bool := false        -- a page of the map or of an index, not data
  deriving DecidableEq, Repr, Inhabited

/-- A committed group whose updates stand in the pending index (R280): its commons, the LSN of its first record, the stub that
mirrors it (0 none), the grains and the pages of its updates. -/
structure PendGroup where
  commons : Nat
  first : Nat
  stub : Nat
  grains : List Nat
  pages : List Nat
  deriving DecidableEq, Repr, Inhabited

/-- The Steward's map (R273 to R280). A grain stands under volume · 2^48 + grain number as [] (unmapped),
[entry], or the split entry and its sixteen leaf entries. -/
structure Stew where
  map : AMap (List (BitVec 128))
  nextBlock : AMap Nat        -- next leaf-block number of each commons
  extents : AMap Extent
  db : AMap Daybook
  cache : List Nat            -- pages held in HBM, most recently used first
  dirty : List Nat            -- dirty pages among them
  dir : AMap Nat              -- directory entries of pages with a copy on flash (R276)
  rootAt : AMap (List Nat)    -- where the root pages of a volume stand, as extents' keys
  pending : List PendGroup    -- the pending index, oldest first
  oldPages : List Nat         -- extents of pages written anew since the last checkpoint started
  oldCkpt : List Nat          -- those the running checkpoint leaves behind
  recAt : AMap Nat            -- commons whose recovery (or adoption, + 2^63) has not ended: time it began, plus one
  condemned : AMap (Nat × Nat)    -- SECURE: condemned slots of a sheaf and operating second of the first (R318)
  deriving DecidableEq, Repr, Inhabited

/-- A block of a die that is not erased: MODE 1 SLC, 2 QLC, 3 retired; pages programmed; chunks in it as
commons · 2^38 + sheaf · 32 + position. -/
structure Blk where
  mode : Nat
  pages : Nat
  chunks : List Nat
  suspect : Bool
  order : Nat                 -- order in which it filled, plus one
  deriving DecidableEq, Repr, Inhabited

/-- A flash die as its owner uses it (R305 to R321), under sled · 2048 + die. -/
structure Die where
  state : Nat                 -- 0 IN_SERVICE, 1 FAILED, 2 EMPTIED (R329)
  cause : Nat
  blocks : AMap Blk
  erases : AMap Nat
  retiredAt : List Nat        -- operating seconds of retirements (R320, R343)
  slcOpen : Nat               -- open SLC block, plus one
  granary : Nat               -- blocks of its Granary share still undrawn (R320)
  qlcOpen : Nat
  deriving DecidableEq, Repr, Inhabited

/-- A fold under way (R308): die, destination, sources. -/
structure Fold where
  die : Nat
  dest : Nat
  src : List Nat
  deriving DecidableEq, Repr, Inhabited

/-- A secure discard whose blocks are being erased (R318): sheaf key, volumes, blocks left as (die, block). -/
structure SecureWork where
  sheaf : Nat
  vols : List Nat
  blocks : List (Nat × Nat)
  deriving DecidableEq, Repr, Inhabited

/-- The Steward's media half and the sled ports (R293 to R326). -/
structure Media where
  dies : AMap Die
  folds : List Fold
  foldBytes : Nat             -- bytes folded in the present window (R310)
  erases : List (Nat × Nat × Nat × Nat)   -- erases that wait for a Daybook page: commons, LSN, die, block (R289)
  gleanMark : Nat             -- STEWARD_GLEANED when the present window of R310 began
  secure : List SecureWork
  fillOrder : Nat
  arr : Nat                   -- sled-link arrangement set at start-up: its feature, 129 or 130; 24 x x2 otherwise (R17)
  stopped : Nat               -- queues the Sequencers have stopped, bit per port (R119)
  timeouts : AMap (List Nat)  -- operating seconds of timeouts per port (R304)
  labels : AMap Nat           -- pool identity on the label, per sled
  levels : AMap Nat           -- level set of a block group (R315)
  calAt : AMap Nat            -- operating second of a group's last calibration
  warned : List Nat           -- commons whose WARN was reported (R322)
  heldProg : List (Nat × Nat) -- full chunks of non-take sheaves held for SLC room: sheaf, position (R307)
  bridge : AMap Nat           -- what the bridges hold, as far as this head knows it (R303), under sled · 4096 +
                              -- commons: epoch · 2, plus one where this head's port claimed it; plus one
  deriving DecidableEq, Repr, Inhabited

/-- A sheaf (R334 to R339), under commons · 2^33 + sheaf number. STATE as in the ledger: 0 none, 1 OPEN,
2 PARITY, 3 CLOSED, 4 ABANDONED. -/
structure Sheaf where
  state : Nat
  locs : List Nat             -- 18 member locations
  done : Nat                  -- PROGRAMMED mask
  packed : Nat                -- slots packed
  take : Bool
  secure : Bool
  pages : Bool                -- holds map, directory, root, split or index pages
  metas : List (Nat × Nat)    -- their first slots and KINDs (R288)
  openLsn : Nat
  closeLsn : Nat              -- LSN of its SHEAF record
  seq : Nat := 0              -- WRITE_SEQ of its last page programmed (R288, R342)
  slc : Nat                   -- mask of chunks still in SLC
  lost : Nat                  -- mask of lost chunks
  bad : List (Nat × Nat)      -- uncorrectable pages: row, position
  scars : List Nat            -- scarred slots
  uncertain : Bool
  checked : Bool              -- checked by the running resynchronisation (R342)
  deriving DecidableEq, Repr, Inhabited

/-- An entry of the scar ring (R353). -/
structure Scar where
  addr : Nat
  leaves : Nat
  reeve : Nat
  deriving DecidableEq, Repr, Inhabited

/-- The Holdings (R327 to R356), but for what their registers hold. -/
structure Hold where
  formed : List Nat          -- the commons that exist (R330)
  epoch : AMap Nat           -- ownership epoch of each commons as this head knows it (R303)
  sheaves : AMap Sheaf
  nextSheaf : AMap Nat       -- next sheaf number of each commons
  frontier : AMap Nat        -- open sheaf of commons · 4 + kind, plus one (kind 0 take, 1 other, 2 secure, 3 pages)
  tableSeq : Nat             -- sequence number of the holding table (R331)
  ledgerDirty : List Nat     -- commons whose ledger changed since it was written (R340)
  watchQ : List Nat          -- sheaves at the head of the Watch's queue
  watchNow : List Nat        -- commons at the head of the queue (R353)
  watchFrom : AMap Nat       -- operating second the present pass began, plus one
  scars : List Scar          -- newest first, at most 4096
  resync : List Nat          -- commons under resynchronisation
  resyncDue : AMap Nat       -- operating second by which it is to end (R342)
  watchAt : AMap Nat         -- next sheaf number of the Watch's pass in each commons
  spareUsed : AMap Nat       -- bytes of each commons's spare reserve that rebuild has used (R333)
  writeSeq : AMap Nat        -- pages programmed in each commons: WRITE_SEQ (R288)
  rebuildMark : Nat          -- chunks rebuilt at the last measurement of the rate (R345)
  deriving DecidableEq, Repr, Inhabited

/-- What waits for the acknowledgement of a message the head sent (R361, R371). -/
inductive CarWait where
  | nothing
  /-- the completion of a tag -/
  | tag (t : Nat)
  /-- a CARRY -/
  | carry (n : Nat)
  /-- a replication record of a link -/
  | repl (link : Nat)
  /-- a READ for the data of a command, by its RTAG -/
  | pull (rtag : Nat)
  deriving DecidableEq, Repr, Inhabited

/-- A message the head sent to a peer and keeps until it is acknowledged (R359, R361). -/
structure CarMsg where
  seq : Nat
  type : Nat
  flags : Nat            -- FLAGS and KEY of R355, as FLAGS + 256 · KEY
  iv : Nat               -- IV_CTR, where GCM is set (R356)
  body : List Byte
  first : Nat            -- time of its first sending
  at_ : Nat              -- time of its last sending
  tries : Nat
  sent : Bool            -- it stands inside the 1,024 SEQs that may be outstanding
  wait : CarWait
  rto : Nat := 0         -- its RTO in µs (R361)
  deriving DecidableEq, Repr, Inhabited

/-- A command in a CMD message (R358): its queue, command identifier, opcode and recipe entry, whether host data arrive, its
fields, and the ranges of a Dataset Management. -/
structure CarCmd where
  q : Nat
  cid : Nat
  op : Nat
  entry : Nat            -- 16: an opcode that is not supported
  inbound : Bool
  c : IoCmd
  ranges : List (Nat × Nat)
  dealloc : Bool
  deriving DecidableEq, Repr, Inhabited

/-- A message that has arrived whole; one that is not idempotent waits for lower SEQs (R362). out is what the outside brings to a
register write (R358). -/
structure CarIn where
  seq : Nat
  type : Nat
  body : List Byte
  cmd : Option CarCmd
  out : Outside
  deriving DecidableEq, Repr, Inhabited

/-- A message in the reassembly store of which segments are missing (R357): a bit of map for each segment received. -/
structure Reasm where
  node : Nat
  port : Nat
  epoch : Nat
  seq : Nat
  len : Nat
  map : Nat
  deriving DecidableEq, Repr, Inhabited

/-- A peer entry (R363 to R366). -/
structure Peer where
  used : Bool
  gen : Nat
  node : Nat
  port : Nat
  state : Nat            -- 0 UNSYNCED, 1 SYNCED, 2 ERROR
  role : Nat
  session : Nat          -- epoch of the HELLO whose Carrier-M session is up, plus one; 0 none (R527)
  pinned : Bool
  rxEpoch : Nat
  floor : Nat
  taken : List Nat       -- SEQs of the window taken, in rising order
  unacked : List (Nat × Nat)   -- SEQs taken whose acknowledgement waits for a Counterfoil SEQ (R370)
  held : List CarIn
  txEpoch : Nat
  txSeq : Nat
  out : List CarMsg
  got : Nat              -- messages since the last ACK
  ce : Nat               -- datagrams with CE since the last ACK
  lastRx : Nat
  errAt : Nat            -- time it entered ERROR, plus one
  feat0 : Nat
  feat2 : Nat
  tagFails : List Nat    -- times of failed GCM tags
  srtt : Nat             -- smoothed round trip in µs
  rate : Nat             -- Mb/s
  alpha : Nat            -- units of 1/65,536
  sentI : Nat            -- datagrams sent in this interval
  ackedI : Nat           -- datagrams acknowledged in this interval
  ceI : Nat              -- CE counted in its ACKs in this interval
  deriving DecidableEq, Repr, Inhabited

/-- A CARRY that has been sent (R371). -/
structure CarryJob where
  used : Bool
  peer : Nat
  done : Bool
  status : Status
  bytes : Nat
  unit : Nat             -- pocket of the engine and view of its reply buffer, for a READ
  db : BitVec 128
  len : Nat
  deriving DecidableEq, Repr, Inhabited

/-- A READ the head has sent, under its RTAG (R358): the CARRY or the command tag it serves, each plus one. -/
structure ReadJob where
  carry : Nat
  tag : Nat
  len : Nat
  got : Nat
  parts : List (Nat × List Byte)
  deriving DecidableEq, Repr, Inhabited

/-- A RoCEv2 queue pair under its Docket queue (R374). -/
structure Qp where
  rate : Nat
  alpha : Nat
  cnp : Bool             -- a CNP came in this interval
  retries : Nat          -- local ACK timeouts since the last acknowledgement
  cnpAt : Nat := 0       -- time of the last CNP sent, plus one
  deriving DecidableEq, Repr, Inhabited

/-- The Carrier (R354 to R377). Entries 0 to 65,535 are the fabric ports', 65,536 to 65,539 Carrier-M's. -/
structure Car where
  peers : AMap Peer
  carries : AMap CarryJob
  nextCarry : Nat
  reads : AMap ReadJob
  nextRtag : Nat
  nextEpoch : Nat
  topEpoch : Nat          -- first send epoch above the block reserved in the NVM (R359)
  iv : AMap Nat           -- IV_CTR of each session key (R356)
  ivTop : AMap Nat        -- first value above its block reserved in the NVM
  moved : AMap Nat        -- last peer number of a node whose entry was evicted, plus one
  freed : AMap Nat        -- time a registration's revocation completed, plus one (R364)
  qps : AMap Qp
  reasm : List Reasm     -- the reassembly store
  fabMode : Nat          -- FABRIC_CFG.MODE as the last training of each port applied it (R377)
  adopt : List (List Nat)    -- adopted commands: queue, command identifier, completion status, Reeve number (R372)
  deriving DecidableEq, Repr, Inhabited

/-- A magazine task register (R388): STATE 0 EMPTY, 1 ACTIVE, 2 LATCHED. -/
structure MagTask where
  state : Nat
  tag : Nat                  -- tag of the task, plus one
  op : Nat
  client : Nat
  length : Nat
  status : Status            -- latched status
  block : List Byte          -- payload of its TASK_STATUS
  statSeq : Nat              -- SEQ of its TASK_STATUS, plus one; 0 while none is sent
  extra : List Byte          -- what follows the status block: the grant record of a RECORD_ARM
  deriving DecidableEq, Repr, Inhabited

/-- A folio kept until it is acknowledged, or waiting for room (R384). -/
structure MagOut where
  seq : Nat
  type : Nat
  flags : Nat
  task : Nat
  ofs : Nat
  data : List Byte
  sent : Bool
  deriving DecidableEq, Repr, Inhabited

/-- A task the dock role has issued (R387, R397). KIND 1 IDENTIFY, 2 READ of the clip table, 3 READ of leaves copied
unverified, 4 READ of clip data. -/
structure IngTask where
  kind : Nat
  leaf : Nat
  len : Nat
  data : List Byte
  status : Status
  statusIn : Bool            -- its TASK_STATUS has come
  bad : Bool                 -- its count fails R389
  closed : Bool              -- LAST has come
  tries : Nat
  done : Bool                -- its data passed R389 and stand in STAGE
  deriving DecidableEq, Repr, Inhabited

/-- An ingest of a docked magazine (R397 to R399). -/
structure Ingest where
  queue : Nat                -- its internal BULK queue, plus one
  leaves : Nat
  serial : List Byte
  tableLeaf : Nat
  entries : Nat
  dataLeaf : Nat
  table : List Byte          -- clip table as read so far
  clips : List (List Byte)   -- USED entries in table order
  cur : Nat                  -- index of the clip under way
  asked : Nat                -- bytes of it (or of the unverified leaves) asked for
  fed : Nat                  -- bytes of it fed, in order
  held : Nat                 -- the Assay held context of the part under way, plus one
  digests : List Byte        -- digests of its finished parts
  reread : Bool
  failed : Bool              -- a READ of it failed twice
  tasks : AMap IngTask       -- by task register
  toQueue : List (Nat × List Byte)   -- folios waiting for an INGEST_FOLIO command: volume leaf, bytes
  records : List (List Byte) -- records of the report
  bad : Bool                 -- a clip ended MISMATCH or READ_ERROR
  startReeve : Nat
  startTime : Nat
  sign : Bool                -- feature 101 stood accepted at the start
  deriving DecidableEq, Repr, Inhabited

/-- The link of a magazine port (R381 to R386, R392). -/
structure MagPort where
  txSeq : Nat
  rxNext : Nat               -- next SEQ expected
  out : List MagOut
  credit : Nat               -- the other side's last CREDIT
  reqAt : Nat                -- time of the last RESEND_REQ, plus one
  queue : Nat                -- the MAGAZINE queue, plus one
  lanes : Nat                -- lanes the next training uses
  trainAt : Nat              -- time at which the training started, plus one (R385)
  heldWrites : List (Nat × List Byte)   -- TASK_WRITEs held until their register's old tag completes (R390)
  epoch : Nat                -- the EPOCH last heard on TWIN
  heard : Nat                -- the STATE last heard on TWIN
  adopted : List (List Nat)  -- adopted tasks whose status waits for the tether: register, status, CLIENT, bytes (R393)
  ingest : Ingest
  report : List Byte         -- the last report
  deriving DecidableEq, Repr, Inhabited

/-- The magazine ports (R378 to R401): task registers at port * 64 + register. -/
structure Mag where
  tasks : AMap MagTask
  ports : AMap MagPort
  deriving DecidableEq, Repr, Inhabited

/-- A Council core's ballot (R418): PRIV minor, ra, the bytes of da, the Reeve number of the last input consumed;
the time it came. -/
structure Ballot where
  core : Nat
  minor : Nat
  ra : Nat
  da : List Byte
  input : Nat
  at_ : Nat
  deriving DecidableEq, Repr, Inhabited

/-- A planned move (R413): whether this head gives, the KIND of COUNCIL_SWITCH it ends as (3 planned, 4 failback,
5 drill), the commons, its start, and whether ownership has been handed over. -/
structure Move where
  giving : Bool
  kind : Nat
  commons : List Nat
  started : Nat
  handed : Bool
  deriving DecidableEq, Repr, Inhabited

/-- A drill (R415 to R417): the drilled slot, the FAILED bits, the gap, when it began, whether the drilled head has
been fenced, whether the commons fail back. -/
structure Drill where
  slot : Nat
  failed : Nat
  gap : Nat
  started : Nat
  fenced : Bool
  back : Bool
  seen : Bool        -- this head has seen the partner's test pulse
  heard : Bool       -- the partner has reported this head's
  probed : Bool      -- the drilled head's probe was refused
  wait : Nat         -- ALIVE ticks of the stage under way
  deriving DecidableEq, Repr, Inhabited

/-- The state of a Council core (R419): its contexts and the bytes of its pocket, by their offset. -/
structure CoreImage where
  ctxs : List Ctx
  pocket : List (Nat × Byte)
  deriving DecidableEq, Repr, Inhabited

/-- The last agreed state of the voting cores (R419): that of an agreeing core as its decision took effect, the decision, and the
status it completed with. -/
structure Agreed where
  core : CoreImage
  ballot : Ballot
  status : Status
  deriving DecidableEq, Repr, Inhabited

/-- Pairing, switch-over and the Council (R402 to R423). -/
structure Pair where
  ballots : List Ballot             -- of the decision being taken
  owes : List (Nat × Ballot × Status)   -- cores whose ballot on a decision taken has not come, oldest first
  results : List (Ballot × Status)  -- decisions taken whose core's operation has not completed
  agreed : Option Agreed            -- the last agreed state (R419)
  retried : Bool                    -- the decision was discarded once (R419)
  dissents : AMap (List Nat)        -- operating seconds of each core's dissents (R421)
  rejoin : Bool                     -- a restored core serves from the next decision (R421)
  aliveAt : Nat                     -- time ALIVE last advanced (R402)
  second : Nat                      -- time a second's wait began, plus one (R406)
  pulseOut : Bool                   -- a test pulse stands on FENCE_OUT (R404)
  pulsesOut : Nat                   -- test pulses sent and not yet reported by the partner
  move : Option Move
  drill : Option Drill
  drillAt : Nat                     -- operating second a deferred scheduled drill retries
  asked : Nat                       -- management's mode request that waits for the partner: its mode code
  joinMine : Bool                   -- JOIN_HELLO sent in this joining
  transfer : Nat                    -- SEQ of the last stub of the state transfer of R51, plus one
  joined : Bool                     -- joining passed its checks and awaits the end of the transfer
  deriving DecidableEq, Repr, Inhabited

/-- A line of the Larder (R424): what a physical way of a set holds. -/
structure Line where
  valid : Bool
  tag : Nat
  dirty : Bool
  busy : Bool := false       -- a fill of it is in progress: the way is taken (R426)
  deriving DecidableEq, Repr, Inhabited

/-- The Larder and HBM (R424 to R438). Contents of lines stand in State.mem, which is the one value each
byte has (R64); lines records which lines are held and dirty. -/
structure Larder where
  lines : AMap Line          -- (set · 32 + bank) · 32 + way
  lfsr : AMap Nat            -- replacement LFSR of each bank, plus one; 0 stands for its seed (R426)
  seed : Nat                 -- the seed the LFSRs took at the last module reset (R426)
  fills : AMap Nat           -- line → 1 fill for a load, 2 fill for a store
  poison : List Nat          -- poisoned lines (R431)
  maint : Option (Nat × Nat × Bool)   -- maintenance under way: start, length, invalidate (R427)
  job : Nat                  -- 0 none, 1 disable, 2 power-down, 3 way retirement (R429 to R432)
  jobWay : Nat
  jobBank : Nat
  jobQ : List (Nat × Nat)    -- automatic retirements queued: bank, way (R436)
  writeThrough : Bool
  spareFor : AMap Nat        -- way the bank's spare serves for, plus one (R426, R432)
  scrubAt : Nat              -- operating second the last scrub began (R434)
  corr : AMap (List Nat)     -- operating seconds of corrected errors per bank way
  rows : List (Nat × Nat)    -- rows remapped: channel, row (R435)
  rowErr : AMap (List Nat)   -- operating seconds of corrected errors per channel row
  chAlarm : List Nat         -- channels whose exhaustion was reported
  tempHot : Nat              -- stacks above 85 °C, bit per stack
  deriving DecidableEq, Repr, Inhabited

/-- One entry of a boot ledger (R441): STATE, status of a failure, ms from t0 at the last change. -/
structure BootEntry where
  state : Nat
  status : Nat
  ms : Nat
  deriving DecidableEq, Repr, Inhabited

/-- A boot ledger (R441); entries under their STEP. -/
structure Ledger where
  cycle : Nat
  bank : Nat
  alt : Nat
  skip : Nat
  own : Nat                  -- ALT bits that stand for a step's own alternate
  vinLost : Bool
  entries : AMap BootEntry
  deriving DecidableEq, Repr, Inhabited

/-- A start under way (R49, R441): what the surroundings bring, the step in progress (0: none), time of t0, whether it
is a warm restart, and the time of the failure plus one. -/
structure BootRun where
  env : BootEnv
  step : Nat
  t0 : Nat
  warm : Bool
  failAt : Nat
  deriving DecidableEq, Repr, Inhabited

/-- A vault set as the secure NVM keeps it (R446): KEY_ID, and the set wrapped under the OMK. -/
structure VaultSet where
  ident : Nat
  wrapped : List Byte
  deriving DecidableEq, Repr, Inhabited

/-- The Strongroom (R439 to R460), but for what its registers hold. -/
structure Strong where
  ledger : Ledger             -- of this start
  prev : Ledger               -- of the previous one
  older : Ledger              -- the start before that, until BL-03 overwrites it
  boot : BootRun
  altOwn : Nat                -- ALT bits under which a step runs by its own alternate
  altBank : Nat               -- ALT bits under which the head runs the other bank, by the first row of R443
  reset : Bool                -- a module reset has been asserted and t0 has not come (R504)
  negotiated : Bool           -- management has negotiated since the last module reset (R46)
  clearAlt : Bool             -- CLEAR_ALT written: takes effect at the next start (R444)
  selSeq : Nat                -- SEQ of the ruling selector record (R455)
  active : Nat                -- bank it names
  sels : AMap (List Byte)     -- the two selector slots
  blocks : AMap (List Byte)   -- blocks of bank b received, under b · 512 + index
  blockBuf : List Byte        -- bytes of the block being written
  revoked : Nat               -- blown fuses of release keys 0 to 3
  keyBuf : List Byte          -- bytes written to STRONG_KEY_DATA
  keyOut : List Byte          -- the export blob
  keyBack : Nat               -- target of the key operation under way
  omk : List Byte             -- the owner master key
  vaults : AMap VaultSet
  sessions : AMap (List Byte) -- session keys wrapped under the OMK, by slot
  progKey : List Byte         -- the enrolled program key
  nonce : List Byte           -- nonce last drawn (R451)
  nonceAt : Nat               -- time it was drawn, plus one; 0 not valid
  quote : List Byte
  rolling : Bool              -- a roll runs and this head takes part in it (R458)
  rollTask : Nat              -- what the other head has asked of this one: 1 SERVICE, 2 ACTIVATE
  rollPhase : Nat             -- of the step in progress
  partnerFw : Nat             -- firmware word of the partner's last JOIN_HELLO
  partnerSerial : Nat := 0    -- serial number of the partner's last JOIN_HELLO (R52)
  partnerPool : Nat := 0      -- pool identity of the partner's last JOIN_HELLO (R52)
  deriving DecidableEq, Repr, Inhabited

/-- A test or calibration asked for (R505, R506): source 0 periodic, 1 WARDEN_TEST_CTL, 2 the block's own
register, 3 a coder lane and 4 a checker lane after a checker mismatch. A Larder way is bank · 32 + way. -/
structure TestReq where
  kind : Nat
  unit : Nat
  source : Nat
  force : Bool
  restore : Bool
  notBefore : Nat            -- time before which a deferred periodic test is not retried
  deferrals : Nat
  partner : Nat              -- the other lane of a mismatch, plus one (R188)
  due : Nat                  -- time it was queued
  deriving DecidableEq, Repr, Inhabited

/-- The Warden's scheduler (R505, R506), what the Council measures for the capacity block (R191, R212), and supply
state. -/
structure Warden where
  queue : List TestReq
  running : Option TestReq
  side : Option TestReq      -- a calibration or step test beside the withdrawal (R506)
  exhausted : List Nat       -- kinds of spare whose exhaustion was reported (R507)
  fingerprinted : Nat        -- B/s of ingest that is fingerprinted, as last measured (R212)
  gcm : Nat                  -- B/s of the Carrier's GCM bytes, as last measured (R191)
  cold : Bool                -- the ALARM of a case below −55 °C has been written (R500)
  overVin : Bool             -- the ALARM of VIN above 18.5 V has been written (R523)
  pllAt : Nat                -- time a PLL was gated for its relock, plus one (R504)
  hotStop : Bool             -- stopped by an over-temperature HOLDUP and not yet cooled (R501)
  deferral : Nat × Nat × Nat   -- the last request that was deferred: its status, its reason, the retry-after in ms (R188, R506)
  again : List TestReq := []   -- the withdrawal that HOLDUP abandoned, for the next start (R506)
  full : List Nat := []      -- the units that served before a forced test; empty while none runs (R506)
  startFrom : Nat            -- code of the mode the next start leaves, 0 for off (R32)
  deriving DecidableEq, Repr, Inhabited

/-- What an LED line shows (R515): dark, lit, blinking at 2 Hz or at 8 Hz. -/
inductive Led where
  | dark | lit | slow | fast
  deriving DecidableEq, Repr, Inhabited

/-- The lands that a switch-over gap or HOLDUP holds at their last value (R21, R514): SLED_PWREN, SLED_PERST_N and the LED lines. -/
structure Lands where
  pwren : Nat
  perst : Nat
  leds : List Led
  deriving DecidableEq, Repr, Inhabited

/-- The board-facing signals (R513 to R515). SLED_PWREN and SLED_PERST_N are masks over the 24 sleds, as this head drives them; a
set PERST bit means SLED_PERST_N is driven low. While the lands are held they show what heldAt keeps instead. -/
structure Pins where
  headSlotLand : Bool
  modResetLow : Bool
  fenceOut : Bool
  fenceIn : Bool
  pwren : Nat
  perst : Nat
  pgOut : Bool
  misoAnswers : Bool
  ledAlarm : Bool
  heldAt : Option Lands  -- what the held lands show in a switch-over gap or HOLDUP (R21, R514)
  deriving DecidableEq, Repr, Inhabited

/-- What an access path holds between its accesses (R39): the register and value of a held low half; the register whose low half
was just read, and its high half. -/
structure Latch where
  held : Option (Nat × Nat)
  low : Option (Nat × Nat)
  deriving DecidableEq, Repr, Inhabited

end Sys2Proof.Machine
end

