-- ==== Sys2Proof/Machine/State.lean ====
section
/-! DEFINITION. The state of the head: plain data. Registers of the management map (R37) are one sparse
file; every other piece of state stands in the structure of its block; memory is one canonical byte list
over the four spaces of Ops.lean; pending is the queue of commands that wait. -/
namespace Sys2Proof.Machine

/-- The head. Fields pending, outbox, time, freeCtr and reply are the model's own (INVENTORY.md). -/
structure State where
  regs : AMap Word
  mem : List Host.Cell
  pending : List Instr
  outbox : List Out
  time : Nat
  freeCtr : Nat
  mode : Mode
  power : Power
  reply : Nat            -- status the register access under way completes with (R38)
  obs : Obs
  hands : Hands
  docket : Docket
  toll : Toll
  pins : Pins
  larder : Larder
  plan : Plan
  press : Press
  mill : Mill
  assay : Assay
  warden : Warden
  hold : Hold
  mag : Mag
  sieve : Sieve
  cf : Cf
  till : Till
  stew : Stew
  media : Media
  car : Car
  pair : Pair
  strong : Strong
  latches : AMap Latch
  deriving DecidableEq, Repr

/-- Why a step can fault. No meaning of this model faults: the spec answers every command with a status,
a trap, a kill or a change of mode. Safe. -/
inductive Fault where
  /-- Raised by no command; it stands for an access outside every space of memory, which the checks of
  R38, R63 and R106 turn away before. Safe. -/
  | noSuchSpace
  deriving DecidableEq, Repr

/-- Why a step can be refused. -/
inductive Refusal where
  /-- The command has no meaning yet. Raised by the arms of exec that say so. Safe. -/
  | notModelled (mnemonic : String)
  deriving DecidableEq, Repr

/-- The head right after module reset, before t0: every register at the reset value of its table, no
context, no command, no record; the supply figures and the NVM as assumption logs 9 and 10 say. -/
def State.reset : State where
  regs := []
  mem := []
  pending := []
  outbox := []
  time := 0
  freeCtr := 0
  mode := .bootstrap
  power := .off
  reply := 0
  obs := default
  hands := default
  docket := default
  toll := { (default : Toll) with powerPct := 100 }
  pins := default
  larder := { (default : Larder) with seed := 0xACE1 }
  plan := { tillBase := 0x200000000, tillLen := 0x600000000, scratchBase := 0x800000000, strong := [(0xF00000000, 0x10000000)], recordBase := 0xA00000000, reelBase := 0xB00000000, sampleBase := 0xC00000000, spillBase := 0xD00000000, cacheGib := 16 }
  press := default
  mill := default
  assay := default
  warden := default
  hold := default
  mag := default
  sieve := default
  cf := default
  till := default
  stew := default
  media := default
  car := default
  pair := default
  strong := default
  latches := []

end Sys2Proof.Machine
end

