-- ==== Sys2Proof/Machine/Ops.lean ====
section
/-! DEFINITION. The named operations over registers, memory, Reeve numbers, records and the mode that every
meaning shares. -/
namespace Sys2Proof.Machine

/-- The outcome of a command on the head. -/
abbrev Res := Host.Outcome State Fault Refusal

/-! ### Registers and fields -/

/-- The word kept at a register key. -/
def State.getR (s : State) (key : Nat) : Word := AMap.getD resetOf s.regs key

/-- Set the word kept at a register key. -/
def State.setR (s : State) (key : Nat) (v : Word) : State :=
  { s with regs := AMap.setD resetOf s.regs key v }

/-- The mask of w low bits. -/
def lowMask (w : Nat) : Word := BitVec.ofNat 64 (2 ^ w - 1)

/-- The value of a field in a word. -/
def Fld.get (f : Fld) (v : Word) : Nat := ((v >>> f.lo) &&& lowMask f.w).toNat

/-- A word with a field set, the value cut to the field's width. -/
def Fld.put (f : Fld) (v : Word) (n : Nat) : Word :=
  (v &&& ~~~(lowMask f.w <<< f.lo)) ||| ((BitVec.ofNat 64 n &&& lowMask f.w) <<< f.lo)

/-- The value of a field. -/
def State.getF (s : State) (f : Fld) : Nat := f.get (s.getR f.addr)

/-- Set a field. -/
def State.setF (s : State) (f : Fld) (n : Nat) : State := s.setR f.addr (f.put (s.getR f.addr) n)

/-- Add to a counting field, modulo its width (R478). -/
def State.addF (s : State) (f : Fld) (n : Nat) : State := s.setF f (s.getF f + n)

/-- Add one to a field that saturates at all ones. -/
def State.satF (s : State) (f : Fld) : State := s.setF f (satInc (s.getF f) (2 ^ f.w - 1))

/-- Set a register whole. -/
def State.setN (s : State) (key n : Nat) : State := s.setR key (BitVec.ofNat 64 n)

/-- Read a register as a number. -/
def State.getN (s : State) (key : Nat) : Nat := (s.getR key).toNat

/-- Count in a register that counts since start (R478). -/
def State.addN (s : State) (key n : Nat) : State := s.setN key (s.getN key + n)

/-- A request or a write completes with a status: its STATUS field, and the access that made it (R38). -/
def State.stat (s : State) (f : Fld) (st : Status) : State := { s with reply := st }.setF f st

/-- An access completes with a status. -/
def State.answer (s : State) (st : Status) : State := { s with reply := st }

/-! ### Memory: global HBM, the Hands' pockets and STAGE in one canonical list -/

/-- What a byte nothing has written reads as (assumption log 6). -/
def memDefault : Nat → Byte := fun _ => 0

/-- The canonical form of memory. -/
def Memory.wf (m : List Host.Cell) : Bool := AMap.wf memDefault m

/-- Key of a pocket byte of a Hand or other engine unit (R62). -/
def pocketKey (unit off : Nat) : Nat := 2 ^ 40 + unit * 2 ^ 18 + off

/-- Key of a STAGE byte (R55). -/
def stageKey (a : Nat) : Nat := 2 ^ 64 + a

/-- Read the byte at a key. -/
def State.rdB (s : State) (k : Nat) : Byte := AMap.getD memDefault s.mem k

/-- Write the byte at a key. -/
def State.wrB (s : State) (k : Nat) (b : Byte) : State := { s with mem := AMap.setD memDefault s.mem k b }

/-- n bytes from key k. -/
def State.rdBytes (s : State) (k : Nat) : Nat → List Byte
  | 0 => []
  | n + 1 => s.rdB k :: State.rdBytes s (k + 1) n

/-- Write bytes from key k on. -/
def State.wrBytes : State → Nat → List Byte → State
  | s, _, [] => s
  | s, k, b :: r => State.wrBytes (s.wrB k b) (k + 1) r

/-! ### Output, free values, Reeve numbers and time -/

/-- Send something on a wire of the head (assumption log 1). -/
def State.send (s : State) (o : Out) : State := { s with outbox := s.outbox ++ [o] }

/-- The next free value, and the state that has consumed it (assumption log 8). -/
def State.draw (s : State) : Word × State :=
  (Config.freeValue s.freeCtr, { s with freeCtr := s.freeCtr + 1 })

/-- n drawn values as bytes. -/
def State.drawBytes : Nat → State → List Byte × State
  | 0, s => ([], s)
  | n + 1, s =>
    let (w, s1) := s.draw
    let (l, s2) := State.drawBytes n s1
    (leBytes 8 w.toNat ++ l, s2)

/-- The next Reeve number (R461). -/
def State.now (s : State) : Nat := s.getN R.REEVE_NOW

/-- Operating seconds (R464), from the count at t0 and the time passed since. -/
def State.opsec (s : State) : Nat := s.obs.opsecBase + s.time / 1000000

/-- Power-cycle count and operating seconds as records pack them (R464). -/
def State.timeWord (s : State) : Nat :=
  s.getF F.REEVE_TIME_CYCLE * 2 ^ 40 + s.opsec % 2 ^ 40

/-- A feature accepted with management (R43, R46). -/
def State.feat (s : State) (n : Nat) : Bool :=
  (s.getR (R.IDENT_FEAT_MGMT + 8 * (n / 64))).getLsbD (n % 64)

/-- A feature running between the heads (R43, R48). -/
def State.pairFeat (s : State) (n : Nat) : Bool :=
  (s.getR (R.IDENT_FEAT_PAIR + 8 * (n / 64))).getLsbD (n % 64)

/-- Whether the head has fenced itself (R403). -/
def State.selfFenced (s : State) : Bool := s.getF F.COUNCIL_PAIR_SELF_FENCED = 1

/-- Whether the head takes no command and no data: in HOLDUP, or fenced by itself (R266, R403). -/
def State.deaf (s : State) : Bool := s.mode = .holdup || s.selfFenced

/-- Complete management's mode request (R35). -/
def State.reqDone (s : State) (st : Status) : State :=
  if s.getF F.IDENT_MODE_REQ_BUSY = 1 then
    ({ s with pair := { s.pair with asked := 0 } }.setF F.IDENT_MODE_REQ_BUSY 0).setF F.IDENT_MODE_REQ_STATUS st
  else s

/-! ### Records (R466 to R477) -/

/-- Continuation records a body needs (R467). -/
def contCount (len : Nat) : Nat := if len ≤ 22 then 0 else (len - 22 + 43) / 44

/-- Records a record takes, continuations included. -/
def Rec.size (r : Rec) : Nat := 1 + contCount r.body.length

/-- A record of the present moment (R466). -/
def State.mkRec (s : State) (code source chan detail : Nat) (body : List Byte) : Rec where
  seq := 0
  code := code
  source := source
  chan := chan
  founding := false
  isCount := false
  reeve := s.now
  time := s.timeWord
  wall := if s.getF F.REEVE_WALL_VALID = 1 then s.getF F.REEVE_WALL_SECONDS + 1 else 0
  wallEpoch := s.getF F.REEVE_WALL_WALL_EPOCH
  detail := detail % 2 ^ 48
  body := body

/-- The founding codes of R468. -/
def foundingCode (code : Nat) : Bool :=
  [0x107, 0x108, 0x109, 0x10A, 0x10B, 0x10D, 0x110, 0x111, 0x112].contains code ||
    (decide (0x8000 ≤ code) && decide (code < 0x8200) && decide (code % 16 = 4))

/-- Keep at most n newest entries. -/
def keepLast {α : Type} (n : Nat) (l : List α) : List α := l.drop (l.length - n)

/-- The records of a list, continuations counted. -/
def recsIn (l : List Rec) : Nat := l.foldl (fun n r => n + r.size) 0

/-- An alarm or log condition on a path of the Crier: append, or fold into the count record that follows
a waiting alarm of the same code (R474). -/
def CPath.addAlarm (p : CPath) (r cnt : Rec) : CPath × Bool :=
  if p.alarms.any (fun x => x.code = r.code && !x.isCount) then
    if p.alarms.any (fun x => x.code = r.code && x.isCount) then
      ({ p with alarms := p.alarms.map (fun x =>
          if x.code = r.code && x.isCount then
            { x with detail := x.detail + 1, body := (x.body.take 8) ++ leBytes 8 r.reeve }
          else x) }, true)
    else
      ({ p with alarms := p.alarms ++ [cnt] }, true)
  else ({ p with alarms := p.alarms ++ [r] }, false)

/-- Whether the push path carries records: feature 3 accepted and a Carrier-M session up (R473). -/
def State.pushUp (s : State) : Bool := s.getF F.CRIER_STATE_PUSH = 1

/-- A numbered record: the Crier gives it the next number and its continuations the numbers after (R473). -/
def State.crierNumber (s : State) (r : Rec) : Rec × State :=
  ({ r with seq := s.getN R.CRIER_RING_HEAD % 2 ^ 32 },
   s.setN R.CRIER_RING_HEAD ((s.getN R.CRIER_RING_HEAD + r.size) % 2 ^ 32))

/-- Put an alarm on every path, folding where an earlier one waits (R474), and light LED line 29 (R515). -/
def State.crierAlarm (s0 : State) (r0 : Rec) : State :=
  let (r, s) := s0.crierNumber r0
  let cnt : Rec := { r with isCount := true, detail := 1, body := leBytes 8 r.reeve ++ leBytes 8 r.reeve }
  let (pa, f1) := s.obs.parish.addAlarm r cnt
  let (pu, f2) := if s.pushUp then s.obs.push.addAlarm r cnt else (s.obs.push, false)
  let (ri, f3) := s.obs.ringP.addAlarm r cnt
  let s := { s with obs := { s.obs with parish := pa, push := pu, ringP := ri }
                    pins := { s.pins with ledAlarm := true } }
  if f1 || f2 || f3 then s.addN R.CRIER_COALESCED 1 else s

/-- Whether a source's LOG bucket holds a token; used is in thousandths of a record (R475). -/
def State.logToken (s : State) (src : Nat) : Bool :=
  decide ((s.obs.srcs.get src).used + 1000 ≤ s.getF F.CRIER_CFG_LOG_BURST * 1000) &&
    decide (recsIn s.obs.ringP.logs < 65536)

/-- Offer a LOG record: it pays a token, or is suppressed and counted (R475). -/
def State.crierLog (s : State) (r0 : Rec) : State :=
  if s.logToken r0.source then
    let (r, s) := s.crierNumber r0
    { s with obs := { s.obs with
        push := if s.pushUp then { s.obs.push with logs := s.obs.push.logs ++ [r] } else s.obs.push
        ringP := { s.obs.ringP with logs := s.obs.ringP.logs ++ [r] }
        srcs := s.obs.srcs.upd r.source (fun x => { x with used := x.used + 1000 }) } }
  else
    let s := s.addN R.CRIER_HUSHED 1
    { s with obs := { s.obs with srcs := s.obs.srcs.upd r0.source (fun x =>
        { x with suppressing := true, suppressed := x.suppressed + 1
                 first := if x.suppressed = 0 then r0.reeve else x.first, last := r0.reeve }) } }

/-! ### Programmable counters (R479 to R481) -/

/-- Counter n passes 2^64 − 1: its COUNT_OVF bit, and with OVF_LOG a LOG (R480). -/
def State.countOver (s : State) (n : Nat) : State :=
  let s1 := s.setF F.COUNT_OVF_VAL (setBit (s.getF F.COUNT_OVF_VAL) n true)
  if s.getF (F.COUNT_P_CFG_OVF_LOG.win 0x20 n) = 1 then
    (s1.crierLog (s1.mkRec 0x4050 37 1 n [])).addN R.REEVE_NOW 1
  else s1

/-- k occurrences reach counter n. -/
def State.countOne (s : State) (n k : Nat) : State :=
  let f := F.COUNT_P_VALUE_ALL.win 0x20 n
  let v := s.getF f + k
  let s1 := s.setF f v
  if v < 2 ^ 64 then s1 else s1.countOver n

/-- k occurrences reach counter n; the counter chained to it counts a wrap (R480). Occurrences toward the next sample are kept
(R481). -/
def State.countAdd (s : State) (n k : Nat) : State :=
  let wraps := decide (2 ^ 64 ≤ s.getF (F.COUNT_P_VALUE_ALL.win 0x20 n) + k)
  let s1 := s.countOne n k
  let s2 := { s1 with obs := { s1.obs with counts := s1.obs.counts.upd n (fun x => x + k) } }
  if wraps = true ∧ n % 2 = 0 ∧ s.getF (F.COUNT_P_CFG_CHAIN.win 0x20 (n + 1)) = 1 ∧ (s.getF F.COUNT_RUN_VAL).testBit (n + 1) = true then
    s2.countOne (n + 1) 1
  else s2

/-- Whether counter n takes an event in a mode: its bit in COUNT_RUN, EVENT, LEVEL, not chained, and for Hand events its mask
(R479, R480). hand is 16 where no Hand is named. -/
def State.countTakes (s : State) (n ev level hand : Nat) : Bool :=
  (s.getF F.COUNT_RUN_VAL).testBit n && s.getF (F.COUNT_P_CFG_EVENT.win 0x20 n) = ev && s.getF (F.COUNT_P_CFG_LEVEL.win 0x20 n) = level &&
    s.getF (F.COUNT_P_CFG_CHAIN.win 0x20 n) = 0 &&
    (s.getF (F.COUNT_P_CFG_HAND_MASK.win 0x20 n) = 0 || hand = 16 || (s.getF (F.COUNT_P_CFG_HAND_MASK.win 0x20 n)).testBit hand)

/-- k occurrences of an event of R479, of a Hand (16: of none). -/
def State.countEv (s : State) (ev k hand : Nat) : State :=
  if s.getF F.COUNT_RUN_VAL = 0 then s
  else ((upto 32).filter (fun n => s.countTakes n ev 0 hand)).foldl (fun s n => s.countAdd n k) s

/-- Give the next Reeve number to an event (R461). -/
def State.tick (s : State) : State := (s.addN R.REEVE_NOW 1).countEv 0x0D 1 16

/-- Whether TRACE of a source is accepted (R473). -/
def State.traceOn (s : State) (src : Nat) : Bool :=
  (s.getR (R.CRIER_TRACE_EN + 8 * (src / 64))).getLsbD (src % 64)

/-- Offer a TRACE record (R473). -/
def State.crierTrace (s : State) (r0 : Rec) : State :=
  if s.traceOn r0.source then
    let (r, s) := s.crierNumber r0
    { s with obs := { s.obs with
        push := if s.pushUp then { s.obs.push with traces := s.obs.push.traces ++ [r] } else s.obs.push
        ringP := { s.obs.ringP with traces := s.obs.ringP.traces ++ [r] } } }
  else s

/-- An ALARM the rules require of block i, class c, with a status and a detail word (R468, R530). -/
def State.alarm (s : State) (i c : Nat) (st : Status) (det : Nat) (body : List Byte) : State :=
  (s.crierAlarm (s.mkRec (0x8000 + 16 * i + c) (32 + i) 0 (st * 2 ^ 32 + det % 2 ^ 32) body)).tick

/-- A LOG the rules require of block i (R468, R530). -/
def State.log (s : State) (i c : Nat) (st : Status) (det : Nat) (body : List Byte) : State :=
  let s1 := (s.crierLog (s.mkRec (0x4000 + 16 * i + c) (32 + i) 1 (st * 2 ^ 32 + det % 2 ^ 32) body)).tick
  if s.getN R.CRIER_HUSHED = s1.getN R.CRIER_HUSHED then s1 else s1.countEv 0x0E 1 16

/-- A TRACE the rules require of block i (R468, R530). -/
def State.trace (s : State) (i c : Nat) (st : Status) (det : Nat) (body : List Byte) : State :=
  (s.crierTrace (s.mkRec (0x800 + 16 * i + c) (32 + i) 2 (st * 2 ^ 32 + det % 2 ^ 32) body)).tick

/-- A register event of R468, waiting for the Register's next window (R470). -/
def State.regEvent (s : State) (blk code det : Nat) (body : List Byte) : State :=
  let r := s.mkRec code (32 + blk) 3 det body
  { s with obs := { s.obs with regQ := s.obs.regQ ++ [{ r with founding := foundingCode code }] } }.tick

/-- Block indices in the map of R37, as R462 and R468 number them. -/
def blkIDENT : Nat := 0
def blkWARDEN : Nat := 1
def blkREEVE : Nat := 2
def blkPARISH : Nat := 3
def blkCRIER : Nat := 4
def blkCOUNT : Nat := 5
def blkSTRONG : Nat := 6
def blkCOUNCIL : Nat := 7
def blkTOLL : Nat := 8
def blkDOCKET : Nat := 9
def blkCARRIER : Nat := 10
def blkFABRIC : Nat := 11
def blkMAGPORT : Nat := 12
def blkHANDS : Nat := 13
def blkPRESS : Nat := 14
def blkMILL : Nat := 15
def blkASSAY : Nat := 16
def blkTALLY : Nat := 17
def blkSIEVE : Nat := 18
def blkTILL : Nat := 19
def blkLARDER : Nat := 20
def blkHBM : Nat := 21
def blkSTEWARD : Nat := 22
def blkSLED : Nat := 23
def blkHOLD : Nat := 24

/-! ### The mode (R32) -/

/-- Enter a mode from one of a given code: a Reeve number, IDENT_MODE, IDENT_MODE_SEQ and a MODE_CHANGE record (R32, R468). -/
def State.modeFrom (s : State) (old : Nat) (m : Mode) (cause : Nat) : State :=
  let s1 := ({ s with mode := m }.setN R.IDENT_MODE_SEQ s.now)
  let s2 := (((s1.setF F.IDENT_MODE_SINCE s.opsec).setF F.IDENT_MODE_CAUSE cause).setF F.IDENT_MODE_PREV old).setF
    F.IDENT_MODE_MODE m.code
  s2.regEvent 0 0x103 (cause * 2 ^ 16 + old * 2 ^ 12 + m.code) []

/-- Change mode (R32). -/
def State.setMode (s : State) (m : Mode) (cause : Nat) : State := s.modeFrom s.mode.code m cause

/-- Whether step BL-n runs by its own alternate at this start (R443, R444). -/
def State.altStep (s : State) (n : Nat) : Bool := s.strong.altOwn.testBit (n - 1)

/-- A trigger of R163: a new capacity block follows. -/
def State.capTrigger (s : State) : State := { s with toll := { s.toll with due := true } }

/-- A trigger of R163 where a condition says so. -/
def State.capTriggerIf (s : State) (b : Bool) : State := if b then s.capTrigger else s

/-- This head's slot: 0 for A, 1 for B (R42). -/
def State.slotNo (s : State) : Nat := s.getF F.IDENT_SLOT_SLOT

/-- Whether the head serves host reads in its mode (R31). -/
def Mode.serves : Mode → Bool
  | .paired | .solo | .sealedMode => true
  | _ => false

end Sys2Proof.Machine
end

