-- ==== Sys2Proof/Machine/Cf.lean ====
section
/-! DEFINITION. What the head sends over the Counterfoil (R256 to R260) and the flush budget (R261, R494):
shared by the Docket, the Toll, the Till and the Steward. -/
namespace Sys2Proof.Machine

/-! ### The link -/

/-- Whether this head mirrors to its partner (R260). -/
def State.mirrors (s : State) : Bool :=
  s.mode = .paired || ((s.mode = .solo || s.mode = .sealedMode) && s.cf.standby)

/-- The bytes of a stub (R256). -/
def stubBytes (type flags seq ack epoch : Nat) (payload : List Byte) : List Byte :=
  let h := leBytes 2 0x5C0F ++ leBytes 1 type ++ leBytes 1 flags ++ leBytes 4 payload.length ++ leBytes 8 seq ++
    leBytes 8 ack ++ leBytes 4 epoch
  let b := h ++ leBytes 4 (crc32c h) ++ payload ++ leBytes 4 (crc32c payload)
  b ++ List.replicate ((8 - b.length % 8) % 8) 0

/-- Whether the Counterfoil carries stubs: UP or DEGRADED (R272). -/
def State.cfUp (s : State) : Bool := s.getF F.TILL_CF_STATE_STATE = 2 || s.getF F.TILL_CF_STATE_STATE = 3

/-- A stub as kept, stamped again: FLAGS, the SEQ of this training, the present ACK and LINK_EPOCH. -/
def State.restamp (s : State) (x : Stub) (flags : Nat) : List Byte :=
  stubBytes (fieldAt x.bytes 2 1) flags (x.seq - s.cf.txBase) s.cf.rxSeq (s.getF F.TILL_CF_STATE_LINK_EPOCH)
    ((x.bytes.drop 32).take (fieldAt x.bytes 4 4))

/-- Bytes of the resend store (R258). -/
def stubRoom : Nat := 16777216

/-- Send what has not gone out yet, in order, while the resend store has room for it (R258). -/
def State.cfPump : List Stub → Nat → State → State
  | [], _, s => s
  | x :: r, room, s =>
    if room < x.bytes.length then s
    else if x.seq ≤ s.cf.sent then State.cfPump r (room - x.bytes.length) s
    else
      State.cfPump r (room - x.bytes.length)
        ((({ s with cf := { s.cf with sent := x.seq } }.addN R.TILL_CF_TX_STUBS 1).addN R.TILL_CF_TX_BYTES (fieldAt x.bytes 4 4)).send
          (.stub (fieldAt x.bytes 2 1) [x.seq - s.cf.txBase] (s.restamp x 0)))

/-- Send a stub: the next SEQ, kept until it is acknowledged (R256, R258). While the link is down, or the resend store has no room
for it, it waits. -/
def State.sendStub (s : State) (type : Nat) (payload : List Byte) : State :=
  let n := s.cf.txSeq + 1
  let b := stubBytes type 0 (n - s.cf.txBase) s.cf.rxSeq (s.getF F.TILL_CF_STATE_LINK_EPOCH) payload
  let s1 := { s with cf := { s.cf with txSeq := n, store := s.cf.store ++ [(⟨n, b⟩ : Stub)] } }
  if s.cfUp then State.cfPump s1.cf.store stubRoom s1 else s1

/-- Send a stub where this head mirrors (R259), or while the standby takes its transfer (R51, R260). -/
def State.mirror (s : State) (type : Nat) (payload : List Byte) : State :=
  if s.mirrors || s.pair.transfer ≠ 0 then s.sendStub type payload else s

/-- The body of an ACT stub: kind, direction (0 request, 1 reply), status, three numbers and a blob. The spec
leaves the bodies to their owners (assumption log 18). Kinds: 1 recipe load, 2 bind, 3 vault, 4 snapshot
barrier, 5 SOLO test, 6 planned move. -/
def actBytes (kind dir : Nat) (st : Status) (a b c : Nat) (blob : List Byte) : List Byte :=
  leBytes 1 kind ++ leBytes 1 dir ++ leBytes 2 st ++ leBytes 4 0 ++ leBytes 8 a ++ leBytes 8 b ++ leBytes 8 c ++ blob

/-- Ask the partner for an act of the array, or answer one (R79). -/
def State.sendAct (s : State) (kind dir : Nat) (st : Status) (a b c : Nat) (blob : List Byte) : State :=
  s.sendStub 0x08 (actBytes kind dir st a b c blob)

/-- Ask for an act and keep it until it is answered (R79). -/
def State.askAct (s : State) (kind a b c : Nat) (blob : List Byte) : State :=
  { s with hands := { s.hands with acts := s.hands.acts ++ [(⟨true, kind, a, b, c, blob⟩ : Act)] } }.sendAct kind 0 0 a b c blob

/-! ### Grades (R491) -/

/-- The grade: 0 FULL, 1 REDUCED, 2 MINIMAL. -/
def State.grade (s : State) : Nat := s.getF F.WARDEN_GRADE_GRADE

/-- Bank charge current in mA. -/
def State.chargeMa (s : State) : Nat := if s.grade = 2 then 100 else 200

/-- Whether a grade keeps a port (codes of R147) open. -/
def portOpen (grade port : Nat) : Bool :=
  match grade with
  | 0 => decide (port < 4) || (decide (0x10 ≤ port) && decide (port < 0x14))
  | 1 => decide (port < 2) || (decide (0x10 ≤ port) && decide (port < 0x12))
  | _ => port = 0

/-- Whether a fabric link exists in a mode word: a port that is off has none, two only in split mode (R377). -/
def linkOn (mode link : Nat) : Bool :=
  let m := mode / 4 ^ (link / 2) % 4
  m = 3 || (m ≠ 0 && link % 2 = 0)

/-! ### The flush budget (R261, R262, R494, R496) -/

/-- Sleds serving: ports READY or DEGRADED (R295, R296). -/
def State.sledsServing (s : State) : Nat :=
  ((upto 24).filter (fun k => s.getF (F.SLED_STATE_STATE.at k) = 3 || s.getF (F.SLED_STATE_STATE.at k) = 4)).length

/-- The capacitance R261 takes, in 0.1 mF: lowered while the ESR stands above its limit (R496). -/
def State.bankC (s : State) : Nat :=
  let c := s.getF F.WARDEN_BANK_MEAS_C
  let esr := s.getF F.WARDEN_BANK_MEAS_ESR
  let m := s.getF F.WARDEN_BANK_CFG_ESR_MAX
  if m < esr then c * m / esr else c

/-- Whether the bank holds energy the budget may count: not ABSENT, REFUSED, LOST (R494, R497). -/
def State.bankUsable (s : State) : Bool :=
  !([0, 4, 5].contains (s.getF F.WARDEN_BANK_STATE))

/-- A budget unit. -/
def budgetUnit : Nat := 268435456

/-- BUDGET of R261 from C in 0.1 mF, V in mV, sleds serving and DERATE in per mille: in integers,
raw_B = (88 · C · (V² − 4500²) − 7.84 · 10^12) · sleds · DERATE ÷ 55,200,000. -/
def budgetOf (c v sleds derate : Nat) : Nat :=
  let raw : Int := (88 * (c : Int) * ((v : Int) * v - 20250000) - 7840000000000) * sleds * derate / 55200000
  if raw < 0 then 0 else min (raw.toNat / budgetUnit * budgetUnit) 10737418240

/-- The window of R261 in ms, zero where negative. -/
def windowMs (c v : Nat) : Nat :=
  let w : Int := (88 * (c : Int) * ((v : Int) * v - 20250000) - 7840000000000) / 92000000000
  w.toNat

/-- The flush budget now; with one HBM stack it never exceeds 6 GiB (R445). -/
def State.budgetNow (s : State) : Nat :=
  if s.bankUsable then
    min (if s.getF F.HBM_STATE_STACKS = 1 then 6442450944 else 10737418240)
      (budgetOf s.bankC (s.getF F.WARDEN_BANK_MEAS_V) s.sledsServing (s.getF F.TILL_BUDGET_CFG_DERATE))
  else 0

/-- Lowest voltage from lo to hi, in mV, whose budget reaches want, by bisection. -/
def State.voltFor (s : State) (want : Nat) : Nat → Nat → Nat → Nat
  | 0, lo, _ => lo
  | n + 1, lo, hi =>
    if hi ≤ lo then lo
    else
      let m := (lo + hi) / 2
      if want ≤ budgetOf s.bankC m s.sledsServing (s.getF F.TILL_BUDGET_CFG_DERATE) then s.voltFor want n lo m
      else s.voltFor want n (m + 1) hi

/-- The Warden's retry-after for reason BUDGET, in ms (R494). -/
def State.retryBudget (s : State) (want : Nat) : Nat :=
  let vt := s.getF F.WARDEN_BANK_MEAS_VTARGET
  let need := s.voltFor want 17 0 (vt + 1)
  if vt < need then 0xFFFFFF
  else min 0xFFFFFF (s.bankC * (need - s.getF F.WARDEN_BANK_MEAS_V) / (10 * s.chargeMa))

end Sys2Proof.Machine
end

