-- ==== Sys2Proof/Machine/Crypto.lean ====
section
/-! DEFINITION. The outside standards the spec names and does not restate (assumption log 16): the digests of
FIPS 180-4 (R209), AES-256 with XTS, GCM and key wrap (R193 to R195). -/
namespace Sys2Proof.Machine

/-! ### Digests (R209) -/

/-- Round constants, first half. -/
def shaKa : List (BitVec 64) :=
  [0x428A2F98D728AE22, 0x7137449123EF65CD, 0xB5C0FBCFEC4D3B2F, 0xE9B5DBA58189DBBC,
   0x3956C25BF348B538, 0x59F111F1B605D019, 0x923F82A4AF194F9B, 0xAB1C5ED5DA6D8118,
   0xD807AA98A3030242, 0x12835B0145706FBE, 0x243185BE4EE4B28C, 0x550C7DC3D5FFB4E2,
   0x72BE5D74F27B896F, 0x80DEB1FE3B1696B1, 0x9BDC06A725C71235, 0xC19BF174CF692694,
   0xE49B69C19EF14AD2, 0xEFBE4786384F25E3, 0x0FC19DC68B8CD5B5, 0x240CA1CC77AC9C65,
   0x2DE92C6F592B0275, 0x4A7484AA6EA6E483, 0x5CB0A9DCBD41FBD4, 0x76F988DA831153B5,
   0x983E5152EE66DFAB, 0xA831C66D2DB43210, 0xB00327C898FB213F, 0xBF597FC7BEEF0EE4,
   0xC6E00BF33DA88FC2, 0xD5A79147930AA725, 0x06CA6351E003826F, 0x142929670A0E6E70,
   0x27B70A8546D22FFC, 0x2E1B21385C26C926, 0x4D2C6DFC5AC42AED, 0x53380D139D95B3DF,
   0x650A73548BAF63DE, 0x766A0ABB3C77B2A8, 0x81C2C92E47EDAEE6, 0x92722C851482353B]

/-- Round constants, second half. -/
def shaKb : List (BitVec 64) :=
  [0xA2BFE8A14CF10364, 0xA81A664BBC423001, 0xC24B8B70D0F89791, 0xC76C51A30654BE30,
   0xD192E819D6EF5218, 0xD69906245565A910, 0xF40E35855771202A, 0x106AA07032BBD1B8,
   0x19A4C116B8D2D0C8, 0x1E376C085141AB53, 0x2748774CDF8EEB99, 0x34B0BCB5E19B48A8,
   0x391C0CB3C5C95A63, 0x4ED8AA4AE3418ACB, 0x5B9CCA4F7763E373, 0x682E6FF3D6B2B8A3,
   0x748F82EE5DEFB2FC, 0x78A5636F43172F60, 0x84C87814A1F0AB72, 0x8CC702081A6439EC,
   0x90BEFFFA23631E28, 0xA4506CEBDE82BDE9, 0xBEF9A3F7B2C67915, 0xC67178F2E372532B,
   0xCA273ECEEA26619C, 0xD186B8C721C0C207, 0xEADA7DD6CDE0EB1E, 0xF57D4F7FEE6ED178,
   0x06F067AA72176FBA, 0x0A637DC5A2C898A6, 0x113F9804BEF90DAE, 0x1B710B35131C471B,
   0x28DB77F523047D84, 0x32CAAB7B40C72493, 0x3C9EBE0A15C9BEBC, 0x431D67C49C100D4C,
   0x4CC5D4BECB3E42B6, 0x597F299CFC657E2A, 0x5FCB6FAB3AD6FAEC, 0x6C44198C4A475817]

/-- Initial value of SHA-512. -/
def sha512Init : List (BitVec 64) :=
  [0x6A09E667F3BCC908, 0xBB67AE8584CAA73B, 0x3C6EF372FE94F82B, 0xA54FF53A5F1D36F1,
   0x510E527FADE682D1, 0x9B05688C2B3E6C1F, 0x1F83D9ABFB41BD6B, 0x5BE0CD19137E2179]

/-- Initial value of SHA-384. -/
def sha384Init : List (BitVec 64) :=
  [0xCBBB9D5DC1059ED8, 0x629A292A367CD507, 0x9159015A3070DD17, 0x152FECD8F70E5939,
   0x67332667FFC00B31, 0x8EB44A8768581511, 0xDB0C2E0D64F98FA7, 0x47B5481DBEFA4FA4]

/-- Initial value of SHA-512/256. -/
def sha512_256Init : List (BitVec 64) :=
  [0x22312194FC2BF72C, 0x9F555FA3C84C64C2, 0x2393B86B6F53B151, 0x963877195940EABD,
   0x96283EE2A88EFFE3, 0xBE5E1E2553863992, 0x2B0199FC2C85B8AA, 0x0EB72DDC81C52CA2]

/-- The message schedule, newest word first: n further words. -/
def shaSched : Nat → List (BitVec 64) → List (BitVec 64)
  | 0, w => w
  | n + 1, w =>
    let a := w.getD 1 0
    let b := w.getD 14 0
    let s1 := a.rotateRight 19 ^^^ a.rotateRight 61 ^^^ (a >>> 6)
    let s0 := b.rotateRight 1 ^^^ b.rotateRight 8 ^^^ (b >>> 7)
    shaSched n ((w.getD 15 0 + s0 + w.getD 6 0 + s1) :: w)

/-- One round on the eight working words, given constant plus schedule word. -/
def shaRound (v : List (BitVec 64)) (kw : BitVec 64) : List (BitVec 64) :=
  match v with
  | [a, b, c, d, e, f, g, h] =>
    let t1 := h + (e.rotateRight 14 ^^^ e.rotateRight 18 ^^^ e.rotateRight 41) +
      ((e &&& f) ^^^ (~~~e &&& g)) + kw
    let t2 := (a.rotateRight 28 ^^^ a.rotateRight 34 ^^^ a.rotateRight 39) +
      ((a &&& b) ^^^ (a &&& c) ^^^ (b &&& c))
    [t1 + t2, a, b, c, d + t1, e, f, g]
  | _ => v

/-- One 128-byte block. -/
def shaBlock (h : List (BitVec 64)) (blk : List Byte) : List (BitVec 64) :=
  let w := (pieces 8 16 blk).map (fun b => BitVec.ofNat 64 (beNat b))
  let ks := List.zipWith (fun a b => a + b) (shaKa ++ shaKb) (shaSched 64 w.reverse).reverse
  List.zipWith (fun a b => a + b) h (ks.foldl shaRound h)

/-- The padded message. -/
def shaPad (m : List Byte) : List Byte :=
  m ++ [0x80] ++ List.replicate ((240 - (m.length + 1) % 128) % 128) 0 ++ beBytes 16 (8 * m.length)

/-- Length in bytes of a digest of ALG (R111): 0 SHA-512, 1 SHA-512/256, 2 SHA-384. -/
def digestLen (alg : Nat) : Nat := if alg = 0 then 64 else if alg = 1 then 32 else 48

/-- The digest of a message under ALG. -/
def digest (alg : Nat) (m : List Byte) : List Byte :=
  let p := shaPad m
  let init := if alg = 0 then sha512Init else if alg = 1 then sha512_256Init else sha384Init
  let h := (pieces 128 (p.length / 128) p).foldl shaBlock init
  (h.flatMap (fun x => beBytes 8 x.toNat)).take (digestLen alg)

/-! ### AES-256 -/

/-- Doubling in the field of AES. -/
def gf8x2 (a : Byte) : Byte := (a <<< 1) ^^^ (if a.getLsbD 7 then 0x1B else 0)

/-- Product in the field of AES. -/
def gf8mul (a b : Byte) : Byte :=
  ((upto 8).foldl (fun (p : Byte × Byte) i =>
    (if b.getLsbD i then p.1 ^^^ p.2 else p.1, gf8x2 p.2)) (0, a)).1

/-- Inverse in the field of AES: the 254th power. -/
def gf8inv (a : Byte) : Byte :=
  let a2 := gf8mul a a
  let a4 := gf8mul a2 a2
  let a8 := gf8mul a4 a4
  let a16 := gf8mul a8 a8
  let a32 := gf8mul a16 a16
  let a64 := gf8mul a32 a32
  let a128 := gf8mul a64 a64
  gf8mul (gf8mul (gf8mul a2 a4) (gf8mul a8 a16)) (gf8mul (gf8mul a32 a64) a128)

/-- The substitution of AES. -/
def aesSub (a : Byte) : Byte :=
  let b := gf8inv a
  b ^^^ b.rotateLeft 1 ^^^ b.rotateLeft 2 ^^^ b.rotateLeft 3 ^^^ b.rotateLeft 4 ^^^ 0x63

/-- The inverse substitution. -/
def aesSubInv (a : Byte) : Byte :=
  gf8inv (a.rotateLeft 1 ^^^ a.rotateLeft 3 ^^^ a.rotateLeft 6 ^^^ 0x05)

/-- Bytes of two lists combined by exclusive or. -/
def xorBytes (a b : List Byte) : List Byte := List.zipWith (fun x y => x ^^^ y) a b

/-- Key expansion of AES-256: n further words, newest first; i counts words, rc is the round constant. -/
def aesExpand : Nat → Nat → Byte → List (List Byte) → List (List Byte)
  | 0, _, _, w => w
  | n + 1, i, rc, w =>
    let t := w.headD []
    let prev := w.getD 7 []
    if i % 8 = 0 then
      let r := xorBytes ((t.drop 1 ++ t.take 1).map aesSub) [rc, 0, 0, 0]
      aesExpand n (i + 1) (gf8x2 rc) (xorBytes prev r :: w)
    else if i % 8 = 4 then aesExpand n (i + 1) rc (xorBytes prev (t.map aesSub) :: w)
    else aesExpand n (i + 1) rc (xorBytes prev t :: w)

/-- The fifteen round keys of a 32-byte key. -/
def aesKeys (key : List Byte) : List (List Byte) :=
  pieces 16 15 (aesExpand 52 8 1 (pieces 4 8 key).reverse).reverse.flatten

/-- Rotate the rows of the state, which is held column by column; inverse where inv holds. -/
def aesShift (inv : Bool) (l : List Byte) : List Byte :=
  (upto 16).map (fun i =>
    let r := i % 4
    let c := i / 4
    l.getD (4 * ((if inv then c + 4 - r else c + r) % 4) + r) 0)

/-- Mix the columns with the given first-row coefficients. -/
def aesMix (k : List Byte) (l : List Byte) : List Byte :=
  (upto 16).map (fun i =>
    (upto 4).foldl (fun a j => a ^^^ gf8mul (k.getD ((j + 4 - i % 4) % 4) 0) (l.getD (4 * (i / 4) + j) 0)) 0)

/-- AES-256 of one block. -/
def aesBlock (key blk : List Byte) : List Byte :=
  let ks := aesKeys key
  let mid := ((ks.drop 1).take 13).foldl
    (fun b k => xorBytes (aesMix [2, 3, 1, 1] (aesShift false (b.map aesSub))) k) (xorBytes blk (ks.getD 0 []))
  xorBytes (aesShift false (mid.map aesSub)) (ks.getD 14 [])

/-- The inverse of AES-256 on one block. -/
def aesBlockInv (key blk : List Byte) : List Byte :=
  let ks := aesKeys key
  let mid := (((ks.drop 1).take 13).reverse).foldl
    (fun b k => aesMix [14, 11, 13, 9] (xorBytes ((aesShift true b).map aesSubInv) k)) (xorBytes blk (ks.getD 14 []))
  xorBytes ((aesShift true mid).map aesSubInv) (ks.getD 0 [])

/-! ### XTS (R193) -/

/-- Double an XTS tweak, a little-endian number. -/
def xtsDouble (t : List Byte) : List Byte :=
  let v := leNat t
  leBytes 16 (if 2 ^ 127 ≤ v then ((2 * v) ^^^ 0x87) % 2 ^ 128 else 2 * v)

/-- The blocks of one unit. -/
def xtsBlocks (dec : Bool) (k1 : List Byte) : List (List Byte) → List Byte → List Byte
  | [], _ => []
  | b :: r, t =>
    let x := xorBytes b t
    xorBytes (if dec then aesBlockInv k1 x else aesBlock k1 x) t ++ xtsBlocks dec k1 r (xtsDouble t)

/-- Units of 4,096 bytes with tweaks from tw on, under a 64-byte key pair. -/
def xtsUnits (dec : Bool) (key : List Byte) : List (List Byte) → Nat → List Byte
  | [], _ => []
  | u :: r, tw =>
    xtsBlocks dec (key.take 32) (pieces 16 256 u) (aesBlock (key.drop 32) (leBytes 16 (tw % 2 ^ 64))) ++
      xtsUnits dec key r (tw + 1)

/-- XTS over a whole message. -/
def xts (dec : Bool) (key : List Byte) (tw : Nat) (l : List Byte) : List Byte :=
  xtsUnits dec key (pieces 4096 (l.length / 4096) l) tw

/-! ### GCM (R194) -/

/-- Product in GF(2^128) in GCM's bit order, on numbers whose bit 127 is the first bit. -/
def ghashMul (x y : Nat) : Nat :=
  ((upto 128).foldl (fun (p : Nat × Nat) i =>
    (if x.testBit (127 - i) then p.1 ^^^ p.2 else p.1,
     if p.2 % 2 = 1 then (p.2 / 2) ^^^ (0xE1 * 2 ^ 120) else p.2 / 2)) (0, y)).1

/-- Zero bytes up to a multiple of 16. -/
def pad16 (l : List Byte) : List Byte := l ++ List.replicate ((16 - l.length % 16) % 16) 0

/-- Take blocks, padded with zeros, into a GHASH accumulator. -/
def ghashFeed (h y : Nat) (l : List Byte) : Nat :=
  (pieces 16 ((pad16 l).length / 16) (pad16 l)).foldl (fun y b => ghashMul (y ^^^ beNat b) h) y

/-- GHASH of additional data and text. -/
def ghash (h : Nat) (aad txt : List Byte) : Nat :=
  let m := pad16 aad ++ pad16 txt ++ beBytes 8 (8 * aad.length) ++ beBytes 8 (8 * txt.length)
  (pieces 16 (m.length / 16) m).foldl (fun y b => ghashMul (y ^^^ beNat b) h) 0

/-- Counter mode from a counter value on. -/
def gctr (key iv : List Byte) : Nat → List (List Byte) → List Byte
  | _, [] => []
  | n, b :: r => xorBytes b (aesBlock key (iv ++ beBytes 4 n)) ++ gctr key iv (n + 1) r

/-- The hash subkey of a key. -/
def ghashKey (key : List Byte) : Nat := beNat (aesBlock key (List.replicate 16 0))

/-- The tag from the accumulator over the additional data and the whole cipher text, and their lengths in bytes. -/
def gcmTagOf (key iv : List Byte) (acc aad txt : Nat) : List Byte :=
  xorBytes (beBytes 16 (ghashFeed (ghashKey key) acc (beBytes 8 (8 * aad) ++ beBytes 8 (8 * txt)))) (aesBlock key (iv ++ beBytes 4 1))

/-- The tag over cipher text. -/
def gcmTag (key iv aad ct : List Byte) : List Byte :=
  xorBytes (beBytes 16 (ghash (beNat (aesBlock key (List.replicate 16 0))) aad ct)) (aesBlock key (iv ++ beBytes 4 1))

/-- The key stream applied to a text. -/
def gcmText (key iv txt : List Byte) : List Byte :=
  gctr key iv 2 (pieces 16 ((txt.length + 15) / 16) txt)

/-! ### Key wrap (R195) -/

/-- The default initial value of KW. -/
def kwIv : List Byte := List.replicate 8 0xA6

/-- One pass over the semiblocks, wrapping; t counts. -/
def kwPass (key : List Byte) : Nat → List Byte → List (List Byte) → List Byte × List (List Byte)
  | _, a, [] => (a, [])
  | t, a, r :: rs =>
    let b := aesBlock key (a ++ r)
    let (a', rs') := kwPass key (t + 1) (xorBytes (b.take 8) (beBytes 8 t)) rs
    (a', b.drop 8 :: rs')

/-- n passes from counter t. -/
def kwPasses (key : List Byte) : Nat → Nat → List Byte × List (List Byte) → List Byte × List (List Byte)
  | 0, _, p => p
  | n + 1, t, p => kwPasses key n (t + p.2.length) (kwPass key t p.1 p.2)

/-- Wrap key material. -/
def kwWrap (key m : List Byte) : List Byte :=
  let p := kwPasses key 6 1 (kwIv, pieces 8 (m.length / 8) m)
  p.1 ++ p.2.flatten

/-- One pass back over the semiblocks, last first. -/
def kwBack (key : List Byte) : Nat → List Byte → List (List Byte) → List Byte × List (List Byte)
  | _, a, [] => (a, [])
  | t, a, r :: rs =>
    let b := aesBlockInv key (xorBytes a (beBytes 8 t) ++ r)
    let (a', rs') := kwBack key (t - 1) (b.take 8) rs
    (a', b.drop 8 :: rs')

/-- n passes back from counter t. -/
def kwBacks (key : List Byte) : Nat → Nat → List Byte × List (List Byte) → List Byte × List (List Byte)
  | 0, _, p => p
  | n + 1, t, p => kwBacks key n (t - p.2.length) (kwBack key t p.1 p.2)

/-- Unwrap: the material, or none where the integrity check fails. -/
def kwUnwrap (key c : List Byte) : Option (List Byte) :=
  let n := c.length / 8 - 1
  let p := kwBacks key 6 (6 * n) (c.take 8, (pieces 8 n (c.drop 8)).reverse)
  if p.1 = kwIv then some p.2.reverse.flatten else none

end Sys2Proof.Machine
end

