-- ==== Sys2Proof/Machine/Flags.lean ====
section
/-! DEFINITION. The conditions of CMP and CMPI, the predicate functions, and the arithmetic of the OP
functions (R95, R97). The head's programs have no flags other than the predicates p0 to p7. -/
namespace Sys2Proof.Machine

/-- The condition of CMP and CMPI (R97). -/
def condHolds (cond : BitVec 3) (a b : Word) : Bool :=
  match cond.toNat with
  | 0 => decide (a = b)
  | 1 => !decide (a = b)
  | 2 => BitVec.ult a b
  | 3 => !BitVec.ult a b
  | 4 => BitVec.slt a b
  | 5 => !BitVec.slt a b
  | 6 => !decide (a &&& b = 0)
  | _ => decide (a &&& b = 0)

/-- Signed quotient rounded toward zero; all ones on division by zero (R69, R95). -/
def divSigned (a b : Word) : Word := if b = 0 then BitVec.allOnes 64 else BitVec.ofInt 64 (a.toInt.tdiv b.toInt)

/-- Signed remainder with the sign of a; the dividend on division by zero (R69, R95). -/
def remSigned (a b : Word) : Word := if b = 0 then a else BitVec.ofInt 64 (a.toInt.tmod b.toInt)

/-- Unsigned quotient; all ones on division by zero (R69). -/
def divUnsigned (a b : Word) : Word := if b = 0 then BitVec.allOnes 64 else BitVec.ofNat 64 (a.toNat / b.toNat)

/-- Unsigned remainder; the dividend on division by zero (R69). -/
def remUnsigned (a b : Word) : Word := if b = 0 then a else BitVec.ofNat 64 (a.toNat % b.toNat)

/-- High 64 bits of the unsigned product (R95). -/
def mulHighU (a b : Word) : Word := BitVec.ofNat 64 (a.toNat * b.toNat / 2 ^ 64)

/-- High 64 bits of the signed product (R95). -/
def mulHighS (a b : Word) : Word := BitVec.ofInt 64 ((a.toInt * b.toInt) / 2 ^ 64)

/-- Leading zeros of the low n bits (R95). -/
def leadingZeros (a : Word) : Nat → Nat
  | 0 => 0
  | n + 1 => if a.getLsbD n then 0 else 1 + leadingZeros a n

/-- Trailing zeros from bit i on, over k bits (R95). -/
def trailingZeros (a : Word) : Nat → Nat → Nat
  | 0, _ => 0
  | k + 1, i => if a.getLsbD i then 0 else 1 + trailingZeros a k (i + 1)

/-- Set bits among the low n bits (R95). -/
def countOnes (a : Word) : Nat → Nat
  | 0 => 0
  | n + 1 => b2n (a.getLsbD n) + countOnes a n

/-- The word with its byte order reversed (R95). -/
def byteSwap (a : Word) : Word := BitVec.ofNat 64 (beNat (leBytes 8 a.toNat))

/-- Predicate p of the predicate byte. -/
def predOf (ps : Nat) (p : PReg) : Bool := ps.testBit p.toNat

/-- The predicate byte with predicate p set to b. -/
def predSet (ps : Nat) (p : PReg) (b : Bool) : Nat := setBit ps p.toNat b

end Sys2Proof.Machine
end

