-- ==== Sys2Proof/Machine/Operands.lean ====
section
/-! DEFINITION. The operand forms of IXA: contexts and their registers (R53), issue (R57, R58), descriptors
and views (R54, R55), the memory checks (R62 to R64, R529), and the checks an accelerator operation meets at
issue (R72, R106). -/
namespace Sys2Proof.Machine

/-! ### Contexts -/

/-- Whether a context's map group is under commit (R103). -/
def Ctx.committing (c : Ctx) : Bool :=
  match c.wait with
  | .commit _ _ => true
  | .ack _ _ _ => true
  | _ => false

/-- A context. -/
def State.ctx (s : State) (e : Eng) : Ctx := s.hands.ctxs.get e.key

/-- Put a context back. -/
def State.putCtx (s : State) (e : Eng) (c : Ctx) : State :=
  { s with hands := { s.hands with ctxs := s.hands.ctxs.set e.key c } }

/-- Read a general register; g0 reads as zero (R53). -/
def Ctx.rg (c : Ctx) (r : Nat) : Word := if r = 0 then 0 else c.g.get r

/-- Write a general register; a write of g0 is discarded (R53). -/
def Ctx.wg (c : Ctx) (r : Nat) (v : Word) : Ctx := if r = 0 then c else { c with g := c.g.set r v }

/-- Read a descriptor. -/
def Ctx.rd (c : Ctx) (n : Nat) : BitVec 128 := c.d.get n

/-- Write a descriptor. -/
def Ctx.wd (c : Ctx) (n : Nat) (v : BitVec 128) : Ctx := { c with d := c.d.set n v }

/-- The ctx register (R53). -/
def ctxWord (e : Eng) : Word := BitVec.ofNat 64 (e.unit % 16 * 64 + e.ctx % 64)

/-! ### Traps and issue -/

/-- The last trap and its count in the Hand's window (R68, R71, R90). -/
def State.noteTrap (s : State) (e : Eng) (c : Ctx) (cause : Nat) : State :=
  if e.kind = .hand then
    let w := 0x10000 * (e.unit % 16)
    (((s.addN (R.HANDS_TRAP_COUNT + w) 1).setN (R.HANDS_LAST_TRAP + w)
        (c.tag % 2 ^ 16 * 2 ^ 48 + cause * 2 ^ 40 + e.ctx % 64 * 2 ^ 34 + c.entry % 16 * 2 ^ 30 + c.pc % 2 ^ 17)).setN
      (R.HANDS_LAST_TRAP_SEQ + w) s.now).tick.countEv 0x03 1 (e.unit % 16)
  else s.tick

/-- Take a trap that can be handled: the context enters TRAPPING; the instruction has no effect (R67, R69).
imm is what TRAP carries, zero otherwise (R104). -/
def State.trapTake (s : State) (e : Eng) (cause imm : Nat) : State :=
  let c := s.ctx e
  (s.noteTrap e c cause).putCtx e { c with state := .trapping, cause := cause, imm := imm, wait := .nothing, issued := true }

/-- A context yields: an event for the counters where it is a Hand's (R479). -/
def State.yields (s : State) (e : Eng) : State := if e.kind = .hand then s.countEv 0x02 1 (e.unit % 16) else s

/-- Issue an instruction of len bytes that reads the listed registers: only a READY context issues; one that does not lie whole
within its recipe's code takes ILLEGAL_OP (R93, R98); reading a pending register makes the context yield (R58). Each instruction
takes a cycle of its own: which pairs issue together affects only timing (R57, assumption log 42). -/
def State.issueLen (s : State) (e : Eng) (len : Nat) (reads : List Nat) (k : Ctx → State → State) : State :=
  let c := s.ctx e
  if c.state ≠ .ready then s
  else if c.codeLen < c.pc + len then s.trapTake e 0x01 0
  else match reads.find? (fun r => r ≠ 0 && c.pend.contains r) with
    | some r => (s.putCtx e { c with state := .waiting, wait := .reg r }).yields e
    | none =>
      k { c with issued := true }
        (if e.kind = .hand then
          ((s.addN (R.HANDS_ISSUED + 0x10000 * (e.unit % 16)) 1).addN (R.HANDS_BUSY_CYCLES + 0x10000 * (e.unit % 16)) 1).countEv 0x01 1
            (e.unit % 16)
        else s)

/-- Issue an instruction of one word. -/
def State.issue (s : State) (e : Eng) (reads : List Nat) (k : Ctx → State → State) : State := s.issueLen e 4 reads k

/-- Finish a one-word instruction: the context goes on at pc + 4. -/
def State.done (s : State) (e : Eng) (c : Ctx) : State := s.putCtx e { c with pc := c.pc + 4 }

/-- An instruction that computes one register from others and goes on (R95). -/
def State.compute (s : State) (e : Eng) (reads : List Nat) (rd len : Nat) (f : Ctx → Word) : State :=
  s.issueLen e len reads (fun c s => s.putCtx e { (c.wg rd (f c)) with pc := c.pc + len })

/-- An instruction that computes one predicate and goes on (R97). -/
def State.computeP (s : State) (e : Eng) (reads : List Nat) (pd : PReg) (f : Ctx → Bool) : State :=
  s.issue e reads (fun c s => s.done e { c with p := predSet c.p pd (f c) })

/-! ### Descriptors (R54) -/

def descValid (d : BitVec 128) : Bool := d.getLsbD 127
def descRead (d : BitVec 128) : Bool := d.getLsbD 126
def descWrite (d : BitVec 128) : Bool := d.getLsbD 125
def descSupplied (d : BitVec 128) : Bool := d.getLsbD 124
def descSpace (d : BitVec 128) : Nat := (d >>> 120).toNat % 16
def descLen (d : BitVec 128) : Nat := (d >>> 64).toNat % 2 ^ 32
def descAddr (d : BitVec 128) : Nat := d.toNat % 2 ^ 64

/-- Build a descriptor from its fields. -/
def mkDesc (valid r w supplied : Bool) (space len addr : Nat) : BitVec 128 :=
  BitVec.ofNat 128 (b2n valid * 2 ^ 127 + b2n r * 2 ^ 126 + b2n w * 2 ^ 125 + b2n supplied * 2 ^ 124 +
    space % 16 * 2 ^ 120 + len % 2 ^ 32 * 2 ^ 64 + addr % 2 ^ 64)

/-- The same descriptor with another address and length (R101). -/
def descMove (d : BitVec 128) (len addr : Nat) : BitVec 128 :=
  mkDesc (descValid d) (descRead d) (descWrite d) (descSupplied d) (descSpace d) len addr

/-- Spaces of R54. -/
def spPOCKET : Nat := 0
def spGLOBAL : Nat := 1
def spSTAGE : Nat := 2
def spTILL : Nat := 3

/-- Key of a byte of a landing region: a TILL view's address is an offset among the regions, which no global
address names (R54, R63, assumption log 5). -/
def tillKey (a : Nat) : Nat := 2 ^ 65 + a

/-- Memory key of an address in a space, for a unit. -/
def spaceKey (unit space a : Nat) : Nat :=
  if space = spPOCKET then pocketKey unit a
  else if space = spSTAGE then stageKey a
  else if space = spTILL then tillKey a
  else a

/-! ### Regions of global memory -/

/-- First byte past the global range (R63). -/
def State.globalTop (s : State) : Nat := if s.getF F.HBM_STATE_STACKS = 1 then 2 ^ 35 else 2 ^ 36

/-- Whether a span touches a region. -/
def overlaps (a n b m : Nat) : Bool := decide (a < b + m) && decide (b < a + n) && decide (0 < n) && decide (0 < m)

/-- Whether a span touches a region the Strongroom has marked as its own (R63). -/
def State.inStrong (s : State) (a n : Nat) : Bool := s.plan.strong.any (fun r => overlaps a n r.1 r.2)

/-- Whether a span touches the Till area (R63). -/
def State.inTill (s : State) (a n : Nat) : Bool := overlaps a n s.plan.tillBase s.plan.tillLen

/-- Whether a span touches the Docket records, which are read-only to Hands (R127): a store there takes GLOBAL_PERM
(DEDUCED, assumption log 5). -/
def State.inRecords (s : State) (a n : Nat) : Bool := overlaps a n s.plan.recordBase (65536 * 64)

/-- The scratch area of a Hand context (R96). -/
def State.scratchBase (s : State) (key : Nat) : Nat := s.plan.scratchBase + key * 0x20000

/-- The Hand context whose scratch area holds a global address, if any (R96). -/
def State.scratchOwner (s : State) (a : Nat) : Option Nat :=
  if s.plan.scratchBase ≤ a ∧ a < s.plan.scratchBase + 1024 * 0x20000 then
    some ((a - s.plan.scratchBase) / 0x20000)
  else none

/-- Read a global byte. A scratch byte nothing has written since the dispatch is a free value (R96). -/
def State.rdG (s : State) (a : Nat) : Byte :=
  match s.scratchOwner a with
  | none => s.rdB a
  | some k =>
    match (s.hands.ctxs.get k).scratch.get a with
    | some b => b
    | none => Config.scratchByte ((s.hands.ctxs.get k).serial * 1024 + k) a

/-- Write a global byte. -/
def State.wrG (s : State) (a : Nat) (b : Byte) : State :=
  match s.scratchOwner a with
  | none => s.wrB a b
  | some k =>
    { s with hands := { s.hands with ctxs := s.hands.ctxs.upd k (fun c => { c with scratch := c.scratch.set a (some b) }) } }

/-- Read a byte of a space. -/
def State.rdSp (s : State) (unit space a : Nat) : Byte :=
  if space = spGLOBAL then s.rdG a else s.rdB (spaceKey unit space a)

/-- Write a byte of a space. -/
def State.wrSp (s : State) (unit space a : Nat) (b : Byte) : State :=
  if space = spGLOBAL then s.wrG a b else s.wrB (spaceKey unit space a) b

/-- Read n bytes of a space. -/
def State.rdSpN (s : State) (unit space a : Nat) : Nat → List Byte
  | 0 => []
  | n + 1 => s.rdSp unit space a :: State.rdSpN s unit space (a + 1) n

/-- Write bytes of a space. -/
def State.wrSpN : State → Nat → Nat → Nat → List Byte → State
  | s, _, _, _, [] => s
  | s, unit, space, a, b :: r => State.wrSpN (s.wrSp unit space a b) unit space (a + 1) r

/-- All bytes a view covers. -/
def State.viewBytes (s : State) (unit : Nat) (d : BitVec 128) : List Byte :=
  s.rdSpN unit (descSpace d) (descAddr d) (descLen d)

/-- Write bytes at the start of a view. -/
def State.wrView (s : State) (unit : Nat) (d : BitVec 128) (l : List Byte) : State :=
  s.wrSpN unit (descSpace d) (descAddr d) l

/-- Whether two views cover a common byte. -/
def viewsOverlap (a b : BitVec 128) : Bool :=
  descSpace a = descSpace b && overlaps (descAddr a) (descLen a) (descAddr b) (descLen b)

/-! ### Loads and stores -/

/-- Bytes of a size field (R99). -/
def szBytes (sz : BitVec 2) : Nat := 2 ^ sz.toNat

/-- The value a load of n bytes gives, sign-extended or not (R99). -/
def loadVal (l : List Byte) (sx : Bool) : Word :=
  let v := leNat l
  let w := 8 * l.length
  if sx && v.testBit (w - 1) then BitVec.ofNat 64 (v + (2 ^ 64 - 2 ^ w)) else BitVec.ofNat 64 v

/-- Whether a load's or store's encoding is reserved (R99): a store with sx, a load of 8 bytes with sx. -/
def loadIllegal (sz : BitVec 2) (sx : Bool) : Bool := sx && decide (sz.toNat = 3)

/-- ra plus a signed offset (R99). -/
def addrOff (ra : Word) (off : BitVec 13) : Nat := (ra + off.signExtend 64).toNat

/-- The memory checks of LDP and STP, first failing trap or none (R62, R64, R529). -/
def pocketTrap (e : Eng) (a n : Nat) (store : Bool) : Option Nat :=
  if a % n ≠ 0 then some 0x03
  else if e.ctx % 64 * 0x800 ≤ a ∧ a + n ≤ e.ctx % 64 * 0x800 + 0x800 then none
  else if store = false ∧ 0x20000 ≤ a ∧ a + n ≤ 0x3C000 then none
  else some 0x04

/-- The memory checks of LDG, STG and ATOM (R63, R64, R529). -/
def State.globalTrap (s : State) (e : Eng) (a n : Nat) (store : Bool) : Option Nat :=
  if a % n ≠ 0 then some 0x03
  else if s.globalTop < a + n then some 0x08
  else if e.kind = .hand ∧ (s.inStrong a n = true ∨ (store = true ∧ (s.inTill a n || s.inRecords a n) = true)) then some 0x09
  else none

/-- Whether an outstanding operation of the context names a span for reading or writing (R66). -/
def Ctx.busySpan (c : Ctx) (space a n : Nat) : Bool :=
  c.ops.any (fun o =>
    (descValid o.da && descSpace o.da = space && overlaps a n (descAddr o.da) (descLen o.da)) ||
    (descValid o.db && descSpace o.db = space && overlaps a n (descAddr o.db) (descLen o.db)) ||
    (descValid o.dc && descSpace o.dc = space && overlaps a n (descAddr o.dc) (descLen o.dc)))

/-- The memory rules that bind an engine's POCKET or GLOBAL view beyond DESC_BOUND (R62, R63). -/
def State.spaceTrap (s : State) (e : Eng) (space a n : Nat) (store : Bool) : Option Nat :=
  if space = spPOCKET then
    if e.kind ≠ .hand then none
    else if e.ctx % 64 * 0x800 ≤ a ∧ a + n ≤ e.ctx % 64 * 0x800 + 0x800 then none
    else if store = false ∧ 0x20000 ≤ a ∧ a + n ≤ 0x3C000 then none
    else some 0x04
  else if space = spGLOBAL then
    if s.globalTop < a + n then some 0x08
    else if e.kind = .hand ∧ (s.inStrong a n = true ∨ (store = true ∧ (s.inTill a n || s.inRecords a n) = true)) then some 0x09
    else none
  else none

/-- The checks of LDD and STD in the order of R529; then the rules of the space itself. -/
def State.descTrap (s : State) (e : Eng) (c : Ctx) (d : BitVec 128) (off n : Nat) (store : Bool) : Option Nat :=
  if descValid d = false ∨ 3 < descSpace d then some 0x07
  else if (store = true ∧ descWrite d = false) ∨ (store = false ∧ descRead d = false) then some 0x06
  else if (descAddr d + off) % n ≠ 0 then some 0x03
  else if descLen d < off + n then some 0x05
  else if store = true ∧ c.busySpan (descSpace d) (descAddr d + off) n = true then some 0x0B
  else s.spaceTrap e (descSpace d) (descAddr d + off) n store

/-! ### Accelerator issue (R106) -/

/-- One descriptor an operation uses: the view, whether it is read, whether it is written. -/
structure Use where
  d : BitVec 128
  r : Bool
  w : Bool
  deriving DecidableEq, Repr

/-- Check 2 of R106. -/
def useInvalid (u : Use) : Bool := !descValid u.d || decide (3 < descSpace u.d)

/-- Check 3 of R106, first part. -/
def usePerm (u : Use) : Bool := (u.r && !descRead u.d) || (u.w && !descWrite u.d)

/-- Check 3 of R106, second part: the trap a load or store of the view would take. -/
def State.useTrap (s : State) (e : Eng) (u : Use) : Option Nat :=
  if descLen u.d = 0 then none else s.spaceTrap e (descSpace u.d) (descAddr u.d) (descLen u.d) u.w

/-- The checks of R106 in their order: engine kind (PRIVILEGE), descriptors, permissions and memory rules,
then the operation's own lengths, modes and flags (ACCEL_REFUSED). -/
def State.accelTrap (s : State) (e : Eng) (priv : Bool) (uses : List Use) (ok : Bool) : Option Nat :=
  if priv = false then some 0x02
  else if uses.any useInvalid = true then some 0x07
  else if uses.any usePerm = true then some 0x06
  else match uses.findSome? (s.useTrap e) with
    | some t => some t
    | none => if ok then none else some 0x0A

/-- Issue an accelerator operation (R58, R59, R106): a ninth waits; a failing check traps; otherwise the
destination is pending and the operation outstanding, under the next number of the order of issue. -/
def State.accelIssue (s : State) (e : Eng) (rd ra : GReg) (mk : Ctx → State → AccelOp) (priv : Bool)
    (uses : Ctx → List Use) (ok : Ctx → State → Bool) : State :=
  s.issue e [ra.toNat] (fun c s1 =>
    if 8 ≤ c.ops.length then (s.putCtx e { s.ctx e with state := .waiting, wait := .slot }).yields e
    else match s1.accelTrap e priv (uses c) (ok c s1) with
    | some t => s1.trapTake e t 0
    | none =>
      let n := s1.hands.opSeq
      { s1 with hands := { s1.hands with opSeq := n + 1 } }.putCtx e { c with
        pc := c.pc + 4
        pend := if rd.toNat = 0 then c.pend else rd.toNat :: c.pend.filter (fun x => x ≠ rd.toNat)
        ops := c.ops ++ [{ mk c s1 with id := n }] })

/-- Run an issue, then go on with the operation where it did issue. -/
def State.thenIf (s : State) (e : Eng) (s1 : State) (f : State → State) : State :=
  if (s1.ctx e).ops.length = (s.ctx e).ops.length + 1 then f s1 else s1

/-- The operation record of the A format (R92); a descriptor the operation does not use is none. -/
def mkAccel (op : AccelKind) (c : Ctx) (rd : GReg) (da db : Option DReg) (ra : GReg) (imm : Nat) : AccelOp where
  op := op
  rd := rd.toNat
  da := match da with | some n => c.rd n.toNat | none => 0
  db := match db with | some n => c.rd n.toNat | none => 0
  dc := match op, db with
    | .pressC, some n => if n.toNat = 15 then 0 else c.rd (n.toNat + 1)
    | _, _ => 0
  ra := c.rg ra.toNat
  imm := imm
  aborted := false
  admitted := false
  n := 0
  id := 0

end Sys2Proof.Machine
end

