-- ==== Sys2Proof/Machine/Spare.lean ====
section
/-! DEFINITION. Tests and spares that every block shares: the Warden's queue (R505, R506) and the booking of
spares (R507). -/
namespace Sys2Proof.Machine

/-- Kinds of unit (R507, WARDEN_TEST_CTL). -/
def kHand : Nat := 2
def kMill : Nat := 3
def kPress : Nat := 4
def kWay : Nat := 5
def kSerdes : Nat := 6
def kRow : Nat := 7
def kSledLane : Nat := 8
def kCouncil : Nat := 9
def kAssay : Nat := 10
def kBank : Nat := 11

/-- The hold-off of a failback restarts (R412). -/
def State.holdRestart (s : State) : State :=
  if s.getF F.COUNCIL_FAILBACK_STATE = 1 then
    (s.satF F.COUNCIL_FAILBACK_RESTARTS).setF F.COUNCIL_FAILBACK_LEFT (s.getF F.IDENT_JOIN_HOLDOFF)
  else s

/-- Put a request into the Warden's queue (R506). -/
def State.queueTest (s : State) (r : TestReq) : State :=
  { s with warden := { s.warden with queue := s.warden.queue ++ [{ r with due := s.time }] } }.setF F.WARDEN_TEST_STATE_QUEUED
    (s.warden.queue.length + 1)

/-- A request of one unit through its block's own register (R505). -/
def ownTest (kind unit : Nat) (restore : Bool) : TestReq :=
  { kind := kind, unit := unit, source := 2, force := false, restore := restore, notBefore := 0,
    deferrals := 0, partner := 0, due := 0 }

/-- The Council books the use of a spare, or a loss that no spare covers (R507). -/
def State.spareBook (s : State) (kind unit : Nat) (used : Bool) : State :=
  let f := F.WARDEN_SPARE_USED.at kind
  let s1 := if used && decide (s.getF f < s.getF (F.WARDEN_SPARE_FORMED.at kind)) then s.addF f 1 else s
  let s2 := (s1.satF (F.WARDEN_SPARE_CALLS.at kind)).log blkWARDEN 0 0 (kind * 256 + unit) []
  let s3 := (((s2.setF F.WARDEN_LAST_EVENT_KIND kind).setF F.WARDEN_LAST_EVENT_UNIT unit).setF
    F.WARDEN_LAST_EVENT_STATUS 0).setN R.WARDEN_LAST_EVENT_SEQ s2.now
  if s3.getF f = s3.getF (F.WARDEN_SPARE_FORMED.at kind) && !s3.warden.exhausted.contains kind then
    { s3 with warden := { s3.warden with exhausted := kind :: s3.warden.exhausted } }.alarm blkWARDEN 0 0
      (kind * 256 + unit) []
  else s3

/-- A use of a spare while its kind has one left; a loss otherwise. -/
def State.spareCall (s : State) (kind unit : Nat) : State := s.spareBook kind unit true

end Sys2Proof.Machine
end

