-- ==== Sys2Proof/Machine/Mill.lean ====
section
/-! DEFINITION. The Mill (R191 to R208): cores, locks, key slots, sealing and unsealing. -/
namespace Sys2Proof.Machine

/-! ### Cores (R191, R207) -/

/-- Cores in a state. -/
def State.millCores (s : State) (st : Nat) : List Nat :=
  (upto 17).filter (fun c => s.getF (F.MILL_CORE_STATE.at c) = st)

/-- Recount MILL_STATE from the cores. -/
def State.millRecount (s : State) : State :=
  (((s.setF F.MILL_STATE_SPARE ((s.millCores 1).headD 0x1F)).setF F.MILL_STATE_LOCKS (s.millCores 5).length).setF
    F.MILL_STATE_SERVING (s.millCores 0).length).setF F.MILL_STATE_RETIRED
      ((s.millCores 3).foldl (fun n c => n + 2 ^ c) 0)

/-- The spare serves in place of a core (R191). -/
def State.millStandIn (s : State) : State :=
  match s.millCores 1 with
  | [] => s
  | c :: _ => s.setF (F.MILL_CORE_STATE.at c) 0

/-- A core comes back: the spare where none is free, otherwise to data service (R206). -/
def State.millBack (s : State) (core : Nat) : State :=
  (((s.setF (F.MILL_CORE_STATE.at core) (if (s.millCores 1).isEmpty then 1 else 0)).setF
    (F.MILL_CORE_RETIRE_CAUSE.at core) 0).setF (F.MILL_CORE_HOLDER.at core) 0).millRecount

/-- Zeroise slot 63 of a core. -/
def State.millClear (s : State) (core : Nat) : State :=
  { s with mill := { s.mill with clear := s.mill.clear.set core default } }

/-- Whether a core works on a unit. -/
def State.millHeld (s : State) (core : Nat) : Bool := s.mill.busy.any (fun b => b.1 = core)

/-- Retire a core that works on nothing: the spare serves and the Council books it (R207). -/
def State.millOut (s : State) (core cause : Nat) : State :=
  let was := s.getF (F.MILL_CORE_STATE.at core)
  let s0 := { s with mill := { s.mill with drain := s.mill.drain.set core 0 } }
  let s1 := (((s0.setF (F.MILL_CORE_STATE.at core) 3).setF (F.MILL_CORE_RETIRE_CAUSE.at core) cause).setF
    (F.MILL_CORE_HOLDER.at core) 0).millClear core
  let s2 := if cause = 1 then s1 else s1.satF (F.MILL_CORE_FAULTS.at core)
  (((if was = 0 then s2.millStandIn else s2).millRecount).spareCall kMill core).holdRestart

/-- A core that works on a unit is DRAINING: the spare serves in its place, and at the unit's end it enters TESTING (goal 1) or
RETIRED (goal 2 plus the cause) (R207). -/
def State.millDraining (s : State) (core goal : Nat) : State :=
  let was := s.getF (F.MILL_CORE_STATE.at core)
  let s1 := ({ s with mill := { s.mill with drain := s.mill.drain.set core goal } }.setF (F.MILL_CORE_STATE.at core) 4).setF
    F.MILL_CORE_CTL_BUSY 1
  (if was = 0 then s1.millStandIn else s1).millRecount

/-- Retire a core: at once, or at the end of its unit. -/
def State.millRetire (s : State) (core cause : Nat) : State :=
  if s.millHeld core then s.millDraining core (2 + cause) else s.millOut core cause

/-- A DRAINING core's unit has ended (R207). -/
def State.millRest (s : State) (core : Nat) : State :=
  match s.mill.drain.get core with
  | 0 => s
  | 1 => ({ s with mill := { s.mill with drain := s.mill.drain.set core 0 } }.setF (F.MILL_CORE_STATE.at core) 2).millRecount
  | n + 2 => (s.setF F.MILL_CORE_CTL_BUSY 0).millOut core n

/-- At a start no core is locked, under test or at work: what drained for its retirement is retired, every other one that was out
comes back (R207). -/
def State.millIn (s : State) : State :=
  (upto 17).foldl (fun s c =>
    let st := s.getF (F.MILL_CORE_STATE.at c)
    if st = 2 ∨ st = 5 then s.millBack c
    else if st = 4 then
      (if 2 ≤ s.mill.drain.get c then s.millOut c (s.mill.drain.get c - 2)
       else { s with mill := { s.mill with drain := s.mill.drain.set c 0 } }.millBack c)
    else s) s

/-- A core request: BUSY refuses it with 0x8090 (R208). -/
def State.millRequest (s : State) (f : Nat → State → State) : State :=
  let core := s.getF F.MILL_CORE_SEL_VAL
  if 17 ≤ core then s
  else if s.getF F.MILL_CORE_CTL_BUSY = 1 then s.stat F.MILL_CORE_CTL_STATUS 0x8090
  else f core s

/-- Queue a test or a restore of a core and show BUSY. -/
def State.millQueue (s : State) (core : Nat) (restore : Bool) : State :=
  (((s.stat F.MILL_CORE_CTL_STATUS 0).setF F.MILL_CORE_CTL_RETRY_MS 0).setF F.MILL_CORE_CTL_BUSY 1).queueTest
    (ownTest kMill core restore)

/-- MILL_CORE_CTL.TEST (R207). -/
def execMillCoreTest (s : State) : Res := .next (s.millRequest (fun c s => s.millQueue c false))

/-- MILL_CORE_CTL.RESTORE: only in SERVICE, only of a RETIRED core (R207, R208). -/
def execMillCoreRestore (s : State) : Res :=
  .next (s.millRequest (fun c s =>
    if s.mode = .service ∧ s.getF (F.MILL_CORE_STATE.at c) = 3 then s.millQueue c true
    else s.stat F.MILL_CORE_CTL_STATUS 0x7090))

/-- Cores that would serve after a core is retired. -/
def State.millLeft (s : State) (core : Nat) : Nat :=
  (s.millCores 0).length - b2n (s.getF (F.MILL_CORE_STATE.at core) = 0 && (s.millCores 1).isEmpty)

/-- A unit of a message runs again, its core having failed: a locked core's message goes on in data service, unless its key was
that core's own slot 63; a unit whose second core fails too fails its message (R206, R120). -/
def MillMsg.again (m : MillMsg) (unit : Nat) : MillMsg :=
  if 0 < m.tries ∨ (m.core ≠ 0 ∧ m.slot = 63) then { m with failed := true }
  else { m with tries := 1, redo := unit :: m.redo, core := 0 }

/-- A core fails mid-unit: retired with cause 0x04; the unit runs again from its saved state on the spare (R206). -/
def State.millCoreFail (s : State) (core : Nat) : State :=
  if 17 ≤ core ∨ s.getF (F.MILL_CORE_STATE.at core) = 3 then s
  else
    let b := s.mill.busy.filter (fun b => b.1 = core)
    let msgs := s.mill.msgs.map (fun m =>
      match b.find? (fun b => b.2.1 = m.id) with
      | some x => m.again x.2.2
      | none => if m.core = core + 1 then (if m.slot = 63 then { m with failed := true } else { m with core := 0 }) else m)
    { s with mill := { s.mill with msgs := msgs, busy := s.mill.busy.filter (fun b => b.1 ≠ core) } }.millOut core 4

/-- A core's periodic known-answer test falls due and is queued (R207, R505). -/
def execMillKatDue (core : Nat) (s : State) : Res :=
  .next (if core < 17 ∧ s.getF (F.MILL_CORE_STATE.at core) ≠ 3 then
    s.queueTest { ownTest kMill core false with source := 0 } else s)

/-- A core is withdrawn for its test. -/
def State.millWithdraw (s : State) (core : Nat) : State :=
  let st := s.getF (F.MILL_CORE_STATE.at core)
  let s1 := s.setF F.MILL_CORE_CTL_BUSY 1
  if st = 0 ∧ s.millHeld core = true then s.millDraining core 1
  else if st = 0 then ((s1.setF (F.MILL_CORE_STATE.at core) 2).millStandIn).millRecount
  else if st = 1 then (s1.setF (F.MILL_CORE_STATE.at core) 2).millRecount
  else s1

/-- A core's test ends (R207). -/
def State.millTestDone (s : State) (r : TestReq) (pass : Bool) : State :=
  let st := s.getF (F.MILL_CORE_STATE.at r.unit)
  let s1 := s.setF F.MILL_CORE_CTL_BUSY 0
  let s2 := if pass then s1.setN (R.MILL_CORE_TESTED + r.unit * 4294967296) s.timeWord else s1
  let s3 :=
    if st = 2 then (if pass then s2.millBack r.unit else s2.millRetire r.unit 2)
    else if st = 3 ∧ r.restore = true ∧ pass = true then s2.millBack r.unit
    else if pass then s2
    else if st = 5 then s2.millRetire r.unit 2
    else s2.satF (F.MILL_CORE_FAULTS.at r.unit)
  if r.source = 2 then s3.setF F.MILL_CORE_CTL_STATUS (if pass then 0 else 0x4090) else s3

/-! ### Randomness (R201, R202) -/

/-- The DRBG reseeds from a healthy source. -/
def State.drbgReseed (s : State) : State :=
  ({ s with mill := { s.mill with gens := 0 } }.satF F.MILL_RNG_RESEEDS).setF F.MILL_RNG_OVERDUE 0

/-- A second has passed, or the source is healthy again: the DRBG reseeds (R201). -/
def execDrbgReseed (s : State) : Res := .next s.drbgReseed

/-- One generate request of n times 8 bytes; the DRBG reseeds after 2^20 of them (R201). What it generates is free. -/
def State.generate (s : State) (n : Nat) : List Byte × State :=
  let (l, s1) := State.drawBytes n s
  let s2 := { s1 with mill := { s1.mill with gens := s1.mill.gens + 1 } }
  (l, if 2 ^ 20 ≤ s2.mill.gens then s2.drbgReseed else s2)

/-- BL-08: the start-up samples have passed, the DRBG is instantiated, and the per-boot context key is drawn (R201, R204). -/
def State.drbgStart (s : State) : State :=
  let (k, s1) := { s with mill := { s.mill with gens := 0 } }.generate 4
  { s1 with mill := { s1.mill with ctxKey := k } }.setF F.MILL_RNG_READY 1

/-- A core's mask generator takes 32 bytes from the DRBG (R200). -/
def State.maskSeed (s : State) (core : Nat) : State :=
  let (k, s1) := s.generate 4
  { s1 with mill := { s1.mill with seeds := s1.mill.seeds.set core k, since := s1.mill.since.set core 0 } }

/-- A health test fails: the samples are discarded and generating goes on (R202). -/
def execRngHealthFail (s : State) : Res :=
  .next ((s.setF F.MILL_RNG_HEALTH_FAIL 1).alarm blkMILL 0 0 0 [])

/-- No healthy reseed for 10 s (R202). -/
def execReseedOverdue (s : State) : Res :=
  .next ((s.setF F.MILL_RNG_OVERDUE 1).alarm blkMILL 0 0 0 [])

/-! ### Locks (R205, R206) -/

/-- The core a lock request would get now. -/
def State.lockPick (s : State) (core : Nat) : Option Nat :=
  if 2 ≤ (s.millCores 5).length then none
  else if core = 0x1F then
    match s.millCores 1 with
    | c :: _ => some c
    | [] => (s.millCores 0).getLast?
  else if core < 17 ∧ s.getF (F.MILL_CORE_STATE.at core) < 2 then some core
  else none

/-- Grant a lock of a core to a holder of R205. -/
def State.lockGrant (s : State) (core holder : Nat) : State :=
  ((s.setF (F.MILL_CORE_STATE.at core) 5).setF (F.MILL_CORE_HOLDER.at core) (holder % 4 + 1)).millRecount

/-- The completion word of a PRIV operation of the Mill (R197). -/
def outcomeWord (outcome core : Nat) : Nat := outcome * 2 ^ 16 + core * 2 ^ 24


/-- Whether another waiting lock request was accepted before Reeve number n (R205). -/
def State.lockBefore (s : State) (n : Nat) : Bool :=
  s.hands.ctxs.any (fun p => p.2.ops.any (fun o =>
    o.op = .priv && o.imm = 0x22 && o.ra.getLsbD 63 && decide (o.n < n)))

/-- The holder code an engine has in MILL_CORE.HOLDER. -/
def Eng.holderCode (e : Eng) : Nat := if e.kind = .strongroom then 1 else e.unit % 3 + 2

/-- The core an engine holds, if any. -/
def State.heldCore (s : State) (h : Nat) : Option Nat :=
  (s.millCores 5).find? (fun c => s.getF (F.MILL_CORE_HOLDER.at c) = h)

/-! ### Key slots (R196 to R198) -/

/-- A key slot; slot 63 is that of a core the caller holds. -/
def State.keySlot (s : State) (h n : Nat) : KeySlot :=
  if n = 63 then
    match s.heldCore h with
    | some c => s.mill.clear.get c
    | none => default
  else s.mill.slots.get n

/-- Put a key slot; slot 63 is that of a core the caller holds. -/
def State.putSlot (s : State) (h n : Nat) (k : KeySlot) : State :=
  if n = 63 then
    match s.heldCore h with
    | some c => { s with mill := { s.mill with clear := s.mill.clear.set c k } }
    | none => s
  else { s with mill := { s.mill with slots := s.mill.slots.set n k } }

/-- The material of a slot: its two shares together (R196). -/
def KeySlot.material (k : KeySlot) : List Byte := xorBytes k.share k.mask

/-- Material length of a KIND. -/
def kindLen (k : Nat) : Nat := if k = 1 then 32 else if k = 2 then 64 else if k = 3 then 96 else 0

/-- Whether a slot may take a KIND, wrapped or clear (R197). -/
def kindFits (slot kind : Nat) (clear : Bool) : Bool :=
  if clear then slot = 63
  else (decide (1 ≤ slot) && decide (slot ≤ 62) && (kind = 1 || kind = 2)) ||
    (decide (0x100 ≤ slot) && decide (slot ≤ 0x1FF) && kind = 3)

/-- Whether XTS halves are equal. -/
def halvesEqual (kind : Nat) (m : List Byte) : Bool :=
  decide (2 ≤ kind) && m.take 32 = (m.drop 32).take 32

/-- Store material in a slot, as two shares: a mask from the DRBG, and what it leaves (R196, R200). -/
def State.keyStore (s : State) (slot kind ident : Nat) (m : List Byte) : State :=
  let (r, s1) := s.generate ((m.length + 7) / 8)
  let mask := r.take m.length
  let k : KeySlot := { state := 1, kind := kind, ident := ident, seq := s.now, share := xorBytes m mask, mask := mask }
  (s1.putSlot 1 slot k).tick

/-- KEY.LOAD: the OUTCOME and the state (R197). -/
def State.keyLoad (s : State) (blk : List Byte) (ra : Nat) : Nat × State :=
  let slot := ra % 512
  let clear := ra.testBit 15
  let ident := leNat (blk.take 8)
  let kind := leNat ((blk.drop 8).take 2)
  let wrap := leNat ((blk.drop 10).take 2)
  let n := kindLen kind
  if n = 0 ∨ kindFits slot kind clear = false ∨ blk.length ≠ (if clear then 16 + n else 24 + n) ∨
      (clear = true ∧ wrap ≠ 0) ∨ (clear = false ∧ (wrap = 0 ∨ 62 < wrap)) then (3, s)
  else if clear = true ∧ s.heldCore 1 = none then (5, s)
  else if (s.keySlot 1 slot).state ≠ 0 then (2, s)
  else if clear then
    if halvesEqual kind (blk.drop 16) then (3, s) else (0, s.keyStore slot kind ident (blk.drop 16))
  else if (s.mill.slots.get wrap).state ≠ 1 ∨ (s.mill.slots.get wrap).kind ≠ 1 then (4, s)
  else match kwUnwrap (s.mill.slots.get wrap).material (blk.drop 16) with
    | none => (1, s.addN R.MILL_UNWRAP_FAIL 1)
    | some m => if halvesEqual kind m then (3, s) else (0, s.keyStore slot kind ident m)

/-- Operations outstanding on a slot (MILL_SLOT.IN_FLIGHT). -/
def State.slotInFlight (s : State) (n : Nat) : Nat :=
  s.hands.ctxs.foldl (fun k p =>
    k + (p.2.ops.filter (fun o => (o.op = .seal || o.op = .unseal) && o.n = n)).length) 0

/-- Acceptance of KEY.ZERO (R198): the slot is ZEROING from this Reeve number; the operation carries the
slot, or 0x1000 plus the OUTCOME that is already known. -/
def State.zeroAccept (s : State) (slot : Nat) : Nat × State :=
  let k := s.keySlot 1 slot
  if slot = 0 ∨ (63 < slot ∧ slot < 0x100) then (0x1003, s)
  else if k.state = 0 then (0x1006, s)
  else (slot, (s.putSlot 1 slot { k with state := 2, seq := s.now }).tick)

/-- Try KEY.ZERO: it ends once the earlier operations have drained (R198). -/
def State.zeroTry (s : State) (o : AccelOp) : Option Nat × State :=
  if 0x1000 ≤ o.n then (some (outcomeWord (o.n - 0x1000) 0), s)
  else if s.slotInFlight o.n ≠ 0 then (none, s)
  else if (s.keySlot 1 o.n).state ≠ 2 then (some (outcomeWord 0 0), s)
  else (some (outcomeWord 0 0), (s.putSlot 1 o.n { (default : KeySlot) with seq := s.now }).tick)

/-- Slots that are ZEROING and whose operations have drained are EMPTY (R198). -/
def State.zeroSweep (s : State) : State :=
  (s.mill.slots.filter (fun p => p.2.state = 2 && s.slotInFlight p.1 = 0)).foldl (fun s p =>
    (s.putSlot 1 p.1 { (default : KeySlot) with seq := s.now }).tick) s

/-! ### SEAL and UNSEAL (R110, R193 to R195, R199) -/

/-- The key slot an operation names: a Hand's slot 0 is the vault set of its command (R196). -/
def sealSlot (e : Eng) (c : Ctx) (imm : Nat) : Nat := if e.kind = .hand then 0x100 + c.vault else imm / 4 % 64

/-- Check 1 of R106 for SEAL and UNSEAL. -/
def sealPriv (e : Eng) (imm : Nat) : Bool :=
  match e.kind with
  | .hand => imm / 4 % 64 = 0 && decide (imm % 4 < 2)
  | .council => true
  | .strongroom => true
  | .sequencer => false

/-- The GCM block of a context at a pocket offset: IV, AAD, tag (R110). -/
def State.gcmBlock (s : State) (e : Eng) (off : Nat) : List Byte × List Byte × List Byte :=
  let b := s.rdBytes (pocketKey e.unitNo off) 64
  (b.take 12, (b.drop 16).take (leNat ((b.drop 12).take 4)), b.drop 48)

/-- Lengths and modes of check 4 (R110, R193 to R195, R199). -/
def State.sealForm (s : State) (e : Eng) (da db : BitVec 128) (ra : Word) (imm : Nat) (dec : Bool) : Bool :=
  let n := descLen da
  match imm % 4 with
  | 0 => decide (0 < n) && n % 4096 = 0 && decide (n ≤ descLen db) &&
      (!viewsOverlap da db || (descSpace da = descSpace db && descAddr da = descAddr db && descLen da = descLen db))
  | 1 => decide (n ≤ 16777216) && decide (n ≤ descLen db) &&
      decide (e.ctx % 64 * 0x800 ≤ ra.toNat) && decide (ra.toNat + 64 ≤ e.ctx % 64 * 0x800 + 0x800) &&
      decide (leNat (s.rdBytes (pocketKey e.unitNo (ra.toNat + 12)) 4) ≤ 32)
  | 2 =>
      if dec then n % 8 = 0 && decide (24 ≤ n) && decide (n ≤ 4104) && decide (n - 8 ≤ descLen db)
      else n % 8 = 0 && decide (16 ≤ n) && decide (n ≤ 4096) && decide (n + 8 ≤ descLen db)
  | _ => false

/-- Key conditions of check 4 (R199). -/
def State.sealKey (s : State) (e : Eng) (c : Ctx) (imm : Nat) : Bool :=
  if e.kind = .hand then (s.mill.slots.get (sealSlot e c imm)).state = 1 || !s.feat 34
  else (s.heldCore (Eng.holderCode e)).isSome && imm / 4 % 64 ≠ 0 && (s.keySlot (Eng.holderCode e) (imm / 4 % 64)).state = 1

/-- The key material for a message; what a slot does not hold is free (assumption log 8). -/
def State.sealMaterial (s : State) (h slot : Nat) (gcm : Bool) : List Byte :=
  let k := s.keySlot h slot
  let m := (if k.state = 0 then [] else k.material) ++ Config.unloadedKey slot
  if gcm ∧ 0x100 ≤ slot then m.drop 64 else m

/-- The last error of the Mill (R208). -/
def State.millLastErr (s : State) (tag st core : Nat) : State :=
  ((((s.setF F.MILL_LAST_ERR_TAG tag).setF F.MILL_LAST_ERR_STATUS st).setF F.MILL_LAST_ERR_CORE core).setN
    R.MILL_LAST_ERR_SEQ s.now).tick

/-! ### The scheduler (R192, R200, R203, R204) -/

/-- The holder a message's operation stands for: its engine's. -/
def MillMsg.holder (m : MillMsg) : Nat := if 1536 ≤ m.key then 1 else (m.key - 1280) / 64 % 3 + 2

/-- The operation of a message; none for the Carrier's. -/
def State.millOp (s : State) (m : MillMsg) : Option AccelOp := (s.hands.ctxs.get m.key).ops.find? (fun o => o.id = m.id)

/-- The IV of a GCM block (R110). -/
def MillMsg.iv (m : MillMsg) : List Byte := m.block.take 12

/-- The additional data of a GCM block (R110). -/
def MillMsg.aad (m : MillMsg) : List Byte := (m.block.drop 16).take (min 32 (leNat ((m.block.drop 12).take 4)))

/-- The 64-byte state record of a suspended GCM message (R204); it never holds key material. -/
def MillMsg.stateBytes (m : MillMsg) : List Byte :=
  leBytes 2 (m.mode + 4 * b2n m.dec) ++ leBytes 2 m.slot ++ leBytes 4 m.done ++ leBytes 8 0 ++
    (m.iv ++ beBytes 4 (2 + 256 * m.done)) ++ beBytes 16 m.acc ++ leBytes 8 (8 * m.aad.length) ++ leBytes 8 (8 * 4096 * m.done)

/-- A part of a view. -/
def descPart (d : BitVec 128) (off n : Nat) : BitVec 128 := descMove d n (descAddr d + off)

/-- Put a message back, in its place in the order. -/
def State.putMsg (s : State) (m : MillMsg) : State :=
  { s with mill := { s.mill with msgs := s.mill.msgs.map (fun x => if x.id = m.id then m else x) } }

/-- One unit of XTS or GCM on its source bytes: the bytes it makes, and the message with its chaining value (R193, R194). -/
def MillMsg.unitOf (m : MillMsg) (key : List Byte) (tweak u : Nat) (x : List Byte) : List Byte × MillMsg :=
  if m.mode = 0 then (xts m.dec (key.take 64) (tweak + u) x, m)
  else
    let k := key.take 32
    let y := gctr k m.iv (2 + 256 * u) (pieces 16 ((x.length + 15) / 16) x)
    let acc := if u = 0 then ghashFeed (ghashKey k) 0 m.aad else m.acc
    (y, { m with acc := ghashFeed (ghashKey k) acc (if m.dec then x else y) })

/-- Run one unit of XTS or GCM of an operation: source bytes from da, what it makes into db. -/
def State.millUnit (s : State) (m : MillMsg) (o : AccelOp) (u : Nat) : MillMsg × State :=
  let n := min 4096 (descLen o.da - 4096 * u)
  let (y, m1) := m.unitOf (s.sealMaterial m.holder m.slot (m.mode = 1)) o.ra.toNat u (s.viewBytes (m.key / 64) (descPart o.da (4096 * u) n))
  (m1, (s.wrView (m.key / 64) (descPart o.db (4096 * u) n) y).addN R.MILL_BYTES n)

/-- Run all units one after another, on a core that is not switched. -/
def State.millAll (o : AccelOp) : List Nat → MillMsg → State → MillMsg × State
  | [], m, s => (m, s)
  | u :: r, m, s => let (m1, s1) := s.millUnit m o u; State.millAll o r m1 s1

/-- A key wrap runs whole (R192, R195). -/
def State.millWrap (s : State) (m : MillMsg) (o : AccelOp) : MillMsg × State :=
  let x := s.viewBytes (m.key / 64) o.da
  let key := (s.sealMaterial m.holder m.slot false).take 32
  let s0 := s.addN R.MILL_BYTES x.length
  if m.dec then
    match kwUnwrap key x with
    | some y => (m, s0.wrView (m.key / 64) o.db y)
    | none => ({ m with bad := true }, s0)
  else (m, s0.wrView (m.key / 64) o.db (kwWrap key x))

/-- The effect of the work a core has done on a message. -/
def State.millWork (s : State) (m : MillMsg) (u : Nat) : MillMsg × State :=
  match s.millOp m with
  | none =>
    let x := (m.text.drop (4096 * u)).take 4096
    ((m.unitOf (s.sealMaterial 0 m.slot (m.mode = 1)) 0 u x).2, s.addN R.MILL_BYTES x.length)
  | some o =>
    if m.mode = 2 then s.millWrap m o
    else if m.whole then State.millAll o (upto (max 1 ((descLen o.da + 4095) / 4096))) m s
    else s.millUnit m o u

/-- A core's unit ends (R203): its effect, the message's count, the core's masks, and a core that drains. -/
def State.millEnd (s : State) (b : Nat × Nat × Nat) : State :=
  let c := b.1
  let s0 := { s with mill := { s.mill with busy := s.mill.busy.filter (fun x => x.1 ≠ c) } }
  let s1 := match s0.mill.msgs.find? (fun m => m.id = b.2.1) with
    | none => s0
    | some m =>
      if m.failed then s0
      else
        let r := s0.millWork m b.2.2
        r.2.putMsg { r.1 with done := m.done + 1, tries := 0, last := c }
  let n := s1.mill.since.get c + 4096
  let s2 := { s1 with mill := { s1.mill with since := s1.mill.since.set c n } }
  (if 65536 ≤ n then s2.maskSeed c else s2).millRest c

/-- Whether a GCM message is in the middle: begun and not finished. -/
def MillMsg.mid (m : MillMsg) : Bool := decide (0 < m.next) && decide (m.done < m.units)

/-- Whether a message has a unit ready for a core: a GCM message none while one is under way, and none of a fifth GCM message of
one context while four are in the middle (R192, R204). -/
def State.millReady (s : State) (core : Nat) (m : MillMsg) : Bool :=
  let data := s.getF (F.MILL_CORE_STATE.at core) = 0
  !m.failed && (m.core = 0 && data || m.core = core + 1) && (!m.redo.isEmpty || decide (m.next < m.units)) &&
    (m.mode = 0 || m.whole || (m.next = m.done + m.redo.length && (m.mid || m.key = 4096 ||
      decide ((s.mill.msgs.filter (fun x => x.key = m.key && x.mode = 1 && x.mid)).length < 4))))

/-- Take up a suspended state again (R204): from the save area, or from HBM, where the record must unwrap. -/
def State.millResume (s : State) (m : MillMsg) : MillMsg :=
  if m.record = 0 then m
  else if m.record ≤ 4 then
    let b := s.rdBytes (pocketKey (m.key / 64) (0x3C000 + 256 * (m.key % 64) + 64 * (m.record - 1))) 64
    { m with record := 0, acc := beNat ((b.drop 32).take 16) }
  else match kwUnwrap s.mill.ctxKey (s.rdBytes (s.plan.spillBase + 128 * (m.record - 5)) 72) with
    | some b => { m with record := 0, acc := beNat ((b.drop 32).take 16) }
    | none => { m with record := 0, failed := true }

/-- A free core takes the next ready unit of the message whose turn it is; the message goes to the end of the order (R192). -/
def State.millDeal (s : State) (core : Nat) : State :=
  match s.mill.msgs.find? (s.millReady core) with
  | none => s
  | some m0 =>
    let m := s.millResume m0
    if m.failed then s.putMsg m
    else
      let first := decide (m.next = 0)
      let (u, m1) := match m.redo with
        | u :: r => (u, { m with redo := r })
        | [] => (m.next, { m with next := m.next + 1 })
      let s1 := { s with mill := { s.mill with msgs := s.mill.msgs.filter (fun x => x.id ≠ m.id) ++ [m1]
                                               busy := s.mill.busy ++ [(core, m.id, u)] } }
      if first then s1.maskSeed core else s1

/-- The lowest number from lo on that a list does not hold. -/
def freeFrom (lo : Nat) (l : List Nat) : Nat := ((upto (l.length + 1)).map (fun i => lo + i)).find? (fun n => !l.contains n) |>.getD lo

/-- A message left without a core at a unit boundary is suspended (R203, R204): a Hand's GCM state goes to the context's save
area, another requester's to HBM, wrapped; XTS keeps only its next tweak. -/
def State.millSuspend (s : State) (m : MillMsg) : State :=
  let s1 := s.addN R.MILL_SWITCHES 1
  if m.mode ≠ 1 then s1
  else if m.key < 1024 then
    let r := freeFrom 1 ((s.mill.msgs.filter (fun x => x.key = m.key)).map (fun x => x.record))
    (s1.wrBytes (pocketKey (m.key / 64) (0x3C000 + 256 * (m.key % 64) + 64 * (r - 1))) m.stateBytes).putMsg { m with record := r }
  else
    let r := freeFrom 5 (s.mill.msgs.map (fun x => x.record))
    ((s1.addN R.MILL_SPILLS 1).wrBytes (s.plan.spillBase + 128 * (r - 5)) (kwWrap s.mill.ctxKey m.stateBytes)).putMsg { m with record := r }

/-- Deal units to the free cores, and suspend the messages that held a core before and are left without one. -/
def State.millTurn (s : State) (had : List Nat) : State :=
  let free := (s.millCores 0 ++ s.millCores 5).filter (fun c => !s.millHeld c)
  let s1 := free.foldl State.millDeal s
  (s1.mill.msgs.filter (fun m => had.contains m.id && m.mid && decide (0 < m.done) && !m.whole &&
    !s1.mill.busy.any (fun b => b.2.1 = m.id))).foldl State.millSuspend s1

/-- One unit's time: every core at work ends its unit, and the free cores take the next ready units (R192, R203). -/
def State.millRound (s : State) : State := (s.mill.busy.foldl State.millEnd s).millTurn (s.mill.busy.map (fun b => b.2.1))

/-- Rounds until a message has ended. -/
def State.millRun (id : Nat) : Nat → State → State
  | 0, s => s
  | n + 1, s =>
    match s.mill.msgs.find? (fun m => m.id = id) with
    | none => s
    | some m => if m.failed = true ∨ m.units ≤ m.done then s else State.millRun id n s.millRound

/-- Rounds that suffice for every message: units still to run, and as many again for each message that waits its turn. -/
def State.millFuel (s : State) : Nat := 2 + s.mill.msgs.foldl (fun n m => n + 2 * (m.units - m.done) + 2) 0

/-- Take messages away, and with them the units they have on cores. -/
def State.millDrop (s : State) (p : MillMsg → Bool) : State :=
  let ids := (s.mill.msgs.filter p).map (fun m => m.id)
  let cores := (s.mill.busy.filter (fun b => ids.contains b.2.1)).map Prod.fst
  cores.foldl State.millRest { s with mill := { s.mill with
    msgs := s.mill.msgs.filter (fun m => !p m), busy := s.mill.busy.filter (fun b => !ids.contains b.2.1) } }

/-- The messages of a killed context that are suspended in GCM are discarded with their records: nothing beyond the units done is
written (R206). -/
def State.millKill (s : State) (key : Nat) : State :=
  { s with mill := { s.mill with msgs := s.mill.msgs.map (fun m =>
      if m.key = key ∧ m.record ≠ 0 then { m with record := 0, failed := true } else m) } }

/-- SEAL or UNSEAL has issued: its message joins the scheduler; a Hand's copy without feature 34 needs no core (R192, R193). -/
def State.millJoin (s : State) (e : Eng) (dec : Bool) : State :=
  match (s.ctx e).ops.getLast? with
  | none => s
  | some o =>
    if e.kind = .hand ∧ o.imm % 4 = 0 ∧ s.feat 34 = false then s
    else
      let core := if e.kind = .hand then 0 else match s.heldCore (Eng.holderCode e) with | some c => c + 1 | none => 0
      let m : MillMsg := {
        id := o.id, key := e.key, mode := o.imm % 4, dec := dec, slot := o.n, core := core, whole := decide (e.kind ≠ .hand)
        units := if e.kind = .hand then max 1 ((descLen o.da + 4095) / 4096) else 1
        next := 0, done := 0, redo := [], acc := 0
        block := if o.imm % 4 = 1 then s.rdBytes (pocketKey e.unitNo o.ra.toNat) 64 else []
        text := [], record := 0, tries := 0, failed := false, bad := false, last := 0 }
      { s with mill := { s.mill with msgs := s.mill.msgs ++ [m] } }.millTurn []

/-- The end of SEAL or UNSEAL once all its units are done (R110, R194, R195). -/
def State.sealEnd (s : State) (e : Eng) (o : AccelOp) (tag : Nat) (m : MillMsg) : Nat × State :=
  if m.mode = 1 then
    let n := descLen o.da
    let t := gcmTagOf ((s.sealMaterial m.holder m.slot true).take 32) m.iv m.acc m.aad.length n
    if m.dec = false then (0, s.wrBytes (pocketKey e.unitNo (o.ra.toNat + 48)) t)
    else if t = m.block.drop 48 then (0, s)
    else (0x4051, ((s.wrView e.unitNo (descPart o.db 0 n) (List.replicate n 0)).addN R.MILL_TAG_FAIL 1).millLastErr tag 0x4051 m.last)
  else if m.bad then (0x4052, (s.addN R.MILL_UNWRAP_FAIL 1).millLastErr tag 0x4052 m.last)
  else (0, s)

/-- SEAL or UNSEAL completes: the scheduler has run until its last unit ended; without a core in service it goes on waiting. A
Hand's mode 0 without feature 34 copies (R193). -/
def State.sealDone (s : State) (e : Eng) (o : AccelOp) (tag : Nat) : Option Nat × State :=
  if s.mill.msgs.all (fun m => m.id ≠ o.id) then (some 0, s.wrView e.unitNo o.db (s.viewBytes e.unitNo o.da))
  else
    let s1 := State.millRun o.id s.millFuel s
    match s1.mill.msgs.find? (fun m => m.id = o.id) with
    | none => (none, s1)
    | some m =>
      if m.failed then (some 0xF050, s1)
      else if m.done < m.units then (none, s1)
      else let r := s1.sealEnd e o tag m; (some r.1, r.2)

/-- A message of the Carrier passes through the Mill (R191, R204): its state spills to HBM where a switch suspends it. -/
def State.millCarrier (s : State) (slot : Nat) (dec : Bool) (iv aad text : List Byte) : State :=
  let id := s.hands.opSeq
  let m : MillMsg := {
    id := id, key := 4096, mode := 1, dec := dec, slot := slot, core := 0, whole := false, units := max 1 ((text.length + 4095) / 4096)
    next := 0, done := 0, redo := [], acc := 0, block := iv ++ leBytes 4 aad.length ++ aad ++ List.replicate 24 0
    text := text, record := 0, tries := 0, failed := false, bad := false, last := 0 }
  let s1 := { s with hands := { s.hands with opSeq := id + 1 }, mill := { s.mill with msgs := s.mill.msgs ++ [m] } }.millTurn []
  (State.millRun id s1.millFuel s1).millDrop (fun x => x.id = id)

/-! ### Locks that end and begin (R205, R206) -/

/-- The holder's operations in progress on a locked core finish. -/
def State.lockDrain (s : State) (core : Nat) : State :=
  (s.mill.msgs.filter (fun m => m.core = core + 1)).foldl (fun s m => State.millRun m.id s.millFuel s) s

/-- Free a locked core, once the holder's operation in progress has finished, and zeroise its slot 63 (R206). -/
def State.lockFree (s : State) (core : Nat) : State := ((s.lockDrain core).millBack core).millClear core

/-- A lock reaches MILL_LOCK_LIMIT (R206). -/
def execMillLockExpiry (core : Nat) (s : State) : Res :=
  .next (if core < 17 ∧ s.getF (F.MILL_CORE_STATE.at core) = 5 then
    (s.lockFree core).alarm blkMILL 0 0 core [] else s)

/-- A core to be locked finishes its unit, and that message's state is saved, before the grant (R203, R205). -/
def State.lockReady (s : State) (core : Nat) : State :=
  if s.millHeld core then (s.setF (F.MILL_CORE_STATE.at core) 4).millRound else s

/-- Try MILL.LOCK: the completion word where it ends now, and the state (R205). -/
def State.lockTry (s : State) (o : AccelOp) : Option Nat × State :=
  let core := o.ra.toNat % 32
  let holder := o.ra.toNat / 256 % 4
  if s.lockBefore o.n then (if o.ra.getLsbD 63 then none else some (outcomeWord 7 0), s)
  else match s.lockPick core with
    | some c => (some (outcomeWord 0 c), (s.lockReady c).lockGrant c holder)
    | none => (if o.ra.getLsbD 63 then none else some (outcomeWord 7 0), s)

/-- MILL.FREE (R206). -/
def State.lockRelease (s : State) (o : AccelOp) : Nat × State :=
  let core := o.ra.toNat % 32
  if core < 17 ∧ s.getF (F.MILL_CORE_STATE.at core) = 5 then (outcomeWord 0 core, s.lockFree core)
  else (outcomeWord 5 0, s)

/-! ### SEAL and UNSEAL issue -/

/-- SEAL issues (R110). -/
def execSeal (e : Eng) (rd : GReg) (da db : DReg) (ra : GReg) (imm : BitVec 8) (s : State) : Res :=
  .next (s.thenIf e (s.accelIssue e rd ra
    (fun c _ => { mkAccel .seal c rd (some da) (some db) ra imm.toNat with n := sealSlot e c imm.toNat })
    (sealPriv e imm.toNat) (fun c => [⟨c.rd da.toNat, true, false⟩, ⟨c.rd db.toNat, false, true⟩])
    (fun c s => s.sealForm e (c.rd da.toNat) (c.rd db.toNat) (c.rg ra.toNat) imm.toNat false && s.sealKey e c imm.toNat))
    (fun t => t.millJoin e false))

/-- UNSEAL issues (R110). -/
def execUnseal (e : Eng) (rd : GReg) (da db : DReg) (ra : GReg) (imm : BitVec 8) (s : State) : Res :=
  .next (s.thenIf e (s.accelIssue e rd ra
    (fun c _ => { mkAccel .unseal c rd (some da) (some db) ra imm.toNat with n := sealSlot e c imm.toNat })
    (sealPriv e imm.toNat) (fun c => [⟨c.rd da.toNat, true, false⟩, ⟨c.rd db.toNat, false, true⟩])
    (fun c s => s.sealForm e (c.rd da.toNat) (c.rd db.toNat) (c.rg ra.toNat) imm.toNat true && s.sealKey e c imm.toNat))
    (fun t => t.millJoin e true))

end Sys2Proof.Machine
end

