-- ==== Sys2Proof/Machine/Wire.lean ====
section
/-! DEFINITION. Sending on the Carrier (R355 to R361): peer numbers, sequence numbers, what is kept until it is
acknowledged. -/
namespace Sys2Proof.Machine

/-- A peer entry. -/
def State.peerAt (s : State) (i : Nat) : Peer := s.car.peers.get i

/-- Put a peer entry. -/
def State.putPeer (s : State) (i : Nat) (p : Peer) : State := { s with car := { s.car with peers := s.car.peers.set i p } }

/-- Whether a peer number names the entry it points to: its generation still matches (R363). -/
def State.peerLive (s : State) (num : Nat) : Bool :=
  (s.peerAt (num % 65536)).used && (s.peerAt (num % 65536)).gen = num / 65536 % 65536

/-- The peer number of an entry (R363). -/
def State.peerNum (s : State) (i : Nat) : Nat := (s.peerAt i).gen % 65536 * 65536 + i % 65536

/-- Segments of a body (R355). -/
def segsOf (len : Nat) : Nat := if len = 0 then 1 else (len + 8191) / 8192

/-- Bytes of a message's datagrams: the header and IV_CTR of each segment, the body, and the GCM tag or PCRC (R355). -/
def carWireBytes (flags len : Nat) : Nat :=
  if flags.testBit 0 then len + 40 * segsOf len + 16 else len + 32 * segsOf len + 4

/-- The first SEQ not yet acknowledged of what the head sent. -/
def Peer.oldest (p : Peer) : Nat := p.out.foldl (fun n m => min n m.seq) p.txSeq

/-- The next IV_CTR of a key, reserved in blocks of 2^24 in the NVM (R244, R356). A vault's counter is shared by its
links. -/
def State.ivNext (s : State) (flags : Nat) : Nat × State :=
  let k := flags / 256 % 256
  let block : Nat := 16777216
  if flags.testBit 0 = false ∧ flags.testBit 1 = false then (0, s)
  else if flags.testBit 1 then
    let n := s.sieve.counters.get k
    (n, { s with sieve := { s.sieve with
      counters := s.sieve.counters.set k (n + 1)
      countersTop := if s.sieve.countersTop.get k ≤ n then s.sieve.countersTop.set k (n + block) else s.sieve.countersTop } })
  else
    let n := s.car.iv.get k
    (n, { s with car := { s.car with
      iv := s.car.iv.set k (n + 1)
      ivTop := if s.car.ivTop.get k ≤ n then s.car.ivTop.set k (n + block) else s.car.ivTop } })

/-- A message goes out. Above FLAGS and KEY, bit 16 of its flags says that its datagrams bear ECT(0), which they do with feature 67
(R354). -/
def State.carOut (s : State) (peer type flags epoch seq iv : Nat) (body : List Byte) : State :=
  s.send (.carrier peer type (flags + (if s.feat 67 then 65536 else 0)) epoch seq iv body)

/-- The first four bytes of an IV: the sender's node, or ARRAY_NO and HEAD_SLOT for a vault's key (R243, R356). -/
def State.ivHead (s : State) (dec vault : Bool) (node : Nat) : List Byte :=
  if vault = true ∧ dec = false then leBytes 2 (s.getF F.SIEVE_CFG_ARRAY_NO) ++ leBytes 2 s.slotNo else leBytes 4 node

/-- A sealed message passes through the Mill under the key it names (R191, R356): a session key's slot by CARRIER_KEYMAP, or the
replication key of a vault. node is the sender's. -/
def State.carMill (s : State) (dec : Bool) (node type flags epoch seq iv : Nat) (body : List Byte) : State :=
  let key := flags / 256 % 256
  let slot := if flags.testBit 1 then 0x100 + key else s.getN (R.CARRIER_KEYMAP + 8 * (key % 16 / 8)) / 256 ^ (key % 8) % 64
  let aad := [BitVec.ofNat 8 type, BitVec.ofNat 8 key, BitVec.ofNat 8 (flags % 256 &&& 0xF3), BitVec.ofNat 8 (segsOf body.length)] ++
    leBytes 8 node ++ leBytes 4 epoch ++ leBytes 4 seq ++ leBytes 4 body.length
  if flags.testBit 0 = false ∨ slot = 0 then s else s.millCarrier slot dec (s.ivHead dec (flags.testBit 1) node ++ leBytes 8 iv) aad body

/-- The RTO of a message at its first sending, in µs (R361). -/
def State.rtoFirst (s : State) (i : Nat) : Nat := max (s.getF F.CARRIER_CFG_RTO_MIN_US) (2 * (s.peerAt i).srtt)

/-- Put a message on the wire. -/
def State.carWire (s : State) (i : Nat) (m : CarMsg) : State :=
  let p := s.peerAt i
  let s1 := s.putPeer i { p with sentI := p.sentI + segsOf m.body.length }
  let s2 := if i < 65536 then s1.addN (R.FABRIC_P_TX_BYTES + 64 * (p.port % 4)) (carWireBytes m.flags m.body.length) else s1
  let s3 := if m.tries = 0 then s2.carMill false (s.getN R.IDENT_SERIAL) m.type m.flags p.txEpoch m.seq m.iv m.body else s2
  s3.carOut (s.peerNum i) m.type m.flags p.txEpoch m.seq m.iv m.body

/-- Send a message to an entry: it takes the next SEQ and is kept until it is acknowledged; beyond the 1,024 SEQs
that may be outstanding it waits (R359, R361). In ERROR nothing is sent; completions are sent again after HELLO (R365). -/
def State.carSendAt (s : State) (i type flags : Nat) (body : List Byte) (w : CarWait) : State :=
  let p := s.peerAt i
  if p.used = false ∨ p.state = 2 then s
  else
    let (iv, s1) := s.ivNext flags
    let fits := decide (p.txSeq < p.oldest + 1024)
    let m : CarMsg := { seq := p.txSeq, type := type, flags := flags, iv := iv, body := body, first := s.time, at_ := s.time,
                        tries := 0, sent := fits, wait := w, rto := s.rtoFirst i }
    let s2 := (s1.putPeer i { p with txSeq := p.txSeq + 1, out := p.out ++ [m] }).addN R.CARRIER_TX_MSGS 1
    if fits then s2.carWire i m else s2

/-- Send a message to a peer number; a stale one sends nothing. -/
def State.carSend (s : State) (num type flags : Nat) (body : List Byte) (w : CarWait) : State :=
  if s.peerLive num then s.carSendAt (num % 65536) type flags body w else s

/-- A fresh send epoch, reserved in the NVM in blocks of 2^24 (R359). -/
def State.epochNext (s : State) : Nat × State :=
  let n := s.car.nextEpoch
  let top := if s.car.topEpoch ≤ n then n + 16777216 else s.car.topEpoch
  (n % 2 ^ 32, { s with car := { s.car with nextEpoch := n + 1, topEpoch := top } })

/-- FLAGS of what the head itself sends to an entry: MGMT on Carrier-M (R358). -/
def carFlags (i : Nat) : Nat := if 65536 ≤ i then 16 else 0

/-- Open an entry's sending side: a fresh epoch from SEQ 0, FLOOR 0 first (R359). -/
def State.sendSide (s : State) (i : Nat) : State :=
  let (n, s1) := s.epochNext
  let s2 := s1.putPeer i { s1.peerAt i with txEpoch := n, txSeq := 0, out := [] }
  s2.carSendAt i 0x03 (carFlags i) (leBytes 4 0 ++ leBytes 4 0) .nothing

/-- The body of CMD_DONE (R358). -/
def cmdDone (q cid st det reeve : Nat) : List Byte :=
  leBytes 2 q ++ leBytes 2 cid ++ leBytes 2 st ++ leBytes 2 0 ++ leBytes 4 det ++ leBytes 4 0 ++ leBytes 8 reeve

end Sys2Proof.Machine
end

