-- ==== Sys2Proof/Machine/Ack.lean ====
section
/-! DEFINITION. Acknowledging what the Carrier has received (R360), and releasing acknowledgements that waited for the
partner (R370). -/
namespace Sys2Proof.Machine

/-- One item of an ACK (R360): SEQ, KIND 1 STATUS, its status and detail. KIND 2 MISSING: the received segments. -/
structure AckItem where
  seq : Nat
  kind : Nat
  status : Status
  detail : Nat
  map : Nat
  deriving DecidableEq, Repr

/-- The bytes of an item. -/
def AckItem.bytes (x : AckItem) : List Byte :=
  leBytes 4 x.seq ++ leBytes 1 x.kind ++ leBytes 1 0 ++ leBytes 2 x.status ++ leBytes 8 x.detail ++ leBytes 16 x.map

/-- The body of an ACK (R360). -/
def ackBody (epoch cum sack ce : Nat) (items : List AckItem) : List Byte :=
  leBytes 4 epoch ++ leBytes 4 cum ++ leBytes 8 sack ++ leBytes 4 ce ++ leBytes 2 items.length ++ leBytes 2 0 ++
    items.flatMap AckItem.bytes

/-- Whether a SEQ of the window is acknowledged: it has taken effect or was refused, and does not wait for the
partner. -/
def Peer.acked (p : Peer) (seq : Nat) : Bool := p.taken.contains seq && !p.unacked.any (fun u => u.1 = seq)

/-- CUM: the first SEQ of the window that is not acknowledged. -/
def Peer.cum (p : Peer) : Nat :=
  ((upto 1024).find? (fun i => !p.acked (p.floor + i))).elim (p.floor + 1024) (fun i => p.floor + i)

/-- SACK: the 64 SEQs after CUM. -/
def Peer.sack (p : Peer) : Nat :=
  (upto 64).foldl (fun n i => if p.acked (p.cum + 1 + i) then n + 2 ^ i else n) 0

/-- Send an ACK to a peer entry, with items (R360). It takes no SEQ and is not kept. -/
def State.carAck (s : State) (i : Nat) (items : List AckItem) : State :=
  let p := s.peerAt i
  let body := ackBody p.rxEpoch p.cum p.sack p.ce items
  let s1 := (s.putPeer i { p with got := 0, ce := 0 }).carOut (s.peerNum i) 0x04 (if 65536 ≤ i then 16 else 0) p.txEpoch 0 0 body
  if i < 65536 then s1.addN (R.FABRIC_P_TX_BYTES + 64 * (p.port % 4)) (body.length + 36) else s1

/-- One more message to acknowledge: an ACK goes after 16 (R360). -/
def State.carGot (s : State) (i : Nat) : State :=
  let p := s.peerAt i
  let s1 := s.putPeer i { p with got := p.got + 1 }
  if 16 ≤ p.got + 1 then s1.carAck i [] else s1

/-- An ACK built without an entry (R364): the outbox names the node above all peer numbers. -/
def State.carAckBare (s : State) (h : CarHdr) (st : Status) : State :=
  s.carOut (2 ^ 32 + h.node) 0x04 (if h.port = 8 then 16 else 0) 0 0 0 (ackBody h.epoch 0 0 0 [(⟨h.seq, 1, st, 0, 0⟩ : AckItem)])

/-- Writes whose bytes now stand in the partner's MIRROR, or need not, may be acknowledged (R370). -/
def State.carRelease (s : State) : State :=
  s.car.peers.foldl (fun s p =>
    let left := p.2.unacked.filter (fun u => decide (s.cf.acked < u.2) && s.mirrors)
    if left.length = p.2.unacked.length then s
    else
      let s1 := s.putPeer p.1 { s.peerAt p.1 with unacked := left }
      s1.carGot p.1) s

end Sys2Proof.Machine
end

