-- ==== Sys2Proof/Machine/Folio.lean ====
section
/-! DEFINITION. Sending on the magazine ports (R381 to R384): folios, what is kept until it is acknowledged, and the
latched status of a task (R388). Shared by the Docket and the Toll. -/
namespace Sys2Proof.Machine

/-- The link of a magazine port. -/
def State.magPort (s : State) (p : Nat) : MagPort := s.mag.ports.get p

/-- Put the link of a magazine port. -/
def State.putMagPort (s : State) (p : Nat) (x : MagPort) : State := { s with mag := { s.mag with ports := s.mag.ports.set p x } }

/-- A task register (R388). -/
def State.magTask (s : State) (p r : Nat) : MagTask := s.mag.tasks.get (p * 64 + r)

/-- Put a task register. -/
def State.putMagTask (s : State) (p r : Nat) (x : MagTask) : State :=
  { s with mag := { s.mag with tasks := s.mag.tasks.set (p * 64 + r) x } }

/-- A field of port p. -/
def magF (f : Fld) (p : Nat) : Fld := f.win 0x100 p

/-- STATE of a port (R401). -/
def State.magState (s : State) (p : Nat) : Nat := s.getF (magF F.MAGPORT_P_LINK_STATE p)

/-- Whether a port carries tasks: UP or HALF. -/
def State.magUp (s : State) (p : Nat) : Bool := s.magState p = 4 || s.magState p = 5

/-- Whether a feature is accepted on a port (R43, R47): words 0 and 3 are negotiated. -/
def State.magFeat (s : State) (p n : Nat) : Bool :=
  if n < 32 then (s.getF (magF F.MAGPORT_P_FEAT_WORD0 p)).testBit n
  else if 96 ≤ n ∧ n < 128 then (s.getF (magF F.MAGPORT_P_FEAT_WORD3 p)).testBit (n - 96)
  else false

/-- The sync mark (R381). -/
def syncMark : Nat := 0x5A3C96E10F7BC248

/-- The bytes of a folio (R381). -/
def folioBytes (type flags task seq ack ofs credit : Nat) (data : List Byte) : List Byte :=
  let h := leBytes 1 type ++ leBytes 1 flags ++ leBytes 1 task ++ leBytes 1 0 ++ leBytes 4 data.length ++ leBytes 4 seq ++
    leBytes 4 ack ++ leBytes 8 ofs ++ leBytes 4 credit
  leBytes 8 syncMark ++ h ++ leBytes 4 (crc32c h) ++ data ++ (if data.isEmpty then [] else leBytes 4 (crc32c data))

/-- The ACK field: the highest SEQ received in order, all ones before any (R381). -/
def MagPort.ackField (x : MagPort) : Nat := if x.rxNext = 0 then 0xFFFFFFFF else x.rxNext - 1

/-- Put one folio on the wire. CREDIT, the head's own free buffer, is a free value (assumption log 8). -/
def State.folioWire (s : State) (p : Nat) (m : MagOut) (resend : Bool) : State :=
  let x := s.magPort p
  let b := folioBytes m.type (m.flags + b2n resend) m.task m.seq x.ackField m.ofs (Config.magCredit p).toNat m.data
  (s.addF (magF F.MAGPORT_P_FOLIOS_TX_ALL p) 1).send (.folio p b)

/-- Whether a folio may go: at most 128 stand unacknowledged, and a DATA folio needs the receiver's credit (R384). -/
def MagPort.mayGo (x : MagPort) (m : MagOut) : Bool :=
  decide ((x.out.filter (fun y => y.sent)).length < 128) && (m.type ≠ 0x12 || decide (m.data.length ≤ x.credit * 65536))

/-- Send what waits, in order, as far as R384 lets it go. -/
def State.magPump (p : Nat) : List MagOut → State → State
  | [], s => s
  | m :: r, s =>
    let x := s.magPort p
    if m.sent then State.magPump p r s
    else if x.mayGo m then
      let y := { x with out := x.out.map (fun o => if o.seq = m.seq then { o with sent := true } else o) }
      State.magPump p r ((s.putMagPort p y).folioWire p m false)
    else s

/-- Pump a port. -/
def State.magFlow (s : State) (p : Nat) : State := State.magPump p (s.magPort p).out s

/-- Send a folio on a port: it takes the next SEQ and is kept until it is acknowledged (R384). -/
def State.magSend (s : State) (p type flags task ofs : Nat) (data : List Byte) : State :=
  let x := s.magPort p
  let m : MagOut := { seq := x.txSeq, type := type, flags := flags, task := task, ofs := ofs, data := data, sent := false }
  (s.putMagPort p { x with txSeq := x.txSeq + 1, out := x.out ++ [m] }).magFlow p

/-- Send a folio that takes no SEQ and is not kept: ACK and RESEND_REQ (assumption log 33). -/
def State.magBare (s : State) (p type : Nat) (data : List Byte) : State :=
  s.folioWire p { seq := (s.magPort p).txSeq, type := type, flags := 0, task := 0, ofs := 0, data := data, sent := true } false

/-- Acknowledge (R384). -/
def State.magAck (s : State) (p : Nat) : State := s.magBare p 0x03 []

/-- Data of a task as DATA folios of at most 65,536 bytes; the last carries LAST where the transfer is whole (R389). -/
def State.magData (s : State) (p task : Nat) (whole : Bool) (data : List Byte) : State :=
  let n := (data.length + 65535) / 65536
  let go := (upto n).foldl (fun (a : List Byte × State) i =>
    (a.1.drop 65536, a.2.magSend p 0x12 (if whole = true ∧ i + 1 = n then 2 else 0) task (i * 65536) (a.1.take 65536))) (data, s)
  go.2

/-- The 32-byte status block of a magazine task (R388). -/
def taskBlock (st det bytes reeve client : Nat) : List Byte :=
  leBytes 2 st ++ leBytes 2 0 ++ leBytes 4 det ++ leBytes 4 bytes ++ leBytes 4 0 ++ leBytes 8 reeve ++ leBytes 8 client

/-- Send the TASK_STATUS of a latched register, where the port is up; otherwise it goes once it is (R400). -/
def State.magStatusSend (s : State) (p r : Nat) : State :=
  let t := s.magTask p r
  if s.magUp p then
    (s.putMagTask p r { t with statSeq := (s.magPort p).txSeq + 1 }).magSend p 0x11 0 r 0 t.block
  else s

/-- Latch a status in a task register and send it (R388). -/
def State.magStatus (s : State) (p r : Nat) (st : Status) (block : List Byte) : State :=
  let t := s.magTask p r
  (s.putMagTask p r { t with state := 2, tag := 0, status := st, block := block ++ t.extra, statSeq := 0 }).magStatusSend p r

end Sys2Proof.Machine
end

