-- ==== Sys2Proof/Machine/Press.lean ====
section
/-! DEFINITION. The Press (R168 to R190): lanes, streams, coding and decoding of grains, and the adaptation
of targets. -/
namespace Sys2Proof.Machine

/-! ### Lanes (R187, R188) -/

/-- A lane some job holds (R169). -/
def State.pressHeld (s : State) (lane : Nat) : Bool := s.press.jobs.any (fun j => j.lane = lane + 1)

/-- Lanes of a kind (0 coder, 1 checker, 2 reader) in a state. -/
def State.pressLanes (s : State) (k st : Nat) : List Nat :=
  ((upto 9).map (fun i => 9 * k + i)).filter (fun l => s.getF (F.PRESS_LANE_STATE.at l) = st)

/-- Give the free lanes of a kind to the jobs that wait for one, in the order of their issue across the head (R169). DESIGN
CHOICE: the lowest free lane serves next (assumption log 24). -/
def State.pressGive (s : State) (k : Nat) : State :=
  let free := (s.pressLanes k 0).filter (fun l => !s.pressHeld l)
  let wait := (s.press.jobs.filter (fun j => j.kind = k && j.lane = 0)).map (fun j => j.id)
  let give := wait.zip free
  { s with press := { s.press with jobs := s.press.jobs.map (fun j =>
      match give.find? (fun p => p.1 = j.id) with
      | some p => { j with lane := p.2 + 1 }
      | none => j) } }

/-- Serve the three queues of the Press (R169). -/
def State.pressServe (s : State) : State := ((s.pressGive 0).pressGive 1).pressGive 2

/-- Recount PRESS_STATE from the lanes; lanes that came serve the queues, and a capacity block follows (R169, R170, R188). -/
def State.pressRecount (s : State) : State :=
  ((((((s.setF F.PRESS_STATE_CODERS (s.pressLanes 0 0).length).setF F.PRESS_STATE_CHECKERS
    (s.pressLanes 1 0).length).setF F.PRESS_STATE_READERS (s.pressLanes 2 0).length).setF
    F.PRESS_STATE_CODER_SPARE (b2n !(s.pressLanes 0 1).isEmpty)).setF
    F.PRESS_STATE_CHECKER_SPARE (b2n !(s.pressLanes 1 1).isEmpty)).setF
    F.PRESS_STATE_READER_SPARE (b2n !(s.pressLanes 2 1).isEmpty)).pressServe.capTrigger

/-- The spare of a kind takes over (R187). -/
def State.pressStandIn (s : State) (k : Nat) : State :=
  match s.pressLanes k 1 with
  | [] => s
  | l :: _ => s.setF (F.PRESS_LANE_STATE.at l) 0

/-- A lane comes back: in service, or the spare where eight of its kind already serve (R188). -/
def State.pressBack (s : State) (lane : Nat) : State :=
  ((s.setF (F.PRESS_LANE_STATE.at lane) (if 8 ≤ (s.pressLanes (lane / 9) 0).length then 1 else 0)).setF
    (F.PRESS_LANE_RETIRE_CAUSE.at lane) 0).pressRecount

/-- Retire a lane that holds no grain: the spare serves, the Council books it, an ALARM (R188). -/
def State.pressOut (s : State) (lane cause : Nat) : State :=
  let was := s.getF (F.PRESS_LANE_STATE.at lane)
  let s1 := (({ s with press := { s.press with drain := s.press.drain.set lane 0 } }.setF (F.PRESS_LANE_STATE.at lane) 3).setF
    (F.PRESS_LANE_RETIRE_CAUSE.at lane) cause)
  let s2 := (if was = 0 then s1.pressStandIn (lane / 9) else s1).pressRecount
  ((s2.spareCall kPress lane).holdRestart).alarm blkPRESS 0 0 (lane * 256 + cause) []

/-- A lane that holds a grain is DRAINING: the spare of its kind serves in its place, and once the grain is finished the lane
enters TESTING (goal 1) or RETIRED (goal 2 plus the cause) (R187, R188). -/
def State.pressDraining (s : State) (lane goal : Nat) : State :=
  let was := s.getF (F.PRESS_LANE_STATE.at lane)
  let s1 := ({ s with press := { s.press with drain := s.press.drain.set lane goal } }.setF (F.PRESS_LANE_STATE.at lane) 4).setF
    F.PRESS_LANE_CTL_BUSY 1
  (if was = 0 then s1.pressStandIn (lane / 9) else s1).pressRecount

/-- Retire a lane (R188): at once, or when it has finished its grain. -/
def State.pressRetire (s : State) (lane cause : Nat) : State :=
  if s.pressHeld lane then s.pressDraining lane (2 + cause) else s.pressOut lane cause

/-- A lane's grain is finished or gone: one that is DRAINING enters TESTING or RETIRED; then the queues are served (R187). -/
def State.pressRest (s : State) (lane : Nat) : State :=
  if s.getF (F.PRESS_LANE_STATE.at lane) = 4 then
    (match s.press.drain.get lane with
      | 0 => s
      | 1 => ({ s with press := { s.press with drain := s.press.drain.set lane 0 } }.setF (F.PRESS_LANE_STATE.at lane) 2).pressRecount
      | n + 2 => (s.setF F.PRESS_LANE_CTL_BUSY 0).pressOut lane n)
  else s.pressServe

/-- Take jobs away; the lanes they held come free. -/
def State.pressDrop (s : State) (p : PressJob → Bool) : State :=
  let lanes := (s.press.jobs.filter (fun j => p j && decide (j.lane ≠ 0))).map (fun j => j.lane - 1)
  lanes.foldl State.pressRest { s with press := { s.press with jobs := s.press.jobs.filter (fun j => !p j) } }

/-- At a start no lane holds a grain and none is under test: what drained for its retirement is retired, every other lane
that is out for a test comes back (R187, R188). -/
def State.pressIn (s : State) : State :=
  let s1 := (upto 27).foldl (fun s l =>
    let st := s.getF (F.PRESS_LANE_STATE.at l)
    if st = 2 then s.pressBack l
    else if st = 4 then
      (if 2 ≤ s.press.drain.get l then s.pressOut l (s.press.drain.get l - 2)
       else { s with press := { s.press with drain := s.press.drain.set l 0 } }.pressBack l)
    else s) s
  (upto 64).foldl (fun s t => if s.getF (F.PRESS_STREAM_CFG_OPEN.at (0x1000 + t)) = 1 then
    s.setF (F.PRESS_STREAM_CFG_OPEN.at (0x1000 + t)) 0 else s) s1

/-- The selected lane, or none for a number no lane has. -/
def State.pressSel (s : State) : Option Nat :=
  if s.getF F.PRESS_LANE_SEL_VAL < 27 then some (s.getF F.PRESS_LANE_SEL_VAL) else none

/-- A lane request: BUSY refuses it with 0x8080 (R190). -/
def State.pressRequest (s : State) (f : Nat → State → State) : State :=
  match s.pressSel with
  | none => s
  | some lane => if s.getF F.PRESS_LANE_CTL_BUSY = 1 then s.stat F.PRESS_LANE_CTL_STATUS 0x8080 else f lane s

/-- Queue a test or a restore of a lane and show BUSY. -/
def State.pressQueue (s : State) (lane : Nat) (restore : Bool) : State :=
  (((s.stat F.PRESS_LANE_CTL_STATUS 0).setF F.PRESS_LANE_CTL_RETRY_MS 0).setF F.PRESS_LANE_CTL_BUSY 1).queueTest
    (ownTest kPress lane restore)

/-- PRESS_LANE_CTL.TEST (R188). -/
def execPressLaneTest (s : State) : Res := .next (s.pressRequest (fun l s => s.pressQueue l false))

/-- PRESS_LANE_CTL.RESTORE of a RETIRED lane (R188, R190). -/
def execPressLaneRestore (s : State) : Res :=
  .next (s.pressRequest (fun l s =>
    if s.getF (F.PRESS_LANE_STATE.at l) = 3 then s.pressQueue l true else s.stat F.PRESS_LANE_CTL_STATUS 0x7081))

/-- Lanes of its kind that would serve after a lane is retired. -/
def State.pressLeft (s : State) (lane : Nat) : Nat :=
  (s.pressLanes (lane / 9) 0).length -
    b2n (s.getF (F.PRESS_LANE_STATE.at lane) = 0 && (s.pressLanes (lane / 9) 1).isEmpty)

/-- A lane fails during an operation: retired with cause 0x04. The operation runs again once, on the spare or on another lane
of the kind, in its place in the order of issue; one whose second lane fails too, or for which no lane of the kind is left,
fails as a unit does (R188, R189, R120). -/
def State.pressLaneFail (s : State) (lane : Nat) : State :=
  let st := s.getF (F.PRESS_LANE_STATE.at lane)
  if 27 ≤ lane ∨ st = 2 ∨ st = 3 then s
  else
    let again (j : PressJob) : PressJob :=
      if j.lane ≠ lane + 1 then j
      else if j.tries = 0 then { j with lane := 0, tries := 1 }
      else { j with lane := 0, kind := 3 }
    let s1 := ({ s with press := { s.press with jobs := s.press.jobs.map again } }.satF (F.PRESS_LANE_FAULTS.at lane)).pressOut lane 4
    if (s1.pressLanes (lane / 9) 0).isEmpty then
      { s1 with press := { s1.press with jobs := s1.press.jobs.map (fun j =>
          if j.kind = lane / 9 ∧ j.tries = 1 ∧ j.lane = 0 then { j with kind := 3 } else j) } }
    else s1

/-- A lane is withdrawn for its test (R188): it drains first. -/
def State.pressWithdraw (s : State) (lane : Nat) : State :=
  let st := s.getF (F.PRESS_LANE_STATE.at lane)
  let s1 := s.setF F.PRESS_LANE_CTL_BUSY 1
  if st = 0 ∧ s.pressHeld lane = true then s.pressDraining lane 1
  else if st = 0 then ((s1.setF (F.PRESS_LANE_STATE.at lane) 2).pressStandIn (lane / 9)).pressRecount
  else if st = 1 then (s1.setF (F.PRESS_LANE_STATE.at lane) 2).pressRecount
  else s1

/-- Count a transient mismatch of a coder lane; the third in 24 operating hours retires it (R188). -/
def State.pressTransient (s : State) (lane : Nat) : State :=
  let l := (s.press.transient.get lane).filter (fun t => s.opsec < t + 86400) ++ [s.opsec]
  let s1 := { s with press := { s.press with transient := s.press.transient.set lane l } }
  if 3 ≤ l.length ∧ s.getF (F.PRESS_LANE_STATE.at lane) < 2 then s1.pressRetire lane 3 else s1

/-- A lane's test ends (R188): it returns, or is retired with cause 0x02; after a mismatch the coder lane is tested first and
the checker lane second, and both passing counts as transient. -/
def State.pressTestDone (s : State) (r : TestReq) (pass : Bool) : State :=
  let st := s.getF (F.PRESS_LANE_STATE.at r.unit)
  let s1 := s.setF F.PRESS_LANE_CTL_BUSY 0
  let s2 :=
    if st = 2 then (if pass then s1.pressBack r.unit else s1.pressRetire r.unit 2)
    else if st = 3 ∧ r.restore = true ∧ pass = true then s1.pressBack r.unit
    else s1
  let s3 := if r.source = 2 then s2.setF F.PRESS_LANE_CTL_STATUS (if pass then 0 else 0x4080) else s2
  if r.source = 3 then
    s3.queueTest { ownTest kPress (r.partner - 1) false with source := 4, partner := if pass then r.unit + 1 else 0 }
  else if r.source = 4 ∧ pass = true ∧ r.partner ≠ 0 then s3.pressTransient (r.partner - 1)
  else s3

/-! ### Streams (R172 to R174, R190) -/

/-- Whether a stream number is in the valid range. -/
def streamValid (n : Nat) : Bool := decide (n < 0x1040)

/-- Whether a stream is open. -/
def State.streamOpen (s : State) (n : Nat) : Bool := streamValid n && s.getF (F.PRESS_STREAM_CFG_OPEN.at n) = 1

/-- Keep a value inside bounds. -/
def clamp (lo hi v : Nat) : Nat := if v < lo then lo else if hi < v then hi else v

/-- Clear a stream's counts at an opening (R173, R185). -/
def State.streamClear (s : State) (n : Nat) : State :=
  let s1 := ((s.setF (F.PRESS_STREAM_GRAINS_ALL.at n) 0).setF (F.PRESS_STREAM_RAW_ALL.at n) 0).setF
    (F.PRESS_STREAM_SLOTS_ALL.at n) 0
  (upto 16).foldl (fun s k =>
    { s.setF ((F.PRESS_STREAM_HIST_ALL.nth k).at n) 0 with
      press := { s.press with histMark := s.press.histMark.set (n * 16 + k) 0 } }) s1

/-- Open the stream of a volume at its binding (R173). -/
def State.streamOpenVol (s : State) (v : Nat) : State :=
  let lo := s.getF (F.PRESS_STREAM_CFG_TARGET_MIN.at v)
  let hi := s.getF (F.PRESS_STREAM_CFG_TARGET_MAX.at v)
  let s1 := if s.press.everSet.get v then s
    else s.setF (F.PRESS_STREAM_CFG_TARGET.at v) (clamp lo hi (s.getF F.PRESS_ADAPT_START))
  ({ s1 with press := { s1.press with everSet := s1.press.everSet.set v true
                                      closing := s1.press.closing.filter (fun x => x ≠ v) } }.streamClear v).setF
    (F.PRESS_STREAM_CFG_OPEN.at v) 1

/-- Open the stream of a take at its grant, from the stream of its volume (R173). -/
def State.streamOpenTake (s : State) (take vol : Nat) : State :=
  let n := 0x1000 + take
  let lo := s.getF (F.PRESS_STREAM_CFG_TARGET_MIN.at vol)
  let hi := s.getF (F.PRESS_STREAM_CFG_TARGET_MAX.at vol)
  let s1 := ((s.streamClear n).setF (F.PRESS_STREAM_CFG_TARGET_MIN.at n) lo).setF (F.PRESS_STREAM_CFG_TARGET_MAX.at n) hi
  let s2 := (s1.setF (F.PRESS_STREAM_CFG_RAW_ONLY.at n) (s.getF (F.PRESS_STREAM_CFG_RAW_ONLY.at vol))).setF
    (F.PRESS_STREAM_CFG_PIN.at n) 0
  ({ s2 with press := { s2.press with closing := s2.press.closing.filter (fun x => x ≠ n) } }.setF
    (F.PRESS_STREAM_CFG_TARGET.at n) (clamp lo hi (s.getF F.PRESS_ADAPT_START))).setF (F.PRESS_STREAM_CFG_OPEN.at n) 1

/-- Whether a PRESS.C of a stream is outstanding anywhere on the head. -/
def State.streamBusy (s : State) (n : Nat) : Bool :=
  s.hands.ctxs.any (fun p => p.2.ops.any (fun o => o.op = .pressC && o.ra.toNat % 2 ^ 16 = n))

/-- Close a stream, once its last operation has completed (R189). -/
def State.streamClose (s : State) (n : Nat) : State :=
  if s.streamBusy n then { s with press := { s.press with closing := n :: s.press.closing } }
  else { s with press := { s.press with closing := s.press.closing.filter (fun x => x ≠ n) } }.setF
    (F.PRESS_STREAM_CFG_OPEN.at n) 0

/-- A write of PRESS_STREAM_CFG for the selected stream (R190). -/
def State.streamCfgWrite (s : State) (v : Word) : State :=
  let n := s.getF F.PRESS_STREAM_SEL_VAL
  let lo := F.PRESS_STREAM_CFG_TARGET_MIN.get v
  let hi := F.PRESS_STREAM_CFG_TARGET_MAX.get v
  let old := s.getF (F.PRESS_STREAM_CFG_TARGET.at n)
  let t := clamp lo hi (F.PRESS_STREAM_CFG_TARGET.get v)
  if streamValid n = false then s.answer 0x5080
  else if 0x1000 ≤ n ∧ s.streamOpen n = false then s.answer 0x7080
  else if lo = 0 ∨ hi = 0 ∨ hi < lo then s.stat (F.PRESS_STREAM_CFG_STATUS.at n) 0x5080
  else
    let s1 := ((s.stat (F.PRESS_STREAM_CFG_STATUS.at n) 0).setF (F.PRESS_STREAM_CFG_TARGET_MIN.at n) lo).setF
      (F.PRESS_STREAM_CFG_TARGET_MAX.at n) hi
    let s2 := ((s1.setF (F.PRESS_STREAM_CFG_RAW_ONLY.at n) (F.PRESS_STREAM_CFG_RAW_ONLY.get v)).setF
      (F.PRESS_STREAM_CFG_PIN.at n) (F.PRESS_STREAM_CFG_PIN.get v)).setF (F.PRESS_STREAM_CFG_TARGET.at n) t
    let s3 := { s2 with press := { s2.press with everSet := s2.press.everSet.set n true } }
    if t = old then s3 else (s3.setF (F.PRESS_STREAM_TSEQ_ALL.at n) s3.now).tick

/-- PRESS_STREAM_CFG is written (R190). -/
def execPressStreamCfgWrite (v : Word) (s : State) : Res := .next (s.streamCfgWrite v)

/-- Set a stream's target for the Council: the status, and the state (R186). -/
def State.streamTarget (s : State) (n t : Nat) : Status × State :=
  if s.streamOpen n = false ∨ s.getF (F.PRESS_STREAM_CFG_PIN.at n) = 1 ∨ s.press.closing.contains n = true then (0x7080, s)
  else if t = 0 ∨ t < s.getF (F.PRESS_STREAM_CFG_TARGET_MIN.at n) ∨ s.getF (F.PRESS_STREAM_CFG_TARGET_MAX.at n) < t then
    (0x5080, s)
  else if t = s.getF (F.PRESS_STREAM_CFG_TARGET.at n) then (0, s)
  else (0, ((s.setF (F.PRESS_STREAM_CFG_TARGET.at n) t).setF (F.PRESS_STREAM_TSEQ_ALL.at n) s.now).tick)

/-! ### Adaptation (R185) -/

/-- Growth of a stream's histogram since the last window. -/
def State.histGrowth (s : State) (n : Nat) : List Nat :=
  (upto 16).map (fun k => s.getF ((F.PRESS_STREAM_HIST_ALL.nth k).at n) - s.press.histMark.get (n * 16 + k))

/-- Grains of natural size at most t. -/
def fits (h : List Nat) (t : Nat) : Nat := (h.take t).foldl (· + ·) 0

/-- Cost of a target, in slots times grains. -/
def cost (h : List Nat) (t : Nat) : Nat := t * fits h t + 16 * (fits h 16 - fits h t)

/-- The best target of R185 among those that meet the floor: least cost, ties to the higher. -/
def bestTarget (h : List Nat) (floor lo hi : Nat) : Nat :=
  ((upto 16).filter (fun t => decide (lo ≤ t) && decide (t ≤ hi) &&
      decide (floor * fits h 16 ≤ 1000 * fits h t))).foldl
    (fun b t => match b with
      | none => some t
      | some u => if cost h t ≤ cost h u then some t else some u) none |>.getD hi

/-- One stream at a window's end. -/
def State.adaptStream (s : State) (n : Nat) : State :=
  let h := s.histGrowth n
  let t := s.getF (F.PRESS_STREAM_CFG_TARGET.at n)
  let mark := (upto 16).foldl (fun (m : AMap Nat) k =>
    m.set (n * 16 + k) (s.getF ((F.PRESS_STREAM_HIST_ALL.nth k).at n))) s.press.histMark
  let s1 := { s with press := { s.press with histMark := mark } }
  if s.streamOpen n = false ∨ s.getF (F.PRESS_STREAM_CFG_PIN.at n) = 1 ∨ s.getF (F.PRESS_STREAM_CFG_RAW_ONLY.at n) = 1 then s1
  else if fits h 16 < s.getF F.PRESS_ADAPT_MIN_GRAINS then s1
  else
    let b := bestTarget h (s.getF F.PRESS_ADAPT_FIT_FLOOR) (s.getF (F.PRESS_STREAM_CFG_TARGET_MIN.at n))
      (s.getF (F.PRESS_STREAM_CFG_TARGET_MAX.at n))
    if t < b then (s1.streamTarget n b).2 else if b < t then (s1.streamTarget n (t - 1)).2 else s1

/-- Each WINDOW_MS the Council adapts every open stream (R185). -/
def execPressAdaptWindow (s : State) : Res :=
  .next (((upto 0x1040).filter (fun n => s.streamOpen n)).foldl State.adaptStream s)

/-! ### PRESS.C and PRESS.D (R109, R174 to R184) -/

/-- The target a PRESS.C issued now applies: 0 where the grain is stored raw without reference to it (R174). -/
def State.pressTargetNow (s : State) (n : Nat) (forceRaw : Bool) : Nat :=
  if forceRaw = true ∨ s.getF (F.PRESS_STREAM_CFG_RAW_ONLY.at n) = 1 ∨ s.feat 32 = false ∨ s.getF F.WARDEN_GRADE_GRADE = 2 then 0
  else s.getF (F.PRESS_STREAM_CFG_TARGET.at n)

/-- Whether the chained descriptor can take the rest of an output of n bytes (R180). -/
def State.chainOk (s : State) (e : Eng) (o : AccelOp) (n : Nat) : Bool :=
  descValid o.dc && decide (descSpace o.dc < 2) && descWrite o.dc && descLen o.dc % 4096 = 0 &&
    decide (n ≤ descLen o.db + descLen o.dc) && !viewsOverlap o.dc o.da &&
    (descLen o.dc = 0 || (s.spaceTrap e (descSpace o.dc) (descAddr o.dc) (descLen o.dc) true).isNone)

/-- The last fault of the Press (R190). -/
def State.pressLastFault (s : State) (tag code lane : Nat) : State :=
  ((((s.setF F.PRESS_LAST_FAULT_TAG tag).setF F.PRESS_LAST_FAULT_CODE code).setF F.PRESS_LAST_FAULT_LANE lane).setN
    R.PRESS_LAST_FAULT_SEQ s.now).tick

/-- A checker mismatch: counts, a LOG record and tests of both lanes (R179). -/
def State.pressMismatch (s : State) (tag stream coder checker : Nat) : State :=
  let s1 := ((s.addN R.PRESS_MISMATCH 1).satF (F.PRESS_LANE_MISMATCHES.at coder)).satF (F.PRESS_LANE_MISMATCHES.at checker)
  ((s1.log blkPRESS 0 0 0 (leBytes 2 tag ++ leBytes 2 stream ++ leBytes 1 coder ++ leBytes 1 checker)).pressLastFault
    tag 0x80 coder).queueTest { ownTest kPress coder false with source := 3, partner := checker + 1 }

/-- Whether a copy of a grain is coded under the operation's target, or stored raw (R174, R177). -/
def pressCoded (o : AccelOp) (x : List Byte) : Bool := decide (o.n ≠ 0) && decide (naturalSize x ≤ o.n)

/-- Completion of PRESS.C (R177 to R180) from the copy x of its grain: the completion word and the state. lanes are those
that coded and checked it; the checker may have rejected the coded form. -/
def State.pressCDone (s : State) (e : Eng) (o : AccelOp) (tag : Nat) (x : List Byte) (mism : Bool) (lanes : Nat × Nat) :
    Nat × State :=
  let stream := o.ra.toNat % 2 ^ 16
  let natural := naturalSize x
  let raw := !pressCoded o x || mism
  let out := if raw then x else codeGrain o.n x
  let slots := if raw then 16 else o.n
  let s0 := if mism then s.pressMismatch tag stream lanes.1 lanes.2 else s
  let s1 := if o.n = 0 then s0 else s0.addF ((F.PRESS_STREAM_HIST_ALL.nth (min natural 16 - 1)).at stream) 1
  let s2 := s1.addF (F.PRESS_STREAM_GRAINS_ALL.at stream) 1
  let chained := decide (descLen o.db < out.length)
  if chained = true ∧ s.chainOk e o out.length = false then (0x8054, s2)
  else
    let s3 := (s2.wrView e.unitNo o.db (out.take (descLen o.db))).wrView e.unitNo o.dc (out.drop (descLen o.db))
    let s4 := (if raw then ((s3.addN R.PRESS_RAW 1).countEv 0x08 1 16).addF (F.PRESS_STREAM_RAW_ALL.at stream) 1 else s3.addN R.PRESS_CODED 1).addF
      (F.PRESS_STREAM_SLOTS_ALL.at stream) slots
    (crc32c x * 2 ^ 32 + b2n chained * 2 ^ 25 + b2n mism * 2 ^ 24 + b2n raw * 2 ^ 23 + slots * 2 ^ 16, s4)

/-- The job of an operation at the Press. -/
def State.pressJob (s : State) (o : AccelOp) : Option PressJob := s.press.jobs.find? (fun j => j.id = o.id)

/-- A stage of PRESS.C ends (R169, R179, R181). A job that waits for its lane goes on waiting. At its coder lane the grain has
been copied and coded: one stored raw is complete; one coded leaves its lane and waits for a checker lane. At its checker
lane the coded form has been compared with the copy; env.m says whether it was rejected. One issued in MINIMAL takes no lane
(R168). -/
def State.pressCStep (s : State) (e : Eng) (o : AccelOp) (tag : Nat) (env : Env) : Option Nat × State :=
  let full (r : Nat × State) : Option Nat × State := (some r.1, r.2)
  let x := s.viewBytes e.unitNo o.da
  match s.pressJob o with
  | none => full (s.pressCDone e { o with n := 0 } tag x false (0, 0))
  | some j =>
    if j.kind = 3 then (some 0xF050, s)
    else if j.lane = 0 then (none, s)
    else if j.kind = 0 then
      if pressCoded o x = false then full (s.pressCDone e o tag x false (0, 0))
      else
        let next : PressJob := { j with kind := 1, lane := 0, coder := j.lane - 1, tries := 0, copy := x }
        (none, { s with press := { s.press with jobs := s.press.jobs.map (fun (y : PressJob) => if y.id = j.id then next else y) } }.pressRest
          (j.lane - 1))
    else full (s.pressCDone e o tag j.copy (decide (0 < env.m)) (j.coder, j.lane - 1))

/-- The map entry of the context's latest READ_ENTRY whose db overlapped a view, or zeros (R184). -/
def Ctx.entryFor (c : Ctx) (da : BitVec 128) : List Byte :=
  match c.readEntry.find? (fun p => descValid p.1 && viewsOverlap p.1 da) with
  | some p => p.2
  | none => List.replicate 16 0

/-- The Watch takes the sheaf that holds an entry's grain at its next pass (R184); none for the zero entry. -/
def State.watchEntry (s : State) (b : List Byte) : State :=
  let m := leNat (b.take 16)
  let k := m % 2 ^ 55 / 1024
  if m = 0 then s else { s with hold := { s.hold with watchQ := if s.hold.watchQ.contains k then s.hold.watchQ else k :: s.hold.watchQ } }

/-- Completion of PRESS.D (R182 to R184) at its reader lane. -/
def State.pressDDone (s : State) (e : Eng) (c : Ctx) (o : AccelOp) (tag lane : Nat) : Nat × State :=
  let d := s.viewBytes e.unitNo o.da
  let slots := descLen o.da / 4096
  let r := if descLen o.da = 65536 then Except.ok d else decodeGrain d
  let s0 := s.addN R.PRESS_DECODED 1
  match r with
  | .ok x => (crc32c x * 2 ^ 32 + slots * 2 ^ 16, s0.wrView e.unitNo o.db x)
  | .error f =>
    let s1 := (s0.wrView e.unitNo o.db (List.replicate (descLen o.db) 0)).addN R.PRESS_DECODE_FAULT 1
    let s2 := (s1.pressLastFault tag f lane).log blkPRESS 4 0x4050 0
      (leBytes 2 tag ++ leBytes 1 f ++ c.entryFor o.da)
    (0x4050 + f * 2 ^ 24 + slots * 2 ^ 16, s2.watchEntry (c.entryFor o.da))

/-- PRESS.D ends at its reader lane, or goes on waiting for one (R169). -/
def State.pressDStep (s : State) (e : Eng) (c : Ctx) (o : AccelOp) (tag : Nat) : Option Nat × State :=
  match s.pressJob o with
  | none => (none, s)
  | some j =>
    if j.kind = 3 then (some 0xF050, s)
    else if j.lane = 0 then (none, s)
    else let r := s.pressDDone e c o tag (j.lane - 1); (some r.1, r.2)

/-- An operation that has just issued joins the queue of its kind of lane (R169). -/
def State.pressJoin (s : State) (e : Eng) (kind : Nat) : State :=
  let j : PressJob := { key := e.key, id := s.hands.opSeq - 1, kind := kind, lane := 0, coder := 0, tries := 0, copy := [] }
  { s with press := { s.press with jobs := s.press.jobs ++ [j] } }.pressServe

/-- PRESS.C issues (R109, R172, R174) and joins the coder queue, but in MINIMAL, where only reader lanes run (R168). -/
def execPressC (e : Eng) (rd : GReg) (da db : DReg) (ra : GReg) (imm : BitVec 8) (s : State) : Res :=
  .next (s.thenIf e (s.accelIssue e rd ra
    (fun c s => { mkAccel .pressC c rd (some da) (some db) ra imm.toNat with
      n := s.pressTargetNow ((c.rg ra.toNat).toNat % 2 ^ 16) (imm.getLsbD 0) })
    (e.kind = .hand) (fun c => [⟨c.rd da.toNat, true, false⟩, ⟨c.rd db.toNat, false, true⟩])
    (fun c s => descLen (c.rd da.toNat) = 65536 && descLen (c.rd db.toNat) % 4096 = 0 &&
      decide (4096 ≤ descLen (c.rd db.toNat)) && s.streamOpen ((c.rg ra.toNat).toNat % 2 ^ 16)))
    (fun t => if t.getF F.WARDEN_GRADE_GRADE = 2 then t else t.pressJoin e 0))

/-- PRESS.D issues (R109) and joins the reader queue (R169). -/
def execPressD (e : Eng) (rd : GReg) (da db : DReg) (ra : GReg) (imm : BitVec 8) (s : State) : Res :=
  .next (s.thenIf e (s.accelIssue e rd ra (fun c _ => mkAccel .pressD c rd (some da) (some db) ra imm.toNat)
    (e.kind = .hand) (fun c => [⟨c.rd da.toNat, true, false⟩, ⟨c.rd db.toNat, false, true⟩])
    (fun c _ => descLen (c.rd da.toNat) % 4096 = 0 && decide (4096 ≤ descLen (c.rd da.toNat)) &&
      decide (descLen (c.rd da.toNat) ≤ 65536) && descLen (c.rd db.toNat) = 65536))
    (fun t => t.pressJoin e 2))

end Sys2Proof.Machine
end

