-- ==== Sys2Proof/Machine/Docket.lean ====
section
/-! DEFINITION. The Docket (R122 to R146): queues, tags, acceptance, the Toll's windows (R158 to R161),
completion, freezing and aborts. The commands that arrive on the wires are in Nvme.lean. -/
namespace Sys2Proof.Machine

/-! ### Tags and queues -/

/-- A tag. -/
def State.tagOf (s : State) (t : Nat) : Tag := s.docket.tags.get t

/-- Put a tag. -/
def State.putTag (s : State) (t : Nat) (v : Tag) : State := { s with docket := { s.docket with tags := s.docket.tags.set t v } }

/-- A queue. -/
def State.queueOf (s : State) (q : Nat) : Queue := s.docket.queues.get q

/-- Put a queue. -/
def State.putQueue (s : State) (q : Nat) (v : Queue) : State :=
  { s with docket := { s.docket with queues := s.docket.queues.set q v } }

/-- Tags not FREE that meet a test. -/
def State.tagsBy (s : State) (f : Tag → Bool) : List Nat :=
  (s.docket.tags.filter (fun p => p.2.state ≠ .free && f p.2)).map Prod.fst

/-- Tags of a queue not FREE. -/
def State.tagsOfQueue (s : State) (q : Nat) : List Nat := s.tagsBy (fun t => t.queue = q)

/-- The lowest number from lo on that a rising list of numbers does not hold. -/
def lowestFree (lo : Nat) (l : List Nat) : Nat := l.foldl (fun n k => if k = n then n + 1 else n) lo

/-- Insert by Reeve number of acceptance. -/
def insertByReeve (s : State) (t : Nat) : List Nat → List Nat
  | [] => [t]
  | u :: r => if (s.tagOf t).reeve ≤ (s.tagOf u).reeve then t :: u :: r else u :: insertByReeve s t r

/-- Tags in Reeve order. -/
def State.inReeveOrder (s : State) (l : List Nat) : List Nat := l.foldr (insertByReeve s) []

/-- Queue kinds of R122. -/
def kAdmin : Nat := 1
def kNvme : Nat := 2
def kCarrier : Nat := 3
def kMagazine : Nat := 4
def kTake : Nat := 5
def kInternal : Nat := 6

/-- External tags reserved by queue depths (R123). -/
def State.reservedExt (s : State) : Nat :=
  s.docket.queues.foldl (fun n p => if p.2.kind ≠ 0 ∧ p.2.kind ≠ kInternal then n + p.2.depth else n) 0

/-- Whether an INTERNAL queue has a free tag. -/
def State.internalRoom (s : State) (q : Nat) : Bool := decide ((s.tagsOfQueue q).length < (s.queueOf q).depth)

/-- Queues in use. -/
def State.queuesUsed (s : State) : Nat := (s.docket.queues.filter (fun p => p.2.kind ≠ 0)).length

/-- The lowest queue number not in use. -/
def State.freeQueue (s : State) : Nat :=
  lowestFree 0 ((s.docket.queues.filter (fun p => p.2.kind ≠ 0)).map Prod.fst)

/-- Create a queue: its number, or the status that refuses it (R122, R123). -/
def State.createQueue (s : State) (kind depth cls source ctrl qid : Nat) : Except Status (Nat × State) :=
  if kind ≠ kInternal ∧ 61440 < s.reservedExt + depth then .error 0x8060
  else if 4096 ≤ s.queuesUsed then .error 0x8063
  else
    let q := s.freeQueue
    .ok (q, s.putQueue q { kind := kind, depth := depth, cls := cls, state := 0, source := source, ctrl := ctrl
                           qid := qid, errors := 0, ring := [], byError := false })


/-- A controller. -/
def State.ctrlOf (s : State) (c : Nat) : Ctrl := s.docket.ctrls.get c

/-- Put a controller. -/
def State.putCtrl (s : State) (c : Nat) (v : Ctrl) : State := { s with docket := { s.docket with ctrls := s.docket.ctrls.set c v } }

/-- A take. -/
def State.takeOf (s : State) (k : Nat) : Take := s.toll.takes.get k

/-- Put a take. -/
def State.putTake (s : State) (k : Nat) (v : Take) : State := { s with toll := { s.toll with takes := s.toll.takes.set k v } }

/-! ### Volumes, modes and ownership -/

/-- A volume. -/
def State.volOf (s : State) (v : Nat) : Vol := s.docket.vols.get v

/-- Put a volume. -/
def State.putVol (s : State) (v : Nat) (x : Vol) : State := { s with docket := { s.docket with vols := s.docket.vols.set v x } }

/-- Whether this head owns a commons. -/
def State.owns (s : State) (c : Nat) : Bool := s.getF (F.HOLD_CMN_OWNED.at c) = 1

/-- The ownership epoch of a commons, a class 0x7 detail word (R137). -/
def State.epochOf (s : State) (c : Nat) : Nat := s.hold.epoch.get c

/-- Whether a planned move holds a volume's new commands (R413). -/
def State.moving (s : State) (v : Nat) : Bool :=
  match s.pair.move with
  | some m => m.giving && m.commons.contains (s.volOf v).commons
  | none => false

/-- Whether a command is held by a planned move. -/
def State.moveHeld (s : State) (g : Tag) : Bool := decide (g.entry < 16) && s.moving g.vol

/-- Metadata bytes of a leaf by format (R130). -/
def metaBytes (format : Nat) : Nat := if format = 1 then 8 else if format = 2 then 16 else 0

/-- Whether an entry writes (R131). -/
def entryWrites (entry : Nat) : Bool := [1, 2, 3, 7, 8, 9].contains entry

/-- The status with which the mode refuses a host command, 0 where it is served (R31). -/
def State.modeStatus (s : State) (write : Bool) : Status :=
  match s.mode with
  | .bootstrap => 0x8061
  | .joining => 0x8061
  | .service => 0x7062
  | .replay => 0x7062
  | .holdup => 0x8061
  | .sealedMode => if write then 0x8062 else 0
  | _ => 0

/-- The recipe of a volume. -/
def State.recipeOf (s : State) (v : Nat) : Recipe := s.hands.recipes.get ((s.volOf v).slot - 1)

/-- The word of an entry in a recipe's table (R82); 0xFFFFFFFF marks an absent entry. -/
def Recipe.entryWord (r : Recipe) (entry : Nat) : Nat := r.entries.getD entry 0xFFFFFFFF

/-! ### The Docket record and STAGE (R127, R54) -/

/-- First STAGE byte of a tag's data (assumption log 15). -/
def stageBase (t : Nat) : Nat := t * 2 ^ 28

/-- First STAGE byte of a tag's protection information (assumption log 15). -/
def piBase (t : Nat) : Nat := 2 ^ 44 + t * 2 ^ 20

/-- The 64 bytes of a Docket record (R127). -/
def State.recordBytes (s : State) (t : Nat) (g : Tag) : List Byte :=
  leBytes 2 t ++ leBytes 2 g.queue ++ leBytes 1 (s.queueOf g.queue).kind ++ leBytes 1 g.entry ++
    leBytes 2 (b2n g.ordered + g.flags) ++ leBytes 8 g.reeve ++ leBytes 8 (g.vol * 2 ^ 52 + g.leaf) ++
    leBytes 4 g.leaves ++ leBytes 4 g.declared ++ leBytes 4 g.arrived ++ leBytes 4 0 ++
    (leBytes 2 g.cid ++ leBytes 2 g.qid ++ leBytes 4 g.peer) ++ leBytes 2 g.stream ++ leBytes 2 g.appTag ++
    leBytes 2 g.appMask ++ leBytes 2 0 ++ leBytes 8 g.refTag

/-- Mirror a tag's entry of the in-flight table: the Docket record, the tag state with bit 8 set once its group has
committed, and the CLIENT of a magazine task (R257, R259, assumption log 18). -/
def State.mirrorTag (s : State) (t : Nat) : State :=
  let g := s.tagOf t
  let q := s.queueOf g.queue
  s.mirror 0x06 (s.recordBytes t g ++ leBytes 8 (g.state.code + 256 * b2n g.committing) ++
    leBytes 8 (if q.kind = kMagazine then (s.magTask q.source g.taskReg).client else 0))

/-- Write a tag's Docket record to HBM (R126); the partner's copy follows (R259). -/
def State.writeRecord (s : State) (t : Nat) : State :=
  (s.wrBytes (s.plan.recordBase + 64 * t) (s.recordBytes t (s.tagOf t))).mirrorTag t

/-! ### Hazards and order (R131, R132) -/

/-- Whether a tag stands before its END or completion. -/
def Tag.pending (g : Tag) : Bool := g.state ≠ .free && !g.ended

/-- Whether two commands conflict (R131). -/
def conflict (a b : Tag) : Bool :=
  a.vol = b.vol && decide (a.entry < 16) && decide (b.entry < 16) && (entryWrites a.entry || entryWrites b.entry) &&
    decide (a.leaf < b.leaf + b.leaves) && decide (b.leaf < a.leaf + a.leaves)

/-- The dispatch condition but for the Toll (R132). -/
def State.clearToGo (s : State) (t : Nat) : Bool :=
  let g := s.tagOf t
  g.state = .waiting && (s.queueOf g.queue).state = 0 && (!g.inbound || g.arrived = g.declared) &&
    s.docket.tags.all (fun p => p.1 = t || !p.2.pending || decide (g.reeve < p.2.reeve) ||
      (!conflict p.2 g && !(p.2.queue = g.queue && (p.2.ordered || g.ordered))))

/-! ### The Toll's windows (R158, R159) -/

/-- Bytes of tokens a command needs (R159). -/
def Tag.need (g : Tag) : Nat := g.declared

/-- The take that holds a queue's gate, if any: one that is NONE or LAPSED holds none (R156). -/
def State.takeOfQueue (s : State) (q : Nat) : Option Nat :=
  (s.toll.takes.find? (fun p => p.2.state ≠ 0 && p.2.state ≠ 5 && p.2.queue = q)).map Prod.fst

/-- The gate a command of class TAKE passes: its take's, or for a keeper's MAGAZINE queue that of the take held on its
port (R158). -/
def State.gateOf (s : State) (q : Nat) : Option Nat :=
  let x := s.queueOf q
  if x.kind = kMagazine then
    (s.toll.takes.find? (fun p => (p.2.state = 1 || p.2.state = 2 || p.2.state = 3) && p.2.port = 0x10 + x.source)).map Prod.fst
  else s.takeOfQueue q

/-- The Toll lets a command pass: its tokens are taken and its delay is known. -/
def State.tollPass (s : State) (t : Nat) : State :=
  let g := s.tagOf t
  let s1 := s.putTag t { g with tollPassed := true, tollFrom := 0
                                tollUs := g.tollUs + if g.tollFrom = 0 then 0 else s.time + 1 - g.tollFrom }
  s1.addF (F.TOLL_CLASS_BYTES_ALL.nth (s.queueOf g.queue).cls) g.need

/-- Whether a balance lets a command pass: it holds the bytes the command needs, or is at its most where the command needs
more than that (R159, assumption log 23). -/
def enough (bal : Int) (need most : Nat) : Bool :=
  decide ((need : Int) ≤ bal) || (decide (0 < most) && decide (most < need) && decide ((most : Int) ≤ bal))

/-- The most a take's gate holds: one region, and no less than a window's share (R156). -/
def Take.gateMost (x : Take) : Nat :=
  max (x.regFrames * ((x.frameBytes + 65535) / 65536) * 65536) (x.rate * 102 / 1000000)

/-- The take whose gate a command passes, for one of class TAKE (R156); frames that were held while the queue was FROZEN pass
without it, at the full ingest capacity (R157). -/
def State.tollGate (s : State) (g : Tag) : Option Nat :=
  match (if (s.queueOf g.queue).cls = 0 then s.gateOf g.queue else none) with
  | some k => if g.entry = 7 ∧ g.frame < (s.takeOf k).backlog then none else some k
  | none => none

/-- The pool of tokens a command draws on: 1000 INGEST for writes, 1001 READ for reads (R159). -/
def Tag.tollPool (g : Tag) : Nat := if entryWrites g.entry then 1000 else 1001

/-- Whether the window's INGEST tokens cover n bytes. -/
def State.ingestCovers (s : State) (n : Nat) : Bool := enough s.toll.inTok n (s.toll.cap.ingest / 10000)

/-- Whether the window's READ tokens cover n bytes. -/
def State.readCovers (s : State) (n : Nat) : Bool := enough s.toll.rdTok n (s.toll.cap.read / 10000)

/-- Take bytes from INGEST and from READ. -/
def State.tokensPay (s : State) (ingest read : Nat) : State :=
  { s with toll := { s.toll with inTok := s.toll.inTok - ingest, rdTok := s.toll.rdTok - read } }

/-- The balances that hold a command, of its pool and its gate; none lets it pass. -/
def State.tollShort (s : State) (g : Tag) : List Nat :=
  let pool := if entryWrites g.entry then s.ingestCovers g.need else s.readCovers g.need
  let gate := match s.tollGate g with
    | some k => if enough (s.takeOf k).tokens g.need (s.takeOf k).gateMost then [] else [k]
    | none => []
  (if pool then [] else [Tag.tollPool g]) ++ gate

/-- Take a command's bytes from its pool and from its gate. -/
def State.tollPay (s : State) (g : Tag) : State :=
  let s1 := if entryWrites g.entry then s.tokensPay g.need 0 else s.tokensPay 0 g.need
  match s.tollGate g with
  | some k => s1.putTake k { s1.takeOf k with tokens := (s1.takeOf k).tokens - g.need }
  | none => s1

/-- One command before the Toll: pass, or hold (R159); behind a command that one of its balances holds, it is held too. -/
def State.tollOne (b : List Nat × State) (t : Nat) : List Nat × State :=
  let s := b.2
  let g := s.tagOf t
  let short := s.tollShort g
  let behind := b.1.contains (Tag.tollPool g) || (match s.tollGate g with | some k => b.1.contains k | none => false)
  if g.need = 0 then (b.1, s.tollPass t)
  else if behind = false ∧ short.isEmpty = true then (b.1, (s.tollPay g).tollPass t)
  else (short ++ b.1, s.putTag t { g with tollFrom := if g.tollFrom = 0 then s.time + 1 else g.tollFrom })

/-- Work of the head itself before the Toll (R158, R160): class 2 rebuild and class 3 gleaning pass on their floor first; what a
floor does not cover, and the Watch, takes what the classes before it left of the window's tokens, or is held. -/
def State.tollWork (s : State) (cls : Nat) (floor : Option Bool) (wr rd : Nat) : Option State :=
  let pass (s : State) : State := s.addF (F.TOLL_CLASS_BYTES_ALL.nth cls) (wr + rd)
  let onFloor := match floor with
    | some true => enough s.toll.rebTok wr (s.toll.cap.rebuildFloor * 100)
    | some false => enough s.toll.gleanTok wr (s.toll.cap.gleanFloor * 100)
    | none => false
  if onFloor then
    some (pass { s with toll := if floor = some true then { s.toll with rebTok := s.toll.rebTok - wr }
                                else { s.toll with gleanTok := s.toll.gleanTok - wr } })
  else if s.ingestCovers wr = true ∧ s.readCovers rd = true then some (pass (s.tokensPay wr rd))
  else none

/-- Commands the Toll still holds in a class, in Reeve order, whose hazards have cleared. -/
def State.tollWaiting (s : State) (cls : Nat) : List Nat :=
  s.inReeveOrder ((s.tagsBy (fun g => g.state = .waiting && !g.tollPassed && (s.queueOf g.queue).cls = cls)).filter
    (fun t => s.clearToGo t))

/-- Serve the classes in order with the tokens at hand (R159). -/
def State.tollServe (s : State) : State :=
  ([0, 1, 2, 3].foldl (fun b c => (b.2.tollWaiting c).foldl State.tollOne b) (([] : List Nat), s)).2

/-- The tokens of a new window: a class's balance is refilled, a debt first paid. -/
def refill (bal : Int) (rate : Nat) : Int := min bal 0 + (rate / 10000 : Nat)

/-- A take's gate at a new window: 1.02 × RATE, up to one region (R156). -/
def Take.refillGate (x : Take) : Take :=
  { x with tokens := min (x.tokens + ((x.rate * 102 / 1000000 : Nat) : Int)) (x.gateMost : Int) }

/-- Each 100 µs window (R159). Floors come first: INGEST and READ are net of them (R160). -/
def execTollWindow (s : State) : Res :=
  let s1 := { s with toll := { s.toll with inTok := refill s.toll.inTok s.toll.cap.ingest
                                           rdTok := refill s.toll.rdTok s.toll.cap.read
                                           rebTok := refill s.toll.rebTok (s.toll.cap.rebuildFloor * 1000000)
                                           gleanTok := refill s.toll.gleanTok (s.toll.cap.gleanFloor * 1000000) } }
  .next ((s.toll.takes.foldl (fun s p => s.putTake p.1 p.2.refillGate) s1).tollServe)

/-! ### Landed grains (R115, R124, R143) -/

/-- Grains a frame of a take has, its tail included (R149). -/
def Take.grainCount (x : Take) : Nat := (x.frameBytes + 65535) / 65536

/-- The slot of a frame in a take's region (R370). -/
def Take.slotOf (x : Take) (k : Nat) : Nat := if x.regFrames = 0 then 0 else k % x.regFrames

/-- First global byte of a frame's grain in the region. -/
def Take.grainBase (x : Take) (k g : Nat) : Nat :=
  x.regBase + (x.slotOf k * x.grainCount + g) * 65536

/-- Bytes of a frame's grain. -/
def Take.grainBytes (x : Take) (g : Nat) : Nat := min 65536 (x.frameBytes - g * 65536)

/-- MIRROR_OFF of a byte of the landing regions: above every placement's (assumption log 18). -/
def landOff (a : Nat) : Nat := 2 ^ 62 + a

/-- Release a grain of a landing region, here and at the partner; the slot is free once its frame has no grain left
(R156, R253, R254). -/
def State.grainRelease (s : State) (k frame grain : Nat) : State :=
  let x := s.takeOf k
  let left := x.grains.filter (fun p => p ≠ (frame, grain))
  let y := { x with grains := left }
  let z := if left.any (fun p => p.1 = frame) then y
    else
      { y with slots := y.slots.set (x.slotOf frame) none
               slotLanded := y.slotLanded.set (x.slotOf frame) false
               covered := y.covered.set frame []
               lateFrames := y.lateFrames.filter (fun f => f ≠ frame) }
  (s.putTake k z).mirror 0x07 (leBytes 4 1 ++ leBytes 4 0 ++ leBytes 8 (landOff (x.grainBase frame grain)) ++
    leBytes 8 (x.grainBytes grain))

/-- FLAGS of a command on a volume: PI_TYPE is the volume's (R127, R130). -/
def State.piFlags (s : State) (v flags : Nat) : Nat := flags % 64 + (s.volOf v).piType % 4 * 64

/-- The FRAME_LANDED command of a landed grain (R124). -/
def State.frameTag (s : State) (k frame grain : Nat) (second : Bool) : Tag :=
  let x := s.takeOf k
  { (default : Tag) with
    state := .waiting, queue := x.queue, entry := 7, reeve := s.now, vol := x.vol
    leaf := x.firstLeaf + 16 * (frame * x.grainCount + grain)
    leaves := (x.grainBytes grain + 4095) / 4096, declared := x.grainBytes grain, arrived := x.grainBytes grain
    stream := 0x1000 + k, take := k, frame := frame, grain := grain, second := second, ctx := 0
    flags := s.piFlags x.vol 0, slot := (s.volOf x.vol).slot }

/-- Power cycle and operating second in one word. -/
def State.keptWord (s : State) (kept : Nat) : Nat := s.getF F.REEVE_TIME_CYCLE * 2 ^ 40 + kept % 2 ^ 40

/-- A take's mirrored record: the request, then the grant with the present KEPT_UNTIL and the take's state in
its last reserved word (R257, assumption log 18). -/
def State.takeRecord (s : State) (x : Take) : List Byte :=
  x.req ++ x.grant.take 0x18 ++ leBytes 8 (s.keptWord x.kept) ++ (x.grant.drop 0x20).take 0x1C ++ leBytes 4 x.state

/-- Mirror a change of take state (R259). -/
def State.mirrorTake (s : State) (k : Nat) : State := s.mirror 0x05 (s.takeRecord (s.takeOf k))

/-! ### Leaves of a frame -/

/-- Insert a range into rising, disjoint half-open ranges, joining those it touches. -/
def coverAdd (lo hi : Nat) : List (Nat × Nat) → List (Nat × Nat)
  | [] => [(lo, hi)]
  | (a, b) :: r =>
    if hi < a then (lo, hi) :: (a, b) :: r
    else if b < lo then (a, b) :: coverAdd lo hi r
    else coverAdd (min lo a) (max hi b) r

/-- Bytes of a frame that covered leaves stand for: the last leaf may be partial (R370). -/
def coverBytes (frameBytes : Nat) (l : List (Nat × Nat)) : Nat :=
  l.foldl (fun n p => n + (min (p.2 * 4096) frameBytes - min (p.1 * 4096) frameBytes)) 0

/-- Leaves of a frame. -/
def Take.frameLeaves (x : Take) : Nat := (x.frameBytes + 4095) / 4096

/-- Bytes of frame f that have arrived. -/
def Take.arrivedOf (x : Take) (f : Nat) : Nat := coverBytes x.frameBytes (x.covered.get f)

/-- Leaves lo to hi of a take without DIRECT have been written, counted from its first leaf: each frame they complete has landed,
and the first of them makes the take RECORDING (R155, R156). -/
def Take.written (x : Take) (lo hi : Nat) : Take :=
  let stride := 16 * x.grainCount
  (upto ((hi + stride - 1) / stride - lo / stride)).foldl (fun x i =>
    let f := lo / stride + i
    let a := max lo (f * stride) - f * stride
    let b := min (min hi ((f + 1) * stride) - f * stride) x.frameLeaves
    let y := { x with covered := x.covered.set f (if a < b then coverAdd a b (x.covered.get f) else x.covered.get f) }
    if x.arrivedOf f ≠ x.frameBytes ∧ y.arrivedOf f = x.frameBytes then
      { y with landed := y.landed + 1, state := if y.state = 1 then 2 else y.state }
    else y) x

/-- An ordinary write has ended well: the takes without DIRECT whose frames it wrote (R155). -/
def State.frameWritten (s : State) (vol leaf n : Nat) : State :=
  (s.toll.takes.filter (fun p => !p.2.direct && decide (1 ≤ p.2.state) && decide (p.2.state ≤ 3) && p.2.vol = vol &&
    decide (p.2.firstLeaf < leaf + n) && p.2.grainCount ≠ 0)).foldl (fun s p =>
      let y := p.2.written (leaf - p.2.firstLeaf) (leaf + n - p.2.firstLeaf)
      let s1 := s.putTake p.1 y
      if y.state = p.2.state then s1 else s1.mirrorTake p.1) s

/-- A FRAME_LANDED command ended otherwise than with class 0x0 or 0x1 (R143): a first failure is generated
again, a second keeps the grain as a region image and writes the ALARM. -/
def State.grainFailed (s : State) (g : Tag) (st : Status) (det : Nat) : State :=
  let x := s.takeOf g.take
  if g.second then
    let im : RegionImage :=
      { due := false, take := g.take, record := s.takeRecord x, frame := g.frame, grain := g.grain, vol := g.vol, leaf := g.leaf,
        data := s.rdBytes (tillKey (x.grainBase g.frame g.grain)) (x.grainBytes g.grain) }
    ({ s with docket := { s.docket with images := s.docket.images ++ [im] } }.grainRelease g.take g.frame g.grain).alarm
      blkDOCKET (classOf st) st det (leBytes 1 g.take ++ leBytes 3 0 ++ leBytes 4 g.frame ++ leBytes 4 g.grain)
  else
    s.putTake g.take { x with toGen := x.toGen ++ [(g.frame, g.grain, true)] }

/-- The FRAME_LANDED command of a region image ended: with class 0x0 or 0x1 its image is gone; otherwise the image stays, to be
dispatched at the next start, and an ALARM names its take, frame and grain (R143, R266). -/
def State.imageEnd (s : State) (g : Tag) (st : Status) (det : Nat) : State :=
  if classOf st < 2 then
    { s with docket := { s.docket with images := s.docket.images.filter (fun x =>
      !(x.take = g.reg && x.frame = g.frame && x.grain = g.ofs && x.vol = g.vol && x.leaf = g.leaf)) } }
  else s.alarm blkDOCKET (classOf st) st det (leBytes 1 g.reg ++ leBytes 3 0 ++ leBytes 4 g.frame ++ leBytes 4 g.ofs)

/-! ### Errors and freezing (R137, R142, R144) -/

/-- Classes that freeze a queue (R137). -/
def freezes (st : Status) : Bool := [3, 4, 5, 7, 8, 15].contains (classOf st)

/-- Classes that enter the error log (assumption log 14). -/
def logged (st : Status) : Bool := decide (3 ≤ classOf st)

/-- Put an error on its queue's ring and its controller's page (R129, R144). -/
def State.logError (s : State) (t : Nat) (g : Tag) (st : Status) (det : Nat) : State :=
  let e : ErrEnt :=
    { count := s.docket.errCount + 1, reeve := g.reeve, tag := t, queue := g.queue, status := st, cid := g.cid
      addr := g.vol * 2 ^ 52 + g.leaf, leaves := g.leaves, detail := det, declared := g.declared
      arrived := g.arrived, time := s.timeWord, read := decide (g.entry = 0) }
  let q := s.queueOf g.queue
  let c := s.ctrlOf q.ctrl
  let s1 := s.putQueue g.queue { q with errors := satInc q.errors (2 ^ 24 - 1), ring := (e :: q.ring).take 64 }
  let s2 := if q.kind = kAdmin ∨ q.kind = kNvme then
    s1.putCtrl q.ctrl { c with errs := (e :: c.errs).take 64 }
    else s1
  { s2 with docket := { s2.docket with errCount := s.docket.errCount + 1 } }.setN R.DOCKET_LAST_ERR_SEQ s.now |>.tick

/-- The 64 bytes of an error entry (R144). -/
def ErrEnt.bytes (e : ErrEnt) : List Byte :=
  leBytes 8 e.count ++ leBytes 8 e.reeve ++ leBytes 2 e.tag ++ leBytes 2 e.queue ++ leBytes 2 e.status ++
    leBytes 2 e.cid ++ leBytes 8 e.addr ++ leBytes 4 e.leaves ++ leBytes 4 e.detail ++ leBytes 4 e.declared ++
    leBytes 4 e.arrived ++ leBytes 8 e.time ++
    leBytes 4 (if classOf e.status = 3 ∨ classOf e.status = 4 then e.detail else 0xFFFFFFFF) ++ leBytes 4 0

/-- Tell the source that its queue is FROZEN (R142). An NVMe event completes a waiting Asynchronous Event
Request, or waits for one. -/
def State.freezeNotice (s : State) (q : Nat) : State :=
  let x := s.queueOf q
  if x.kind = kNvme then
    let c := s.ctrlOf x.ctrl
    let ev := 0xC0 * 2 ^ 16 + 1 * 2 ^ 8 + 7
    match c.aers with
    | [] => s.putCtrl x.ctrl { c with events := c.events ++ [ev] }
    | a :: r =>
      let s1 := s.putCtrl x.ctrl { c with aers := r }
      (s1.putTag a { s1.tagOf a with state := .completing, ended := true, status := 0, detail := 0 }).send
        (.asyncEvent x.ctrl 7 1 0xC0)
  else if x.kind = kCarrier then s.carSend x.source 0x10 0 (leBytes 2 q ++ leBytes 1 1 ++ leBytes 5 0 ++ leBytes 8 s.now) .nothing
  else s

/-- A command is HELD: the Toll's delay counts no further while its queue is frozen (R138). -/
def State.tagHold (s : State) (t : Nat) : State :=
  let g := s.tagOf t
  s.putTag t { g with state := .held, tollFrom := 0, tollUs := g.tollUs + if g.tollFrom = 0 then 0 else s.time + 1 - g.tollFrom }

/-- Enter FROZEN (R142), by an error completion or by DOCKET_QCTL: commands not dispatched are HELD. -/
def State.freezeQueue (s : State) (q : Nat) (byError : Bool) : State :=
  let x := s.queueOf q
  if x.kind = 0 ∨ x.state ≠ 0 then s
  else
    let s1 := s.putQueue q { x with state := 1, byError := byError }
    let s2 := (s1.tagsOfQueue q).foldl (fun s t => if (s.tagOf t).state = .waiting then s.tagHold t else s) s1
    s2.freezeNotice q

/-! ### Completion (R137, R138, R140) -/

/-- The NVMe status field of a status (R140): SC in [7:0], SCT in [10:8], DNR in [14]. -/
def nvmeField (st : Status) (read : Bool) : Nat :=
  let f (sct sc dnr : Nat) := dnr * 2 ^ 14 + sct * 2 ^ 8 + sc
  match classOf st with
  | 0 => f 0 0x00 0
  | 1 => f 0 0x00 0
  | 2 => f 0 0x21 0
  | 3 => f 2 (if read then 0x81 else 0x80) 1
  | 4 => f 2 (if st = 0x4053 then 0x82 else if st = 0x4055 then 0x83 else if st = 0x4054 then 0x84
      else if st = 0x4060 then 0x85 else 0x81) 1
  | 5 => if st = 0x5069 then f 1 0x05 1
      else f 0 (if st = 0x5062 then 0x0F else if st = 0x5064 then 0x01 else if st = 0x5065 then 0x80
        else if st = 0x5067 then 0x0B else 0x02) 1
  | 6 => f 0 0x07 0
  | 7 => if st = 0x7063 then f 0 0x0C 0 else f 3 0x02 0
  | 8 => f 0 (if st = 0x8062 then 0x20 else 0x82) 0
  | _ => f 0 0x06 1

/-- The detail word of a status (R137). -/
def State.detailWord (s : State) (g : Tag) (st : Status) (det delay : Nat) : Nat :=
  match classOf st with
  | 1 => min delay 0xFFFFFFFF
  | 2 => det
  | 3 => det
  | 4 => det
  | 5 => if st = 0x5062 then g.arrived else 0
  | 7 => if g.entry < 16 then s.epochOf (s.volOf g.vol).commons else 0
  | 15 => g.killSeq % 2 ^ 32
  | _ => 0

/-- Offer a completion to its source (R125, R358). NVMe completions are posted at the hand-off. -/
def State.offer (s : State) (t : Nat) (g : Tag) : State :=
  let q := s.queueOf g.queue
  if q.kind = kCarrier then
    s.carSend q.source 0x0D 0 (cmdDone g.queue g.cid g.status g.detail g.reeve) (.tag t)
  else s

/-- The giving head of a planned move asks the taking head to claim, once the dispatched commands have ENDed and
their stubs are acknowledged (R413). -/
def State.moveCheck (s : State) : State :=
  match s.pair.move with
  | none => s
  | some m =>
    if m.giving = true ∧ m.handed = false ∧ s.cf.acked = s.cf.txSeq ∧
        s.docket.tags.all (fun p => !(p.2.state = .dispatched && s.moveHeld p.2)) = true then
      { s with pair := { s.pair with move := some { m with handed := true } } }.sendAct 6 0 0 2 m.kind 0 (m.commons.flatMap (leBytes 2))
    else s

/-- An Asynchronous Event Request that ends is outstanding no longer (R128). -/
def State.aerDrop (s : State) (t : Nat) : State :=
  let g := s.tagOf t
  let k := (s.queueOf g.queue).ctrl
  if g.entry = 16 ∧ g.op = 0x0C then s.putCtrl k { s.ctrlOf k with aers := (s.ctrlOf k).aers.filter (fun a => a ≠ t) } else s

/-- Complete a command: late service, error log, freezing, landed grains and the offer of its completion. -/
def State.docketEnd (s : State) (t : Nat) (st0 : Status) (det0 : Nat) : State :=
  let g0 := s.tagOf t
  let delay := g0.tollUs + g0.tillUs
  let late := st0 = 0 && g0.entry < 16 && decide (s.getF F.DOCKET_LATE_MIN_US ≤ delay)
  let st := if late then 0x1060 else st0
  let det := s.detailWord g0 st det0 delay
  let q := s.queueOf g0.queue
  let g := { g0 with state := .completing, ended := true, status := st, detail := det }
  let s1 := ((s.aerDrop t).putTag t g).mirrorTag t
  let s2 := if logged st = true ∧ q.kind ≠ 0 then s1.logError t g st det else s1
  let s3 := if classOf st = 1 ∧ q.cls ≠ 1 then s2.addF (F.TOLL_CLASS_LATE_ALL.nth q.cls) 1
    else if q.cls = 1 ∧ s.getF F.TOLL_HOLD_INTER_TARGET_US < delay then s2.addF (F.TOLL_CLASS_LATE_ALL.nth 1) 1
    else if classOf st = 2 then s2.addF (F.TOLL_CLASS_DEFER_ALL.nth q.cls) 1
    else s2
  let s4 := if q.kind = kTake ∧ g.entry = 7 then
      (if classOf st < 2 then
        let x := s3.takeOf g.take
        let s5 := if classOf st = 1 then
          s3.putTake g.take { x with late := x.late + b2n (!x.lateFrames.contains g.frame), largest := max x.largest det
                                     lateFrames := g.frame :: x.lateFrames.filter (fun f => f ≠ g.frame) } else s3
        s5.grainRelease g.take g.frame g.grain
       else s3.grainFailed g st det)
    else if q.kind = kInternal ∧ g.entry = 7 then s3.imageEnd g st det
    else if q.kind ≠ kInternal ∧ g.entry = 1 ∧ classOf st < 2 then s3.frameWritten g.vol g.leaf g.leaves
    else s3
  let s5 := if freezes st ∧ q.kind ≠ kAdmin then s4.freezeQueue g.queue true else s4
  (if q.kind = 0 then s5.putTag t default else (s5.offer t g).tollServe).moveCheck

/-- The queue number of commands whose queue has been deleted. -/
def noQueue : Nat := 4096

/-- Delete a queue (R142): a command no context serves completes as aborted, a dispatched one runs to its end, and neither
completion has a source to go to (R125, assumption log 22). -/
def State.deleteQueue (s : State) (q : Nat) : State :=
  let ts := s.tagsOfQueue q
  let s1 := ts.foldl (fun s t => s.putTag t { s.tagOf t with queue := noQueue }) (s.putQueue q { (default : Queue) with state := 3 })
  ts.foldl (fun s t => if (s.tagOf t).state = .dispatched then s else s.docketEnd t 0x6060 0) s1

/-! ### Generating FRAME_LANDED commands (R124, R142, R143) -/

/-- Whether a volume's recipe lacks an entry a command needs (R75). -/
def State.entryMissing (s : State) (g : Tag) : Bool :=
  decide (g.entry < 16) && (g.slot = 0 || (s.hands.recipes.get (g.slot - 1)).entryWord g.entry = 0xFFFFFFFF)

/-- Generate a FRAME_LANDED command under a tag (R124, R126); one whose entry is absent completes at once (R75). -/
def State.frameAccept (s : State) (k frame grain : Nat) (second : Bool) : State :=
  let x := s.takeOf k
  let t := lowestFree 0 ((s.tagsBy (fun _ => true)))
  let g := s.frameTag k frame grain second
  let st := if (s.queueOf x.queue).state = 1 ∨ s.moving x.vol = true then TagState.held else TagState.waiting
  let s1 := ((((s.putTag t { g with state := st }).writeRecord t).addN R.DOCKET_ACCEPTED 1).countEv 0x06 1 16).tick
  if s.entryMissing g then s1.docketEnd t 0x5032 0 else s1

/-- Generate the waiting commands of a take while its queue has a free tag (R124); a grain that failed once waits until the
queue is ACTIVE again (R143). -/
def State.frameGen (s : State) (k : Nat) : List (Nat × Nat × Bool) → State
  | [] => s
  | (f, g, b) :: r =>
    let x := s.takeOf k
    if b = true ∧ (s.queueOf x.queue).state ≠ 0 then s.frameGen k r
    else if (s.tagsOfQueue x.queue).length < (s.queueOf x.queue).depth then
      State.frameGen ((s.putTake k { x with toGen := x.toGen.filter (fun e => e ≠ (f, g, b)) }).frameAccept k f g b) k r
    else s

/-- Generate what waits on a take. -/
def State.frameGenAll (s : State) (k : Nat) : State := (s.frameGen k (s.takeOf k).toGen).tollServe

/-- Return a queue to ACTIVE (R142): its held commands wait for dispatch again; the frames a TAKE queue held pass without the
take's gate (R157). -/
def State.activateQueue (s : State) (q : Nat) : State :=
  let s1 := s.putQueue q { s.queueOf q with state := 0, byError := false }
  let s2 := (s1.tagsOfQueue q).foldl (fun s t =>
    if (s.tagOf t).state = .held ∧ s.moveHeld (s.tagOf t) = false then s.putTag t { s.tagOf t with state := .waiting } else s) s1
  match (if (s.queueOf q).kind = kTake then s.takeOfQueue q else none) with
  | some k =>
    let x := s2.takeOf k
    (s2.putTake k { x with backlog := max x.backlog ((x.grains.map (fun p => p.1 + 1)).foldl max 0) }).frameGenAll k
  | none => s2.tollServe

/-- Commands of a take in CLOSING have all ended: its number is free (R156). -/
def State.takeEnded (s : State) (k : Nat) : State :=
  let x := s.takeOf k
  if x.state = 4 ∧ (s.tagsOfQueue x.queue).isEmpty = true ∧ x.toGen.isEmpty = true then
    ((s.putTake k default).deleteQueue x.queue).streamClose (0x1000 + k)
  else s

/-- A queue in RESETTING whose reset tags have gone is ACTIVE (R142). -/
def State.resetDone (s : State) (q : Nat) : State :=
  if (s.queueOf q).state = 2 ∧
      ((s.tagsOfQueue q).filter (fun t => (s.tagOf t).state = .completing && (s.tagOf t).status = 0x6061)).isEmpty = true
  then s.activateQueue q else s

/-- Send the replies to aborts that follow a completion (R141): kind 1 a Carrier ABORT_REPLY, kind 2 a magazine
ABORT_REPLY, kind 3 the NVMe Abort command that waits, kind 4 DOCKET_ABORT.RESULT; the last number is 0 for CAUGHT, 1 for
LATE. -/
def State.lateReplies (s : State) (l : List (List Nat)) : State :=
  l.foldl (fun s r =>
    match r with
    | [1, peer, q, cid, r] => s.carSend peer 0x0F 0 (leBytes 2 q ++ leBytes 2 cid ++ leBytes 1 r ++ leBytes 3 0) .nothing
    | [2, port, reg, r] => if s.magUp port then s.magSend port 0x15 0 reg 0 (leBytes 1 r ++ List.replicate 7 0) else s
    | [3, t, r] => s.putTag t { s.tagOf t with state := .completing, ended := true, status := 0, detail := r }
    | [4, r] => (s.setF F.DOCKET_ABORT_RESULT r).setF F.DOCKET_ABORT_STATUS 0
    | _ => s) s

/-- BYTES of a task's status: arrived for a write, sent for a read (R388). -/
def Tag.taskBytes (g : Tag) : Nat :=
  if g.entry = 0 then (if classOf g.status < 2 then g.declared else if g.status = 0x4053 then g.detail * 4096 else 0) else g.arrived

/-- A magazine task's status is latched in its register and sent (R388, R390); a silent one frees it. -/
def State.magLatch (s : State) (port : Nat) (g : Tag) : State :=
  if g.silent then s.putMagTask port g.taskReg default
  else s.magStatus port g.taskReg g.status
    (taskBlock g.status g.detail g.taskBytes g.reeve (s.magTask port g.taskReg).client)

/-- The host has acknowledged on a queue pair: its retries count afresh (R374, assumption log 16). -/
def State.qpAcked (s : State) (q : Nat) : State :=
  if (s.car.qps.get q).retries = 0 then s
  else { s with car := { s.car with qps := s.car.qps.upd q (fun x => { x with retries := 0 }) } }

/-- Whether any link still withholds a tag's completion. -/
def State.withheld (s : State) (tag : Nat) : Bool := s.sieve.links.any (fun p => p.2.waits.any (fun w => w.tag = tag))

/-- Whether a MAGAZINE queue resumes as a failing task's status is latched, or an INTERNAL one as its owner takes the failing
completion: it was frozen by an error, and no other failing status is still to be taken (R122, R137, R142). -/
def State.ownResumes (s : State) (q : Nat) (st : Status) : Bool :=
  (s.queueOf q).state = 1 && (s.queueOf q).byError && freezes st &&
    (s.tagsOfQueue q).all (fun t => !((s.tagOf t).state = .completing && freezes (s.tagOf t).status))

/-- Hand a completion to its source and free the tag (R125); a withheld one waits (R247). -/
def State.handOff (s : State) (t : Nat) : State :=
  let g := s.tagOf t
  if g.state = .completing ∧ s.selfFenced = false ∧ s.withheld t = false then
    let q := s.queueOf g.queue
    let s1 := ((s.putTag t default).mirrorTag t).addN R.DOCKET_COMPLETED 1
    let s2 := if q.kind = kAdmin ∨ q.kind = kNvme then (s1.qpAcked g.queue).send (.nvme g.queue g.cid g.status (nvmeField g.status (g.entry = 0)) g.detail)
      else if q.kind = kMagazine then
        (if s1.ownResumes g.queue g.status then (s1.magLatch q.source g).activateQueue g.queue else s1.magLatch q.source g)
      else if q.kind = kInternal ∧ s1.ownResumes g.queue g.status = true then s1.activateQueue g.queue
      else s1
    let s3 := (s2.lateReplies g.late).resetDone g.queue
    match (if q.kind = kTake then s3.takeOfQueue g.queue else none) with
    | some k => (s3.frameGenAll k).takeEnded k
    | none => s3
  else s

/-! ### Acceptance (R126) -/

/-- A command beyond its queue's depth completes with 0x5060 and uses no tag (R123): the error is logged and freezes the
queue like any other of its class (R137, R144). It is never accepted, so TAG and REEVE of its log entry are free values
(assumption log 45). A MAGAZINE queue resumes as the status is latched. -/
def State.overDepth (s : State) (q : Nat) (g0 : Tag) : State :=
  let x := s.queueOf q
  let (a, s0) := s.draw
  let (b, s1) := s0.draw
  let s2 := (s1.logError (a.toNat % 65536) { g0 with queue := q, reeve := b.toNat } 0x5060 0).addN R.DOCKET_COMPLETED 1
  if x.kind = kAdmin then s2.send (.nvme q g0.cid 0x5060 (nvmeField 0x5060 false) 0)
  else if x.kind = kNvme then (s2.send (.nvme q g0.cid 0x5060 (nvmeField 0x5060 false) 0)).freezeQueue q true
  else if x.kind = kCarrier then (s2.carSend x.source 0x0D 0 (cmdDone q g0.cid 0x5060 0 0) .nothing).freezeQueue q true
  else if x.kind = kMagazine then
    s2.magStatus x.source g0.taskReg 0x5060 (taskBlock 0x5060 0 0 0 (s2.magTask x.source g0.taskReg).client)
  else s2.freezeQueue q true

/-- Accept a command on a queue: its tag and the state, with the first failing check's status completing it
at once; the recipe bound now is the one it runs under, and an entry it lacks ends it too (R75, R78). -/
def State.accept (s : State) (q : Nat) (g1 : Tag) (st1 : Status) (det : Nat) : Nat × State :=
  let x := s.queueOf q
  let g0 := if g1.entry < 16 then { g1 with slot := (s.volOf g1.vol).slot, flags := s.piFlags g1.vol g1.flags } else g1
  let st := if st1 = 0 ∧ s.entryMissing g0 = true then 0x5032 else st1
  if s.selfFenced then (65536, s)
  else if x.depth ≤ (s.tagsOfQueue q).length then
    (65536, s.overDepth q g0)
  else
    let lo := if x.kind = kInternal then 0xF000 else 0
    let used := (s.tagsBy (fun _ => true)).filter (fun t => decide (lo ≤ t))
    let t := lowestFree lo used
    let ts := if g0.inbound = true ∧ g0.declared ≠ 0 then TagState.arriving
      else if x.state = 1 ∨ s.moveHeld g0 = true then TagState.held else TagState.waiting
    let s1 := ((((s.putTag t { g0 with queue := q, reeve := s.now, state := ts }).tick).addN R.DOCKET_ACCEPTED 1).countEv 0x06 1 16).writeRecord t
    if st ≠ 0 then (t, s1.docketEnd t st det) else (t, s1.tollServe)

/-! ### Data arrival (R130, R136, R221) -/

/-- Guard of 4,096 bytes by format (R130). -/
def guardOf (format : Nat) (l : List Byte) : Nat := if format = 1 then crcMore 2 0 l else crcMore 0 0 l

/-- Protection information of one leaf, big-endian (R222). -/
def piBytes (format guard app ref : Nat) : List Byte :=
  if format = 1 then beBytes 2 guard ++ beBytes 2 app ++ beBytes 4 ref else beBytes 8 guard ++ beBytes 2 app ++ beBytes 6 ref

/-- The reference tag of a leaf: type 1 counts from REF_TAG, type 3 keeps it (R222). -/
def refOf (format piType ref idx : Nat) : Nat :=
  (if piType = 1 then ref + idx else ref) % 2 ^ (if format = 1 then 32 else 48)

/-- The type of a tag's volume as its record carries it. -/
def Tag.piType (g : Tag) : Nat := g.flags / 64 % 4

/-- Whether PRACT is set (R127). -/
def Tag.pract (g : Tag) : Bool := g.flags.testBit 2

/-- Place arriving bytes from offset at: data in STAGE, interleaved metadata beside it (R130). -/
def State.placeArrived : State → Nat → Nat → Nat → List Byte → State
  | s, _, _, _, [] => s
  | s, t, mb, at_, b :: r =>
    let unit := 4096 + mb
    let o := at_ % unit
    let a := if o < 4096 then stageBase t + at_ / unit * 4096 + o else piBase t + at_ / unit * mb + (o - 4096)
    State.placeArrived (s.wrB (stageKey a) b) t mb (at_ + 1) r

/-- Leaf i of a tag's STAGE data. -/
def State.stageLeaf (s : State) (t i : Nat) : List Byte := s.rdBytes (stageKey (stageBase t + 4096 * i)) 4096

/-- The inline checker's result over a command's leaves (R221): leaves whose guard fails. -/
def State.inlineBad (s : State) (t : Nat) (fmt n : Nat) : List Nat :=
  (upto n).filter (fun i =>
    let p := s.rdBytes (stageKey (piBase t + metaBytes fmt * i)) (if fmt = 1 then 2 else 8)
    beNat p ≠ guardOf fmt (s.stageLeaf t i))

/-- The data of a command have arrived whole: protection information is generated under PRACT, and the command waits for
dispatch. -/
def State.arrivedWhole (s : State) (t : Nat) : State :=
  let g := s.tagOf t
  let fmt := (s.volOf g.vol).format
  let n := g.leaves
  let s1 :=
    if fmt = 0 ∨ 16 ≤ g.entry then s
    else if g.pract then
      (upto n).foldl (fun s i => s.wrBytes (stageKey (piBase t + metaBytes fmt * i))
        (piBytes fmt (guardOf fmt (s.stageLeaf t i)) g.appTag (refOf fmt g.piType g.refTag i))) s
    else s
  let g1 := s1.tagOf t
  (s1.putTag t { g1 with state := if (s.queueOf g.queue).state = 1 ∨ s.moveHeld g = true then .held else .waiting }).tollServe

/-- The port's inline checker on data that have come in (R221): each leaf that arrives whole with its protection information, from
the n-th on, and the record of it beside the buffer. -/
def State.leavesCheck (s : State) (t n : Nat) : State :=
  let g := s.tagOf t
  let fmt := (s.volOf g.vol).format
  if fmt = 0 ∨ 16 ≤ g.entry ∨ g.pract = true then s
  else
    let bad := (s.inlineBad t fmt (min g.arrived g.declared / (4096 + metaBytes fmt))).filter (fun i => decide (n ≤ i))
    (s.putTag t { g with guardBad := g.guardBad ++ bad }).addN R.TALLY_INLINE_ERR bad.length

/-- Data of a command arrive; the transfer ends, or the sender closes the data phase; or data go on arriving beyond the
declared length before the command is dispatched (R136). -/
def State.dataArrive (s : State) (t : Nat) (data : List Byte) (closed : Bool) : State :=
  let g := s.tagOf t
  if g.state = .arriving then
    let mb := if g.pract then 0 else if g.entry < 16 then metaBytes (s.volOf g.vol).format else 0
    let keep := data.take (g.declared - g.arrived)
    let n := g.arrived + data.length
    let s1 := (((s.placeArrived t mb g.arrived keep).putTag t { g with arrived := n }).writeRecord t).leavesCheck t (g.arrived / (4096 + mb))
    if g.declared < n ∨ (closed = true ∧ n ≠ g.declared) then s1.docketEnd t 0x5062 0
    else if n = g.declared then s1.arrivedWhole t
    else s1
  else if g.inbound = true ∧ data.isEmpty = false ∧ (g.state = .waiting ∨ g.state = .held) then
    ((s.putTag t { g with arrived := g.arrived + data.length }).writeRecord t).docketEnd t 0x5062 0
  else s

/-- A command's data arrive (R136). -/
def execDataArrived (tag : Nat) (data : List Byte) (closed : Bool) (s : State) : Res :=
  .next (if s.deaf then s else s.dataArrive tag data closed)

/-! ### Aborts (R141) -/

/-- Whether an abort of a tag is CAUGHT. -/
def Tag.catchable (g : Tag) : Bool :=
  match g.state with
  | .arriving => g.chain = 0
  | .waiting => g.chain = 0
  | .held => g.chain = 0
  | .dispatched => !g.committing && g.chain = 0 && !g.ended
  | _ => false

/-- Abort a tag: 0 CAUGHT, 1 LATE, 2 UNKNOWN, and the state; the reply to a LATE one, and the 3 of one CAUGHT in a
context, follows the completion. A command no context serves completes at once with the status; one in a context
completes with that of its first abort when its context ENDs (R120, R141). A second abort finds the outcome of the first. -/
def State.abortTag (s : State) (t : Nat) (st : Status) : Nat × State :=
  let g := s.tagOf t
  if g.state = .free then (2, s)
  else if g.catchable then
    if g.state = .dispatched then (3, if g.aborted then s else s.putTag t { g with aborted := true, status := st })
    else (0, (s.putTag t { g with aborted := true }).docketEnd t st 0)
  else if g.aborted then (3, s)
  else (1, s)

/-- A reply waits for the command's completion (R141). -/
def State.abortLater (s : State) (t : Nat) (r : List Nat) : State :=
  s.putTag t { s.tagOf t with late := (s.tagOf t).late ++ [r] }

/-- Find a command of a queue by its command identifier. -/
def State.tagByCid (s : State) (q cid : Nat) : Option Nat :=
  (s.tagsOfQueue q).find? (fun t => (s.tagOf t).cid = cid)

/-- DOCKET_ABORT.GO (R141, R146): the result of a LATE abort shows after the completion it lost to. -/
def execDocketAbortGo (tag : Nat) (s : State) : Res :=
  let s1 := s.setF F.DOCKET_ABORT_TAG tag
  let (r, s2) := s1.abortTag (tag % 65536) 0x6060
  .next (if r = 1 then (s2.abortLater (tag % 65536) [4, 1]).answer 0
    else (s2.setF F.DOCKET_ABORT_RESULT (r % 3)).stat F.DOCKET_ABORT_STATUS 0)

/-! ### Queue control (R142, R146) -/

/-- Reset a FROZEN queue: every held command completes with 0x6061 in Reeve order. -/
def State.resetQueue (s : State) (q : Nat) : State :=
  let held := s.inReeveOrder ((s.tagsOfQueue q).filter (fun t => (s.tagOf t).state = .held))
  ((s.putQueue q { s.queueOf q with state := 2 }) |> fun s1 =>
    held.foldl (fun s t => s.docketEnd t 0x6061 0) s1).resetDone q

/-- DOCKET_QCTL.OP 1 (R146). -/
def execDocketQueueResume (s : State) : Res :=
  let q := s.getF F.DOCKET_QSEL_VAL
  .next (if (s.queueOf q).kind ≠ 0 ∧ (s.queueOf q).state = 1 then (s.activateQueue q).stat F.DOCKET_QCTL_STATUS 0
    else s.stat F.DOCKET_QCTL_STATUS 0x7063)

/-- DOCKET_QCTL.OP 2 (R146). -/
def execDocketQueueReset (s : State) : Res :=
  let q := s.getF F.DOCKET_QSEL_VAL
  .next (if (s.queueOf q).kind ≠ 0 ∧ (s.queueOf q).state = 1 then (s.resetQueue q).stat F.DOCKET_QCTL_STATUS 0
    else s.stat F.DOCKET_QCTL_STATUS 0x7063)

/-- DOCKET_QCTL.OP 3 freezes the selected queue (R142, R146). The spec gives a FREEZE no failing status: of a queue that is not
ACTIVE, or not in use, it changes nothing and shows 0x0000 (DESIGN CHOICE, assumption log 22). -/
def execDocketQueueFreeze (s : State) : Res :=
  .next ((s.freezeQueue (s.getF F.DOCKET_QSEL_VAL) false).stat F.DOCKET_QCTL_STATUS 0)

/-- An external BULK command is held past BULK_MS (R161): 0x2070, reason CLASS_HOLD, and a retry-after the
Toll estimates, which is a free value (assumption log 8). The spec does not say whether the commands of a TAKE queue that
OVERTIME has made BULK are external ones: the model takes them as the head's own, which wait on (DESIGN CHOICE, assumption
log 22). -/
def execBulkHoldExpiry (tag : Nat) (s : State) : Res :=
  let g := s.tagOf tag
  let q := s.queueOf g.queue
  .next (if g.state = .waiting ∧ g.tollPassed = false ∧ g.tollFrom ≠ 0 ∧ q.cls = 2 ∧ q.kind ≠ kInternal ∧ q.kind ≠ kTake then
    (s.draw).2.docketEnd tag 0x2070 (0x0C * 2 ^ 24 + (s.draw).1.toNat % 2 ^ 24)
  else s)

/-! ### What DOCKET registers show -/

/-- DOCKET_TAGS (R146). -/
def State.viewTags (s : State) : Nat :=
  s.reservedExt * 2 ^ 48 + s.queuesUsed * 2 ^ 32 +
    ((s.tagsBy (fun _ => true)).filter (fun t => decide (t < 0xF000))).length * 2 ^ 16 +
    ((s.tagsBy (fun _ => true)).filter (fun t => decide (0xF000 ≤ t))).length

/-- DOCKET_TAG_STATE of a tag (R146). -/
def State.viewTagState (s : State) (t : Nat) : Nat :=
  let g := s.tagOf t
  if g.state = .free then 0 else g.queue * 2 ^ 48 + g.entry % 16 * 2 ^ 44 + g.state.code

/-- DOCKET_QCFG of a queue (R146): SOURCE is the stream of a TAKE queue, the peer or port of another. -/
def State.viewQcfg (s : State) (q : Nat) : Nat :=
  let x := s.queueOf q
  let src := if x.kind = kTake then (match s.takeOfQueue q with | some k => 0x1000 + k | none => 0) else x.source
  src * 2 ^ 32 + x.depth % 2 ^ 13 * 2 ^ 19 + x.kind * 2 ^ 16 + x.cls

/-- DOCKET_QSTATE of a queue (R146). -/
def State.viewQstate (s : State) (q : Nat) : Nat :=
  let l := s.tagsOfQueue q
  (l.filter (fun t => (s.tagOf t).state = .held)).length * 2 ^ 48 + l.length * 2 ^ 32 + (s.queueOf q).errors * 2 ^ 8 +
    (s.queueOf q).state

/-- DOCKET_ELOG_DATA k of an entry of a queue's ring (R144, R146). -/
def State.viewElog (s : State) (q i k : Nat) : Nat :=
  match (s.queueOf q).ring[i]? with
  | some e => leNat ((e.bytes.drop (8 * k)).take 8)
  | none => 0

/-- DOCKET_FROZEN k (R146). -/
def State.viewFrozen (s : State) (k : Nat) : Nat :=
  (upto 64).foldl (fun n b => n + b2n ((s.queueOf (64 * k + b)).state = 1) * 2 ^ b) 0

end Sys2Proof.Machine
end

