-- ==== Sys2Proof/Machine/Toll.lean ====
section
/-! DEFINITION. Takes, admission and the Toll (R147 to R167): the test, the decision, the grant, the cut and
a take's life. -/
namespace Sys2Proof.Machine

/-! ### Blocks and records -/

/-- A take request block (R147). -/
structure TollReq where
  format : Nat
  flags : Nat
  vol : Nat
  prio : Nat
  port : Nat
  rate : Nat
  frameBytes : Nat
  frameRate : Nat
  dur : Nat
  minDur : Nat
  firstLeaf : Nat
  client : Nat
  take : Nat
  resv : Nat
  deriving DecidableEq, Repr, Inhabited

/-- Read a request block. -/
def parseReq (l : List Byte) : TollReq where
  format := fieldAt l 0x00 2
  flags := fieldAt l 0x02 2
  vol := fieldAt l 0x04 2
  prio := fieldAt l 0x06 1
  port := fieldAt l 0x07 1
  rate := fieldAt l 0x08 8
  frameBytes := fieldAt l 0x10 4
  frameRate := fieldAt l 0x14 4
  dur := fieldAt l 0x18 4
  minDur := fieldAt l 0x1C 4
  firstLeaf := fieldAt l 0x20 8
  client := fieldAt l 0x28 8
  take := fieldAt l 0x30 1
  resv := fieldAt l 0x31 15

def TollReq.direct (r : TollReq) : Bool := r.flags.testBit 0
def TollReq.solo (r : TollReq) : Bool := r.flags.testBit 1
def TollReq.extend (r : TollReq) : Bool := r.flags.testBit 2

/-- Whether a port code names a port. -/
def portCode (p : Nat) : Bool := decide (p < 4) || (decide (0x10 ≤ p) && decide (p < 0x14))

/-- Grains of a frame's stride (R149). -/
def strideGrains (frameBytes : Nat) : Nat := (frameBytes + 65535) / 65536

/-- The malformed blocks of R148, and a port outside the fabric without DIRECT (R155). -/
def TollReq.malformed (r : TollReq) : Bool :=
  r.format ≠ 1 || decide (8 ≤ r.flags) || decide (4096 ≤ r.vol) || decide (7 < r.prio) || r.resv ≠ 0 ||
    (!r.extend && r.take ≠ 0) || r.frameBytes = 0 || decide (268435456 < r.frameBytes) ||
    decide (r.rate < (r.frameBytes * r.frameRate + 999) / 1000) || r.firstLeaf % 16 ≠ 0 || r.dur = 0 ||
    decide (r.dur < r.minDur) || !portCode r.port || (decide (4 ≤ r.port) && !r.direct)

/-- Frames of DURATION_S. -/
def TollReq.frames (r : TollReq) : Nat := (r.dur * r.frameRate + 999) / 1000

/-- Whether those frames lie inside a volume of the given leaves (R149). -/
def TollReq.inside (r : TollReq) (size : Nat) : Bool :=
  r.frames = 0 ||
    decide (r.firstLeaf + 16 * (r.frames - 1) * strideGrains r.frameBytes + (r.frameBytes + 4095) / 4096 ≤ size)

/-- The checks that come before the test (R126, R148, R149). Which states of a take count as held for an EXTEND the spec does not
say: the model takes ADMITTED, RECORDING and OVERTIME, and answers 0x5071 for one CLOSING or LAPSED, which has no reservation left
to extend, although TOLL_REQ_CTL.CLOSE still finds it held (DESIGN CHOICE, assumption log 23). -/
def State.reqStatus (s : State) (r : TollReq) : Status :=
  let v := s.volOf r.vol
  if s.modeStatus true ≠ 0 then s.modeStatus true
  else if r.vol < 4096 ∧ v.slot ≠ 0 ∧ s.owns v.commons = false then 0x7060
  else if r.malformed then 0x5070
  else if v.slot = 0 then 0x5067
  else if r.extend = true ∧ ((s.takeOf r.take).state ≠ 1 ∧ (s.takeOf r.take).state ≠ 2 ∧ (s.takeOf r.take).state ≠ 3) then 0x5071
  else if r.inside v.size = false then 0x5065
  else 0

/-! ### The test (R151, R249) -/

/-- A take as the test sees it. -/
structure Load where
  rate : Nat
  port : Nat
  g : Nat
  e : Nat
  vol : Nat
  safe : Bool := false   -- SOLO_SAFE and kept: the SOLO test counts it (R162)
  far : Bool := false    -- the partner's: only the SOLO test counts it
  deriving DecidableEq, Repr, Inhabited

/-- Bytes of a landing region of n frames. -/
def regionBytes (frames frameBytes : Nat) : Nat := frames * strideGrains frameBytes * 65536

/-- A held take's landing region. -/
def Take.region (x : Take) : Nat := if x.direct then regionBytes x.regFrames x.frameBytes else 0

/-- Whether a take's reservation stands: ADMITTED or RECORDING. -/
def Take.kept? (x : Take) : Bool := x.state = 1 || x.state = 2

/-- The load of a held take; in OVERTIME only its region counts (R155). -/
def Take.load (x : Take) (now : Nat) : Load :=
  if x.kept? then { rate := x.rate, port := x.port, g := x.region, e := x.kept - now, vol := x.vol, safe := x.soloSafe }
  else { rate := 0, port := x.port, g := x.region, e := 0, vol := x.vol }

/-- The takes the test counts, but for one number. -/
def State.loadsBut (s : State) (skip : Nat) : List Load :=
  (s.toll.takes.filter (fun p => p.1 ≠ skip && (p.2.kept? || p.2.state = 3))).map (fun p => p.2.load s.opsec)

/-- Sum of rates. -/
def rateSum (l : List Load) : Nat := l.foldl (fun n x => n + x.rate) 0

/-- Whether a magazine port runs on a pair of lanes (R380). -/
def State.magHalf (s : State) (p : Nat) : Bool := (s.magPort p).lanes = 3 || (s.magPort p).lanes = 12

/-- Payload rate of a port, 0 where the grade has shut it (R151, R380). -/
def State.portRate (s : State) (p : Nat) : Nat :=
  if portOpen s.grade p then (if p < 4 then (if s.altStep 31 then 12500000000 else 25000000000) else if s.magHalf (p - 0x10) then 6000000000 else 12000000000) else 0

/-- Insert by remaining seconds, shortest first. -/
def insertByE (x : Load) : List Load → List Load
  | [] => [x]
  | y :: r => if x.e ≤ y.e then x :: y :: r else y :: insertByE x r

/-- slc_need of R151 in eighths of a byte, over loads in order of e; w9 is nine times the rate still running. -/
def slcEighths (fold : Nat) : List Load → Nat → Nat → Nat
  | [], _, _ => 0
  | x :: r, t, w9 => (w9 - 8 * fold) * (x.e - t) + slcEighths fold r x.e (w9 - 9 * x.rate)

/-- slc_need in eighths of a byte. -/
def slcNeed8 (fold : Nat) (l : List Load) : Nat := slcEighths fold (l.foldr insertByE []) 0 (9 * rateSum l)

/-- Synchronous links of this head with their source volume and rate in bytes/s (R249). -/
def State.syncLinks (s : State) : List (Nat × Nat) :=
  ((upto 16).filter (fun k => s.getF (F.SIEVE_REPL_CFG_MODE.at k) = 2 && s.getF (F.SIEVE_REPL_STATE_STATE.at k) ≠ 0)).map
    (fun k => (s.getF (F.SIEVE_REPL_CFG_SOURCE_VOL.at k), s.getF (F.SIEVE_REPL_CFG_RATE_MB.at k) * 1000000))

/-- The port test (R151, R249). -/
def State.portFails (s : State) (l : List Load) : Bool :=
  ([0, 1, 2, 3, 0x10, 0x11, 0x12, 0x13].any (fun p =>
    decide (9 * s.portRate p < 10 * rateSum (l.filter (fun x => x.port = p))))) ||
  (s.syncLinks.any (fun k => let m := l.filter (fun x => x.vol = k.1 && x.rate ≠ 0)
    !m.isEmpty && decide (9 * k.2 < 10 * rateSum m)))

/-- The tests a set of takes fails, as LIMIT bits of R154. Shares are in percent; rsv in per mille. -/
def State.failMask (s : State) (cap : Cap) (shareIn shareDirty rsv : Nat) (l : List Load) : Nat :=
  let dirty := l.foldl (fun n x => n + x.rate * cap.residence + x.g * 1000000) 0
  b2n (shareIn * cap.ingest < 100 * rateSum l) + b2n (s.portFails l) * 2 +
    b2n (shareDirty * cap.budget * 1000000 < 100 * dirty) * 4 +
    b2n (decide ((cap.slcFree : Int) * 8000 - 8 * (rsv * cap.slcSize : Nat) < (1000 * slcNeed8 cap.fold l : Nat))) * 8 +
    b2n (cap.spaceFree < l.foldl (fun n x => n + x.rate * x.e) 0) * 16 +
    b2n (l.any (fun x => decide (cap.granaryS < x.e))) * 32

/-- Largest number of whole seconds from lo to hi that meets a test, lo being taken to meet it (R152). -/
def largestWhere (f : Nat → Bool) : Nat → Nat → Nat → Nat
  | 0, lo, _ => lo
  | n + 1, lo, hi =>
    if hi ≤ lo then lo
    else
      let m := (lo + hi + 1) / 2
      if f m then largestWhere f n m hi else largestWhere f n lo (m - 1)

/-- The reason of the first limiting test, in the order of R153. -/
def reasonOf (mask : Nat) : Nat :=
  if mask.testBit 2 then 0x01 else if mask.testBit 0 then 0x02 else if mask.testBit 1 then 0x03
  else if mask.testBit 3 then 0x04 else if mask.testBit 4 then 0x05 else if mask.testBit 5 then 0x06
  else if mask.testBit 6 then 0x0B else 0

/-! ### The decision (R152, R153, R162) -/

/-- The load a block asks for, kept for e seconds. -/
def State.blockLoad (s : State) (r : TollReq) (e : Nat) : Load where
  rate := r.rate
  port := r.port
  g := if r.direct then regionBytes (s.getF F.TOLL_POLICY_REGION_FRAMES) r.frameBytes else 0
  e := e
  vol := r.vol

/-- The load a request would be, kept for e seconds; an EXTEND's is that of the take it names, this head's or, from its mirrored
record, the partner's (R152). -/
def State.reqLoad (s : State) (r : TollReq) (e : Nat) : Load :=
  let x := s.takeOf r.take
  if r.extend = false then s.blockLoad r e
  else if x.state ≠ 0 then { rate := x.rate, port := x.port, g := x.region, e := e, vol := x.vol }
  else s.blockLoad (parseReq (s.cf.takes.get r.take)) e

/-- Whether a request is put to the SOLO test (R162); an EXTEND as its take was admitted. -/
def State.reqSolo (s : State) (r : TollReq) : Bool := if r.extend then (s.takeOf r.take).soloSafe else r.solo

/-- The admission test of a set at the admission shares. -/
def State.admitMask (s : State) (l : List Load) : Nat :=
  s.failMask s.toll.cap (s.getF F.TOLL_POLICY_TAKE_SHARE) (s.getF F.TOLL_POLICY_DIRTY_SHARE) (s.getF F.TOLL_POLICY_SLC_RSV) l

/-- SOLO_SAFE loads of the partner's takes, from their mirrored records, but for one number (R162); their KEPT_UNTIL is in the
partner's operating seconds, which its HEARTBEAT carries. -/
def State.partnerLoads (s : State) (skip : Nat) : List Load :=
  (s.cf.takes.filter (fun p => p.1 ≠ skip && (parseReq p.2).solo && (fieldAt p.2 0x7C 1 = 1 || fieldAt p.2 0x7C 1 = 2))).map
    (fun p => { s.blockLoad (parseReq p.2) (fieldAt p.2 0x58 5 - s.cf.partnerOpsec) with safe := true, far := true })

/-- Every load a decision may count: this head's takes, and the partner's for the SOLO test. -/
def State.othersBut (s : State) (skip : Nat) : List Load := s.loadsBut skip ++ s.partnerLoads skip

/-- The SOLO test of R162 over the SOLO_SAFE takes of both heads among the others, with the new one. -/
def State.soloMask (s : State) (others : List Load) (x : Load) : Nat :=
  let cap := { s.toll.cap with slcFree := s.toll.cap.slcFree + s.toll.partnerSlcFree
                               spaceFree := s.toll.cap.spaceFree + s.toll.partnerSpaceFree }
  s.failMask cap (s.getF F.TOLL_POLICY_TAKE_SHARE) (s.getF F.TOLL_POLICY_DIRTY_SHARE) (s.getF F.TOLL_POLICY_SLC_RSV)
    (x :: others.filter (fun y => y.safe))

/-- The tests a request fails at e seconds, against the given takes; bit 6 is the SOLO test, which stands in
PAIRED only (R162). -/
def State.reqMask (s : State) (r : TollReq) (others : List Load) (e : Nat) : Nat :=
  s.admitMask (s.reqLoad r e :: others.filter (fun y => !y.far)) +
    (if s.reqSolo r = true ∧ s.mode = .paired ∧ s.soloMask others (s.reqLoad r e) ≠ 0 then 64 else 0)

/-- The kept duration d of R152 and the LIMIT bits of what limited it. -/
def State.reqDuration (s : State) (r : TollReq) (others : List Load) : Nat × Nat :=
  let f := fun e => s.reqMask r others e = 0
  let d := if f 0 then largestWhere f 33 0 r.dur else 0
  (d, if d = r.dur then 0 else s.reqMask r others (d + 1))

/-- The loads k seconds from now: a take past its KEPT_UNTIL counts its region alone, from OVERTIME to its close (R155). -/
def loadsAfter (l : List Load) (k : Nat) : List Load :=
  l.map (fun x => if k < x.e then { x with e := x.e - k } else { x with rate := 0, e := 0, safe := false })

/-- Retry-after in ms for a test that a closing take would clear: the earliest KEPT_UNTIL after which the
request would pass (R153). -/
def State.retryInput (s : State) (r : TollReq) (others : List Load) : Nat :=
  match ((others.foldr insertByE []).map (fun x => x.e)).find? (fun k =>
      decide (r.minDur ≤ (s.reqDuration r (loadsAfter others k)).1)) with
  | some k => min 0xFFFFFF (k * 1000)
  | none => 0xFFFFFF

/-- Retry-after in ms to the earliest KEPT_UNTIL still to come (R153). -/
def earliestKept (l : List Load) : Nat :=
  match (l.filter (fun x => x.rate ≠ 0)).foldr insertByE [] with
  | [] => 0
  | x :: _ => min 0xFFFFFF (x.e * 1000)

/-- The outcome of a decision. -/
structure Decision where
  status : Status
  reason : Nat
  d : Nat
  retry : Nat
  limit : Nat
  deriving DecidableEq, Repr, Inhabited

/-- Lowest free take index of this slot, 32 where none is. -/
def State.freeTake (s : State) : Nat :=
  let base := s.slotNo * 32
  lowestFree 0 ((s.toll.takes.filter (fun p => p.2.state ≠ 0 && decide (base ≤ p.1) && decide (p.1 < base + 32))).map
    (fun p => p.1 - base))

/-- Decide a request that has met the checks (R152, R153). The spec does not say which failing inputs recover by themselves: the
model takes the flush budget alone, which R153 always defers (DESIGN CHOICE, assumption log 23). -/
def State.judge (s : State) (r : TollReq) : Decision :=
  let skip := if r.extend then r.take else 64
  let others := s.loadsBut skip
  let all := s.othersBut skip
  if s.grade = 2 then { status := 0x2071, reason := 0x07, d := 0, retry := 1000, limit := 0 }
  else if r.extend = false ∧ 32 ≤ s.freeTake then { status := 0x2071, reason := 0x08, d := 0, retry := earliestKept others, limit := 0 }
  else if r.extend = false ∧ (61440 < s.reservedExt + 2048 ∨ 4096 ≤ s.queuesUsed) then
    { status := 0x2071, reason := 0x09, d := 0, retry := earliestKept others, limit := 0 }
  else
    let (d, mask) := s.reqDuration r all
    if d = r.dur then { status := 0, reason := 0, d := d, retry := 0, limit := 0 }
    else if r.minDur ≤ d then { status := 0x0070, reason := reasonOf mask, d := d, retry := 0, limit := mask }
    else
      let reason := reasonOf mask
      let alone := decide (r.minDur ≤ (s.reqDuration r []).1)
      if reason = 0x01 then
        let load := (s.reqLoad r 0 :: others).foldl (fun n x => n + x.rate * s.toll.cap.residence / 1000000 + x.g) 0
        { status := 0x2071, reason := 0x01, d := 0, limit := mask
          retry := s.retryBudget (load * 100 / max 1 (s.getF F.TOLL_POLICY_DIRTY_SHARE)) }
      else if reason = 0x05 ∨ reason = 0x06 ∨ alone = false then { status := 0x2072, reason := reason, d := 0, retry := 0, limit := mask }
      else { status := 0x2071, reason := reason, d := 0, retry := s.retryInput r all, limit := mask }

/-! ### Registrations of landing regions (R367) -/

/-- The lowest free registration index from i on. -/
def State.regFree (s : State) : Nat → Nat → Nat
  | 0, i => i
  | n + 1, i =>
    let f := s.car.freed.get i
    if s.getF (F.CARRIER_REG_INFO_STATE.at i) = 0 ∧ (f = 0 ∨ f - 1 + s.getF F.CARRIER_CFG_EVICT_QUIET_MS * 1000 ≤ s.time)
    then i else State.regFree s n (i + 1)

/-- Register a range: index plus one, 0 where the table is full (R367). -/
def State.regCreate (s : State) (kind base bytes access peer : Nat) : Nat × State :=
  let i := s.regFree 1048576 0
  if 1048576 ≤ i then (0, s)
  else
    let gen := (s.getN (R.CARRIER_REG_HANDLE + i * 4294967296) / 2 ^ 48 + 1) % 2 ^ 16
    let (k, s1) := s.draw
    let h := gen * 2 ^ 48 + k.toNat % 2 ^ 24 * 2 ^ 24 + kind * 2 ^ 20 + i
    let s2 := s1.setF (F.CARRIER_REG_HANDLE_ALL.at i) h
    let s3 := s2.setF (F.CARRIER_REG_BASE_ALL.at i) base
    let s4 := s3.setF (F.CARRIER_REG_PEER_ALL.at i) peer
    let s5 := s4.setF (F.CARRIER_REG_INFO_LENGTH.at i) ((bytes + 4095) / 4096)
    let s6 := s5.setF (F.CARRIER_REG_INFO_KIND.at i) kind
    (i + 1, (s6.setF (F.CARRIER_REG_INFO_ACCESS.at i) access).setF (F.CARRIER_REG_INFO_STATE.at i) 1)

/-- Put a registration into REVOKING (R369). -/
def State.regRevoke (s : State) (i : Nat) : State :=
  ((s.setF (F.CARRIER_REG_INFO_STATE.at i) 2).setF (F.CARRIER_REG_REVOKE_SEQ_ALL.at i) s.now).tick

/-- Nobody: the peer a management grant's registration admits (R367, assumption log 19). -/
def noPeer : Nat := 2 ^ 64 - 1

/-! ### Grants (R154 to R156) -/

/-- The grant record (R154). -/
def grantBytes (d : Decision) (take stream queue rate keptWord region client reeve : Nat) : List Byte :=
  leBytes 2 d.status ++ leBytes 1 d.reason ++ leBytes 1 take ++ leBytes 2 stream ++ leBytes 2 queue ++ leBytes 8 rate ++
    leBytes 4 d.d ++ leBytes 4 d.retry ++ leBytes 8 keptWord ++ leBytes 8 region ++ leBytes 8 client ++
    leBytes 8 reeve ++ leBytes 4 d.limit ++ leBytes 4 0


/-- A record that creates no take. -/
def State.refusal (s : State) (r : TollReq) (d : Decision) : List Byte :=
  grantBytes d 0xFF 0 0 r.rate 0 0 r.client s.now

/-- The class of a keeper's MAGAZINE queue: TAKE while a take is held on the port, INTERACTIVE otherwise (R158, R391). -/
def State.magClass (s : State) (code : Nat) : State :=
  let q := (s.magPort (code - 0x10)).queue
  if code < 0x10 ∨ q = 0 then s
  else
    let held := s.toll.takes.any (fun p => (p.2.state = 1 || p.2.state = 2 || p.2.state = 3) && p.2.port = code)
    s.putQueue (q - 1) { s.queueOf (q - 1) with cls := if held then 0 else 1 }

/-- Grant a take (R154 to R156): number, TAKE queue, stream, landing region, registration, ADMITTED. -/
def State.grant (s : State) (block : List Byte) (r : TollReq) (d : Decision) (route peer ref : Nat) : List Byte × State :=
  let k := s.slotNo * 32 + s.freeTake
  match s.createQueue kTake 2048 0 peer 0 0 with
  | .error _ => (s.refusal r { d with status := 0x2071, reason := 0x09, d := 0 }, s)
  | .ok (q, s1) =>
    let frames := if r.direct then s.getF F.TOLL_POLICY_REGION_FRAMES else 0
    let base := k * 2 ^ 33
    let (reg, s2) := if r.direct = true ∧ r.port < 4 then
      s1.regCreate 1 base (regionBytes frames r.frameBytes) 1 (if route = 1 then (s.peerAt (peer % 65536)).node else noPeer) else (0, s1)
    let handle := if reg = 0 then 0 else s2.getF (F.CARRIER_REG_HANDLE_ALL.at (reg - 1))
    let kept := s.opsec + d.d
    let g := grantBytes d k (0x1000 + k) q r.rate (s.keptWord kept) handle r.client s.now
    let x : Take := { (default : Take) with
      state := 1, rate := r.rate, frameBytes := r.frameBytes, frameRate := r.frameRate, firstLeaf := r.firstLeaf
      vol := r.vol, priority := r.prio, port := r.port, soloSafe := r.solo, direct := r.direct, kept := kept
      admitted := s.now, queue := q, client := r.client, regBase := base, regFrames := frames, regIdx := reg
      route := route, peer := peer, ref := ref, req := block, grant := g }
    let y := { x with tokens := ((max (x.region) (r.rate * 102 / 1000000) : Nat) : Int) }
    let s3 := (s2.putTake k y).streamOpenTake k r.vol
    let s4 := (s3.addF F.TILL_REGIONS_BYTES x.region).addF F.TILL_REGIONS_COUNT (b2n r.direct)
    (g, ((s4.mirrorTake k).magClass r.port).tick)

/-- Extend a held take (R152). Its record keeps the block it was admitted by. -/
def State.grantExtend (s : State) (r : TollReq) (d : Decision) : List Byte × State :=
  let x := s.takeOf r.take
  let kept := s.opsec + d.d
  let g := grantBytes d r.take (0x1000 + r.take) x.queue x.rate (s.keptWord kept)
    (if x.regIdx = 0 then 0 else s.getF (F.CARRIER_REG_HANDLE_ALL.at (x.regIdx - 1))) r.client s.now
  let q := s.queueOf x.queue
  let st := if x.state = 3 then 2 else x.state
  (g, (((s.putQueue x.queue { q with cls := 0 }).putTake r.take
    { x with kept := kept, state := st, grant := g }).mirrorTake r.take).tick)

/-- The tag of a RECORD_ARM ends with the status of R152; the grant record follows its status block (R391). A status of class 0x2
carries its reason and retry-after (R153). -/
def State.armAnswer (s : State) (port reg : Nat) (st : Status) (g : List Byte) : State :=
  let m := s.magTask port reg
  let det := if classOf st = 2 then fieldAt g 2 1 * 2 ^ 24 + min 0xFFFFFF (fieldAt g 0x14 4) else 0
  if m.state = 1 ∧ m.tag ≠ 0 then (s.putMagTask port reg { m with extra := g }).docketEnd (m.tag - 1) st det else s

/-- Return a grant record by the route its request took (R147). -/
def State.takeReply (s : State) (route peer ref : Nat) (st : Status) (g : List Byte) : State :=
  match route with
  | 0 =>
    let s1 := (upto 8).foldl (fun s k => s.setN (R.TOLL_GRANT_DATA + 8 * k) (fieldAt g (8 * k) 8)) s
    (s1.setF F.TOLL_REQ_CTL_BUSY 0).stat F.TOLL_REQ_CTL_STATUS st
  | 1 => s.carSend peer 0x12 0 g .nothing
  | _ => s.armAnswer peer ref st g

/-- Commit a decided request. -/
def State.takeCommit (s : State) (q : TakeReq) (r : TollReq) (d : Decision) : State :=
  if d.status = 0 ∨ d.status = 0x70 then
    let (g, s1) := if r.extend then s.grantExtend r d else s.grant q.block r d q.route q.peer q.ref
    s1.takeReply q.route q.peer q.ref (fieldAt g 0 2) g
  else (s.takeReply q.route q.peer q.ref d.status (s.refusal r d)).tick

/-- Decide one request (R148 to R155, R162): a SOLO_SAFE one in PAIRED that passes here is first put to the
partner; requests behind it wait (R152). -/
def State.takeDecide (s : State) (q : TakeReq) : State :=
  let r := parseReq q.block
  let st := s.reqStatus r
  if st ≠ 0 then (s.takeReply q.route q.peer q.ref st (s.refusal r { (default : Decision) with status := st })).tick
  else if s.toll.solo.isSome then { s with toll := { s.toll with waiting := s.toll.waiting ++ [q] } }
  else
    let d := s.judge r
    if s.reqSolo r = true ∧ s.mode = .paired ∧ (d.status = 0 ∨ d.status = 0x70) then
      let s1 := { s with toll := { s.toll with solo := some q } }
      (if q.route = 0 then s1.setF F.TOLL_REQ_CTL_BUSY 1 else s1).sendAct 5 0 0 s.toll.cap.slcFree s.toll.cap.spaceFree d.d q.block
    else s.takeCommit q r d

/-- Decide the requests that waited behind a SOLO test. -/
def State.takeNext (s : State) : State :=
  let l := s.toll.waiting
  l.foldl State.takeDecide { s with toll := { s.toll with solo := none, waiting := [] } }

/-- The partner's answer to the SOLO test, or its absence (R162): commit, or DEFERRED with reason SOLO and the retry-after of a
failing ingest test (R153, R166). -/
def State.soloEnd (s : State) (ok : Bool) : State :=
  match s.toll.solo with
  | none => s
  | some q =>
    let r := parseReq q.block
    let s1 := { s with toll := { s.toll with solo := none } }
    (if ok then s1.takeCommit q r (s1.judge r)
     else s1.takeCommit q r { status := 0x2071, reason := 0x0B, d := 0, limit := 64
                              retry := s1.retryInput r (s1.othersBut (if r.extend then r.take else 64)) }).takeNext

/-- The partner's half of a SOLO test: whether this head would keep the take with its own SOLO_SAFE takes. -/
def State.soloJudge (s : State) (block : List Byte) (d : Nat) : Bool :=
  let r := parseReq block
  s.soloMask (s.othersBut (if r.extend then r.take else 64)) (s.reqLoad r d) = 0

/-! ### A take's life (R156) -/

/-- Release a take's reservation: its region and its registration. -/
def State.takeRelease (s : State) (k : Nat) : State :=
  let x := s.takeOf k
  let s1 := if x.regIdx = 0 then s else s.regRevoke (x.regIdx - 1)
  let s2 := s1.setF F.TILL_REGIONS_BYTES (s1.getF F.TILL_REGIONS_BYTES - x.region)
  (s2.setF F.TILL_REGIONS_COUNT (s2.getF F.TILL_REGIONS_COUNT - b2n x.direct)).putTake k { x with regIdx := 0 }

/-- A LAPSED take returns to NONE: its number is free, and its stream closes (R156, R172). -/
def State.takeGone (s : State) (k : Nat) : State := (s.putTake k default).streamClose (0x1000 + k)

/-- Close a take: landed frames complete, and the reservation ends at once. -/
def State.takeClose (s : State) (k : Nat) : State :=
  let x := s.takeOf k
  if x.state = 1 ∨ x.state = 2 ∨ x.state = 3 then
    let s1 := s.takeRelease k
    let s2 := s1.putTake k { s1.takeOf k with state := 4 }
    (((s2.mirrorTake k).magClass x.port).takeEnded k).tick
  else if x.state = 5 then s.takeGone k
  else s

/-- Whether this head holds a take under a number. -/
def State.holdsTake (s : State) (k : Nat) : Bool := k < 64 && (s.takeOf k).state ≠ 0

/-- TOLL_REQ_CTL.GO (R147, R167). -/
def execTollReqGo (s : State) : Res :=
  .next (if s.getF F.TOLL_REQ_CTL_BUSY = 1 then s.stat F.TOLL_REQ_CTL_STATUS 0x8070
    else if s.selfFenced then s
    else s.takeDecide { block := (upto 8).flatMap (fun k => leBytes 8 (s.getN (R.TOLL_REQ_DATA + 8 * k)))
                        route := 0, peer := 0, ref := 0 })

/-- TOLL_REQ_CTL.CLOSE (R156, R167). -/
def execTollReqClose (s : State) : Res :=
  let k := s.getF F.TOLL_REQ_CTL_TAKE
  .next (if s.getF F.TOLL_REQ_CTL_BUSY = 1 then s.stat F.TOLL_REQ_CTL_STATUS 0x8070
    else if s.holdsTake k then (s.takeClose k).stat F.TOLL_REQ_CTL_STATUS 0
    else s.stat F.TOLL_REQ_CTL_STATUS 0x5071)

/-- ARM_WINDOW passes without a frame: LAPSED, the reservation released at once (R155, R156). -/
def execArmWindowExpiry (take : Nat) (s : State) : Res :=
  .next (if (s.takeOf take).state = 1 then
    let s1 := s.takeRelease take
    ((s1.deleteQueue (s1.takeOf take).queue).putTake take { s1.takeOf take with state := 5 }).mirrorTake take |>.magClass (s.takeOf take).port
  else s)

/-- KEPT_UNTIL passes: frames are served without guarantee, as BULK (R156). -/
def execKeptUntilExpiry (take : Nat) (s : State) : Res :=
  let x := s.takeOf take
  .next (if x.state = 2 then
    ((s.putTake take { x with state := 3 }).putQueue x.queue { s.queueOf x.queue with cls := 2 }).mirrorTake take
  else s)

/-- 60 s pass in LAPSED (R156). -/
def execLapsedExpiry (take : Nat) (s : State) : Res :=
  .next (if (s.takeOf take).state = 5 then s.takeGone take else s)

/-- No answer within 5 ms to a SOLO test (R153, R162, R166). -/
def execSoloTestTimeout (s : State) : Res := .next (s.soloEnd false)

/-- TOLL_TAKE_INFO of a take (R167). -/
def State.viewTakeInfo (s : State) (k : Nat) : Nat :=
  let x := s.takeOf k
  if x.state = 0 then 0
  else (0x1000 + k) * 2 ^ 48 + x.vol * 2 ^ 36 + x.queue * 2 ^ 24 + x.port * 2 ^ 16 + x.priority * 2 ^ 13 +
    b2n x.soloSafe * 2 ^ 12 + b2n x.adopted * 2 ^ 11 + b2n x.direct * 2 ^ 10 + x.state

/-- A read of TOLL_TAKE_INFO: a LAPSED take's number is free once management has read it (R156). -/
def State.takeInfoRead (s : State) (k : Nat) : Word × State :=
  (BitVec.ofNat 64 (s.viewTakeInfo k), if (s.takeOf k).state = 5 then s.takeGone k else s)

/-! ### Re-evaluation and cut (R163 to R166) -/

/-- Whether take a is cut before take b (R164). -/
def cutBefore (a b : Take) : Bool :=
  if a.soloSafe ≠ b.soloSafe then !a.soloSafe
  else if a.priority ≠ b.priority then decide (a.priority < b.priority)
  else if a.adopted ≠ b.adopted then a.adopted
  else decide (b.admitted < a.admitted)

/-- Insert into a list kept last-in-cutting-order first. -/
def insertCut (s : State) (k : Nat) : List Nat → List Nat
  | [] => [k]
  | j :: r => if cutBefore (s.takeOf k) (s.takeOf j) then j :: insertCut s k r else k :: j :: r

/-- The NOTICE body of R358. -/
def noticeBytes (take reason limit old new reeve : Nat) (imm : Bool) : List Byte :=
  leBytes 1 take ++ leBytes 1 reason ++ leBytes 1 (b2n imm) ++ leBytes 1 0 ++ leBytes 4 limit ++ leBytes 8 old ++
    leBytes 8 new ++ leBytes 8 reeve

/-- Lower a take's KEPT_UNTIL and send its notice (R164, R165). -/
def State.cutTake (s : State) (k new mask capSeq : Nat) (imm : Bool) : State :=
  let x := s.takeOf k
  let reason := reasonOf mask
  let b := noticeBytes k reason mask (s.keptWord x.kept) (s.keptWord new) capSeq imm
  let s1 := (s.putTake k { x with kept := new }).satF F.TOLL_STATE_NOTICES
  let s2 := match x.route with
    | 1 => s1.carSend x.peer 0x14 0 b .nothing
    | 2 => if s1.magUp x.peer then s1.magSend x.peer 0x16 0 0 0 b else s1
    | _ => s1
  let det := k + reason * 2 ^ 8 + b2n imm * 2 ^ 16
  let s3 := s2.log blkTOLL 0 0 det b
  (if imm then s3.alarm blkTOLL 0 0 det b else s3).mirrorTake k

/-- Rebuild the kept set from the other end of the cutting order (R164). The SLC reserve and the dirty room cover a
notice where the SLC and dirty tests pass with them and INGEST is not zero (R166); a cut take on a port that is shut counts on
no port, for R166 keeps the others (assumption log 46). A take whose KEPT_UNTIL is not lowered gets no notice (R165). -/
def State.cutWalk (capSeq : Nat) : List Nat → List Load → State → State
  | [], _, s => s
  | k :: r, kept, s =>
    let x := s.takeOf k
    let ld := x.load s.opsec
    let mask (e : Nat) := s.failMask s.toll.cap 100 100 (s.getF F.TOLL_POLICY_SLC_RSV) ({ ld with e := e } :: kept)
    if mask ld.e = 0 then State.cutWalk capSeq r (ld :: kept) s
    else
      let d := if mask 0 = 0 then largestWhere (fun e => mask e = 0) 41 0 ld.e else 0
      let nm := min (s.getF F.TOLL_POLICY_NOTICE_MIN) ld.e
      let m := s.failMask s.toll.cap 100 100 0 ({ ld with e := nm } :: kept)
      let room := decide (s.toll.cap.ingest ≠ 0) && !m.testBit 2 && !m.testBit 3
      let e := if nm ≤ d then d else if room then nm else 0
      State.cutWalk capSeq r ({ ld with e := e, port := if s.portRate ld.port = 0 then 0xFF else ld.port } :: kept)
        (if e < ld.e then s.cutTake k (s.opsec + e) (mask (d + 1)) capSeq (e = 0) else s)

/-- Re-test the admitted takes on a capacity block at full shares (R163, R164). -/
def State.retest (s : State) : State :=
  let all := s.loadsBut 64
  if s.failMask s.toll.cap 100 100 (s.getF F.TOLL_POLICY_SLC_RSV) all = 0 then s
  else
    let ks := (s.toll.takes.filter (fun p => p.2.kept?)).map Prod.fst
    let past := (s.toll.takes.filter (fun p => p.2.state = 3)).map (fun p => p.2.load s.opsec)
    State.cutWalk (s.getN R.TOLL_CAP_SEQ) (ks.foldr (insertCut s) []) past s

/-- Cut every take at once with IMMEDIATE and one reason bit (R323). -/
def State.cutAll (s : State) (mask : Nat) : State :=
  ((s.toll.takes.filter (fun p => p.2.kept?)).map Prod.fst).foldl
    (fun s k => s.cutTake k s.opsec mask (s.getN R.TOLL_CAP_SEQ) true) s

/-- Read a capacity block of 72 bytes (R150). -/
def parseCap (l : List Byte) : Cap where
  ingest := fieldAt l 0x00 8
  read := fieldAt l 0x08 8
  fold := fieldAt l 0x10 8
  slcFree := fieldAt l 0x18 8
  spaceFree := fieldAt l 0x20 8
  budget := fieldAt l 0x28 8
  granaryS := fieldAt l 0x30 4
  residence := fieldAt l 0x34 4
  rebuildFloor := fieldAt l 0x38 4
  gleanFloor := fieldAt l 0x3C 4
  slcSize := fieldAt l 0x40 8

/-- The bytes of a capacity block. -/
def Cap.bytes (c : Cap) : List Byte :=
  leBytes 8 c.ingest ++ leBytes 8 c.read ++ leBytes 8 c.fold ++ leBytes 8 c.slcFree ++ leBytes 8 c.spaceFree ++
    leBytes 8 c.budget ++ leBytes 4 c.granaryS ++ leBytes 4 c.residence ++ leBytes 4 c.rebuildFloor ++
    leBytes 4 c.gleanFloor ++ leBytes 8 c.slcSize

/-- The Toll takes a capacity block and mirrors it in its registers (R150). -/
def State.tollMirror (s : State) (c : Cap) : State :=
  let s1 := { s with toll := { s.toll with cap := c } }
  let s2 := ((s1.setN R.TOLL_CAP_INGEST c.ingest).setN R.TOLL_CAP_READ c.read).setN R.TOLL_CAP_FOLD c.fold
  let s3 := ((s2.setN R.TOLL_CAP_SLC c.slcFree).setN R.TOLL_CAP_SPACE c.spaceFree).setN R.TOLL_CAP_BUDGET c.budget
  let s4 := ((s3.setF F.TOLL_CAP_TIMES_GRANARY_S c.granaryS).setF F.TOLL_CAP_TIMES_RESIDENCE_US c.residence)
  let s5 := ((s4.setF F.TOLL_CAP_FLOORS_REBUILD_FLOOR c.rebuildFloor).setF F.TOLL_CAP_FLOORS_GLEAN_FLOOR c.gleanFloor)
  ((s5.setN R.TOLL_CAP_SLC_SIZE c.slcSize).setN R.TOLL_CAP_SEQ s5.now).tick

/-- A capacity block: its figures for the SOLO test are reported to the partner (R162), and the admitted takes are re-tested (R150,
R163). -/
def State.tollCap (s : State) (c : Cap) : State :=
  let s1 := s.tollMirror c
  let s2 := if s.mode = .paired then s1.sendAct 5 3 0 c.slcFree c.spaceFree 0 [] else s1
  if s.mode = .holdup then s2 else s2.retest

/-! ### A guarantee another request would break (R166, R505) -/

/-- Whether the admitted takes would still pass with another capacity block. -/
def State.keepsGuarantee (s : State) (c : Cap) : Bool :=
  s.failMask c 100 100 (s.getF F.TOLL_POLICY_SLC_RSV) (s.loadsBut 64) = 0

/-- Retry-after for reason GUARANTEE, in ms: the earliest KEPT_UNTIL after which the change breaks no
guarantee (R153). -/
def State.retryGuarantee (s : State) (c : Cap) : Nat :=
  let l := s.loadsBut 64
  match ((l.foldr insertByE []).map (fun x => x.e)).find? (fun k =>
      s.failMask c 100 100 (s.getF F.TOLL_POLICY_SLC_RSV) (loadsAfter l k) = 0) with
  | some k => min 0xFFFFFF (k * 1000)
  | none => 0xFFFFFF

/-! ### Views -/

/-- TOLL_STATE (R167). -/
def State.viewTollState (s : State) : Nat :=
  s.getF F.TOLL_STATE_NOTICES * 2 ^ 48 + (s.toll.takes.filter (fun p => p.2.state ≠ 0)).length * 2 ^ 32 +
    b2n (s.modeStatus true = 0 && s.mode ≠ .holdup && s.grade ≠ 2)

/-- TOLL_RATE_SUM (R167): over the takes that TOLL_STATE.TAKES counts. -/
def State.viewRateSum (s : State) : Nat := (s.toll.takes.filter (fun p => p.2.state ≠ 0)).foldl (fun n p => n + p.2.rate) 0

/-- TOLL_SLC_NEED (R167). -/
def State.viewSlcNeed (s : State) : Nat := (slcNeed8 s.toll.cap.fold (s.loadsBut 64) + 7) / 8

end Sys2Proof.Machine
end

