-- ==== Sys2Proof/Machine/Steward.lean ====
section
/-! DEFINITION. The Steward: map entries and groups (R273 to R280), the Daybook (R281 to R284), slots, sheaves
and members (R274, R334 to R338), references and the commit. -/
namespace Sys2Proof.Machine

/-! ### Map entries (R273) -/

def eKind (e : BitVec 128) : Nat := e.toNat / 2 ^ 62 % 4
def eIndexed (e : BitVec 128) : Bool := e.getLsbD 61
def eInherited (e : BitVec 128) : Bool := e.getLsbD 60
def eSlots (e : BitVec 128) : Nat := e.toNat / 2 ^ 55 % 32
def eCommons (e : BitVec 128) : Nat := e.toNat / 2 ^ 43 % 4096
def eSlot (e : BitVec 128) : Nat := e.toNat % 2 ^ 43
def eTweak (e : BitVec 128) : Nat := e.toNat / 2 ^ 64

/-- Build an entry. -/
def mkEntry (kind : Nat) (indexed inherited : Bool) (slots commons slot tweak : Nat) : BitVec 128 :=
  BitVec.ofNat 128 (tweak % 2 ^ 64 * 2 ^ 64 + kind % 4 * 2 ^ 62 + b2n indexed * 2 ^ 61 + b2n inherited * 2 ^ 60 +
    slots % 32 * 2 ^ 55 + commons % 4096 * 2 ^ 43 + slot % 2 ^ 43)

/-- An entry with INDEXED cleared. -/
def eBare (e : BitVec 128) : BitVec 128 := e &&& ~~~(1#128 <<< 61)

/-- An entry with INDEXED set. -/
def eMark (e : BitVec 128) : BitVec 128 := e ||| (1#128 <<< 61)

/-- The 16 bytes of an entry. -/
def entryBytes (e : BitVec 128) : List Byte := leBytes 16 e.toNat

/-- The entry sixteen bytes spell. -/
def entryOf (l : List Byte) : BitVec 128 := BitVec.ofNat 128 (leNat (l.take 16))

/-- The leaf entry that leaf i inherits from a grain entry (R275). -/
def inherit (e : BitVec 128) (i : Nat) : BitVec 128 :=
  mkEntry 3 false true (eSlots e) (eCommons e) (eSlot e) (eTweak e + i)

/-! ### The map -/

/-- A grain's map value: [], [entry], or the split entry and sixteen leaf entries. -/
abbrev GrainMap := List (BitVec 128)

/-- Key of the grain of an address (volume in [63:52], leaf in [51:0]). -/
def grainKey (addr : Nat) : Nat := addr / 2 ^ 52 % 4096 * 2 ^ 48 + addr % 2 ^ 52 / 16

/-- Key of a volume's grain. -/
def volGrain (vol leaf : Nat) : Nat := vol * 2 ^ 48 + leaf / 16

/-- The committed value of a grain; a presented snapshot's is that of the snapshot (R240). -/
def State.mapAt (s : State) (k : Nat) : GrainMap :=
  let x := s.docket.vols.get (k / 2 ^ 48)
  if x.presented = 0 then s.stew.map.get k
  else (s.sieve.snaps.get (x.presVol * 2 ^ 32 + (x.presented - 1))).map.get (x.presVol * 2 ^ 48 + k % 2 ^ 48)

/-- The entry of a grain as a whole: zero when unmapped, the split entry when split. -/
def GrainMap.whole (v : GrainMap) : BitVec 128 := v.headD 0

/-- The leaf entry i of a grain, split or to be split (R114, R275). -/
def GrainMap.leaf (v : GrainMap) (i : Nat) : BitVec 128 :=
  match v with
  | [] => 0
  | [e] => inherit e i
  | _ :: r => r.getD i 0

/-- The current entry that an update would replace (R114). -/
def GrainMap.current (v : GrainMap) (leaf : Bool) (addr : Nat) : BitVec 128 :=
  if leaf then v.leaf (addr % 16) else v.whole

/-- The value after one update; blk numbers the leaf block a split allocates in commons c (R275). -/
def GrainMap.apply (v : GrainMap) (c blk : Nat) (u : MapUpd) : GrainMap :=
  if u.leaf then
    let head := if v.length = 17 then v.headD 0 else mkEntry 2 false false 0 c blk 0
    head :: (upto 16).map (fun i => if i = u.addr % 16 then u.entry else v.leaf i)
  else if u.entry = 0 then [] else [u.entry]

/-- Whether an update splits a grain. -/
def GrainMap.splits (v : GrainMap) (u : MapUpd) : Bool := u.leaf && v.length ≠ 17

/-- A grain as the tag that holds a group sees it (R280). -/
def seeGroup (k : Nat) : List MapUpd → GrainMap → GrainMap
  | [], v => v
  | u :: r, v => seeGroup k r (if grainKey u.addr = k then v.apply 0 0 u else v)

/-- Slot extents a grain's value names: a grain of its own, a split grain's parent once, each leaf of its own. -/
def GrainMap.names (v : GrainMap) : List Nat :=
  match v with
  | [] => []
  | [e] => if eKind e = 1 then [eCommons e * 2 ^ 43 + eSlot e] else []
  | _ :: r =>
    let inh := r.filter (fun e => eInherited e)
    (match inh with | [] => [] | e :: _ => [eCommons e * 2 ^ 43 + eSlot e]) ++
      ((r.filter (fun e => eKind e = 3 && !eInherited e)).map (fun e => eCommons e * 2 ^ 43 + eSlot e))

/-! ### Extents (R241) -/

/-- An extent. -/
def State.extent (s : State) (k : Nat) : Extent := s.stew.extents.get k

/-- Put an extent. -/
def State.putExtent (s : State) (k : Nat) (x : Extent) : State :=
  { s with stew := { s.stew with extents := s.stew.extents.set k x } }

/-- The current epoch of the pool (R237). -/
def State.poolEpoch (s : State) : Nat := s.getN R.SIEVE_EPOCH

/-- Whether slots are held by the rule of R241. -/
def State.extentHeld (s : State) (x : Extent) : Bool :=
  x.n ≠ 0 && (x.death = 0 ||
    s.sieve.snaps.any (fun p =>
      let v := p.1 / 2 ^ 32
      let e := p.1 % 2 ^ 32
      p.2.state = 1 && decide (x.birth ≤ e) && decide (e < x.death - 1) &&
        (v = x.vol || (x.sieve ≠ 0 && (s.sieve.recs.get (x.sieve - 1)).multi &&
          s.getF (F.SIEVE_VOL_CFG_VAULT.at v) = (x.sieve - 1) / 2 ^ 256 % 2 ^ 8))))

/-- Held slots of a sheaf. -/
def State.heldSlots (s : State) (c sheaf : Nat) : Nat :=
  (s.stew.extents.filter (fun p => p.1 / 2 ^ 10 = c * 2 ^ 33 + sheaf && s.extentHeld p.2)).foldl (fun n p => n + p.2.n) 0

/-- Slots of a SECURE volume freed are condemned (R317, R318). -/
def State.condemn (s : State) (k : Nat) (x : Extent) : State :=
  if s.getF (F.STEWARD_VOL_MEDIA_SECURE.at x.vol) = 1 ∧ x.page = false ∧ s.extentHeld x = false then
    let sh := k / 2 ^ 10
    let (n, t) := s.stew.condemned.get sh
    { s with stew := { s.stew with condemned := s.stew.condemned.set sh (n + x.n, if n = 0 then s.opsec else t) } }
  else s

/-- One more live map name of an extent. -/
def State.nameAdd (s : State) (k : Nat) : State :=
  let x := s.extent k
  if x.n = 0 then s else s.putExtent k { x with names := x.names + 1, death := 0 }

/-- One live map name fewer; the last one's end is the death of unindexed slots. -/
def State.nameDrop (s : State) (k : Nat) : State :=
  let x := s.extent k
  if x.n = 0 then s
  else
    let y := { x with names := x.names - 1, death := if x.names ≤ 1 ∧ x.sieve = 0 then s.poolEpoch + 1 else x.death }
    (s.putExtent k y).condemn k y

/-- Insert a number into a rising list. -/
def insertNat (x : Nat) : List Nat → List Nat
  | [] => [x]
  | y :: r => if x ≤ y then x :: y :: r else y :: insertNat x r

/-! ### Sieve records (R229, R234, R235) -/

/-- A Sieve record. -/
def State.sieveRec (s : State) (k : Nat) : SieveRec := s.sieve.recs.get k

/-- The 64 bytes of a record under its key (R229). -/
def SieveRec.bytes (k : Nat) (r : SieveRec) : List Byte :=
  leBytes 32 (k % 2 ^ 256) ++ leBytes 16 r.entry.toNat ++ leBytes 4 (if r.saturated then 0xFFFFFFFF else r.refs) ++
    leBytes 1 (k / 2 ^ 256 % 256) ++ leBytes 1 (b2n r.valid + b2n r.defunct * 2 + b2n r.saturated * 4 + b2n r.multi * 8) ++
    leBytes 2 (k / 2 ^ 264) ++ leBytes 4 r.death ++ leBytes 2 (r.firstVol % 4096) ++ leBytes 2 0

/-- B of a commons's index (R230). -/
def State.bucketsOf (s : State) (c : Nat) : Nat := max 1 (s.sieve.buckets.get c)

/-- The bucket of a record, under commons · 2^64 + bucket (R230): bytes 0 to 7 of the fingerprint, XOR the vault, modulo B. -/
def State.bucketKey (s : State) (k : Nat) : Nat :=
  let c := k / 2 ^ 264
  c * 2 ^ 64 + (k % 2 ^ 64 ^^^ k / 2 ^ 256 % 256) % s.bucketsOf c

/-- The records of a bucket. -/
def State.bucketRecs (s : State) (b : Nat) : List (Nat × SieveRec) :=
  s.sieve.recs.filter (fun p => p.2.valid && s.bucketKey p.1 = b)

/-- Pages of a bucket: one, and overflow pages as its 255 records a page are full (R230). -/
def State.bucketPages (s : State) (b : Nat) : Nat := max 1 (((s.bucketRecs b).length + 254) / 255)

/-- An index page of a bucket: its header, its records, and nothing in the room that is left (R230). -/
def State.indexPage (s : State) (b i : Nat) : List Byte :=
  let rs := ((s.bucketRecs b).drop (255 * i)).take 255
  (upto 64).map (Config.indexHeader b i) ++ rs.flatMap (fun p => p.2.bytes p.1) ++ List.replicate (64 * (255 - rs.length)) 0

/-- The bits of a commons's presence filter that a record sets: 11 probes into 16 bits for each record of its index (R231). -/
def State.filterBits (s : State) (k : Nat) : List Nat :=
  (upto 11).map (fun i => Config.filterProbe k i % (2048 * s.bucketsOf (k / 2 ^ 264)))

/-- The filter of a commons notes a record. -/
def State.filterAdd (s : State) (k : Nat) : State :=
  let c := k / 2 ^ 264
  let bits := (s.filterBits k).foldl (fun l b => if l.contains b then l else insertNat b l) (s.sieve.filters.get c)
  { s with sieve := { s.sieve with filters := s.sieve.filters.set c bits } }

/-- Whether a commons's filter lets a key pass. -/
def State.filterPass (s : State) (k : Nat) : Bool := (s.filterBits k).all (fun b => (s.sieve.filters.get (k / 2 ^ 264)).contains b)

/-- The filter of a commons is built from its records (R235). -/
def State.filterBuild (s : State) (c : Nat) : State :=
  ((s.sieve.recs.filter (fun p => p.1 / 2 ^ 264 = c && p.2.valid)).map Prod.fst).foldl State.filterAdd
    { s with sieve := { s.sieve with filters := s.sieve.filters.set c [] } }

/-- A record is the last used of the hot ones (R231). -/
def State.hotTouch (s : State) (k : Nat) : State :=
  { s with sieve := { s.sieve with hot := (k :: s.sieve.hot.filter (fun x => x ≠ k)).take s.sieve.hotMax } }

/-- Put a Sieve record: its bucket's pages on the members are behind, and the filter knows it (R230, R231). -/
def State.putRec (s : State) (k : Nat) (r : SieveRec) : State :=
  let b := s.bucketKey k
  let d := if s.sieve.dirtyIdx.contains b then s.sieve.dirtyIdx else insertNat b s.sieve.dirtyIdx
  let s1 := { s with sieve := { s.sieve with recs := s.sieve.recs.set k r, dirtyIdx := d
                                             hot := if r.valid then s.sieve.hot else s.sieve.hot.filter (fun x => x ≠ k) } }
  if r.valid then s1.filterAdd k else s1

/-- Gleaning frees the dead slots of a sheaf (R241): the records that stood in them are deleted (R235). -/
def State.slotsFree (s : State) (sheaf : Nat) : State :=
  let dead := (s.stew.extents.filter (fun p => p.1 / 2 ^ 10 = sheaf && !s.extentHeld p.2)).map Prod.fst
  let keys := (s.sieve.recs.filter (fun p => p.2.defunct && dead.contains (eCommons p.2.entry * 2 ^ 43 + eSlot p.2.entry))).map Prod.fst
  let s1 := keys.foldl (fun s k => s.putRec k default) s
  { s1 with stew := { s1.stew with extents := s1.stew.extents.filter (fun p => !dead.contains p.1) } }

/-- Apply one change of a record. References count from the operation that takes them; a discarded group gives
them back (R113, R234). -/
def State.sieveApply (s : State) (o : SieveOp) : State :=
  let r := s.sieveRec o.key
  let xk := eCommons r.entry * 2 ^ 43 + eSlot r.entry
  match o.op with
  | 1 =>
    let s1 := s.putRec o.key { valid := true, entry := o.entry, refs := 1, defunct := false, saturated := false
                               multi := false, death := 0, firstVol := o.vol }
    let k := eCommons o.entry * 2 ^ 43 + eSlot o.entry
    s1.putExtent k { s1.extent k with sieve := if (s1.extent k).n = 0 then 0 else o.key + 1 }
  | 2 =>
    if r.saturated then s
    else s.putRec o.key { r with refs := r.refs + 1, saturated := decide (0xFFFFFFFF ≤ r.refs + 1)
                                 multi := r.multi || r.firstVol ≠ o.vol }
  | 4 =>
    if r.saturated then s
    else
      (s.putRec o.key { r with refs := 1, defunct := false, death := 0, multi := r.multi || r.firstVol ≠ o.vol }).putExtent xk
        { s.extent xk with death := 0 }
  | _ =>
    if r.saturated = true ∨ r.refs = 0 then s
    else
      let n := r.refs - 1
      let s1 := s.putRec o.key { r with refs := n, defunct := n = 0, death := if n = 0 then s.poolEpoch else 0 }
      if n = 0 ∧ (s.extent xk).n ≠ 0 then s1.putExtent xk { s.extent xk with death := s.poolEpoch + 1 } else s1

/-- Take back one change of a record whose group is discarded (R114, R234). -/
def State.sieveUndo (s : State) (o : SieveOp) : State :=
  s.sieveApply { o with op := if o.op = 3 then 2 else 3 }

/-! ### Dies, blocks and members (R293, R294, R334) -/

/-- A member location (R294). -/
def locOf (sled die block page : Nat) : Nat := sled * 2 ^ 59 + die * 2 ^ 48 + block * 2 ^ 32 + page * 2 ^ 16

def locSled (l : Nat) : Nat := l / 2 ^ 59 % 32
def locDie (l : Nat) : Nat := l / 2 ^ 48 % 2048
def locBlock (l : Nat) : Nat := l / 2 ^ 32 % 65536
def locPage (l : Nat) : Nat := l / 2 ^ 16 % 65536

/-- A die. -/
def State.dieOf (s : State) (k : Nat) : Die := s.media.dies.get k

/-- Put a die. -/
def State.putDie (s : State) (k : Nat) (d : Die) : State := { s with media := { s.media with dies := s.media.dies.set k d } }

/-- Blocks of a die that data may use: those the sled reports but for what is left of its Granary (R320). -/
def State.dieBlocks (s : State) (die : Nat) : Nat :=
  s.getF (F.SLED_GEOM_BLOCKS.at (die / 2048)) - (s.dieOf die).granary

/-- Chunks free in SLC mode on a die. -/
def State.freeChunks (s : State) (k : Nat) : Nat :=
  let d := s.dieOf k
  if d.state ≠ 0 then 0
  else
    (s.dieBlocks k - d.blocks.length) * 48 +
      (if d.slcOpen = 0 then 0 else 48 - (d.blocks.get (d.slcOpen - 1)).pages / 16)

/-- Whether a sled serves and has dies in service in a commons. -/
def State.sledIn (s : State) (k : Nat) : Bool :=
  s.getF (F.SLED_STATE_STATE.at k) = 3 || s.getF (F.SLED_STATE_STATE.at k) = 4

/-- Dies of a commons on a sled. -/
def State.diesOn (s : State) (c sled : Nat) : List Nat :=
  (upto (s.getF (F.HOLD_CMN_DIES.at c))).map (fun i => sled * 2048 + s.getF (F.HOLD_CMN_FIRST_DIE.at c) + i)

/-- The die with the most free chunks, the lowest among equals, with that number. -/
def bestDie (s : State) : List Nat → Nat × Nat
  | [] => (0, 0)
  | k :: r =>
    let (j, n) := bestDie s r
    if n ≤ s.freeChunks k then (k, s.freeChunks k) else (j, n)

/-- Insert a (sled's die, free chunks) pair, most free first, lower sleds first among equals. -/
def insertFree (x : Nat × Nat) : List (Nat × Nat) → List (Nat × Nat)
  | [] => [x]
  | y :: r => if x.2 > y.2 ∨ (x.2 = y.2 ∧ x.1 < y.1) then x :: y :: r else y :: insertFree x r


/-- The eighteen dies of a new sheaf in sled order, or none where fewer qualify (R334). -/
def State.members (s : State) (c : Nat) : Option (List Nat) :=
  let l := (((upto 24).filter (fun k => s.sledIn k)).map (fun k => bestDie s (s.diesOn c k))).filter (fun p => p.2 ≠ 0)
  let t := (l.foldr insertFree []).take 18
  if t.length = 18 then some ((t.map Prod.fst).foldr insertNat []) else none

/-- Rotate a list so that its k-th element comes first. -/
def rotateTo {α : Type} (k : Nat) (l : List α) : List α := l.drop (k % l.length) ++ l.take (k % l.length)

/-- The lowest erased block of a die, or none. -/
def State.erasedBlock (s : State) (k : Nat) : Option Nat :=
  let n := lowestFree 0 ((s.dieOf k).blocks.map Prod.fst)
  if n < s.dieBlocks k then some n else none

/-- The sleds of the pool: those whose label carries its identity (R295, R330). -/
def State.poolSleds (s : State) : List Nat :=
  (upto 24).filter (fun k => s.media.labels.get k ≠ 0 && s.media.labels.get k = s.getN R.IDENT_POOL)

/-- Every die of a commons on the pool's sleds. -/
def State.cmnDies (s : State) (c : Nat) : List Nat := s.poolSleds.flatMap (fun k => s.diesOn c k)

/-- Erased blocks of a commons that data may use. -/
def State.freeBlocks (s : State) (c : Nat) : Nat :=
  (s.cmnDies c).foldl (fun n d => if (s.dieOf d).state = 0 then n + (s.dieBlocks d - (s.dieOf d).blocks.length) else n) 0

/-! ### The Daybook (R281 to R284) -/

/-- The bytes of a record (R282). -/
def DbRec.bytes (r : DbRec) : List Byte :=
  let h (crc : Nat) := leBytes 1 r.typ ++ leBytes 1 0 ++ leBytes 2 r.body.length ++ leBytes 4 crc ++ leBytes 8 r.lsn
  h (crc32c (h 0 ++ r.body)) ++ r.body

/-- Length of a record in a page. -/
def DbRec.size (r : DbRec) : Nat := 16 + r.body.length

/-- A commons's Daybook. -/
def State.dbOf (s : State) (c : Nat) : Daybook := s.stew.db.get c

/-- Put a Daybook. -/
def State.putDb (s : State) (c : Nat) (d : Daybook) : State := { s with stew := { s.stew with db := s.stew.db.set c d } }

/-- The bytes of a Daybook page (R281). -/
def dbPageBytes (c seq first : Nat) (recs : List DbRec) : List Byte :=
  let body := recs.flatMap DbRec.bytes
  let pg (crc : Nat) := leBytes 2 0xDA7B ++ leBytes 2 c ++ leBytes 2 body.length ++ leBytes 2 0 ++ leBytes 8 seq ++
    leBytes 8 first ++ leBytes 4 crc ++ leBytes 4 0 ++ body ++ List.replicate (16352 - body.length) 0
  pg (crc32c (pg 0))

/-- The 48-byte tag of a page (R288). -/
def pageTag (kind chunk page c name seq lsn pool own : Nat) : List Byte :=
  let t := leBytes 2 0x7A95 ++ leBytes 1 kind ++ leBytes 1 chunk ++ leBytes 2 page ++ leBytes 2 c ++ leBytes 8 name ++ leBytes 8 seq ++
    leBytes 8 lsn ++ leBytes 8 pool ++ leBytes 4 own
  t ++ leBytes 4 (crc32c t)

/-- Hand n pages to the Sequencer that serves their sled, page i of KIND kind i, each with its tag; WRITE_SEQ counts them (R288). -/
def State.progSend (s : State) (c : Nat) (kind : Nat → Nat) (chunk name loc n : Nat) (data : List Byte) : State :=
  let w := s.hold.writeSeq.get c
  let tags := (upto n).flatMap (fun i => pageTag (kind i) chunk i c name (w + 1 + i) (s.getF (F.STEWARD_DB_FLASH_LSN_ALL.at c))
    (s.getN R.IDENT_POOL) (s.hold.epoch.get c))
  { s with hold := { s.hold with writeSeq := s.hold.writeSeq.set c (w + n) } }.send (.prog loc n tags data)

/-- Record members of a commons as (sled, die) numbers of R327. -/
def State.recordMembers (s : State) (c : Nat) : List Nat :=
  [s.getF (F.HOLD_CMN_RECORD_FIRST.at c), s.getF (F.HOLD_CMN_RECORD_SECOND.at c)]

/-- Where a copy of a commons's records stands: the record member's die; no rule gives the block and the page there (assumption
log 18). -/
def State.recordLoc (s : State) (c i : Nat) : Nat :=
  let m := (s.recordMembers c).getD i 0
  locOf (m / 2048) (m % 2048) 0 0

/-- The copies of a commons's records whose member is in service (R341). -/
def State.recordCopies (s : State) (c : Nat) : List Nat :=
  (upto 2).filter (fun i => (s.dieOf ((s.recordMembers c).getD i 0)).state = 0)

/-- Program the page being filled, in both copies (R281). -/
def State.dbFlush (s : State) (c : Nat) : State :=
  let d := s.dbOf c
  match d.buf with
  | [] => s
  | r :: _ =>
    let seq := d.pageSeq + 1
    let p : DbPage := { seq := seq, first := r.lsn, last := (d.buf.getLastD r).lsn, bytes := dbPageBytes c seq r.lsn d.buf }
    (s.recordCopies c).foldl (fun s i => s.progSend c (fun _ => 4) i seq (s.recordLoc c i) 1 p.bytes)
      (s.putDb c { d with buf := [], firstAt := 0, flying := d.flying ++ [p], pageSeq := seq })

/-- Append a record to a commons's Daybook: the next LSN; a record never spans two pages (R282). -/
def State.dbAppend (s : State) (c typ : Nat) (body : List Byte) : State :=
  let lsn := s.getF (F.STEWARD_DB_LSN_ALL.at c) + 1
  let r : DbRec := { typ := typ, lsn := lsn, body := body }
  let used := (s.dbOf c).buf.foldl (fun n x => n + x.size) 0
  let s1 := if 16352 < used + r.size then s.dbFlush c else s
  let d := s1.dbOf c
  let s2 := s1.putDb c { d with buf := d.buf ++ [r], hist := d.hist ++ [r], firstAt := if d.firstAt = 0 then s.time + 1 else d.firstAt }
  (s2.setF (F.STEWARD_DB_LSN_ALL.at c) lsn).addF (F.STEWARD_DB_SINCE_ALL.at c) r.size

/-- The newest records of a Daybook from a log sequence number on. -/
def State.dbFrom (s : State) (c lsn : Nat) : List DbRec :=
  (s.dbOf c).buf.filter (fun r => decide (lsn ≤ r.lsn))

/-- Append records and send them as one DAYBOOK stub (R259, R280). -/
def State.dbCommit (s : State) (c : Nat) (l : List (Nat × List Byte)) : State :=
  let first := s.getF (F.STEWARD_DB_LSN_ALL.at c) + 1
  let s1 := l.foldl (fun s p => s.dbAppend c p.1 p.2) s
  let recs := (upto l.length).map (fun i =>
    ({ typ := (l.getD i (0, [])).1, lsn := first + i, body := (l.getD i (0, [])).2 } : DbRec))
  s1.mirror 0x03 (leBytes 2 c ++ leBytes 6 0 ++ recs.flatMap DbRec.bytes)

/-- Daybook bytes not yet on flash, part of DIRTY (R252). -/
def State.dbDirty (s : State) : Nat :=
  s.stew.db.foldl (fun n p => n + p.2.buf.foldl (fun m r => m + r.size) 0 + 16384 * p.2.flying.length) 0

/-! ### Opening and filling sheaves (R334, R337, R338) -/

/-- A sheaf. -/
def State.sheafOf (s : State) (k : Nat) : Sheaf := s.hold.sheaves.get k

/-- Put a sheaf. -/
def State.putSheaf (s : State) (k : Nat) (x : Sheaf) : State :=
  { s with hold := { s.hold with sheaves := s.hold.sheaves.set k x } }

/-- Whether a sheaf still holds live chunks: it is open, or some slot of it is held (R311). -/
def State.sheafLive (s : State) (k : Nat) : Bool :=
  let x := s.sheafOf k
  x.state = 1 || x.state = 2 || (x.state = 3 && decide (s.heldSlots (k / 2 ^ 33) (k % 2 ^ 33) ≠ 0))

/-- The live chunks of a block, as (sheaf key, position). -/
def State.liveIn (s : State) (die b : Nat) : List (Nat × Nat) :=
  let blk := (s.dieOf die).blocks.get b
  ((upto blk.chunks.length).filter (fun i =>
    let id := blk.chunks.getD i 0
    (s.sheafOf (id / 32)).locs.getD (id % 32) 0 = locOf (die / 2048) (die % 2048) b (16 * i) && s.sheafLive (id / 32))).map
    (fun i => (blk.chunks.getD i 0 / 32, blk.chunks.getD i 0 % 32))

/-- A ledger entry (R339). -/
def State.ledgerBytes (s : State) (k : Nat) : List Byte :=
  let x := s.sheafOf k
  let c := k / 2 ^ 33
  let b := leBytes 8 (k % 2 ^ 33) ++ leBytes 2 c ++ leBytes 1 x.state ++ leBytes 1 0 ++ leBytes 4 x.done ++
    leBytes 8 x.openLsn ++ leBytes 4 (s.hold.epoch.get c) ++ leBytes 4 0 ++ x.locs.flatMap (leBytes 8) ++ leBytes 12 0
  b ++ leBytes 4 (crc32c b)

/-- The ledger pages of a commons (R340). -/
def ledgerPage (c seq index pages : Nat) (entries : List (List Byte)) : List Byte :=
  let body := entries.flatten
  let pg (crc : Nat) := leBytes 2 0x1ED6 ++ leBytes 2 c ++ leBytes 2 entries.length ++ leBytes 1 index ++ leBytes 1 pages ++
    leBytes 8 seq ++ leBytes 4 crc ++ List.replicate 44 0 ++ body ++ List.replicate (16320 - body.length) 0
  pg (crc32c (pg 0))

/-- The entries of a commons's open sheaves. -/
def State.ledgerEntries (s : State) (c : Nat) : List (List Byte) :=
  (s.hold.sheaves.filter (fun p => p.1 / 2 ^ 33 = c && (p.2.state = 1 || p.2.state = 2))).map (fun p => s.ledgerBytes p.1)

/-- Write the whole ledger of a commons to a record member, as the set of a sequence number (R340). -/
def State.ledgerTo (s : State) (c seq loc : Nat) : State :=
  let l := s.ledgerEntries c
  let n := max 1 ((l.length + 84) / 85)
  s.progSend c (fun _ => 6) 0 0 loc n ((upto n).flatMap (fun i => ledgerPage c seq i n ((l.drop (85 * i)).take 85)))

/-- A change of an open sheaf's entry: the Till's copy, the partner's, and the next set on flash (R338). -/
def State.ledgerNote (s : State) (k : Nat) : State :=
  let c := k / 2 ^ 33
  let s1 := { s with hold := { s.hold with ledgerDirty := if s.hold.ledgerDirty.contains c then s.hold.ledgerDirty
                                                          else c :: s.hold.ledgerDirty } }
  s1.mirror 0x04 (leBytes 4 1 ++ leBytes 4 0 ++ s.ledgerBytes k)

/-- Take the next chunk of a die in SLC mode: its location; a block opened is recorded (R283, R293). -/
def State.chunkAlloc (s : State) (c die chunk : Nat) : Nat × State :=
  let d := s.dieOf die
  let sled := die / 2048
  let go (s : State) (b : Nat) (x : Blk) : Nat × State :=
    let y := { x with pages := x.pages + 16, chunks := x.chunks ++ [chunk]
                      order := if x.pages + 16 = 768 then s.media.fillOrder + 1 else 0 }
    let d := s.dieOf die
    let s1 := s.putDie die { d with blocks := d.blocks.set b y, slcOpen := if y.pages = 768 then 0 else b + 1 }
    (locOf sled (die % 2048) b x.pages,
      if y.pages = 768 then { s1 with media := { s1.media with fillOrder := s1.media.fillOrder + 1 } } else s1)
  if d.slcOpen ≠ 0 then go s (d.slcOpen - 1) (d.blocks.get (d.slcOpen - 1))
  else match s.erasedBlock die with
    | none => (0, s)
    | some b =>
      let loc := locOf sled (die % 2048) b 0
      let s1 := s.dbCommit c [(0x09, leBytes 8 loc ++ leBytes 1 1 ++ leBytes 7 0)]
      go s1 b { (default : Blk) with mode := 1 }

/-- Open sheaves of a commons. -/
def State.openSheaves (s : State) (c : Nat) : Nat :=
  (s.hold.sheaves.filter (fun p => p.1 / 2 ^ 33 = c && (p.2.state = 1 || p.2.state = 2))).length

/-- Chunks 0 to 17 of a new sheaf, on dies in the order of their positions. -/
def State.chunkAll (c sheaf : Nat) : List Nat → Nat → State → List Nat × State
  | [], _, s => ([], s)
  | die :: r, pos, s =>
    let (loc, s1) := s.chunkAlloc c die (c * 2 ^ 38 + sheaf * 32 + pos)
    let (ls, s2) := State.chunkAll c sheaf r (pos + 1) s1
    (loc :: ls, s2)

/-- Open a sheaf on a frontier (0 ordinary, 1 SECURE), or none where the members or the ledger's 1,024 places
do not allow it (R334, R338). -/
def State.sheafOpen (s : State) (c fr : Nat) : Option State :=
  if 1024 ≤ s.openSheaves c then none
  else match s.members c with
  | none => none
  | some ds =>
    let n := s.hold.nextSheaf.get c
    let k := c * 2 ^ 33 + n
    -- position 0 goes to the (n mod 18)-th chosen sled
    let (locs, s1) := State.chunkAll c n (rotateTo (n % 18) ds) 0 s
    let x : Sheaf := { (default : Sheaf) with
      state := 1, locs := locs, secure := fr = 1, openLsn := s1.getF (F.STEWARD_DB_LSN_ALL.at c), slc := 0x3FFFF }
    let s2 := { s1 with hold := { s1.hold with nextSheaf := s1.hold.nextSheaf.set c (n + 1)
                                               frontier := s1.hold.frontier.set (c * 4 + fr) (n + 1) } }
    some ((s2.putSheaf k x).ledgerNote k)

/-- KIND of page p of the chunk at position i (R288): parity, data, or what stands in its first slot. -/
def Sheaf.pageKind (x : Sheaf) (i p : Nat) : Nat :=
  let t := 64 * i + 4 * p
  if 16 ≤ i then 2 else ((x.metas.find? (fun m => decide (m.1 ≤ t) && decide (t < m.1 + 4))).map Prod.snd).getD 1

/-- Hand a chunk of a sheaf, or a copy of it for a location, to the Sequencer that serves the sled (R288, R337). -/
def State.progAt (s : State) (k i loc : Nat) : State :=
  let s1 := s.progSend (k / 2 ^ 33) ((s.sheafOf k).pageKind i) i (k % 2 ^ 33) loc 16 []
  s1.putSheaf k { s1.sheafOf k with seq := s1.hold.writeSeq.get (k / 2 ^ 33) }

/-- Hand a full chunk of a sheaf to the Sequencer that serves its sled (R337). -/
def State.progChunk (s : State) (k i : Nat) : State := s.progAt k i ((s.sheafOf k).locs.getD i 0)

/-- Hand on the chunks that have filled since: data chunks as they fill, P and Q with the last (R337). A sheaf
without a take placement is held while SLC room is short; one that comes to carry one is not (R307). -/
def State.packTo (s : State) (k now : Nat) : State :=
  let x := s.sheafOf k
  let was := x.packed / 64
  let pos := (upto 18).filter (fun i =>
    (decide (i < 16) && decide (was ≤ i) && decide (i < now / 64)) || (decide (16 ≤ i) && decide (was < 16) && now / 64 = 16))
  let s1 := s.putSheaf k { x with packed := now }
  if x.take = true then
    let was := s1.media.heldProg.filter (fun p => p.1 = k)
    (was.map Prod.snd ++ pos).foldl (fun s i => s.progChunk k i)
      { s1 with media := { s1.media with heldProg := s1.media.heldProg.filter (fun p => p.1 ≠ k) } }
  else if s.getF F.STEWARD_MEDIA_STATE_SLC_LIMITED = 1 then
    { s1 with media := { s1.media with heldProg := s1.media.heldProg ++ pos.map (fun i => (k, i)) } }
  else pos.foldl (fun s i => s.progChunk k i) s1

/-- Close a frontier's sheaf with zero slots (R337). -/
def State.padSheaf (s : State) (c fr : Nat) : State :=
  match s.hold.frontier.get (c * 4 + fr) with
  | 0 => s
  | n + 1 =>
    { (s.packTo (c * 2 ^ 33 + n) 1024) with
      hold := { (s.packTo (c * 2 ^ 33 + n) 1024).hold with frontier := s.hold.frontier.set (c * 4 + fr) 0 } }

/-- Whether a commons opens no new sheaf because its members would open SLC blocks while the unfolded bytes are not below SLC_SIZE
(R306). DESIGN CHOICE (assumption log 51): sheaves that open for a take placement (R307) or for pages open them still. -/
def State.slcShut (s : State) (c : Nat) : Bool :=
  decide (s.getN R.STEWARD_SLC_USED ≠ 0) && decide (s.getN R.STEWARD_SLC_SIZE ≤ s.getN R.STEWARD_SLC_USED) &&
    (match s.members c with
     | some ds => ds.any (fun d => (s.dieOf d).slcOpen = 0)
     | none => false)

/-- Take n consecutive slots of one sheaf at a commons's frontier, for pages of a KIND or for data, 1: the slot address (R274). -/
def State.slotAlloc (s : State) (c fr n : Nat) (take : Bool) (kind : Nat) : Option (Nat × State) :=
  let open_ := s.hold.frontier.get (c * 4 + fr)
  let room := open_ ≠ 0 ∧ (s.sheafOf (c * 2 ^ 33 + (open_ - 1))).packed + n ≤ 1024
  let s0 := if room then some s else if !take && kind = 1 && s.slcShut c then none else (s.padSheaf c fr).sheafOpen c fr
  match s0 with
  | none => none
  | some s1 =>
    let sh := s1.hold.frontier.get (c * 4 + fr) - 1
    let k := c * 2 ^ 33 + sh
    let x := s1.sheafOf k
    let y := { x with take := x.take || take, pages := x.pages || decide (kind ≠ 1)
                      metas := if kind = 1 then x.metas else x.metas ++ [(x.packed, kind)] }
    let s2 := (s1.putSheaf k y).packTo k (x.packed + n)
    let s3 := if x.packed + n = 1024 then
      { s2 with hold := { s2.hold with frontier := s2.hold.frontier.set (c * 4 + fr) 0 } } else s2
    some (sh * 1024 + x.packed, s3)

/-! ### Pages and the cache (R276 to R278) -/

/-- The map page of a grain: level 0. -/
def mapPage (g : Nat) : Nat := g / 1024 * 4

/-- The directory page above it: level 1. -/
def dirPage (g : Nat) : Nat := g / 1048576 * 4 + 1

/-- The split-table page of a leaf block: level 2. -/
def splitPage (c blk : Nat) : Nat := (c * 2 ^ 40 + blk / 64) * 4 + 2

/-- Pages the map cache holds (R277). -/
def State.cachePages (s : State) : Nat := s.plan.cacheGib * 65536

/-- The volume of a map or directory page; a page of a commons's split table has none. -/
def pageVol (p : Nat) : Nat := if p % 4 = 0 then p / 4 / 2 ^ 38 else if p % 4 = 1 then p / 4 / 2 ^ 28 else 0

/-- A page's INDEX in PAGE_WRITTEN (R283): within its volume, or within the commons's split table. -/
def pageIndex (p : Nat) : Nat := if p % 4 = 0 then p / 4 % 2 ^ 38 else if p % 4 = 1 then p / 4 % 2 ^ 28 else p / 4 % 2 ^ 40

/-- The page that a PAGE_WRITTEN of a commons names. -/
def pageNamed (c vol level idx : Nat) : Nat :=
  (if level = 0 then vol * 2 ^ 38 + idx else if level = 1 then vol * 2 ^ 28 + idx else c * 2 ^ 40 + idx) * 4 + level

/-- The commons of a page. -/
def State.pageCommons (s : State) (p : Nat) : Nat :=
  if p % 4 = 2 then p / 4 / 2 ^ 40 else (s.volOf (pageVol p)).commons

/-- The 16,384 bytes of a page (R275, R276): 1,024 map entries, 1,024 directory entries, or 64 leaf blocks. -/
def State.pageBytes (s : State) (p : Nat) : List Byte :=
  if p % 4 = 0 then (upto 1024).flatMap (fun i => entryBytes (GrainMap.whole (s.stew.map.get (p / 4 * 1024 + i))))
  else if p % 4 = 1 then (upto 1024).flatMap (fun i => leBytes 16 (s.stew.dir.get ((p / 4 * 1024 + i) * 4)))
  else
    let c := p / 4 / 2 ^ 40
    (upto 64).flatMap (fun i =>
      match s.stew.map.find? (fun g => g.2.length = 17 && eCommons (GrainMap.whole g.2) = c && eSlot (GrainMap.whole g.2) = p / 4 % 2 ^ 40 * 64 + i) with
      | some g => (g.2.drop 1).flatMap entryBytes
      | none => List.replicate 256 0)

/-- The extent of a directory entry's page. -/
def dirSlots (d : Nat) : Nat := d % 2 ^ 55

/-- Slots hold a page written at the current epoch. -/
def State.pageExtent (s : State) (c slot vol epoch : Nat) : State :=
  s.putExtent (c * 2 ^ 43 + slot) { n := 4, vol := vol, leaf := 0, birth := epoch, death := 0, names := 1, sieve := 0, page := true }

/-- A page has a new place: its parent names it, and the earlier place stays until the next checkpoint is written (R278, R289). -/
def State.pageMoved (s : State) (p d : Nat) : State :=
  let old := s.stew.dir.get p
  let s1 := s.pageExtent (d / 2 ^ 43 % 4096) (d % 2 ^ 43) (pageVol p) (d / 2 ^ 96)
  { s1 with stew := { s1.stew with dir := s1.stew.dir.set p d
                                   oldPages := if old = 0 then s1.stew.oldPages else s1.stew.oldPages ++ [dirSlots old] } }

/-- Write a page back to new slots and record it (R278); where no slot is to be had it stays dirty. The directory page above a map
page changes with it. -/
def State.pageWrite (s : State) (p : Nat) : State :=
  let c := s.pageCommons p
  match s.slotAlloc c 0 4 false 3 with
  | none => s
  | some (slot, s1) =>
    let d := 2 ^ 62 + c * 2 ^ 43 + slot + crc32c (s1.pageBytes p) * 2 ^ 64 + s.poolEpoch % 2 ^ 32 * 2 ^ 96
    let s2 := s1.dbCommit c [(0x0A, leBytes 2 (pageVol p) ++ leBytes 1 (p % 4) ++ leBytes 1 0 ++ leBytes 4 s.poolEpoch ++
      leBytes 8 (pageIndex p) ++ leBytes 16 d)]
    let s3 := (s2.pageMoved p d).addN R.STEWARD_MAP_WRITEBACKS 1
    let up := p / 4 / 1024 * 4 + 1
    let rest := s3.stew.dirty.filter (fun q => q ≠ p)
    if p % 4 = 0 then
      { s3 with stew := { s3.stew with dirty := if rest.contains up then rest else up :: rest
                                       cache := if s3.stew.cache.contains up then s3.stew.cache else s3.stew.cache ++ [up] } }
    else { s3 with stew := { s3.stew with dirty := rest } }

/-- Make room in the cache, but for one page: the least recently used clean page goes, or the least recently used dirty one after
its write-back (R277). -/
def State.cacheRoom (keep : Nat) : Nat → State → State
  | 0, s => s
  | n + 1, s =>
    if s.stew.cache.length ≤ s.cachePages then s
    else
      let l := s.stew.cache.reverse.filter (fun q => q ≠ keep)
      match l.find? (fun q => !s.stew.dirty.contains q) with
      | some q => State.cacheRoom keep n { s with stew := { s.stew with cache := s.stew.cache.filter (fun x => x ≠ q) } }
      | none =>
        let q := l.headD keep
        let s1 := s.pageWrite q
        if s1.stew.dirty.contains q then s1
        else State.cacheRoom keep n { s1 with stew := { s1.stew with cache := s1.stew.cache.filter (fun x => x ≠ q) } }

/-- Bring a page to the front of the cache (R277). -/
def State.pageTouch (s : State) (p : Nat) : State :=
  State.cacheRoom p 2 { s with stew := { s.stew with cache := p :: s.stew.cache.filter (fun q => q ≠ p) } }

/-- Touch and dirty a page. -/
def State.pageDirty (s : State) (p : Nat) : State :=
  let s1 := s.pageTouch p
  { s1 with stew := { s1.stew with dirty := if s1.stew.dirty.contains p then s1.stew.dirty else p :: s1.stew.dirty } }

/-- Whether a MAP.L of a grain needs a page that lies on flash only: not one the pending index answers (R279, R280). -/
def State.mapMiss (s : State) (g : Nat) : Bool :=
  let need (p : Nat) := (s.stew.dir.get p) ≠ 0 && !s.stew.cache.contains p
  !s.stew.pending.any (fun x => x.grains.contains g) &&
    (need (mapPage g) || need (dirPage g) ||
      (match s.mapAt g with
       | e :: _ :: _ => need (splitPage (eCommons e) (eSlot e))
       | _ => false))

/-- Fetch the pages along the tree of a grain. -/
def State.mapFetch (s : State) (g : Nat) : State :=
  let s1 := (s.pageTouch (dirPage g)).pageTouch (mapPage g)
  match s.mapAt g with
  | e :: _ :: _ => s1.pageTouch (splitPage (eCommons e) (eSlot e))
  | _ => s1

/-! ### Commit (R280, R284) -/

/-- What one update does to the map: the new value, whether it split, the names that go and come. -/
structure Change where
  grain : Nat
  value : GrainMap
  split : Bool
  blk : Nat
  gone : List Nat
  freed : List Nat      -- names whose Sieve reference the replaced entry held, the same slots named anew among them (R114)
  come : List Nat
  addr : Nat
  entry : BitVec 128
  fill : List (BitVec 128)   -- the leaf entries of a split as first filled (R275, R283)
  pages : List Nat           -- the pages it changes
  deriving DecidableEq, Repr, Inhabited

/-- Remove one occurrence of each element of the second list from the first. -/
def lessOf (a : List Nat) : List Nat → List Nat
  | [] => a
  | x :: r => lessOf (a.erase x) r

/-- Enter one update in the map: names, page, leaf block. -/
def State.mapPut (s : State) (c : Nat) (u : MapUpd) : Change × State :=
  let g := grainKey u.addr
  let v := s.mapAt g
  let sp := v.splits u
  let blk := s.stew.nextBlock.get c
  let w := v.apply c blk u
  let gone := lessOf v.names w.names
  let freed := if u.leaf then gone else v.names
  let come := lessOf w.names v.names
  let s1 := { s with stew := { s.stew with map := s.stew.map.set g w
                                           nextBlock := if sp then s.stew.nextBlock.set c (blk + 1) else s.stew.nextBlock } }
  let s2 := if sp then (s1.addF F.STEWARD_SPLITS_SINCE 1).setF F.STEWARD_SPLITS_HELD (min 0xFFFFFFFF (s1.getF F.STEWARD_SPLITS_HELD + 1))
    else if v.length = 17 ∧ w.length ≠ 17 then s1.setF F.STEWARD_SPLITS_HELD (s1.getF F.STEWARD_SPLITS_HELD - 1) else s1
  ({ grain := g, value := w, split := sp, blk := blk, gone := gone, freed := freed, come := come, addr := u.addr, entry := u.entry
     fill := (upto 16).map (fun i => v.leaf i)
     pages := mapPage g :: (if w.length = 17 then [splitPage c (eSlot (w.headD 0))] else []) }, come.foldl State.nameAdd s2)

/-- The Sieve drops that the names an update ends bring (R234). -/
def State.dropsOf (s : State) (gone : List Nat) (vol : Nat) : List SieveOp :=
  (gone.filter (fun k => (s.extent k).sieve ≠ 0)).map (fun k =>
    { op := 3, key := (s.extent k).sieve - 1, vol := vol, entry := 0 })

/-- A SIEVE_DELTA item (R283). -/
def SieveOp.item (o : SieveOp) : List Byte :=
  leBytes 32 (o.key % 2 ^ 256) ++ leBytes 1 (o.key / 2 ^ 256 % 256) ++ leBytes 1 o.op ++
    leBytes 2 (if o.op = 3 then 0 else o.vol) ++ leBytes 4 0 ++ (if o.op = 1 then entryBytes o.entry else leBytes 16 0)

/-- INDEXED as the commit sets it (R274). -/
def markIndexed (refs : List SieveOp) (u : MapUpd) : MapUpd :=
  if !u.leaf && eKind u.entry = 1 && refs.any (fun o => o.op ≠ 3 && eBare o.entry = eBare u.entry) then
    { u with entry := eMark u.entry }
  else u

/-- Enter updates one after another. -/
def State.mapPutAll (c : Nat) : List MapUpd → State → List Change × State
  | [], s => ([], s)
  | u :: r, s =>
    let (x, s1) := s.mapPut c u
    let (xs, s2) := State.mapPutAll c r s1
    (x :: xs, s2)

/-- The updates of a group whose conditions still hold as the group is entered in order, and the Sieve references that the
dropped ones take with them: of the references to one entry, updates and references pair in their order (R114). -/
def State.judgeGroup (s : State) : List MapUpd → List SieveOp → List SieveOp → List MapUpd → List MapUpd × List SieveOp
  | done, _, lost, [] => (done, lost)
  | done, pool, lost, u :: r =>
    let v := seeGroup (grainKey u.addr) done (s.mapAt (grainKey u.addr))
    let own := (pool.filter (fun o => o.op ≠ 3 && eBare o.entry = eBare u.entry)).take 1
    let rest := own.foldl (fun l o => l.erase o) pool
    if u.cond = false ∨ v.current u.leaf u.addr = u.expect then s.judgeGroup (done ++ [u]) rest lost r
    else s.judgeGroup done rest (lost ++ own) r

/-- Items of a MAP_DELTA record, at most 680 in one (R283). -/
def deltaRecords (l : List Change) : List (Nat × List Byte) :=
  (pieces 680 ((l.length + 679) / 680) l).map (fun p =>
    (0x03, p.flatMap (fun x => leBytes 8 x.addr ++ entryBytes x.entry)))

/-- SPLIT and MAP_DELTA records in the order of the updates; cur are updates not yet in a record (R284). -/
def groupItems : List Change → List Change → List (Nat × List Byte)
  | [], cur => deltaRecords cur
  | x :: r, cur =>
    if x.split then
      deltaRecords cur ++ [(0x04, leBytes 8 (x.addr / 16 * 16) ++ leBytes 8 x.blk ++ x.fill.flatMap entryBytes)] ++ groupItems r [x]
    else groupItems r (cur ++ [x])

/-- The records of a group (R284). -/
def groupRecords (tag reeve : Nat) (xs : List Change) (ops : List SieveOp) : List (Nat × List Byte) :=
  let whole := [(0x02, leBytes 8 reeve ++ leBytes 2 tag ++ leBytes 2 0 ++ leBytes 4 xs.length)] ++ groupItems xs [] ++
    ((pieces 290 ((ops.length + 289) / 290) ops).map (fun p => (0x05, p.flatMap SieveOp.item))) ++
    [(0x06, leBytes 8 reeve ++ leBytes 4 xs.length ++ leBytes 4 0)]
  match xs, ops with
  | [x], [] => if x.split then whole else [(0x01, leBytes 8 x.addr ++ entryBytes x.entry)]
  | _, _ => whole

/-- A committed group enters the pending index (R280). -/
def State.indexAdd (s : State) (c first stub : Nat) (xs : List Change) : State :=
  if xs.isEmpty then s
  else
    let g : PendGroup := { commons := c, first := first, stub := stub, grains := xs.map (fun x => x.grain), pages := xs.flatMap (fun x => x.pages) }
    { s with stew := { s.stew with pending := s.stew.pending ++ [g] } }

/-- Updates whose commit is durable are applied to cached pages and leave the pending index: the partner has acknowledged their
stub, or none is awaited (R280). -/
def State.indexSettle (s : State) : State :=
  let ready (g : PendGroup) : Bool := g.stub = 0 || !s.mirrors || decide (g.stub ≤ s.cf.acked)
  (s.stew.pending.filter ready).foldl (fun s g => g.pages.foldl State.pageDirty s)
    { s with stew := { s.stew with pending := s.stew.pending.filter (fun g => !ready g) } }

/-- Placements whose slots the group's entries name are named by its last record (R253). -/
def State.namePlaces (s : State) (entries : List (BitVec 128)) (lsn : Nat) : State :=
  { s with till := { s.till with places := s.till.places.map (fun p =>
      if p.2.lsn = 0 && entries.any (fun e => eCommons e = p.2.commons && eSlot e = p.2.slot && eKind e % 2 = 1) then
        (p.1, { p.2 with lsn := lsn }) else p) } }

/-- Put a replication link. -/
def State.putLink (s : State) (k : Nat) (l : Link) : State := { s with sieve := { s.sieve with links := s.sieve.links.set k l } }

/-- Links out of step whose source volume a grain belongs to note it in the catch-up log (R248). -/
def State.catchUp (s : State) (c vol addr : Nat) : State :=
  (upto 16).foldl (fun s k =>
    if [6, 7, 8].contains (s.getF (F.SIEVE_REPL_STATE_STATE.at k)) ∧ s.getF (F.SIEVE_REPL_CFG_SOURCE_VOL.at k) = vol then
      let l := s.sieve.links.get k
      let g := addr % 2 ^ 52 / 16
      (s.putLink k { l with catchUp := if l.catchUp.contains g then l.catchUp else l.catchUp ++ [g] }).dbCommit c [(0x0C, leBytes 1 k ++ leBytes 7 0 ++ leBytes 8 (addr / 16 * 16))]
    else s) s

/-- Commit updates and changes of Sieve records of a tag in a commons as one group (R280): the Reeve number,
the records in the Till and to the partner, the map. vol is 4096 where the head moves slots beneath their data, which no
link's catch-up log notes (R248). -/
def State.commitGroup (s : State) (c tag vol : Nat) (us : List MapUpd) (refs : List SieveOp) : State :=
  let (kept, lost) := s.judgeGroup [] refs [] us
  let refs1 := lost.foldl (fun l o => l.erase o) refs
  let reeve := s.now
  let marked := kept.map (markIndexed refs1)
  let (xs, s1) := State.mapPutAll c marked s.tick
  let gone := xs.flatMap (fun x => x.gone)
  let drops := s1.dropsOf (xs.flatMap (fun x => x.freed)) vol
  let s1a := s1.dbCommit c (groupRecords tag reeve xs (refs1 ++ drops))
  let s2 := s1a.indexAdd c (s1.getF (F.STEWARD_DB_LSN_ALL.at c) + 1) (if s1a.cf.txSeq = s1.cf.txSeq then 0 else s1a.cf.txSeq) xs
  let s3 := gone.foldl State.nameDrop (drops.foldl State.sieveApply (lost.foldl State.sieveUndo s2))
  let s4 := s3.namePlaces (marked.map (fun u => u.entry)) (s3.getF (F.STEWARD_DB_LSN_ALL.at c))
  (xs.foldl (fun s x => s.catchUp c (if vol < 4096 then x.addr / 2 ^ 52 % 4096 else vol) x.addr) (s4.addN R.STEWARD_GROUPS 1)).indexSettle

/-- Discard a context's group: its updates and its Sieve references go; placements no entry names are garbage
(R114, R120). -/
def State.discardGroup (s : State) (key : Nat) : State :=
  let c := s.hands.ctxs.get key
  let had := !c.group.isEmpty || !c.refs.isEmpty
  let dead := s.till.places.filter (fun p => p.2.key = key && p.2.lsn = 0 && p.2.phase = 3)
  let s0 := c.refs.foldl State.sieveUndo s
  let s1 := dead.foldl (fun s p =>
    let k := p.2.commons * 2 ^ 43 + p.2.slot
    let x := s.extent k
    s.putExtent k { x with death := if x.sieve = 0 ∨ (s.sieveRec (x.sieve - 1)).refs = 0 then s.poolEpoch + 1 else 0 }) s0
  let places := s1.till.places.filter (fun p => !(p.2.key = key && p.2.lsn = 0 && p.2.phase = 3))
  let ctxs := s1.hands.ctxs.upd key (fun x => { x with group := [], refs := [] })
  let fps := s1.sieve.pendingFp.filter (fun p => p.2 ≠ key)
  let s2 := { s1 with till := { s1.till with places := places }, hands := { s1.hands with ctxs := ctxs }
                      sieve := { s1.sieve with pendingFp := fps } }
  if had then s2.addN R.STEWARD_GROUPS_DISCARDED 1 else s2

/-! ### Cleanness (R253) -/

/-- Whether a placement is clean: its SHEAF record and the record naming its slots are in Daybook pages on
flash (R284). -/
def State.placeClean (s : State) (p : Place) : Bool :=
  let fl := s.getF (F.STEWARD_DB_FLASH_LSN_ALL.at p.commons)
  let x := s.sheafOf (p.commons * 2 ^ 33 + p.slot / 1024)
  p.phase = 3 && p.lsn ≠ 0 && decide (p.lsn ≤ fl) && x.closeLsn ≠ 0 && decide (x.closeLsn ≤ fl)

/-- Drop clean placements from DIRTY and release the partner's copies (R253, R259, R287). -/
def State.sweepClean (s : State) : State :=
  let l := (s.till.places.filter (fun p => s.placeClean p.2)).map Prod.snd
  if l.isEmpty then s
  else
    { s with till := { s.till with places := s.till.places.filter (fun p => !s.placeClean p.2) } }.mirror 0x07
      (leBytes 4 l.length ++ leBytes 4 0 ++ l.flatMap (fun (p : Place) => leBytes 8 p.off ++ leBytes 8 (p.slots * 4096)))

end Sys2Proof.Machine
end

