-- ==== Sys2Proof/Machine/Checkpoint.lean ====
section
/-! DEFINITION. Checkpoints of a commons (R285): the dirty pages, the root pages, the CHECKPOINT record in its
parts. -/
namespace Sys2Proof.Machine

/-- The volumes of a commons. -/
def State.cmnVols (s : State) (c : Nat) : List Nat :=
  (s.docket.vols.filter (fun p => p.2.size ≠ 0 && p.2.commons = c)).map Prod.fst

/-- Directory entries of a volume's root (R276): one for each 2^20 grains. -/
def rootEntries (size : Nat) : Nat := (size + 16777215) / 16777216

/-- Write n pages of a KIND, for a volume, to new slots: the slots taken. -/
def State.pagesPut (c kind vol epoch : Nat) : Nat → State → List Nat × State
  | 0, s => ([], s)
  | n + 1, s =>
    match s.slotAlloc c 0 4 false kind with
    | none => ([], s)
    | some (slot, s1) =>
      let r := State.pagesPut c kind vol epoch n (s1.pageExtent c slot vol epoch)
      (slot :: r.1, r.2)

/-- Places that the next checkpoint leaves behind (R278, R289). -/
def State.leave (s : State) (l : List Nat) : State := { s with stew := { s.stew with oldPages := s.stew.oldPages ++ l } }

/-- Write the root pages of some volumes: the ROOTS items. -/
def State.rootsWrite (c : Nat) : List Nat → State → List (List Byte) × State
  | [], s => ([], s)
  | v :: r, s =>
    let n := rootEntries (s.volOf v).size
    let go := State.pagesPut c 3 v s.poolEpoch ((n + 1023) / 1024) (s.leave (s.stew.rootAt.get v))
    let s1 := { go.2 with stew := { go.2.stew with rootAt := go.2.stew.rootAt.set v (go.1.map (fun x => c * 2 ^ 43 + x)) } }
    let (is, s2) := State.rootsWrite c r s1
    ((leBytes 2 v ++ leBytes 2 0 ++ leBytes 4 n ++ leBytes 8 (go.1.headD 0)) :: is, s2)

/-- Write the roots of the snapshots of a commons that no checkpoint has written yet (R278): their slots are held while the snapshot
is retained. -/
def State.snapRoots (s : State) (c : Nat) : State :=
  (s.sieve.snaps.filter (fun p => p.2.state = 1 && !p.2.rooted && (s.volOf (p.1 / 2 ^ 32)).commons = c)).foldl (fun s p =>
    let v := p.1 / 2 ^ 32
    let e := p.1 % 2 ^ 32
    let go := State.pagesPut c 3 v e ((rootEntries (s.volOf v).size + 1023) / 1024) s
    let s1 := go.1.foldl (fun s x => s.putExtent (c * 2 ^ 43 + x) { s.extent (c * 2 ^ 43 + x) with names := 0, death := e + 2 }) go.2
    { s1 with sieve := { s1.sieve with snaps := s1.sieve.snaps.set p.1 { p.2 with rooted := true } } }) s

/-- The open blocks of a commons, as locations. -/
def State.openList (s : State) (c : Nat) : List Nat :=
  ((upto 24).flatMap (fun k => s.diesOn c k)).flatMap (fun d =>
    let x := s.dieOf d
    (if x.slcOpen = 0 then [] else [locOf (d / 2048) (d % 2048) (x.slcOpen - 1) 0]) ++
      (if x.qlcOpen = 0 then [] else [locOf (d / 2048) (d % 2048) (x.qlcOpen - 1) 0]))

/-- Share the items among the parts of a CHECKPOINT, roots first, each body at most 16,336 bytes. -/
def ckptParts : List (Bool × List Byte) → List (Bool × List Byte) → List (List (Bool × List Byte))
  | [], cur => [cur]
  | x :: r, cur =>
    if 16336 < 24 + (cur ++ [x]).foldl (fun n y => n + y.2.length) 0 then cur :: ckptParts r [x] else ckptParts r (cur ++ [x])

/-- The record of one part. -/
def ckptRecord (replay part parts : Nat) (l : List (Bool × List Byte)) : Nat × List Byte :=
  (0x0D, leBytes 8 replay ++ leBytes 4 (l.filter (fun x => x.1)).length ++ leBytes 4 (l.filter (fun x => !x.1)).length ++
    leBytes 2 part ++ leBytes 2 parts ++ leBytes 4 0 ++ l.flatMap (fun x => x.2))

/-- Write the index pages of a bucket to new slots (R230); where no slot is to be had it stays behind. -/
def State.bucketWrite (s : State) (b : Nat) : State :=
  let c := b / 2 ^ 64
  let n := s.bucketPages b
  let go := State.pagesPut c 5 0 s.poolEpoch n s
  let s1 := (upto go.1.length).foldl (fun s i =>
    let old := s.sieve.idxAt.get (b * 2 ^ 24 + i)
    { s.leave (if old = 0 then [] else [c * 2 ^ 43 + (old - 1)]) with
      sieve := { s.sieve with idxAt := s.sieve.idxAt.set (b * 2 ^ 24 + i) (go.1.getD i 0 + 1) } }) go.2
  if go.1.length = n then { s1 with sieve := { s1.sieve with dirtyIdx := s1.sieve.dirtyIdx.filter (fun x => x ≠ b) } } else s1

/-- The first LSN that the pages of a commons, once its dirty ones are written, do not reflect: that of the oldest group in the
pending index, or the next. -/
def State.replayLsn (s : State) (c : Nat) : Nat :=
  (s.stew.pending.filter (fun g => g.commons = c)).foldl (fun n g => min n g.first) (s.getF (F.STEWARD_DB_LSN_ALL.at c) + 1)

/-- Write the dirty pages of a commons, those of one level or of the others. -/
def State.pagesWrite (s : State) (c : Nat) (dirs : Bool) : State :=
  (s.stew.dirty.filter (fun p => s.pageCommons p = c && (p % 4 = 1) == dirs)).foldl State.pageWrite s

/-- Start a checkpoint of a commons: index, map and split pages, the directory pages above them, the roots, the CHECKPOINT. -/
def State.ckptStart (s : State) (c : Nat) : State :=
  if s.getF (F.STEWARD_CKPT_CTL_BUSY.at c) = 1 then s
  else
    let replay := s.replayLsn c
    let s0 := (s.sieve.dirtyIdx.filter (fun b => b / 2 ^ 64 = c)).foldl State.bucketWrite s
    let s1 := ((s0.pagesWrite c false).pagesWrite c true).snapRoots c
    let (roots, s1a) := State.rootsWrite c (s1.cmnVols c) s1
    let mine (k : Nat) : Bool := k / 2 ^ 43 = c
    let s2 := { s1a with stew := { s1a.stew with oldPages := s1a.stew.oldPages.filter (fun k => !mine k)
                                                 oldCkpt := s1a.stew.oldCkpt ++ s1a.stew.oldPages.filter mine } }
    let items := roots.map (fun x => (true, x)) ++ (s2.openList c).map (fun l => (false, leBytes 8 l))
    let parts := ckptParts items []
    let first := s2.getF (F.STEWARD_DB_LSN_ALL.at c) + 1
    let s3 := s2.dbCommit c ((upto parts.length).map (fun i => ckptRecord replay i parts.length (parts.getD i [])))
    let d := s3.dbOf c
    let s4 := s3.putDb c { d with ckptFirst := first, ckptLast := s3.getF (F.STEWARD_DB_LSN_ALL.at c), ckptReplay := replay, ckptPage := 0 }
    ((s4.setF (F.STEWARD_CKPT_CTL_BUSY.at c) 1).setF F.STEWARD_MAP_STATE_CHECKPOINTING 1)

/-- Append CLOSE to a commons's Daybook (R283, R285): kind 1 FULL, 2 HOLDUP. -/
def State.dbClose (s : State) (c kind : Nat) : State :=
  let tail := s.getF (F.STEWARD_DB_LSN_ALL.at c)
  (s.dbCommit c [(0x0E, leBytes 8 tail ++ leBytes 1 kind ++ leBytes 7 0 ++ leBytes 8 s.now)]).tick

end Sys2Proof.Machine
end

