-- ==== Sys2Proof/Machine/Assay.lean ====
section
/-! DEFINITION. The Assay (R209 to R216, R224): lanes, held contexts, the DMA job, hallmarks and the
comparison unit. -/
namespace Sys2Proof.Machine

/-! ### Lanes (R209, R212) -/

/-- Held contexts in use whose messages stand on a lane. -/
def State.heldOn (s : State) (lane : Nat) : Nat :=
  (s.assay.held.filter (fun p => p.2.used && p.2.lane = lane)).length

/-- Recount HELD_IN_USE, HELD_PEAK and the lanes' HELD. -/
def State.assayRecount (s : State) : State :=
  let n := (s.assay.held.filter (fun p => p.2.used && decide (p.2.lane < 16))).length
  let s1 := s.setF F.ASSAY_STATE_HELD_IN_USE n
  let s2 := if s.getF F.ASSAY_STATE_HELD_PEAK < n then s1.setF F.ASSAY_STATE_HELD_PEAK n else s1
  (upto 16).foldl (fun s l => s.setF (F.ASSAY_LANE_HELD.at l) (s.heldOn l)) s2

/-- The lane of a list with the most free held contexts, lowest number first among equals (R210). -/
def State.freest (s : State) : List Nat → Option Nat
  | [] => none
  | l :: r =>
    match s.freest r with
    | none => if s.heldOn l < 64 then some l else none
    | some m => if s.heldOn l ≤ s.heldOn m then some l else some m

/-- A lane that some free held context of the handle space belongs to; messages moved elsewhere keep their handles (R212). -/
def State.handleFree (s : State) (l : Nat) : Option Nat := (upto 64).find? (fun i => !(s.assay.held.get (l * 64 + i)).used)

/-- Whether a lane is retired; the reserved lanes 16 and 17 have no other state (R212, R224). -/
def State.laneRetired (s : State) (lane : Nat) : Bool := (s.getF F.ASSAY_STATE_RETIRED).testBit lane

/-- The reserved lanes in service: if one fails, the other serves alone (R212). -/
def State.reservedLanes (s : State) : List Nat := [16, 17].filter (fun l => !s.laneRetired l)

/-- Data lanes that take new messages. -/
def State.dataLanes (s : State) : List Nat := (upto 16).filter (fun l => s.getF (F.ASSAY_LANE_STATE.at l) = 0)

/-- Move the message of a held context from a lane out of service to another lane of its sort, where one has room (R212). A
message that finds none stays where it is, and its next operation tries again. -/
def State.assayShift (s : State) (key : Nat) : State :=
  let h := s.assay.held.get key
  if s.laneRetired h.lane = false then s
  else match s.freest (if h.lane < 16 then s.dataLanes else s.reservedLanes) with
    | none => s
    | some l => { s with assay := { s.assay with held := s.assay.held.upd key (fun h => { h with lane := l }) } }.assayRecount

/-- Move the messages of a lane to other lanes (R212). -/
def State.assayMove (s : State) (lane : Nat) : State :=
  (s.assay.held.filter (fun p => p.2.used && p.2.lane = lane)).foldl (fun s p => s.assayShift p.1) s

/-- Retire a lane; its messages move (R212, R224). The reserved lanes show nothing but their bit of RETIRED. -/
def State.assayRetire (s : State) (lane cause : Nat) : State :=
  let s0 := s.setF F.ASSAY_STATE_RETIRED (setBit (s.getF F.ASSAY_STATE_RETIRED) lane true)
  let s1 := if lane < 16 then (s0.setF (F.ASSAY_LANE_STATE.at lane) 3).setF (F.ASSAY_LANE_RETIRE_CAUSE.at lane) cause else s0
  let s2 := if cause = 4 ∧ lane < 16 then s1.satF (F.ASSAY_LANE_FAULTS.at lane) else s1
  ((s2.assayMove lane).assayRecount).holdRestart

/-- A lane serves again. -/
def State.assayBack (s : State) (lane : Nat) : State :=
  ((s.setF (F.ASSAY_LANE_STATE.at lane) 0).setF (F.ASSAY_LANE_RETIRE_CAUSE.at lane) 0).setF
    F.ASSAY_STATE_RETIRED (setBit (s.getF F.ASSAY_STATE_RETIRED) lane false)

/-- A lane request: BUSY refuses it with 0x80A0 (R224). -/
def State.assayRequest (s : State) (f : Nat → State → State) : State :=
  let l := s.getF F.ASSAY_LANE_SEL_VAL
  if 16 ≤ l then s
  else if s.getF F.ASSAY_LANE_CTL_BUSY = 1 then s.stat F.ASSAY_LANE_CTL_STATUS 0x80A0
  else f l s

/-- Queue a test or a restore of a lane and show BUSY. -/
def State.assayQueue (s : State) (lane : Nat) (restore : Bool) : State :=
  (((s.stat F.ASSAY_LANE_CTL_STATUS 0).setF F.ASSAY_LANE_CTL_RETRY_MS 0).setF F.ASSAY_LANE_CTL_BUSY 1).queueTest
    (ownTest kAssay lane restore)

/-- ASSAY_LANE_CTL.TEST (R212). -/
def execAssayLaneTest (s : State) : Res := .next (s.assayRequest (fun l s => s.assayQueue l false))

/-- ASSAY_LANE_CTL.RESTORE: only in SERVICE, only of a RETIRED lane (R224). -/
def execAssayLaneRestore (s : State) : Res :=
  .next (s.assayRequest (fun l s =>
    if s.mode = .service ∧ s.getF (F.ASSAY_LANE_STATE.at l) = 3 then s.assayQueue l true
    else s.stat F.ASSAY_LANE_CTL_STATUS 0x70A0))

/-- Data lanes not retired. -/
def State.assayLeft (s : State) : Nat := ((upto 16).filter (fun l => s.getF (F.ASSAY_LANE_STATE.at l) ≠ 3)).length

/-- A lane fails: retired with cause 0x04 (R212). -/
def State.assayLaneFail (s : State) (lane : Nat) : State :=
  if lane < 18 ∧ s.laneRetired lane = false then s.assayRetire lane 4 else s

/-- A data lane's periodic known-answer test falls due and is queued (R212). -/
def execAssayKatDue (lane : Nat) (s : State) : Res :=
  .next (if lane < 16 ∧ s.getF (F.ASSAY_LANE_STATE.at lane) ≠ 3 then
    s.queueTest { ownTest kAssay lane false with source := 0 } else s)

/-- A lane is withdrawn for its test; it has no spare (R212). -/
def State.assayWithdraw (s : State) (lane : Nat) : State :=
  let s1 := s.setF F.ASSAY_LANE_CTL_BUSY 1
  if s.getF (F.ASSAY_LANE_STATE.at lane) = 0 then s1.setF (F.ASSAY_LANE_STATE.at lane) 2 else s1

/-- A lane's test ends (R212). -/
def State.assayTestDone (s : State) (r : TestReq) (pass : Bool) : State :=
  let st := s.getF (F.ASSAY_LANE_STATE.at r.unit)
  let s1 := s.setF F.ASSAY_LANE_CTL_BUSY 0
  let s2 :=
    if st = 2 then (if pass then s1.setF (F.ASSAY_LANE_STATE.at r.unit) 0 else s1.assayRetire r.unit 2)
    else if st = 3 ∧ r.restore = true ∧ pass = true then s1.assayBack r.unit
    else s1
  if r.source = 2 then s2.setF F.ASSAY_LANE_CTL_STATUS (if pass then 0 else 0x40A0) else s2

/-! ### Held contexts (R210) -/

/-- The handle of a held context. -/
def heldHandle (key gen : Nat) : Nat := gen % 32 * 2048 + key

/-- Release a held context: its generation moves on. -/
def State.heldFree (s : State) (key : Nat) : State :=
  { s with assay := { s.assay with held := s.assay.held.upd key (fun h =>
      { (default : Held) with gen := (h.gen + 1) % 32 }) } }.assayRecount

/-- Whether an outstanding operation feeds the held context of a key, or ends it. -/
def AccelOp.feeds (o : AccelOp) (key : Nat) : Bool :=
  o.op = .assay && decide (2 ≤ o.imm / 4 % 4) && o.ra.toNat % 2048 = key

/-- Release every held context of an engine's context (R103, R120), but for those its outstanding operations still work on:
a killed context's operations complete with their effects first. -/
def State.heldFreeAll (s : State) (owner : Nat) : State :=
  let ops := (s.hands.ctxs.get owner).ops
  (s.assay.held.filter (fun p => p.2.used && p.2.owner = owner && !ops.any (fun o => o.feeds p.1))).foldl (fun s p => s.heldFree p.1) s

/-- Take a held context on one of the lanes: the key, or none. -/
def State.heldTake (s : State) (lanes : List Nat) : Option (Nat × Nat) :=
  match s.freest (lanes.filter (fun l => (s.handleFree l).isSome)) with
  | none => none
  | some l => (s.handleFree l).map (fun i => (l, l * 64 + i))

/-- Whether a handle names a held context of the engine's context (R210, R111). -/
def State.heldOk (s : State) (owner handle : Nat) : Bool :=
  let h := s.assay.held.get (handle % 2048)
  h.used && h.gen = handle / 2048 % 32 && h.owner = owner

/-! ### The ASSAY operation (R111, R211) -/

/-- Bytes the port has recorded as placed in a view (R211): of a STAGE view the bytes of the inbound command's data, or of the
protection information that came between them, that have arrived; of a TILL view the bytes of the landed grain it was supplied
for; any other view is whole. A STAGE view begins at its tag's buffer (assumption log 15). -/
def State.placedIn (s : State) (t : Nat) (d : BitVec 128) : Nat :=
  let a := descAddr d
  if descSpace d = spSTAGE then
    let t := a / 2 ^ 28
    let g := s.tagOf t
    if g.inbound = false then descLen d
    else
      let mb := if g.pract ∨ 16 ≤ g.entry then 0 else metaBytes (s.volOf g.vol).format
      let n := g.arrived / (4096 + mb)
      let r := g.arrived % (4096 + mb)
      min (descLen d) (if piBase t ≤ a then n * mb + (r - 4096) - (a - piBase t) else n * 4096 + min r 4096 - (a - stageBase t))
  else if descSpace d = spTILL ∧ (s.tagOf t).entry = 7 then
    let g := s.tagOf t
    min (descLen d) ((s.takeOf g.take).grainBase g.frame g.grain + g.arrived - a)
  else descLen d

/-- The last error of the Assay (R224). -/
def State.assayErr (s : State) (tag st lane : Nat) : State :=
  ((((s.setF F.ASSAY_LAST_ERR_TAG tag).setF F.ASSAY_LAST_ERR_STATUS st).setF F.ASSAY_LAST_ERR_LANE lane).setN
    R.ASSAY_LAST_ERR_SEQ s.now).tick

/-- A completion with 0x5050 (R211). -/
def State.assayShort (s : State) (tag lane : Nat) : Nat × State :=
  (0x5050, (s.addN R.ASSAY_LENGTH_FAIL 1).assayErr tag 0x5050 lane)

/-- The bytes of hallmark i. -/
def State.hallmark (s : State) (i : Nat) : List Byte :=
  (upto 8).flatMap (fun k => leBytes 8 (s.getN (R.ASSAY_HM + 0x40 * i + 8 * k)))

/-- The 512 bytes of a signature that the Strongroom makes with the identity key (R398, R450). -/
def State.idSign (s : State) (m : List Byte) : List Byte :=
  (Config.sign (s.getN R.STRONG_ID_KEYID) m ++ List.replicate 512 0).take 512

/-- Extend hallmark i by a digest (R214); HM7 is never extended (R449). -/
def State.hallmarkExtend (s : State) (i : Nat) (d : List Byte) : State :=
  if i = 7 then s else
  let v := digest 0 (s.hallmark i ++ d)
  let s1 := (upto 8).foldl (fun s k => s.setN (R.ASSAY_HM + 0x40 * i + 8 * k) (leNat ((v.drop (8 * k)).take 8))) s
  ((s1.addN (R.ASSAY_HM_COUNT + 8 * i) 1).setN (R.ASSAY_HM_SEQ + 8 * i) s.now).tick

/-- Lanes an engine's operation may use. -/
def State.assayLanes (s : State) (imm : Nat) : List Nat := if imm.testBit 4 then s.reservedLanes else s.dataLanes

/-- Whether an operation has to wait: for an earlier feed of its message, for the test of the lane its message stands on
(R212), or, as an extension, for one of the same hallmark accepted before it (R214). -/
def State.assayWaits (s : State) (c : Ctx) (o : AccelOp) : Bool :=
  let key := o.ra.toNat % 2048
  let lane := (s.assay.held.get key).lane
  if 2 ≤ o.imm / 4 % 4 then
    c.ops.any (fun p => p.feeds key && decide (p.id < o.id)) || (decide (lane < 16) && s.getF (F.ASSAY_LANE_STATE.at lane) = 2)
  else o.imm.testBit 5 && s.hands.ctxs.any (fun p => p.2.ops.any (fun q =>
    q.op = .assay && q.imm.testBit 5 && decide (q.id < o.id) && q.ra.toNat % 8 = o.ra.toNat % 8))

/-- Completion of ASSAY (R111, R210, R211, R214) for the context c. A message whose lane is out of service, and that no other lane
had room for, moves now, or ends in the unit failure of R120. -/
def State.assayDone (s0 : State) (e : Eng) (c : Ctx) (o : AccelOp) (env : Env) : Nat × State :=
  let alg := o.imm % 4
  let tag := c.tag
  let key := o.ra.toNat % 2048
  let s := if 2 ≤ o.imm / 4 % 4 then s0.assayShift key else s0
  let x := s.viewBytes e.unitNo o.da
  let short := decide (s.placedIn tag o.da ≠ descLen o.da)
  let count (s : State) : State := if o.imm.testBit 4 then s else s.addN R.ASSAY_BYTES x.length
  let h := s.assay.held.get key
  if 2 ≤ o.imm / 4 % 4 ∧ s.laneRetired h.lane = true then
    (0xF050, ((if o.imm / 4 % 4 = 3 then s.heldFree key else s)).assayErr tag 0xF050 h.lane)
  else
  match o.imm / 4 % 4 with
  | 0 =>
    if short then s.assayShort tag env.n
    else
      let d := digest alg x
      let s1 := (count s).wrView e.unitNo o.db d
      (0, if o.imm.testBit 5 then s1.hallmarkExtend (o.ra.toNat % 8) d else s1)
  | 1 =>
    match s.heldTake (s.assayLanes o.imm) with
    | none => (0x8052, (s.addN R.ASSAY_NO_HELD 1).assayErr tag 0x8052 env.n)
    | some (lane, k) =>
      let g := (s.assay.held.get k).gen
      let hc : Held := { used := true, gen := g, lane := lane, owner := e.key, alg := alg
                         data := if short then [] else x, invalid := short }
      let s1 := { s with assay := { s.assay with held := s.assay.held.set k hc } }.assayRecount
      if short then ((s1.assayShort tag lane).1 + heldHandle k g * 2 ^ 16, (s1.assayShort tag lane).2)
      else (heldHandle k g * 2 ^ 16, count s1)
  | 2 =>
    if h.invalid then s.assayShort tag h.lane
    else if short then
      { s with assay := { s.assay with held := s.assay.held.upd key (fun h => { h with invalid := true }) } }.assayShort tag h.lane
    else (0, count { s with assay := { s.assay with held := s.assay.held.upd key (fun h => { h with data := h.data ++ x }) } })
  | _ =>
    if h.invalid ∨ short = true then (s.heldFree key).assayShort tag h.lane
    else (0, ((count s).wrView e.unitNo o.db (digest h.alg (h.data ++ x))).heldFree key)

/-- Check 1 of R106 for ASSAY (R72, R111): Sequencers have no ASSAY; reserved lanes and hallmarks are the
Strongroom's, which uses no data lane. -/
def assayPriv (e : Eng) (imm : Nat) : Bool :=
  match e.kind with
  | .hand => !imm.testBit 4 && !imm.testBit 5
  | .council => !imm.testBit 4 && !imm.testBit 5
  | .strongroom => imm.testBit 4 || imm.testBit 5
  | .sequencer => false

/-- Check 4 of R106 for ASSAY (R111). A FINISH releases its handle for the operations issued after it, although it may still be
outstanding (DEDUCED, assumption log 24). -/
def State.assayForm (s : State) (e : Eng) (c : Ctx) (da db : DReg) (ra : GReg) (imm : Nat) : Bool :=
  let n := descLen (c.rd da.toNat)
  let m := descLen (c.rd db.toNat)
  let hd := (c.rg ra.toNat).toNat % 2 ^ 16
  let ending (o : AccelOp) : Bool := o.feeds (hd % 2048) && o.imm / 4 % 4 = 3
  imm % 4 ≠ 3 && (!imm.testBit 5 || (imm / 4 % 4 = 0 && imm % 4 = 0)) &&
    match imm / 4 % 4 with
    | 0 => decide (digestLen (imm % 4) ≤ m)
    | 1 => n % 128 = 0
    | 2 => n % 128 = 0 && s.heldOk e.key hd && !c.ops.any ending
    | _ => s.heldOk e.key hd && !c.ops.any ending && decide (digestLen (s.assay.held.get (hd % 2048)).alg ≤ m)

/-- Issue of an ASSAY operation in a phase. -/
def State.assayIssue (s : State) (e : Eng) (rd : GReg) (da db : DReg) (ra : GReg) (imm phase : Nat) : State :=
  let im := imm % 4 + 4 * phase + 16 * (imm / 16)
  let w := phase = 0 || phase = 3
  s.accelIssue e rd ra (fun c _ => mkAccel .assay c rd (some da) (if w then some db else none) ra im)
    (assayPriv e im)
    (fun c => ⟨c.rd da.toNat, true, false⟩ :: (if w then [⟨c.rd db.toNat, false, true⟩] else []))
    (fun c s => s.assayForm e c da db ra im)

/-- ASSAY phase ONE issues; the row fixes imm8[3:2] (R111). -/
def execAssayOne (e : Eng) (rd : GReg) (da db : DReg) (ra : GReg) (imm : BitVec 8) (s : State) : Res :=
  .next (s.assayIssue e rd da db ra imm.toNat 0)

/-- ASSAY phase START issues (R210). -/
def execAssayStart (e : Eng) (rd : GReg) (da db : DReg) (ra : GReg) (imm : BitVec 8) (s : State) : Res :=
  .next (s.assayIssue e rd da db ra imm.toNat 1)

/-- ASSAY phase MORE issues (R111). -/
def execAssayMore (e : Eng) (rd : GReg) (da db : DReg) (ra : GReg) (imm : BitVec 8) (s : State) : Res :=
  .next (s.assayIssue e rd da db ra imm.toNat 2)

/-- ASSAY phase FINISH issues (R111). -/
def execAssayFinish (e : Eng) (rd : GReg) (da db : DReg) (ra : GReg) (imm : BitVec 8) (s : State) : Res :=
  .next (s.assayIssue e rd da db ra imm.toNat 3)

/-! ### The DMA job (R213) -/

/-- GO: a running job refuses it with 0x80A0; the reserved ALG starts none. -/
def State.dmaGo (s : State) : State :=
  if s.assay.busy then s.stat F.ASSAY_DMA_CTL_STATUS 0x80A0
  else if s.getF F.ASSAY_DMA_CTL_ALG = 3 then s.stat F.ASSAY_DMA_CTL_STATUS 0x50A0
  else
    let s1 := (((s.stat F.ASSAY_DMA_CTL_STATUS 0).setF F.ASSAY_DMA_CTL_BUSY 1).setF F.ASSAY_DMA_CTL_DONE 0).setF
      F.ASSAY_DMA_CTL_INVALID 0
    { s1 with assay := { s1.assay with busy := true, alg := s.getF F.ASSAY_DMA_CTL_ALG
                                       feed := s.getF F.ASSAY_DMA_CTL_SOURCE = 1, data := []
                                       len := s.getN R.ASSAY_DMA_LEN % 2 ^ 40, addr := s.getN R.ASSAY_DMA_ADDR } }.setN R.ASSAY_DMA_COUNT 0

/-- ASSAY_DMA_CTL.GO starts a job (R213). -/
def execAssayDmaGo (s : State) : Res := .next s.dmaGo

/-- End a job: with a status and no digest, or with the digest of its data. -/
def State.dmaEnd (s : State) (st : Status) : State :=
  let s1 := { s with assay := { s.assay with busy := false } }
  let s2 := ((s1.setF F.ASSAY_DMA_CTL_STATUS st).setF F.ASSAY_DMA_CTL_BUSY 0).setF F.ASSAY_DMA_CTL_DONE 1
  if st ≠ 0 then
    let s3 := s2.setF F.ASSAY_DMA_CTL_INVALID 1
    if st = 0x5050 then (s3.addN R.ASSAY_LENGTH_FAIL 1).assayErr 0 st 0
    else if st = 0xF050 then s3.assayErr 0 st 0 else s3
  else
    let d := digest s.assay.alg s.assay.data
    (upto 8).foldl (fun s k => s.setN (R.ASSAY_DIGEST + 8 * k) (leNat ((d.drop (8 * k)).take 8)))
      ((s2.setF F.ASSAY_DMA_CTL_INVALID 0).addN R.ASSAY_BYTES s.assay.data.length)

/-- A MEMORY job finishes reading; env.status other than zero is a failed read of the source (R213). -/
def execAssayDmaComplete (env : Env) (s : State) : Res :=
  .next (if s.assay.busy = true ∧ s.assay.feed = false then
    if env.status ≠ 0 then s.dmaEnd 0xF050
    else
      let x := (upto s.assay.len).map (fun k => s.rdG (s.assay.addr + k))
      ({ s with assay := { s.assay with data := x } }.setN R.ASSAY_DMA_COUNT s.assay.len).dmaEnd 0
  else s)

/-- Feed bytes to a FEED job: those past the declared length count and are discarded (R213). -/
def State.dmaFeed (s : State) (l : List Byte) : State :=
  if s.assay.busy = true ∧ s.assay.feed = true then
    { s with assay := { s.assay with data := s.assay.data ++ l.take (s.assay.len - s.assay.data.length) } }.setN
      R.ASSAY_DMA_COUNT ((s.getN R.ASSAY_DMA_COUNT + l.length) % 2 ^ 40)
  else s

/-- A write to ASSAY_FEED (R213). -/
def execAssayFeed (v : Word) (s : State) : Res := .next (s.dmaFeed (leBytes 8 v.toNat))

/-- A write to ASSAY_FEED_TAIL: COUNT 1 to 7 bytes (R213, R224). -/
def execAssayFeedTail (v : Word) (s : State) : Res := .next (s.dmaFeed (leBytes (v.toNat / 2 ^ 56 % 8) v.toNat))

/-- CLOSE ends a FEED job, comparing the counts (R211, R213). -/
def execAssayDmaClose (s : State) : Res :=
  .next (if s.assay.busy = true ∧ s.assay.feed = true then
    s.dmaEnd (if s.getN R.ASSAY_DMA_COUNT = s.assay.len then 0 else 0x5050)
  else s)

/-- ABORT ends a job with 0x60A0 and no digest (R213). -/
def execAssayDmaAbort (s : State) : Res := .next (if s.assay.busy then s.dmaEnd 0x60A0 else s)

/-! ### Hallmark latch and comparison (R215, R216) -/

/-- A read of word 0 of a hallmark latches it for the path (R215). -/
def State.hallmarkLatch (s : State) (path i : Nat) : State :=
  let l := (upto 8).map (fun k => s.getR (R.ASSAY_HM + 0x40 * i + 8 * k)) ++
    [s.getR (R.ASSAY_HM_COUNT + 8 * i), s.getR (R.ASSAY_HM_SEQ + 8 * i)]
  { s with assay := { s.assay with latch := s.assay.latch.set (path * 8 + i) l } }

/-- What a path reads of a hallmark: word 0 to 7, 8 the count, 9 the Reeve number; before the path's first
read of word 0 the present value. -/
def State.hallmarkView (s : State) (path i k : Nat) : Word :=
  match (s.assay.latch.get (path * 8 + i))[k]? with
  | some v => v
  | none => if k < 8 then s.getR (R.ASSAY_HM + 0x40 * i + 8 * k)
    else if k = 8 then s.getR (R.ASSAY_HM_COUNT + 8 * i) else s.getR (R.ASSAY_HM_SEQ + 8 * i)

/-- A read of ASSAY_HMi_0 by a path (R215). -/
def execHallmarkWord0Read (p : Path) (i : Nat) (s : State) : Res :=
  .next (if i < 8 then s.hallmarkLatch p.num i else s)

/-- The digest a comparison takes: the last DMA digest or a hallmark, with its length, or none (R216). -/
def State.compareOperand (s : State) : Option (List Byte) :=
  if s.getF F.ASSAY_CMP_CTL_SOURCE = 1 then some (s.hallmark (s.getF F.ASSAY_CMP_CTL_HM))
  else if s.getF F.ASSAY_DMA_CTL_INVALID = 1 ∨ s.getF F.ASSAY_DMA_CTL_DONE = 0 then none
  else some (((upto 8).flatMap (fun k => leBytes 8 (s.getN (R.ASSAY_DIGEST + 8 * k)))).take (digestLen s.assay.alg))

/-- ASSAY_CMP_CTL.GO (R216). -/
def execAssayCompareGo (s : State) : Res :=
  .next (match s.compareOperand with
    | none => (((s.stat F.ASSAY_CMP_CTL_STATUS 0x5050).setN R.ASSAY_CMP_RESULT 0).addN R.ASSAY_LENGTH_FAIL 1).assayErr 0 0x5050 0
    | some d =>
      let x := ((upto 8).flatMap (fun k => leBytes 8 (s.getN (R.ASSAY_EXPECT + 8 * k)))).take d.length
      (s.stat F.ASSAY_CMP_CTL_STATUS 0).setN R.ASSAY_CMP_RESULT
        (if d = x then 0x6C93A55A936C5AA5 else 0x936C5AA56C93A55A))

end Sys2Proof.Machine
end

