-- ==== Sys2Proof/Machine/Till.lean ====
section
/-! DEFINITION. The Till: TILL.P, admission against the flush budget (R252 to R264, R307) and entry to HOLDUP
(R266). -/
namespace Sys2Proof.Machine

/-! ### Placements -/

/-- A placement. -/
def State.placeOf (s : State) (k : Nat) : Place := s.till.places.get k

/-- Put a placement. -/
def State.putPlace (s : State) (k : Nat) (p : Place) : State :=
  { s with till := { s.till with places := s.till.places.set k p } }

/-- DIRTY (R252): placements in the Till, Daybook bytes not yet on flash, landing regions. -/
def State.dirty (s : State) : Nat :=
  (s.till.places.filter (fun p => decide (2 ≤ p.2.phase))).foldl (fun n p => n + p.2.slots * 4096) 0 + s.dbDirty +
    s.getF F.TILL_REGIONS_BYTES

/-- The dirty need of the admitted takes (R151, R159). -/
def State.takeNeed (s : State) : Nat :=
  (s.loadsBut 64).foldl (fun n x => n + x.rate * s.toll.cap.residence / 1000000 + x.g) 0

/-- What take traffic already uses of it: regions and take placements. -/
def State.takeUsed (s : State) : Nat :=
  s.getF F.TILL_REGIONS_BYTES +
    (s.till.places.filter (fun p => decide (2 ≤ p.2.phase) && p.2.take)).foldl (fun n p => n + p.2.slots * 4096) 0

/-- Whether a placement of a size may be admitted now (R263, R264). -/
def State.mayPlace (s : State) (take : Bool) (bytes : Nat) : Bool :=
  decide (s.dirty + bytes + (if take then 0 else s.takeNeed - s.takeUsed) ≤ s.getN R.TILL_LIMIT)

/-- The entry TILL.P writes (R115, R274). -/
def Place.entry (p : Place) : BitVec 128 :=
  mkEntry (if p.leaf then 3 else 1) false false p.slots p.commons p.slot p.addr

/-- Admit a placement: slots from the frontier, the extent, and the stub that mirrors it (R259, R263, R274).
Where the frontier has no slot it goes on waiting. -/
def State.placeAdmit (s : State) (k : Nat) : State :=
  let p := s.placeOf k
  let vol := p.addr / 2 ^ 52 % 4096
  let fr := s.getF (F.STEWARD_VOL_MEDIA_SECURE.at vol)
  match s.slotAlloc p.commons fr p.slots p.take 1 with
  | none => s
  | some (slot, s1) =>
    let w := if p.waitFrom = 0 then 0 else min 0xFFFFFFFF (s.time + 1 - p.waitFrom)
    let off := s1.till.nextOff
    let s2 := { s1 with till := { s1.till with nextOff := off + p.slots * 4096 } }
    let s3 := s2.putExtent (p.commons * 2 ^ 43 + slot)
      { n := p.slots, vol := vol, leaf := p.addr % 2 ^ 52, birth := s.poolEpoch, death := 0, names := 0, sieve := 0 }
    let tag := (s.hands.ctxs.get p.key).tag
    let s4 := s3.mirror 0x02 (leBytes 8 off ++ leBytes 8 p.addr ++ leBytes 2 tag ++ leBytes 1 1 ++ leBytes 5 0 ++
      leBytes 8 p.issue ++ p.data)
    (s4.putPlace k { p with phase := 2, slot := slot, waited := w, off := off, stub := if s.mirrors then s4.cf.txSeq else 0 }).addN
      R.TILL_WAIT_US w

/-- Insert by class, then by Reeve number of issue (R263). -/
def insertPlace (x : Nat × Place) : List (Nat × Place) → List (Nat × Place)
  | [] => [x]
  | y :: r =>
    if x.2.cls < y.2.cls ∨ (x.2.cls = y.2.cls ∧ x.2.issue ≤ y.2.issue) then x :: y :: r else y :: insertPlace x r

/-- Whether the Docket has caught an abort of the tag whose running context a placement serves: one that waits is not admitted
any more (R120). -/
def State.placeAborted (s : State) (p : Place) : Bool :=
  let c := s.hands.ctxs.get p.key
  decide (p.key < 1024) && c.state ≠ .halted && c.state ≠ .free && (s.tagOf c.tag).aborted

/-- End a context without a completion: its group and its references, its operations and its held Assay contexts go with it. -/
def State.ctxDrop (s : State) (k : Nat) : State :=
  let s1 := (((s.discardGroup k).heldFreeAll k).pressDrop (fun j => j.key = k)).millDrop (fun m => m.key = k)
  { s1 with hands := { s1.hands with ctxs := s1.hands.ctxs.set k default }
            till := { s1.till with places := s1.till.places.filter (fun p => !(p.2.phase = 1 && p.2.key = k)) } }

/-- Placements that wait, of takes or of the rest, in their order. -/
def State.placeQueue (s : State) (take : Bool) : List Nat :=
  ((s.till.places.filter (fun p => p.2.phase = 1 && p.2.take = take && !s.placeAborted p.2)).foldr insertPlace []).map Prod.fst

/-- Admit from the head of a queue until one does not fit (R263). -/
def State.placeWalk : List Nat → State → State
  | [], s => s
  | k :: r, s =>
    let p := s.placeOf k
    if s.mayPlace p.take (p.slots * 4096) then
      let s1 := s.placeAdmit k
      if (s1.placeOf k).phase = 1 then s1 else State.placeWalk r s1
    else s

/-- Serve the waiting placements, take placements first (R263). -/
def State.tillServe (s : State) : State :=
  if s.mode = .holdup then s
  else
    let s1 := State.placeWalk (s.placeQueue true) s
    State.placeWalk (s1.placeQueue false) s1

/-- A TILL.P has issued: its data stand by, and it is admitted or begins to wait (R115, R263); one of an aborted tag places
nothing (R120). -/
def State.placeNew (s : State) (e : Eng) (da : BitVec 128) (ra imm : Nat) : State :=
  let k := s.till.nextPlace
  let g := s.tagOf (s.ctx e).tag
  let q := s.queueOf g.queue
  let p : Place := { (default : Place) with
    phase := 1, addr := ra, slots := descLen da / 4096, leaf := decide (imm % 2 = 1)
    commons := (s.volOf (ra / 2 ^ 52 % 4096)).commons, data := s.viewBytes e.unitNo da, issue := s.now
    take := q.cls = 0 && q.kind ≠ 0, cls := q.cls, key := e.key }
  let s1 := { s with till := { s.till with nextPlace := k + 1 } }
  if g.aborted = true then s1 else
  let s2 := ((s1.putPlace k p).tick).tillServe
  if (s2.placeOf k).phase = 1 then
    (s2.putPlace k { s2.placeOf k with waitFrom := s2.time + 1 }).addN R.TILL_WAITS 1 |>.countEv 0x07 1 16
  else s2

/-- Whether an address names the context's own volume, or the engine is a Council core (R113 to R115). -/
def volOk (e : Eng) (c : Ctx) (ra : Nat) : Bool :=
  match e.kind with
  | .hand => decide (ra / 2 ^ 52 = c.vol)
  | .council => true
  | _ => false

/-- Hands and Council cores issue SIEVE.Q, MAP.L and MAP.U; TILL.P is the Hands' (R72). -/
def mapEngine (e : Eng) : Bool := e.kind = .hand || e.kind = .council


/-- TILL.P issues (R115). -/
def execTillP (e : Eng) (rd : GReg) (da db : DReg) (ra : GReg) (imm : BitVec 8) (s : State) : Res :=
  let d := (s.ctx e).rd da.toNat
  let a := ((s.ctx e).rg ra.toNat).toNat
  .next (s.thenIf e (s.accelIssue e rd ra
    (fun c s => { mkAccel .tillP c rd (some da) (some db) ra imm.toNat with n := s.till.nextPlace })
    (e.kind = .hand) (fun c => [⟨c.rd da.toNat, true, false⟩, ⟨c.rd db.toNat, false, true⟩])
    (fun c _ =>
      let x := c.rd da.toNat
      volOk e c (c.rg ra.toNat).toNat && decide (16 ≤ descLen (c.rd db.toNat)) &&
        (if imm.toNat % 2 = 1 then descLen x = 4096 else descLen x % 4096 = 0 && decide (4096 ≤ descLen x) && decide (descLen x ≤ 65536))))
    (fun s1 => s1.placeNew e d a imm.toNat))

/-- TILL.P completes, or stays outstanding: it waits for admission, or for the partner's ACK (R115, R259,
R266). -/
def State.tillPDone (s : State) (e : Eng) (o : AccelOp) : Option Nat × State :=
  let p := s.placeOf o.n
  if p.phase = 0 then (some 0x6050, s)
  else if p.phase = 1 then
    if o.aborted then (some 0x6050, s.putPlace o.n default)
    else if s.mode = .holdup then (some 0x8055, s.putPlace o.n default)
    else (none, s)
  else if p.phase = 2 ∧ p.stub ≠ 0 ∧ s.mirrors = true ∧ s.cf.acked < p.stub then (none, s)
  else
    (some (p.waited * 2 ^ 16),
      ((s.putPlace o.n { p with phase := 3 }).wrView e.unitNo o.db (entryBytes p.entry)).putTag (s.ctx e).tag
        { s.tagOf (s.ctx e).tag with tillUs := (s.tagOf (s.ctx e).tag).tillUs + p.waited })

/-- The bytes of slots that stand in the Till: the data of a placement whose sheaf is not yet closed are read
from there (R337). -/
def State.tillRead (s : State) (c slot n : Nat) : Option (List Byte) :=
  match s.till.places.find? (fun p => decide (2 ≤ p.2.phase) && p.2.commons = c && decide (p.2.slot ≤ slot) &&
      decide (slot + n ≤ p.2.slot + p.2.slots)) with
  | some p => some ((p.2.data.drop ((slot - p.2.slot) * 4096)).take (n * 4096))
  | none => none

/-! ### The budget (R261, R263, R264) -/

/-- OVER and EXCESS as DIRTY and the limit now stand (R264, R265). -/
def State.tillFlags (s : State) : State :=
  let past := decide (s.getN R.TILL_LIMIT < s.dirty)
  let s1 := s.setF F.TILL_STATE_OVER (b2n past)
  if past then s1 else s1.setF F.TILL_STATE_EXCESS 0

/-- Recompute BUDGET and TILL_LIMIT (R261, R263); what waits is served anew. One more than 1 % off the last capacity block's is a
trigger of R163. -/
def State.budgetSet (s : State) (b : Nat) : State :=
  let was := s.toll.cap.budget
  let s1 := ((s.setN R.TILL_BUDGET b).setN R.TILL_LIMIT b).capTriggerIf (decide (was < 100 * (max b was - min b was)))
  let c := s.bankC
  let v := s.getF F.WARDEN_BANK_MEAS_V
  let s2 := ((s1.setF F.TILL_BUDGET_IN_C c).setF F.TILL_BUDGET_IN_V v).setF F.TILL_BUDGET_IN_SLEDS s.sledsServing
  ((s2.setF F.TILL_BUDGET_IN_WINDOW (windowMs c v)).tillFlags).tillServe

/-- The bank's voltage in mV as the Warden samples it, and the energy it means, in 0.01 J (R495, R508). -/
def State.bankVolt (s : State) (v : Nat) : State :=
  (s.setF F.WARDEN_BANK_MEAS_V v).setF F.WARDEN_BANK_ENERGY (s.getF F.WARDEN_BANK_MEAS_C * v * v / 200000000)

/-- The flush budget is recomputed from the bank's present voltage (R261 to R264). -/
def execBudgetRecompute (v : Nat) (s : State) : Res := .next ((s.bankVolt v).budgetSet (s.bankVolt v).budgetNow)

/-! ### Entry to HOLDUP (R266, R267) -/

/-- Enter HOLDUP: commands and data stop, groups not yet committing go with their contexts, and the flush
begins (R32, R266, R267). -/
def State.enterHoldup (s : State) (cause : Nat) : State :=
  if s.mode = .holdup then s
  else
    let was := s.mode
    let d := s.dirty
    let s1 := (s.setMode .holdup cause).reqDone 0x6020
    let lose := (s1.hands.ctxs.filter (fun p => p.2.state ≠ .free && !p.2.group.isEmpty && !p.2.committing)).map Prod.fst
    let s2 := lose.foldl State.ctxDrop s1
    let s3 := { s2 with till := { s2.till with holdupFrom := s.time + 1, holdupBytes := d }, toll := { s2.toll with solo := none, waiting := [] } }
    let s4 := ((s3.setF F.TILL_STATE_FLUSHING 1).setN R.TILL_LAST_HOLDUP_SEQ s.now).setF F.WARDEN_BANK_STATE 6
    let s5 := s4.regEvent blkTILL 0x104 d (leBytes 8 (s.getN R.TILL_BUDGET))
    if was = .paired then
      s5.sendStub 0x0A (leBytes 8 s.opsec ++ leBytes 8 d ++ leBytes 8 (s.getN R.TILL_BUDGET))
    else s5

/-! ### Views -/

/-- TILL_STATE (R272). -/
def State.viewTillState (s : State) : Nat :=
  s.getF F.TILL_STATE_FLUSHING * 2 ^ 7 + s.getF F.TILL_STATE_EXCESS * 2 ^ 6 + s.getF F.TILL_STATE_OVER * 2 ^ 5 +
    b2n (s.till.places.any (fun p => p.2.phase = 1)) * 2 ^ 4 + b2n s.mirrors * 2 ^ 3

/-- TILL_MIRROR (R272). -/
def State.viewMirror (s : State) : Nat := s.cf.mirror.foldl (fun n m => n + m.data.length) 0

end Sys2Proof.Machine
end

