-- ==== Sys2Proof/Machine/Sieve.lean ====
section
/-! DEFINITION. The Sieve's and the map's accelerator operations (R113, R114, R226 to R236, R279). -/
namespace Sys2Proof.Machine

/-! ### SIEVE.Q (R113, R228, R232 to R236) -/

/-- Key of a fingerprint in a vault of a commons. -/
def fpKey (c vault : Nat) (fp : List Byte) : Nat := c * 2 ^ 264 + vault % 256 * 2 ^ 256 + leNat (fp.take 32)

/-- The key under which SIEVE.Q looks a fingerprint up: a Hand's in its command's vault and commons; a Council core's in the
vault that ra[11:0] names, where no commons is named: for INSERT that of the entry, otherwise that of a record the
fingerprint has in the vault, else commons 0 (R113, assumption log 49). -/
def State.fpOf (s : State) (e : Eng) (o : AccelOp) : Nat :=
  let c := s.ctx e
  let fp := s.viewBytes e.unitNo o.da
  if e.kind = .hand then fpKey (s.volOf c.vol).commons c.vault fp
  else
    let k := fpKey 0 (o.ra.toNat % 4096) fp
    if o.imm % 4 = 1 then eCommons (entryOf (s.viewBytes e.unitNo o.db)) * 2 ^ 264 + k
    else match s.sieve.recs.find? (fun p => p.1 % 2 ^ 264 = k && p.2.valid) with
      | some p => p.1
      | none => k

/-- Whether de-duplication is excluded for a volume (R228). -/
def State.excluded (s : State) (v : Nat) : Bool :=
  !s.feat 33 || s.getF (F.SIEVE_VOL_CFG_DEDUP.at v) = 0 || s.getF (F.PRESS_STREAM_CFG_RAW_ONLY.at v) = 1 ||
    s.sieve.building.contains (s.volOf v).commons

/-- Whether SIEVE.Q of an engine on a key has no effect: a Hand's volume decides, a Council core names none (R228). -/
def State.excludedFor (s : State) (e : Eng) (k : Nat) : Bool :=
  if e.kind = .hand then s.excluded (s.ctx e).vol else !s.feat 33 || s.sieve.building.contains (k / 2 ^ 264)

/-- The volume a change of a record counts for: the command's; a Council core has none, so it is free (R234, assumption
log 49). -/
def State.sieveVol (s : State) (e : Eng) : Nat × State :=
  if e.kind = .hand then ((s.ctx e).vol, s) else (s.draw.1.toNat % 4096, s.draw.2)

/-- Records the array holds at most (R231). -/
def sieveMax : Nat := 2147483648

/-- Whether a record answers a LOOKUP: live, or DEFUNCT with its slots not freed yet (R235, R236). -/
def State.recLive (s : State) (r : SieveRec) : Bool :=
  r.valid && (!r.defunct || decide ((s.extent (eCommons r.entry * 2 ^ 43 + eSlot r.entry)).n ≠ 0))

/-- Whether a LOOKUP has to read its bucket's pages from the members (R232): the filter lets it pass, and the record is not among
the hot ones. -/
def State.lookupReads (s : State) (k : Nat) : Bool := s.filterPass k && !s.sieve.hot.contains k

/-- Note a change of a Sieve record under a context's group, and make it (R234). -/
def State.sieveNote (s : State) (e : Eng) (o : SieveOp) : State :=
  let s1 := s.sieveApply o
  s1.putCtx e { s1.ctx e with refs := (s1.ctx e).refs ++ [o] }

/-- LOOKUP completes, or waits while another tag holds the fingerprint PENDING (R113, R120, R232): a negative answer of the filter
is a miss, and a pass that finds no record counts. -/
def State.lookupDone (s : State) (e : Eng) (o : AccelOp) : Option Nat × State :=
  let k := s.fpOf e o
  let r := s.sieveRec k
  if s.excludedFor e k then (some 0, s.addN R.SIEVE_LOOKUPS 1)
  else if s.sieve.pendingFp.any (fun p => p.1 = k && p.2 ≠ e.key) then (none, s)
  else
    let s1 := (s.addN R.SIEVE_LOOKUPS 1).addN R.SIEVE_FILTER_FALSE (b2n (s.lookupReads k && !s.recLive r))
    if s.filterPass k = true ∧ s.recLive r = true then
      let (v, s0) := (s1.hotTouch k).sieveVol e
      let s2 := s0.sieveNote e { op := if r.defunct then 4 else 2, key := k, vol := v, entry := r.entry }
      let s3 := ((s2.addN R.SIEVE_HITS 1).addN R.SIEVE_SLOTS_SAVED (eSlots r.entry)).wrView e.unitNo o.db (entryBytes r.entry)
      (some (2 ^ 16), s3)
    else
      let s2 := if r.valid then s1.putRec k default else s1
      (some 0, { s2 with sieve := { s2.sieve with pendingFp := (k, e.key) :: s2.sieve.pendingFp.filter (fun p => p.1 ≠ k) } })

/-- INSERT completes (R113, R231, R236). -/
def State.insertDone (s : State) (e : Eng) (o : AccelOp) : Nat × State :=
  let k := s.fpOf e o
  if s.excludedFor e k then (0, s)
  else
    let s1 := { s with sieve := { s.sieve with pendingFp := s.sieve.pendingFp.filter (fun p => p ≠ (k, e.key)) } }
    if sieveMax ≤ s.sieve.recs.length then
      let m := s.opsec / 60
      let s2 := s1.addN R.SIEVE_SKIPPED 1
      (0, if s.sieve.skipLog = m + 1 then s2
        else { s2 with sieve := { s2.sieve with skipLog := m + 1 } }.log blkSIEVE 0 0 0 [])
    else if s.recLive (s.sieveRec k) then (0, s1)
    else
      let (v, s2) := s1.sieveVol e
      (0, (s2.sieveNote e { op := 1, key := k, vol := v, entry := entryOf (s.viewBytes e.unitNo o.db) }).hotTouch k)

/-- UNREF completes (R113, R234). -/
def State.unrefDone (s : State) (e : Eng) (o : AccelOp) : Nat × State :=
  let k := s.fpOf e o
  if s.excludedFor e k = true ∨ (s.sieveRec k).valid = false then (0, s)
  else (0, s.sieveNote e { op := 3, key := k, vol := (s.ctx e).vol, entry := (s.sieveRec k).entry })

/-- SIEVE.Q completes by its function. -/
def State.sieveDone (s : State) (e : Eng) (o : AccelOp) : Option Nat × State :=
  match o.imm % 4 with
  | 0 => s.lookupDone e o
  | 1 => let r := s.insertDone e o; (some r.1, r.2)
  | _ => let r := s.unrefDone e o; (some r.1, r.2)

/-- SIEVE.Q issues: fn as the row names it. Hands give ra = 0; a Council core names one of the 256 vaults (R113, R226), against
the table of R72, which gives it no SIEVE.Q (assumption log 49). -/
def State.sieveIssue (s : State) (e : Eng) (rd : GReg) (da db : DReg) (ra : GReg) (imm fn : Nat) : State :=
  s.accelIssue e rd ra (fun c _ => mkAccel .sieve c rd (some da) (if fn = 2 then none else some db) ra (imm / 4 * 4 + fn))
    (mapEngine e)
    (fun c => ⟨c.rd da.toNat, true, false⟩ ::
      (if fn = 0 then [⟨c.rd db.toNat, false, true⟩] else if fn = 1 then [⟨c.rd db.toNat, true, false⟩] else []))
    (fun c _ => decide (32 ≤ descLen (c.rd da.toNat)) && (fn = 2 || decide (16 ≤ descLen (c.rd db.toNat))) &&
      (if e.kind = .hand then c.rg ra.toNat = 0 else decide ((c.rg ra.toNat).toNat % 4096 < 256)))

/-- SIEVE.Q LOOKUP issues. -/
def execSieveLookup (e : Eng) (rd : GReg) (da db : DReg) (ra : GReg) (imm : BitVec 8) (s : State) : Res :=
  .next (s.sieveIssue e rd da db ra imm.toNat 0)

/-- SIEVE.Q INSERT issues. -/
def execSieveInsert (e : Eng) (rd : GReg) (da db : DReg) (ra : GReg) (imm : BitVec 8) (s : State) : Res :=
  .next (s.sieveIssue e rd da db ra imm.toNat 1)

/-- SIEVE.Q UNREF issues. -/
def execSieveUnref (e : Eng) (rd : GReg) (da db : DReg) (ra : GReg) (imm : BitVec 8) (s : State) : Res :=
  .next (s.sieveIssue e rd da db ra imm.toNat 2)

/-- A filter of an adopted commons is ready, built from its records (R235): the commons is excluded no longer. -/
def execSieveFilterReady (commons : Nat) (s : State) : Res :=
  let l := s.sieve.building.filter (fun c => c ≠ commons)
  .next (({ s with sieve := { s.sieve with building := l } }.filterBuild commons).setF F.SIEVE_STATE_REBUILDING (b2n (!l.isEmpty)))

/-! ### MAP.L and MAP.U (R114, R279) -/

/-- Whether an entry names a scarred slot (R348). -/
def State.scarred (s : State) (e : BitVec 128) : Bool :=
  (eKind e = 1 || eKind e = 3) &&
    (let x := s.sheafOf (eCommons e * 2 ^ 33 + eSlot e / 1024)
     x.scars.any (fun t => decide (eSlot e % 1024 ≤ t) && decide (t < eSlot e % 1024 + eSlots e)))

/-- The leaf of an address. -/
def addrLeaf (a : Nat) : Nat := a % 2 ^ 52

/-- The volume of an address. -/
def addrVol (a : Nat) : Nat := a / 2 ^ 52 % 4096

/-- Whether an address lies inside its volume. -/
def State.addrIn (s : State) (a : Nat) : Bool := decide (addrLeaf a < (s.volOf (addrVol a)).size)

/-- MAP.L issues; da and imm8 are not used and not checked (R106). -/
def execMapL (e : Eng) (rd : GReg) (_da db : DReg) (ra : GReg) (imm : BitVec 8) (s : State) : Res :=
  .next (s.accelIssue e rd ra (fun c _ => mkAccel .mapL c rd none (some db) ra imm.toNat) (mapEngine e)
    (fun c => [⟨c.rd db.toNat, false, true⟩])
    (fun c s => volOk e c (c.rg ra.toNat).toNat && s.addrIn (c.rg ra.toNat).toNat &&
      decide (16 ≤ descLen (c.rd db.toNat))))

/-- The value of a grain as MAP.L of a context reads it: a COPY command for a link reads the snapshot that its
batch sends (R245); any other command the committed map. -/
def State.mapSeen (s : State) (e : Eng) (g : Nat) : GrainMap :=
  let t := s.tagOf (s.ctx e).tag
  let l := s.sieve.links.get t.frame
  if e.kind = .hand ∧ t.entry = 10 ∧ l.sending ≠ 0 then (s.sieve.snaps.get (t.vol * 2 ^ 32 + (l.sending - 1))).map.get g
  else s.mapAt g

/-- MAP.L answers from the map as its tag sees it (R114, R280). -/
def State.mapAnswer (s : State) (e : Eng) (o : AccelOp) : Nat × State :=
  let g := grainKey o.ra.toNat
  let v := seeGroup g (s.ctx e).group (s.mapSeen e g)
  if v.length = 17 then
    if s.scarred (v.leaf (o.ra.toNat % 16)) then (0x4056, s)
    else if descLen o.db < 256 then (0x5051, s)
    else (2 * 2 ^ 16, s.wrView e.unitNo o.db ((v.drop 1).flatMap entryBytes))
  else if s.scarred v.whole then (0x4056, s)
  else ((if v.whole = 0 then 0 else 2 ^ 16), s.wrView e.unitNo o.db (entryBytes v.whole))

/-- MAP.L completes; one that needs a page from flash waits for its fetch (R279). -/
def State.mapLDone (s : State) (e : Eng) (o : AccelOp) : Option Nat × State :=
  if s.mapMiss (grainKey o.ra.toNat) then (none, s)
  else let r := (s.addN R.STEWARD_MAP_HITS 1).mapAnswer e o; (some r.1, r.2)

/-- The fetch of a MAP.L ends: the answer, or 0x4056 where a page is lost beyond parity (R276, R279). -/
def State.mapFetched (s : State) (e : Eng) (o : AccelOp) (lost : Bool) : Nat × State :=
  let s1 := s.addN R.STEWARD_MAP_MISSES 1
  if lost then (0x4056, s1) else (s1.mapFetch (grainKey o.ra.toNat)).mapAnswer e o

/-- MAP.U issues. -/
def execMapU (e : Eng) (rd : GReg) (da db : DReg) (ra : GReg) (imm : BitVec 8) (s : State) : Res :=
  .next (s.accelIssue e rd ra
    (fun c _ => mkAccel .mapU c rd (some da) (if imm.getLsbD 2 then some db else none) ra imm.toNat) (mapEngine e)
    (fun c => ⟨c.rd da.toNat, true, false⟩ :: (if imm.getLsbD 2 then [⟨c.rd db.toNat, true, false⟩] else []))
    (fun c s =>
      let a := (c.rg ra.toNat).toNat
      volOk e c a && s.addrIn a && (imm.getLsbD 0 || a % 16 = 0) &&
        decide (16 ≤ descLen (c.rd da.toNat)) && (!imm.getLsbD 2 || decide (16 ≤ descLen (c.rd db.toNat)))))

/-- The update a MAP.U carries. -/
def State.updOf (s : State) (e : Eng) (o : AccelOp) : MapUpd where
  leaf := o.imm.testBit 0
  cond := o.imm.testBit 2
  addr := o.ra.toNat
  entry := entryOf (s.viewBytes e.unitNo o.da)
  expect := if o.imm.testBit 2 then entryOf (s.viewBytes e.unitNo o.db) else 0

/-- MAP.U is judged: a lost condition, a full group, an update joined to the group, or one to commit alone,
which is none (R114). -/
def State.mapUJudge (s : State) (e : Eng) (o : AccelOp) : Option Nat × State :=
  let c := s.ctx e
  let u := s.updOf e o
  let g := grainKey u.addr
  let cur := (seeGroup g c.group (s.mapAt g)).current u.leaf u.addr
  if u.cond = true ∧ cur ≠ u.expect then
    (some 0x8051, if descWrite o.db then s.wrView e.unitNo o.db (entryBytes cur) else s)
  else if o.imm.testBit 1 then
    if 65536 ≤ c.group.length then (some 0x8053, s)
    else (some 0, s.putCtx e { c with group := c.group ++ [u] })
  else (none, s)

/-- A MAP.U commits alone (R114, R280). -/
def State.mapUCommit (s : State) (e : Eng) (o : AccelOp) : State :=
  let v := addrVol o.ra.toNat
  s.commitGroup (s.volOf v).commons (s.ctx e).tag v [s.updOf e o] []

end Sys2Proof.Machine
end

