-- ==== Sys2Proof/Machine/MediaOps.lean ====
section
/-! DEFINITION. What the sled ports, the Steward's media half and the Holdings share: blocks and their
retirement (R320 to R322), QLC frontiers and relocation (R289, R308, R311, R344), the state of holdings (R329,
R343), closing of sheaves (R337), scars (R348). -/
namespace Sys2Proof.Machine

/-! ### Commons and dies -/

/-- The commons of a die, if one is formed over it (R330). -/
def State.dieCommons (s : State) (die : Nat) : Option Nat :=
  s.hold.formed.find? (fun c => decide (s.getF (F.HOLD_CMN_FIRST_DIE.at c) ≤ die % 2048) &&
    decide (die % 2048 < s.getF (F.HOLD_CMN_FIRST_DIE.at c) + s.getF (F.HOLD_CMN_DIES.at c)))

/-- The die a location lies on. -/
def locDieKey (l : Nat) : Nat := locSled l * 2048 + locDie l

/-- A commons's row of the holding table: die range, home, record members, failed members (R331). -/
def State.tableRow (s : State) (c : Nat) : List Nat :=
  let failed := (s.cmnDies c).filter (fun d => (s.dieOf d).state ≠ 0)
  [c, s.getF (F.HOLD_CMN_FIRST_DIE.at c), s.getF (F.HOLD_CMN_DIES.at c), s.getF (F.HOLD_CMN_HOME.at c)] ++ s.recordMembers c ++
    [failed.length] ++ failed

/-- Write the whole holding table to the label of every READY sled of the pool, with the next sequence number
(R331). -/
def State.tableWrite (s : State) : State :=
  let s1 := { s with hold := { s.hold with tableSeq := s.hold.tableSeq + 1 } }
  (s.poolSleds.filter (fun k => s.getF (F.SLED_STATE_STATE.at k) = 3)).foldl (fun s k =>
    s.send (.sled k 16 (s.hold.tableSeq :: s.hold.formed.flatMap s.tableRow))) s1

/-! ### The states of holdings (R329) -/

/-- Set bits of a mask. -/
def popCount (n v : Nat) : Nat := ((upto n).filter (fun i => v.testBit i)).length

/-- Pages a row of a sheaf has lost. -/
def Sheaf.rowLost (x : Sheaf) (r : Nat) : Nat :=
  popCount 18 x.lost + (x.bad.filter (fun b => b.1 = r && !x.lost.testBit b.2)).length

/-- The worst loss of a sheaf's rows. -/
def Sheaf.worst (x : Sheaf) : Nat := (upto 16).foldl (fun m r => max m (x.rowLost r)) 0

/-- The sheaves of a commons that stand, as (key, sheaf). -/
def State.cmnSheaves (s : State) (c : Nat) : List (Nat × Sheaf) :=
  s.hold.sheaves.filter (fun p => p.1 / 2 ^ 33 = c && p.2.state ≠ 0 && p.2.state ≠ 4)

/-- The rank of a commons state in the order HEALTHY, DEGRADED, RESYNC, CRITICAL (R329). -/
def cmnRank (st : Nat) : Nat := match st with | 0 => 0 | 1 => 1 | 3 => 2 | _ => 3

/-- Scarred slots of a sheaf that are still held; one freed leaves the scar table (R348). -/
def State.scarsHeld (s : State) (k : Nat) (x : Sheaf) : List Nat :=
  x.scars.filter (fun t => s.stew.extents.any (fun p =>
    p.1 / 2 ^ 10 = k && decide (p.1 % 2 ^ 10 ≤ t) && decide (t < p.1 % 2 ^ 10 + p.2.n) && s.extentHeld p.2))

/-- The identifier of a holding: its level, 0 die, 1 sled, 2 commons, 3 pool, and its number (R327). -/
def holdingId (level n : Nat) : Nat := level * 2 ^ 30 + n

/-- A sled as a holding (R329): 0 IN_SERVICE, 1 FAILED, 2 PARTIAL. -/
def State.sledHolding (s : State) (k : Nat) : Nat :=
  let ds := s.hold.formed.flatMap (fun c => s.diesOn c k)
  if s.sledIn k = false ∨ (ds ≠ [] ∧ ds.all (fun d => (s.dieOf d).state ≠ 0) = true) then 1
  else if ds.all (fun d => (s.dieOf d).state = 0) then 0 else 2

/-- The dies that make up a holding (R327). -/
def State.holdingDies (s : State) (level n : Nat) : List Nat :=
  match level with
  | 0 => [n]
  | 1 => s.hold.formed.flatMap (fun c => s.diesOn c n)
  | 2 => s.cmnDies n
  | _ => s.hold.formed.flatMap s.cmnDies

/-- What a holding answers to STATE (R328, R329). -/
def State.holdingState (s : State) (level n : Nat) : Nat :=
  match level with
  | 0 => (s.dieOf n).state
  | 1 => s.sledHolding n
  | 2 => s.getF (F.HOLD_CMN_STATE.at n)
  | _ => s.getF F.HOLD_STATE_STATE

/-- Recompute the state and the counts of a commons (R329, R345, R353). -/
def State.cmnRecount (s : State) (c : Nat) : State :=
  let sh := s.cmnSheaves c
  let w := sh.foldl (fun m p => max m p.2.worst) 0
  let st := if 2 ≤ w then 2 else if s.hold.resync.contains c then 3 else if w = 1 then 1 else 0
  let two := sh.foldl (fun n p => if 2 ≤ p.2.worst then n + popCount 18 p.2.lost else n) 0
  let one := sh.foldl (fun n p => if p.2.worst = 1 then n + popCount 18 p.2.lost else n) 0
  let due (f : Fld) (left hours : Nat) : Nat :=
    if left = 0 then 0 else if s.getF f ≠ 0 then s.getF f else s.opsec + 3600 * hours
  let s1 := ((s.setF (F.HOLD_CMN_STATE.at c) st).setF (F.HOLD_CMN_REBUILD_TWOPAGE.at c) two).setF (F.HOLD_CMN_REBUILD_OTHER.at c) one
  let s2 := (s1.setF (F.HOLD_CMN_DUE_DOUBLE.at c) (due (F.HOLD_CMN_DUE_DOUBLE.at c) two (s.getF F.HOLD_CFG_DOUBLE_BOUND_H))).setF
    (F.HOLD_CMN_DUE_SINGLE.at c) (due (F.HOLD_CMN_DUE_SINGLE.at c) one (s.getF F.HOLD_CFG_REBUILD_BOUND_H))
  let failed := ((s.cmnDies c).filter (fun d => (s.dieOf d).state = 1)).length
  let serving := (s.poolSleds.filter (fun k => s.sledHolding k ≠ 1)).length
  let scarred := sh.any (fun p => !(s.scarsHeld p.1 p.2).isEmpty)
  ((((s2.setF (F.HOLD_CMN_FAILED.at c) failed).setF (F.HOLD_CMN_SLEDS.at c) serving).setF (F.HOLD_CMN_SCARRED.at c) (b2n scarred)).setF
    (F.HOLD_CMN_UNCERTAIN.at c) (b2n (sh.any (fun p => p.2.uncertain)))).setF (F.HOLD_CMN_LEDGER_OPEN.at c) (s.openSheaves c)

/-- The pool's state: the worst of its owned commons with the union of their flags (R329, R353). -/
def State.poolRecount (s : State) : State :=
  let l := s.hold.formed.filter (fun c => s.owns c)
  let worst := l.foldl (fun m c => if cmnRank m < cmnRank (s.getF (F.HOLD_CMN_STATE.at c)) then s.getF (F.HOLD_CMN_STATE.at c) else m) 0
  let any (f : Fld) : Nat := b2n (l.any (fun c => s.getF (f.at c) = 1))
  let slots := s.hold.sheaves.foldl (fun n p => n + (s.scarsHeld p.1 p.2).length) 0
  (((((s.setF F.HOLD_STATE_COMMONS l.length).setF F.HOLD_STATE_STATE worst).setF F.HOLD_STATE_STALLED (any F.HOLD_CMN_STALLED)).setF
    F.HOLD_STATE_SCARRED (any F.HOLD_CMN_SCARRED)).setF F.HOLD_SCAR_COUNT_SLOTS slots).setF F.HOLD_SCAR_COUNT_ENTRIES s.hold.scars.length

/-- Whether a commons has rebuild work left. -/
def State.rebuilds (s : State) (c : Nat) : Bool :=
  decide (0 < s.getF (F.HOLD_CMN_REBUILD_OTHER.at c) + s.getF (F.HOLD_CMN_REBUILD_TWOPAGE.at c))

/-- Recompute a commons and the pool; the start or the end of a rebuild asks for a capacity block (R163). -/
def State.holdRecount (s : State) (c : Nat) : State :=
  let s1 := (s.cmnRecount c).poolRecount
  s1.capTriggerIf (s.rebuilds c != s1.rebuilds c)

/-! ### The Granary and retirement (R320 to R322) -/

/-- The die a spare block is drawn from for a die: itself, or another of its sled in the commons (R320). -/
def State.granaryDie (s : State) (die : Nat) : Option Nat :=
  if (s.dieOf die).granary ≠ 0 then some die
  else match s.dieCommons die with
    | none => none
    | some c => (s.diesOn c (die / 2048)).find? (fun d => (s.dieOf d).granary ≠ 0 && (s.dieOf d).state = 0)

/-- Whether a commons's Granary stands at SEAL_PM or below (R322). -/
def State.granaryOut (s : State) (c : Nat) : Bool :=
  decide (s.getF (F.STEWARD_CMN_GRANARY_REMAINING.at c) * 1000 ≤
    s.getF (F.STEWARD_CMN_GRANARY_FORMED.at c) * s.getF F.STEWARD_GRANARY_CFG_SEAL_PM)

/-- The pool is read-only: a head in PAIRED or SOLO enters SEALED and ends its takes (R32, R34, R322, R323). A head that comes to
PAIRED or SOLO with its spares out, as after HOLDUP, does so there. -/
def State.sealEnter (s : State) : State :=
  if s.getF F.STEWARD_MEDIA_STATE_SEALING = 1 ∧ (s.mode = .paired ∨ s.mode = .solo) then
    (((s.setMode .sealedMode 0x0E).reqDone 0x6020).cutAll 32)
  else s

/-- WARN once, and the seal, when a commons's Granary falls (R322, R323). -/
def State.granaryCheck (s : State) (c : Nat) : State :=
  let formed := s.getF (F.STEWARD_CMN_GRANARY_FORMED.at c)
  let left := s.getF (F.STEWARD_CMN_GRANARY_REMAINING.at c)
  let s1 :=
    if left * 1000 ≤ formed * s.getF F.STEWARD_GRANARY_CFG_WARN_PM ∧ s.media.warned.contains c = false then
      { s.setF F.STEWARD_MEDIA_STATE_WARN 1 with media := { s.media with warned := c :: s.media.warned } }.alarm blkSTEWARD 0 0 c []
    else s
  if s1.granaryOut c = true ∧ s1.getF F.STEWARD_MEDIA_STATE_SEALING = 0 then
    let s2 := s1.setF F.STEWARD_MEDIA_STATE_SEALING 1
    if s2.mode = .paired ∨ s2.mode = .solo then s2.sealEnter else s2.cutAll 32
  else s1

/-- Draw a Granary block for a die (R320): it becomes usable on the die it comes from, and the Council books
the call. -/
def State.granaryDraw (s : State) (die : Nat) : State :=
  match s.granaryDie die with
  | none => s
  | some d =>
    let s1 := s.putDie d { s.dieOf d with granary := (s.dieOf d).granary - 1 }
    match s.dieCommons die with
    | none => s1
    | some c =>
      ((s1.setF (F.STEWARD_CMN_GRANARY_REMAINING.at c) (s1.getF (F.STEWARD_CMN_GRANARY_REMAINING.at c) - 1)).spareCall 1
        (die / 2048)).granaryCheck c

/-- Retire a block (R321): never programmed again, counted, logged, replaced from the Granary. -/
def State.retireBlock (s : State) (die b cause : Nat) : State :=
  let d := s.dieOf die
  let blk := d.blocks.get b
  if blk.mode = 3 then s
  else
    let s1 := s.putDie die { d with
      blocks := d.blocks.set b { blk with mode := 3 }
      retiredAt := s.opsec :: d.retiredAt.filter (fun t => decide (s.opsec < t + 2592000))
      slcOpen := if d.slcOpen = b + 1 then 0 else d.slcOpen
      qlcOpen := if d.qlcOpen = b + 1 then 0 else d.qlcOpen }
    let s2 := match s.dieCommons die with
      | none => s1
      | some c => (s1.addF (F.STEWARD_CMN_GROWN_BAD_FORMATION.at c) 1).addF (F.STEWARD_CMN_GROWN_BAD_START.at c) 1
    (s2.log blkSTEWARD 0 0 (die * 2 ^ 16 + b) (leBytes 8 (locOf (die / 2048) (die % 2048) b 0) ++ leBytes 8 cause)).granaryDraw die

/-! ### Losing a member (R332, R343) -/

/-- The replacement of a failed record member: the lowest die of the commons on the lowest sled that is IN_SERVICE and holds neither
(R332). -/
def State.recordSpare (s : State) (c : Nat) : Option Nat :=
  let held := (s.recordMembers c).map (fun m => m / 2048)
  ((s.poolSleds.filter (fun k => s.sledHolding k = 0 && !held.contains k)).findSome? (fun k => (s.diesOn c k).head?))

/-- The owner replaces a failed record member: the ledger to the replacement, the holding table, a checkpoint (R22, R332). -/
def State.recordReplace (s : State) (c die : Nat) : State :=
  match (if s.owns c then s.recordSpare c else none) with
  | none => s
  | some d =>
    let f := if s.getF (F.HOLD_CMN_RECORD_FIRST.at c) = die then F.HOLD_CMN_RECORD_FIRST else F.HOLD_CMN_RECORD_SECOND
    let s1 := (s.ledgerTo c (s.getF (F.HOLD_CMN_LEDGER_LEDGER_SEQ.at c)) (locOf (d / 2048) (d % 2048) 0 0)).setF (f.at c) d
    ((s1.setF (F.HOLD_CMN_LEDGER_COPIES.at c) (min 2 (s1.getF (F.HOLD_CMN_LEDGER_COPIES.at c) + 1))).tableWrite).ckptStart c

/-- A record member of an owned commons has failed: one copy of the ledger fewer, a LOG record, or an ALARM when none is left, and
the replacement (R332, R341). -/
def State.recordLose (s : State) (c die : Nat) : State :=
  if s.owns c = false then s
  else
    let n := s.getF (F.HOLD_CMN_LEDGER_COPIES.at c) - 1
    let s1 := s.setF (F.HOLD_CMN_LEDGER_COPIES.at c) n
    (if n = 0 then s1.alarm blkHOLD 0 0 c (leBytes 4 (holdingId 0 die)) else s1.log blkHOLD 0 0 c (leBytes 4 (holdingId 0 die))).recordReplace c die

/-- Record members that failed while no sled could take their place are replaced once one can (R332). -/
def State.recordFix (s : State) (c : Nat) : State :=
  ((s.recordMembers c).filter (fun d => (s.dieOf d).state ≠ 0)).foldl (fun s d => s.recordReplace c d) s

/-- A die is FAILED (R343): its chunks are lost and the holding table records it. -/
def State.dieLose (s : State) (die cause : Nat) : State :=
  if (s.dieOf die).state ≠ 0 then s
  else
    let hit (x : Sheaf) : Nat :=
      (upto 18).foldl (fun m i => if locDieKey (x.locs.getD i (2 ^ 64 - 1)) = die ∧ x.lost.testBit i = false then m + 2 ^ i else m) 0
    let s1 := s.capTrigger.putDie die { s.dieOf die with state := 1, cause := cause, slcOpen := 0, qlcOpen := 0 }
    let s2 := { s1 with hold := { s1.hold with sheaves := s1.hold.sheaves.map (fun p => (p.1, { p.2 with lost := p.2.lost + hit p.2 })) } }
    match s.dieCommons die with
    | none => s2
    | some c =>
      let s3 := if (s.recordMembers c).contains die then s2.recordLose c die else s2
      ((s3.tableWrite).regEvent blkHOLD 0x112 4 (leBytes 8 (c * 2 ^ 52 + die))).holdRecount c

/-- The owner's ALARM for a commons that has lost members (R343, of class 0x3 as the example of R477 shows). -/
def State.memberAlarm (s : State) (c : Nat) : State := s.alarm blkHOLD 3 0 c []

/-- One die is FAILED (R343), and an ALARM names its commons. -/
def State.dieFail (s : State) (die cause : Nat) : State :=
  if (s.dieOf die).state ≠ 0 then s
  else match s.dieCommons die with
    | none => s.dieLose die cause
    | some c => (s.dieLose die cause).memberAlarm c

/-- A sled's port has failed: every die of a commons on it fails, and each such commons raises one ALARM (R343). -/
def State.sledFail (s : State) (sled : Nat) : State :=
  if s.poolSleds.contains sled then
    s.hold.formed.foldl (fun s c =>
      let ds := (s.diesOn c sled).filter (fun d => (s.dieOf d).state = 0)
      if ds.isEmpty then s else (ds.foldl (fun s d => s.dieLose d 1) s).memberAlarm c) s
  else s

/-- Eight blocks of a die retired within one operating hour fail it (R343). -/
def State.retireCheck (s : State) (die : Nat) : State :=
  if 8 ≤ ((s.dieOf die).retiredAt.filter (fun t => decide (s.opsec < t + 3600))).length then s.dieFail die 2 else s

/-- Retire a block and judge its die. -/
def State.retire (s : State) (die b cause : Nat) : State := (s.retireBlock die b cause).retireCheck die

/-! ### QLC frontiers and relocation (R289, R311, R344) -/

/-- Chunks free in QLC mode on a die. -/
def State.qlcFree (s : State) (die : Nat) : Nat :=
  let d := s.dieOf die
  if d.state ≠ 0 then 0
  else (s.dieBlocks die - d.blocks.length) * 192 + (if d.qlcOpen = 0 then 0 else 192 - (d.blocks.get (d.qlcOpen - 1)).pages / 16)

/-- Take the next chunk of a die's QLC frontier. -/
def State.qlcAlloc (s : State) (c die chunk : Nat) : Option (Nat × State) :=
  let go (s : State) (b : Nat) (x : Blk) : Nat × State :=
    let d := s.dieOf die
    let full := x.pages + 16 = 3072
    (locOf (die / 2048) (die % 2048) b x.pages,
      s.putDie die { d with blocks := d.blocks.set b { x with pages := x.pages + 16, chunks := x.chunks ++ [chunk] }
                            qlcOpen := if full then 0 else b + 1 })
  let d := s.dieOf die
  if d.qlcOpen ≠ 0 then some (go s (d.qlcOpen - 1) (d.blocks.get (d.qlcOpen - 1)))
  else match s.erasedBlock die with
    | none => none
    | some b =>
      let s1 := s.dbCommit c [(0x09, leBytes 8 (locOf (die / 2048) (die % 2048) b 0) ++ leBytes 1 1 ++ leBytes 7 0)]
      some (go s1 b { (default : Blk) with mode := 2 })

/-- Commit a RELOCATE: the chunk is current at its new location (R283, R308). -/
def State.relocate (s : State) (k pos dst : Nat) : State :=
  let x := s.sheafOf k
  let src := x.locs.getD pos 0
  let s1 := s.dbCommit (k / 2 ^ 33) [(0x08, leBytes 8 (k % 2 ^ 33) ++ leBytes 1 pos ++ leBytes 7 0 ++ leBytes 8 src ++ leBytes 8 dst)]
  s1.putSheaf k { x with locs := x.locs.set pos dst, lost := setBit x.lost pos false
                         bad := x.bad.filter (fun b => b.2 ≠ pos), slc := setBit x.slc pos false }

/-- The die a chunk of a sled may move to: its own, or another die of the commons on the sled, with QLC room. -/
def State.qlcDie (s : State) (c die : Nat) : Option Nat :=
  if s.qlcFree die ≠ 0 then some die
  else (s.diesOn c (die / 2048)).find? (fun d => decide (s.qlcFree d ≠ 0))

/-- Copy a live chunk to the gleaning frontier of its sled and commit the move (R289, R311). -/
def State.moveChunk (s : State) (k pos : Nat) : State :=
  let c := k / 2 ^ 33
  match s.qlcDie c (locDieKey ((s.sheafOf k).locs.getD pos 0)) with
  | none => s
  | some d =>
    match s.qlcAlloc c d (k * 32 + pos) with
    | none => s
    | some (dst, s1) =>
      (((s1.progAt k pos dst).relocate k pos dst).addN R.STEWARD_GLEANED 262144)

/-- The block of a die is to be erased, once, when the records so far are in Daybook pages on flash (R289). -/
def State.eraseLater (s : State) (c die b : Nat) : State :=
  { s with media := { s.media with
    erases := s.media.erases.filter (fun x => !(x.2.2.1 = die && x.2.2.2 = b)) ++ [(c, s.getF (F.STEWARD_DB_LSN_ALL.at c), die, b)] } }

/-- Forget a block's contents: it is erased. -/
def State.blockErased (s : State) (die b : Nat) : State :=
  let d := s.dieOf die
  let n := d.erases.get b + 1
  let s1 := s.putDie die { d with blocks := d.blocks.set b default, erases := d.erases.set b n
                                  slcOpen := if d.slcOpen = b + 1 then 0 else d.slcOpen
                                  qlcOpen := if d.qlcOpen = b + 1 then 0 else d.qlcOpen }
  let cyc := s.getF (F.SLED_GEOM_CYCLES.at (die / 2048))
  if cyc ≠ 0 ∧ cyc ≤ n then s1.retire die b 4 else s1

/-! ### Sheaves as they program (R337, R338) -/

/-- A chunk of an open sheaf has programmed; the sixteenth data chunk makes parity due, the eighteenth chunk
commits the SHEAF record and closes the sheaf. -/
def State.chunkDone (s : State) (k pos : Nat) : State :=
  let x := s.sheafOf k
  if (x.state ≠ 1 ∧ x.state ≠ 2) ∨ x.done.testBit pos = true ∨ 18 ≤ pos then s
  else
    let done := setBit x.done pos true
    if done = 2 ^ 18 - 1 then
      let c := k / 2 ^ 33
      let s1 := s.dbCommit c [(0x07, leBytes 8 (k % 2 ^ 33) ++ x.locs.flatMap (leBytes 8))]
      let s2 := s1.putSheaf k { x with done := done, state := 3, closeLsn := s1.getF (F.STEWARD_DB_LSN_ALL.at c) }
      (s2.ledgerNote k).holdRecount c
    else (s.putSheaf k { x with done := done, state := if done % 2 ^ 16 = 2 ^ 16 - 1 then 2 else x.state }).ledgerNote k

/-- Give the chunks of open sheaves that a failed block still had to take a new SLC chunk on their sled
(R314, R338). -/
def State.retarget (s : State) (die b : Nat) : State :=
  let blk := (s.dieOf die).blocks.get b
  let todo := (upto blk.chunks.length).filter (fun i =>
    let id := blk.chunks.getD i 0
    let x := s.sheafOf (id / 32)
    (x.state = 1 || x.state = 2) && !x.done.testBit (id % 32) &&
      x.locs.getD (id % 32) 0 = locOf (die / 2048) (die % 2048) b (16 * i))
  todo.foldl (fun s i =>
    let id := blk.chunks.getD i 0
    let k := id / 32
    let c := k / 2 ^ 33
    let best := bestDie s (s.diesOn c (die / 2048))
    if best.2 = 0 then s
    else
      let (loc, s1) := s.chunkAlloc c best.1 id
      let x := s1.sheafOf k
      ((s1.putSheaf k { x with locs := x.locs.set (id % 32) loc }).ledgerNote k).progChunk k (id % 32)) s

/-! ### Read levels (R315) -/

/-- The group of 64 blocks a location lies in. -/
def levelGroup (die b : Nat) : Nat := die * 1024 + b / 64

/-- Calibrate a group: LEVELS with STORE to a sample page, into the next level set, to which the group moves. -/
def State.calibrate (s : State) (die b : Nat) : State :=
  let g := levelGroup die b
  let set := (s.media.levels.get g + 1) % 16
  { s.send (.sled (die / 2048) 6 [die % 2048, b / 64 * 64, set]) with
    media := { s.media with levels := s.media.levels.set g set, calAt := s.media.calAt.set g s.opsec } }

/-! ### Scars (R348) -/

/-- Every address of a map whose entry names a scarred slot, as (address, leaves). -/
def scarredIn (s : State) (m : AMap (List (BitVec 128))) : List (Nat × Nat) :=
  m.flatMap (fun p =>
    let vol := p.1 / 2 ^ 48
    let leaf := p.1 % 2 ^ 48 * 16
    match p.2 with
    | [e] => if s.scarred e then [(vol * 2 ^ 52 + leaf, 16)] else []
    | _ :: ls => ((upto ls.length).filter (fun i => s.scarred (ls.getD i 0))).map (fun i => (vol * 2 ^ 52 + leaf + i, 1))
    | [] => [])

/-- Walk the maps of the volumes and of their retained snapshots and report every address whose entry newly
names a scarred slot: an entry of the scar ring for each, and one SCARRED record (R348, R468). -/
def State.scarWalk (s : State) (c : Nat) : State :=
  let all := scarredIn s s.stew.map ++ s.sieve.snaps.flatMap (fun p => if p.2.state = 1 then scarredIn s p.2.map else [])
  let fresh := all.filter (fun p => !s.hold.scars.any (fun x => x.addr = p.1))
  if fresh.isEmpty then s
  else
    let ring := fresh.map (fun p => ({ addr := p.1, leaves := p.2, reeve := s.now } : Scar))
    let item (p : Nat × Nat) : List Byte :=
      leBytes 2 (p.1 / 2 ^ 52) ++ leBytes 2 0 ++ leBytes 8 (p.1 % 2 ^ 52) ++ leBytes 4 p.2 ++ leBytes 8 s.now
    { s with hold := { s.hold with scars := (ring ++ s.hold.scars).take 4096 } }.regEvent blkHOLD 0x109 c (fresh.flatMap item)

/-- Rows that have lost more than two pages are scarred (R348): every slot in their lost data pages, and an
ALARM. -/
def State.scarRows (s : State) (k : Nat) : State :=
  let x := s.sheafOf k
  let rows := (upto 16).filter (fun r => decide (2 < x.rowLost r))
  if rows.isEmpty then s
  else
    let slots := rows.flatMap (fun r =>
      ((upto 16).filter (fun i => x.lost.testBit i || x.bad.contains (r, i))).flatMap (fun i =>
        (upto 4).map (fun j => i * 64 + r * 4 + j)))
    let new := slots.filter (fun t => !x.scars.contains t)
    if new.isEmpty then s
    else (((s.putSheaf k { x with scars := x.scars ++ new }).alarm blkHOLD 4 0x4056 (k % 2 ^ 32) []).scarWalk (k / 2 ^ 33)).holdRecount (k / 2 ^ 33)

/-- A block that holds condemned data and fails its ERASE counts and is named (R319). -/
def State.unerased (s : State) (die b : Nat) : State :=
  let blk := (s.dieOf die).blocks.get b
  if blk.chunks.any (fun id => (s.stew.condemned.get (id / 32)).1 ≠ 0) then
    (s.addF F.STEWARD_SECURE_UNERASED_VAL 1).alarm blkSTEWARD 0 0 (die * 2 ^ 16 + b) []
  else s

/-- A secure discard whose blocks are all erased, or retired because they could not be, ends: its slots are freed and SECURE_DONE is
written (R318, R319). -/
def State.secureDone (s : State) (w : SecureWork) : State :=
  let c := w.sheaf / 2 ^ 33
  let s1 := { s with stew := { s.stew with condemned := s.stew.condemned.set w.sheaf (0, 0) } }.slotsFree w.sheaf
  let s2 := w.vols.foldl (fun s v => s.setN (F.STEWARD_SECURE_SEQ_ALL.at v).addr s.now) s1
  s2.regEvent blkSTEWARD 0x10A c (leBytes 8 (w.sheaf % 2 ^ 33))

/-- A block is erased, or retired without: the secure discards that waited for it go on (R318). -/
def State.secureSettle (s : State) (die b : Nat) : State :=
  let l := s.media.secure.map (fun w => { w with blocks := w.blocks.filter (fun x => x ≠ (die, b)) })
  (l.filter (fun w => w.blocks.isEmpty)).foldl State.secureDone
    { s with media := { s.media with secure := l.filter (fun w => !w.blocks.isEmpty) } }

/-! ### The SLC buffer (R305 to R307) -/

/-- Raw bytes of a block in QLC mode (R293). -/
def blockBytes : Nat := 50331648

/-- What a holding answers to CAPACITY (R328): raw, live, free and spare bytes of its dies in service. -/
structure HoldCap where
  raw : Nat
  live : Nat
  free : Nat
  spare : Nat
  deriving DecidableEq, Repr, Inhabited

/-- Capacity of a holding (R328). -/
def State.holdingCap (s : State) (level n : Nat) : HoldCap :=
  ((s.holdingDies level n).filter (fun d => (s.dieOf d).state = 0)).foldl (fun x d =>
    let y := s.dieOf d
    { raw := x.raw + s.getF (F.SLED_GEOM_BLOCKS.at (d / 2048)) * blockBytes
      live := x.live + y.blocks.foldl (fun n b => n + (s.liveIn d b.1).length) 0 * 262144
      free := x.free + (s.dieBlocks d - y.blocks.length) * blockBytes
      spare := x.spare + y.granary * blockBytes }) ⟨0, 0, 0, 0⟩

/-- Raw bytes of the members of some commons (R305). -/
def State.rawOf (s : State) (cs : List Nat) : Nat := cs.foldl (fun n c => n + (s.holdingCap 2 c).raw) 0

/-- Granary bytes of some commons. -/
def State.granaryOf (s : State) (cs : List Nat) : Nat :=
  cs.foldl (fun n c => n + s.getF (F.STEWARD_CMN_GRANARY_FORMED.at c) * blockBytes) 0

/-- Bytes in live chunks, data and parity. -/
def State.liveBytes (s : State) : Nat :=
  s.hold.sheaves.foldl (fun n p => if s.sheafLive p.1 then n + 18 * 262144 else n) 0

/-- Capacity of the pool less the Granary. -/
def State.poolCap (s : State) : Nat := s.rawOf s.hold.formed - s.granaryOf s.hold.formed

/-- SLC_SIZE (R305): raw_owned · 0.02 · (1 − min(fill, 0.9)). -/
def slcSize (raw cap live : Nat) : Nat := if cap = 0 then 0 else raw * (10 * cap - min (10 * live) (9 * cap)) / (500 * cap)

/-- Unfolded SLC bytes: programmed chunks that still lie in SLC blocks. -/
def State.slcUsed (s : State) : Nat :=
  s.hold.sheaves.foldl (fun n p => n + popCount 18 (p.2.slc &&& p.2.done) * 262144) 0

/-- Blocks of a commons that data may use. -/
def State.dataBlocks (s : State) (c : Nat) : Nat :=
  (s.cmnDies c).foldl (fun n d => if (s.dieOf d).state = 0 then n + s.dieBlocks d else n) 0

/-- A commons is below its low mark (R313). -/
def State.belowLow (s : State) (c : Nat) : Bool :=
  decide (s.freeBlocks c * 1000 < s.dataBlocks c * s.getF F.STEWARD_MEDIA_CFG_FREE_LOW)

/-- Sheaves of a commons below THIN_PM that indexed grains keep (R312). -/
def State.thinKept (s : State) (c : Nat) : Nat :=
  ((s.cmnSheaves c).filter (fun p =>
    p.2.state = 3 && decide (s.heldSlots c (p.1 % 2 ^ 33) ≠ 0) &&
      decide (s.heldSlots c (p.1 % 2 ^ 33) * 1000 < 1024 * s.getF F.STEWARD_MEDIA_CFG_THIN_PM) &&
      s.stew.extents.any (fun x => x.1 / 2 ^ 10 = p.1 && x.2.sieve ≠ 0 && s.extentHeld x.2))).length

/-- Recompute SLC_SIZE and what follows from it; held sheaves go on when room returns (R305 to R307, R325). -/
def State.slcRecompute (s : State) : State :=
  let own := s.hold.formed.filter (fun c => s.owns c)
  let size := slcSize (s.rawOf own) s.poolCap s.liveBytes
  let used := s.slcUsed
  let rsv := s.viewSlcNeed + s.getF F.TOLL_POLICY_SLC_RSV * size / 1000
  let short := decide (size - used ≤ rsv)
  let s1 := ((s.setN R.STEWARD_SLC_SIZE size).setN R.STEWARD_SLC_USED used).setN R.STEWARD_SLC_TAKE_RSV rsv
  let s2 := ((s1.setF F.STEWARD_MEDIA_STATE_SLC_LIMITED (b2n short)).setF F.STEWARD_POOL_FILL_VAL
    (if s.poolCap = 0 then 0 else s.liveBytes * 10000 / s.poolCap)).setF F.STEWARD_MEDIA_STATE_CATCHUP (b2n (own.any s.belowLow))
  let s3 := own.foldl (fun s c =>
    s.setN (F.STEWARD_CMN_THIN_ALL.at c).addr (s.thinKept c)) s2
  let s4 := s3.setF F.STEWARD_MEDIA_STATE_SECURE_PENDING (b2n (!s.stew.condemned.isEmpty))
  if short then s4
  else s4.media.heldProg.foldl (fun s p => s.progChunk p.1 p.2) { s4 with media := { s4.media with heldProg := [] } }

/-! ### Bridges and ports (R295, R303) -/

/-- Lanes of a sled port in the arrangement set at start-up (R17, R44). -/
def State.portWidth (s : State) : Nat := if s.media.arr = 129 then 4 else if s.media.arr = 130 then 1 else 2

/-- The sled-link lanes of port n (R17). -/
def State.portLanes (s : State) (n : Nat) : List Nat := (upto s.portWidth).map (fun i => s.portWidth * n + i)

/-- Sled ports that records and registers can name: 24, or 12 of four lanes; of 48 ports the upper half has no number in R294 and
R326 (R17, assumption log 29). -/
def State.sledPorts (s : State) : Nat := if s.media.arr = 129 then 12 else 24

/-- The epoch a bridge holds for a commons as this head knows it, and whether this head's port claimed it. -/
def State.bridgeOf (s : State) (sled c : Nat) : Nat × Bool :=
  let v := s.media.bridge.get (sled * 4096 + c)
  ((v - 1) / 2, v ≠ 0 && decide ((v - 1) % 2 = 1))

/-- The greatest epoch this head knows of for a commons: its own, or what a bridge holds (R23, R303). -/
def State.epochKnown (s : State) (c : Nat) : Nat :=
  s.poolSleds.foldl (fun n k => max n (s.bridgeOf k c).1) (s.hold.epoch.get c)

/-- Note what a bridge holds. -/
def State.bridgeSet (s : State) (sled c epoch : Nat) (ours : Bool) : State :=
  { s with media := { s.media with bridge := s.media.bridge.set (sled * 4096 + c) (epoch * 2 + b2n ours + 1) } }

/-- This head's OWN is accepted at a bridge (R23, R303). -/
def State.bridgeOwn (s : State) (sled c epoch : Nat) : State := s.bridgeSet sled c epoch true

/-- This head no longer owns a commons whose bridges hold another epoch: it knows that epoch and writes nothing there (R22, R25). -/
def State.disown (s : State) (c theirs : Nat) : State :=
  ({ s with hold := { s.hold with epoch := s.hold.epoch.set c (max theirs (s.hold.epoch.get c)) } }.setF (F.HOLD_CMN_OWNED.at c) 0).slcRecompute

/-- An OWN is refused: the losing head gives up the claim, knows the stored epoch, and writes a LOG record with both epochs (R23
to R25, assumption log 47). -/
def State.ownRefused (s : State) (c mine theirs : Nat) : State :=
  (s.disown c theirs).log blkSLED 0 0 c (leBytes 4 mine ++ leBytes 4 theirs)

/-- A bridge refuses a mutating command of a former owner, which stops writing to that commons and writes an ALARM record (R23 to
R25, assumption log 47). -/
def State.ownLost (s : State) (c theirs : Nat) : State := (s.disown c theirs).alarm blkSLED 7 0x7050 theirs []

/-- A port's state: the summary masks follow (R326). -/
def State.portState (s : State) (k st : Nat) : State :=
  let serves (n : Nat) : Bool := n = 3 || n = 4
  ((((s.capTriggerIf (serves st != serves (s.getF (F.SLED_STATE_STATE.at k)))).setF (F.SLED_STATE_STATE.at k) st).setF F.SLED_READY_READY (setBit (s.getF F.SLED_READY_READY) k (st = 3))).setF
    F.SLED_READY_DEGRADED (setBit (s.getF F.SLED_READY_DEGRADED) k (st = 4))).setF F.SLED_FAILED_FAILED
    (setBit (s.getF F.SLED_FAILED_FAILED) k (st = 5))

end Sys2Proof.Machine
end

