-- ==== Sys2Proof/Machine/Fold.lean ====
section
/-! DEFINITION. The Steward's media half (R305 to R319): the SLC buffer, folding, gleaning, thinning, read
levels and secure discard. -/
namespace Sys2Proof.Machine

/-! ### The SLC buffer (R305 to R307) -/

/-- Every second, and on a change of sleds or owners (R305). -/
def execSlcRecompute (s : State) : Res := .next s.slcRecompute

/-! ### Folding (R308 to R310, R314) -/

/-- Insert a full SLC block (die, block, order), oldest first. -/
def insertOrder (x : Nat × Nat × Nat) : List (Nat × Nat × Nat) → List (Nat × Nat × Nat)
  | [] => [x]
  | y :: r => if x.2.2 ≤ y.2.2 then x :: y :: r else y :: insertOrder x r

/-- Full SLC blocks that no fold or erase holds, oldest first. -/
def State.fullSlc (s : State) : List (Nat × Nat × Nat) :=
  ((s.media.dies.flatMap (fun p => (p.2.blocks.filter (fun b =>
      b.2.mode = 1 && b.2.pages = 768 && p.2.state = 0 &&
        !s.media.folds.any (fun f => f.die = p.1 && f.src.contains b.1) &&
        !s.media.erases.any (fun x => x.2.2.1 = p.1 && x.2.2.2 = b.1))).map (fun b => (p.1, b.1, b.2.order)))).foldr insertOrder [])

/-- The die of the oldest full block that has four of them, an erased block, no fold under way, a serving port
and an owner here. -/
def State.foldDie (s : State) : Option Nat :=
  let l := s.fullSlc
  (l.map (fun x => x.1)).find? (fun d =>
    decide (4 ≤ (l.filter (fun x => x.1 = d)).length) && (s.erasedBlock d).isSome && !s.media.folds.any (fun f => f.die = d) &&
      s.sledIn (d / 2048) && (match s.dieCommons d with | some c => s.owns c | none => false))

/-- The AUX word of a FOLD: four source blocks, the first lowest (R299). -/
def foldAux (src : List Nat) : Nat := src.foldr (fun b n => b + n * 65536) 0

/-- With unfolded data present, the four oldest full SLC blocks of a die fold to one erased block of it (R308). -/
def execFoldStart (s : State) : Res :=
  match s.foldDie with
  | none => .next s
  | some d =>
    match s.erasedBlock d, s.dieCommons d with
    | some b, some c =>
      let src := ((s.fullSlc.filter (fun x => x.1 = d)).take 4).map (fun x => x.2.1)
      let loc := locOf (d / 2048) (d % 2048) b 0
      let s1 := s.dbCommit c [(0x09, leBytes 8 loc ++ leBytes 1 1 ++ leBytes 7 0)]
      let s2 := s1.putDie d { s1.dieOf d with blocks := (s1.dieOf d).blocks.set b { (default : Blk) with mode := 2, pages := 3072 } }
      .next ({ s2 with media := { s2.media with folds := s2.media.folds ++ [(Fold.mk d b src)] } }.send
        (.sled (d / 2048) 4 [d % 2048, b, foldAux src]))
    | _, _ => .next s

/-- The chunks of the sources in the order a fold lays them out. -/
def State.foldChunks (s : State) (f : Fold) : List (Nat × Nat) :=
  f.src.flatMap (fun b =>
    let blk := (s.dieOf f.die).blocks.get b
    (upto blk.chunks.length).map (fun i => (blk.chunks.getD i 0, locOf (f.die / 2048) (f.die % 2048) b (16 * i))))

/-- Relocate each chunk of a completed fold, in the order of the destination's pages (R308). -/
def State.foldRelocate (die dest : Nat) : List (Nat × Nat) → Nat → State → State
  | [], _, s => s
  | (id, src) :: r, i, s =>
    let k := id / 32
    let dst := locOf (die / 2048) (die % 2048) dest (16 * i)
    let s1 :=
      if (s.sheafOf k).locs.getD (id % 32) 0 = src then s.relocate k (id % 32) dst
      else s.dbCommit (k / 2 ^ 33) [(0x08, leBytes 8 (k % 2 ^ 33) ++ leBytes 1 (id % 32) ++ leBytes 7 0 ++ leBytes 8 src ++ leBytes 8 dst)]
    State.foldRelocate die dest r (i + 1) s1

/-- Move the live chunks of a block elsewhere on its sled and have it erased (R311, R314). -/
def State.emptyBlock (s : State) (c die b : Nat) : State :=
  ((s.liveIn die b).foldl (fun s p => s.moveChunk p.1 p.2) s).eraseLater c die b

/-- A FOLD of a die ends with the bridge's status (R308, R314, R301). failing is the index of the source block
that could not be corrected. A port that does not serve folds again later. -/
def State.foldEnd (s : State) (die status failing : Nat) : State :=
  match s.media.folds.find? (fun f => f.die = die), s.dieCommons die with
  | some f, some c =>
    let s0 := { s with media := { s.media with folds := s.media.folds.filter (fun x => x.die ≠ die) } }.countEv 0x0A 1 16
    let drop (s : State) : State := s.putDie die { s.dieOf die with blocks := (s.dieOf die).blocks.upd f.dest (fun b => { b with chunks := [] }) }
    if status = 0 then
      let l := s.foldChunks f
      let s1 := s0.putDie die { s0.dieOf die with blocks := (s0.dieOf die).blocks.upd f.dest (fun b => { b with chunks := l.map Prod.fst }) }
      let s2 := State.foldRelocate die f.dest l 0 s1
      let s3 := f.src.foldl (fun s b => s.eraseLater c die b) s2
      ({ s3 with media := { s3.media with foldBytes := s3.media.foldBytes + blockBytes } }.addN R.STEWARD_FOLDS 1)
    else if status = 0x7050 then ((drop s0).ownLost c (s0.epochKnown c))
    else if status = 0x30F3 then
      let s1 := (drop s0).eraseLater c die f.dest
      let s2 := f.src.foldl (fun s b => s.emptyBlock c die b) s1
      (s2.retire die (f.src.getD (failing % 4) 0) 3)
    else
      let s1 := ((drop s0).setF (F.SLED_ERRORS_PROGRAM.at (die / 2048)) (satInc (s.getF (F.SLED_ERRORS_PROGRAM.at (die / 2048))) (2 ^ 32 - 1))).retire
        die f.dest (if status = 0x80F1 then 5 else 1)
      match (if s1.sledIn (die / 2048) then s1.erasedBlock die else none) with
      | none => s1
      | some b =>
        let s2 := s1.putDie die { s1.dieOf die with blocks := (s1.dieOf die).blocks.set b { (default : Blk) with mode := 2, pages := 3072 } }
        ({ s2 with media := { s2.media with folds := s2.media.folds ++ [(Fold.mk die b f.src)] } }.send
          (.sled (die / 2048) 4 [die % 2048, b, foldAux f.src]))
  | _, _ => s

/-- A FOLD of a die ends with the bridge's status (R308, R314). -/
def execFoldComplete (die status failing : Nat) (s : State) : Res := .next (s.foldEnd die status failing)

/-- A 10 s window ends (R310): bytes per second programmed by folds, and copied by gleaning and thinning (R325). -/
def execFoldRateWindow (s : State) : Res :=
  let g := s.getN R.STEWARD_GLEANED
  .next { (s.setN R.STEWARD_FOLD_RATE (s.media.foldBytes / 10)).setN R.STEWARD_GLEAN_RATE ((g - s.media.gleanMark) / 10) with
    media := { s.media with foldBytes := 0, gleanMark := g } }

/-! ### Gleaning (R311, R314) -/

/-- Order of victims: fewest live chunks, then the lowest erase count. -/
def victimLess (a b : Nat × Nat × Nat × Nat) : Bool := decide (a.2.2.1 < b.2.2.1) || (a.2.2.1 = b.2.2.1 && decide (a.2.2.2 ≤ b.2.2.2))

/-- The better of two candidates. -/
def victimMin : List (Nat × Nat × Nat × Nat) → Option (Nat × Nat × Nat × Nat)
  | [] => none
  | x :: r =>
    match victimMin r with
    | none => some x
    | some y => some (if victimLess x y then x else y)

/-- The next QLC block to glean: suspect blocks first, then by R311; a block without a dead chunk gains
nothing. -/
def State.victim (s : State) (c : Nat) : Option (Nat × Nat × Nat × Nat) :=
  let all := (s.cmnDies c).flatMap (fun d =>
    ((s.dieOf d).blocks.filter (fun b =>
      (b.2.mode = 2 || (b.2.suspect && b.2.mode = 1)) && (b.2.suspect || (s.dieOf d).qlcOpen ≠ b.1 + 1) && (s.dieOf d).state = 0 &&
        !s.media.folds.any (fun f => f.die = d && (f.dest = b.1 || f.src.contains b.1)) &&
        !s.media.erases.any (fun x => x.2.2.1 = d && x.2.2.2 = b.1))).map (fun b =>
          (d, b.1, if b.2.suspect then 0 else (s.liveIn d b.1).length + 1, (s.dieOf d).erases.get b.1)))
  victimMin (all.filter (fun x => decide (x.2.2.1 < 193)))

/-- Gleaning empties one block (R311, R314): its live chunks are copied to the frontier and relocated, then it is
erased; an uncorrectable source is rebuilt on the way and marks the block suspect, a destination that fails to
program, or times out (R304), is retired and the copy made again, an ownership loss abandons the move, and a port that is not ready
leaves it for later. A suspect block is retired
once empty (R316). status is what the bridges answer. -/
def execGleanBlock (commons status : Nat) (s : State) : Res :=
  match s.victim commons with
  | none => .next s
  | some (die, b, _, _) =>
    if s.owns commons = false then .next s
    else if status = 0x7050 then .next (s.ownLost commons (s.epochKnown commons))
    else if status = 0x80F0 then .next s
    else match s.tollWork 3 (some false) ((s.liveIn die b).length * 262144) ((s.liveIn die b).length * 262144) with
    | none => .next s
    | some s =>
      let blk := (s.dieOf die).blocks.get b
      let s1 :=
        if status = 0x30F0 ∨ status = 0x80F1 then
          match s.qlcDie commons die with
          | some d => if (s.dieOf d).qlcOpen = 0 then s else
              (s.setF (F.SLED_ERRORS_PROGRAM.at (d / 2048)) (satInc (s.getF (F.SLED_ERRORS_PROGRAM.at (d / 2048))) (2 ^ 32 - 1))).retire d
                ((s.dieOf d).qlcOpen - 1) (if status = 0x80F1 then 5 else 1)
          | none => s
        else if status = 0x30F2 then
          (s.putDie die { s.dieOf die with blocks := (s.dieOf die).blocks.set b { blk with suspect := true } }).log blkSTEWARD 0 0 (die * 2 ^ 16 + b) []
        else s
      -- gleaning has reached the sheaves of the block that hold nothing any more: their slots are freed (R241)
      let dead := ((blk.chunks.map (fun id => id / 32)).eraseDups).filter (fun k => (s1.sheafOf k).state = 3 && !s1.sheafLive k)
      let s1 := dead.foldl (fun s k => (s.slotsFree k).putSheaf k { s.sheafOf k with state := 4 }) s1
      let live := s1.liveIn die b
      let s2 := live.foldl (fun s p => s.moveChunk p.1 p.2) s1
      if (s2.liveIn die b).isEmpty = false then .next s2
      else if blk.suspect = true ∨ status = 0x30F2 then .next (s2.retire die b 3)
      else .next (s2.eraseLater commons die b)

/-! ### Thinning (R312) -/

/-- One grain or leaf of its own to move: map address, whether a leaf entry, the entry. -/
def thinnable (c sheaf : Nat) (m : AMap (List (BitVec 128))) : List (Nat × Bool × BitVec 128) :=
  let hit (e : BitVec 128) : Bool := eKind e % 2 = 1 && eCommons e = c && eSlot e / 1024 = sheaf && !eIndexed e && !eInherited e
  m.flatMap (fun p =>
    let a := p.1 / 2 ^ 48 * 2 ^ 52 + p.1 % 2 ^ 48 * 16
    match p.2 with
    | [e] => if hit e then [(a, false, e)] else []
    | _ :: ls => ((upto ls.length).filter (fun i => hit (ls.getD i 0))).map (fun i => (a + i, true, ls.getD i 0))
    | [] => [])

/-- Split grains that still inherit from a sheaf (R312). -/
def splitsIn (c sheaf : Nat) (m : AMap (List (BitVec 128))) : List Nat :=
  (m.filter (fun p => decide (1 < p.2.length) && (p.2.drop 1).any (fun e =>
    eKind e = 3 && eInherited e && eCommons e = c && eSlot e / 1024 = sheaf))).map Prod.fst

/-- An entry that names other slots with the same SLOTS and word 1. -/
def moveEntry (e : BitVec 128) (slot : Nat) : BitVec 128 :=
  mkEntry (eKind e) false (eInherited e) (eSlots e) (eCommons e) slot (eTweak e)

/-- Replace an entry in the map of a snapshot. -/
def GrainMap.rename (a b : BitVec 128) (v : List (BitVec 128)) : List (BitVec 128) := v.map (fun e => if e = a then b else e)

/-- Place the thinned entries at the frontier; data are the sealed slots as read, entry after entry (R312). -/
def State.thinPlace (c fr : Nat) : List (Nat × Bool × BitVec 128) → List Byte → State → List MapUpd × State
  | [], _, s => ([], s)
  | (a, leaf, e) :: r, data, s =>
    let n := eSlots e
    match s.slotAlloc c fr n false 1 with
    | none => ([], s)
    | some (slot, s1) =>
      let e2 := moveEntry e slot
      let old := s1.extent (c * 2 ^ 43 + eSlot e)
      let k := s1.till.nextPlace
      let off := s1.till.nextOff
      let p : Place := { (default : Place) with
        phase := 3, addr := a, slots := n, leaf := leaf, commons := c, slot := slot, data := data.take (n * 4096), issue := s1.now
        cls := 3, off := off }
      let s2 := ({ s1 with till := { s1.till with nextPlace := k + 1, nextOff := off + n * 4096 } }.putPlace k p).putExtent
        (c * 2 ^ 43 + slot) { old with n := n, names := 0, death := 0, sieve := 0 }
      let s3 := s2.mirror 0x02 (leBytes 8 off ++ leBytes 8 a ++ leBytes 2 0 ++ leBytes 1 1 ++ leBytes 5 0 ++ leBytes 8 s2.now ++ data.take (n * 4096))
      let snaps := s3.sieve.snaps.map (fun p =>
        (p.1, { p.2 with map := p.2.map.map (fun g => (g.1, GrainMap.rename e e2 g.2)) }))
      let (us, s4) := State.thinPlace c fr r (data.drop (n * 4096)) { s3 with sieve := { s3.sieve with snaps := snaps } }
      ({ leaf := leaf, cond := true, addr := a, entry := e2, expect := e } :: us, s4)

/-- Queue a REJOIN of a split grain as an internal command (R74, R312). -/
def State.rejoin (s : State) (g : Nat) : State :=
  match (s.docket.queues.find? (fun p => p.2.kind = kInternal)) with
  | none => s
  | some q =>
    let t : Tag := { (default : Tag) with entry := 9, vol := g / 2 ^ 48, leaf := g % 2 ^ 48 * 16, leaves := 16, stream := 0xFFFF }
    if s.internalRoom q.1 then (s.accept q.1 t 0 0).2 else s

/-- Thin a sheaf (R312): unindexed grains and leaves of their own move, by one internal group of conditional
updates; split grains go to REJOIN. -/
def State.thin (s : State) (c sheaf : Nat) (data : List Byte) : State :=
  let x := s.sheafOf (c * 2 ^ 33 + sheaf)
  let l := thinnable c sheaf s.stew.map
  let (us, s1) := State.thinPlace c (b2n x.secure) l data s
  let n := us.foldl (fun n u => n + eSlots u.entry) 0
  let s2 := if us.isEmpty then s1 else (s1.commitGroup c 0 4096 us []).addN R.STEWARD_GLEANED (n * 4096)
  ((splitsIn c sheaf s.stew.map).foldl State.rejoin s2).setN (F.STEWARD_CMN_THIN_ALL.at c).addr (s2.thinKept c)

/-- A sheaf whose held slots are below THIN_PM is thinned (R312). -/
def execThinSheaf (commons sheaf : Nat) (data : List Byte) (s : State) : Res :=
  .next (if s.owns commons = true ∧ (s.sheafOf (commons * 2 ^ 33 + sheaf)).state = 3 ∧
      s.heldSlots commons sheaf * 1000 < 1024 * s.getF F.STEWARD_MEDIA_CFG_THIN_PM then s.thin commons sheaf data else s)

/-! ### Read levels (R315) -/

/-- CAL_HOURS have passed for a group of blocks: the group is calibrated. -/
def execCalibrationDue (die group : Nat) (s : State) : Res :=
  .next (if s.sledIn (die / 2048) then s.calibrate die (group % 1024 * 64) else s)

/-! ### Secure discard (R317, R318) -/

/-- STEWARD_VOL_MEDIA.SECURE is written: set only on a raw-only volume with feature 42 (R317). -/
def execStewardSecureWrite (v : Word) (s : State) : Res :=
  let vol := s.getF F.STEWARD_VOL_SEL_VAL
  let on := v.toNat % 2
  if on = 1 ∧ (s.feat 42 = false ∨ s.getF (F.PRESS_STREAM_CFG_RAW_ONLY.at vol) = 0) then
    .next ((s.setF (F.STEWARD_VOL_MEDIA_STATUS.at vol) 0x70E8).answer 0x70E8)
  else .next (((s.setF (F.STEWARD_VOL_MEDIA_SECURE.at vol) on).setF (F.STEWARD_VOL_MEDIA_STATUS.at vol) 0).answer 0)

/-- The blocks that hold the chunks of a sheaf or an earlier copy of them. -/
def State.sheafBlocks (s : State) (k : Nat) : List (Nat × Nat) :=
  s.media.dies.flatMap (fun p => (p.2.blocks.filter (fun b => b.2.chunks.any (fun id => id / 32 = k))).map (fun b => (p.1, b.1)))

/-- Within SECURE_BOUND_S of the first condemnation in a sheaf (R318): clean copies go, the sheaf is thinned, the
other live chunks leave its blocks, and the blocks are erased; SECURE_DONE follows the last erasure. data are the slots thinning
moves. -/
def execSecureBoundExpiry (commons sheaf : Nat) (data : List Byte) (s : State) : Res :=
  let k := commons * 2 ^ 33 + sheaf
  if (s.stew.condemned.get k).1 = 0 ∨ s.owns commons = false ∨ s.media.secure.any (fun w => w.sheaf = k) = true then .next s
  else
    let vols := ((s.stew.extents.filter (fun p => p.1 / 2 ^ 10 = k && !s.extentHeld p.2)).map (fun p => p.2.vol)).eraseDups
    let s1 := s.thin commons sheaf data
    let bs := s1.sheafBlocks k
    let s2 := bs.foldl (fun s p =>
      (((s.liveIn p.1 p.2).filter (fun q => q.1 ≠ k)).foldl (fun s q => s.moveChunk q.1 q.2) s).eraseLater commons p.1 p.2) s1
    let s3 := s2.putSheaf k { s2.sheafOf k with state := 4 }
    let w : SecureWork := ⟨k, vols, bs⟩
    .next (if bs.isEmpty then s3.secureDone w else { s3 with media := { s3.media with secure := s3.media.secure ++ [w] } })

end Sys2Proof.Machine
end

