-- ==== Sys2Proof/Machine/Gf.lean ====
section
/-! DEFINITION. Sheaf parity (R336): arithmetic in GF(2^8) with 0x11D and generator 2, P and Q of a row, the
reconstruction of missing pages (R347), and the syndromes of the Watch (R352). -/
namespace Sys2Proof.Machine

/-- Multiply by the generator. -/
def gfX (a : Nat) : Nat := if 128 ≤ a then (2 * a) ^^^ 0x11D else 2 * a

/-- Product by shift and add over the low k bits of b. -/
def gfMulK (a b : Nat) : Nat → Nat
  | 0 => 0
  | k + 1 => (if b % 2 = 1 then a else 0) ^^^ gfMulK (gfX a) (b / 2) k

/-- Product. -/
def gfMul (a b : Nat) : Nat := gfMulK a b 8

/-- Power of the generator. -/
def gfPow : Nat → Nat
  | 0 => 1
  | n + 1 => gfX (gfPow n)

/-- The inverse of an element other than zero, its 254th power. -/
def gfInv (a : Nat) : Nat := (upto 254).foldl (fun p _ => gfMul p a) 1

/-- Two pages added. -/
def pageXor (a b : List Byte) : List Byte := List.zipWith (fun x y => x ^^^ y) a b

/-- A page times a constant. -/
def pageMul (c : Nat) (l : List Byte) : List Byte := l.map (fun b => BitVec.ofNat 8 (gfMul c b.toNat))

/-- The pages 0 to 15 of a row but for the positions left out, summed with weights. -/
def rowSum (n : Nat) (pages : List (List Byte)) (skip : List Nat) (w : Nat → Nat) : List Byte :=
  (upto 16).foldl (fun acc i => if skip.contains i then acc else pageXor acc (pageMul (w i) (pages.getD i [])))
    (List.replicate n 0)

/-- P of a row (R336). -/
def rowP (n : Nat) (pages : List (List Byte)) : List Byte := rowSum n pages [] (fun _ => 1)

/-- Q of a row (R336). -/
def rowQ (n : Nat) (pages : List (List Byte)) : List Byte := rowSum n pages [] gfPow

/-- Data page i of a row of 18 pages of n bytes, with the missing positions given (R347): P for one missing
page, P and Q for two. -/
def rowRead (n : Nat) (pages : List (List Byte)) (missing : List Nat) (i : Nat) : List Byte :=
  let p := pages.getD 16 []
  let q := pages.getD 17 []
  match missing.filter (fun k => k ≠ i) with
  | [] => pageXor p (rowSum n pages [i] (fun _ => 1))
  | j :: _ =>
    if j = 17 then pageXor p (rowSum n pages [i] (fun _ => 1))
    else if j = 16 then pageMul (gfInv (gfPow i)) (pageXor q (rowSum n pages [i] gfPow))
    else
      let sp := pageXor p (rowSum n pages [i, j] (fun _ => 1))
      let sq := pageXor q (rowSum n pages [i, j] gfPow)
      pageMul (gfInv (gfPow i ^^^ gfPow j)) (pageXor sq (pageMul (gfPow j) sp))

/-- What the Watch finds in a row (R352). -/
inductive Finding where
  | clean | parityP | parityQ | data (z : Nat) | unlocated
  deriving DecidableEq, Repr

/-- The finding of a row's syndromes. -/
def rowCheck (n : Nat) (pages : List (List Byte)) : Finding :=
  let sp := pageXor (pages.getD 16 []) (rowP n pages)
  let sq := pageXor (pages.getD 17 []) (rowQ n pages)
  let zero (l : List Byte) : Bool := l.all (fun b => b = 0)
  if zero sp && zero sq then .clean
  else if zero sq then .parityP
  else if zero sp then .parityQ
  else match (upto 16).find? (fun z => pageMul (gfPow z) sp = sq) with
    | some z => .data z
    | none => .unlocated

end Sys2Proof.Machine
end

