-- ==== Sys2Proof/Machine/Hold.lean ====
section
/-! DEFINITION. The Holdings (R327 to R353): forming and changing commons, ownership claims (R23), the stripe
ledger on flash (R340), rebuild (R344 to R348), resynchronisation (R342) and the Watch (R351, R352). -/
namespace Sys2Proof.Machine

/-! ### Ownership (R22, R23) -/

/-- The next epoch this head's slot may claim: even for slot A, odd for slot B (R23). -/
def State.nextEpoch (s : State) (cur : Nat) : Nat := if (cur + 1) % 2 = s.slotNo then cur + 1 else cur + 2


/-- Claim a commons on every sled of the pool with a higher epoch (R23). The bridges keep the greatest: where the partner's OWN of
epoch rival reaches them too and is greater, this head's is refused and it gives up the claim (R25). -/
def State.claim (s : State) (c rival : Nat) : State :=
  let e := s.nextEpoch (s.epochKnown c)
  let s0 := s.poolSleds.foldl (fun s k => s.send (.sled k 7 [c, e])) s
  if e < rival then (s0.poolSleds.foldl (fun s k => s.bridgeSet k c rival false) s0).ownRefused c e rival
  else
    let s1 := s0.poolSleds.foldl (fun s k => s.bridgeOwn k c e) s0
    ({ s1 with hold := { s1.hold with epoch := s1.hold.epoch.set c e } }.setF (F.HOLD_CMN_OWNED.at c) 1).slcRecompute

/-! ### Requests of HOLD_CTL (R353) -/

/-- Modes in which the pool may be changed (assumption log 20). -/
def poolMode (m : Mode) : Bool :=
  match m with
  | .paired | .solo | .sealedMode | .service => true
  | _ => false

/-- A request: BUSY is 0x8100, a mode that does not permit it 0x7101. -/
def State.holdRequest (s : State) (f : State → State) : State :=
  if s.getF F.HOLD_CTL_BUSY = 1 then s.stat F.HOLD_CTL_STATUS 0x8100
  else if poolMode s.mode = false then s.stat F.HOLD_CTL_STATUS 0x7101
  else f s

/-- The POOL record of R468. -/
def State.poolRecord (s : State) (n : Nat) : State := s.regEvent blkHOLD 0x112 n (leBytes 8 (s.getN R.HOLD_CTL_ARG))

/-- Set aside the Granary of every die of a commons on some sleds (R320). -/
def State.granaryForm (s : State) (c : Nat) (sleds : List Nat) : State :=
  (sleds.flatMap (fun k => s.diesOn c k)).foldl (fun s d =>
    let n := s.getF (F.SLED_GEOM_BLOCKS.at (d / 2048)) * s.getF F.STEWARD_GRANARY_CFG_FORMAT_PM / 1000
    (((s.putDie d { (default : Die) with granary := n }).addF (F.STEWARD_CMN_GRANARY_FORMED.at c) n).addF
      (F.STEWARD_CMN_GRANARY_REMAINING.at c) n).setF (F.WARDEN_SPARE_FORMED.at 1) (s.getF (F.WARDEN_SPARE_FORMED.at 1) + n)) s

/-- The spare reserve of a commons in GB (R333). -/
def State.spareReserve (s : State) (c : Nat) : Nat :=
  let n := s.poolSleds.length
  if n = 0 then 0 else s.rawOf [c] * (s.getF F.HOLD_CFG_SPARE_SLEDS + 1) / n / 1000000000

/-- Whether two die ranges overlap. -/
def dieOverlap (a n b m : Nat) : Bool := decide (a < b + m) && decide (b < a + n)

/-- FORM: the commons, home, FIRST_DIE and DIES of HOLD_CTL_ARG (R330, R332). -/
def execHoldForm (s : State) : Res :=
  .next (s.holdRequest (fun s =>
    let c := s.getF F.HOLD_CTL_ARG_COMMONS
    let home := s.getF F.HOLD_CTL_ARG_HOME
    let first := s.getF F.HOLD_CTL_ARG_FIRST_DIE
    let dies := s.getF F.HOLD_CTL_ARG_DIES
    let ready := s.poolSleds.filter (fun k => s.getF (F.SLED_STATE_STATE.at k) = 3)
    if dies = 0 then s.stat F.HOLD_CTL_STATUS 0x5100
    else if ready.length < 20 ∨ ready.any (fun k => decide (s.getF (F.SLED_GEOM_DIES.at k) < first + dies)) = true then
      s.stat F.HOLD_CTL_STATUS 0x5101
    else if s.hold.formed.any (fun x => x = c || dieOverlap first dies (s.getF (F.HOLD_CMN_FIRST_DIE.at x)) (s.getF (F.HOLD_CMN_DIES.at x))) = true then
      s.stat F.HOLD_CTL_STATUS 0x7100
    else
      let s1 := ((s.setF (F.HOLD_CMN_FIRST_DIE.at c) first).setF (F.HOLD_CMN_DIES.at c) dies).setF (F.HOLD_CMN_HOME.at c) home
      -- the commons's share of the array's records, by its dies, 128 to a bucket (R230, R231; assumption log 26)
      let perSled := ready.foldl (fun n k => min n (s.getF (F.SLED_GEOM_DIES.at k))) 2048
      let s2 := { s1 with hold := { s1.hold with formed := insertNat c s1.hold.formed }
                          sieve := { s1.sieve with buckets := s1.sieve.buckets.set c (16777216 * dies / max 1 perSled) } }
      let s3 := (s2.setF (F.HOLD_CMN_RECORD_FIRST.at c) (ready.getD 0 0 * 2048 + first)).setF (F.HOLD_CMN_RECORD_SECOND.at c)
        (ready.getD 1 0 * 2048 + first)
      let s4 := (s3.granaryForm c s3.poolSleds).tableWrite
      let s5 := if home = s.slotNo ∨ s.mode = .solo then s4.claim c 0 else s4
      ((((s5.setF (F.HOLD_CMN_SPARE_RESERVE.at c) (s5.spareReserve c)).holdRecount c).slcRecompute).poolRecord 1).stat F.HOLD_CTL_STATUS 0))

/-- DISSOLVE: an owned commons that holds no volume. -/
def execHoldDissolve (s : State) : Res :=
  .next (s.holdRequest (fun s =>
    let c := s.getF F.HOLD_CTL_ARG_COMMONS
    if s.hold.formed.contains c = false then s.stat F.HOLD_CTL_STATUS 0x5100
    else if s.owns c = false then s.stat F.HOLD_CTL_STATUS 0x7101
    else if s.docket.vols.any (fun p => p.2.size ≠ 0 && p.2.commons = c) = true then s.stat F.HOLD_CTL_STATUS 0x7100
    else
      let dies := s.cmnDies c
      let s1 := dies.foldl (fun s d => s.putDie d default) s
      let s2 := { s1 with hold := { s1.hold with formed := s1.hold.formed.filter (fun x => x ≠ c)
                                                 sheaves := s1.hold.sheaves.filter (fun p => p.1 / 2 ^ 33 ≠ c) }
                          sieve := { s1.sieve with recs := s1.sieve.recs.filter (fun p => p.1 / 2 ^ 264 ≠ c)
                                                   buckets := s1.sieve.buckets.set c 0, filters := s1.sieve.filters.set c []
                                                   dirtyIdx := s1.sieve.dirtyIdx.filter (fun b => b / 2 ^ 64 ≠ c)
                                                   idxAt := s1.sieve.idxAt.filter (fun p => p.1 / 2 ^ 88 ≠ c)
                                                   hot := s1.sieve.hot.filter (fun k => k / 2 ^ 264 ≠ c) } }
      let s3 := [F.HOLD_CMN_FIRST_DIE, F.HOLD_CMN_RECORD_FIRST, F.HOLD_CMN_SPARE_RESERVE, F.HOLD_CMN_REBUILD_OTHER, F.HOLD_CMN_DUE_SINGLE,
        F.HOLD_CMN_LEDGER_OPEN, F.HOLD_CMN_WATCH_PROGRESS, F.HOLD_CMN_RESYNC_TOCHECK, F.STEWARD_CMN_GRANARY_REMAINING].foldl
          (fun s f => s.setN (f.at c).addr 0) s2
      ((((s3.tableWrite).poolRecount).slcRecompute).poolRecord 2).stat F.HOLD_CTL_STATUS 0))

/-- Every commons's Granary above WARN_PM again: spares are restored (R324). -/
def State.sparesRestored (s : State) : State :=
  if s.hold.formed.all (fun c => decide (s.getF (F.STEWARD_CMN_GRANARY_FORMED.at c) * s.getF F.STEWARD_GRANARY_CFG_WARN_PM <
      s.getF (F.STEWARD_CMN_GRANARY_REMAINING.at c) * 1000)) then
    { (s.setF F.STEWARD_MEDIA_STATE_WARN 0).setF F.STEWARD_MEDIA_STATE_SEALING 0 with media := { s.media with warned := [] } }
  else s

/-- TAKE_IN: a BLANK sled joins the pool; it gives each commons its die range (R330, R343). -/
def execHoldTakeIn (s : State) : Res :=
  .next (s.holdRequest (fun s =>
    let k := s.getF F.HOLD_CTL_ARG_VAL
    if s.sledPorts ≤ k then s.stat F.HOLD_CTL_STATUS 0x5100
    else if s.getF (F.SLED_STATE_STATE.at k) ≠ 7 then s.stat F.HOLD_CTL_STATUS 0x7102
    else
      let id := s.getN R.IDENT_POOL
      let s1 := { s with media := { s.media with labels := s.media.labels.set k id } }.setN (F.SLED_LABEL_ALL.at k).addr id
      let s2 := s.hold.formed.foldl (fun s c => s.granaryForm c [k]) (s1.portState k 3)
      let s3 := (s.hold.formed.filter (fun c => s.owns c)).foldl (fun s c =>
        (s.bridgeOwn k c (s.hold.epoch.get c)).send (.sled k 7 [c, s.hold.epoch.get c])) s2
      let s4 := s.hold.formed.foldl (fun s c => (s.recordFix c).holdRecount c) ((s3.sparesRestored).tableWrite)
      ((s4.slcRecompute).poolRecord 3).stat F.HOLD_CTL_STATUS 0))

/-- FAIL: the member named in HOLD_CTL_ARG (R343). -/
def execHoldFail (s : State) : Res :=
  .next (s.holdRequest (fun s =>
    let d := s.getF F.HOLD_CTL_ARG_MEMBER
    match s.dieCommons d with
    | none => s.stat F.HOLD_CTL_STATUS 0x5100
    | some c =>
      if 49152 ≤ d then s.stat F.HOLD_CTL_STATUS 0x5100
      else if s.owns c = false then s.stat F.HOLD_CTL_STATUS 0x7101
      else ((s.dieFail d 3).slcRecompute).stat F.HOLD_CTL_STATUS 0))

/-- A commons comes under resynchronisation (R342): every sheaf with a SHEAF record is to be checked. -/
def State.resyncStart (s : State) (c : Nat) : State :=
  let n := ((s.cmnSheaves c).filter (fun p => p.2.state = 3)).length
  let s1 := { s with hold := { s.hold with
    resync := if s.hold.resync.contains c then s.hold.resync else c :: s.hold.resync
    sheaves := s.hold.sheaves.map (fun (p : Nat × Sheaf) =>
      if p.1 / 2 ^ 33 = c then (p.1, { p.2 with checked := false }) else p) } }
  let s1 := { s1 with hold := { s1.hold with resyncDue := s1.hold.resyncDue.set c (s.opsec + 3600 * s.getF F.HOLD_CFG_REBUILD_BOUND_H) } }
  ((s1.setF (F.HOLD_CMN_RESYNC_CHECKED.at c) 0).setF (F.HOLD_CMN_RESYNC_TOCHECK.at c) n).holdRecount c

/-- RESYNC: the selected commons, if this head owns it. -/
def execHoldResync (s : State) : Res :=
  .next (s.holdRequest (fun s =>
    let c := s.getF F.HOLD_CMN_SEL_VAL
    if s.owns c = false then s.stat F.HOLD_CTL_STATUS 0x7101 else (s.resyncStart c).stat F.HOLD_CTL_STATUS 0))

/-- WATCH_NOW: the selected commons heads the Watch's queue. -/
def execHoldWatchNow (s : State) : Res :=
  .next (s.holdRequest (fun s =>
    let c := s.getF F.HOLD_CMN_SEL_VAL
    if s.owns c = false then s.stat F.HOLD_CTL_STATUS 0x7101
    else { s with hold := { s.hold with watchNow := c :: s.hold.watchNow.filter (fun x => x ≠ c)
                                        watchAt := s.hold.watchAt.set c 0 } }.stat F.HOLD_CTL_STATUS 0))

/-! ### The ledger on flash (R340, R341) -/


/-- Write the whole ledger of a commons to the record members in service (R340, R341); copies of them hold. -/
def State.ledgerWrite (s : State) (c copies : Nat) : State :=
  let l := s.ledgerEntries c
  let seq := s.getF (F.HOLD_CMN_LEDGER_LEDGER_SEQ.at c) + 1
  let s1 := (s.recordCopies c).foldl (fun s i => s.ledgerTo c seq (s.recordLoc c i)) s
  (({ s1 with hold := { s1.hold with ledgerDirty := s1.hold.ledgerDirty.filter (fun x => x ≠ c) } }.setF
    (F.HOLD_CMN_LEDGER_LEDGER_SEQ.at c) seq).setF (F.HOLD_CMN_LEDGER_COPIES.at c) (min copies 2)).setF
    (F.HOLD_CMN_LEDGER_OPEN.at c) l.length

/-- Every LEDGER_MS in which the ledger changed, it goes to both record members (R340); a lost copy is reported
and its member replaced (R341). copies counts the copies that programmed whole. -/
def execLedgerWriteTick (commons copies : Nat) (s : State) : Res :=
  if s.hold.ledgerDirty.contains commons = false ∨ s.owns commons = false then .next s
  else
    let s1 := s.ledgerWrite commons copies
    if 2 ≤ copies then .next s1
    else if copies = 1 then .next (s1.log blkHOLD 0 0 commons [])
    else .next (s1.alarm blkHOLD 0 0 commons [])

/-! ### Rebuild (R333, R344 to R348) -/

/-- Positions of a sheaf that rebuild has to write: lost chunks, and chunks with a page of a scarred row. -/
def Sheaf.work (x : Sheaf) : List Nat :=
  (upto 18).filter (fun i => x.lost.testBit i || x.bad.any (fun b => b.2 = i && decide (2 < x.rowLost b.1)))

/-- Kind of a sheaf's rebuild work, lower first (R346). -/
def Sheaf.workKind (x : Sheaf) : Nat := if 2 ≤ x.worst then 2 else if x.pages then 3 else 4

/-- Closed sheaves of a commons with rebuild work, in the order of R346. -/
def State.rebuildList (s : State) (c : Nat) : List (Nat × Sheaf) :=
  let l := (s.cmnSheaves c).filter (fun p => p.2.state = 3 && !p.2.work.isEmpty)
  l.filter (fun p => p.2.workKind = 2) ++ l.filter (fun p => p.2.workKind = 3) ++ l.filter (fun p => p.2.workKind = 4)

/-- The die with the most free QLC chunks among some, or none. -/
def State.mostFree (s : State) : List Nat → Option Nat
  | [] => none
  | d :: r =>
    match s.mostFree r with
    | none => if s.qlcFree d = 0 then none else some d
    | some e => if s.qlcFree e ≤ s.qlcFree d then some d else some e

/-- Where a rebuilt chunk goes: a die of the commons on a serving sled that holds no other chunk of the sheaf
(R344). -/
def State.rebuildDie (s : State) (c : Nat) (x : Sheaf) (pos : Nat) : Option Nat :=
  let held := ((upto 18).filter (fun i => i ≠ pos && !x.lost.testBit i)).map (fun i => locSled (x.locs.getD i 0))
  s.mostFree ((s.poolSleds.filter (fun k => s.sledIn k && !held.contains k)).flatMap (fun k => s.diesOn c k))

/-- Whether rebuild may take a block now: from the reserve, then down to the low mark (R333). -/
def State.rebuildRoom (s : State) (c : Nat) : Bool :=
  decide (s.hold.spareUsed.get c + 262144 ≤ s.getF (F.HOLD_CMN_SPARE_RESERVE.at c) * 1000000000) || !s.belowLow c

/-- A failed die with no lost chunk left is EMPTIED (R329). -/
def State.emptied (s : State) (c : Nat) : State :=
  (s.cmnDies c).foldl (fun s d =>
    if (s.dieOf d).state = 1 ∧ (s.cmnSheaves c).any (fun p => (upto 18).any (fun i =>
        p.2.lost.testBit i && locDieKey (p.2.locs.getD i 0) = d)) = false then s.putDie d { s.dieOf d with state := 2 }
    else s) s

/-- Rebuild writes one lost chunk and commits its RELOCATE (R344, R346, R348). status is what the destination's
bridge answers. -/
def execRebuildChunk (commons status : Nat) (s : State) : Res :=
  let work := s.rebuildList commons
  if s.owns commons = false ∨ work.isEmpty = true then .next s
  else
    let stall (s : State) : State :=
      if s.getF (F.HOLD_CMN_STALLED.at commons) = 1 then s
      else ((s.setF (F.HOLD_CMN_STALLED.at commons) 1).alarm blkHOLD 0 0 commons []).poolRecount
    match work.findSome? (fun p => (s.rebuildDie commons p.2 (p.2.work.getD 0 0)).map (fun d => (p.1, p.2.work.getD 0 0, d))) with
    | none => .next (stall s)
    | some (k, pos, d) =>
      if s.rebuildRoom commons = false then .next (stall s)
      else match s.tollWork 2 (some true) 262144 (16 * 262144) with
      | none => .next s
      | some s =>
        let s0 := s.scarRows k
        match s0.qlcAlloc commons d (k * 32 + pos) with
        | none => .next s0
        | some (dst, s1) =>
          if status = 0x7050 then .next (s.ownLost commons (s.epochKnown commons))
          else if status = 0x80F0 then .next s
          else if status = 0x30F0 ∨ status = 0x80F1 then
            .next ((s1.setF (F.SLED_ERRORS_PROGRAM.at (d / 2048)) (satInc (s1.getF (F.SLED_ERRORS_PROGRAM.at (d / 2048))) (2 ^ 32 - 1))).retire d (locBlock dst) (if status = 0x80F1 then 5 else 1))
          else
            let s2 := (s1.progAt k pos dst).relocate k pos dst
            let used := s2.hold.spareUsed.get commons + 262144
            let s3 := { s2 with hold := { s2.hold with spareUsed := s2.hold.spareUsed.set commons used } }
            let s4 := (((s3.setF (F.HOLD_CMN_SPARE_USED.at commons) (used / 1000000000)).addN R.HOLD_REBUILD_DONE 1).setF
              (F.HOLD_CMN_STALLED.at commons) 0)
            .next ((s4.emptied commons).holdRecount commons)

/-! ### The Watch and resynchronisation (R342, R351, R352) -/

/-- One repair of a page: the chunk is copied with the page put right (R289, R352). -/
def State.watchRepair (s : State) (k r pos : Nat) : State :=
  ((s.moveChunk k pos).addN R.HOLD_WATCH_REPAIRS 1).log blkHOLD 0 0 (k % 2 ^ 32) (leBytes 8 (k % 2 ^ 33) ++ leBytes 1 r ++ leBytes 1 pos)

/-- What the Watch does about one row (R352). decodes says that every coded grain in the row's pages decodes and
that the row holds no raw slot. -/
def State.watchRow (s : State) (k r : Nat) (f : Finding) (decodes : Bool) : State :=
  match f with
  | .clean => s
  | .parityP => s.watchRepair k r 16
  | .parityQ => s.watchRepair k r 17
  | .data z => s.watchRepair k r z
  | .unlocated =>
    if decodes then (s.watchRepair k r 16).watchRepair k r 17
    else (s.putSheaf k { s.sheafOf k with uncertain := true }).alarm blkHOLD 0 0 (k % 2 ^ 32) []

/-- Check the sixteen rows of a sheaf: data are its rows in order, eighteen pages each. -/
def State.sheafCheck (s : State) (k : Nat) (data : List Byte) (decodes : Bool) : State :=
  let s1 := (upto 16).foldl (fun s r =>
    s.watchRow k r (rowCheck 16384 (pieces 16384 18 ((data.drop (r * 294912)).take 294912))) decodes) s
  (s1.putSheaf k { s1.sheafOf k with checked := true }).holdRecount (k / 2 ^ 33)

/-- The next sheaf of the Watch in a commons: flagged ones first, then the pass in rising order. -/
def State.watchNext (s : State) (c : Nat) : Option Nat :=
  match s.hold.watchQ.find? (fun k => k / 2 ^ 33 = c && (s.sheafOf k).state = 3) with
  | some k => some k
  | none => ((s.cmnSheaves c).find? (fun p => p.2.state = 3 && decide (s.hold.watchAt.get c ≤ p.1 % 2 ^ 33))).map Prod.fst

/-- The Watch checks the next closed sheaf of an owned commons; past the last one the pass ends (R351). A commons
at the head of its queue goes first (R353). -/
def execWatchSheaf (cmn : Nat) (data : List Byte) (decodes : Bool) (s : State) : Res :=
  let commons := s.hold.watchNow.headD cmn
  if s.owns commons = false then .next s
  else
    let total := s.hold.nextSheaf.get commons
    match s.watchNext commons with
    | none =>
      .next (((({ s with hold := { s.hold with watchAt := s.hold.watchAt.set commons 0, watchFrom := s.hold.watchFrom.set commons (s.opsec + 1)
                                               watchNow := s.hold.watchNow.filter (fun x => x ≠ commons) } }.setF
        (F.HOLD_CMN_WATCH_END.at commons) s.opsec).setF (F.HOLD_CMN_WATCH_OVERDUE.at commons) 0).setF (F.HOLD_CMN_WATCH_PROGRESS.at commons) 0))
    | some k => match s.tollWork 3 none 0 (18 * 262144) with
      | none => .next s
      | some s =>
      let flagged := s.hold.watchQ.contains k
      let at_ := if flagged then s.hold.watchAt.get commons else k % 2 ^ 33 + 1
      let s1 := { s with hold := { s.hold with watchQ := s.hold.watchQ.filter (fun x => x ≠ k), watchAt := s.hold.watchAt.set commons at_ } }
      .next (((s1.sheafCheck k data decodes).addN R.HOLD_WATCH_SHEAVES 1).setF (F.HOLD_CMN_WATCH_PROGRESS.at commons)
        (if total = 0 then 0 else at_ * 10000 / total))

/-- A pass runs past 1.5 times WATCH_DAYS: OVERDUE and an ALARM (R351). -/
def execWatchOverdue (commons : Nat) (s : State) : Res :=
  .next (if s.owns commons = true then (s.setF (F.HOLD_CMN_WATCH_OVERDUE.at commons) 1).alarm blkHOLD 0 0 commons [] else s)

/-- The sheaf with the highest WRITE_SEQ. -/
def sheafNewest : List (Nat × Sheaf) → Option (Nat × Sheaf)
  | [] => none
  | p :: r =>
    match sheafNewest r with
    | none => some p
    | some q => if q.2.seq ≤ p.2.seq then some p else some q

/-- Resynchronisation checks the sheaf not yet checked with the newest WRITE_SEQ, on the rebuild floor (R342); the last one ends it. -/
def execResyncPass (commons : Nat) (data : List Byte) (decodes : Bool) (s : State) : Res :=
  let left := (s.cmnSheaves commons).filter (fun p => p.2.state = 3 && !p.2.checked)
  let done (s : State) : State :=
    { s with hold := { s.hold with resync := s.hold.resync.filter (fun x => x ≠ commons) } }.holdRecount commons
  if s.hold.resync.contains commons = false ∨ s.owns commons = false then .next s
  else match sheafNewest left with
    | none => .next (done s)
    | some p =>
      match s.tollWork 2 (some true) 0 (18 * 262144) with
      | none => .next s
      | some s =>
        let s1 := (s.sheafCheck p.1 data decodes).addF (F.HOLD_CMN_RESYNC_CHECKED.at commons) 1
        .next (if left.length = 1 then done s1 else s1)

end Sys2Proof.Machine
end

