-- ==== Sys2Proof/Machine/Daybook.lean ====
section
/-! DEFINITION. The Daybook on flash and the checkpoints' triggers (R281, R285, R286, R289, R292). -/
namespace Sys2Proof.Machine

/-- FLUSH_MS after its first record a part-full Daybook page is programmed (R281). -/
def execDaybookFlushTimer (commons : Nat) (s : State) : Res := .next (s.dbFlush commons)

/-- Erase the blocks whose records are now on flash (R289); a block that fails its ERASE is retired (R319, R321). -/
def State.eraseDue (s : State) (c lsn : Nat) (failed : List Nat) : State :=
  let due := s.media.erases.filter (fun x => x.1 = c && decide (x.2.1 ≤ lsn))
  let s1 := { s with media := { s.media with erases := s.media.erases.filter (fun x => !(x.1 = c && decide (x.2.1 ≤ lsn))) } }
  due.foldl (fun s x =>
    let die := x.2.2.1
    let b := x.2.2.2
    let s2 := s.send (.sled (die / 2048) 3 [die % 2048, b])
    if failed.contains (die * 65536 + b) then
      let s3 := s2.setF (F.SLED_ERRORS_ERASE.at (die / 2048)) (satInc (s2.getF (F.SLED_ERRORS_ERASE.at (die / 2048))) 65535)
      (((s3.unerased die b).retire die b 2)).secureSettle die b
    else (s2.blockErased die b).secureSettle die b) s1

/-- An anchor (R286). -/
def anchorBytes (c pool seq page loc0 loc1 replay own : Nat) : List Byte :=
  let b := leBytes 4 0x414E4348 ++ leBytes 2 1 ++ leBytes 2 c ++ leBytes 8 pool ++ leBytes 8 seq ++ leBytes 8 page ++ leBytes 8 loc0 ++
    leBytes 8 loc1 ++ leBytes 8 replay ++ leBytes 4 own ++ List.replicate 4032 0
  b ++ leBytes 4 (crc32c b)

/-- RECOVERING and ADOPTING as the commons under recovery and adoption now stand (R292). -/
def State.recFlags (s : State) : State :=
  let left (b : Bool) : Bool := s.stew.recAt.any (fun p => p.2 ≠ 0 && decide (2 ^ 63 ≤ p.2) == b)
  (s.setF F.STEWARD_MAP_STATE_RECOVERING (b2n (left false))).setF F.STEWARD_MAP_STATE_ADOPTING (b2n (left true))

/-- The recovery of a commons, or its adoption, ends with its checkpoint (R287, R290, R292). -/
def State.recEnd (s : State) (c : Nat) : State :=
  let at_ := s.stew.recAt.get c
  if at_ = 0 then s
  else
    let s1 := { s with stew := { s.stew with recAt := s.stew.recAt.set c 0 } }.recFlags
    if 2 ^ 63 ≤ at_ then s1
    else
      let ms := (s.time + 1 - at_) / 1000
      ((s1.setF F.STEWARD_RECOVERY_MS (min (2 ^ 24 - 1) (max ms (s.getF F.STEWARD_RECOVERY_MS)))).setN R.STEWARD_RECOVERY_SEQ s.now).tick

/-- The page that holds the last part of a checkpoint is on flash: the anchor is written, alternating between its
copies, and the partner drops what the checkpoint covers (R285, R286, R287). What the checkpoint leaves behind is free. -/
def State.anchorWrite (s : State) (c : Nat) : State :=
  let d := s.dbOf c
  let copy := 1 - s.getF (F.STEWARD_ANCHOR_COPY.at c)
  let seq := s.getF (F.STEWARD_ANCHOR_ANCHOR_SEQ.at c) + 1
  let s0 := s.progSend c (fun _ => 7) 0 seq (s.recordLoc c copy) 1
    (anchorBytes c (s.getN R.IDENT_POOL) seq d.ckptPage (s.recordLoc c 0) (s.recordLoc c 1) d.ckptReplay (s.hold.epoch.get c))
  let mine (k : Nat) : Bool := k / 2 ^ 43 = c
  let s1 := (s0.stew.oldCkpt.filter mine).foldl State.nameDrop
    { s0 with stew := { s0.stew with oldCkpt := s0.stew.oldCkpt.filter (fun k => !mine k) } }
  let s2 := (s1.setF (F.STEWARD_ANCHOR_ANCHOR_SEQ.at c) seq).setF (F.STEWARD_ANCHOR_COPY.at c) copy
  let s3 := (((s2.setN (F.STEWARD_DB_REPLAY_LSN_ALL.at c).addr d.ckptReplay).setN (F.STEWARD_DB_SINCE_ALL.at c).addr 0).setN
    (F.STEWARD_CKPT_SEQ_ALL.at c).addr s2.now).tick
  let s4 := (s3.setF (F.STEWARD_CKPT_CTL_BUSY.at c) 0).putDb c { d with
    ckptLast := 0, ckptFirst := 0, ckptAt := s.opsec, hist := d.hist.filter (fun r => decide (d.ckptReplay ≤ r.lsn)) }
  let s5 := s4.setF F.STEWARD_MAP_STATE_CHECKPOINTING (b2n (s4.hold.formed.any (fun x => s4.getF (F.STEWARD_CKPT_CTL_BUSY.at x) = 1)))
  (s5.mirror 0x07 (leBytes 4 1 ++ leBytes 4 0 ++ leBytes 8 (2 ^ 63 + c * 2 ^ 51) ++ leBytes 8 d.ckptReplay)).recEnd c

/-- The oldest Daybook page in flight is programmed in both copies: its records are durable, dependent erases go
out, clean placements leave the Till, and a finished checkpoint gets its anchor (R253, R285, R289). failed lists
the blocks whose ERASE fails, as die · 65536 + block. -/
def execDaybookPageDurable (commons : Nat) (failed : List Nat) (s : State) : Res :=
  let d := s.dbOf commons
  match d.flying with
  | [] => .next s
  | p :: r =>
    let pg := if p.first ≤ d.ckptFirst ∧ d.ckptFirst ≤ p.last then p.seq else d.ckptPage
    let s1 := ((s.countEv 0x0A 2 16).putDb commons { d with flying := r, ckptPage := pg }).setN (F.STEWARD_DB_FLASH_LSN_ALL.at commons).addr p.last
    let s2 := ((s1.eraseDue commons p.last failed).sweepClean)
    .next (if d.ckptLast ≠ 0 ∧ d.ckptLast ≤ p.last then s2.anchorWrite commons else s2).tillServe

/-- CHECKPOINT_S passes (R285). -/
def execCheckpointTimer (commons : Nat) (s : State) : Res :=
  .next (if s.owns commons = true then s.ckptStart commons else s)

/-- The Daybook since the last checkpoint exceeds CHECKPOINT_MIB (R285). -/
def execCheckpointSize (commons : Nat) (s : State) : Res :=
  .next (if s.owns commons = true ∧ s.getF F.STEWARD_MAP_CFG_CHECKPOINT_MIB * 1048576 < s.getF (F.STEWARD_DB_SINCE_ALL.at commons) then
    s.ckptStart commons else s)

/-- STEWARD_CKPT_CTL.GO: refused with 0x80E0 while BUSY, with 0x70E0 during recovery or for a commons not owned
(R291, R292). -/
def execStewardCkptGo (s : State) : Res :=
  let c := s.getF F.STEWARD_CMN_SEL_VAL
  let f := F.STEWARD_CKPT_CTL_STATUS.at c
  if s.getF (F.STEWARD_CKPT_CTL_BUSY.at c) = 1 then .next (s.stat f 0x80E0)
  else if s.getF F.STEWARD_MAP_STATE_RECOVERING = 1 ∨ s.owns c = false then .next (s.stat f 0x70E0)
  else .next ((s.ckptStart c).stat f 0)

end Sys2Proof.Machine
end

