-- ==== Sys2Proof/Machine/Land.lean ====
section
/-! DEFINITION. Landing regions (R155 to R157, R370, R391): slots, the leaves covered, mirroring what has landed, and a
frame's landing. Shared by the Carrier and the keeper ports. -/
namespace Sys2Proof.Machine


/-- Whether frames may land in a take (R156, R391). -/
def Take.lands (x : Take) : Bool := x.direct && (x.state = 1 || x.state = 2 || x.state = 3)

/-! ### The partner's copy -/

/-- Mirror bytes that have landed, 65,536 at most in one stub (R257, R259). -/
def State.landMirror (s : State) (a vol leaf tag reeve : Nat) (data : List Byte) : State :=
  ((upto ((data.length + 65535) / 65536)).foldl (fun (p : List Byte × State) i =>
    (p.1.drop 65536, p.2.mirror 0x02 (leBytes 8 (landOff (a + i * 65536)) ++ leBytes 8 (vol * 2 ^ 52 + leaf + 16 * i) ++
      leBytes 2 tag ++ leBytes 1 2 ++ leBytes 5 0 ++ leBytes 8 reeve ++ p.1.take 65536))) (data, s)).2

/-! ### Slots (R370) -/

/-- The status the slot rules give a write for frame f of take k, 0 where it is placed. -/
def Take.slotStatus (x : Take) (f : Nat) : Status :=
  match x.slots.get (x.slotOf f) with
  | none => 0
  | some g =>
    if g < f then 0x2073
    else if f < g then 0x5115
    else if x.slotLanded.get (x.slotOf f) then 0x5115 else 0

/-- First TILL byte of a leaf of frame f. -/
def Take.leafBase (x : Take) (f leaf : Nat) : Nat := x.grainBase f 0 + leaf * 4096

/-- Place bytes of frame f of take k from a leaf on: the slot is FILLING it, and the leaves are covered (R370). -/
def State.landPlace (s : State) (k f leaf tag reeve : Nat) (data : List Byte) : State :=
  let x := s.takeOf k
  let n := (data.length + 4095) / 4096
  let y := { x with slots := x.slots.set (x.slotOf f) (some f)
                    covered := x.covered.set f (coverAdd leaf (leaf + n) (x.covered.get f)) }
  ((s.wrBytes (tillKey (x.leafBase f leaf)) data).putTake k y).landMirror (x.leafBase f leaf) x.vol
    (x.firstLeaf + 16 * (f * x.grainCount) + leaf) tag reeve data


/-- Put the commands of a frame in frame order behind those that wait (R124). -/
def insertGen (f : Nat) (l : List (Nat × Nat × Bool)) : List (Nat × Nat × Bool) → List (Nat × Nat × Bool)
  | [] => l
  | e :: r => if f < e.1 then l ++ e :: r else e :: insertGen f l r

/-- Frame f of take k has landed: the slot is LANDED, the take records, and the frame's commands are generated; a
region that fills while its queue is FROZEN writes an ALARM (R124, R156, R157, R370). -/
def State.frameLand (s : State) (k f : Nat) : State :=
  let x := s.takeOf k
  let y := { x with
    slotLanded := x.slotLanded.set (x.slotOf f) true
    grains := x.grains ++ (upto x.grainCount).map (fun g => (f, g))
    toGen := insertGen f ((upto x.grainCount).map (fun g => (f, g, false))) x.toGen
    landed := x.landed + 1
    state := if x.state = 1 then 2 else x.state }
  let s1 := (s.putTake k y).tick
  let s2 := if x.state = 1 then s1.mirrorTake k else s1
  let full := (upto x.regFrames).all (fun i => (y.slots.get i).isSome && y.slotLanded.get i)
  let s3 := if full = true ∧ (s.queueOf x.queue).state = 1 then s2.alarm blkTOLL 0 0 0 [] else s2
  s3.frameGenAll k

/-- A frame's arrived bytes are withdrawn and its slot is FREE again (R370). -/
def State.frameDrop (s : State) (k f : Nat) : State :=
  let x := s.takeOf k
  s.putTake k { x with slots := x.slots.set (x.slotOf f) none
                       slotLanded := x.slotLanded.set (x.slotOf f) false
                       covered := x.covered.set f [] }

end Sys2Proof.Machine
end

