-- ==== Sys2Proof/Machine/Nvme.lean ====
section
/-! DEFINITION. The NVMe subset of the Docket (R128 to R136, R141, R142): the commands hosts send. -/
namespace Sys2Proof.Machine

/-- The queue of a controller with a queue identifier. -/
def State.findQueue (s : State) (ctrl qid : Nat) : Option Nat :=
  (s.docket.queues.find? (fun p => (p.2.kind = kAdmin || p.2.kind = kNvme) && p.2.ctrl = ctrl && p.2.qid = qid)).map Prod.fst

/-- Whether a queue is of a kind that takes a command now: HOLDUP accepts none (R266). -/
def State.takes (s : State) (q kind : Nat) : Bool := (s.queueOf q).kind = kind && !s.deaf

/-! ### Admin commands -/

/-- The tag of an admin command. R74 gives it no entry and R127 no code for none: ENTRY is 16 in the model, which the record's byte
shows as 16 and DOCKET_TAG_STATE's four bits as 0 (DESIGN CHOICE, assumption log 22). -/
def adminTag (cid op : Nat) : Tag := { (default : Tag) with entry := 16, op := op, cid := cid, stream := 0xFFFF }

/-- End an admin command at once with a status; the detail word of a success is zero (R137, R140). -/
def State.adminEnd (s : State) (t : Nat) (st : Status) : State :=
  if st = 0 then s.putTag t { s.tagOf t with state := .completing, ended := true, status := 0, detail := 0 }
  else s.docketEnd t st 0

/-- End an Abort with its Dword 0, the one exception of R140 (R141). -/
def State.abortEnd (s : State) (t dw0 : Nat) : State :=
  s.putTag t { s.tagOf t with state := .completing, ended := true, status := 0, detail := dw0 }

/-- End an admin command that returns a value. R140 keeps Dword 0 and Dword 1 of its completion for the detail word and the status:
the value leaves as data of the command (DESIGN CHOICE, assumption log 22). -/
def State.adminGive (s : State) (q cid t : Nat) (d : List Byte) : State := (s.send (.hostData q cid d)).adminEnd t 0

/-- Run an admin command of a queue: accept it (R126), then its own effect with its tag. One that sets a reserved bit completes
with 0x5061 (R128). -/
def State.admin (s : State) (q : Nat) (cid : AdminCid) (op : Nat) (f : Nat → State → State) : State :=
  if s.takes q kAdmin then
    let (t, s1) := s.accept q (adminTag cid.num op) (if cid.reserved then 0x5061 else 0) 0
    if t = 65536 ∨ cid.reserved = true then s1 else f t s1
  else s

/-- A refused Connect completes, and no queue is created. -/
def State.connectRefused (s : State) (cid : Nat) (st : Status) : State :=
  (s.addN R.DOCKET_COMPLETED 1).send (.nvme 4096 cid st (nvmeField st false) 0)

/-- Connect (R128), by RoCEv2 with feature 69 (R374): creates a queue and completes on it; a refused one creates none. The spec gives a depth outside 2 to 4,096 no
status of its own: the model refuses it as an invalid field, 0x5061 (DESIGN CHOICE, assumption log 22). -/
def State.connect (s : State) (ctrl qid depth peer : Nat) (adm : AdminCid) : State :=
  let cid := adm.num
  if s.deaf = true ∨ s.feat 69 = false then s
  else if adm.reserved = true ∨ (s.findQueue ctrl qid).isSome ∨ (qid ≠ 0 ∧ (s.findQueue ctrl 0).isNone) ∨ (qid ≠ 0 ∧ (depth < 2 ∨ 4096 < depth)) then
    s.connectRefused cid 0x5061
  else match s.createQueue (if qid = 0 then kAdmin else kNvme) (if qid = 0 then 32 else depth) 1 peer ctrl qid with
    | .error st => s.connectRefused cid st
    | .ok (q, s1) =>
      let s2 := if qid = 0 then s1.putCtrl ctrl { (default : Ctrl) with live := true } else s1
      let (t, s3) := s2.accept q (adminTag cid 0x7F) 0 0
      s3.adminGive q cid t (leBytes 2 ctrl)

/-- NVMe-oF Connect (R122, R128). -/
def execNvmeConnect (ctrl qid depth peer : Nat) (cid : AdminCid) (s : State) : Res := .next (s.connect ctrl qid depth peer cid)

/-- CSTS of a controller: RDY follows CC.EN, SHST follows CC.SHN (assumption log 17). -/
def Ctrl.csts (c : Ctrl) : Nat := c.cc % 2 + (if c.cc / 2 ^ 14 % 4 ≠ 0 then 8 else 0)

/-- Property Get of CAP, VS, CC, CSTS (R128). -/
def execPropertyGet (q : Nat) (cid : AdminCid) (ofs : Nat) (s : State) : Res :=
  .next (s.admin q cid 0x7F (fun t s =>
    let c := s.ctrlOf (s.queueOf q).ctrl
    if ofs = 0 ∨ ofs = 8 then s.adminGive q cid.num t (leBytes 8 (Config.property ofs).toNat)
    else if ofs = 0x14 then s.adminGive q cid.num t (leBytes 8 c.cc)
    else if ofs = 0x1C then s.adminGive q cid.num t (leBytes 8 c.csts)
    else s.adminEnd t 0x5061))

/-- Property Set writes CC (R128). -/
def execPropertySet (q : Nat) (cid : AdminCid) (ofs v : Nat) (s : State) : Res :=
  .next (s.admin q cid 0x7F (fun t s =>
    if ofs = 0x14 then
      (s.putCtrl (s.queueOf q).ctrl { s.ctrlOf (s.queueOf q).ctrl with cc := v % 2 ^ 32 }).adminEnd t 0
    else s.adminEnd t 0x5061))

/-- Overlay bytes on a page at an offset. -/
def overlay (page : List Byte) (ofs : Nat) (l : List Byte) : List Byte :=
  page.take ofs ++ l ++ page.drop (ofs + l.length)

/-- An entry of page 0x01 in the standard layout, with the Reeve number in its command-specific field
(R129, assumption log 17). -/
def ErrEnt.stdBytes (e : ErrEnt) (qid : Nat) : List Byte :=
  leBytes 8 e.count ++ leBytes 2 qid ++ leBytes 2 e.cid ++ leBytes 2 (nvmeField e.status e.read * 2) ++ leBytes 2 0 ++
    leBytes 8 (e.addr % 2 ^ 52) ++ leBytes 4 (e.addr / 2 ^ 52 + 1) ++ leBytes 4 1 ++ leBytes 8 e.reeve ++
    List.replicate 24 0

/-- Page 0x02, in the standard's layout (PRESUMED, assumption log 17): the composite temperature from the Warden, and the power cycles
and hours; the other bytes are free. -/
def State.healthPage (s : State) : List Byte :=
  let base := (upto 512).map (fun i => Config.pageByte 1 2 s.freeCtr i)
  overlay (overlay base 1 (leBytes 2 ((Config.dieTemp s.time).toNat / 10 + 273))) 112
    (leBytes 16 (s.getF F.REEVE_TIME_CYCLE) ++ leBytes 16 (s.opsec / 3600))

/-- Page 0x03, in the standard's layout (PRESUMED, assumption log 17): the running bank, then the revisions of banks A and B as
slots 1 and 2, none where a bank is EMPTY. How a revision is spelled is not stated: its bytes are free. -/
def State.slotPage (s : State) : List Byte :=
  let rev (b w : Nat) : List Byte :=
    if s.getF (F.STRONG_FW_BANKA_STATE.nth b) = 0 then List.replicate 8 0 else (upto 8).map (fun i => Config.pageByte 1 3 (2 * w + b) i)
  leBytes 8 (s.getN R.IDENT_FW % 2 + 1) ++ rev 0 (s.getN R.STRONG_FW_BANKA) ++
    rev 1 (s.getN R.STRONG_FW_BANKB) ++ List.replicate 488 0

/-- Page 0x05, in the standard's layout (PRESUMED, assumption log 17): a word for each admin and each I/O opcode, its lowest bit set
for the commands of R128; the effects of a supported command are free. -/
def effectsPage : List Byte :=
  let word (k : Nat) (ops : List Nat) (o : Nat) : List Byte :=
    if ops.contains o then (upto 4).map (fun i => if i = 0 then Config.pageByte 1 5 k (4 * o) ||| 1 else Config.pageByte 1 5 k (4 * o + i))
    else leBytes 4 0
  (upto 256).flatMap (word 0 [0x02, 0x06, 0x08, 0x09, 0x0A, 0x0C, 0x18, 0xC1, 0xC2]) ++
    (upto 256).flatMap (word 1 [0x00, 0x01, 0x02, 0x05, 0x08, 0x09, 0x0C]) ++ List.replicate 2048 0

/-- A log page of n bytes (R129). -/
def State.logPage (s : State) (ctrl page lsi n : Nat) : Option (List Byte) :=
  let pad (l : List Byte) := (l ++ List.replicate n 0).take n
  match page with
  | 0x01 => some (pad ((s.ctrlOf ctrl).errs.flatMap (fun e => e.stdBytes (s.queueOf e.queue).qid)))
  | 0x02 => some (pad s.healthPage)
  | 0x03 => some (pad s.slotPage)
  | 0x05 => some (pad effectsPage)
  | 0xC0 =>
    match s.findQueue ctrl lsi with
    | none => none
    | some q => some (pad ((s.queueOf q).ring.flatMap ErrEnt.bytes))
  | _ => none

/-- Get Log Page of n bytes (R129). -/
def execGetLogPage (q : Nat) (cid : AdminCid) (page lsi n : Nat) (s : State) : Res :=
  .next (s.admin q cid 0x02 (fun t s =>
    match s.logPage (s.queueOf q).ctrl page lsi n with
    | none => s.adminEnd t 0x5061
    | some d => ({ s with freeCtr := s.freeCtr + 1 }).adminGive q cid.num t d))

/-- The NVMe largest atomic unit, a zeroes-based count (R130). -/
def State.atomicUnit (s : State) : Nat := if s.feat 38 then 65535 else 15

/-- The Identify page of a CNS: none where the namespace names no volume (R130). Bytes the spec does not fix
are free (assumption log 17). -/
def State.identifyPage (s : State) (cns nsid : Nat) : Option (List Byte) :=
  let base := (upto 4096).map (fun i => Config.pageByte 0 cns nsid i)
  match cns with
  | 0 =>
    let v := s.volOf (nsid - 1)
    if nsid = 0 ∨ 4096 < nsid ∨ v.slot = 0 then none
    else some (overlay (overlay base 0 (leBytes 8 v.size ++ leBytes 8 v.size)) 34
      (leBytes 2 s.atomicUnit ++ leBytes 2 s.atomicUnit))
  | 1 => some (overlay (overlay base 77 [16]) 259 [3])
  | 2 =>
    let ids := ((s.docket.vols.filter (fun p => p.2.slot ≠ 0 && decide (nsid < p.1 + 1))).map (fun p => p.1 + 1)).take 1024
    some ((ids.flatMap (leBytes 4) ++ List.replicate 4096 0).take 4096)
  | _ => if nsid = 0 ∨ 4096 < nsid ∨ (s.volOf (nsid - 1)).slot = 0 then none else some base

/-- Identify with CNS 0x00 to 0x03 (R128, R130). -/
def execIdentify (q : Nat) (cid : AdminCid) (cns nsid : Nat) (s : State) : Res :=
  .next (s.admin q cid 0x06 (fun t s =>
    if 3 < cns then s.adminEnd t 0x5061
    else match s.identifyPage cns nsid with
    | none => s.adminEnd t 0x5067
    | some d => s.adminGive q cid.num t d))

/-- NVMe Abort by queue and command identifier (R141): Dword 0 [0] is 0 for CAUGHT, 1 otherwise; a LATE reply
follows the completion it lost to. -/
def execNvmeAbort (q : Nat) (cid : AdminCid) (sqid tcid : Nat) (s : State) : Res :=
  .next (s.admin q cid 0x08 (fun t s =>
    match (s.findQueue (s.queueOf q).ctrl sqid).bind (fun k => s.tagByCid k tcid) with
    | none => s.abortEnd t 1
    | some x =>
      if x = t then s.abortEnd t 1
      else
        let (r, s1) := s.abortTag x 0x6060
        if r = 0 then s1.abortEnd t 0
        else if r = 1 ∨ r = 3 then s1.abortLater x [3, t, r % 3]
        else s1.abortEnd t 1))

/-- Set Features 0x07, 0x0B, 0x0F (R128); the keep alive timer takes 1 s to 60 s. -/
def execSetFeatures (q : Nat) (cid : AdminCid) (fid v : Nat) (s : State) : Res :=
  .next (s.admin q cid 0x09 (fun t s =>
    let k := (s.queueOf q).ctrl
    let c := s.ctrlOf k
    if fid = 0x07 then (s.putCtrl k { c with nqueues := v }).adminEnd t 0
    else if fid = 0x0B then (s.putCtrl k { c with aerCfg := v }).adminEnd t 0
    else if fid = 0x0F ∧ 1000 ≤ v ∧ v ≤ 60000 then (s.putCtrl k { c with kato := v }).adminEnd t 0
    else s.adminEnd t 0x5061))

/-- Get Features (R128). -/
def execGetFeatures (q : Nat) (cid : AdminCid) (fid : Nat) (s : State) : Res :=
  .next (s.admin q cid 0x0A (fun t s =>
    let c := s.ctrlOf (s.queueOf q).ctrl
    if fid = 0x07 then s.adminGive q cid.num t (leBytes 4 c.nqueues)
    else if fid = 0x0B then s.adminGive q cid.num t (leBytes 4 c.aerCfg)
    else if fid = 0x0F then s.adminGive q cid.num t (leBytes 4 c.kato)
    else s.adminEnd t 0x5061))

/-- An Asynchronous Event Request holds its tag until an event, which leaves with its completion; the fifth is refused with
0x5069 (R126, R128). -/
def execAsyncEventRequest (q : Nat) (cid : AdminCid) (s : State) : Res :=
  .next (s.admin q cid 0x0C (fun t s =>
    let k := (s.queueOf q).ctrl
    let c := s.ctrlOf k
    match c.events with
    | _ :: r => ((s.putCtrl k { c with events := r }).send (.asyncEvent k 7 1 0xC0)).adminEnd t 0
    | [] =>
      if 4 ≤ c.aers.length then s.adminEnd t 0x5069
      else s.putCtrl k { c with aers := c.aers ++ [t] }))

/-- Keep Alive (R128). -/
def execKeepAlive (q : Nat) (cid : AdminCid) (s : State) : Res := .next (s.admin q cid 0x18 (fun t s => s.adminEnd t 0))

/-- A controller's keep alive timer expires: the association ends and its queues are deleted
(R128, assumption log 17). -/
def execKeepAliveTimeout (ctrl : Nat) (s : State) : Res :=
  .next (if (s.ctrlOf ctrl).live then
    ((s.docket.queues.filter (fun p => (p.2.kind = kAdmin || p.2.kind = kNvme) && p.2.ctrl = ctrl)).foldl
      (fun s p => s.deleteQueue p.1) s).putCtrl ctrl default
  else s)

/-- The vendor QUEUE_RESUME (R128, R142). -/
def execQueueResume (q : Nat) (cid : AdminCid) (qid : Nat) (s : State) : Res :=
  .next (s.admin q cid 0xC1 (fun t s =>
    match s.findQueue (s.queueOf q).ctrl qid with
    | none => s.adminEnd t 0x5061
    | some k => if (s.queueOf k).state = 1 then (s.activateQueue k).adminEnd t 0 else s.adminEnd t 0x7063))

/-- The vendor QUEUE_RESET (R128, R142). -/
def execQueueReset (q : Nat) (cid : AdminCid) (qid : Nat) (s : State) : Res :=
  .next (s.admin q cid 0xC2 (fun t s =>
    match s.findQueue (s.queueOf q).ctrl qid with
    | none => s.adminEnd t 0x5061
    | some k => if (s.queueOf k).state = 1 then (s.resetQueue k).adminEnd t 0 else s.adminEnd t 0x7063))

/-! ### I/O commands -/

/-- The status with which a volume refuses a command of an entry over a range, 0 where it takes it (R25, R31,
R75, R134, R139, R240). -/
def State.volStatus (s : State) (v lba n entry : Nat) : Status :=
  let x := s.volOf v
  let w := entryWrites entry
  if s.modeStatus w ≠ 0 then s.modeStatus w
  else if 4096 ≤ v ∨ x.slot = 0 then 0x5067
  else if s.owns x.commons = false then 0x7060
  else if x.size < lba + n then 0x5065
  else if entry = 1 ∧ 65536 < n then 0x5066
  else if w = true ∧ x.readOnly = true then 0x80C2
  else if w = true ∧ (upto 16).any (fun k => s.getF (F.SIEVE_REPL_STATE_STATE.at k) = 8 && s.getF (F.SIEVE_REPL_CFG_SOURCE_VOL.at k) = v) = true then 0x70C3
  else if (s.recipeOf v).entryWord entry = 0xFFFFFFFF then 0x5032
  else 0

/-- Whether an atomic write is larger than the budget covers (R134). -/
def State.overBudget (s : State) (entry bytes : Nat) : Bool :=
  entry = 1 && s.feat 38 && decide (s.getN R.TILL_BUDGET < bytes)

/-- Status of the fields of an I/O command (R128, R130). -/
def State.fieldStatus (s : State) (c : IoCmd) : Status :=
  if c.fused then 0x5064
  else if c.reserved = true ∨ c.type2 = true ∨ (c.ordered = true ∧ s.feat 70 = false) then 0x5061
  else 0

/-- The tag of an I/O command. -/
def State.ioTag (s : State) (q cid op entry : Nat) (c : IoCmd) (v : Nat) (inbound : Bool) : Tag :=
  let x := s.volOf v
  let bytes := c.nlb * (4096 + if c.pract then 0 else metaBytes x.format)
  { (default : Tag) with
    entry := entry, op := op, vol := v, leaf := c.lba, leaves := c.nlb, declared := bytes, ordered := c.ordered
    flags := b2n (s.feat 38 && entry = 1) * 2 + b2n c.pract * 4 + c.prchk % 8 * 8 + x.piType * 64
    cid := cid, qid := (s.queueOf q).qid, peer := (s.queueOf q).source, stream := 0xFFFF
    appTag := c.appTag, appMask := c.appMask, refTag := c.refTag, inbound := inbound, reg := c.reg, ofs := c.ofs }

/-- The volume number of a namespace: NSID less one; 4,096 names none (R130). -/
def nsVol (nsid : Nat) : Nat := if 1 ≤ nsid ∧ nsid ≤ 4096 then nsid - 1 else 4096

/-- Accept an I/O command of a queue (R126, R128 to R136): its tag, 65,536 where it has none. -/
def State.ioAccept (s : State) (q cid op entry : Nat) (c : IoCmd) (inbound : Bool) : Nat × State :=
  let v := nsVol c.nsid
  let g := s.ioTag q cid op entry c v inbound
  let st :=
    if s.fieldStatus c ≠ 0 then s.fieldStatus c
    else if s.volStatus v c.lba c.nlb entry ≠ 0 then s.volStatus v c.lba c.nlb entry
    else if entry = 0 ∧ c.buffer ≠ g.declared then 0x5062
    else if s.overBudget entry (c.nlb * 4096) then 0x2060
    else 0
  if st = 0x2060 then s.accept q g st (0x01 * 2 ^ 24 + s.retryBudget (c.nlb * 4096))
  else s.accept q g st 0

/-- Lowest leaf and span of Dataset Management ranges (R131). -/
def spanOf (l : List (Nat × Nat)) : Nat × Nat :=
  match l with
  | [] => (0, 0)
  | a :: _ =>
    let lo := l.foldl (fun m p => min m p.1) a.1
    let hi := l.foldl (fun m p => max m (p.1 + p.2)) 0
    (lo, hi - lo)

/-- Accept a Dataset Management (R128, R131): deallocate over the span of its ranges, which stand in STAGE as the
standard's 16-byte list; other attributes are ignored. ranges: first leaf and leaves. -/
def State.dsmAccept (s : State) (q cid : Nat) (c : IoCmd) (ranges : List (Nat × Nat)) (dealloc : Bool) : State :=
  let v := nsVol c.nsid
  let sp := spanOf ranges
  let g := s.ioTag q cid 0x09 3 { c with lba := sp.1, nlb := sp.2 } v false
  let l := ranges.flatMap (fun p => leBytes 4 0 ++ leBytes 4 p.2 ++ leBytes 8 p.1)
  let st := if s.fieldStatus c ≠ 0 then s.fieldStatus c else s.volStatus v sp.1 sp.2 3
  let (t, s1) := s.accept q { g with declared := l.length, arrived := l.length, ranges := ranges } st 0
  if t = 65536 ∨ (s1.tagOf t).ended = true then s1
  else if dealloc then s1.wrBytes (stageKey (stageBase t)) l
  else s1.docketEnd t 0 0

/-- Accept a command whose opcode the head does not support, which ends it (R128). -/
def State.noOpcode (s : State) (q cid op : Nat) : State := (s.accept q (adminTag cid op) 0x5064 0).2

end Sys2Proof.Machine
end

