-- ==== Sys2Proof/Machine/Mag.lean ====
section
/-! DEFINITION. The magazine ports (R378 to R401): receiving folios, training, and the keeper role. -/
namespace Sys2Proof.Machine

/-! ### Fields of a port -/

/-- ROLE of a port: 1 keeper, 2 dock (R401). -/
def State.magRole (s : State) (p : Nat) : Nat := s.getF (magF F.MAGPORT_P_CFG_ROLE p)

/-- The volume of a keeper port. -/
def State.magVol (s : State) (p : Nat) : Nat := s.getF (magF F.MAGPORT_P_CFG_VOLUME p)

/-- Whether a port is one of a twin pair (R392). -/
def State.magTwin (s : State) (p : Nat) : Bool := s.getF (magF F.MAGPORT_P_CFG_TWIN p) = 1 && s.magFeat p 99

/-- STATE of a port's twin: 0 none, 1 STANDBY, 2 SERVING, 3 HANDBACK. -/
def State.twinState (s : State) (p : Nat) : Nat := s.getF (magF F.MAGPORT_P_TWIN_STATE p)

/-- Its MAGAZINE queue. -/
def State.magQueue (s : State) (p : Nat) : Nat := (s.magPort p).queue - 1

/-! ### Receiving (R383, R384) -/

/-- A folio's header and payload as they arrived, from the byte after the mark on. -/
structure FolioIn where
  type : Nat
  flags : Nat
  task : Nat
  res : Nat
  len : Nat
  seq : Nat
  ack : Nat
  ofs : Nat
  credit : Nat
  headOk : Bool
  data : List Byte
  dataOk : Bool
  deriving DecidableEq, Repr

/-- Read a folio. -/
def parseFolio (f : List Byte) : FolioIn where
  type := fieldAt f 0x00 1
  flags := fieldAt f 0x01 1
  task := fieldAt f 0x02 1
  res := fieldAt f 0x03 1
  len := fieldAt f 0x04 4
  seq := fieldAt f 0x08 4
  ack := fieldAt f 0x0C 4
  ofs := fieldAt f 0x10 8
  credit := fieldAt f 0x18 4
  headOk := decide (32 ≤ f.length) && fieldAt f 0x1C 4 = crc32c (f.take 0x1C)
  data := (f.drop 32).take (fieldAt f 0x04 4)
  dataOk := fieldAt f 0x04 4 = 0 ||
    (decide (32 + fieldAt f 0x04 4 + 4 ≤ f.length) &&
      fieldAt f (32 + fieldAt f 0x04 4) 4 = crc32c ((f.drop 32).take (fieldAt f 0x04 4)))

/-- The second check of R383 but for the TYPE. -/
def FolioIn.wellFormed (h : FolioIn) : Bool := h.flags / 4 = 0 && decide (h.task < 64) && h.res = 0 && decide (h.len ≤ 65536)

/-- Ask for the next expected SEQ, at most once every 2 µs (R383, R384). -/
def State.magAskAgain (s : State) (p : Nat) : State :=
  let x := s.magPort p
  if x.reqAt = 0 ∨ x.reqAt + 1 ≤ s.time then
    ((s.putMagPort p { x with reqAt := s.time + 1 }).addF (magF F.MAGPORT_P_RESEND_RESEND_REQ p) 1).magBare p 0x04
      (leBytes 4 x.rxNext ++ leBytes 4 0)
  else s

/-- What ACK and CREDIT of a folio bring: folios are kept no longer, and a register whose TASK_STATUS is covered is
EMPTY (R384, R388). -/
def State.magAcked (s : State) (p ack credit : Nat) : State :=
  let x := s.magPort p
  let upTo := if ack = 0xFFFFFFFF then 0 else ack + 1
  let s1 := s.putMagPort p { x with out := x.out.filter (fun m => !(m.sent && decide (m.seq < upTo))), credit := credit }
  let s2 := (upto 64).foldl (fun s r =>
    let t := s.magTask p r
    if t.state = 2 ∧ t.statSeq ≠ 0 ∧ t.statSeq ≤ upTo then s.putMagTask p r default else s) s1
  s2.magFlow p

/-- How many folios stand in the outbox for a port. -/
def State.foliosOut (s : State) (p : Nat) : Nat :=
  (s.outbox.filter (fun o => match o with
    | .folio q _ => decide (q = p)
    | _ => false)).length

/-- Take a folio of a row whose types meet want (R383): the checks in their order, then its effect; a folio that
answers nothing by itself is acknowledged at once (R384). An event of another TYPE is not the row's. -/
def State.magRecv (s : State) (p err : Nat) (f : List Byte) (want : FolioIn → Bool) (k : FolioIn → State → State) : State :=
  let h := parseFolio f
  let st := s.magState p
  let bare := h.type = 0x03 || h.type = 0x04
  let train := h.type = 0x01 || h.type = 0x02
  if s.deaf = true ∨ 3 < err ∨ (if train then st ≠ 3 else s.magUp p = false) then s
  else
    let s1 := if err = 0 then s else s.addF (magF F.MAGPORT_P_SYNC_BITERR p) 1
    if h.headOk = false ∨ h.wellFormed = false then s1.addF (magF F.MAGPORT_P_SYNC_HCRC p) 1
    else if want h = false then s
    else if h.seq < (s.magPort p).rxNext then s1.magAck p
    else if (s.magPort p).rxNext < h.seq then s1.magAskAgain p
    else if h.dataOk = false then (s1.addF (magF F.MAGPORT_P_ERR_PCRC p) 1).magAskAgain p
    else
      let s2 := if bare then s1 else s1.putMagPort p { s1.magPort p with rxNext := h.seq + 1 }
      let s3 := (s2.addF (magF F.MAGPORT_P_FOLIOS_RX_ALL p) 1).magAcked p h.ack h.credit
      let n := s3.foliosOut p
      let s4 := k h s3
      if bare = true ∨ s4.magUp p = false ∨ n < s4.foliosOut p then s4 else s4.magAck p

/-- A folio that is acknowledged and discarded (R382). -/
def State.magDiscard (s : State) (p : Nat) : State := s.addF (magF F.MAGPORT_P_ERR_DISCARDED p) 1

/-- Whether the other side may send a type on a port of a role (R382). -/
def senderMay (role type : Nat) : Bool :=
  if role = 1 then [0x01, 0x03, 0x04, 0x10, 0x12, 0x13, 0x14].contains type
  else [0x02, 0x03, 0x04, 0x11, 0x12, 0x15, 0x16, 0x17].contains type

/-- A TASK_WRITE of RECORD_ARM or RECORD_STOP in the dock role: one that R387 refuses with a status of its own. -/
def FolioIn.dockRecord (h : FolioIn) (role : Nat) : Bool :=
  role = 2 && h.type = 0x10 && (fieldAt h.data 0 1 = 0x06 || fieldAt h.data 0 1 = 0x07)

/-- A mark whose header fails HCRC (R383). -/
def execFalseMark (port : Nat) (s : State) : Res :=
  .next (if s.magUp port || s.magState port = 3 then s.addF (magF F.MAGPORT_P_SYNC_HCRC port) 1 else s)

/-- A folio of a reserved type, or one its sender may not send (R382). ABORT needs feature 100. -/
def execMagReservedFolio (port err : Nat) (f : List Byte) (s : State) : Res :=
  .next (s.magRecv port err f
    (fun h => (!senderMay (s.magRole port) h.type && !h.dockRecord (s.magRole port)) || (h.type = 0x14 && !s.magFeat port 100))
    (fun _ s => s.magDiscard port))

/-- An ACK folio (R384, R388). -/
def execMagAck (port err : Nat) (f : List Byte) (s : State) : Res := .next (s.magRecv port err f (fun h => h.type = 0x03) (fun _ s => s))

/-- Send again from a SEQ, with RESEND (R384). -/
def State.magAgain (s : State) (p seq : Nat) : State :=
  ((s.magPort p).out.filter (fun m => m.sent && decide (seq ≤ m.seq))).foldl
    (fun s m => (s.addF (magF F.MAGPORT_P_RESEND_AGAIN p) 1).folioWire p m true) s

/-- A RESEND_REQ folio (R384). -/
def execMagResendReq (port err : Nat) (f : List Byte) (s : State) : Res :=
  .next (s.magRecv port err f (fun h => h.type = 0x04) (fun h s => s.magAgain port (fieldAt h.data 0 4)))

/-- RESEND_US passes without an acknowledgement (R384). -/
def execMagResendTimer (port : Nat) (s : State) : Res := .next (if s.magUp port then s.magAgain port 0 else s)

/-! ### Tasks that end (R388, R390) -/

/-- Tags of a port's MAGAZINE queue. -/
def State.magTags (s : State) (p : Nat) : List Nat :=
  if (s.magPort p).queue = 0 then [] else s.tagsOfQueue (s.magQueue p)

/-- Treat every tag of the MAGAZINE queue as aborted (R141, R390, R400): caught ones complete with 0x6062 and send no
status; late ones send theirs unless quiet holds. -/
def State.magAbortAll (s : State) (p : Nat) (quiet : Bool) : State :=
  (s.inReeveOrder (s.magTags p)).foldl (fun s t =>
    let g := s.tagOf t
    let s1 := s.putTag t { g with silent := quiet || g.catchable }
    (s1.abortTag t 0x6062).2) s

/-! ### Training (R385, R386) -/

/-- Training starts (R385): SEQs begin anew, and what was in flight ends by R400. -/
def State.magTrainOn (s : State) (p lanes : Nat) : State :=
  let x := s.magPort p
  let s1 := if s.magRole p = 1 then s.magAbortAll p false else s
  let s2 := (upto 64).foldl (fun s r => s.putMagTask p r { s.magTask p r with statSeq := 0 }) s1
  let s3 := s2.putMagPort p { x with txSeq := 0, rxNext := 0, out := [], credit := 0, reqAt := 0, heldWrites := [], lanes := lanes, trainAt := s.time + 1 }
  let s4 := ((s3.addF (magF F.MAGPORT_P_LINK_LINK_EPOCH p) 1).setF (magF F.MAGPORT_P_LINK_STATE p) 1).setF (magF F.MAGPORT_P_LINK_LANES_UP p) 0
  ((s4.setN (R.MAGPORT_P_FEAT + 0x100 * p) 0).setF (magF F.MAGPORT_P_TWIN_STATE p) 0).setF (magF F.MAGPORT_P_CTL_BUSY p) 1

/-- Whether a port may train: a role, ENABLE, and not OFF (R385, R401). -/
def State.magMayTrain (s : State) (p : Nat) : Bool :=
  decide (p < 4) && !s.deaf && s.magState p ≠ 6 && s.getF (magF F.MAGPORT_P_CFG_ENABLE p) = 1 &&
    (s.magRole p = 1 || s.magRole p = 2)

/-- Train a port on all its lanes. -/
def State.magTrain (s : State) (p : Nat) : State := if s.magMayTrain p then s.magTrainOn p 15 else s

/-- Training fails: the port stays DOWN with a status (R386). -/
def State.magDown (s : State) (p : Nat) (st : Status) : State :=
  (((s.setF (magF F.MAGPORT_P_LINK_STATE p) 0).setF (magF F.MAGPORT_P_CFG_STATUS p) st).setF (magF F.MAGPORT_P_CTL_BUSY p) 0).setF
    (magF F.MAGPORT_P_LINK_LANES_UP p) 0

/-- MAGPORT_Pp_CTL.RETRAIN (R385, R401). -/
def State.magRetrain (s : State) (p : Nat) : State :=
  if s.getF (magF F.MAGPORT_P_CTL_BUSY p) = 1 then s.stat (magF F.MAGPORT_P_CTL_STATUS p) 0x8120
  else if s.magMayTrain p then (s.magTrain p).stat (magF F.MAGPORT_P_CTL_STATUS p) 0
  else s.stat (magF F.MAGPORT_P_CTL_STATUS p) 0x7121

def execMagRetrain (port : Nat) (s : State) : Res := .next (if port < 4 then s.magRetrain port else s)

/-- Loss of lane lock (R385, R400). -/
def execMagLockLoss (port : Nat) (s : State) : Res :=
  .next (if s.magState port ≠ 0 then s.magTrain port else s)

/-- A failed training is tried again (R386). -/
def execMagTrainRetry (port : Nat) (s : State) : Res := .next (if s.magState port = 0 then s.magTrain port else s)

/-- The serial of a port (R395). -/
def State.magSerial (s : State) (p : Nat) : List Byte :=
  leBytes 8 (s.getN R.IDENT_SERIAL) ++ leBytes 1 p ++ leBytes 1 0 ++ leBytes 2 (s.magVol p) ++ leBytes 4 0

/-- Words 0 and 3 accepted with management (R43, R47). -/
def State.mgmtWord (s : State) (w : Nat) : Nat := (s.getN (R.IDENT_FEAT_MGMT + 8 * (w / 2)) >>> (32 * (w % 2))) % 2 ^ 32

/-- The lane markers are found: NEGOTIATE (R385); the dock role sends TRAIN. -/
def execLaneMarkersFound (port : Nat) (s : State) : Res :=
  .next (if s.magState port = 1 ∨ s.magState port = 2 then
    let s1 := s.setF (magF F.MAGPORT_P_LINK_STATE port) 3
    if s.magRole port = 2 then
      s1.magSend port 0x01 0 0 0 (leBytes 1 2 ++ leBytes 1 port ++ leBytes 1 (if (s.magPort port).lanes = 15 then 4 else 2) ++ leBytes 1 0 ++
        leBytes 4 (s.mgmtWord 0) ++ leBytes 4 (s.mgmtWord 3) ++ leBytes 4 0 ++ s.magSerial port ++ List.replicate 32 0)
    else s1
  else s)

/-- The status training ends with over the accepted words (R47, R386). -/
def trainStatus (role w0 w3 : Nat) : Status :=
  if w0.testBit 0 = false then 0x5010
  else if w3.testBit 2 = false ∨ w3.testBit (role - 1) = false then 0x5123
  else 0

/-- The port comes up (R385): in the keeper role with its MAGAZINE queue; statuses that waited go now (R400). -/
def State.magComeUp (s : State) (p w0 w3 : Nat) : State :=
  let x := s.magPort p
  let s1 := ((s.setF (magF F.MAGPORT_P_FEAT_WORD0 p) w0).setF (magF F.MAGPORT_P_FEAT_WORD3 p) w3).setF (magF F.MAGPORT_P_LINK_LANES_UP p) x.lanes
  let s2 := ((s1.setF (magF F.MAGPORT_P_LINK_STATE p) (if x.lanes = 15 then 4 else 5)).setF (magF F.MAGPORT_P_CFG_STATUS p) 0).setF
    (magF F.MAGPORT_P_CTL_BUSY p) 0
  if s.magRole p = 1 then
    match (if x.queue = 0 then (s2.createQueue kMagazine 64 1 p 0 0).map (fun r => (r.1 + 1, r.2)) else .ok (x.queue, s2)) with
    | .error st => s2.magDown p st
    | .ok (q, s3) =>
      let s4 := ((s3.putMagPort p { s3.magPort p with queue := q }).magClass (0x10 + p)).capTrigger
      (upto 64).foldl (fun s r => if (s.magTask p r).state = 2 then s.magStatusSend p r else s) s4
  else s2

/-- A TRAIN folio (R385, R386): the keeper answers with offer ∧ IDENT_FEAT_MGMT. -/
def execMagTrain (port err : Nat) (f : List Byte) (s : State) : Res :=
  .next (s.magRecv port err f (fun h => h.type = 0x01) (fun h s =>
    let w0 := fieldAt h.data 4 4 &&& s.mgmtWord 0
    let w3 := fieldAt h.data 8 4 &&& s.mgmtWord 3
    let claim := fieldAt h.data 0 1
    let st := if claim = (if s.magRole port = 1 then 1 else 2) then 0x5122 else trainStatus (s.magRole port) w0 w3
    let s1 := s.magSend port 0x02 0 0 0 (leBytes 2 st ++ leBytes 2 0 ++ leBytes 4 w0 ++ leBytes 4 w3 ++ leBytes 4 0)
    if st = 0 then s1.magComeUp port w0 w3 else s1.magDown port st))

/-- A millisecond into its training a port whose clocks are recovered is in ALIGN (R385). -/
def State.magAligns (s : State) (p : Nat) : State :=
  if s.magState p = 1 ∧ (s.magPort p).trainAt + 999 ≤ s.time then s.setF (magF F.MAGPORT_P_LINK_STATE p) 2 else s

/-! ### Keeper: tasks (R387 to R391) -/

/-- A task block (R387). -/
structure MagBlk where
  op : Nat
  flags : Nat
  length : Nat
  leaf : Nat
  client : Nat
  param : List Byte
  whole : Bool
  deriving DecidableEq, Repr

/-- Read a task block. -/
def parseTask (l : List Byte) : MagBlk where
  op := fieldAt l 0x00 1
  flags := fieldAt l 0x01 1
  length := fieldAt l 0x04 4
  leaf := fieldAt l 0x08 8
  client := fieldAt l 0x10 8
  param := (l.drop 0x20).take 32
  whole := l.length = 64

/-- Whether a block's opcode is none of R387, or its LENGTH breaks its row; reserved fields are ignored (R12). -/
def MagBlk.malformed (b : MagBlk) : Bool :=
  !b.whole ||
    (match b.op with
     | 0x01 => b.length ≠ 4096
     | 0x02 => b.length = 0 || b.length % 4096 ≠ 0 || decide (268435456 < b.length)
     | 0x03 => b.length = 0 || b.length % 4096 ≠ 0 || decide (268435456 < b.length)
     | 0x04 => b.length ≠ 0
     | 0x05 => b.length ≠ 0
     | 0x06 => b.length ≠ 4096
     | 0x07 => b.length ≠ 0
     | _ => true)

/-- Where a WRITE's leaves lie among the frames of a take: 0 outside them, 1 partly within, 2 wholly within one. -/
def Take.within (x : Take) (leaf n : Nat) : Nat :=
  let stride := 16 * x.grainCount
  if leaf < x.firstLeaf then (if x.firstLeaf < leaf + n then 1 else 0)
  else
    let o := (leaf - x.firstLeaf) % stride
    if o + n ≤ x.frameLeaves then 2
    else if o < x.frameLeaves ∨ stride < o + n then 1 else 0

/-- The takes into which a keeper port's WRITEs may land (R391). -/
def State.magTakes (s : State) (p : Nat) : List Nat :=
  (s.toll.takes.filter (fun t => t.2.lands && t.2.port = 0x10 + p && t.2.vol = s.magVol p)).map Prod.fst

/-- The status by which another landing write already arriving for the same slot refuses a frame (R370). -/
def State.landRace (s : State) (k f : Nat) : Status :=
  let x := s.takeOf k
  let l := (s.tagsBy (fun g => g.entry = 16 && g.op = 0x03 && !g.ended && g.take = k && g.frame ≠ f &&
    x.slotOf g.frame = x.slotOf f && g.arrived ≠ 0)).map (fun t => (s.tagOf t).frame)
  if l.any (fun g => decide (g < f)) then 0x2073 else if l.any (fun g => decide (f < g)) then 0x5115 else 0

/-- The retry-after of REGION_FULL: when a slot frees is not known, a free value (R153, assumption log 8). -/
def State.regionFull (s : State) : Nat × State := (0x0D * 2 ^ 24 + (s.draw).1.toNat % 2 ^ 24, (s.draw).2)

/-- Checks of the port's volume (R391). -/
def State.magVolStatus (s : State) (p : Nat) : Status :=
  let x := s.volOf (s.magVol p)
  if s.modeStatus false ≠ 0 then s.modeStatus false
  else if x.slot = 0 then 0x5067
  else if s.owns x.commons = false then 0x7060
  else 0

/-- How a WRITE runs: the take and frame it lands in, or the status of a partial overlap, or none (R391). -/
def State.magLandOf (s : State) (p leaf n : Nat) : Status × Option (Nat × Nat) :=
  match (s.magTakes p).find? (fun k => (s.takeOf k).within leaf n ≠ 0) with
  | none => (0, none)
  | some k =>
    let x := s.takeOf k
    if x.within leaf n = 1 then (0x5120, none) else (0, some (k, (leaf - x.firstLeaf) / (16 * x.grainCount)))

/-- The tag of a task. -/
def State.magTag (s : State) (p r : Nat) (b : MagBlk) (entry leaf n declared : Nat) (inbound : Bool) : Tag :=
  let v := s.magVol p
  { (default : Tag) with
    entry := entry, op := b.op, vol := v, leaf := leaf, leaves := n, declared := declared, ordered := b.flags.testBit 0
    flags := b2n (s.feat 38 && entry = 1) * 2 + 4 + (s.volOf v).piType * 64, peer := p, stream := 0xFFFF, cid := r
    inbound := inbound, taskReg := r }

/-- The task entry and span of an opcode (R387). -/
def MagBlk.entry (b : MagBlk) : Nat :=
  match b.op with
  | 0x02 => 0 | 0x03 => 1 | 0x04 => 4 | 0x05 => 3 | _ => 16

/-- The identify page of a keeper (R395). -/
def State.magPage (s : State) (p : Nat) : List Byte :=
  leBytes 4 0x4D475A31 ++ leBytes 2 1 ++ leBytes 2 0 ++ leBytes 8 (s.volOf (s.magVol p)).size ++ s.magSerial p ++
    leBytes 8 16 ++ leBytes 4 4096 ++ leBytes 4 0 ++ leBytes 8 256 ++ List.replicate 4040 0

/-- A task is accepted into an EMPTY register (R387, R388, R391). -/
def State.magAccept (s : State) (p r : Nat) (blk : List Byte) : State :=
  let b := parseTask blk
  let n := b.length / 4096
  let trim := fieldAt b.param 0 4
  let v := s.magVol p
  let q := s.magQueue p
  let (ls, land) := if b.op = 0x03 then s.magLandOf p b.leaf n else (0, none)
  let st : Status :=
    if b.malformed then 0x5120
    else if b.flags.testBit 0 = true ∧ s.feat 70 = false then 0x5061
    else if s.magTwin p = true ∧ s.twinState p ≠ 2 then 0x7060
    else if s.magVolStatus p ≠ 0 then s.magVolStatus p
    else if ls ≠ 0 then ls
    else match b.op with
      | 0x02 => s.volStatus v b.leaf n 0
      | 0x03 => (match land with
        | some (k, f) => if (s.takeOf k).slotStatus f ≠ 0 then (s.takeOf k).slotStatus f else s.landRace k f
        | none => if s.volStatus v b.leaf n 1 ≠ 0 then s.volStatus v b.leaf n 1 else if s.overBudget 1 b.length then 0x2060 else 0)
      | 0x04 => s.volStatus v 0 0 4
      | 0x05 => s.volStatus v b.leaf trim 3
      | 0x07 => if s.holdsTake (fieldAt b.param 0 1) = true ∧ (s.takeOf (fieldAt b.param 0 1)).port = 0x10 + p then 0 else 0x5071
      | _ => 0
  let g0 := s.magTag p r b b.entry b.leaf n b.length (b.op = 0x03 || b.op = 0x06)
  let g := match b.op, land with
    | 0x03, some (k, f) => { g0 with entry := 16, take := k, frame := f }
    | 0x05, _ => { g0 with leaves := trim, declared := 16, arrived := 16, ranges := [(b.leaf, trim)] }
    | 0x04, _ => { g0 with leaf := 0 }
    | _, _ => g0
  let (det, s0) := if st = 0x2073 then s.regionFull
    else if st = 0x2060 then (0x01 * 2 ^ 24 + s.retryBudget b.length, s) else (0, s)
  let s1 := s0.putMagTask p r { (default : MagTask) with state := 1, op := b.op, client := b.client, length := b.length }
  let (t, s2) := s1.accept q { g with inbound := g.inbound && st = 0 } st det
  if t = 65536 then s2
  else
    let s3 := s2.putMagTask p r { s2.magTask p r with tag := t + 1 }
    if st ≠ 0 then s3
    else match b.op with
      | 0x01 => (s3.magData p r true (s3.magPage p)).docketEnd t 0 0
      | 0x05 => s3.wrBytes (stageKey (stageBase t)) (leBytes 4 0 ++ leBytes 4 trim ++ leBytes 8 b.leaf)
      | 0x07 => (s3.takeClose (fieldAt b.param 0 1)).docketEnd t 0 0
      | _ => s3

/-- A TASK_WRITE reaches a register (R388, R390): EMPTY takes it; one whose task a reset aborted holds it; any other
refuses it with 0x5121. -/
def State.magWrite (s : State) (p r : Nat) (blk : List Byte) : State :=
  let t := s.magTask p r
  let x := s.magPort p
  if t.state = 0 then s.magAccept p r blk
  else if t.tag ≠ 0 ∧ (s.tagOf (t.tag - 1)).silent = true then s.putMagPort p { x with heldWrites := x.heldWrites ++ [(r, blk)] }
  else s.magSend p 0x11 0 r 0 (taskBlock 0x5121 0 0 0 (fieldAt blk 0x10 8))

/-- Accept the held TASK_WRITEs of a port whose registers are EMPTY again (R390). -/
def State.magHeldGo (p : Nat) : List (Nat × List Byte) → State → State
  | [], s => s
  | (r, b) :: rest, s =>
    if (s.magTask p r).state = 0 then
      let x := s.magPort p
      State.magHeldGo p rest ((s.putMagPort p { x with heldWrites := x.heldWrites.filter (fun y => y ≠ (r, b)) }).magAccept p r b)
    else State.magHeldGo p rest s

/-- A TASK_WRITE whose opcode is one of a row. In the dock role the two RECORD tasks are discarded and counted as folios their
sender may not send (R382), and refused with 0x5120 (R387); of the others the row of R382 speaks alone. -/
def State.magTaskRow (s : State) (p err : Nat) (f : List Byte) (op : Nat → Bool) : State :=
  s.magRecv p err f (fun h => (s.magRole p = 1 || h.dockRecord (s.magRole p)) && h.type = 0x10 && op (fieldAt h.data 0 1)) (fun h s =>
    if s.magRole p = 1 then s.magWrite p h.task h.data
    else (s.magDiscard p).magSend p 0x11 0 h.task 0 (taskBlock 0x5120 0 0 0 (fieldAt h.data 0x10 8)))

/-- Task IDENTIFY (R395). -/
def execMagIdentify (port err : Nat) (f : List Byte) (s : State) : Res := .next (s.magTaskRow port err f (fun o => o = 0x01))

/-- Task READ (R387). -/
def execMagRead (port err : Nat) (f : List Byte) (s : State) : Res := .next (s.magTaskRow port err f (fun o => o = 0x02))

/-- Task WRITE (R391). -/
def execMagWrite (port err : Nat) (f : List Byte) (s : State) : Res := .next (s.magTaskRow port err f (fun o => o = 0x03))

/-- Task FLUSH (R387). -/
def execMagFlush (port err : Nat) (f : List Byte) (s : State) : Res := .next (s.magTaskRow port err f (fun o => o = 0x04))

/-- Task TRIM (R387). -/
def execMagTrim (port err : Nat) (f : List Byte) (s : State) : Res := .next (s.magTaskRow port err f (fun o => o = 0x05))

/-- Task RECORD_ARM (R387, R391). -/
def execRecordArm (port err : Nat) (f : List Byte) (s : State) : Res := .next (s.magTaskRow port err f (fun o => o = 0x06))

/-- Task RECORD_STOP (R387, R391). -/
def execRecordStop (port err : Nat) (f : List Byte) (s : State) : Res := .next (s.magTaskRow port err f (fun o => o = 0x07))

/-- A TASK_WRITE with another opcode (R387). -/
def execMagUnknownOpcode (port err : Nat) (f : List Byte) (s : State) : Res :=
  .next (s.magTaskRow port err f (fun o => o = 0 || decide (7 < o)))

/-! ### Keeper: data (R389, R391) -/

/-- A landing write whose data are whole is placed (R391): its status waits for the partner; killSeq holds the stub it
waits for. -/
def State.landWhole (s : State) (t : Nat) : State :=
  let g := s.tagOf t
  let x := s.takeOf g.take
  let st := if x.lands = false then 0x5071 else x.slotStatus g.frame
  if st ≠ 0 then
    let (det, s1) := if st = 0x2073 then s.regionFull else (0, s)
    s1.docketEnd t st det
  else
    let leaf := g.leaf - (x.firstLeaf + 16 * (g.frame * x.grainCount))
    let s1 := s.landPlace g.take g.frame leaf t g.reeve (s.rdBytes (stageKey (stageBase t)) g.declared)
    let s2 := (s1.putTag t { g with state := .dispatched, committing := true, killSeq := s1.cf.txSeq }).mirrorTag t
    if (s2.takeOf g.take).arrivedOf g.frame = x.frameBytes then s2.frameLand g.take g.frame else s2

/-- Landing writes whose bytes stand in the partner's MIRROR, or need not, send their status (R391). -/
def State.magRelease (s : State) : State :=
  (s.inReeveOrder (s.tagsBy (fun g => g.entry = 16 && g.op = 0x03 && g.state = .dispatched &&
    (s.queueOf g.queue).kind = kMagazine && (!s.mirrors || decide (g.killSeq ≤ s.cf.acked))))).foldl (fun s t => s.docketEnd t 0 0) s

/-- The block of a RECORD_ARM has come: it breaks a rule of R387, or the Toll decides it (R152, R391). -/
def State.armDecide (s : State) (p r t : Nat) : State :=
  let d := s.rdBytes (stageKey (stageBase t)) 4096
  let q := parseReq d
  if q.port ≠ 0x10 + p ∨ q.direct = false ∨ (d.drop 64).any (fun b => b ≠ 0) = true then s.docketEnd t 0x5120 0
  else (s.putTag t { s.tagOf t with state := .dispatched, committing := true }).takeDecide
    { block := d.take 64, route := 2, peer := p, ref := r }

/-- Data of a task arrive (R389): LAST, or bytes beyond LENGTH, compares the count. -/
def State.magTaskData (s : State) (p r ofs : Nat) (last : Bool) (data : List Byte) : State :=
  let m := s.magTask p r
  let t := m.tag - 1
  let g := s.tagOf t
  if m.state ≠ 1 ∨ m.tag = 0 ∨ g.state ≠ .arriving then s
  else
    let n := g.arrived + data.length
    let s1 := ((s.placeArrived t 0 g.arrived (data.take (g.declared - g.arrived))).putTag t { g with arrived := n }).writeRecord t
    if g.declared < n ∨ ofs ≠ g.arrived ∨ (last = true ∧ n ≠ g.declared) then
      (s1.addF (magF F.MAGPORT_P_ERR_DISCARDED p) 1).docketEnd t 0x5062 0
    else if last = false then s1
    else if m.op = 0x06 then s1.armDecide p r t
    else if g.entry = 16 then (s1.landWhole t).magRelease
    else s1.arrivedWhole t

/-! ### Resets and aborts (R390) -/

/-- A TASK_RESET folio (R390): nothing accepted before it sends a status, and a latched register is EMPTY. -/
def execMagTaskReset (port err : Nat) (f : List Byte) (s : State) : Res :=
  .next (s.magRecv port err f (fun h => s.magRole port = 1 && h.type = 0x13) (fun _ s =>
    let s1 := s.magAbortAll port true
    (upto 64).foldl (fun s r => if (s.magTask port r).state = 2 then s.putMagTask port r default else s) s1))

/-- An ABORT folio with feature 100 (R390): UNKNOWN, and CAUGHT of a command no context held, are answered at once; the
others after the command's one TASK_STATUS (R141). -/
def execMagAbort (port err : Nat) (f : List Byte) (s : State) : Res :=
  .next (s.magRecv port err f (fun h => s.magRole port = 1 && h.type = 0x14 && s.magFeat port 100) (fun h s =>
    let m := s.magTask port h.task
    let reply (s : State) (r : Nat) := s.magSend port 0x15 0 h.task 0 (leBytes 1 r ++ List.replicate 7 0)
    if m.tag = 0 then reply s 2
    else
      let (r, s1) := s.abortTag (m.tag - 1) 0x6060
      if r = 1 ∨ r = 3 then s1.abortLater (m.tag - 1) [2, port, h.task, r % 3] else reply s1 r))

/-! ### Twin tethers (R392 to R394) -/

/-- The take a TWIN folio names: one held on the port, or 0xFF. -/
def State.twinTake (s : State) (p : Nat) : Nat :=
  ((s.toll.takes.find? (fun t => (t.2.state = 1 || t.2.state = 2 || t.2.state = 3) && t.2.port = 0x10 + p)).map Prod.fst).getD 0xFF

/-- Send TWIN with a state (R382, R392). -/
def State.twinSend (s : State) (p st : Nat) : State :=
  let s1 := (s.setF (magF F.MAGPORT_P_TWIN_STATE p) st).setF (magF F.MAGPORT_P_TWIN_TAKE p) (s.twinTake p)
  if s1.magUp p then
    s1.magSend p 0x17 0 0 0 (leBytes 1 st ++ leBytes 1 (s.twinTake p) ++ leBytes 2 0 ++
      leBytes 4 (s.getF (magF F.MAGPORT_P_TWIN_EPOCH p)) ++ leBytes 8 s.now)
  else s1

/-- Keeper ports of a twin pair whose volume lies in one of the commons. -/
def State.twinPorts (s : State) (cs : List Nat) : List Nat :=
  (upto 4).filter (fun p => s.magRole p = 1 && s.getF (magF F.MAGPORT_P_CFG_TWIN p) = 1 &&
    cs.contains (s.volOf (s.magVol p)).commons)

/-- Tell the partner the EPOCH of every twin pair (R392: the heads agree on it over the Counterfoil; that an ACT stub carries it is
the model's choice, assumption log 18). -/
def State.twinTell (s : State) : State :=
  if s.cfUp then
    s.sendAct 13 3 0 0 0 0 ((upto 4).flatMap (fun p => leBytes 4 (s.getF (magF F.MAGPORT_P_TWIN_EPOCH p))))
  else s

/-- What the partner tells of the EPOCHs: the higher one of each pair stands on both heads (R392). -/
def State.twinHear (s : State) (l : List Byte) : State :=
  (upto 4).foldl (fun s p =>
    s.setF (magF F.MAGPORT_P_TWIN_EPOCH p) (max (fieldAt l (4 * p) 4) (s.getF (magF F.MAGPORT_P_TWIN_EPOCH p)))) s

/-- This head serves commons anew: TWIN SERVING with EPOCH + 1 on their tethers (R393, R394). -/
def State.twinServe (s : State) (cs : List Nat) : State :=
  if (s.twinPorts cs).isEmpty then s
  else ((s.twinPorts cs).foldl (fun s p => (s.addF (magF F.MAGPORT_P_TWIN_EPOCH p) 1).twinSend p 2) s).twinTell

/-- This head gives commons back: HANDBACK on their tethers (R394). -/
def State.twinHandback (s : State) (cs : List Nat) : State := (s.twinPorts cs).foldl (fun s p => s.twinSend p 3) s

/-- Every 1 ms a head sends TWIN on its tether (R392); HANDBACK stands until its tasks have drained (R394). -/
def execTwinTick (port : Nat) (s : State) : Res :=
  .next (if port < 4 ∧ s.deaf = false ∧ s.magRole port = 1 ∧ s.magUp port = true ∧ s.magTwin port = true then
    s.twinSend port (if s.twinState port = 3 then 3 else if s.owns (s.volOf (s.magVol port)).commons then 2 else 1)
  else s)

/-- The last task accepted before HANDBACK has completed: STANDBY (R394). -/
def execHandbackDrained (port : Nat) (s : State) : Res :=
  .next (if s.twinState port = 3 ∧ (upto 64).all (fun r => (s.magTask port r).state ≠ 1) = true then s.twinSend port 1 else s)

/-- A TWIN folio: the dock role has no use for it; it is taken (R382, R392). -/
def execMagTwin (port err : Nat) (f : List Byte) (s : State) : Res :=
  .next (s.magRecv port err f (fun h => s.magRole port = 2 && h.type = 0x17) (fun h s =>
    s.putMagPort port { s.magPort port with heard := fieldAt h.data 0 1, epoch := fieldAt h.data 4 4 }))

/-- An ABORT_REPLY folio is taken (R382). -/
def execMagAbortReply (port err : Nat) (f : List Byte) (s : State) : Res :=
  .next (s.magRecv port err f (fun h => s.magRole port = 2 && h.type = 0x15) (fun _ s => s))

/-- A NOTICE folio is taken (R382). -/
def execMagNotice (port err : Nat) (f : List Byte) (s : State) : Res :=
  .next (s.magRecv port err f (fun h => s.magRole port = 2 && h.type = 0x16) (fun _ s => s))

/-- Statuses of tasks the partner had accepted go out on the adopting head's tether (R393). -/
def State.twinStatuses (s : State) (p : Nat) : State :=
  let l := (s.magPort p).adopted
  if s.magUp p then
    l.foldl (fun s a => match a with
      | [r, st, client, bytes, reeve] => s.magSend p 0x11 0 r 0 (taskBlock st 0 bytes reeve client)
      | _ => s) (s.putMagPort p { s.magPort p with adopted := [] })
  else s

/-- MAGPORT_SUMMARY (R401). -/
def State.viewMagSummary (s : State) : Nat := (upto 4).foldl (fun n p => n + s.magState p * 2 ^ (4 * p)) 0

/-- MAGPORT_Pp_TASK (R401). -/
def State.viewMagTask (s : State) (p : Nat) : Nat :=
  let t := s.magTask p (s.getF (magF F.MAGPORT_P_TASK_SEL_VAL p))
  (t.tag - 1) * 2 ^ 48 + t.status * 2 ^ 32 + t.op * 2 ^ 16 + t.state

end Sys2Proof.Machine
end

