-- ==== Sys2Proof/Machine/Repl.lean ====
section
/-! DEFINITION. Vault settings (R226), snapshots (R237 to R241) and replication links (R242 to R249). -/
namespace Sys2Proof.Machine

/-! ### Vaults (R226) -/

/-- Whether a volume holds a mapped grain. -/
def State.volMapped (s : State) (v : Nat) : Bool := s.stew.map.any (fun p => p.1 / 2 ^ 48 = v && p.2.any (fun e => !decide (e = 0)))

/-- Set a vault where the rule allows it: the status, and the state. -/
def State.vaultSet (s : State) (v vault : Nat) : Status × State :=
  if (s.volOf v).slot ≠ 0 ∨ s.volMapped v = true then (0x70C0, s) else (0, s.setF (F.SIEVE_VOL_CFG_VAULT.at v) vault)

/-- A write of SIEVE_VOL_CFG takes effect whole: VAULT by its rule, and DEDUP (R226). -/
def State.volCfgSet (s : State) (v vault dedup : Nat) : Status × State :=
  let r := s.vaultSet v vault
  (r.1, if r.1 = 0 then r.2.setF (F.SIEVE_VOL_CFG_DEDUP.at v) dedup else s)

/-- A write of SIEVE_VOL_CFG of the selected volume: DEDUP, and VAULT, which in PAIRED is an act of the array: the whole write
waits for it (R226). -/
def State.volCfgWrite (s : State) (w : Word) : State :=
  let v := s.getF F.SIEVE_VOL_SEL_VAL
  let vault := F.SIEVE_VOL_CFG_VAULT.get w
  let dedup := F.SIEVE_VOL_CFG_DEDUP.get w
  if vault = s.getF (F.SIEVE_VOL_CFG_VAULT.at v) then
    (s.setF (F.SIEVE_VOL_CFG_DEDUP.at v) dedup).stat (F.SIEVE_VOL_CFG_STATUS.at v) 0
  else if (s.volOf v).slot ≠ 0 ∨ s.volMapped v = true then s.stat (F.SIEVE_VOL_CFG_STATUS.at v) 0x70C0
  else if s.mode = .paired then (s.answer 0).askAct 3 v vault dedup []
  else
    let r := s.volCfgSet v vault dedup
    r.2.stat (F.SIEVE_VOL_CFG_STATUS.at v) r.1

/-- SIEVE_VOL_CFG is written (R226). -/
def execSieveVaultWrite (v : Word) (s : State) : Res := .next (s.volCfgWrite v)

/-! ### Snapshots (R237 to R241) -/

/-- A snapshot's key. -/
def snapKey (v e : Nat) : Nat := v * 2 ^ 32 + e

/-- A snapshot. -/
def State.snapOf (s : State) (v e : Nat) : Snap := s.sieve.snaps.get (snapKey v e)

/-- Put a snapshot, and the volume's count of retained ones. -/
def State.putSnap (s : State) (v e : Nat) (x : Snap) : State :=
  let s1 := { s with sieve := { s.sieve with snaps := s.sieve.snaps.set (snapKey v e) x } }
  s1.setF (F.SIEVE_VOL_SNAPS_VAL.at v) ((s1.sieve.snaps.filter (fun p => p.1 / 2 ^ 32 = v && p.2.state = 1)).length)

/-- Whether a set of volumes has room for one more snapshot each (R240). -/
def State.snapRoom (s : State) (vs : List Nat) : Bool :=
  vs.all (fun v => decide (s.getF (F.SIEVE_VOL_SNAPS_VAL.at v) < 256)) &&
    decide ((s.sieve.snaps.filter (fun p => p.2.state = 1)).length + vs.length ≤ 65536)

/-- Take the snapshots of some volumes at epoch e and raise the epoch, with an EPOCH record in the Daybook of each
commons that holds one (R237, R238, R283). -/
def State.snapTake (s : State) (vs : List Nat) (e : Nat) : State :=
  let reeve := s.now
  let s1 := vs.foldl (fun s v =>
    s.putSnap v e { state := 1, presented := 0, reeve := reeve, map := s.stew.map.filter (fun p => p.1 / 2 ^ 48 = v) }) s
  let s2 := (s1.setF F.SIEVE_EPOCH_VAL (e + 1)).tick
  let body (l : List Nat) : List Byte :=
    leBytes 4 e ++ leBytes 4 l.length ++ leBytes 8 reeve ++ l.flatMap (leBytes 2) ++ List.replicate ((8 - l.length * 2 % 8) % 8) 0
  (s2.hold.formed.filter (fun c => s2.owns c)).foldl (fun s c =>
    let l := vs.filter (fun v => (s.volOf v).commons = c)
    if l.isEmpty then s else s.dbCommit c [(0x0B, body l)]) s2

/-- The volumes of SIEVE_SNAP_SET0 to 15 (R239). -/
def State.snapSet (s : State) : List Nat :=
  (upto 64).foldl (fun l i =>
    let w := s.getF (F.SIEVE_SNAP_SET_ALL.nth (i / 4)) / 2 ^ (16 * (i % 4))
    if w.testBit 15 ∧ l.contains (w % 4096) = false then l ++ [w % 4096] else l) []

/-- A snapshot request: BUSY refuses it (R251). -/
def State.snapRequest (s : State) (f : State → State) : State :=
  if s.getF F.SIEVE_SNAP_CTL_BUSY = 1 then s.answer 0x80C1
  else f s

/-- SIEVE_SNAP_CTL TAKE: at one Reeve number on one head; over both heads with a barrier, which the partner answers
(R239). -/
def execSnapTake (s : State) : Res :=
  .next (s.snapRequest (fun s =>
    let vs := s.snapSet
    let e := s.poolEpoch
    let mine := vs.all (fun v => s.owns (s.volOf v).commons)
    if s.feat 35 = false then s.stat F.SIEVE_SNAP_CTL_STATUS 0x5064
    else if vs.isEmpty = true ∨ vs.any (fun v => (s.volOf v).size = 0) = true then s.stat F.SIEVE_SNAP_CTL_STATUS 0x50C0
    else if s.snapRoom vs = false then s.stat F.SIEVE_SNAP_CTL_STATUS 0x80C0
    else if mine then ((s.snapTake vs e).setF F.SIEVE_SNAP_CTL_EPOCH e).stat F.SIEVE_SNAP_CTL_STATUS 0
    else if s.mode = .paired then
      (({ s with sieve := { s.sieve with barrier := vs, barrierEpoch := e } }.setF F.SIEVE_SNAP_CTL_BUSY 1).answer 0).askAct 4 e
        vs.length 0 (vs.flatMap (leBytes 2))
    else s.stat F.SIEVE_SNAP_CTL_STATUS 0x60C0))

/-- This head's barrier falls (R239): the set stands at an epoch, or is abandoned. -/
def State.barrierEnd (s : State) (epoch : Option Nat) : State :=
  let s1 := { s with sieve := { s.sieve with barrier := [], barrierEpoch := 0 } }.setF F.SIEVE_SNAP_CTL_BUSY 0
  match epoch with
  | some e => (s1.setF F.SIEVE_SNAP_CTL_EPOCH e).setF F.SIEVE_SNAP_CTL_STATUS 0
  | none => s1.setF F.SIEVE_SNAP_CTL_STATUS 0x60C0

/-- Whether a replication link of this head holds a snapshot (R241). -/
def State.snapHolders (s : State) (v e : Nat) : Nat :=
  (s.sieve.links.filter (fun p => decide (p.1 < 16) && s.getF (F.SIEVE_REPL_CFG_SOURCE_VOL.at p.1) = v &&
    (p.2.base = e + 1 || p.2.sending = e + 1))).length

/-- SIEVE_SNAP_CTL DELETE (R241). -/
def execSnapDelete (s : State) : Res :=
  .next (s.snapRequest (fun s =>
    let v := s.getF F.SIEVE_SNAP_ARG_VOLUME
    let e := s.getF F.SIEVE_SNAP_ARG_EPOCH
    let x := s.snapOf v e
    if x.state ≠ 1 then s.stat F.SIEVE_SNAP_CTL_STATUS 0x50C0
    else if x.presented ≠ 0 ∨ s.snapHolders v e ≠ 0 then s.stat F.SIEVE_SNAP_CTL_STATUS 0x70C1
    else (s.putSnap v e { x with state := 2 }).stat F.SIEVE_SNAP_CTL_STATUS 0))

/-- SIEVE_SNAP_CTL PRESENT: a read-only volume under a free number, with recipe, vault and commons of its source
(R240). -/
def execSnapPresent (s : State) : Res :=
  .next (s.snapRequest (fun s =>
    let v := s.getF F.SIEVE_SNAP_ARG_VOLUME
    let e := s.getF F.SIEVE_SNAP_ARG_EPOCH
    let a := s.getF F.SIEVE_SNAP_ARG_AT_VOLUME
    let x := s.snapOf v e
    let src := s.volOf v
    if x.state ≠ 1 ∨ x.presented ≠ 0 then s.stat F.SIEVE_SNAP_CTL_STATUS 0x50C0
    else if (s.volOf a).size ≠ 0 then s.stat F.SIEVE_SNAP_CTL_STATUS 0x70C5
    else if s.owns src.commons = false then s.stat F.SIEVE_SNAP_CTL_STATUS 0x7060
    else
      let s1 := (s.putSnap v e { x with presented := a + 1 }).putVol a
        { src with readOnly := true, presented := e + 1, presVol := v }
      let s2 := ((s1.setF (F.SIEVE_VOL_CFG_READ_ONLY.at a) 1).setF (F.SIEVE_VOL_CFG_VAULT.at a)
        (s.getF (F.SIEVE_VOL_CFG_VAULT.at v))).streamOpenVol a
      s2.stat F.SIEVE_SNAP_CTL_STATUS 0))

/-- SIEVE_SNAP_CTL WITHDRAW (R240). -/
def execSnapWithdraw (s : State) : Res :=
  .next (s.snapRequest (fun s =>
    let v := s.getF F.SIEVE_SNAP_ARG_VOLUME
    let e := s.getF F.SIEVE_SNAP_ARG_EPOCH
    let x := s.snapOf v e
    if x.presented = 0 then s.stat F.SIEVE_SNAP_CTL_STATUS 0x50C0
    else
      let a := x.presented - 1
      let s1 := ((s.putSnap v e { x with presented := 0 }).putVol a default).streamClose a
      (s1.setF (F.SIEVE_VOL_CFG_READ_ONLY.at a) 0).stat F.SIEVE_SNAP_CTL_STATUS 0))

/-! ### Links: sending (R242 to R246) -/

/-- A link. Links 0 to 15 send; a receiving one stands under its peer and number. -/
def State.linkOf (s : State) (k : Nat) : Link := s.sieve.links.get k

/-- State codes of R242. -/
def State.linkState (s : State) (k : Nat) : Nat := s.getF (F.SIEVE_REPL_STATE_STATE.at k)

/-- Set a link's state; BUSY ends with OPENING. -/
def State.setLink (s : State) (k st : Nat) : State :=
  (s.setF (F.SIEVE_REPL_STATE_STATE.at k) st).setF (F.SIEVE_REPL_CTL_BUSY.at k) (b2n (st = 1))

/-- Note a link's last status. -/
def State.linkStatus (s : State) (k : Nat) (st : Status) : State := s.setF (F.SIEVE_REPL_STATE_LAST_STATUS.at k) st

/-- The source volume of a link. -/
def State.linkVol (s : State) (k : Nat) : Nat := s.getF (F.SIEVE_REPL_CFG_SOURCE_VOL.at k)

/-- A record of R246. -/
def replRecord (type link batch epoch count : Nat) (body : List Byte) : List Byte :=
  leBytes 1 type ++ leBytes 1 0 ++ leBytes 2 link ++ leBytes 4 batch ++ leBytes 4 epoch ++ leBytes 4 count ++ body

/-- Send a record to a peer under a vault's replication key (R243, R356). -/
def State.replSend (s : State) (peer vault : Nat) (rec_ : List Byte) (w : CarWait) : State :=
  s.carSend peer 0x16 (3 + 256 * (vault % 256)) rec_ w

/-- Send a record of a link. -/
def State.linkSend (s : State) (k type epoch count : Nat) (body : List Byte) : State :=
  s.replSend (s.getF (F.SIEVE_REPL_PEER_VAL.at k)) (s.getF (F.SIEVE_VOL_CFG_VAULT.at (s.linkVol k)))
    (replRecord type k (s.getF (F.SIEVE_REPL_STATE_BATCH.at k)) epoch count body) (.repl k)

/-- Release a snapshot that a link took. -/
def State.snapRelease (s : State) (v e1 : Nat) : State :=
  if e1 = 0 then s
  else
    let x := s.snapOf v (e1 - 1)
    if x.state = 1 ∧ x.presented = 0 then s.putSnap v (e1 - 1) { x with state := 2 } else s

/-- Grains, as numbers within the volume, whose map value differs between two maps. -/
def mapDiff (v : Nat) (a b : AMap (List (BitVec 128))) : List Nat :=
  let ks := (a.keys ++ b.keys).foldl (fun l k => if l.contains k then l else insertNat k l) []
  (ks.filter (fun k => k / 2 ^ 48 = v && !decide (a.get k = b.get k))).map (fun k => k % 2 ^ 48)

/-- Internal commands' queue (R122). -/
def State.internalQueue (s : State) : Option Nat := (s.docket.queues.find? (fun p => p.2.kind = kInternal)).map Prod.fst

/-- Length of the run of consecutive grains a list begins with, at most 4,096. -/
def runLen : List Nat → Nat
  | [] => 0
  | [_] => 1
  | a :: b :: r => if b = a + 1 then min 4096 (1 + runLen (b :: r)) else 1

/-- Go on with a batch: offers first, then one COPY command at a time over the grains still to send, then COMMIT
(R245). -/
def State.linkGo (s : State) (k : Nat) : State :=
  let l := s.linkOf k
  let v := s.linkVol k
  let e := l.sending - 1
  if l.offered.isEmpty = false ∨ l.copying ≠ 0 then s
  else if l.toOffer.isEmpty = false then
    let now := l.toOffer.take 1024
    let m := (s.snapOf v e).map
    let item (g : Nat) : List Byte :=
      let x := GrainMap.whole (m.get (v * 2 ^ 48 + g))
      let key := (s.extent (eCommons x * 2 ^ 43 + eSlot x)).sieve - 1
      leBytes 8 (g * 16) ++ leBytes 32 (key % 2 ^ 256) ++ leBytes 1 (eSlots x) ++ leBytes 7 0
    (s.putLink k { l with offered := now, toOffer := l.toOffer.drop 1024 }).linkSend k 0x03 e now.length (now.flatMap item)
  else if l.todo.isEmpty = false then
    match s.internalQueue with
    | none => s
    | some q =>
      let n := runLen l.todo
      let t : Tag := { (default : Tag) with
        entry := 10, vol := v, leaf := l.todo.headD 0 * 16, leaves := n * 16, frame := k, stream := 0xFFFF }
      if s.internalRoom q = false then s else ((s.putLink k { l with copying := n }).accept q t 0 0).2
  else (s.setLink k (if s.linkState k = 7 then 7 else 3)).linkSend k 0x07 e 0 (leBytes 8 (l.records + l.held) ++ leBytes 8 l.bytes)

/-- Start, or start again, to send the batch of a link from its snapshot. -/
def State.batchSend (s : State) (k : Nat) : State :=
  let l := s.linkOf k
  let v := s.linkVol k
  let m := (s.snapOf v (l.sending - 1)).map
  let offers := s.getF (F.SIEVE_REPL_CFG_OFFERS.at k) = 1
  let off := l.batch.filter (fun g =>
    let x := m.get (v * 2 ^ 48 + g)
    offers && x.length = 1 && eIndexed (GrainMap.whole x) &&
      decide ((s.extent (eCommons (GrainMap.whole x) * 2 ^ 43 + eSlot (GrainMap.whole x))).sieve ≠ 0))
  (s.putLink k { l with todo := l.batch, toOffer := off, offered := [], records := 0, bytes := 0, held := 0, copying := 0 }).linkGo k

/-- A new batch over some grains: a snapshot of the source volume, the next BATCH (R245); st is the state the link
shows while it sends. -/
def State.batchNew (s : State) (k st : Nat) (grains : State → Nat → List Nat) : State :=
  let v := s.linkVol k
  if s.snapRoom [v] = false then s.linkStatus k 0x80C0
  else
    let e := s.poolEpoch
    let s1 := (s.snapTake [v] e).setLink k st
    let s2 := (s1.setF (F.SIEVE_REPL_STATE_BATCH.at k) (s1.getF (F.SIEVE_REPL_STATE_BATCH.at k) + 1)).setF (F.SIEVE_REPL_EPOCHS_SENT.at k) e
    (s2.putLink k { s2.linkOf k with sending := e + 1, batch := grains s2 e }).batchSend k

/-- An asynchronous cycle (R245): what differs between the base snapshot and the new one; all that is mapped where
there is no base. -/
def State.linkCycle (s : State) (k : Nat) : State :=
  s.batchNew k 2 (fun s e =>
    let v := s.linkVol k
    let l := s.linkOf k
    mapDiff v (if l.base = 0 then [] else (s.snapOf v (l.base - 1)).map) (s.snapOf v e).map)

/-- Send the grains marked while the mirror was out of step (R248). -/
def State.linkCatchUp (s : State) (k : Nat) : State :=
  let l := s.linkOf k
  (s.putLink k { l with catchUp := [] }).batchNew k 7 (fun _ _ => l.catchUp)

/-- Send OPEN (R243, R246). -/
def State.linkOpen (s : State) (k : Nat) : State :=
  let v := s.linkVol k
  let vault := s.getF (F.SIEVE_VOL_CFG_VAULT.at v)
  let l := s.linkOf k
  let body := leBytes 2 (s.getN R.SIEVE_CFG / 2 ^ 48) ++ leBytes 1 s.slotNo ++ leBytes 1 (s.getF (F.SIEVE_REPL_CFG_MODE.at k)) ++
    leBytes 1 vault ++ leBytes 3 0 ++ leBytes 2 v ++ leBytes 2 (s.getF (F.SIEVE_REPL_CFG_TARGET_VOL.at k)) ++ leBytes 4 0 ++
    leBytes 8 (s.mill.slots.get (0x100 + vault)).ident ++ leBytes 4 (l.base - 1) ++ leBytes 4 0
  (s.setLink k 1).linkSend k 0x01 0 0 body

/-- SIEVE_REPL_CTL OPEN of the selected link (R242). -/
def execReplOpen (s : State) : Res :=
  let k := s.getF F.SIEVE_REPL_SEL_VAL
  let mode := s.getF (F.SIEVE_REPL_CFG_MODE.at k)
  let f := F.SIEVE_REPL_CTL_STATUS.at k
  .next (
    if s.linkState k ≠ 0 ∧ s.linkState k ≠ 9 then s.stat f 0x70C4
    else if mode = 0 ∨ mode = 3 ∨ (s.volOf (s.linkVol k)).size = 0 then s.stat f 0x50C0
    else if s.feat (35 + mode) = false then s.stat f 0x5064
    else if s.owns (s.volOf (s.linkVol k)).commons = false then s.stat f 0x7060
    else if s.peerLive (s.getF (F.SIEVE_REPL_PEER_VAL.at k)) = false then ((s.setLink k 9).linkStatus k 0x8113).stat f 0x8113
    else ((s.setF (F.SIEVE_REPL_BYTES_ALL.at k) 0).linkOpen k).stat f 0)

/-- Complete the writes a link withholds (R247, R248): with a status, or with their own where it is 0. -/
def State.waitsEnd (s : State) (k : Nat) (st : Status) : State :=
  let ws := (s.linkOf k).waits
  ws.foldl (fun s w => if st = 0 then s.docketEnd w.tag w.status w.detail else s.docketEnd w.tag st 0)
    ((s.putLink k { s.linkOf k with waits := [] }).setF (F.SIEVE_REPL_LAG_UNACKED.at k) 0)

/-- SIEVE_REPL_CTL CLOSE: IDLE, the link's snapshots released (R242). -/
def execReplClose (s : State) : Res :=
  let k := s.getF F.SIEVE_REPL_SEL_VAL
  let l := s.linkOf k
  let v := s.linkVol k
  let s1 := (s.waitsEnd k 0).putLink k default
  .next ((((s1.snapRelease v l.base).snapRelease v l.sending).setLink k 0).stat (F.SIEVE_REPL_CTL_STATUS.at k) 0)

/-- SIEVE_REPL_CTL CYCLE_NOW on a WAITING link (R242). -/
def execReplCycleNow (s : State) : Res :=
  let k := s.getF F.SIEVE_REPL_SEL_VAL
  .next (if s.linkState k = 4 then (s.linkCycle k).stat (F.SIEVE_REPL_CTL_STATUS.at k) 0 else s.stat (F.SIEVE_REPL_CTL_STATUS.at k) 0x50C0)

/-- CYCLE_S passes on a WAITING link (R245). -/
def execReplCycleExpiry (link : Nat) (s : State) : Res :=
  .next (if link < 16 ∧ s.linkState link = 4 then s.linkCycle link else s)

/-- Every mapped grain of a volume. -/
def State.volGrains (s : State) (v : Nat) : List Nat := mapDiff v [] s.stew.map

/-- An OPEN_REPLY arrives at link k (R242): HELD_EPOCH says whether the base still stands at the target. A batch
that was under way is sent again (R250). -/
def State.recOpenReply (s : State) (k : Nat) (body : List Byte) : State :=
  let st := fieldAt body 0 2
  let held := fieldAt body 4 4
  let l := s.linkOf k
  let v := s.linkVol k
  if 16 ≤ k ∨ s.linkState k ≠ 1 then s
  else if st ≠ 0 then (s.setLink k 9).linkStatus k st
  else
    let s1 := (s.linkStatus k 0).setF (F.SIEVE_REPL_EPOCHS_HELD.at k) held
    let keep := l.base ≠ 0 && l.base - 1 = held
    let s2 := if keep then s1 else (s1.snapRelease v l.base).putLink k { l with base := 0 }
    if s.getF (F.SIEVE_REPL_CFG_MODE.at k) = 1 then
      (if l.sending ≠ 0 then (s2.setLink k 2).batchSend k else s2.setLink k 4)
    else
      let marks := if l.heldEpoch = 0 ∧ l.catchUp.isEmpty = true then s2.volGrains v else l.catchUp
      (s2.putLink k { s2.linkOf k with catchUp := marks }).linkCatchUp k

/-- A HAVE arrives (R245): the offers it marks are not sent. -/
def State.recHave (s : State) (k : Nat) (body : List Byte) : State :=
  let l := s.linkOf k
  let bits := leNat (body.take 128)
  let has := (upto l.offered.length).filter (fun i => bits.testBit i)
  let gone := has.map (fun i => l.offered.getD i 0)
  if 16 ≤ k ∨ l.offered.isEmpty = true then s
  else (s.putLink k { l with offered := [], held := l.held + has.length, todo := l.todo.filter (fun g => !gone.contains g) }).linkGo k

/-- A COPY command of a link ends (R245): the grains it covered are done, or, where it failed, the link stops with
its status. -/
def State.copyEnd (s : State) (k : Nat) (st : Status) : State :=
  let l := s.linkOf k
  if 16 ≤ k ∨ l.copying = 0 then s
  else if classOf st < 2 then (s.putLink k { l with todo := l.todo.drop l.copying, copying := 0 }).linkGo k
  else (s.putLink k { l with copying := 0 }).linkStatus k st

/-- A GRAIN or UNMAP record leaves by CARRY (R245): it counts toward COMMIT. -/
def State.replCount (s : State) (rec_ : List Byte) : State :=
  let k := fieldAt rec_ 2 2
  let l := s.linkOf k
  if 16 ≤ k then s
  else if fieldAt rec_ 0 1 = 5 then
    let n := rec_.length - 40
    (s.putLink k { l with records := l.records + 1, bytes := l.bytes + n }).addN (R.SIEVE_REPL_BYTES + k * 4294967296) n
  else if fieldAt rec_ 0 1 = 6 then s.putLink k { l with records := l.records + fieldAt rec_ 12 4 }
  else s

/-- A COMMIT_ACK arrives (R242, R245, R248). -/
def State.recCommitAck (s : State) (k : Nat) (body : List Byte) : State :=
  let st := fieldAt body 0 2
  let l := s.linkOf k
  let v := s.linkVol k
  let was := s.linkState k
  let sent := l.sending ≠ 0 && l.offered.isEmpty && l.toOffer.isEmpty && l.todo.isEmpty && l.copying = 0
  if 16 ≤ k ∨ (was ≠ 3 ∧ was ≠ 7) ∨ sent = false then s
  else if st ≠ 0 then (((s.linkStatus k st).setLink k (if s.getF (F.SIEVE_REPL_CFG_MODE.at k) = 1 then 2 else 7))).batchSend k
  else
    let s1 := ((s.linkStatus k 0).setF (F.SIEVE_REPL_EPOCHS_HELD.at k) (fieldAt body 4 4)).snapRelease v l.base
    let done : Link := { l with base := l.sending, sending := 0, batch := [], todo := [], lastCommit := s.opsec, heldEpoch := l.sending }
    if s.getF (F.SIEVE_REPL_CFG_MODE.at k) = 1 then (s1.putLink k done).setLink k 4
    else
      let s2 := (s1.snapRelease v l.sending).putLink k { done with base := 0 }
      if l.catchUp.isEmpty then s2.setLink k 5 else s2.linkCatchUp k

/-! ### Synchronous mirroring: sending (R247, R248) -/

/-- The sealed bytes of slots: from the Till, or from flash (assumption log 8). -/
def State.slotData (s : State) (c slot n : Nat) : List Byte :=
  match s.tillRead c slot n with
  | some d => d
  | none => (upto (n * 4096)).map (fun i => Config.flashByte (c * 2 ^ 43 + slot) i)

/-- A body of GRAIN form for an update (R246). -/
def State.grainBody (s : State) (u : MapUpd) : List Byte :=
  let x := u.entry
  leBytes 8 (u.addr % 2 ^ 52) ++ leBytes 1 (if u.leaf then 2 else 1) ++ leBytes 1 (eSlots x) ++ leBytes 6 0 ++ leBytes 8 (eTweak x) ++
    (if eSlots x = 0 then [] else s.slotData (eCommons x) (eSlot x) (eSlots x))

/-- Group bodies into parts that fit a Carrier message. -/
def syncParts : List (List Byte) → List (List Byte) → Nat → List (List (List Byte))
  | [], cur, _ => [cur]
  | x :: r, cur, n =>
    if 1048544 < n + x.length ∧ cur ≠ [] then cur :: syncParts r [x] x.length else syncParts r (cur ++ [x]) (n + x.length)

/-- Links in step with a volume. -/
def State.syncedLinks (s : State) (v : Nat) : List Nat :=
  (upto 16).filter (fun k => s.linkState k = 5 && s.linkVol k = v)

/-- Send a committed write on its synchronous links and, with the last of a chain, withhold its completion
(R135, R247). -/
def State.syncSend (s : State) (tag vol reeve : Nat) (us : List MapUpd) (last : Bool) (st : Status) (det : Nat) : State :=
  (s.syncedLinks vol).foldl (fun s k =>
    let ps := syncParts (us.map s.grainBody) [] 0
    let s1 := (upto ps.length).foldl (fun s i =>
      let p := ps.getD i []
      s.linkSend k 0x09 0 p.length (leBytes 8 reeve ++ leBytes 2 i ++ leBytes 1 (b2n (i + 1 = ps.length)) ++ leBytes 5 0 ++ p.flatMap id)) s
    let l := s1.linkOf k
    if last = false then s1 else
    let w : SyncWait := { seq := reeve, tag := tag, status := st, detail := det, at_ := s.time }
    (s1.putLink k { l with waits := l.waits ++ [w] }).setF (F.SIEVE_REPL_LAG_UNACKED.at k) (l.waits.length + 1)) s

/-- A SYNC_ACK arrives (R247): the completion is released and carries the remote status where that is not 0. -/
def State.recSyncAck (s : State) (k : Nat) (body : List Byte) : State :=
  let l := s.linkOf k
  let seq := fieldAt body 0 8
  let st := fieldAt body 8 2
  match l.waits.find? (fun w => w.seq = seq) with
  | none => s
  | some w =>
    let s1 := (s.putLink k { l with waits := l.waits.filter (fun x => x.seq ≠ seq) }).setF (F.SIEVE_REPL_LAG_UNACKED.at k) (l.waits.length - 1)
    let s2 := if st = 0 then s1 else s1.linkStatus k st
    if s2.withheld w.tag ∧ st = 0 then s2
    else if st = 0 then s2.docketEnd w.tag w.status w.detail else s2.docketEnd w.tag st 0

/-- Grains a withheld write covers. -/
def State.waitGrains (s : State) (l : Link) : List Nat :=
  l.waits.flatMap (fun w =>
    let g := s.tagOf w.tag
    (upto ((g.leaf + g.leaves + 15) / 16 - g.leaf / 16)).map (fun i => g.leaf / 16 + i))

/-- A link is lost, or a write is not acknowledged in 50 ms (R248, R250). -/
def State.linkLost (s : State) (k : Nat) : State :=
  let st := s.linkState k
  let l := s.linkOf k
  if 16 ≤ k then s
  else if s.getF (F.SIEVE_REPL_CFG_MODE.at k) = 2 ∧ (st = 5 ∨ st = 7 ∨ st = 3) then
    let halt := s.getF (F.SIEVE_REPL_CFG_HALT.at k) = 1
    let marks := (l.batch ++ s.waitGrains l).foldl (fun m g => if m.contains g then m else m ++ [g]) l.catchUp
    let s1 := (s.snapRelease (s.linkVol k) l.sending).putLink k
      { l with catchUp := marks, batch := [], todo := [], toOffer := [], offered := [], copying := 0, sending := 0 }
    (s1.setLink k (if halt then 8 else 6)).waitsEnd k (if halt then 0x70C3 else 0)
  else if st = 2 ∨ st = 3 then
    (s.putLink k { l with todo := [], toOffer := [], offered := [], copying := 0 }).linkOpen k
  else s

/-- A synchronous write is not acknowledged within 50 ms (R248). -/
def execSyncAckTimeout (link : Nat) (s : State) : Res :=
  .next (if (s.linkOf link).waits.isEmpty then s else s.linkLost link)

/-- A replication link is lost (R248). -/
def execReplLinkLost (link : Nat) (s : State) : Res := .next (s.linkLost link)

/-- A link returns (R248, R250): the marked grains are sent; an asynchronous one opens again. -/
def execReplLinkReturn (link : Nat) (s : State) : Res :=
  .next (
    if 16 ≤ link then s
    else if s.linkState link = 6 ∨ s.linkState link = 8 then s.linkCatchUp link
    else if s.linkState link = 1 then s.linkOpen link
    else s)

/-! ### Links: receiving (R243, R245, R247) -/

/-- Key of a receiving link: the sender's peer number and its link. -/
def rxLink (peer link : Nat) : Nat := 16 + peer * 65536 + link % 65536

/-- Answer a record on a receiving link. -/
def State.rxSend (s : State) (peer link batch epoch vault type : Nat) (body : List Byte) : State :=
  s.replSend peer vault (replRecord type link batch epoch 0 body) .nothing

/-- The vault of a receiving link's target. -/
def State.rxVault (s : State) (k : Nat) : Nat := s.getF (F.SIEVE_VOL_CFG_VAULT.at (s.linkOf k).tgtVol)

/-- Discard a staging epoch and its references (R245). -/
def State.stageDrop (s : State) (k : Nat) : State :=
  let l := s.linkOf k
  let s1 := l.stageRefs.foldl State.sieveUndo s
  let placed := l.staging.filter (fun u => eSlots u.entry ≠ 0 && !l.stageRefs.any (fun o => eBare o.entry = eBare u.entry))
  let s2 := placed.foldl (fun s u =>
    let x := eCommons u.entry * 2 ^ 43 + eSlot u.entry
    s.putExtent x { s.extent x with death := s.poolEpoch + 1 }) s1
  s2.putLink k { l with staging := [], stageRecs := 0, stageBytes := 0, stageRefs := [], parts := [] }

/-- A replication OPEN is taken (R243): the vault's key must be this head's own. -/
def State.recOpen (s : State) (peer link batch : Nat) (body : List Byte) : State :=
  let k := rxLink peer link
  let mode := fieldAt body 3 1
  let vault := fieldAt body 4 1
  let t := fieldAt body 10 2
  let x := s.volOf t
  let st :=
    if 4096 ≤ t ∨ x.size = 0 ∨ s.getF (F.SIEVE_VOL_CFG_VAULT.at t) ≠ vault ∨ mode = 0 ∨ 2 < mode then 0x50C0
    else if s.feat (35 + mode) = false then 0x5064
    else if s.owns x.commons = false then 0x7060
    else if (s.mill.slots.get (0x100 + vault)).state ≠ 1 ∨ (s.mill.slots.get (0x100 + vault)).ident ≠ fieldAt body 16 8 then 0x70C2
    else 0
  let held := (s.linkOf k).heldEpoch
  let s1 := if st ≠ 0 then s
    else
      let s2 := s.stageDrop k
      (((s2.putLink k { s2.linkOf k with target := true, tgtVol := t, arrayNo := fieldAt body 0 2 * 256 + fieldAt body 2 1 }).putVol t
        { x with readOnly := true }).setF (F.SIEVE_VOL_CFG_READ_ONLY.at t) 1)
  s1.rxSend peer link batch 0 vault 0x02 (leBytes 2 st ++ leBytes 2 0 ++ leBytes 4 (if st = 0 then held else 0))

/-- An OFFER is taken (R245): a reference for each fingerprint held, by LOOKUP rules, and HAVE in answer. -/
def State.recOffer (s : State) (peer link batch epoch count : Nat) (body : List Byte) : State :=
  let k := rxLink peer link
  let l := s.linkOf k
  let c := (s.volOf l.tgtVol).commons
  let r := (upto (min count 1024)).foldl (fun (a : State × Nat) i =>
    let s := a.1
    let it := (body.drop (48 * i)).take 48
    let key := fpKey c (s.rxVault k) ((it.drop 8).take 32)
    let x := s.sieveRec key
    if s.excluded l.tgtVol = false ∧ s.filterPass key = true ∧ s.recLive x = true then
      let o : SieveOp := { op := if x.defunct then 4 else 2, key := key, vol := l.tgtVol, entry := x.entry }
      let u : MapUpd := { leaf := false, cond := false, addr := l.tgtVol * 2 ^ 52 + fieldAt it 0 8 % 2 ^ 52, entry := x.entry, expect := 0 }
      let s1 := s.sieveApply o
      let l1 := s1.linkOf k
      (s1.putLink k { l1 with staging := l1.staging ++ [u], stageRefs := l1.stageRefs ++ [o], stageRecs := l1.stageRecs + 1 }, a.2 + 2 ^ i)
    else a) (s, 0)
  if l.target then r.1.rxSend peer link batch epoch (s.rxVault k) 0x04 (leBytes 128 r.2) else s

/-- Place sealed slots for a replicated grain or leaf: the update, and the state; where no slot is to be had, none. -/
def State.replPlace (s : State) (vol : Nat) (leaf : Bool) (addr tweak : Nat) (data : List Byte) : Option MapUpd × State :=
  let n := data.length / 4096
  let c := (s.volOf vol).commons
  let a := vol * 2 ^ 52 + addr % 2 ^ 52
  if n = 0 then (some { leaf := leaf, cond := false, addr := a, entry := 0, expect := 0 }, s)
  else match s.slotAlloc c (s.getF (F.STEWARD_VOL_MEDIA_SECURE.at vol)) n false 1 with
  | none => (none, s)
  | some (slot, s1) =>
    let k := s1.till.nextPlace
    let off := s1.till.nextOff
    let p : Place := { (default : Place) with
      phase := 3, addr := a, slots := n, leaf := leaf, commons := c, slot := slot, data := data, issue := s1.now, cls := 3
      key := 2 ^ 32, off := off }
    let s2 := ({ s1 with till := { s1.till with nextPlace := k + 1, nextOff := off + n * 4096 } }.putPlace k p).putExtent
      (c * 2 ^ 43 + slot) { n := n, vol := vol, leaf := addr, birth := s1.poolEpoch, death := 0, names := 0, sieve := 0 }
    let s3 := s2.mirror 0x02 (leBytes 8 off ++ leBytes 8 a ++ leBytes 2 0 ++ leBytes 1 1 ++ leBytes 5 0 ++ leBytes 8 s2.now ++ data)
    (some { leaf := leaf, cond := false, addr := a, entry := mkEntry (if leaf then 3 else 1) false false n c slot tweak, expect := 0 }, s3)

/-- Read one body of GRAIN form: KIND, address, tweak, slots, and what follows it. -/
def grainForm (l : List Byte) : Bool × Nat × Nat × List Byte × List Byte :=
  let n := fieldAt l 9 1 % 32
  (fieldAt l 8 1 = 2, fieldAt l 0 8, fieldAt l 16 8, (l.drop 24).take (n * 4096), l.drop (24 + n * 4096))

/-- A GRAIN record is stored sealed, unchanged, into the staging epoch (R243, R245). -/
def State.recGrain (s : State) (peer link : Nat) (body : List Byte) : State :=
  let k := rxLink peer link
  let l := s.linkOf k
  let (leaf, addr, tweak, data, _) := grainForm body
  if l.target = false then s
  else
    let r := s.replPlace l.tgtVol leaf addr tweak data
    match r.1 with
    | none => (r.2.putLink k { l with stageRecs := l.stageRecs + 1, last := 0x8051 })
    | some u =>
      let l1 := r.2.linkOf k
      r.2.putLink k { l1 with staging := l1.staging ++ [u], stageRecs := l1.stageRecs + 1, stageBytes := l1.stageBytes + data.length }

/-- The updates that unmap a range: whole grains, and leaves of partial ones. -/
def unmapUpds (vol leaf n : Nat) : List MapUpd :=
  let zero (l : Bool) (a : Nat) : MapUpd := { leaf := l, cond := false, addr := vol * 2 ^ 52 + a % 2 ^ 52, entry := 0, expect := 0 }
  if n = 0 then []
  else (upto ((leaf + n + 15) / 16 - leaf / 16)).flatMap (fun i =>
    let g := leaf / 16 + i
    let lo := max leaf (g * 16)
    let hi := min (leaf + n) (g * 16 + 16)
    if hi - lo = 16 then [zero false lo] else (upto (hi - lo)).map (fun j => zero true (lo + j)))

/-- An UNMAP record unmaps ranges in the staging epoch (R245). -/
def State.recUnmap (s : State) (peer link count : Nat) (body : List Byte) : State :=
  let k := rxLink peer link
  let l := s.linkOf k
  let us := (upto count).flatMap (fun i => unmapUpds l.tgtVol (fieldAt body (16 * i) 8) (fieldAt body (16 * i + 8) 4))
  if l.target then s.putLink k { l with staging := l.staging ++ us, stageRecs := l.stageRecs + count } else s

/-- A COMMIT is taken (R245): where the counts match the staging epoch becomes the target's map in one step; where
they differ, or a grain found no slot, it is discarded with its references. -/
def State.recCommit (s : State) (peer link batch epoch : Nat) (body : List Byte) : State :=
  let k := rxLink peer link
  let l := s.linkOf k
  let vault := s.rxVault k
  if l.target = false then s
  else if fieldAt body 0 8 = l.stageRecs ∧ fieldAt body 8 8 = l.stageBytes ∧ l.last ≠ 0x8051 then
    let s1 := s.commitGroup (s.volOf l.tgtVol).commons 0 l.tgtVol l.staging l.stageRefs
    let s2 := s1.putLink k { l with staging := [], stageRecs := 0, stageBytes := 0, stageRefs := [], heldEpoch := epoch, last := 0 }
    s2.rxSend peer link batch epoch vault 0x08 (leBytes 2 0 ++ leBytes 2 0 ++ leBytes 4 epoch)
  else
    let st := if l.last = 0x8051 then 0x8051 else 0x50C1
    let s1 := s.stageDrop k
    (s1.putLink k { s1.linkOf k with last := if st = 0x8051 then 0 else st }).rxSend peer link batch epoch vault 0x08
      (leBytes 2 st ++ leBytes 2 0 ++ leBytes 4 l.heldEpoch)

/-- Place the bodies of a synchronous write, one after another. -/
def State.syncPlace (vol : Nat) : Nat → List Byte → State → List MapUpd × Bool × State
  | 0, _, s => ([], true, s)
  | n + 1, l, s =>
    if l.isEmpty then ([], true, s)
    else
      let (leaf, addr, tweak, data, rest) := grainForm l
      let r := s.replPlace vol leaf addr tweak data
      match r.1 with
      | none => ([], false, r.2)
      | some u =>
        let q := State.syncPlace vol n rest r.2
        (u :: q.1, q.2.1, q.2.2)

/-- SYNC_WRITE parts are gathered; all parts of one SEQ are applied as one group when LAST arrives (R247). -/
def State.recSyncWrite (s : State) (peer link : Nat) (body : List Byte) : State :=
  let k := rxLink peer link
  let l := s.linkOf k
  let seq := fieldAt body 0 8
  let mine := (l.parts.filter (fun p => p.1 = seq)) ++ [(seq, body.drop 16)]
  if l.target = false then s
  else if fieldAt body 10 1 = 0 then s.putLink k { l with parts := mine }
  else
    let all := mine.flatMap (fun p => p.2)
    let (us, ok, s1) := State.syncPlace l.tgtVol all.length all (s.putLink k { l with parts := [] })
    let s2 := if ok then s1.commitGroup (s1.volOf l.tgtVol).commons 0 l.tgtVol us [] else s1
    s2.rxSend peer link 0 0 (s.rxVault k) 0x0A (leBytes 8 seq ++ leBytes 2 (if ok then 0 else 0x8051) ++ leBytes 6 0)

/-! ### The records (R246) -/

/-- A record with its 16-byte header arrives from a peer. A reserved TYPE is discarded and counted as 0x50C0 in the
link's last status. -/
def State.replTake (s : State) (peer : Nat) (r : List Byte) : State :=
  let link := fieldAt r 2 2
  let batch := fieldAt r 4 4
  let epoch := fieldAt r 8 4
  let count := fieldAt r 12 4
  let body := r.drop 16
  match fieldAt r 0 1 with
  | 1 => s.recOpen peer link batch body
  | 2 => s.recOpenReply link body
  | 3 => s.recOffer peer link batch epoch count body
  | 4 => s.recHave link body
  | 5 => s.recGrain peer link body
  | 6 => s.recUnmap peer link count body
  | 7 => s.recCommit peer link batch epoch body
  | 8 => s.recCommitAck link body
  | 9 => s.recSyncWrite peer link body
  | 10 => s.recSyncAck link body
  | _ =>
    if link < 16 ∧ s.linkState link ≠ 0 then s.linkStatus link 0x50C0
    else s.putLink (rxLink peer link) { s.linkOf (rxLink peer link) with last := 0x50C0 }

/-- OPEN is taken (R243). -/
def execReplRecOpen (peer link batch : Nat) (body : List Byte) (s : State) : Res := .next (s.recOpen peer link batch body)
/-- OPEN_REPLY is taken (R242). -/
def execReplRecOpenReply (link : Nat) (body : List Byte) (s : State) : Res := .next (s.recOpenReply link body)
/-- OFFER is taken (R245). -/
def execReplRecOffer (peer link batch epoch count : Nat) (body : List Byte) (s : State) : Res :=
  .next (s.recOffer peer link batch epoch count body)
/-- HAVE is taken (R245). -/
def execReplRecHave (link : Nat) (body : List Byte) (s : State) : Res := .next (s.recHave link body)
/-- GRAIN is taken (R245). -/
def execReplRecGrain (peer link : Nat) (body : List Byte) (s : State) : Res := .next (s.recGrain peer link body)
/-- UNMAP is taken (R245). -/
def execReplRecUnmap (peer link count : Nat) (body : List Byte) (s : State) : Res := .next (s.recUnmap peer link count body)
/-- COMMIT is taken (R245). -/
def execReplRecCommit (peer link batch epoch : Nat) (body : List Byte) (s : State) : Res :=
  .next (s.recCommit peer link batch epoch body)
/-- COMMIT_ACK is taken (R242). -/
def execReplRecCommitAck (link : Nat) (body : List Byte) (s : State) : Res := .next (s.recCommitAck link body)
/-- SYNC_WRITE is taken (R247). -/
def execReplRecSyncWrite (peer link : Nat) (body : List Byte) (s : State) : Res := .next (s.recSyncWrite peer link body)
/-- SYNC_ACK is taken (R247). -/
def execReplRecSyncAck (link : Nat) (body : List Byte) (s : State) : Res := .next (s.recSyncAck link body)

end Sys2Proof.Machine
end

