-- ==== Sys2Proof/Machine/Adopt.lean ====
section
/-! DEFINITION. Replaying Daybook records (R282 to R284), the partner's overlay (R287), settling the ledger (R341),
recovery of a commons (R290, R291) and adoption from the mirror (R407, R414, R463). -/
namespace Sys2Proof.Machine

/-! ### Reading records (R282, R283) -/

/-- The first record of a run of bytes, with what follows it; none at its end, for a reserved TYPE or a failing
RCRC. -/
def firstRec (l : List Byte) : Option (DbRec × List Byte) :=
  let len := fieldAt l 2 2
  let typ := fieldAt l 0 1
  let body := (l.drop 16).take len
  if l.length < 16 + len ∨ typ = 0 ∨ 0x0E < typ ∨ 16336 < len then none
  else if fieldAt l 4 4 ≠ crc32c (l.take 4 ++ leBytes 4 0 ++ (l.drop 8).take 8 ++ body) then none
  else some ({ typ := typ, lsn := fieldAt l 8 8, body := body }, l.drop (16 + len))

/-- The records of a page or of a DAYBOOK stub, in order. -/
def parseRecs : Nat → List Byte → List DbRec
  | 0, _ => []
  | n + 1, l =>
    match firstRec l with
    | none => []
    | some (r, rest) => r :: parseRecs n rest

/-- Records in groups: a MAP_ONE, a whole GROUP_BEGIN to GROUP_END, or a record of its own; cur is the group being
gathered. What a group without its end holds is left over. -/
def splitGroups : List DbRec → List DbRec → List (List DbRec) × List DbRec
  | [], cur => ([], cur)
  | r :: rest, cur =>
    if r.typ = 0x02 then splitGroups rest [r]
    else if cur.isEmpty then let (gs, l) := splitGroups rest []
      ([r] :: gs, l)
    else if r.typ = 0x06 then let (gs, l) := splitGroups rest []
      ((cur ++ [r]) :: gs, l)
    else splitGroups rest (cur ++ [r])

/-- The map items of a record: address and entry. -/
def DbRec.items (r : DbRec) : List (Nat × BitVec 128) :=
  if r.typ = 0x01 ∨ r.typ = 0x03 then
    (pieces 24 (r.body.length / 24) r.body).map (fun x => (fieldAt x 0 8, entryOf (x.drop 8)))
  else []

/-! ### Applying records to the map -/

/-- An extent of slots that an entry of an address names, where none is known yet: its epoch of placement is taken as
the present one (assumption log 34). -/
def State.extentEnsure (s : State) (a : Nat) (e : BitVec 128) : State :=
  let k := eCommons e * 2 ^ 43 + eSlot e
  if eKind e % 2 = 1 ∧ (s.extent k).n = 0 then
    s.putExtent k { n := eSlots e, vol := a / 2 ^ 52 % 4096, leaf := a % 2 ^ 52, birth := s.poolEpoch, death := 0, names := 0, sieve := 0 }
  else s

/-- Put a grain's value, moving live names. own: the pages are this head's and become dirty; otherwise they stand on
flash, and what the cache holds of them is old. -/
def State.grainSet (s : State) (own : Bool) (g : Nat) (w : GrainMap) : State :=
  let v := s.stew.map.get g
  let a := g / 2 ^ 48 * 2 ^ 52 + g % 2 ^ 48 * 16
  let s1 := { s with stew := { s.stew with map := s.stew.map.set g w } }
  let s2 := w.foldl (fun s e => s.extentEnsure a e) s1
  let s3 := (lessOf (GrainMap.names v) (GrainMap.names w)).foldl State.nameDrop ((lessOf (GrainMap.names w) (GrainMap.names v)).foldl State.nameAdd s2)
  if own then s3.pageDirty (mapPage g)
  else { s3 with stew := { s3.stew with cache := s3.stew.cache.filter (fun p => p ≠ mapPage g) } }

/-- Whether an item of an address is a leaf entry: entries say so; an unmap names a leaf where its address is no
grain's first (assumption log 34). -/
def itemLeaf (a : Nat) (e : BitVec 128) : Bool := eKind e = 3 || (e = 0 && a % 16 ≠ 0)

/-- Apply a map item. -/
def State.itemApply (s : State) (own : Bool) (a : Nat) (e : BitVec 128) : State :=
  let g := grainKey a
  s.grainSet own g (GrainMap.apply (s.stew.map.get g) (eCommons e) 0
    { leaf := itemLeaf a e, cond := false, addr := a, entry := e, expect := 0 })

/-- A chunk stands at a location: its block holds it. -/
def State.chunkNote (s : State) (loc id : Nat) (slc : Bool) : State :=
  let die := locDieKey loc
  let d := s.dieOf die
  let b := locBlock loc
  let x := d.blocks.get b
  if x.mode = 3 then s
  else
    let y := { x with mode := if x.mode = 0 then (if slc then 1 else 2) else x.mode
                      pages := max x.pages (locPage loc + 16)
                      chunks := if x.chunks.contains id then x.chunks else x.chunks ++ [id] }
    s.putDie die { d with blocks := d.blocks.set b y }

/-- A sheaf of a commons is CLOSED with its 18 locations, by a record of an LSN. -/
def State.sheafClose (s : State) (c sheaf lsn : Nat) (locs : List Nat) (slc flags : Nat) : State :=
  let k := c * 2 ^ 33 + sheaf
  let x := s.sheafOf k
  let y := { x with state := 3, locs := locs, done := 0x3FFFF, packed := 1024, closeLsn := max 1 lsn, slc := slc
                    take := x.take || flags.testBit 0, secure := x.secure || flags.testBit 1, pages := x.pages || flags.testBit 2 }
  let s1 := (upto 18).foldl (fun s i => s.chunkNote (locs.getD i 0) (k * 32 + i) (slc.testBit i)) (s.putSheaf k y)
  { s1 with hold := { s1.hold with nextSheaf := s1.hold.nextSheaf.set c (max (s1.hold.nextSheaf.get c) (sheaf + 1)) } }

/-- Apply one record of a commons, outside the question of groups (R283, R284). -/
def State.recApply (s : State) (own : Bool) (c : Nat) (r : DbRec) : State :=
  match r.typ with
  | 0x01 => r.items.foldl (fun s x => s.itemApply own x.1 x.2) s
  | 0x03 => r.items.foldl (fun s x => s.itemApply own x.1 x.2) s
  | 0x04 =>
    let a := fieldAt r.body 0 8
    let blk := fieldAt r.body 8 8
    let leaves := (pieces 16 16 (r.body.drop 16)).map entryOf
    let s1 := { s with stew := { s.stew with nextBlock := s.stew.nextBlock.set c (max (s.stew.nextBlock.get c) (blk + 1)) } }
    s1.grainSet own (grainKey a) (mkEntry 2 false false 0 c blk 0 :: leaves)
  | 0x05 => (pieces 56 (r.body.length / 56) r.body).foldl (fun s x =>
      s.sieveApply { op := fieldAt x 33 1, key := c * 2 ^ 264 + fieldAt x 32 1 * 2 ^ 256 + fieldAt x 0 32
                     vol := fieldAt x 34 2, entry := entryOf (x.drop 40) }) s
  | 0x07 => s.sheafClose c (fieldAt r.body 0 8) r.lsn ((upto 18).map (fun i => fieldAt r.body (8 + 8 * i) 8)) 0x3FFFF 0
  | 0x08 =>
    let k := c * 2 ^ 33 + fieldAt r.body 0 8
    let pos := fieldAt r.body 8 1
    let dst := fieldAt r.body 24 8
    let x := s.sheafOf k
    (s.putSheaf k { x with locs := x.locs.set pos dst, slc := setBit x.slc pos false }).chunkNote dst (k * 32 + pos) false
  | 0x09 =>
    let loc := fieldAt r.body 0 8
    let d := s.dieOf (locDieKey loc)
    if (d.blocks.get (locBlock loc)).mode = 0 then
      s.putDie (locDieKey loc) { d with blocks := d.blocks.set (locBlock loc) { (default : Blk) with mode := 1 } }
    else s
  | 0x0A =>
    s.pageMoved (pageNamed c (fieldAt r.body 0 2) (fieldAt r.body 2 1) (fieldAt r.body 8 8)) (fieldAt r.body 16 16)
  | 0x0B =>
    let e := fieldAt r.body 0 4
    let vs := (upto (fieldAt r.body 4 4)).map (fun i => fieldAt r.body (16 + 2 * i) 2)
    let s1 := vs.foldl (fun s v =>
      if (s.snapOf v e).state = 0 then
        s.putSnap v e { state := 1, presented := 0, reeve := fieldAt r.body 8 8, map := s.stew.map.filter (fun p => p.1 / 2 ^ 48 = v) }
      else s) s
    if s.poolEpoch < e + 1 then s1.setF F.SIEVE_EPOCH_VAL (e + 1) else s1
  | 0x0C =>
    let k := fieldAt r.body 0 1
    let l := s.linkOf k
    let g := fieldAt r.body 8 8 % 2 ^ 52 / 16
    if l.catchUp.contains g then s else s.putLink k { l with catchUp := l.catchUp ++ [g] }
  | _ => s

/-! ### The partner's overlay (R287) -/

/-- Key of an overlay entry: the commons, a kind and the name. -/
def overlayKey (c kind name : Nat) : Nat := c * 2 ^ 360 + kind * 2 ^ 352 + name

/-- The entries a record makes in the overlay: kinds 1 map update, 2 split, 3 SHEAF, 4 RELOCATE, 5 Sieve delta, by vault and
fingerprint; every delta of a fingerprint counts, so its entries stand side by side under their LSN and place in the record; the
rest stand under their LSN (assumption log 18). -/
def DbRec.overlay (c : Nat) (r : DbRec) : List (Nat × DbRec) :=
  match r.typ with
  | 0x01 => [(overlayKey c 1 (fieldAt r.body 0 8), r)]
  | 0x03 => r.items.map (fun x => (overlayKey c 1 x.1, { r with typ := 0x01, body := leBytes 8 x.1 ++ entryBytes x.2 }))
  | 0x04 => [(overlayKey c 2 (fieldAt r.body 0 8), r)]
  | 0x07 => [(overlayKey c 3 (fieldAt r.body 0 8), r)]
  | 0x08 => [(overlayKey c 4 (fieldAt r.body 0 8 * 32 + fieldAt r.body 8 1), r)]
  | 0x05 => (upto (r.body.length / 56)).map (fun i =>
      let x := (r.body.drop (56 * i)).take 56
      (overlayKey c 5 ((fieldAt x 32 1 * 2 ^ 256 + fieldAt x 0 32) * 2 ^ 80 + r.lsn * 2 ^ 16 + i), { r with body := x }))
  | 0x02 => []
  | 0x06 => []
  | _ => [(overlayKey c 6 r.lsn, r)]

/-- Enter a whole group in the overlay: a newer entry replaces an older one of its name. -/
def State.overlayPut (s : State) (c : Nat) (g : List DbRec) : State :=
  { s with cf := { s.cf with overlay := (g.flatMap (DbRec.overlay c)).foldl (fun m x => m.set x.1 x.2) s.cf.overlay } }

/-- Records of a DAYBOOK stub: whole groups enter the overlay; one without its GROUP_END waits for it. -/
def State.overlayTake (s : State) (c : Nat) (l : List DbRec) : State :=
  let (gs, left) := splitGroups l (s.cf.gathering.get c)
  let s1 := gs.foldl (fun s g => s.overlayPut c g) s
  { s1 with cf := { s1.cf with gathering := s1.cf.gathering.set c left } }

/-- Insert an overlay record by LSN, keeping the order among equals. -/
def insertLsn (r : DbRec) : List DbRec → List DbRec
  | [] => [r]
  | x :: rest => if r.lsn < x.lsn then r :: x :: rest else x :: insertLsn r rest

/-- The overlay of a commons in LSN order; the split of a grain precedes its leaves' updates. -/
def State.overlayOf (s : State) (c : Nat) : List DbRec :=
  let own := s.cf.overlay.filter (fun p => p.1 / 2 ^ 360 = c)
  let split := own.filter (fun p => p.1 / 2 ^ 352 % 2 ^ 8 = 2)
  let rest := own.filter (fun p => p.1 / 2 ^ 352 % 2 ^ 8 ≠ 2)
  ((split ++ rest).map Prod.snd).foldl (fun l r => insertLsn r l) []

/-- Apply some entries of the overlay and drop them: below an LSN, which a checkpoint of the owner covers (own false),
or all of them on adoption. -/
def State.overlayApply (s : State) (own : Bool) (c below : Nat) : State :=
  let l := (s.overlayOf c).filter (fun r => decide (r.lsn < below))
  let s1 := l.foldl (fun s r => s.recApply own c r) s
  { s1 with cf := { s1.cf with overlay := s1.cf.overlay.filter (fun p => !(p.1 / 2 ^ 360 = c && decide (p.2.lsn < below))) } }

/-! ### Anchors, Daybook pages and ledger sets as read (R281, R286, R290, R340) -/

/-- Whether an anchor copy holds: MAGIC, FORMAT, COMMONS, POOL and CRC (R286, R290 step 1). -/
def State.anchorOk (s : State) (c : Nat) (b : List Byte) : Bool :=
  b.length = 4096 && fieldAt b 0 4 = 0x414E4348 && fieldAt b 4 2 = 1 && fieldAt b 6 2 = c && fieldAt b 8 8 = s.getN R.IDENT_POOL &&
    fieldAt b 0xFFC 4 = crc32c (b.take 0xFFC)

/-- Whether one copy of a Daybook page holds (R281). -/
def dbPageOk (c : Nat) (b : List Byte) : Bool :=
  b.length = 16384 && fieldAt b 0 2 = 0xDA7B && fieldAt b 2 2 = c && fieldAt b 0x18 4 = crc32c (b.take 0x18 ++ leBytes 4 0 ++ b.drop 0x1C)

/-- The Daybook pages that can be read, each from the first copy whose CRC holds (R290 step 3). -/
def dbPagesRead (f : FlashCmn) : List (List Byte) :=
  f.book.filterMap (fun p => if dbPageOk f.commons p.1 then some p.1 else if dbPageOk f.commons p.2 then some p.2 else none)

/-- PAGE_SEQ of a page. -/
def pageSeqOf (b : List Byte) : Nat := fieldAt b 8 8

/-- The records of a Daybook page. -/
def pageRecs (b : List Byte) : List DbRec := parseRecs 1024 ((b.drop 0x20).take (fieldAt b 4 2))

/-- Pages that follow one another by PAGE_SEQ from a number on. -/
def pagesFrom (l : List (List Byte)) : Nat → Nat → List (List Byte)
  | 0, _ => []
  | n + 1, seq =>
    match l.find? (fun b => pageSeqOf b = seq) with
    | some b => b :: pagesFrom l n (seq + 1)
    | none => []

/-- Whether records begin with a whole CHECKPOINT: every part in order, with one REPLAY_LSN (R285). -/
def ckptWhole (rs : List DbRec) : Bool :=
  match rs with
  | [] => false
  | r :: _ =>
    let n := fieldAt r.body 18 2
    n ≠ 0 && decide (n ≤ rs.length) && (upto n).all (fun i =>
      let x := rs.getD i r
      x.typ = 0x0D && fieldAt x.body 16 2 = i && fieldAt x.body 18 2 = n && fieldAt x.body 0 8 = fieldAt r.body 0 8)

/-- REPLAY_LSN of the first whole CHECKPOINT among records that is the wanted one. -/
def ckptFind (want : Option Nat) : List DbRec → Option Nat
  | [] => none
  | r :: rest =>
    let replay := fieldAt r.body 0 8
    if ckptWhole (r :: rest) = true ∧ (want.all (fun x => x = replay)) = true then some replay else ckptFind want rest

/-- Where the recovery of a commons starts: PAGE_SEQ of the page with part 0 of the CHECKPOINT, its REPLAY_LSN, ANCHOR_SEQ and the
copy it was read from. -/
structure CkptFound where
  page : Nat
  replay : Nat
  seq : Nat
  copy : Nat
  deriving DecidableEq, Repr, Inhabited

/-- The anchors that hold and whose CHECKPOINT is found whole, as (copy, found) (R290 steps 1 and 2). -/
def State.anchorsRead (s : State) (f : FlashCmn) : List CkptFound :=
  let l := (dbPagesRead f)
  (upto 2).filterMap (fun i =>
    let b := f.anchors.getD i []
    if s.anchorOk f.commons b = false then none
    else
      let page := fieldAt b 0x18 8
      (ckptFind (some (fieldAt b 0x30 8)) ((pagesFrom l l.length page).flatMap pageRecs)).map (fun r => ⟨page, r, fieldAt b 0x10 8, i⟩))

/-- The newest CHECKPOINT that a scan of the Daybook blocks finds (R291). -/
def ckptScan (f : FlashCmn) : CkptFound :=
  let l := (dbPagesRead f)
  l.foldl (fun (x : CkptFound) b =>
    match ckptFind none (((pagesFrom l l.length (pageSeqOf b)).take 8).flatMap pageRecs) with
    | some r => if x.page ≤ pageSeqOf b ∧ (pageRecs b).any (fun y => y.typ = 0x0D && fieldAt y.body 16 2 = 0) = true then ⟨pageSeqOf b, r, 0, 0⟩ else x
    | none => x) default

/-- The CHECKPOINT a commons is recovered from: that of the anchor with the higher ANCHOR_SEQ, or the newest found by a scan. -/
def State.ckptFound (s : State) (f : FlashCmn) : CkptFound :=
  match s.anchorsRead f with
  | [] => (ckptScan f)
  | x :: r => r.foldl (fun a b => if a.seq < b.seq then b else a) x

/-- The Daybook pages a recovery reads: from the page that holds REPLAY_LSN on, by PAGE_SEQ, to the first that is missing (R290
step 3). -/
def dbReplayed (f : FlashCmn) (x : CkptFound) : List (List Byte) :=
  let l := (dbPagesRead f)
  let start := l.foldl (fun n b => if fieldAt b 0x10 8 ≤ x.replay ∧ pageSeqOf b ≤ x.page then max n (pageSeqOf b) else n) 0
  let run := pagesFrom l l.length start
  if start ≠ 0 ∧ run.any (fun b => pageSeqOf b = x.page) = true then run else pagesFrom l l.length x.page

/-- The newest valid ledger set among pages of one record member: its LEDGER_SEQ and entries (R340). -/
def ledgerSet (c : Nat) (l : List (List Byte)) : Option (Nat × List (List Byte)) :=
  let ok := l.filter (fun b => b.length = 16384 && fieldAt b 0 2 = 0x1ED6 && fieldAt b 2 2 = c &&
    fieldAt b 0x10 4 = crc32c (b.take 0x10 ++ leBytes 4 0 ++ b.drop 0x14))
  ok.foldl (fun x b =>
    let seq := fieldAt b 8 8
    let set := (upto (fieldAt b 7 1)).map (fun i => ok.find? (fun y => fieldAt y 8 8 = seq && fieldAt y 6 1 = i))
    if set.all Option.isSome = true ∧ (match x with | some y => decide (y.1 < seq) | none => true) = true then
      some (seq, (set.filterMap id).flatMap (fun y => pieces 192 (fieldAt y 4 2) (y.drop 0x40)))
    else x) none

/-- The valid ledger sets of both record members. -/
def ledgerSets (f : FlashCmn) : List (Nat × List (List Byte)) :=
  [ledgerSet f.commons f.ledger, ledgerSet f.commons f.ledger2].filterMap id

/-- The entries of the current ledger set: the one with the highest LEDGER_SEQ. -/
def ledgerNow (f : FlashCmn) : List (List Byte) :=
  ((ledgerSets f).foldl (fun (a : Nat × List (List Byte)) b => if a.1 ≤ b.1 then b else a) (0, [])).2

/-! ### What the flash holds (R287, R290) -/

/-- A volume of a commons as its pool holds it; no more of them stand than root tables have room for (R130, R277). How volumes are
made no rule says (assumption log 50). -/
def State.volFound (s : State) (c : Nat) (x : Nat × Nat × Nat × Nat) : State :=
  let sum := s.docket.vols.foldl (fun n p => if p.1 = x.1 then n else n + rootEntries p.2.size) 0
  if 4096 ≤ x.1 ∨ 4194304 < sum + rootEntries x.2.1 then s
  else s.putVol x.1 { s.volOf x.1 with size := x.2.1, format := x.2.2.1, piType := x.2.2.2, commons := c }

/-- Forget what this head knows of a commons and take what its pages on flash hold. -/
def State.flashLoad (s : State) (f : FlashCmn) : State :=
  let c := f.commons
  let s := f.vols.foldl (fun s x => s.volFound c x) s
  let vols := s.cmnVols c
  let inVol (k : Nat) := vols.contains (k / 2 ^ 48)
  let s0 := (s.cmnDies c).foldl (fun s d =>
    s.putDie d { s.dieOf d with blocks := (s.dieOf d).blocks.filter (fun b => b.2.mode = 3), slcOpen := 0, qlcOpen := 0 }) s
  let s1 := { s0 with
    stew := { s0.stew with map := s0.stew.map.filter (fun p => !inVol p.1)
                           extents := s0.stew.extents.filter (fun p => p.1 / 2 ^ 43 ≠ c)
                           dir := s0.stew.dir.filter (fun p => s0.pageCommons p.1 ≠ c)
                           cache := s0.stew.cache.filter (fun p => s0.pageCommons p ≠ c)
                           dirty := s0.stew.dirty.filter (fun p => s0.pageCommons p ≠ c)
                           pending := s0.stew.pending.filter (fun g => g.commons ≠ c)
                           oldPages := s0.stew.oldPages.filter (fun k => k / 2 ^ 43 ≠ c)
                           oldCkpt := s0.stew.oldCkpt.filter (fun k => k / 2 ^ 43 ≠ c)
                           rootAt := s0.stew.rootAt.filter (fun p => !vols.contains p.1)
                           nextBlock := s0.stew.nextBlock.set c f.nextBlock }
    sieve := { s0.sieve with recs := s0.sieve.recs.filter (fun p => p.1 / 2 ^ 264 ≠ c)
                             buckets := s0.sieve.buckets.set c f.buckets
                             snaps := s0.sieve.snaps.filter (fun p => !vols.contains (p.1 / 2 ^ 32)) }
    hold := { s0.hold with sheaves := s0.hold.sheaves.filter (fun p => p.1 / 2 ^ 33 ≠ c)
                           epoch := s0.hold.epoch.set c (max f.epoch (s0.hold.epoch.get c))
                           writeSeq := s0.hold.writeSeq.set c (max f.writeSeq (s0.hold.writeSeq.get c))
                           frontier := (upto 4).foldl (fun m i => m.set (c * 4 + i) 0) s0.hold.frontier } }
  let s2 := f.sheaves.foldl (fun s x => s.sheafClose c x.1 0 x.2.1 x.2.2.1 x.2.2.2) s1
  let s2a := f.dir.foldl (fun s x => s.pageMoved x.1 x.2) s2
  let s3 := f.map.foldl (fun s x => s.grainSet false x.1 x.2) s2a
  let s4 := f.sieve.foldl (fun s x =>
    let (k, e, refs, fv, death) := x
    let key := c * 2 ^ 264 + k
    let xk := eCommons e * 2 ^ 43 + eSlot e
    let s1 := (s.putRec key { valid := true, entry := e, refs := refs, defunct := decide (refs = 0), saturated := fv.testBit 17
                              multi := fv.testBit 16, death := death - 1, firstVol := fv % 65536 }).extentEnsure 0 e
    s1.putExtent xk { s1.extent xk with sieve := key + 1, death := death }) s3
  let s5 := { s4 with sieve := { s4.sieve with dirtyIdx := s4.sieve.dirtyIdx.filter (fun b => b / 2 ^ 64 ≠ c) } }
  f.snaps.foldl (fun s x => s.putSnap x.1 x.2.1 { state := 1, presented := 0, reeve := 0, map := x.2.2, rooted := true }) s5

/-! ### Settling the ledger (R341) -/

/-- A ledger entry (R339). -/
structure LedgerEnt where
  sheaf : Nat
  state : Nat
  done : Nat
  openLsn : Nat
  epoch : Nat
  locs : List Nat
  deriving DecidableEq, Repr

/-- Read a ledger entry. -/
def parseLedger (l : List Byte) : LedgerEnt where
  sheaf := fieldAt l 0 8
  state := fieldAt l 10 1
  done := fieldAt l 12 4
  openLsn := fieldAt l 16 8
  epoch := fieldAt l 24 4
  locs := (upto 18).map (fun i => fieldAt l (32 + 8 * i) 8)

/-- Settle one open sheaf of a commons: with its sixteen data chunks found, its missing parity is programmed and it
closes; any other is ABANDONED. scan is what a tag scan found of it. -/
def State.settle (s : State) (c : Nat) (x : LedgerEnt) (scan : Nat) : State :=
  let k := c * 2 ^ 33 + x.sheaf
  let s0 := { s with hold := { s.hold with nextSheaf := s.hold.nextSheaf.set c (max (s.hold.nextSheaf.get c) (x.sheaf + 1)) } }
  if (s.sheafOf k).state = 3 then s0
  else
    let done := x.done ||| scan
    let y : Sheaf := { s.sheafOf k with locs := x.locs, done := done, packed := 1024, openLsn := x.openLsn, slc := 0x3FFFF }
    let s1 := (upto 18).foldl (fun s i => if done.testBit i then s.chunkNote (x.locs.getD i 0) (k * 32 + i) true else s) s0
    if (x.state = 1 ∨ x.state = 2) ∧ done % 2 ^ 16 = 2 ^ 16 - 1 then
      let s2 := (s1.putSheaf k { y with state := 2 }).ledgerNote k
      if done = 2 ^ 18 - 1 then s2.sheafClose c x.sheaf 0 x.locs 0x3FFFF 0
      else ([16, 17].filter (fun i => !done.testBit i)).foldl (fun s i => s.progChunk k i) s2
    else if x.state = 3 then s1.sheafClose c x.sheaf 0 x.locs 0x3FFFF 0
    else (s1.putSheaf k { y with state := 4 }).ledgerNote k

/-! ### Recovery of a commons (R290, R291) -/

/-- Whether a sheaf is good: closed, or settled to be closed. -/
def State.sheafGood (s : State) (k : Nat) : Bool := (s.sheafOf k).state = 3 || (s.sheafOf k).state = 2

/-- Whether a group names a slot of a sheaf that is not good. -/
def State.groupLost (s : State) (c : Nat) (g : List DbRec) : Bool :=
  (g.flatMap DbRec.items).any (fun x => eKind x.2 % 2 = 1 && eCommons x.2 = c && !s.sheafGood (c * 2 ^ 33 + eSlot x.2 / 1024))

/-- Runs of contiguous leaves among map items in address order: first address and leaves. -/
def leafRuns : List (Nat × Nat) → List (Nat × Nat)
  | [] => []
  | x :: r =>
    match leafRuns r with
    | [] => [x]
    | y :: rest => if y.1 = x.1 + x.2 then (x.1, x.2 + y.2) :: rest else x :: y :: rest

/-- Insert by address. -/
def insertAddr (x : Nat × Nat) : List (Nat × Nat) → List (Nat × Nat)
  | [] => [x]
  | y :: r => if x.1 ≤ y.1 then x :: y :: r else y :: insertAddr x r

/-- The 24-byte items of a dropped group: one for each run of leaves (R268). -/
def lossItems (reeve : Nat) (l : List (Nat × Nat)) : List (List Byte) :=
  (leafRuns (l.foldr insertAddr [])).map (fun x =>
    leBytes 2 (x.1 / 2 ^ 52 % 4096) ++ leBytes 2 0 ++ leBytes 8 (x.1 % 2 ^ 52) ++ leBytes 4 x.2 ++ leBytes 8 reeve)

/-- The items of a dropped group of records. -/
def groupLoss (g : List DbRec) : List (List Byte) :=
  let reeve := match g with
    | r :: _ => if r.typ = 0x02 then fieldAt r.body 0 8 else 0
    | [] => 0
  lossItems reeve ((g.flatMap DbRec.items).map (fun x => (x.1, if itemLeaf x.1 x.2 then 1 else 16)))

/-- The Parish sequence the next record queued for the Register will take. -/
def State.parishNext (s : State) : Nat := s.getF F.PARISH_STATE_NEXT_SEQ + recsIn s.obs.regQ

/-- Write UNFLUSHED or MAP_LOST: at most 1,024 items (R268). -/
def State.lossRecord (s : State) (blk code n : Nat) (items : List (List Byte)) : State :=
  s.regEvent blk code (n % 2 ^ 32 + (if 1024 < items.length then 2 ^ 32 else 0)) (items.take 1024).flatten

/-- The recovery of a commons begins; the first of a run of them clears what the registers say of the last (R290, R292). -/
def State.recBegin (s : State) (c : Nat) : State :=
  let s0 := if s.getF F.STEWARD_MAP_STATE_RECOVERING = 1 then s
    else ((s.setN R.STEWARD_RECOVERY 0).setN R.STEWARD_RECOVERY_GROUPS 0).setN R.STEWARD_RECOVERY_SCAN 0
  { s0 with stew := { s0.stew with recAt := s0.stew.recAt.set c (s.time + 1) } }.setF F.STEWARD_MAP_STATE_RECOVERING 1

/-- The blocks of the OPEN list of the CHECKPOINT with a REPLAY_LSN (R283, R285). -/
def ckptOpen (recs : List DbRec) (replay : Nat) : List Nat :=
  (recs.filter (fun r => r.typ = 0x0D && fieldAt r.body 0 8 = replay)).flatMap (fun r =>
    (upto (fieldAt r.body 12 4)).map (fun i => fieldAt r.body (24 + 16 * fieldAt r.body 8 4 + 8 * i) 8))

/-- Recover a commons: pages, Daybook, ledger, scan, lost groups (R290 steps 1 to 6). The registers report the commons that a start
recovers together; the recovery ends with its checkpoint. -/
def State.cmnRecover (s : State) (f : FlashCmn) : State :=
  let c := f.commons
  let from_ := s.ckptFound f
  let copies := (s.anchorsRead f).length
  let pages := dbReplayed f from_
  let s1 := s.recBegin c |>.flashLoad f
  let recs := (pages.flatMap pageRecs).filter (fun r => decide (from_.replay ≤ r.lsn))
  let (gs, left) := splitGroups recs []
  let last := recs.getLast?
  let close := match last with
    | some r => if r.typ = 0x0E then fieldAt r.body 8 1 else 0
    | none => 0
  let isGroup (g : List DbRec) := g.any (fun r => r.typ = 0x01 || r.typ = 0x02)
  -- what stands alone comes first: SHEAF and RELOCATE decide which groups stand
  let alone := (gs.filter (fun g => !isGroup g)).flatten
  let s2 := alone.foldl (fun s r => if r.typ = 0x07 ∨ r.typ = 0x08 ∨ r.typ = 0x09 ∨ r.typ = 0x0A then s.recApply true c r else s) s1
  let mask (sh : Nat) := ((f.scan.find? (fun x => x.1 = sh)).map Prod.snd).getD 0
  let s3 := ((ledgerNow f).map parseLedger).foldl (fun s x => s.settle c x (if close = 0 then mask x.sheaf else 0)) s2
  let groups := gs.filter (fun g => isGroup g || g.any (fun r => r.typ = 0x0B || r.typ = 0x0C))
  let go := groups.foldl (fun (a : List (List DbRec) × State) g =>
    if close = 0 ∧ a.2.groupLost c g = true then (a.1 ++ [g], a.2)
    else (a.1, g.foldl (fun s r => s.recApply true c r) a.2)) ([], s3)
  let lost := go.1
  let s4 := go.2
  let lsn := recs.foldl (fun n r => max n r.lsn) (from_.replay - 1)
  let s5 := (s4.setN (F.STEWARD_DB_LSN_ALL.at c).addr lsn).setN (F.STEWARD_DB_FLASH_LSN_ALL.at c).addr lsn
  let s5a := ((s5.setN (F.STEWARD_DB_REPLAY_LSN_ALL.at c).addr from_.replay).setF (F.STEWARD_ANCHOR_ANCHOR_SEQ.at c) from_.seq).setF
    (F.STEWARD_ANCHOR_COPY.at c) from_.copy
  let s6 := s5a.putDb c { s5a.dbOf c with pageSeq := pages.foldl (fun n b => max n (pageSeqOf b)) from_.page, hist := recs }
  let kind := if copies = 0 then 3 else if close = 1 then 0 else if close = 2 then 1 else 2
  let s7 := ((((s6.addF F.STEWARD_RECOVERY_RECORDS recs.length).setF F.STEWARD_RECOVERY_KIND (max kind (s6.getF F.STEWARD_RECOVERY_KIND))).addF
    F.STEWARD_RECOVERY_GROUPS_INCOMPLETE (b2n (!left.isEmpty))).addF F.STEWARD_RECOVERY_GROUPS_DROPPED lost.length).setF
    (F.HOLD_CMN_LEDGER_LEDGER_SEQ.at c) ((ledgerSets f).foldl (fun n x => max n x.1) 0)
  let s7 := (ckptOpen recs from_.replay).foldl (fun s l => s.calibrate (locDieKey l) (locBlock l)) s7
  let s8 := if close = 0 then (s7.addF F.STEWARD_RECOVERY_SCAN_BLOCKS f.scanned).addF F.STEWARD_RECOVERY_SCAN_DUPLICATES f.duplicates else s7
  let s9 := if lost.isEmpty then s8
    else
      let seq := s8.parishNext
      (s8.lossRecord blkSTEWARD 0x108 lost.length (lost.flatMap groupLoss)).alarm blkSTEWARD 0 0 seq (leBytes 4 lost.length)
  let s10 := if copies = 1 then s9.log blkSTEWARD 0 0 c [] else if copies = 0 then s9.alarm blkSTEWARD 0 0 c [] else s9
  -- the ledger cannot be trusted: resynchronise (R341)
  if (ledgerSets f) = [] ∨ close = 0 then (s10.alarm blkHOLD 0 0 c []).resyncStart c
  else if (ledgerSets f).length = 1 then s10.log blkHOLD 0 0 c [] else s10

/-! ### Adopting data (R265, R407) -/

/-- The map's uses of some slots: address, whether a leaf entry, the entry. -/
def usesOf (c slot n : Nat) (m : AMap (List (BitVec 128))) : List (Nat × Bool × BitVec 128) :=
  let hit (e : BitVec 128) : Bool := eKind e % 2 = 1 && eCommons e = c && decide (slot ≤ eSlot e) && decide (eSlot e < slot + n)
  m.flatMap (fun p =>
    let a := p.1 / 2 ^ 48 * 2 ^ 52 + p.1 % 2 ^ 48 * 16
    match p.2 with
    | [e] => if hit e then [(a, false, e)] else []
    | _ :: ls => ((upto ls.length).filter (fun i => hit (ls.getD i 0))).map (fun i => (a + i, true, ls.getD i 0))
    | [] => [])

/-- A mirrored placement becomes this head's own where the map names its slots; one whose group never committed is
dropped (R265). -/
def State.placeAdopt (s : State) (c : Nat) (m : MirrorItem) : State :=
  let v := s.stew.map.get (grainKey m.addr)
  let n := m.data.length / 4096
  let e := if n = 1 ∧ v.length = 17 then GrainMap.leaf v (m.addr % 16) else GrainMap.whole v
  if eKind e % 2 = 1 ∧ eCommons e = c ∧ eSlots e = n ∧ eInherited e = false then
    let p : Place := { (default : Place) with
      phase := 3, addr := m.addr, slots := n, leaf := eKind e = 3, commons := c, slot := eSlot e, data := m.data
      issue := m.reeve, cls := 3, lsn := 1, off := m.off }
    let k := s.till.nextPlace
    { s with till := { s.till with nextPlace := k + 1, nextOff := max s.till.nextOff (m.off + n * 4096) } }.putPlace k p
  else s

/-- An adopted placement whose sheaf was ABANDONED is placed anew: new slots, and every name of the old ones moves by
one group (R341). Where no slot is to be had it stays in the Till. -/
def State.placeAgain (s : State) (k : Nat) : State :=
  let p := s.placeOf k
  let sh := s.sheafOf (p.commons * 2 ^ 33 + p.slot / 1024)
  if sh.state ≠ 4 then s
  else match s.slotAlloc p.commons (b2n sh.secure) p.slots p.take 1 with
  | none => s
  | some (slot, s1) =>
    let us := (usesOf p.commons p.slot p.slots s1.stew.map).map (fun x =>
      ({ leaf := x.2.1, cond := true, addr := x.1, entry := moveEntry x.2.2 slot, expect := x.2.2 } : MapUpd))
    let ok := p.commons * 2 ^ 43 + p.slot
    let nk := p.commons * 2 ^ 43 + slot
    let x := s1.extent ok
    let s2 := s1.putExtent nk { x with names := 0, death := 0 }
    let s3 := if x.sieve = 0 then s2
      else s2.putRec (x.sieve - 1) { s2.sieveRec (x.sieve - 1) with entry := moveEntry (s2.sieveRec (x.sieve - 1)).entry slot }
    let s4 := s3.putExtent ok { x with sieve := 0 }
    let s5 := (s4.mirror 0x02 (leBytes 8 p.off ++ leBytes 8 p.addr ++ leBytes 2 0 ++ leBytes 1 1 ++ leBytes 5 0 ++ leBytes 8 p.issue ++
      p.data)).putPlace k { p with slot := slot, lsn := 0 }
    s5.commitGroup p.commons 0 4096 us []

/-- Take the data of a commons from the mirror: placements into DIRTY, landed bytes into their regions; the excess over
TILL_LIMIT is flushed first (R265). -/
def State.dataAdopt (s : State) (c : Nat) : State :=
  let mine := s.cf.mirror.filter (fun m => (s.volOf (m.addr / 2 ^ 52 % 4096)).commons = c)
  let s1 := (mine.filter (fun m => m.kind = 1)).foldl (fun s m => s.placeAdopt c m) s
  (mine.filter (fun m => m.kind = 2)).foldl (fun s m => s.wrBytes (tillKey (m.off - 2 ^ 62)) m.data) s1

/-! ### Adopting takes (R407, R414) -/

/-- The peer an adopted region's registration admits: the camera, whose number here is not known yet
(assumption log 35). -/
def anyPeer : Nat := 2 ^ 64 - 2

/-- The leaves of frames that the mirror holds of a take, as (frame, first leaf in it, leaves). -/
def State.mirroredLeaves (s : State) (x : Take) : List (Nat × Nat × Nat) :=
  let stride := 16 * x.grainCount
  (s.cf.mirror.filter (fun m => m.kind = 2 && m.addr / 2 ^ 52 % 4096 = x.vol && decide (x.firstLeaf ≤ m.addr % 2 ^ 52))).map
    (fun m =>
      let d := m.addr % 2 ^ 52 - x.firstLeaf
      (d / stride, d % stride, (m.data.length + 4095) / 4096))

/-- Frames of a take that the partner's in-flight table is coding. -/
def State.codingFrames (s : State) (x : Take) : List Nat :=
  let stride := 16 * x.grainCount
  (s.cf.docket.filter (fun p => fieldAt p.2 5 1 = 7 && fieldAt p.2 0x10 8 / 2 ^ 52 = x.vol &&
    decide (x.firstLeaf ≤ fieldAt p.2 0x10 8 % 2 ^ 52))).map (fun p => (fieldAt p.2 0x10 8 % 2 ^ 52 - x.firstLeaf) / stride)

/-- Put the landed bytes of an adopted take in its slots: a frame that is whole, or whose commands were running, is
LANDED with the grains still held; any other is FILLING (R370, R414). -/
def State.regionAdopt (s : State) (k : Nat) : State :=
  let x := s.takeOf k
  let l := s.mirroredLeaves x
  let frames := l.foldl (fun m e => if m.contains e.1 then m else insertNat e.1 m) []
  let coding := s.codingFrames x
  let s1 := frames.foldl (fun s f =>
    let y := s.takeOf k
    let cov := (l.filter (fun e => e.1 = f)).foldl (fun c e => coverAdd e.2.1 (e.2.1 + e.2.2) c) []
    let landed := decide (coverBytes y.frameBytes cov = y.frameBytes) || coding.contains f
    let held := (upto y.grainCount).filter (fun g =>
      cov.any (fun c => decide (c.1 ≤ 16 * g) && decide (min (16 * g + 16) y.frameLeaves ≤ c.2)))
    s.putTake k { y with
      slots := y.slots.set (y.slotOf f) (some f), slotLanded := y.slotLanded.set (y.slotOf f) landed
      covered := y.covered.set f cov
      grains := if landed then y.grains ++ held.map (fun g => (f, g)) else y.grains
      toGen := if landed then y.toGen ++ held.map (fun g => (f, g, false)) else y.toGen
      landed := y.landed + b2n landed }) s
  s1.frameGenAll k

/-- Adopt one take from its mirrored record (R407 step 4, R414): number, stream, KEPT_UNTIL, region and handle stay. -/
def State.takeAdopt (s : State) (k : Nat) : State :=
  let b := s.cf.takes.get k
  let r := parseReq b
  let g := (b.drop 64).take 64
  let st := fieldAt b 0x7C 4
  let s0 := { s with cf := { s.cf with takes := s.cf.takes.set k [] } }
  if st ≠ 1 ∧ st ≠ 2 ∧ st ≠ 3 ∧ st ≠ 4 then s0
  else match s0.createQueue kTake 2048 (if st = 3 then 2 else 0) (r.port - 0x10) 0 0 with
  | .error _ => s0
  | .ok (q, s1) =>
    let frames := if r.direct then s.getF F.TOLL_POLICY_REGION_FRAMES else 0
    let handle := fieldAt g 0x20 8
    let i := handle % 2 ^ 20
    let idx := if handle = 0 ∨ st = 4 then 0
      else (if s1.getF (F.CARRIER_REG_INFO_STATE.at i) = 0 then i else i + 2 ^ 20) + 1
    let region := regionBytes frames r.frameBytes
    let s2 := if idx = 0 then s1
      else
        let j := idx - 1
        let t1 := ((s1.setF (F.CARRIER_REG_HANDLE_ALL.at j) handle).setF (F.CARRIER_REG_BASE_ALL.at j) (k * 2 ^ 33)).setF
          (F.CARRIER_REG_PEER_ALL.at j) anyPeer
        let t2 := (t1.setF (F.CARRIER_REG_INFO_LENGTH.at j) ((region + 4095) / 4096)).setF (F.CARRIER_REG_INFO_KIND.at j) 1
        (t2.setF (F.CARRIER_REG_INFO_ACCESS.at j) 1).setF (F.CARRIER_REG_INFO_STATE.at j) 1
    let left := fieldAt g 0x18 8 % 2 ^ 40 - s.cf.partnerOpsec
    let x : Take := { (default : Take) with
      state := st, rate := r.rate, frameBytes := r.frameBytes, frameRate := r.frameRate, firstLeaf := r.firstLeaf, vol := r.vol
      priority := r.prio, port := r.port, soloSafe := r.solo, direct := r.direct, adopted := k / 32 ≠ s.slotNo
      kept := s.opsec + left, admitted := s.now, origin := fieldAt g 0x30 8, queue := q, client := r.client
      tokens := ((max region (r.rate * 102 / 1000000) : Nat) : Int), regBase := k * 2 ^ 33, regFrames := frames, regIdx := idx
      route := if 0x10 ≤ r.port then 2 else 0, peer := r.port - 0x10, req := b.take 64, grant := g }
    let s3 := (s2.putTake k x).streamOpenTake k r.vol
    let s4 := if st = 4 then s3 else (s3.addF F.TILL_REGIONS_BYTES region).addF F.TILL_REGIONS_COUNT (b2n r.direct)
    ((s4.regionAdopt k).magClass r.port).tick

/-! ### Adopting commands (R372, R393, R463) -/

/-- Adopt one command of the in-flight table: a Carrier command is completed when its sender repeats it, a magazine
task's status waits for the tether; NVMe queue pairs ended with the partner, and its internal work is begun afresh
(R141). -/
def State.cmdAdopt (s : State) (t : Nat) : State :=
  let b := s.cf.docket.get t
  let committed := fieldAt b 0x40 8 / 256 % 2 = 1
  let st : Nat := if committed then 0 else 0x6063
  let kind := fieldAt b 4 1
  let port := fieldAt b 0x2C 4
  let s0 := { s with cf := { s.cf with docket := s.cf.docket.set t [] } }
  if kind = kCarrier then
    { s0 with car := { s0.car with adopt := s0.car.adopt ++ [[fieldAt b 2 2, fieldAt b 0x28 2, st, s.now]] } }.tick
  else if kind = kMagazine ∧ port < 4 then
    let x := s0.magPort port
    let bytes := if fieldAt b 5 1 = 0 then 0 else fieldAt b 0x20 4
    (s0.putMagPort port { x with adopted := x.adopted ++ [[fieldAt b 0x28 2, st, fieldAt b 0x48 8, bytes, s.now]] }).tick
  else s0

/-- Insert by the partner's number. -/
def insertOrigin (x : Nat × Bool × Nat) : List (Nat × Bool × Nat) → List (Nat × Bool × Nat)
  | [] => [x]
  | y :: r => if x.1 ≤ y.1 then x :: y :: r else y :: insertOrigin x r

/-- Takes and commands of some commons in the order of the partner's numbers (R463). -/
def State.adoptList (s : State) (cs : List Nat) : List (Nat × Bool × Nat) :=
  let takes := (s.cf.takes.filter (fun p => cs.contains (s.volOf (parseReq p.2).vol).commons)).map
    (fun p => (fieldAt p.2 0x70 8, true, p.1))
  let cmds := (s.cf.docket.filter (fun p => cs.contains (s.volOf (fieldAt p.2 0x10 8 / 2 ^ 52)).commons)).map
    (fun p => (fieldAt p.2 8 8, false, p.1))
  (takes ++ cmds).foldr insertOrigin []

/-! ### Adoption (R407 steps 1 to 5, R414) -/

/-- Adopt one commons: OWN, flash as found, overlay, ledger and dirty data; then this head's own checkpoint (R287,
R407). -/
def State.cmnAdopt (s : State) (fl : List FlashCmn) (c : Nat) : State :=
  let s0 := match fl.find? (fun f => f.commons = c) with
    | some f =>
      -- pages as the newer anchor names them; the overlay holds what came after
      let x := s.ckptFound f
      let t := ((s.flashLoad f).setN (F.STEWARD_DB_LSN_ALL.at c).addr (max (x.replay - 1) (s.getF (F.STEWARD_DB_LSN_ALL.at c)))).setF
        (F.STEWARD_ANCHOR_ANCHOR_SEQ.at c) x.seq
      t.putDb c { t.dbOf c with pageSeq := (dbPagesRead f).foldl (fun n b => max n (pageSeqOf b)) (t.dbOf c).pageSeq }
    | none => s
  let ents := (s0.cf.ledger.filter (fun p => p.1 / 2 ^ 33 = c)).map (fun p => parseLedger p.2)
  let top := ents.foldl (fun n x => max n x.epoch) (s0.hold.epoch.get c)
  let rival := (fl.find? (fun f => f.commons = c)).elim 0 FlashCmn.rival
  let s1 := ({ s0 with hold := { s0.hold with epoch := s0.hold.epoch.set c top } }).claim c rival
  if s1.owns c = false then s1 else
  let lsn := (s1.overlayOf c).foldl (fun n r => max n r.lsn) (s1.getF (F.STEWARD_DB_LSN_ALL.at c))
  let s2 := (s1.overlayApply true c (lsn + 1)).setN (F.STEWARD_DB_LSN_ALL.at c).addr lsn
  let s3 := ents.foldl (fun s x => s.settle c x 0) s2
  let s4 := { s3 with cf := { s3.cf with ledger := s3.cf.ledger.filter (fun p => p.1 / 2 ^ 33 ≠ c), gathering := s3.cf.gathering.set c [] } }
  let first := s4.till.nextPlace
  let s5 := s4.dataAdopt c
  let again := (s5.till.places.filter (fun p => decide (first ≤ p.1))).map Prod.fst
  let s6 := again.foldl State.placeAgain s5
  let s7 := { s6 with sieve := { s6.sieve with building := if s6.sieve.building.contains c then s6.sieve.building else s6.sieve.building ++ [c] } }
  let s7a := { s7 with stew := { s7.stew with recAt := s7.stew.recAt.set c (2 ^ 63 + s.time) } }.setF F.STEWARD_MAP_STATE_ADOPTING 1
  let s8 := s7a.ckptStart c
  let top2 := s8.getF (F.STEWARD_DB_LSN_ALL.at c)
  -- what the overlay named is named on flash by this head's own checkpoint
  let s9 := { s8 with till := { s8.till with places := s8.till.places.map (fun (p : Nat × Place) =>
    if decide (first ≤ p.1) && p.2.commons = c && p.2.lsn = 1 then (p.1, { p.2 with lsn := top2 }) else p) } }
  s9.holdRecount c

/-- Adopt commons of the partner with all that lies in them; what is left of the mirror of these commons goes. -/
def State.adopt (s : State) (fl : List FlashCmn) (cs : List Nat) : State :=
  let s1 := cs.foldl (fun s c => s.cmnAdopt fl c) s
  let s2 := (s1.adoptList cs).foldl (fun s x => if x.2.1 then s.takeAdopt x.2.2 else s.cmdAdopt x.2.2) s1
  let s3 := { s2 with cf := { s2.cf with mirror := s2.cf.mirror.filter (fun m =>
    !cs.contains (s2.volOf (m.addr / 2 ^ 52 % 4096)).commons) } }
  let s4 := s3.setF F.TILL_STATE_EXCESS (b2n (decide (s3.getN R.TILL_LIMIT < s3.dirty)))
  (s4.tillFlags).slcRecompute

end Sys2Proof.Machine
end

