-- ==== Sys2Proof/Machine/Pss.lean ====
section
/-! DEFINITION. RSASSA-PSS verification with SHA-512, MGF1 with SHA-512 and a 64-byte salt (R82), under a public key in the
encoding of R446: a 512-byte modulus and a 4-byte exponent, both big-endian. -/
namespace Sys2Proof.Machine

/-- b to the power whose bits, most significant first, are listed, modulo n. -/
def powMod (b n : Nat) (e : List Bool) : Nat :=
  e.foldl (fun x d => if d then x * x % n * b % n else x * x % n) (1 % n)

/-- MGF1 with SHA-512: n bytes of mask from a seed. -/
def mgf1 (seed : List Byte) (n : Nat) : List Byte :=
  ((upto ((n + 63) / 64)).flatMap (fun i => digest 0 (seed ++ beBytes 4 i))).take n

/-- Whether an encoded message of emBits bits encodes a message under PSS with a 64-byte salt. -/
def pssOk (emBits : Nat) (m em : List Byte) : Bool :=
  let n := (emBits + 7) / 8
  let top := 8 - (8 * n - emBits)
  let masked := em.take (n - 65)
  let h := (em.drop (n - 65)).take 64
  let db0 := masked.zipWith (fun a b => a ^^^ b) (mgf1 h (n - 65))
  let db := match db0 with
    | [] => []
    | b :: r => BitVec.ofNat 8 (b.toNat % 2 ^ top) :: r
  decide (130 ≤ n) && em.length = n && em.getLast? = some 0xBC && decide ((masked.headD 0).toNat < 2 ^ top) &&
    (db.take (n - 130)).all (fun b => b = 0) && (db.drop (n - 130)).head? = some 1 &&
    digest 0 (List.replicate 8 0 ++ digest 0 m ++ db.drop (n - 129)) = h

/-- Whether a signature verifies over a message under a public key (R82, R446). -/
def sigHolds (key msg sig : List Byte) : Bool :=
  let n := beNat (key.take 512)
  let e := beNat ((key.drop 512).take 4)
  let bits := Nat.log2 n
  let v := powMod (beNat sig) n ((upto 32).reverse.map e.testBit)
  key.length = 516 && sig.length = 512 && decide (beNat sig < n) && decide (v < 256 ^ ((bits + 7) / 8)) &&
    pssOk bits msg (beBytes ((bits + 7) / 8) v)

end Sys2Proof.Machine
end

