-- ==== Sys2Proof/Machine/Strong.lean ====
section
/-! DEFINITION. The Strongroom's keys (R446, R447), firmware images and banks (R452 to R457) and quotes (R450). -/
namespace Sys2Proof.Machine

/-! ### Keys (R446, R447) -/

/-- The identifier of a public key: the first 8 bytes of the SHA-512 digest of its encoding (R446). -/
def keyIdent (k : List Byte) : Nat := leNat ((digest 0 k).take 8)

/-- The 64-byte HM4 record of a key operation (R447). -/
def State.keyRecord (s : State) (op target ident : Nat) : List Byte :=
  leBytes 1 op ++ leBytes 2 target ++ leBytes 8 ident ++ leBytes 8 s.now ++ List.replicate 45 0

/-- A key operation done: HM4 and the KEY record (R447, R449, R468). -/
def State.keyNote (s : State) (op target ident : Nat) : State :=
  let r := s.keyRecord op target ident
  (s.hallmarkExtend 4 (digest 0 r)).regEvent blkSTRONG 0x111 op r

/-- Whether a set is held for a vault. -/
def State.vaultHeld (s : State) (v : Nat) : Bool := (s.strong.vaults.get v).wrapped ≠ []

/-- The export blob of a vault: KEY_ID, VAULT, and the set under the OMK. -/
def State.vaultBlob (s : State) (v : Nat) : List Byte :=
  leBytes 8 (s.strong.vaults.get v).ident ++ leBytes 1 v ++ leBytes 7 0 ++ (s.strong.vaults.get v).wrapped

/-- Store a set in the NVM and load it into slot 0x100 + v. -/
def State.vaultStore (s : State) (v ident : Nat) (wrapped m : List Byte) : State :=
  { s with strong := { s.strong with vaults := s.strong.vaults.set v ⟨ident, wrapped⟩ } }.keyStore (0x100 + v) 3 ident m

/-- An export blob is taken for vault v: its status, and the state (R447). -/
def State.vaultTake (s : State) (op v : Nat) (b : List Byte) : Status × State :=
  if b.length ≠ 120 ∨ fieldAt b 8 1 ≠ v then (0x5160, s)
  else match kwUnwrap s.strong.omk (b.drop 16) with
    | none => (0x4160, s.addN R.MILL_UNWRAP_FAIL 1)
    | some m =>
      if s.strong.omk.isEmpty then (0x4160, s)
      else if halvesEqual 3 m then (0x5160, s)
      else (0, (s.vaultStore v (fieldAt b 0 8) (b.drop 16) m).keyNote op v (fieldAt b 0 8))

/-- Whether R447 permits an operation on a target. OP: 1 IMPORT_OMK, 2 ENROLL_PROGKEY, 3 VAULT_CREATE, 4 VAULT_EXPORT,
5 VAULT_IMPORT, 6 VAULT_DELETE, 7 SESSION_LOAD. Without an OMK nothing can be wrapped for VAULT_CREATE. -/
def State.keyPermits (s : State) (op target : Nat) : Bool :=
  match op with
  | 1 => s.strong.omk.isEmpty
  | 2 => s.getN R.HANDS_PROGKEY = 0
  | 3 => !s.vaultHeld target && !s.strong.omk.isEmpty
  | 4 => s.vaultHeld target
  | 5 => !s.vaultHeld target
  | 6 => s.vaultHeld target && (s.docket.vols.all (fun p => s.getF (F.SIEVE_VOL_CFG_VAULT.at p.1) ≠ target || p.2.size = 0))
  | _ => decide (3 ≤ target) && decide (target ≤ 62) && (s.mill.slots.get target).state = 0

/-- Zero a vault's slot and erase its NVM copy: KEY.ZERO, which ends once the operations accepted before it have drained (R198,
R447). -/
def State.vaultErase (s : State) (v : Nat) : State :=
  { (s.zeroAccept (0x100 + v)).2.zeroSweep with strong := { s.strong with vaults := s.strong.vaults.set v default } }

/-- A key operation takes effect on this head (R447): its status, and the state. VAULT_CREATE brings the export blob of the
set drawn. -/
def State.keyApply (s : State) (op target : Nat) (b : List Byte) : Status × State :=
  if s.keyPermits op target = false then (0x7160, s)
  else
    match op with
    | 1 =>
      if b.length ≠ 512 then (0x5160, s)
      else match Config.oaep b with
        | none => (0x4160, s)
        | some m =>
          if m.length ≠ 40 then (0x5160, s)
          else
            let ident := fieldAt m 32 8
            let s1 := { s with strong := { s.strong with omk := m.take 32 } }.keyStore 2 1 ident (m.take 32)
            (0, ((s1.setN R.STRONG_OMK_ID ident).setF F.STRONG_STATE_OMK 1).keyNote 1 target ident)
    | 2 =>
      if b.length ≠ 516 then (0x5160, s)
      else
        let s1 := { s with strong := { s.strong with progKey := b }, hold := { s.hold with tableSeq := s.hold.tableSeq + 1 } }
        (0, (s1.setN R.HANDS_PROGKEY (keyIdent b)).keyNote 2 target (keyIdent b))
    | 3 => s.vaultTake 3 target b
    | 4 => (0, { s with strong := { s.strong with keyOut := s.vaultBlob target } }.keyNote 4 target (s.strong.vaults.get target).ident)
    | 5 => s.vaultTake 5 target b
    | 6 => (0, (s.vaultErase target).keyNote 6 target (s.strong.vaults.get target).ident)
    | _ =>
      if b.length ≠ 40 then (0x5160, s)
      else match kwUnwrap s.strong.omk b with
        | none => (0x4160, s.addN R.MILL_UNWRAP_FAIL 1)
        | some m =>
          if s.strong.omk.isEmpty then (0x4160, s)
          else (0, ({ s with strong := { s.strong with sessions := s.strong.sessions.set target b } }.keyStore target 1 0 m).keyNote 7 target 0)

/-- A set drawn from the DRBG: 96 bytes and a KEY_ID, as an export blob. Equal XTS halves are redrawn. -/
def State.vaultDraw (s : State) (v : Nat) : Nat → List Byte × State
  | 0 => ([], s)
  | n + 1 =>
    let (m, s1) := State.drawBytes 12 s
    let (i, s2) := s1.draw
    if halvesEqual 3 m then State.vaultDraw s2 v n
    else (leBytes 8 i.toNat ++ leBytes 1 v ++ leBytes 7 0 ++ kwWrap s.strong.omk m, s2)

/-- A key operation completes. -/
def State.keyEnd (s : State) (st : Status) : State :=
  { s with strong := { s.strong with keyBuf := [] } }.setF F.STRONG_KEY_CTL_BUSY 0 |>.setF F.STRONG_KEY_CTL_STATUS st

/-- STRONG_KEY_CTL (R447, R459, R460). In PAIRED every operation but IMPORT_OMK and VAULT_EXPORT is an act of the array. -/
def State.keyGo (s : State) (op target : Nat) : State :=
  let t := target % 256
  if s.getF F.STRONG_KEY_CTL_BUSY = 1 then s.stat F.STRONG_KEY_CTL_STATUS 0x8160
  else
    let s0 := s.setF F.STRONG_KEY_CTL_TARGET t
    let fin (st : Status) (x : State) : State := (x.keyEnd st).answer st
    let blob := [1, 2, 5, 7].contains op
    if s.keyPermits op t = false then fin 0x7160 s0
    else if blob = true ∧ s.strong.keyBuf.length ≠ s.getF F.STRONG_KEY_LEN_VAL then fin 0x5161 s0
    else
      let (b, s1) := if op = 3 then s0.vaultDraw t 4 else (s0.strong.keyBuf, s0)
      if s.mode = .paired ∧ op ≠ 1 ∧ op ≠ 4 then
        ({ s1 with strong := { s1.strong with keyBack := t } }.setF F.STRONG_KEY_CTL_BUSY 1 |>.answer 0).askAct 8 op t 0 b
      else
        let r := s1.keyApply op t b
        fin r.1 r.2

/-- IMPORT_OMK (R447). -/
def execKeyImportOmk (s : State) : Res := .next (s.keyGo 1 0)
/-- ENROLL_PROGKEY (R447). -/
def execKeyEnrollProgkey (s : State) : Res := .next (s.keyGo 2 0)
/-- VAULT_CREATE (R447). -/
def execKeyVaultCreate (vault : Nat) (s : State) : Res := .next (s.keyGo 3 vault)
/-- VAULT_EXPORT (R447). -/
def execKeyVaultExport (vault : Nat) (s : State) : Res := .next (s.keyGo 4 vault)
/-- VAULT_IMPORT (R447). -/
def execKeyVaultImport (vault : Nat) (s : State) : Res := .next (s.keyGo 5 vault)
/-- VAULT_DELETE (R447). -/
def execKeyVaultDelete (vault : Nat) (s : State) : Res := .next (s.keyGo 6 vault)
/-- SESSION_LOAD (R447). -/
def execKeySessionLoad (slot : Nat) (s : State) : Res := .next (s.keyGo 7 slot)

/-- STRONG_KEY_DATA takes the next 8 bytes of the blob. -/
def execKeyData (v : Word) (s : State) : Res :=
  .next ({ s with strong := { s.strong with keyBuf := s.strong.keyBuf ++ leBytes 8 v.toNat } }.answer 0)

/-! ### Grants (R451, R472) -/

/-- STRONG_AUTH_DATA takes the next 8 bytes of a grant; beyond the declared count the write completes with 0x5161 (R460). -/
def execAuthData (v : Word) (s : State) : Res :=
  let g := s.obs.grant ++ leBytes 8 v.toNat
  .next ({ s with obs := { s.obs with grant := g } }.answer (if s.getF F.STRONG_AUTH_LEN_VAL < g.length then 0x5161 else 0))

/-- A read of STRONG_AUTH_NONCE draws a fresh nonce of 32 bytes (R451); the read returns its first 8. -/
def State.nonceDraw (s : State) : State :=
  let (n, s1) := State.drawBytes 4 s
  let s2 := { s1 with strong := { s1.strong with nonce := n, nonceAt := s1.time + 1 } }
  (upto 4).foldl (fun s k => s.setN (R.STRONG_AUTH_NONCE + 8 * k) (fieldAt n (8 * k) 8)) s2

/-- What a read of STRONG_AUTH_NONCE returns, and the state after it: the register is RC and clears (R11, R451, R460). -/
def State.nonceRead (s : State) : Word × State :=
  (s.nonceDraw.getR R.STRONG_AUTH_NONCE, s.nonceDraw.setN R.STRONG_AUTH_NONCE 0)

/-- A read of STRONG_AUTH_NONCE. -/
def execAuthNonceRead (s : State) : Res := .next (s.nonceRead.2.answer 0)

/-- A nonce is valid for 600 s and one request. -/
def State.nonceValid (s : State) : Bool := s.strong.nonceAt ≠ 0 && decide (s.time < s.strong.nonceAt + 600000000)

/-- The nonce reaches 600 s. -/
def execNonceExpiry (s : State) : Res := .next { s with strong := { s.strong with nonceAt := 0 } }

/-- A grant is good: as many bytes as declared and as its form has, MAGIC, FORMAT 1, this head's serial number, the
nonce, and the program key's signature (R451, R472). -/
def State.grantOk (s : State) (magic len : Nat) : Bool :=
  let g := s.obs.grant
  g.length = len && s.getF F.STRONG_AUTH_LEN_VAL = len && fieldAt g 0 4 = magic && fieldAt g 4 2 = 1 &&
    fieldAt g 8 8 = s.getN R.IDENT_SERIAL && s.nonceValid && (g.drop 16).take 32 = s.strong.nonce &&
    sigHolds s.strong.progKey (g.take (len - 512)) (g.drop (len - 512))

/-- A request has used the nonce and the grant. -/
def State.grantUsed (s : State) : State :=
  { s with obs := { s.obs with grant := [] }, strong := { s.strong with nonceAt := 0 } }

/-! ### Firmware images (R452, R453) -/

/-- Bank of the running firmware (R42). -/
def State.runBank (s : State) : Nat := s.getN R.IDENT_FW % 2

/-- STATE of a bank: 0 EMPTY, 1 LOADING, 2 VALID, 3 ACTIVE_UNCOMMITTED, 4 ACTIVE, 5 FALLBACK. -/
def State.bankState (s : State) (b : Nat) : Nat := s.getF (F.STRONG_FW_BANKA_STATE.nth b)

/-- SECURITY_VERSION of a bank. -/
def bankSec (b : Nat) : Fld := if b = 0 then F.STRONG_FW_SECV_A else F.STRONG_FW_SECV_B

/-- A block of a bank; what the factory put there is not known (assumption log 10). -/
def State.bankBlock (s : State) (b i : Nat) : List Byte :=
  let l := s.strong.blocks.get (b * 512 + i)
  if l.isEmpty then (upto 65536).map (fun k => Config.factoryByte b (i * 65536 + k)) else l

/-- The head block's fields (R452). -/
def fwBlocks (h : List Byte) : Nat := fieldAt h 0x10 4
/-- SECURITY_VERSION of an image. -/
def fwSec (h : List Byte) : Nat := fieldAt h 0x0C 4
/-- Manifest entry i. -/
def fwEntry (h : List Byte) (i : Nat) : List Byte := (h.drop (0x100 + 64 * i)).take 64
/-- PARTS of an image. -/
def fwParts (h : List Byte) : Nat := fieldAt h 0x06 2

/-- A manifest entry obeys R452. -/
def fwEntryOk (h e : List Byte) : Bool :=
  decide (1 ≤ fieldAt e 0 2) && decide (fieldAt e 0 2 ≤ 7) && fieldAt e 4 4 % 65536 = 0 &&
    decide (65536 ≤ fieldAt e 4 4) && decide (fieldAt e 4 4 + fieldAt e 8 4 ≤ fwBlocks h * 65536)

/-- Header, manifest and block table obey R452; a value in a reserved field is ignored (R12). -/
def fwForm (h : List Byte) : Bool :=
  let es := (upto (fwParts h)).map (fwEntry h)
  h.length = 65536 && fieldAt h 0 4 = 0x46574D49 && fieldAt h 4 2 = 1 && decide (1 ≤ fwParts h) && decide (fwParts h ≤ 32) &&
    decide (2 ≤ fwBlocks h) && decide (fwBlocks h ≤ 512) && es.all (fwEntryOk h) &&
    (upto 32).all (fun i => decide (i < fwParts h) || leNat (fwEntry h i) = 0) &&
    (upto 6).all (fun p => (es.filter (fun e => fieldAt e 0 2 = p + 1)).length = 1) &&
    (upto 512).all (fun i => (decide (1 ≤ i) && decide (i < fwBlocks h)) || fieldAt h (0x900 + 32 * i) 32 = 0) &&
    (h.drop 0x4D04).all (fun b => b = 0)

/-- Index of the release key of a head block whose fused digest is not revoked (R453). -/
def State.releaseKey (s : State) (h : List Byte) : Option Nat :=
  let d := digest 0 ((h.drop 0x4B00).take 516)
  (upto 4).find? (fun k => Config.releaseDigest k = d && !s.strong.revoked.testBit k)

/-- The head block verifies (R453). -/
def State.headOk (s : State) (h : List Byte) : Bool :=
  fwForm h && (s.releaseKey h).isSome &&
    sigHolds ((h.drop 0x4B00).take 516) (h.take 0x4900) ((h.drop 0x4900).take 512)

/-- n bytes of a bank's blocks from block i, byte by byte. -/
def State.bankBytes (s : State) (b from_ n : Nat) : List Byte :=
  (((upto (n / 65536 + 2)).flatMap (fun k => s.bankBlock b (from_ / 65536 + k))).drop (from_ % 65536)).take n

/-- The bytes of a part. -/
def State.partBytes (s : State) (b : Nat) (e : List Byte) : List Byte := s.bankBytes b (fieldAt e 4 4) (fieldAt e 8 4)

/-- Every part of a bank agrees with its manifest (R454, BL-06). -/
def State.partsOk (s : State) (b : Nat) : Bool :=
  let h := s.bankBlock b 0
  (upto (fwParts h)).all (fun i => digest 1 (s.partBytes b (fwEntry h i)) = (fwEntry h i).drop 0x20)

/-! ### Upload (R454) -/

/-- The upload commands' common check of the mode; the inactive bank is given. -/
def State.fwUpload (s : State) (f : Nat → State → State) : State :=
  let b := 1 - s.runBank
  if s.getF F.STRONG_ROLL_CTL_BUSY = 1 then s.stat F.STRONG_FW_CTL_STATUS 0x8160
  else if [Mode.paired, Mode.solo, Mode.sealedMode, Mode.service].contains s.mode then f b s
  else s.stat F.STRONG_FW_CTL_STATUS 0x7160

/-- A bank's contents are discarded. -/
def State.bankDrop (s : State) (b state : Nat) : State :=
  let s1 := { s with strong := { s.strong with blocks := s.strong.blocks.filter (fun p => p.1 / 512 ≠ b), blockBuf := [] } }
  (((s1.setN (R.STRONG_FW_BANKA + 8 * b) 0).setF (F.STRONG_FW_BANKA_STATE.nth b) state).setF (bankSec b) 0).setN R.STRONG_FW_COUNT 0

/-- BEGIN (R454). -/
def execFwBegin (s : State) : Res :=
  .next (s.fwUpload (fun b s => (s.bankDrop b 1).stat F.STRONG_FW_CTL_STATUS 0))

/-- STRONG_FW_DATA takes the next 8 bytes of a block; those beyond 65,536 count and are discarded (R454). -/
def execFwData (v : Word) (s : State) : Res :=
  .next (s.fwUpload (fun b s =>
    if s.bankState b ≠ 1 then s.answer 0
    else
      let keep := (leBytes 8 v.toNat).take (65536 - s.strong.blockBuf.length)
      ({ s with strong := { s.strong with blockBuf := s.strong.blockBuf ++ keep } }.addN R.STRONG_FW_COUNT 8).answer 0))

/-- END_BLOCK checks the block (R454): length, then block 0 by R453 and any other by its table entry. -/
def execFwEndBlock (s : State) : Res :=
  .next (s.fwUpload (fun b s =>
    let f := F.STRONG_FW_CTL_STATUS
    let i := s.getF F.STRONG_FW_BLK_VAL
    let x := s.strong.blockBuf
    let s1 := { s with strong := { s.strong with blockBuf := [] } }.setN R.STRONG_FW_COUNT 0
    let h := s.strong.blocks.get (b * 512)
    let keep : State :=
      let s2 := { s1 with strong := { s1.strong with blocks := s1.strong.blocks.set (b * 512 + i) x } }
      let s3 := s2.setF (F.STRONG_FW_BANKA_BLOCKS.nth b) (s2.strong.blocks.filter (fun p => p.1 / 512 = b)).length
      if i = 0 then (s3.setF (F.STRONG_FW_BANKA_VERSION.nth b) (fieldAt x 8 4)).setF (bankSec b) (fwSec x) else s3
    if s.bankState b ≠ 1 then s.stat f 0x7160
    else if s.getN R.STRONG_FW_COUNT ≠ 65536 then s1.stat f 0x5161
    else if i = 0 then (if s.headOk x then keep.stat f 0 else s1.stat f 0x4160)
    else if h.isEmpty = false ∧ i < fwBlocks h ∧ digest 1 x = (h.drop (0x900 + 32 * i)).take 32 then keep.stat f 0
    else s1.stat f 0x4161))

/-- VERIFY (R454). -/
def execFwVerify (s : State) : Res :=
  .next (s.fwUpload (fun b s =>
    let f := F.STRONG_FW_CTL_STATUS
    let h := s.strong.blocks.get (b * 512)
    if s.bankState b ≠ 1 then s.stat f 0x7160
    else if h.isEmpty = true ∨ (upto (fwBlocks h)).any (fun i => (s.strong.blocks.get (b * 512 + i)).isEmpty) = true then s.stat f 0x5160
    else if s.partsOk b = false then s.stat f 0x4161
    else (s.setF (F.STRONG_FW_BANKA_STATE.nth b) 2).stat f 0))

/-- ABORT abandons the upload (R460). -/
def execFwAbort (s : State) : Res :=
  .next (s.fwUpload (fun b s => (if s.bankState b = 1 then s.bankDrop b 0 else s).stat F.STRONG_FW_CTL_STATUS 0))

/-! ### The selector, activation and commit (R455 to R457) -/

/-- A selector record of 64 bytes (R455): its fields in order, zeros, and the CRC-32C in the last 4 bytes (assumption log
18). -/
def selectorBytes (seq active committed secMin : Nat) : List Byte :=
  let l := leBytes 8 seq ++ leBytes 1 active ++ leBytes 1 committed ++ leBytes 4 secMin ++ List.replicate 46 0
  l ++ leBytes 4 (crc32c l)

/-- Write the next selector record, into the slot not written last; HM6 and the FIRMWARE record follow (R455 to R457). what: 1
activate, 2 commit, 3 rollback. -/
def State.selectorWrite (s : State) (what active committed secMin : Nat) : State :=
  let seq := s.strong.selSeq + 1
  let r := selectorBytes seq active committed secMin
  let s1 := { s with strong := { s.strong with selSeq := seq, active := active, sels := s.strong.sels.set (seq % 2) r } }
  let s2 := (s1.setF F.STRONG_STATE_COMMITTED committed).setF F.STRONG_STATE_SECURITY_MIN secMin
  (s2.hallmarkExtend 6 (digest 0 r)).regEvent blkSTRONG 0x110 what r

/-- Whether the running bank is the active one and uncommitted (R457). -/
def State.uncommitted (s : State) : Bool := s.strong.active = s.runBank && s.getF F.STRONG_STATE_COMMITTED = 0

/-- COMMIT the running bank (R453, R457): SECURITY_MIN rises to its image's, and with REVOKE_BELOW the fuses of the release
keys below its own are blown. -/
def State.fwCommit (s : State) : State :=
  let b := s.runBank
  let h := s.strong.blocks.get (b * 512)
  let secMin := max (s.getF F.STRONG_STATE_SECURITY_MIN) (s.getF (bankSec b))
  let s1 := (s.selectorWrite 2 b 1 secMin).setF (F.STRONG_FW_BANKA_STATE.nth b) 4
  if h.isEmpty = false ∧ fieldAt h 0x14 4 % 2 = 1 then
    match s.releaseKey h with
    | some k =>
      let m := s1.strong.revoked ||| (2 ^ k - 1)
      { s1 with strong := { s1.strong with revoked := m } }.setF F.STRONG_STATE_REVOKED ((upto 4).filter (fun i => m.testBit i)).length
    | none => s1
  else s1

/-- The head's own commit on its first entry to PAIRED on a new bank (R457). -/
def State.autoCommit (s : State) : State :=
  if s.uncommitted = true ∧ s.getF F.STRONG_FW_CFG_AUTO_COMMIT = 1 then s.fwCommit else s

/-- COMMIT by management (R457). -/
def execFwCommit (s : State) : Res :=
  .next (
    if s.getF F.STRONG_ROLL_CTL_BUSY = 1 then s.stat F.STRONG_FW_CTL_STATUS 0x8160
    else if s.strong.active ≠ s.runBank then s.stat F.STRONG_FW_CTL_STATUS 0x7160
    else s.fwCommit.stat F.STRONG_FW_CTL_STATUS 0)

/-- The status of ACTIVATE or ROLLBACK (R456, R457). -/
def State.activateStatus (s : State) : Status :=
  let b := 1 - s.runBank
  if s.mode ≠ .service ∨ s.bankState b ≠ 2 then 0x7160
  else if s.getF (bankSec b) < s.getF F.STRONG_STATE_SECURITY_MIN then 0x7161
  else 0

/-- The other bank is selected, uncommitted; ALT and SKIP are cleared (R444, R456). -/
def State.activate (s : State) (what : Nat) : State :=
  let b := 1 - s.runBank
  let s1 := s.selectorWrite what b 0 (s.getF F.STRONG_STATE_SECURITY_MIN)
  let s2 := (s1.setF (F.STRONG_FW_BANKA_STATE.nth b) 3).setF (F.STRONG_FW_BANKA_STATE.nth (1 - b)) 2
  ({ s2 with strong := { s2.strong with altOwn := 0, altBank := 0 } }.setN R.STRONG_BOOT_ALT 0).setN R.STRONG_BOOT_SKIP 0

/-- Words accepted with management from an offer, and with persist the standing offer (R45, R46): the status, and the
state. An offer that breaks R45 changes nothing. -/
def State.featSet (s : State) (offer : Nat → Nat) (persist : Bool) : Status × State :=
  let bit (n : Nat) : Bool := (offer (n / 64)).testBit (n % 64)
  if bit 0 = false then (0x5010, s)
  else if ([128, 129, 130].filter bit).length ≠ 1 then (0x5011, s)
  else if ([131, 132].filter bit).length ≠ 1 then (0x5012, s)
  else
    (0, (upto 4).foldl (fun s k =>
      let w := offer k &&& s.getN (R.IDENT_FEAT_SUPP + 8 * k)
      let s1 := s.setN (R.IDENT_FEAT_MGMT + 8 * k) w
      if persist then s1.setN (R.IDENT_FEAT_STAND + 8 * k) w else s1) { s with strong := { s.strong with negotiated := true } })

/-- Bits of word k of IDENT_FEAT_SUPP that a feature is assigned to; the others are reserved and read as zero (R44). -/
def featAssigned (k : Nat) : Nat := [0x000007FF0000007F, 0x0000003F0000007F, 0xFF].getD k 0

/-- Until management negotiates the accepted words are STAND ∧ SUPP; words it has negotiated stay, as far as SUPP goes (R46). -/
def State.mgmtWords (s : State) : State :=
  (upto 4).foldl (fun s k =>
    s.setN (R.IDENT_FEAT_MGMT + 8 * k) ((if s.strong.negotiated then s.getN (R.IDENT_FEAT_MGMT + 8 * k) else s.getN (R.IDENT_FEAT_STAND + 8 * k)) &&&
      s.getN (R.IDENT_FEAT_SUPP + 8 * k))) s

/-- The pair words this head offers (R48, BL-39): STAND ∧ SUPP, less feature 134 where the Counterfoil runs by its
alternate of 53.125 Gb/s (R444). -/
def State.pairOffer (s : State) (k : Nat) : Nat :=
  let w := s.getN (R.IDENT_FEAT_STAND + 8 * k) &&& s.getN (R.IDENT_FEAT_SUPP + 8 * k)
  if k = 2 ∧ s.altStep 33 = true then setBit w 6 false else w

/-! ### The roll (R458) -/

/-- Digest of the head block of the inactive bank. -/
def State.rollDigest (s : State) : List Byte := digest 0 (s.bankBlock (1 - s.runBank) 0)

/-- This head's part of the first two conditions of R458: PAIRED under FULL, the inactive bank VALID. -/
def State.rollReady (s : State) : Bool := s.mode = .paired && s.grade = 0 && s.bankState (1 - s.runBank) = 2

/-- Step 1 on this head: the standing offer is cut to what the new image supports too; it now takes part. -/
def State.rollOffer (s : State) : Status × State :=
  let h := s.bankBlock (1 - s.runBank) 0
  let r := s.featSet (fun k => s.getN (R.IDENT_FEAT_STAND + 8 * k) &&& s.getN (R.IDENT_FEAT_SUPP + 8 * k) &&& fieldAt h (0x20 + 8 * k) 8) true
  if r.1 = 0 then (0, { r.2 with strong := { r.2.strong with rolling := true, rollTask := 0 } }) else r

/-- The roll ends on this head; failed is FAILED_STEP, 0 where none failed. -/
def State.rollEnd (s : State) (failed : Nat) : State :=
  let s1 := { s with strong := { s.strong with rolling := false, rollTask := 0, rollPhase := 0 } }
  ((s1.setF F.STRONG_ROLL_CTL_BUSY 0).setF F.STRONG_ROLL_STATE_STEP 0).setF F.STRONG_ROLL_STATE_FAILED_STEP failed

/-- A head that enters PAIRED: a new bank commits by itself (R457), and head B has done its part of a roll. -/
def State.paired (s : State) : State :=
  let s1 := s.autoCommit
  if s1.getF F.STRONG_ROLL_CTL_BUSY = 1 then s1 else { s1 with strong := { s1.strong with rolling := false, rollTask := 0 } }

/-! ### Quotes (R450) -/

/-- The 768 signed bytes of a quote. -/
def State.quoteBody (s : State) : List Byte :=
  leBytes 4 0x544F5551 ++ leBytes 2 1 ++ leBytes 2 0 ++ leBytes 8 (s.getN R.IDENT_SERIAL) ++ leBytes 8 (s.getN R.IDENT_POOL) ++
    leBytes 8 (s.getN R.IDENT_FW) ++ leBytes 8 s.now ++ leBytes 8 s.timeWord ++ leBytes 8 (s.getN R.STRONG_ID_KEYID) ++
    leBytes 8 (s.getN R.HANDS_PROGKEY) ++ (upto 8).flatMap (fun k => leBytes 8 (s.getN (R.STRONG_QUOTE_NONCE + 8 * k))) ++
    (upto 8).flatMap s.hallmark ++ (upto 8).flatMap (fun i => leBytes 8 (s.getN (R.ASSAY_HM_COUNT + 8 * i))) ++
    leBytes 8 (s.getN R.STRONG_BOOT_ALT) ++ leBytes 8 (s.getN R.STRONG_BOOT_SKIP) ++ List.replicate 48 0

/-- STRONG_QUOTE_CTL.GO: hallmarks and counts are latched at one Reeve number and signed (R450). -/
def execQuoteGo (s : State) : Res :=
  let q := s.quoteBody
  .next (({ s with strong := { s.strong with quote := q ++ s.idSign q } }.tick).stat F.STRONG_QUOTE_CTL_STATUS 0)

end Sys2Proof.Machine
end

