-- ==== Sys2Proof/Machine/Hands.lean ====
section
/-! DEFINITION. Dispatch, END, traps and kills of contexts, recipe loading and the retirement of Hands (R69 to R90,
R103, R132, R135). -/
namespace Sys2Proof.Machine

/-! ### Contexts and Hands -/

/-- The Hand context under a key. -/
def handEng (key : Nat) : Eng := { kind := .hand, unit := key / 64, ctx := key % 64 }

/-- Contexts of a Hand that hold a command. -/
def State.handBusy (s : State) (h : Nat) : List Nat :=
  (s.hands.ctxs.filter (fun p => p.1 / 64 = h && p.2.state ≠ .free)).map Prod.fst

/-- Free contexts of a Hand. -/
def State.handFree (s : State) (h : Nat) : Nat := 64 - (s.handBusy h).length

/-- Whether a Hand is in service. -/
def State.handServes (s : State) (h : Nat) : Bool := (s.getF F.HANDS_SUMMARY_IN_SERVICE).testBit h

/-- Hands in service. -/
def State.handCount (s : State) : Nat := ((upto 16).filter (fun h => s.handServes h)).length

/-- Hands retired. -/
def State.handsRetired (s : State) : Nat := ((upto 16).filter (fun h => (s.getF F.HANDS_SUMMARY_RETIRED).testBit h)).length

/-- Set a Hand's state (R90): 0 IN_SERVICE, 1 DRAINING, 2 WITHDRAWN, 3 RETIRED. One that leaves service or returns to it is a
trigger of R163. -/
def State.handSet (s : State) (h st cause : Nat) : State :=
  let put (f : Fld) (k : Nat) (s : State) : State := s.setF f (setBit (s.getF f) h (st = k))
  let s0 := s.capTriggerIf (decide ((s.getF F.HANDS_SUMMARY_IN_SERVICE).testBit h ≠ decide (st = 0)))
  let s1 := put F.HANDS_SUMMARY_RETIRED 3 (put F.HANDS_SUMMARY_WITHDRAWN 2 (put F.HANDS_SUMMARY_DRAINING 1 (put F.HANDS_SUMMARY_IN_SERVICE 0 s0)))
  (s1.setF (F.HANDS_STATE_STATE.win 0x10000 h) st).setF (F.HANDS_STATE_RETIRE_CAUSE.win 0x10000 h) cause

/-- At a start every Hand but the retired is in service: the secure NVM holds the retired set alone (R85, R90). -/
def State.handsIn (s : State) : State :=
  (upto 16).foldl (fun s h => if (s.getF F.HANDS_SUMMARY_RETIRED).testBit h then s else s.handSet h 0 0) s

/-- The Hand a tag goes to: in service, most FREE contexts, the lowest among equals (R88); a command killed once
goes to another Hand (R87). -/
def State.pickHand (s : State) (avoid : Nat) : Option Nat :=
  let l := (upto 16).filter (fun h => s.handServes h && h ≠ avoid && decide (0 < s.handFree h))
  l.foldl (fun (b : Option Nat) h =>
    match b with
    | none => some h
    | some x => if s.handFree x < s.handFree h then some h else some x) none

/-! ### Dispatch (R75, R76, R132, R135) -/

/-- Whether a write runs as a chain of grains (R135). -/
def State.chained (s : State) (g : Tag) : Bool :=
  !s.feat 38 && g.entry = 1 && decide (0 < g.leaves) && g.leaf / 16 ≠ (g.leaf + g.leaves - 1) / 16

/-- The leaves a dispatch covers: first leaf, count, and whether more of the chain follow. -/
def State.subRange (s : State) (g : Tag) : Nat × Nat × Bool :=
  if s.chained g then
    let lo := if g.chain = 0 then g.leaf else (g.leaf / 16 + g.chain) * 16
    let hi := min (g.leaf + g.leaves) ((g.leaf / 16 + g.chain + 1) * 16)
    (lo, hi - lo, decide (hi < g.leaf + g.leaves))
  else (g.leaf, g.leaves, false)

/-- d0 at dispatch. R76 names the buffer and not its rights: which of READ and WRITE the supplied d0 and d1 carry for each
entry is the model's choice (assumption log 52), READ where the entry reads the buffer and WRITE where it fills it. -/
def State.dataView (s : State) (t : Nat) (g : Tag) (lo n : Nat) : BitVec 128 :=
  let at_ := stageBase t + (lo - g.leaf) * 4096
  match g.entry with
  | 0 => mkDesc true true true true spSTAGE (n * 4096) at_
  | 1 => mkDesc true true false true spSTAGE (n * 4096) at_
  | 3 => mkDesc true true false true spSTAGE g.declared at_
  | 5 => mkDesc true true false true spSTAGE (n * 4096) at_
  | 7 => mkDesc true true false true spTILL (n * 4096) ((s.takeOf g.take).grainBase g.frame g.grain)
  | 8 => mkDesc true true false true spSTAGE (n * 4096) at_
  | 10 => mkDesc true true true true spSTAGE 69632 at_
  | _ => 0

/-- d1 at dispatch: VALID = 0 where the volume carries no protection information; its READ and WRITE are the model's choice
(assumption log 52). -/
def State.piView (s : State) (t : Nat) (g : Tag) (lo n : Nat) : BitVec 128 :=
  let m := metaBytes (s.volOf g.vol).format
  if m = 0 ∨ [0, 1, 5, 6].contains g.entry = false then 0
  else mkDesc true true (g.entry = 0 || g.entry = 6) true spSTAGE (n * m) (piBase t + (lo - g.leaf) * m)

/-- The registers of R76. -/
def State.startCtx (s : State) (t key : Nat) (serial : Nat) : Ctx :=
  let g := s.tagOf t
  let r := s.hands.recipes.get (g.slot - 1)
  let (lo, n, _) := s.subRange g
  let c0 : Ctx := { (default : Ctx) with
    state := .ready, pc := r.entryWord g.entry % 2 ^ 17, tag := t, recipe := g.slot - 1, entry := g.entry
    vol := g.vol, codeLen := r.codeLen, serial := serial, vault := s.getF (F.SIEVE_VOL_CFG_VAULT.at g.vol) }
  let w (c : Ctx) (r v : Nat) : Ctx := c.wg r (BitVec.ofNat 64 v)
  let c1 := w (w (w (w (w (w c0 1 (s.plan.recordBase + 64 * t)) 2 g.vol) 3 lo) 4 n) 5 r.constOff) 6 (key % 64 * 0x800)
  (c1.wd 0 (s.dataView t g lo n)).wd 1 (s.piView t g lo n)

/-- Whether a tag meets the dispatch condition (R132); a command with no recipe entry is never dispatched. -/
def State.mayDispatch (s : State) (t : Nat) : Bool :=
  decide ((s.tagOf t).entry < 16) && s.clearToGo t && (s.tagOf t).tollPassed && !s.deaf

/-- Whether the recipe a command was accepted with may run it: RESIDENT, with its entry (R75, R78, R84). -/
def State.entryHere (s : State) (g : Tag) : Bool :=
  g.slot ≠ 0 && (s.hands.recipes.get (g.slot - 1)).state = 2 && (s.hands.recipes.get (g.slot - 1)).entryWord g.entry ≠ 0xFFFFFFFF

/-- Dispatch a tag, where it meets the condition and no earlier command does (R132), under the recipe bound at its acceptance
(R78); a recipe unloaded since accepts no new dispatch (R84), which ends the command as one whose entry is absent. -/
def State.dispatch (s : State) (t : Nat) : State :=
  let g := s.tagOf t
  let first := s.docket.tags.all (fun p => p.1 = t || !(decide (p.2.reeve < g.reeve) && s.mayDispatch p.1))
  if s.mayDispatch t = false ∨ first = false then s
  else if s.entryHere g = false then s.docketEnd t 0x5032 0
  else
    match s.pickHand (if g.redisp then g.ctx / 64 else 16) with
    | none => s
    | some h =>
      let used := (s.handBusy h).map (fun k => k % 64)
      let key := h * 64 + lowestFree 0 used
      let (d, s1) := s.draw
      let c := s1.startCtx t key d.toNat
      (({ s1 with hands := { s1.hands with ctxs := s1.hands.ctxs.set key c } }).putTag t
        { g with state := .dispatched, ctx := key }).mirrorTag t

/-- A WAITING tag is dispatched (R132). -/
def execDispatch (tag : Nat) (s : State) : Res := .next (s.dispatch tag)

/-! ### Recipes that end (R78, R84) and Hands that drain (R86) -/

/-- Contexts that run a recipe slot. -/
def State.recipeRunning (s : State) (slot : Nat) : Nat :=
  (s.hands.ctxs.filter (fun p => decide (p.1 < 1024) && p.2.state ≠ .free && p.2.recipe = slot)).length

/-- RETIRING recipes that no context runs any more are EMPTY (R84). -/
def State.recipeSweep (s : State) : State :=
  let gone := (s.hands.recipes.filter (fun p => p.2.state = 3 && s.recipeRunning p.1 = 0)).map Prod.fst
  gone.foldl (fun s k => { s with hands := { s.hands with recipes := s.hands.recipes.set k default } }) s

/-- The capacity of the Hands in service: 6.4 GB/s ingest and 8 GB/s read each (R88). -/
def handCap (n : Nat) (c : Cap) : Cap := { c with ingest := min c.ingest (n * 6400000000), read := min c.read (n * 8000000000) }

/-- A Hand is RETIRED: the Council books it and, where the Toll's capacity falls, lowers it; beyond three Hands an
ALARM names it (R85, R89). -/
def State.handOut (s : State) (h cause : Nat) : State :=
  let s1 := ((s.handSet h 3 cause).spareCall kHand h).holdRestart
  let c := handCap s1.handCount s1.toll.cap
  let s2 := if c = s1.toll.cap then s1 else s1.tollCap c
  if 3 < s2.handsRetired then s2.alarm blkHANDS 0 0 (h * 256 + cause) [] else s2

/-- A Hand leaves service as asked: RETIRED, or, with cause 0, WITHDRAWN for its test. Every Hand lost moves the Toll's
capacity (R163). -/
def State.drainEnd (s : State) (h cause : Nat) : State :=
  let s1 := ({ s with hands := { s.hands with drain := none } }).setF F.HANDS_RETIRE_BUSY 0
  if cause = 0 then s1.handSet h 2 0 else s1.handOut h cause

/-- A Hand begins to drain; one without contexts has drained at once (R86). -/
def State.drainBegin (s : State) (h cause : Nat) : State :=
  let s1 := s.handSet h 1 cause
  let s2 := ({ s1 with hands := { s1.hands with drain := some (h, cause) } }).setF F.HANDS_RETIRE_BUSY (b2n (cause ≠ 0))
  let s3 := s2.capTrigger
  if (s3.handBusy h).isEmpty then s3.drainEnd h cause else s3

/-- A deferrable retirement begins, unless three Hands are retired or it would break a guarantee (R89): its status. -/
def State.drainTry (s : State) (h cause : Nat) : Status × State :=
  let c := handCap (s.handCount - 1) s.toll.cap
  if (s.getF F.HANDS_SUMMARY_RETIRED).testBit h then (0, s)
  else if 3 ≤ s.handsRetired then (0x8031, s)
  else if s.keepsGuarantee s.toll.cap = true ∧ s.keepsGuarantee c = false then
    (0x2030, s.setF F.HANDS_RETIRE_RETRY_MS (min 0xFFFF (s.retryGuarantee c)))
  else (0, s.drainBegin h cause)

/-- The retirements queued behind a drain begin in their order, judged as they begin (R89); one that must drain leaves the
rest queued. -/
def State.drainNext : List (Nat × Nat) → State → State
  | [], s => { s with hands := { s.hands with retireQ := [] } }
  | (h, c) :: r, s =>
    if s.hands.drain.isSome then { s with hands := { s.hands with retireQ := (h, c) :: r } }.setF F.HANDS_RETIRE_BUSY 1
    else
      let x := s.drainTry h c
      State.drainNext r (x.2.setF F.HANDS_RETIRE_STATUS x.1)

/-- A draining Hand without contexts is RETIRED, or WITHDRAWN for its test; the retirements queued behind it begin. -/
def State.drainSweep (s : State) : State :=
  match s.hands.drain with
  | none => s
  | some (h, cause) =>
    if (s.handBusy h).isEmpty = false then s
    else
      let s1 := s.drainEnd h cause
      State.drainNext s1.hands.retireQ s1

/-! ### END (R103) -/

/-- The bytes of a read as they leave: each leaf and, unless PRACT is set, its protection information (R130). -/
def State.readBytes (s : State) (t : Nat) (g : Tag) (n : Nat) : List Byte :=
  let m := if g.pract then 0 else metaBytes (s.volOf g.vol).format
  (upto n).flatMap (fun i => s.stageLeaf t i ++ s.rdBytes (stageKey (piBase t + m * i)) m)

/-- Send read data on the wire their command came by. -/
def State.sendRead (s : State) (t : Nat) (g : Tag) (n : Nat) : State :=
  let q := s.queueOf g.queue
  let d := s.readBytes t g n
  if q.kind = kNvme then s.send (.hostData g.queue g.cid d)
  else if q.kind = kCarrier then
    let ps := pieces 1048552 ((d.length + 1048551) / 1048552) d
    (upto ps.length).foldl (fun s i =>
      s.carSend q.source 0x05 0 (leBytes 8 g.reg ++ leBytes 8 (g.ofs + i * 1048552) ++ leBytes 8 0 ++ ps.getD i []) .nothing) s
  else if q.kind = kMagazine then s.magData q.source g.taskReg (n = g.leaves) d
  else s

/-- The port's inline checker on read data (R221): the first leaf whose guard fails, if any. -/
def State.readBad (s : State) (t : Nat) (g : Tag) : Option Nat :=
  let f := (s.volOf g.vol).format
  if f = 0 ∨ g.pract = true then none else (s.inlineBad t f g.leaves).head?

/-- Pass a status to the Docket: read data leave first, and a failing leaf stops them with 0x4053 (R221); a write on
a synchronous link is withheld (R247); the last of a chain completes the command (R135). END's detail word serves a status of
class 0x3 or 0x4 alone (R103). The spec does not say whether the leaf offset of a later sub-command counts from the sub-command
or from the whole command: the model passes END's word unchanged (DESIGN CHOICE, assumption log 22). -/
def State.endPass (s : State) (t : Nat) (st det0 : Nat) (us : List MapUpd) (reeve : Nat) : State :=
  let g := s.tagOf t
  let det := if classOf st = 3 ∨ classOf st = 4 then det0 else 0
  let more := (s.subRange g).2.2
  if g.entry = 0 ∧ classOf st < 2 then
    match s.readBad t g with
    | none => (s.sendRead t g g.leaves).docketEnd t st det
    | some i => ((s.sendRead t g i).addN R.TALLY_INLINE_ERR 1).docketEnd t 0x4053 i
  else
    let s1 := if classOf st < 2 ∧ us.isEmpty = false then s.syncSend t g.vol reeve us (!more) st det else s
    if classOf st < 2 ∧ more = true then
      (s1.putTag t { g with state := if (s.queueOf g.queue).state = 1 then .held else .waiting, chain := g.chain + 1, committing := false }).tollServe
    else if s1.withheld t then (s1.putTag t { g with state := .completing, ended := true }).tollServe
    else
      let s2 := s1.docketEnd t st det
      if g.entry = 10 then s2.copyEnd g.frame st else s2

/-- END's last steps (R77, R103): held contexts released, the status passed, the context FREE. -/
def State.endFinish (s : State) (e : Eng) (st det : Nat) : State :=
  let c := s.ctx e
  let fps := s.sieve.pendingFp.filter (fun p => p.2 ≠ e.key)
  let s1 := ({ s with sieve := { s.sieve with pendingFp := fps } }.heldFreeAll e.key).putCtx e default
  if e.kind = .hand then ((s1.endPass c.tag st det c.group (s.tagOf c.tag).reeve).recipeSweep).drainSweep else s1

/-- The status END passes: a reserved class becomes 0xF034 (R103). -/
def endStatus (st : Status) : Status := if 9 ≤ classOf st ∧ classOf st < 15 then 0xF034 else st

/-- END once its operations have completed: an aborted tag's group is discarded and it completes as aborted; with a
status of class 0 or 1 the group commits; otherwise it is discarded. -/
def State.endGo (s : State) (e : Eng) (ra : Nat) : State :=
  let c := s.ctx e
  let v := (c.rg ra).toNat
  let st := endStatus (v % 65536)
  let det := v / 65536 % 2 ^ 32
  let g := s.tagOf c.tag
  if e.kind = .hand ∧ g.aborted = true then (s.discardGroup e.key).endFinish e g.status 0
  else if classOf st < 2 ∧ (c.group ≠ [] ∨ c.refs ≠ []) then
    let s1 := if e.kind = .hand then s.putTag c.tag { g with committing := true } else s
    (s1.putCtx e { c with state := .waiting, wait := .commit st det }).yields e
  else if classOf st < 2 then s.endFinish e st det
  else (s.discardGroup e.key).endFinish e st det

/-- END issues (R103): it waits for the context's outstanding operations. -/
def execEndCtx (e : Eng) (ra : GReg) (s : State) : Res :=
  .next (s.issue e [ra.toNat] (fun c s =>
    if c.ops.isEmpty then (s.putCtx e c).endGo e ra.toNat
    else (s.putCtx e { c with state := .waiting, wait := .ending ra.toNat }).yields e))

/-- The group commit of a context that END has left waiting (R103, R280): held while a snapshot barrier stands over its
volume (R239); 0x7050 where this head no longer owns the commons. A Hand's group lies in its command's commons; a Council
core's may reach several, and each commons takes its part as one group of its own Daybook (assumption log 49). -/
def State.groupCommit (s : State) (e : Eng) : State :=
  let c := s.ctx e
  match c.wait with
  | .commit st det =>
    let own (u : MapUpd) : Nat := (s.volOf (u.addr / 2 ^ 52 % 4096)).commons
    let cms := (c.group.map own ++ c.refs.map (fun (o : SieveOp) => o.key / 2 ^ 264)).eraseDups
    if c.group.any (fun u => s.sieve.barrier.contains (u.addr / 2 ^ 52 % 4096)) = true ∨
        (e.kind = .hand ∧ s.sieve.barrier.contains c.vol = true) then s
    else if cms.any (fun cm => !s.owns cm) then (s.discardGroup e.key).endFinish e 0x7050 0
    else
      let s0 := cms.foldl (fun (t : State) (cm : Nat) => t.commitGroup cm c.tag c.vol (c.group.filter (fun u => own u = cm))
        (c.refs.filter (fun (o : SieveOp) => o.key / 2 ^ 264 = cm))) s
      let s1 := if e.kind = .hand then s0.mirrorTag c.tag else s0
      let c1 := s1.ctx e
      if s1.mirrors = true ∧ s1.cf.acked < s1.cf.txSeq then s1.putCtx e { c1 with wait := .ack s1.cf.txSeq st det, refs := [] }
      else (s1.putCtx e { c1 with refs := [] }).endFinish e st det
  | _ => s

/-- The Steward commits the group of a context that END has left waiting (R280). -/
def execGroupCommit (e : Eng) (s : State) : Res := .next (s.groupCommit e)

/-- Commits whose records the partner has acknowledged complete (R280). -/
def State.ackSweep (s : State) : State :=
  s.hands.ctxs.foldl (fun s p =>
    match p.2.wait with
    | .ack seq st det =>
      if p.2.state = .waiting ∧ (seq ≤ s.cf.acked ∨ s.mirrors = false) then s.endFinish (handEng p.1) st det else s
    | _ => s) s

/-! ### Kills (R70, R71, R87) -/

/-- How a command was killed: by a trap without an entry to handle it, by a trap that cannot be handled or a cause of
R85, after a drain timeout, or by a load from a poisoned line (R431). -/
inductive KillBy where
  | trap | fault | drain | poison
  deriving DecidableEq, Repr

/-- Kill a Hand's context (R71, R87, R120): the LOG record, the group and its references gone, the Assay contexts
released; the command goes back to the Docket once, or completes. A group already committed stays committed: its context only
waited for the partner's acknowledgement. -/
def State.kill (s : State) (e : Eng) (cause : Nat) (by_ : KillBy) : State :=
  let c := s.ctx e
  if c.state = .free ∨ c.state = .halted then s
  else
    let g := s.tagOf c.tag
    let sealed_ := match c.wait with | .ack _ _ _ => true | _ => false
    let again := e.kind = .hand && !g.redisp && !g.aborted &&
      by_ ≠ .poison && (!c.issued || ((s.hands.recipes.get c.recipe).entryWord c.entry).testBit 31 && by_ ≠ .trap)
    let st := if g.aborted then g.status else match by_ with | .trap => 0xF031 | .fault => 0xF032 | .drain => 0xF033 | .poison => 0xF140
    let n := s.now
    let body := leBytes 1 (e.unit % 16) ++ leBytes 1 (e.ctx % 64) ++ leBytes 2 c.tag ++ leBytes 1 cause ++ leBytes 3 0 ++ leBytes 4 c.pc
    let s1 := s.log blkHANDS (if again then 0 else classOf st) (if again then 0 else st) (if again then 0 else n) body
    let w := 0x10000 * (e.unit % 16)
    let s2 := if e.kind = .hand then
      (s1.setN (R.HANDS_LAST_TRAP + w) (c.tag % 2 ^ 16 * 2 ^ 48 + cause * 2 ^ 40 + e.ctx % 64 * 2 ^ 34 + c.entry % 16 * 2 ^ 30 + c.pc % 2 ^ 17)).setN
        (R.HANDS_LAST_TRAP_SEQ + w) n else s1
    let fps := s2.sieve.pendingFp.filter (fun p => p.2 ≠ e.key)
    let s2 := { s2 with sieve := { s2.sieve with pendingFp := fps } }
    let s3 := ((if sealed_ then s2 else s2.discardGroup e.key).heldFreeAll e.key).millKill e.key
    let s4 := s3.putCtx e { s3.ctx e with state := .halted, wait := .nothing, bells := [], group := [], refs := [] }
    if e.kind ≠ .hand then s4
    else if again then
      s4.putTag c.tag { g with state := if (s.queueOf g.queue).state = 1 then .held else .waiting, redisp := true, killSeq := n
                               committing := false }
    else
      let s5 := (s4.putTag c.tag { g with killSeq := n }).docketEnd c.tag st 0
      if g.entry = 10 then s5.copyEnd g.frame st else s5

/-- A HALTED context whose operations have completed is FREE (R56, R120). -/
def execContextFreed (e : Eng) (s : State) : Res :=
  let c := s.ctx e
  .next (if c.state = .halted ∧ c.ops.isEmpty = true then ((s.putCtx e default).recipeSweep).drainSweep else s)

/-- A TRAPPING context without outstanding operations goes on at entry 15, or is killed (R69, R104). -/
def execTrapEntry (e : Eng) (s : State) : Res :=
  let c := s.ctx e
  let w := (s.hands.recipes.get c.recipe).entryWord 15
  .next (
    if c.state ≠ .trapping ∨ c.ops.isEmpty = false then s
    else if e.kind ≠ .hand ∨ c.inTrap = true ∨ w = 0xFFFFFFFF then s.kill e c.cause .trap
    else s.putCtx e ({ c with state := .ready, inTrap := true, pc := w % 2 ^ 17, pend := [] }.wg 30
      (BitVec.ofNat 64 (c.cause + c.entry % 16 * 2 ^ 8 + c.imm % 2 ^ 16 * 2 ^ 16 + c.pc % 2 ^ 17 * 2 ^ 32))))

/-! ### Errors and retirement (R85, R86, R89) -/

/-- Times of a list within the last n operating seconds, with the present one. -/
def State.recent (s : State) (l : List Nat) (n : Nat) : List Nat := (l.filter (fun t => decide (s.opsec < t + n))) ++ [s.opsec]

/-- No unit is under test. -/
def State.testIdle (s : State) : State := (s.setF F.WARDEN_TEST_STATE_KIND 0xFF).setF F.WARDEN_TEST_STATE_UNIT 0xFF

/-- The status a failed test of a kind gives its requester (R90, R190, R208, R224, R423, R437). -/
def failStatus (kind : Nat) : Status :=
  if kind = kHand then 0x4031 else if kind = kMill then 0x4090 else if kind = kPress then 0x4080 else if kind = kWay then 0x4140
  else if kind = kCouncil then 0x4130 else if kind = kAssay then 0x40A0 else 0

/-- The Warden notes the end of a test (R508), and WARDEN_TEST_CTL shows its result. -/
def State.testNoted (s : State) (r : TestReq) (pass : Bool) : State :=
  let st := if pass then 0 else failStatus r.kind
  let s1 := (((s.setF F.WARDEN_LAST_EVENT_KIND r.kind).setF F.WARDEN_LAST_EVENT_UNIT r.unit).setF F.WARDEN_LAST_EVENT_STATUS st).setN
    R.WARDEN_LAST_EVENT_SEQ s.now |>.tick
  if r.source = 1 then (s1.setF F.WARDEN_TEST_CTL_BUSY 0).setF F.WARDEN_TEST_CTL_STATUS st else s1

/-- The unit under test fails by itself: the test ends as a failed one does, and the register it was asked through is idle. -/
def State.testLost (s : State) (r : TestReq) : State :=
  let s1 := { s with warden := { s.warden with running := none, full := [] } }.testIdle
  let own (busy st : Fld) : State := let t := s1.setF busy 0; if r.source = 2 then t.setF st (failStatus r.kind) else t
  (if r.kind = kPress then own F.PRESS_LANE_CTL_BUSY F.PRESS_LANE_CTL_STATUS
    else if r.kind = kMill then own F.MILL_CORE_CTL_BUSY F.MILL_CORE_CTL_STATUS
    else if r.kind = kAssay then own F.ASSAY_LANE_CTL_BUSY F.ASSAY_LANE_CTL_STATUS else s1).testNoted r false

/-- Abandon the test under way: its unit comes back, and the test waits at the head of the queue (R89, R506). -/
def State.testAbandon (s : State) : State :=
  match s.warden.running with
  | none => s
  | some r =>
    let s1 := ({ s with warden := { s.warden with running := none, full := [], queue := r :: s.warden.queue } }.setF F.WARDEN_TEST_STATE_QUEUED
      (s.warden.queue.length + 1)).testIdle
    let s2 := { s1 with hands := { s1.hands with drain := match s1.hands.drain with
      | some d => if d.2 = 0 then none else some d
      | none => none } }
    if r.kind = kHand then (s2.handSet r.unit 0 0).capTrigger
    else if r.kind = kPress ∧ (s.getF (F.PRESS_LANE_STATE.at r.unit) = 2 ∨ s.press.drain.get r.unit = 1) then
      { s1 with press := { s1.press with drain := s1.press.drain.set r.unit 0 } }.pressBack r.unit
    else if r.kind = kMill ∧ (s.getF (F.MILL_CORE_STATE.at r.unit) = 2 ∨ s.mill.drain.get r.unit = 1) then
      { s1 with mill := { s1.mill with drain := s1.mill.drain.set r.unit 0 } }.millBack r.unit
    else if r.kind = kAssay ∧ s.getF (F.ASSAY_LANE_STATE.at r.unit) = 2 then s1.setF (F.ASSAY_LANE_STATE.at r.unit) 0
    else s1

/-- A trigger that is not deferrable: every context of the Hand is killed at once, and the Hand is RETIRED. A Hand
withdrawn for its test comes back (R85, R86, R89). -/
def State.handKill (s : State) (h cause : Nat) : State :=
  if (s.getF F.HANDS_SUMMARY_RETIRED).testBit h then s
  else
    let s1 := s.handOut h cause
    let s2 := (s.handBusy h).foldl (fun s k => s.kill (handEng k) 0 .fault) s1
    let s3 := if s2.hands.drain = none ∨ (match s2.hands.drain with | some d => decide (d.1 ≠ h) | none => false) = true then s2
      else { s2 with hands := { s2.hands with drain := none } }.setF F.HANDS_RETIRE_BUSY 0
    let s4 := match s3.warden.running with
      | some r => if r.kind = kHand ∧ r.unit = h then s3.testLost r else s3.testAbandon
      | none => s3
    if s4.hands.drain.isSome then s4 else State.drainNext s4.hands.retireQ s4

/-- Retire a Hand with a cause (R85, R89): the status and the state. A deferrable retirement waits for a drain under way, once;
it is refused once three Hands are retired, and deferred where it would break a guarantee. -/
def State.handRetire (s : State) (h cause : Nat) : Status × State :=
  if (s.getF F.HANDS_SUMMARY_RETIRED).testBit h then (0, s)
  else if cause ≠ 1 ∧ cause ≠ 4 then (0, s.handKill h cause)
  else if (s.getF F.HANDS_SUMMARY_DRAINING).testBit h = true ∧ s.getF (F.HANDS_STATE_RETIRE_CAUSE.win 0x10000 h) ≠ 0 then (0, s)
  else if s.hands.drain.isSome = true ∧ s.handsRetired < 3 then
    (0, if s.hands.retireQ.any (fun x => x.1 = h) then s
      else ({ s with hands := { s.hands with retireQ := s.hands.retireQ ++ [(h, cause)] } }).setF F.HANDS_RETIRE_BUSY 1)
  else s.drainTry h cause

/-- HANDS_RETIRE.RETIRE (R85, R89). -/
def execHandsRetireReq (hand : Nat) (s : State) : Res :=
  let s1 := (s.setF F.HANDS_RETIRE_HAND hand).setF F.HANDS_RETIRE_RETRY_MS 0
  let r := s1.handRetire (hand % 16) 1
  .next (r.2.stat F.HANDS_RETIRE_STATUS r.1)

/-- HANDS_RETIRE.RESTORE (R89): only in SERVICE, only after the Hand has passed its self-test. -/
def execHandsRestoreReq (hand : Nat) (pass : Bool) (s : State) : Res :=
  let h := hand % 16
  let s1 := s.setF F.HANDS_RETIRE_HAND hand
  .next (
    if s.mode ≠ .service ∨ (s.getF F.HANDS_SUMMARY_RETIRED).testBit h = false then s1.stat F.HANDS_RETIRE_STATUS 0x7035
    else if pass = false then s1.stat F.HANDS_RETIRE_STATUS 0x4031
    else (s1.handSet h 0 0).capTrigger.stat F.HANDS_RETIRE_STATUS 0)

/-- A context of a draining Hand still runs after 100 ms (R86). -/
def execDrainTimeout (e : Eng) (s : State) : Res :=
  .next (match s.hands.drain with
    | some d => if e.kind = .hand ∧ d.1 = e.unit % 16 then s.kill e 0 .drain else s
    | none => s)

/-- An uncorrectable error in a Hand's instruction store or pocket, or, with parity, in a context's registers: the
context it meets is killed (R70); the third store or pocket error in 24 operating hours retires the Hand (R85). -/
def execHandStoreError (e : Eng) (parity : Bool) (s : State) : Res :=
  let h := e.unit % 16
  let c := s.ctx e
  let cause := if parity then 0x21 else 0x20
  let live := decide (c.state ≠ .free) && decide (c.state ≠ .halted)
  if e.kind ≠ .hand ∨ (parity = true ∧ live = false) then .next s
  else
    let s1 := (if live then (s.noteTrap e c cause).kill e cause .fault else s).satF (F.HANDS_ERRORS_UNCORR.win 0x10000 h)
    if parity then .next s1
    else
      let l := s1.recent (s1.hands.uncorr.get h) 86400
      let s2 := { s1 with hands := { s1.hands with uncorr := s1.hands.uncorr.set h l } }
      .next (if 3 ≤ l.length then s2.handKill h 3 else s2)

/-- A corrected error on a Hand: the 1,000th within an operating hour asks for its retirement (R85). -/
def execHandCorrectedError (hand : Nat) (s : State) : Res :=
  let h := hand % 16
  let s1 := s.satF (F.HANDS_ERRORS_CORR.win 0x10000 h)
  let l := s1.recent (s1.hands.corr.get h) 3600
  let s2 := { s1 with hands := { s1.hands with corr := s1.hands.corr.set h l } }
  .next (if 1000 ≤ l.length then
      let r := s2.handRetire h 4
      r.2.setF F.HANDS_RETIRE_STATUS r.1
    else s2)

/-- A Hand with a READY context issues nothing for 1 ms (R85). -/
def execHandLockup (hand : Nat) (s : State) : Res :=
  let h := hand % 16
  .next (if (s.handBusy h).any (fun k => (s.hands.ctxs.get k).state = .ready) then s.handKill h 5 else s)

/-- A Hand is withdrawn for its test: it drains first (R86). -/
def State.handWithdraw (s : State) (h : Nat) : State := s.drainBegin h 0

/-- A Hand's self-test ends (R85): a failure retires it. -/
def State.handTestDone (s : State) (h : Nat) (pass : Bool) : State :=
  if pass then (s.handSet h 0 0).capTrigger else s.handKill h 2

/-! ### Loading recipes (R81 to R84) -/

/-- Round up to a multiple of 8. -/
def up8 (n : Nat) : Nat := (n + 7) / 8 * 8

/-- Instruction-store bytes free to recipes, and shared-area bytes free (R90). -/
def State.storeFree (s : State) : Nat := 114688 - s.hands.recipes.foldl (fun n p => n + up8 p.2.codeLen) 0
def State.sharedFree (s : State) : Nat := 114688 - s.hands.recipes.foldl (fun n p => n + up8 p.2.constLen) 0

/-- The lowest shared-area offset at which n bytes stand clear of every resident recipe's constants. -/
def State.constAt (s : State) (n : Nat) : Option Nat :=
  let spans := (s.hands.recipes.filter (fun p => 0 < p.2.constLen)).map (fun p => (p.2.constOff - 0x20000, up8 p.2.constLen))
  let fits (o : Nat) : Bool := decide (o + n ≤ 114688) && spans.all (fun r => !overlaps o n r.1 r.2)
  (0 :: spans.map (fun r => r.1 + r.2)).foldl (fun (b : Option Nat) o =>
    if fits o then (match b with | none => some o | some x => some (min x o)) else b) none

/-- The recipe a package holds, before it has a place. -/
def parseRecipe (p : List Byte) : Recipe where
  state := 2
  ident := fieldAt p 8 4
  version := fieldAt p 12 4
  codeLen := fieldAt p 0x10 4
  constLen := fieldAt p 0x14 4
  frameNeed := fieldAt p 0x18 4
  constOff := 0
  entries := (upto 16).map (fun i => fieldAt p (0x20 + 4 * i) 4)
  digest := digest 0 p
  code := (p.drop 128).take (fieldAt p 0x10 4)
  consts := (p.drop (128 + up8 (fieldAt p 0x10 4))).take (fieldAt p 0x14 4)
  pkg := p

/-- Whether a package's header is malformed (R81, R84). -/
def State.badHeader (s : State) (p : List Byte) : Bool :=
  let r := parseRecipe p
  fieldAt p 0 4 ≠ 0x50525849 || fieldAt p 4 2 ≠ 1 || fieldAt p 6 2 ≠ 0 || fieldAt p 0x1C 4 ≠ 0 || fieldAt p 0x68 24 ≠ 0 ||
    r.codeLen % 4 ≠ 0 || decide (114688 < r.codeLen) || decide (114688 < r.constLen) || decide (2048 < r.frameNeed) ||
    p.length ≠ 128 + up8 r.codeLen + up8 r.constLen + 512 || p.length % 8 ≠ 0 || decide (230016 < p.length) ||
    r.entries.any (fun w => w ≠ 0xFFFFFFFF && (decide (r.codeLen ≤ w % 2 ^ 17) || w % 4 ≠ 0 || w / 2 ^ 17 % 2 ^ 14 ≠ 0)) ||
    fieldAt p 0x60 8 ≠ s.getN R.HANDS_PROGKEY

/-- The status with which a package is refused, 0 where it may be placed, in the table's order (R84). -/
def State.loadStatus (s : State) (p : List Byte) : Status :=
  let r := parseRecipe p
  let known := s.hands.versions.get r.ident
  if s.badHeader p then 0x5031
  else if sigHolds s.strong.progKey (p.take (p.length - 512)) (p.drop (p.length - 512)) = false then 0x4030
  else if (match known with | some v => decide (r.version < v) | none => false) = true then 0x7030
  else if s.hands.recipes.any (fun x => x.2.state = 2 && x.2.ident = r.ident && x.2.version = r.version && x.2.digest ≠ r.digest) then 0x7033
  else if s.storeFree < up8 r.codeLen ∨ s.constAt (up8 r.constLen) = none ∨ 64 ≤ lowestFree 0 s.hands.recipes.keys then 0x8030
  else if known = none ∧ 256 ≤ s.hands.versions.length then 0x8032
  else 0

/-- Place a verified package in every Hand and make it resident (R83): the slot. -/
def State.loadPlace (s : State) (p : List Byte) : Nat × State :=
  let r := parseRecipe p
  let slot := lowestFree 0 s.hands.recipes.keys
  let off := (s.constAt (up8 r.constLen)).getD 0
  let hi := match s.hands.versions.get r.ident with | some v => max v r.version | none => r.version
  let s1 := { s with hands := { s.hands with
    recipes := s.hands.recipes.set slot { r with constOff := 0x20000 + off }
    versions := s.hands.versions.set r.ident (some hi) } }.hallmarkExtend 2 r.digest
  (slot, ((upto 16).foldl (fun s h => s.wrBytes (pocketKey h (0x20000 + off)) r.consts) s1).tick)

/-- A load ends with a status. -/
def State.loadEnd (s : State) (st : Status) : State :=
  let s1 := { s with hands := { s.hands with loadOpen := false, loadBuf := [] } }
  let s2 := ((s1.setF F.HANDS_LOAD_CTL_BUSY 0).stat F.HANDS_LOAD_CTL_STATUS st)
  if st = 0x4030 then s2.alarm blkHANDS 4 0x4030 0 [] else s2

/-- Give up a load that waits for the partner: the partner forgets it (R83). -/
def State.loadForget (s : State) : State :=
  if s.hands.acts.any (fun x => x.live && x.kind = 1) then
    { s with hands := { s.hands with acts := s.hands.acts.map (fun (x : Act) => if x.kind = 1 then { x with live := false } else x) } }.sendAct
      1 2 0x7032 0 0 0 []
  else s

/-- HANDS_LOAD_CTL.BEGIN (R83); a load still waiting for the partner is given up (assumption log 52). -/
def execHandsLoadBegin (s : State) : Res :=
  let s1 := s.loadForget
  .next ((({ s1 with hands := { s1.hands with loadOpen := true, loadBuf := [] } }.setN R.HANDS_LOAD_COUNT 0).setF F.HANDS_LOAD_CTL_BUSY 1).answer 0)

/-- HANDS_LOAD_DATA takes the next 8 bytes; those beyond the declared length count and are discarded (R83, R84). -/
def execHandsLoadData (v : Word) (s : State) : Res :=
  .next (if s.hands.loadOpen then
      let n := s.getN R.HANDS_LOAD_COUNT
      let keep := (leBytes 8 v.toNat).take (s.getF F.HANDS_LOAD_LEN_VAL - n)
      { s with hands := { s.hands with loadBuf := s.hands.loadBuf ++ keep } }.addN R.HANDS_LOAD_COUNT 8
    else s)

/-- HANDS_LOAD_CTL.COMMIT (R83, R84): in PAIRED the partner is asked. -/
def execHandsLoadCommit (s : State) : Res :=
  let p := s.hands.loadBuf
  .next (if s.hands.loadOpen = false then s.answer 0
    else if s.getN R.HANDS_LOAD_COUNT ≠ s.getF F.HANDS_LOAD_LEN_VAL then s.loadEnd 0x5030
    else if s.loadStatus p ≠ 0 then s.loadEnd (s.loadStatus p)
    else if s.mode = .paired then
      ({ s with hands := { s.hands with loadOpen := false } }.answer 0).askAct 1 0 0 0 p
    else
      let r := s.loadPlace p
      (r.2.setF F.HANDS_LOAD_CTL_SLOT r.1).loadEnd 0)

/-- HANDS_LOAD_CTL.ABORT at any step before placing begins, the wait for the partner included (R83). -/
def execHandsLoadAbort (s : State) : Res :=
  let s1 := s.loadForget
  .next (if s.getF F.HANDS_LOAD_CTL_BUSY = 1 then
      { s1 with hands := { s1.hands with loadOpen := false, loadBuf := [] } }.setF F.HANDS_LOAD_CTL_BUSY 0 |>.answer 0
    else s.answer 0)

/-- Bind a volume to a slot, or unbind it (R78, R173). -/
def State.bind (s : State) (v slot : Nat) : State :=
  let x := s.volOf v
  if slot = 0xFF then ((s.putVol v { x with slot := 0 }).streamClose v).tick
  else
    let s1 := s.putVol v { x with slot := slot + 1 }
    (if x.slot = 0 then s1.streamOpenVol v else s1).tick

/-- HANDS_BIND.SLOT (R78, R79, R84). R90 gives HANDS_BIND one STATUS field beside a selected volume: the model keeps the status
of each volume's last bind, which HANDS_BIND shows for the volume selected (DESIGN CHOICE, assumption log 52). -/
def execHandsBind (slot : Nat) (s : State) : Res :=
  let v := s.getF F.HANDS_BIND_SEL_VOLUME
  let f := F.HANDS_BIND_STATUS.at v
  let r := s.hands.recipes.get slot
  .next (
    if slot ≠ 0xFF ∧ (64 ≤ slot ∨ r.state ≠ 2) then s.stat f 0x7034
    else if s.mode = .paired then
      (s.answer 0).askAct 2 v (if slot = 0xFF then 2 ^ 64 - 1 else r.ident * 2 ^ 32 + r.version) slot (if slot = 0xFF then [] else r.digest)
    else (s.bind v slot).stat f 0)

/-- A slot RETIRING takes no new dispatch: the commands accepted under it that no context serves have no recipe (R84). -/
def State.slotLeave (s : State) (slot : Nat) : State :=
  (s.tagsBy (fun g => g.slot = slot + 1)).foldl (fun s t => s.putTag t { s.tagOf t with slot := 0 }) s

/-- HANDS_UNLOAD.SLOT (R84). -/
def execHandsUnload (slot : Nat) (s : State) : Res :=
  let f := F.HANDS_UNLOAD_STATUS
  let r := s.hands.recipes.get slot
  .next (
    if 64 ≤ slot ∨ r.state = 0 then s.stat f 0x7034
    else if r.state = 3 then s.stat f 0
    else if s.docket.vols.any (fun p => p.2.slot = slot + 1) then s.stat f 0x7031
    else (({ s with hands := { s.hands with recipes := s.hands.recipes.set slot { r with state := 3 } } }).slotLeave slot).recipeSweep.stat f 0)

/-! ### Acts of the array (R79, R84, R226, R239)

The head that receives a request judges it, keeps it and asks the partner. The partner judges it, keeps it where it agrees, and
answers. The asking head then commits and tells the partner to commit, or gives it up and says so: both commit, or neither. -/

/-- What an act does on a head, once both agree: its status there, and the state. c is the asking head's own argument. -/
def State.actApply (s : State) (own : Bool) (x : Act) : Status × State :=
  match x.kind with
  | 1 =>
    let st := s.loadStatus x.blob
    if st = 0 then
      let r := s.loadPlace x.blob
      (0, if own then r.2.setF F.HANDS_LOAD_CTL_SLOT r.1 else r.2)
    else (st, if st = 0x4030 then s.alarm blkHANDS 4 0x4030 0 [] else s)
  | 2 =>
    if x.b = 2 ^ 64 - 1 then (0, s.bind x.a 0xFF)
    else match (s.hands.recipes.find? (fun p => p.2.state = 2 && p.2.ident * 2 ^ 32 + p.2.version = x.b && p.2.digest = x.blob &&
        (!own || p.1 = x.c))) with
    | some p => (0, s.bind x.a p.1)
    | none => (0x7034, s)
  | 3 => s.volCfgSet x.a x.b x.c
  | 4 =>
    let vs := ((upto x.b).map (fun i => fieldAt x.blob (2 * i) 2)).filter (fun v => s.owns (s.volOf v).commons)
    if s.snapRoom vs then (0, s.snapTake vs x.a) else (0x80C0, s)
  | 8 => s.keyApply x.a x.b x.blob
  | _ => (0x50C0, s)

/-- Where the status of an act shows on the asking head. -/
def State.actShow (s : State) (x : Act) (st : Status) : State :=
  match x.kind with
  | 1 => s.loadEnd st
  | 2 => s.setF (F.HANDS_BIND_STATUS.at x.a) st
  | 3 => s.setF (F.SIEVE_VOL_CFG_STATUS.at x.a) st
  | 4 => s.barrierEnd (if st = 0 then some x.a else none)
  | 8 => s.keyEnd st
  | _ => s

/-- Block number of an act's LOG record (R84). -/
def Act.blk (x : Act) : Nat := if x.kind < 3 then blkHANDS else if x.kind = 8 then blkSTRONG else blkSIEVE

/-- An act of this head ends with the partner's status: it commits and says so, or it commits nothing. -/
def State.actSettle (s : State) (x : Act) (st : Status) : State :=
  let r := s.actApply true x
  if st ≠ 0 then (s.actShow x 0x7032).log x.blk 7 0x7032 st []
  else (if r.1 = 0 then r.2 else s).sendAct x.kind 2 r.1 0 0 0 [] |>.actShow x r.1

/-- The partner has answered the oldest act; one given up changes nothing. -/
def State.actEnd (s : State) (st : Status) : State :=
  match s.hands.acts with
  | [] => s
  | x :: rest =>
    let s0 := { s with hands := { s.hands with acts := rest } }
    if x.live then s0.actSettle x st else s0

/-- Give an act up without the partner's answer: neither head commits it. -/
def State.actGive (s : State) (x : Act) : State := (s.sendAct x.kind 2 0x7032 0 0 0 []).actSettle x 0x7032

/-- The partner asks for an act: the status to answer with. One agreed to is kept; a snapshot's barrier stands at once (R239).
Where each head asks for an act of one kind, that of the head in slot 0 goes ahead (assumption log 18). -/
def State.actJudge (s : State) (x : Act) : Status × State :=
  let r := s.actApply false x
  if s.slotNo = 0 ∧ s.hands.acts.any (fun y => y.live && y.kind = x.kind) = true then (0x7032, s)
  else if x.kind = 4 ∧ s.sieve.barrier ≠ [] then (0x80C1, s)
  else if r.1 ≠ 0 then (r.1, if r.1 = 0x4030 then r.2 else s)
  else
    let s1 := { s with hands := { s.hands with asked := s.hands.asked ++ [x] } }
    (0, if x.kind = 4 then { s1 with sieve := { s1.sieve with barrier := (upto x.b).map (fun i => fieldAt x.blob (2 * i) 2), barrierEpoch := x.a } }
      else s1)

/-- The partner commits an act this head agreed to, or gives it up. -/
def State.actCommit (s : State) (kind : Nat) (st : Status) : State :=
  match s.hands.asked.find? (fun x => x.kind = kind) with
  | none => s
  | some x =>
    let s1 := { s with hands := { s.hands with asked := s.hands.asked.erase x } }
    let s2 := if kind = 4 then { s1 with sieve := { s1.sieve with barrier := [], barrierEpoch := 0 } } else s1
    if st = 0 then (s2.actApply false x).2 else s2

/-- The partner is gone: its acts are forgotten, and this head's commit nothing (R84, R239). -/
def State.actsDrop (s : State) : State :=
  let s1 := s.hands.asked.foldl (fun s x => s.actCommit x.kind 0x7032) s
  (s1.hands.acts.filter Act.live).foldl (fun s x => s.actSettle x 0x7032) { s1 with hands := { s1.hands with acts := [] } }

/-- No answer to the oldest act within 1 s (R84): it is given up, and its late answer changes nothing. -/
def execActReplyTimeout (s : State) : Res :=
  .next (match s.hands.acts.find? Act.live with
    | none => s
    | some x =>
      { s with hands := { s.hands with acts := s.hands.acts.replace x { x with live := false } } }.actGive x)

end Sys2Proof.Machine
end

