-- ==== Sys2Proof/Machine/Council.lean ====
section
/-! DEFINITION. The Council (R418 to R423): the Replay reel it records on (R482, R483), ballots and decisions, and its
three cores. -/
namespace Sys2Proof.Machine

/-! ### The Replay reel (R482, R483) -/

/-- The reel's length: a ring of 4 GiB. -/
def reelSize : Nat := 4294967296

/-- The 32-byte header of a reel record, with its check. -/
def reelHeader (kind rseq reeve : Nat) (body : List Byte) : List Byte :=
  let h (crc : Nat) : List Byte := leBytes 2 0x4E1E ++ leBytes 1 kind ++ leBytes 1 0 ++ leBytes 4 body.length ++
    leBytes 8 rseq ++ leBytes 8 reeve ++ leBytes 4 crc ++ leBytes 4 0
  h (crc32c (h 0 ++ body))

/-- Write bytes into the ring. -/
def State.reelBytes : State → Nat → List Byte → State
  | s, _, [] => s
  | s, off, b :: r => State.reelBytes (s.wrB (s.plan.reelBase + off % reelSize) b) (off + 1) r

/-- The newest records that leave room for `need` bytes. -/
def reelRoom (need : Nat) : List ReelRec → List ReelRec
  | [] => []
  | r :: l => if (r :: l).foldl (fun n x => n + x.len) need ≤ reelSize then r :: l else reelRoom need l

/-- Whether a record belongs to the part of the reel that a replay protects (R484). -/
def State.reelProtected (s : State) (r : ReelRec) : Bool :=
  s.mode = .replay && decide (s.obs.replayFirst ≤ r.rseq) && decide (r.rseq ≤ s.obs.replayLast)

/-- A record goes onto the reel with the next RSEQ (R482). While FREEZE stands, or where it would overwrite records a
replay protects, it is not recorded; an INPUT is then counted in REEVE_REEL_LOST (R483, R484). -/
def State.reelPut (s : State) (kind reeve : Nat) (body : List Byte) : State :=
  let rseq := s.getN R.REEVE_REEL_SEQ
  let need := 32 + body.length
  let keep := reelRoom need s.obs.reel
  let gone := s.obs.reel.take (s.obs.reel.length - keep.length)
  if s.getF F.REEVE_REEL_CTL_FREEZE = 1 ∨ gone.any s.reelProtected = true then
    if kind = 1 then s.addN R.REEVE_REEL_LOST 1 else s
  else
    let off := match s.obs.reel.getLast? with | none => 0 | some r => (r.off + r.len) % reelSize
    let x : ReelRec := ⟨kind, rseq, reeve, off, need⟩
    let s1 := s.reelBytes off (reelHeader kind rseq reeve body ++ body)
    let s2 := { s1 with obs := { s1.obs with reel := keep ++ [x] } }
    (s2.setN R.REEVE_REEL_SEQ (rseq + 1)).setN R.REEVE_REEL_OLDEST (((keep ++ [x]).head?.map (fun r => r.rseq)).getD rseq)

/-- A MARK: a start, a freeze or thaw, or the inputs lost, with the serial number (R482). Its body is this model's:
what (0 start, 1 freeze, 2 thaw), inputs lost, serial number (assumption log 18). -/
def State.reelMark (s : State) (what lost : Nat) : State :=
  s.reelPut 4 s.now (leBytes 8 what ++ leBytes 8 lost ++ leBytes 8 (s.getN R.IDENT_SERIAL))

/-- The reel record whose bytes stand at an offset of the ring, if one does: the MAGIC, a KIND of R482, a body of at most 16 MiB and
a good check. -/
def State.reelAt (s : State) (off : Nat) : Option ReelRec :=
  let bytes (o n : Nat) : List Byte := (upto n).map (fun i => s.rdB (s.plan.reelBase + (o + i) % reelSize))
  let h := bytes off 32
  let len := fieldAt h 4 4
  let kind := fieldAt h 2 1
  if fieldAt h 0 2 ≠ 0x4E1E ∨ kind = 0 ∨ 4 < kind ∨ 16777216 < len then none
  else if h = reelHeader kind (fieldAt h 8 8) (fieldAt h 16 8) (bytes (off + 32) len) then
    some ⟨kind, fieldAt h 8 8, fieldAt h 16 8, off, 32 + len⟩
  else none

/-- A record into its place by RSEQ. -/
def reelInsert (r : ReelRec) : List ReelRec → List ReelRec
  | [] => [r]
  | x :: l => if x.rseq ≤ r.rseq then x :: reelInsert r l else r :: x :: l

/-- The reel as its bytes in memory now hold it, which management may replace through a WINDOW while FREEZE is set (R483): every
record found at a MAGIC, in RSEQ order, and the next RSEQ one more than the last. Records that lie inside the body of another, and how
the reel's controls follow a replaced reel, are the model's reading (DEDUCED, assumption log 18). -/
def State.reelReload (s : State) : State :=
  let at_ := (s.mem.filter (fun p => p.2 = 0x1E && decide (s.plan.reelBase ≤ p.1) && decide (p.1 < s.plan.reelBase + reelSize))).map
    (fun p => p.1 - s.plan.reelBase)
  let found := at_.filterMap s.reelAt
  let inside (x r : ReelRec) : Bool := x.off ≠ r.off && decide ((r.off + reelSize - x.off) % reelSize < x.len)
  let l := (found.filter (fun r => !found.any (fun x => inside x r))).foldl (fun l r => reelInsert r l) []
  if l = s.obs.reel then s
  else
    let s1 := { s with obs := { s.obs with reel := l } }
    (s1.setN R.REEVE_REEL_OLDEST ((l.head?.map ReelRec.rseq).getD (s.getN R.REEVE_REEL_SEQ))).setN
      R.REEVE_REEL_SEQ ((l.getLast?.map (fun r => r.rseq + 1)).getD (s.getN R.REEVE_REEL_SEQ))

/-! ### Cores (R418, R421) -/

/-- The STATE of a core: 0 VOTING, 1 ACTIVE, 2 STANDBY, 3 FREE, 4 RESYNCING, 5 RETIRED, 6 REPLAYING. -/
def State.coreState (s : State) (k : Nat) : Nat := s.getF (F.COUNCIL_CORE_STATE.at k)

/-- Cores not retired. -/
def State.coresLeft (s : State) : List Nat := (upto 3).filter (fun k => s.coreState k ≠ 5)

/-- The configuration the pair's words select: 0 VOTING, 1 WATCHKEEPER; before joining, this head's own offer
(R418, R48). In REPLAY it is WATCHKEEPER (R484); by BL-22's alternate it is 2, SINGLE (R444). -/
def State.councilWant (s : State) : Nat :=
  let own := s.getN (R.IDENT_FEAT_STAND + 16)
  let w := if s.getN R.IDENT_FEAT_PAIR = 0 then own else s.getN (R.IDENT_FEAT_PAIR + 16)
  if s.altStep 22 = true then 2
  else if s.mode = .replay ∨ w.testBit 3 = false then 1 else 0

/-- Give every core its part in the best configuration the remaining cores allow (R418, R421). -/
def State.councilArrange (s : State) : State :=
  let left := s.coresLeft
  let cfg := max s.councilWant (3 - left.length) |> min 2
  let act := s.getF F.COUNCIL_STATE_ACTIVE
  let active := if left.contains act ∧ s.coreState act ≠ 4 then act else ((left.filter (fun k => s.coreState k ≠ 4)).headD (left.headD 0))
  let standby := (left.filter (fun k => k ≠ active)).headD 3
  let s1 := left.foldl (fun s k =>
    s.setF (F.COUNCIL_CORE_STATE.at k) (
      if s.coreState k = 4 then 4
      else if cfg = 0 then 0
      else if k = active then 1
      else if k = standby then 2
      else if s.mode = .replay then 6 else 3)) s
  let mask := left.foldl (fun n k => n + 2 ^ k) 0
  ((s1.setF F.COUNCIL_STATE_CONFIG cfg).setF F.COUNCIL_STATE_ACTIVE (if cfg = 0 then 0 else active)).setF F.COUNCIL_STATE_IN_SERVICE mask

/-- The first key of a Council core's pocket. -/
def corePocket (k : Nat) : Nat := pocketKey (20 + k) 0

/-- The state of a core. -/
def State.coreSave (s : State) (k : Nat) : CoreImage where
  ctxs := (upto 64).map (fun i => s.hands.ctxs.get (1280 + k * 64 + i))
  pocket := (s.mem.filter (fun c => decide (corePocket k ≤ c.1) && decide (c.1 < corePocket k + 2 ^ 18))).map
    (fun c => (c.1 - corePocket k, c.2))

/-- Give a core a state. -/
def State.coreLoad (s : State) (x : CoreImage) (k : Nat) : State :=
  let s1 := ((upto 64).zip x.ctxs).foldl (fun (s : State) p =>
    { s with hands := { s.hands with ctxs := s.hands.ctxs.set (1280 + k * 64 + p.1) p.2 } }) s
  let old := s1.mem.filter (fun c => decide (corePocket k ≤ c.1) && decide (c.1 < corePocket k + 2 ^ 18))
  x.pocket.foldl (fun s c => s.wrB (corePocket k + c.1) c.2) (old.foldl (fun s c => s.wrB c.1 0) s1)

/-- The decisions a core's operations still have to complete with become those of another core's state. -/
def State.coreResults (s : State) (k : Nat) (l : List (Ballot × Status)) : State :=
  let mine := l.map (fun r => (({ r.1 with core := k } : Ballot), r.2))
  { s with pair := { s.pair with results := s.pair.results.filter (fun r => r.1.core ≠ k) ++ mine } }

/-- Copy the state of one core to another (R419): its contexts, its pocket and what it awaits. -/
def State.coreCopy (s : State) (src dst : Nat) : State :=
  (s.coreLoad (s.coreSave src) dst).coreResults dst (s.pair.results.filter (fun r => r.1.core = src))

/-- What a core has still to vote on is forgotten. -/
def State.coreForget (s : State) (k : Nat) : State :=
  { s with pair := { s.pair with ballots := s.pair.ballots.filter (fun b => b.core ≠ k)
                                 owes := s.pair.owes.filter (fun o => o.1 ≠ k) } }

/-- Retire a core; the Council steps down, with an ALARM (R421). -/
def State.coreRetire (s : State) (k cause : Nat) : State :=
  let cfg := s.getF F.COUNCIL_STATE_CONFIG
  let s1 := (((s.setF (F.COUNCIL_CORE_STATE.at k) 5).setF (F.COUNCIL_CORE_RETIRE_CAUSE.at k) cause).coreForget k).councilArrange
  let s2 := (s1.spareCall kCouncil k).holdRestart
  if cfg < s2.getF F.COUNCIL_STATE_CONFIG then s2.alarm blkCOUNCIL 0 0 (k * 256 + cause) [] else s2

/-! ### Decisions (R418 to R420) -/

/-- What a decision does once it takes effect (R119). -/
def State.councilDecide (s : State) (b : Ballot) : Status × State :=
  match b.minor with
  | 0x10 => (0, s.tollCap (parseCap b.da))
  | 0x11 => s.handRetire (b.ra % 16) (b.ra / 2 ^ 8 % 256)
  | 0x12 => s.streamTarget (b.ra / 2 ^ 16 % 2 ^ 16) (b.ra % 16)
  | 0x13 => (0, s.spareCall (b.ra / 2 ^ 8 % 256) (b.ra % 256))
  | 0x14 => (0, s.reelPut (fieldAt b.da 2 1) (fieldAt b.da 16 8) (b.da.drop 32))
  | _ => (0, s)

/-- ALIVE advances (R402). -/
def State.alive (s : State) : State :=
  let s1 := s.addF F.COUNCIL_STATE_ALIVE 1
  { s1 with pair := { s1.pair with aliveAt := s1.time } }

/-- A decision takes effect: ALIVE advances, and a restored core serves from now on (R402, R421). -/
def State.decision (s : State) (b : Ballot) : Status × State :=
  let (st, s1) := s.councilDecide b
  let s2 := (s1.addN R.COUNCIL_DECISIONS 1).alive
  let s3 := { s2 with pair := { s2.pair with retried := false, rejoin := false } }
  (st, if s2.pair.rejoin then s3.councilArrange else s3)

/-- Whether two ballots are identical (R418). -/
def Ballot.same (a b : Ballot) : Bool := a.minor = b.minor && a.ra = b.ra && a.da = b.da && a.input = b.input

/-- A core dissents: it is resynchronised, or retired at DISSENT_LIMIT (R419, R421). -/
def State.dissent (s : State) (core : Nat) (d : Ballot) (agreed : Nat) : State :=
  let s1 := (s.addF F.COUNCIL_DISSENT_BALLOTS 1).satF (F.COUNCIL_CORE_DISSENTS.at core)
  let s2 := (((s1.setF F.COUNCIL_LAST_DISSENT_PRIV d.minor).setF F.COUNCIL_LAST_DISSENT_AGREED agreed).setF
    F.COUNCIL_LAST_DISSENT_DISSENTED (2 ^ core)).setN R.COUNCIL_LAST_DISSENT_SEQ d.input
  let l := s2.recent (s2.pair.dissents.get core) 3600
  let s3 := { s2 with pair := { s2.pair with dissents := s2.pair.dissents.set core l } }
  if s3.getF F.COUNCIL_CFG_DISSENT_LIMIT ≤ l.length then s3.coreRetire core 3
  else (s3.setF (F.COUNCIL_CORE_STATE.at core) 4).coreForget core

/-- Cores that vote. -/
def State.voters (s : State) : List Nat := (upto 3).filter (fun k => s.coreState k = 0)

/-- The voting cores restart from their last agreed state (R419); an operation that had brought that decision's ballot completes with
its status and brings no second one. The inputs since come to them again from the reel, as the rows of their instructions. -/
def State.coresRestart (s : State) : State :=
  match s.pair.agreed with
  | none => s
  | some a => s.voters.foldl (fun s k => (s.coreLoad a.core k).coreResults k
      (if a.core.ctxs.any (fun c => c.ops.any (fun o => o.op = .priv && o.imm = a.ballot.minor)) then [(a.ballot, a.status)] else [])) s

/-- No two ballots agree: the decision is discarded, and the cores restart from their last agreed state; the Council halts if it was
already repeated (R419). -/
def State.ballotsDiscard (s : State) : State :=
  let s1 := s.addF F.COUNCIL_DISSENT_DISCARDED 1
  let s2 := { s1 with pair := { s1.pair with ballots := [], retried := true } }
  if s.pair.retried then s2.setF F.COUNCIL_STATE_HALTED 1 else s2.coresRestart

/-- An ALARM of the Council, which restarts a standby's hold-off (R412, R420). -/
def State.councilAlarm (s : State) (det : Nat) : State := (s.alarm blkCOUNCIL 0 0 det []).holdRestart

/-- A decision owed by a core is compared with its ballot: the status it completes with, or none for a dissent. -/
def State.ballotLate (s : State) (b d : Ballot) (st : Status) (inTime : Bool) : Option Status × State :=
  let s1 := { s with pair := { s.pair with owes := s.pair.owes.filter (fun o => o.1 ≠ b.core) ++
    (s.pair.owes.filter (fun o => o.1 = b.core)).drop 1 } }
  if b.same d = true ∧ inTime = true then (some st, s1)
  else
    let agreed := (s1.coresLeft.filter (fun k => k ≠ b.core && s1.coreState k ≠ 4 && decide (s1.coreState k < 3))).foldl (fun n k => n + 2 ^ k) 0
    let s2 := s1.dissent b.core d agreed
    (none, if s.getF F.COUNCIL_STATE_CONFIG = 1 then s2.councilAlarm b.core else s2)

/-- The other voters once a decision is taken: one that cast differently dissents, one that has not cast owes its
ballot (R419). -/
def State.ballotsSettle (s : State) (b : Ballot) (st : Status) (agreed : List Nat) (others : List Nat) : State :=
  others.foldl (fun s k =>
    match s.pair.ballots.find? (fun x => x.core = k) with
    | some x =>
      if x.same b then { s with pair := { s.pair with results := s.pair.results ++ [(x, st)] } }
      else
        let s1 := s.dissent k b (agreed.foldl (fun n k => n + 2 ^ k) 0)
        if s.getF F.COUNCIL_STATE_CONFIG = 1 then s1.councilAlarm k else s1
    | none => { s with pair := { s.pair with owes := s.pair.owes ++ [(k, b, st)] } }) s

/-- A ballot in VOTING (R418, R419). -/
def State.castVoting (s0 : State) (b : Ballot) : Option Status × State :=
  let window := s0.getF F.COUNCIL_CFG_VOTE_WINDOW_US
  match s0.pair.owes.find? (fun o => o.1 = b.core) with
  | some (_, d, st) => s0.ballotLate b d st (decide (b.at_ ≤ d.at_ + window))
  | none =>
    let late := match s0.pair.ballots.head? with | none => false | some f => decide (f.at_ + window < b.at_)
    let s := if late then s0.ballotsDiscard else s0
    if s.getF F.COUNCIL_STATE_HALTED = 1 ∨ s.pair.ballots.any (fun x => x.core = b.core) = true then (none, s)
    else match s.pair.ballots.find? (fun x => x.same b) with
      | some a =>
        let (st, s1) := s.decision b
        let s2 := s1.ballotsSettle { b with at_ := a.at_ } st [a.core, b.core]
          (s1.voters.filter (fun k => k ≠ b.core && (k ≠ a.core)))
        (some st, { s2 with pair := { s2.pair with ballots := [], results := s2.pair.results ++ [(a, st)]
                                                   agreed := some ⟨s2.coreSave b.core, b, st⟩ } })
      | none =>
        let s1 := { s with pair := { s.pair with ballots := s.pair.ballots ++ [b] } }
        if s1.voters.all (fun k => s1.pair.ballots.any (fun x => x.core = k)) then (none, s1.ballotsDiscard) else (none, s1)

/-- A ballot in WATCHKEEPER: the active core's stands at once; the standby's is compared (R420). -/
def State.castWatch (s : State) (b : Ballot) : Option Status × State :=
  if s.coreState b.core = 1 then
    let (st, s1) := s.decision b
    let s2 := s1.ballotsSettle b st [b.core] ((upto 3).filter (fun k => s1.coreState k = 2))
    (some st, { s2 with pair := { s2.pair with ballots := [] } })
  else if s.coreState b.core = 2 then
    match s.pair.owes.find? (fun o => o.1 = b.core) with
    | some (_, d, st) => s.ballotLate b d st true
    | none =>
      if s.pair.ballots.any (fun x => x.core = b.core) then (none, s)
      else (none, { s with pair := { s.pair with ballots := s.pair.ballots ++ [b] } })
  else (none, s)

/-- A ballot arrives (R418): the status its decision completes with, once it has taken effect and the ballot agrees
with it. -/
def State.cast (s : State) (b : Ballot) : Option Status × State :=
  match s.pair.results.find? (fun r => r.1.core = b.core && r.1.same b) with
  | some r => (some r.2, { s with pair := { s.pair with results := s.pair.results.erase r } })
  | none =>
    if s.getF F.COUNCIL_STATE_HALTED = 1 ∨ 2 < s.coreState b.core then (none, s)
    else match s.getF F.COUNCIL_STATE_CONFIG with
      | 0 => s.castVoting b
      | 1 => s.castWatch b
      | _ => let r := s.decision b; (some r.1, r.2)

/-- A ballot arrives from a core (R418). -/
def execCouncilBallot (core minor ra : Nat) (da : List Byte) (input : Nat) (s : State) : Res :=
  .next (if core < 3 ∧ 0x10 ≤ minor ∧ minor ≤ 0x14 then (s.cast ⟨core, minor, ra, da, input, s.time⟩).2 else s)

/-- VOTE_WINDOW_US passes without agreement: discarded, or the Council halts (R419). -/
def execVoteWindowExpiry (s : State) : Res :=
  .next (if s.getF F.COUNCIL_STATE_CONFIG = 0 ∧ s.pair.ballots.isEmpty = false ∧ s.getF F.COUNCIL_STATE_HALTED = 0 then
    s.ballotsDiscard else s)

/-- The active core gives no decision within 2 ms: the standby becomes active (R420). The core that was active is
resynchronised. -/
def execActiveCoreTimeout (s : State) : Res :=
  .next (
    match (upto 3).find? (fun k => s.coreState k = 2) with
    | some k =>
      if s.getF F.COUNCIL_STATE_CONFIG = 1 then
        let old := s.getF F.COUNCIL_STATE_ACTIVE
        let s1 := ((s.setF (F.COUNCIL_CORE_STATE.at old) 4).coreForget old).setF (F.COUNCIL_CORE_STATE.at k) 1
        s1.setF F.COUNCIL_STATE_ACTIVE k
      else s
    | none => s)

/-- A resynchronisation ends: the core holds an agreeing core's state and rejoins (R419). -/
def execCoreResyncDone (core : Nat) (s : State) : Res :=
  .next (
    if core < 3 ∧ s.coreState core = 4 then
      match s.coresLeft.find? (fun k => k ≠ core && decide (s.coreState k < 3)) with
      | some src => ((s.coreCopy src core).setF (F.COUNCIL_CORE_STATE.at core) 3).councilArrange
      | none => (s.setF (F.COUNCIL_CORE_STATE.at core) 3).councilArrange
    else s)

/-! ### Core tests and retirement (R421, R423) -/

/-- A core request: BUSY refuses it with 0x8130. -/
def State.coreRequest (s : State) (f : Nat → State → State) : State :=
  let k := s.getF F.COUNCIL_CORE_SEL_VAL
  if 3 ≤ k then s
  else if s.getF F.COUNCIL_CORE_CTL_BUSY = 1 then s.stat F.COUNCIL_CORE_CTL_STATUS 0x8130
  else f k s

/-- Queue a core's test and show BUSY. -/
def State.coreQueue (s : State) (k : Nat) (restore : Bool) : State :=
  ((s.stat F.COUNCIL_CORE_CTL_STATUS 0).setF F.COUNCIL_CORE_CTL_BUSY 1).queueTest (ownTest kCouncil k restore)

/-- COUNCIL_CORE_CTL.TEST: never in SINGLE (R423, R505). -/
def execCouncilCoreTest (s : State) : Res :=
  .next (s.coreRequest (fun k s =>
    if s.getF F.COUNCIL_STATE_CONFIG = 2 then s.stat F.COUNCIL_CORE_CTL_STATUS 0x7130 else s.coreQueue k false))

/-- COUNCIL_CORE_CTL.RETIRE: refused where it would leave no core (R423). -/
def execCouncilCoreRetire (s : State) : Res :=
  .next (s.coreRequest (fun k s =>
    if s.coreState k = 5 then s.stat F.COUNCIL_CORE_CTL_STATUS 0
    else if s.coresLeft.length ≤ 1 then s.stat F.COUNCIL_CORE_CTL_STATUS 0x7130
    else (s.coreRetire k 1).stat F.COUNCIL_CORE_CTL_STATUS 0))

/-- COUNCIL_CORE_CTL.RESTORE: in SERVICE only, after a self-test (R421, R423). -/
def execCouncilCoreRestore (s : State) : Res :=
  .next (s.coreRequest (fun k s =>
    if s.mode = .service ∧ s.coreState k = 5 then s.coreQueue k true else s.stat F.COUNCIL_CORE_CTL_STATUS 0x7130))

/-- A core is withdrawn for its self-test; it shows RESYNCING until it is resynchronised (R505). -/
def State.councilWithdraw (s : State) (k : Nat) : State :=
  let s1 := s.setF F.COUNCIL_CORE_CTL_BUSY 1
  if s.coreState k = 5 then s1 else ((s1.setF (F.COUNCIL_CORE_STATE.at k) 4).coreForget k).councilArrange

/-- A core's self-test ends (R421): a restored core holds another core's state and serves from the next decision. -/
def State.councilTestDone (s : State) (r : TestReq) (pass : Bool) : State :=
  let s1 := s.setF F.COUNCIL_CORE_CTL_BUSY 0
  let s2 :=
    if s.coreState r.unit = 4 then (if pass then s1 else s1.coreRetire r.unit 2)
    else if s.coreState r.unit = 5 ∧ r.restore = true ∧ pass = true then
      let src := (s1.coresLeft.find? (fun k => decide (s1.coreState k < 3))).getD r.unit
      let s3 := ((s1.coreCopy src r.unit).setF (F.COUNCIL_CORE_STATE.at r.unit) 3).setF (F.COUNCIL_CORE_RETIRE_CAUSE.at r.unit) 0
      { s3 with pair := { s3.pair with rejoin := true } }
    else s1
  if r.source = 2 then s2.setF F.COUNCIL_CORE_CTL_STATUS (if pass then 0 else 0x4130) else s2

/-- The Council writes a CHECKPOINT of its whole state to the reel (R482). -/
def execCouncilCheckpoint (body : List Byte) (s : State) : Res :=
  .next (if body.length ≤ 16777216 ∧ s.getF F.COUNCIL_STATE_HALTED = 0 then s.reelPut 3 s.now body else s)

end Sys2Proof.Machine
end

