-- ==== Sys2Proof/Machine/Dock.lean ====
section
/-! DEFINITION. The dock role of the magazine ports and ingest (R395 to R399). -/
namespace Sys2Proof.Machine

/-! ### State of an ingest -/

/-- The ingest of a port. -/
def State.ingOf (s : State) (p : Nat) : Ingest := (s.magPort p).ingest

/-- Put the ingest of a port. -/
def State.putIng (s : State) (p : Nat) (i : Ingest) : State := s.putMagPort p { s.magPort p with ingest := i }

/-- INGEST_CTL.STATE of a port. -/
def State.ingState (s : State) (p : Nat) : Nat := s.getF (magF F.MAGPORT_P_INGEST_CTL_STATE p)

/-- Whether an ingest runs (R401). -/
def State.ingRuns (s : State) (p : Nat) : Bool := decide (1 ≤ s.ingState p) && decide (s.ingState p ≤ 3)

/-- A field of a clip table entry (R395). -/
def clipF (c : List Byte) (ofs n : Nat) : Nat := fieldAt c ofs n

/-- First magazine leaf and bytes of what is being copied: the unverified leaves, or a clip. -/
def Ingest.span (i : Ingest) : Nat × Nat :=
  if i.cur = 0 then (0, i.dataLeaf * 4096)
  else let c := i.clips.getD (i.cur - 1) []
    (clipF c 0x08 8, clipF c 0x10 8)

/-- Its bytes rounded up to whole leaves. -/
def Ingest.room (i : Ingest) : Nat := (i.span.2 + 4095) / 4096 * 4096

/-! ### Issuing tasks (R387, R397) -/

/-- Write a task to the magazine. -/
def State.ingIssue (s : State) (p r op leaf len : Nat) : State :=
  s.magSend p 0x10 0 r 0 (leBytes 1 op ++ leBytes 1 0 ++ leBytes 2 0 ++ leBytes 4 len ++ leBytes 8 leaf ++ leBytes 8 r ++
    List.replicate 40 0)

/-- A task of the dock role in a register. -/
def State.ingTask (s : State) (p r kind leaf len : Nat) : State :=
  let i := s.ingOf p
  (s.putIng p { i with tasks := i.tasks.set r { (default : IngTask) with kind := kind, leaf := leaf, len := len } }).ingIssue p r
    (if kind = 1 then 0x01 else 0x02) leaf len

/-- READ tasks of 16 MiB, up to eight in flight (R397). -/
def State.ingAsk (p : Nat) : Nat → State → State
  | 0, s => s
  | n + 1, s =>
    let i := s.ingOf p
    if 8 ≤ i.tasks.length ∨ i.room ≤ i.asked then s
    else
      let len := min 16777216 (i.room - i.asked)
      let s1 := s.putIng p { i with asked := i.asked + len }
      State.ingAsk p n (s1.ingTask p (lowestFree 0 i.tasks.keys) (if i.cur = 0 then 3 else 4) (i.span.1 + i.asked / 4096) len)

/-! ### INGEST_FOLIO commands (R397) -/

/-- The port whose ingest feeds a queue. -/
def State.ingPort (s : State) (q : Nat) : Option Nat := (upto 4).find? (fun p => (s.ingOf p).queue = q + 1)

/-- Queue the INGEST_FOLIO command of one folio at a volume address: its bytes stand in STAGE. -/
def State.ingFolio (s : State) (p : Nat) (a : Nat) (d : List Byte) : State :=
  let q := (s.ingOf p).queue - 1
  let v := a / 2 ^ 52
  let g : Tag := { (default : Tag) with
    entry := 8, op := 0, vol := v, leaf := a % 2 ^ 52, leaves := (d.length + 4095) / 4096, declared := d.length
    flags := 4 + (s.volOf v).piType * 64, stream := 0xFFFF, inbound := true }
  let (t, s1) := s.accept q g 0 0
  if t = 65536 then s1 else s1.dataArrive t d true

/-- Queue what waits while the queue has a free tag. -/
def State.ingFlow (p : Nat) : List (Nat × List Byte) → State → State
  | [], s => s
  | (a, d) :: r, s =>
    let i := s.ingOf p
    if (s.tagsOfQueue (i.queue - 1)).length < (s.queueOf (i.queue - 1)).depth then
      State.ingFlow p r ((s.putIng p { i with toQueue := r }).ingFolio p a d)
    else s

/-- Queue the waiting folios of a port. -/
def State.ingPump (s : State) (p : Nat) : State :=
  if (s.ingOf p).queue = 0 then s else State.ingFlow p (s.ingOf p).toQueue s

/-- Cut bytes for consecutive volume addresses into folios. -/
def cutFolios (a : Nat) (d : List Byte) : List (Nat × List Byte) :=
  (upto ((d.length + 65535) / 65536)).zip (pieces 65536 ((d.length + 65535) / 65536) d) |>.map (fun x => (a + 16 * x.1, x.2))

/-! ### Digests (R396) -/

/-- Bytes of one part. -/
def clipPart : Nat := 268435456

/-- The owner under which the Assay keeps the held contexts of a port's ingest: no engine has this key. -/
def ingOwner (p : Nat) : Nat := 4096 + p

/-- Take a held context for the part that begins, as a START does (R210, R397); the part waits while none is free. -/
def State.partOpen (s : State) (p : Nat) : State :=
  if (s.ingOf p).held ≠ 0 then s
  else match s.heldTake s.dataLanes with
    | none => s
    | some (lane, k) =>
      let h : Held := { (default : Held) with used := true, gen := (s.assay.held.get k).gen, lane := lane, owner := ingOwner p }
      ({ s with assay := { s.assay with held := s.assay.held.set k h } }.assayRecount).putIng p { s.ingOf p with held := k + 1 }

/-- Whether the part under way can be fed now: it has a held context, on a lane that serves (R212). -/
def State.partReady (s : State) (p : Nat) : Bool :=
  let lane := (s.assay.held.get ((s.ingOf p).held - 1)).lane
  (s.ingOf p).held ≠ 0 && !s.laneRetired lane && s.getF (F.ASSAY_LANE_STATE.at lane) ≠ 2

/-- The digest of the part under way, and its held context again free. -/
def State.partClose (s : State) (p : Nat) : State :=
  let i := s.ingOf p
  if i.held = 0 then s
  else (s.heldFree (i.held - 1)).putIng p { i with held := 0, digests := i.digests ++ digest 0 (s.assay.held.get (i.held - 1)).data }

/-- Feed bytes to the part under way, which ends where it is whole. A READ task never lies in two parts. -/
def State.partFeed (s : State) (p : Nat) (d : List Byte) : State :=
  let k := (s.ingOf p).held - 1
  let s1 := { s with assay := { s.assay with held := s.assay.held.upd k (fun h => { h with data := h.data ++ d }) } }.addN
    R.ASSAY_BYTES d.length
  if (s1.assay.held.get k).data.length < clipPart then s1 else s1.partClose p

/-- The tree digest: SHA-512 of the digests of the parts (R396). -/
def Ingest.tree (i : Ingest) : List Byte := digest 0 i.digests

/-! ### The report (R398) -/

/-- The record of a clip. -/
def Ingest.record (i : Ingest) (c : List Byte) (ofs outcome reeve : Nat) (computed : List Byte) : List Byte :=
  leBytes 4 (clipF c 0x00 4) ++ leBytes 1 outcome ++ leBytes 1 (b2n i.reread) ++ leBytes 2 0 ++ leBytes 8 (clipF c 0x08 8) ++
    leBytes 8 (clipF c 0x08 8 + ofs) ++ leBytes 8 (clipF c 0x10 8) ++ leBytes 8 (clipF c 0x18 8) ++ leBytes 8 reeve ++
    List.replicate 16 0 ++
    (if bitOf (clipF c 0x04 4) 2 then (c.drop 0x40).take 64 else List.replicate 64 0) ++ computed

/-- The header of the report. -/
def State.ingHeader (s : State) (p : Nat) (incomplete : Bool) (n : Nat) : List Byte :=
  let i := s.ingOf p
  leBytes 4 0x52474E49 ++ leBytes 2 1 ++ leBytes 2 (b2n incomplete) ++ leBytes 4 (256 + 192 * n + 512) ++ leBytes 4 n ++
    leBytes 8 (s.getN R.IDENT_SERIAL) ++ leBytes 8 (s.getN R.IDENT_POOL) ++ (i.serial ++ List.replicate 16 0).take 16 ++
    leBytes 2 (s.getF (magF F.MAGPORT_P_INGEST_TARGET_VOLUME p)) ++ leBytes 1 p ++ leBytes 5 0 ++ leBytes 8 i.startReeve ++
    leBytes 8 s.now ++ leBytes 8 i.startTime ++ leBytes 8 s.timeWord ++
    leBytes 8 (if s.feat 1 = true ∧ s.getF F.REEVE_WALL_VALID = 1 then s.getF F.REEVE_WALL_SECONDS else 0) ++
    leBytes 1 (s.getF F.REEVE_WALL_WALL_EPOCH) ++ leBytes 7 0 ++ leBytes 8 (s.getN R.IDENT_FW) ++
    leBytes 8 (s.getN R.STRONG_ID_KEYID) ++ List.replicate 136 0

/-- INGEST_TARGET.OFFSET of a port. -/
def State.ingOfs (s : State) (p : Nat) : Nat := s.getF (magF F.MAGPORT_P_INGEST_TARGET_OFFSET p)

/-- Sign the report, show it, write its copy where INGEST_REPORT names a place, extend HM5 and write its Parish record
(R397, R398, R449). -/
def State.ingReport (s : State) (p : Nat) (incomplete : Bool) : State :=
  let i := s.ingOf p
  if i.sign = false then s.setN (R.MAGPORT_P_REPORT_LEN + 0x100 * p) 0
  else
    let body := s.ingHeader p incomplete i.records.length ++ i.records.flatten
    let rep := body ++ s.idSign body
    let s1 := s.putMagPort p { s.magPort p with report := rep }
    let s2 := ((s1.setN (R.MAGPORT_P_REPORT_LEN + 0x100 * p) rep.length).setN (R.MAGPORT_P_REPORT_SEQ + 0x100 * p) s.now).tick
    let d := digest 0 rep
    let s3 := (s2.hallmarkExtend 5 d).regEvent blkMAGPORT 0x10B p d
    let a := s.getN (R.MAGPORT_P_INGEST_REPORT + 0x100 * p)
    if a = 2 ^ 64 - 1 then s3
    else
      let pad := rep ++ List.replicate ((4096 - rep.length % 4096) % 4096) 0
      (s3.putIng p { s3.ingOf p with toQueue := (s3.ingOf p).toQueue ++ cutFolios a pad }).ingPump p

/-- An ingest ends with a cause of R399, 0 where it is complete: clips not finished are SKIPPED; HOLDUP makes no
report. -/
def State.ingEnd (s : State) (p cause : Nat) : State :=
  let s := s.partClose p
  let i := s.ingOf p
  let left := i.clips.drop i.records.length
  let skipped := left.map (fun c => ({ i with reread := false } : Ingest).record c (s.ingOfs p) 5 0 (List.replicate 64 0))
  let s1 := (s.putIng p { i with records := i.records ++ skipped, tasks := [], cur := i.clips.length + 1 }).setF
    (magF F.MAGPORT_P_INGEST_CTL_STATE p) 3
  let s2 := if cause = 4 then s1 else s1.ingReport p (cause ≠ 0)
  let ok := !i.bad && left.isEmpty
  ((s2.setF (magF F.MAGPORT_P_INGEST_CTL_CAUSE p) cause).setF (magF F.MAGPORT_P_INGEST_CTL_STATE p) (if cause = 0 then 4 else 5)).setF
    (magF F.MAGPORT_P_INGEST_CTL_STATUS p) (if ok then 0 else 0x4120)

/-- Stop an ingest that runs (R399). -/
def State.ingStop (s : State) (p cause : Nat) : State := if s.ingRuns p then s.ingEnd p cause else s

/-- Go on with the next clip, or end. -/
def State.ingNext (s : State) (p : Nat) : State :=
  let i := s.ingOf p
  let s1 := s.putIng p { i with cur := i.cur + 1, asked := 0, fed := 0, digests := [], reread := false, failed := false }
  if i.clips.length ≤ i.cur then s1.ingEnd p 0 else State.ingAsk p 8 s1

/-- A clip has its outcome (R397). -/
def State.ingOutcome (s : State) (p outcome : Nat) : State :=
  let i := s.ingOf p
  let c := i.clips.getD (i.cur - 1) []
  let r := i.record c (s.ingOfs p) outcome s.now i.tree
  let s1 := (s.putIng p { i with records := i.records ++ [r], bad := i.bad || outcome = 2 || outcome = 4 }).tick
  let s2 := s1.addF (magF F.MAGPORT_P_INGEST_PROGRESS_DONE p) 1
  let f := if outcome = 1 then F.MAGPORT_P_INGEST_OUTCOMES_VERIFIED else if outcome = 2 then F.MAGPORT_P_INGEST_OUTCOMES_MISMATCH
    else if outcome = 3 then F.MAGPORT_P_INGEST_OUTCOMES_NO_DIGEST else F.MAGPORT_P_INGEST_OUTCOMES_READ_ERROR
  (s2.addF (magF f p) 1).ingNext p

/-! ### What the magazine answers (R389, R397) -/

/-- The IDENTIFY page has come: a page that is none, or one that passes the volume's end, stops the ingest. -/
def State.ingPage (s : State) (p : Nat) (d : List Byte) : State :=
  let i := s.ingOf p
  let leaves := fieldAt d 0x008 8
  let v := s.volOf (s.getF (magF F.MAGPORT_P_INGEST_TARGET_VOLUME p))
  if fieldAt d 0 4 ≠ 0x4D475A31 ∨ fieldAt d 4 2 ≠ 1 then s.ingEnd p 2
  else if v.size < leaves + s.ingOfs p then
    ((s.putIng p { i with tasks := [] }).setF (magF F.MAGPORT_P_INGEST_CTL_STATE p) 0).setF (magF F.MAGPORT_P_INGEST_CTL_STATUS p) 0x5065
  else
    let n := min 4096 (fieldAt d 0x028 4)
    let s1 := s.putIng p { i with leaves := leaves, serial := (d.drop 0x10).take 16, tableLeaf := fieldAt d 0x020 8, entries := n
                                  dataLeaf := fieldAt d 0x030 8, tasks := [] }
    s1.ingTask p 0 2 (fieldAt d 0x020 8) (max 4096 ((n * 128 + 4095) / 4096 * 4096))

/-- The clip table has come: copying begins with the leaves before DATA_LEAF. -/
def State.ingTable (s : State) (p : Nat) (d : List Byte) : State :=
  let i := s.ingOf p
  let clips := (pieces 128 i.entries d).filter (fun c => bitOf (clipF c 0x04 4) 0)
  let s1 := (s.putIng p { i with table := d, clips := clips, tasks := [], cur := 0, asked := 0, fed := 0 }).setF
    (magF F.MAGPORT_P_INGEST_CTL_STATE p) 2
  State.ingAsk p 8 (s1.setF (magF F.MAGPORT_P_INGEST_PROGRESS_USED p) clips.length)

/-- Feed the tasks whose turn has come, in order (R397): folios to the volume, bytes of a clip to its parts. A part for which no
held context is free waits, with the tasks behind it. -/
def State.ingFeed (p : Nat) : Nat → State → State
  | 0, s => s
  | n + 1, s =>
    let i := s.ingOf p
    match i.tasks.find? (fun t => t.2.kind ≠ 0 && t.2.done && t.2.leaf = i.span.1 + i.fed / 4096) with
    | none => s
    | some (r, t) =>
      let v := s.getF (magF F.MAGPORT_P_INGEST_TARGET_VOLUME p)
      let go (s : State) : State :=
        let i := s.ingOf p
        s.putIng p { i with tasks := i.tasks.set r default, fed := i.fed + t.len
                            toQueue := i.toQueue ++ cutFolios (v * 2 ^ 52 + t.leaf + s.ingOfs p) t.data }
      if i.cur = 0 then State.ingFeed p n (go s)
      else
        let s1 := s.partOpen p
        let s2 := s1.assayShift ((s1.ingOf p).held - 1)
        if s2.partReady p = false then s1
        else
          let s3 := s2.partFeed p (t.data.take (i.span.2 - i.fed))
          let s4 := if i.room ≤ i.fed + t.len then s3.partClose p else s3
          State.ingFeed p n (go s4)

/-- A READ of what is being copied failed twice: the clip is READ_ERROR and the ingest goes on (R397). Its other
tasks are waited out. -/
def State.ingFail (s : State) (p : Nat) : State :=
  let s := s.partClose p
  let i := s.ingOf p
  let rest : AMap IngTask := i.tasks.foldl (fun m t => if t.2.statusIn then m else m.set t.1 { t.2 with kind := 0, data := [] }) []
  let s1 := s.putIng p { i with tasks := rest, failed := true }
  if i.cur = 0 then (s1.putIng p { s1.ingOf p with bad := true }).ingNext p else s1.ingOutcome p 4

/-- Go on after a task has passed: feed, ask, and past the unverified leaves begin the clips. -/
def State.ingGo (s : State) (p : Nat) : State :=
  let s1 := (State.ingFeed p 9 s).ingPump p
  let i := s1.ingOf p
  if i.room ≤ i.fed ∧ i.cur = 0 then s1.ingNext p else State.ingAsk p 8 s1

/-- Data that waited for a held context are fed where one has come free (R397). -/
def State.ingWake (s : State) (p : Nat) : State :=
  if s.ingState p = 2 ∧ (s.ingOf p).tasks.any (fun t => t.2.kind ≠ 0 && t.2.done) = true then s.ingGo p else s

/-- What time brings the ports (R385, R397). -/
def State.magTick (s : State) : State := (upto 4).foldl (fun s p => (s.magAligns p).ingWake p) s

/-- The status of a task has come: its count is compared (R389), a failure is tried once more, then ends it. -/
def State.ingStatus (s : State) (p r : Nat) (st : Status) : State :=
  let i := s.ingOf p
  let t := i.tasks.get r
  let ok := decide (classOf st < 2) && !t.bad && t.closed && decide (t.data.length = t.len)
  let s0 := if ok = false ∧ decide (classOf st < 2) = true then s.addF (magF F.MAGPORT_P_ERR_DISCARDED p) 1 else s
  if t.kind = 0 then State.ingAsk p 8 (s0.putIng p { i with tasks := i.tasks.set r default })
  else if ok then
    if t.kind = 1 then s0.ingPage p t.data
    else if t.kind = 2 then s0.ingTable p t.data
    else (s0.putIng p { i with tasks := i.tasks.set r { t with done := true, statusIn := true } }).ingGo p
  else if t.tries = 0 then
    (s0.putIng p { i with tasks := i.tasks.set r { (default : IngTask) with kind := t.kind, leaf := t.leaf, len := t.len, tries := 1 } }).ingIssue
      p r (if t.kind = 1 then 0x01 else 0x02) t.leaf t.len
  else if t.kind = 1 ∨ t.kind = 2 then s0.ingEnd p 2
  else (s0.putIng p { i with tasks := i.tasks.set r default }).ingFail p

/-- A TASK_STATUS folio (R388): one refused for a register in use (0x5121) is a failure of the task like any other. -/
def execMagTaskStatus (port err : Nat) (f : List Byte) (s : State) : Res :=
  .next (s.magRecv port err f (fun h => s.magRole port = 2 && h.type = 0x11) (fun h s =>
    if s.ingRuns port = true ∧ (s.ingOf port).tasks.any (fun t => t.1 = h.task && !t.2.statusIn) = true then
      s.ingStatus port h.task (fieldAt h.data 0 2)
    else s))

/-- Data of a READ or IDENTIFY task arrive (R389). -/
def State.ingData (s : State) (p r ofs : Nat) (last : Bool) (d : List Byte) : State :=
  let i := s.ingOf p
  let t := i.tasks.get r
  if t.kind = 0 then s
  else
    let bad := t.bad || decide (ofs ≠ t.data.length) || decide (t.len < t.data.length + d.length)
    s.putIng p { i with tasks := i.tasks.set r { t with data := (t.data ++ d).take t.len, bad := bad, closed := t.closed || last } }

/-- A DATA folio (R382, R389): 4,096 to 65,536 bytes, a multiple of 4,096; another length is discarded and counted. -/
def execMagData (port err : Nat) (f : List Byte) (s : State) : Res :=
  .next (s.magRecv port err f (fun h => h.type = 0x12) (fun h s =>
    if h.len = 0 ∨ h.len % 4096 ≠ 0 then s.magDiscard port
    else if s.magRole port = 1 then s.magTaskData port h.task h.ofs (h.flags / 2 % 2 = 1) h.data
    else s.ingData port h.task h.ofs (h.flags / 2 % 2 = 1) h.data))

/-- A TRAIN_REPLY folio (R47, R385, R386): the dock role comes up on the words that both accept, and issues again the reads that were in flight (R400). -/
def execMagTrainReply (port err : Nat) (f : List Byte) (s : State) : Res :=
  .next (s.magRecv port err f (fun h => s.magRole port = 2 && h.type = 0x02) (fun h s =>
    let w0 := fieldAt h.data 4 4 &&& s.mgmtWord 0
    let w3 := fieldAt h.data 8 4 &&& s.mgmtWord 3
    let st0 := fieldAt h.data 0 2
    let st := if st0 ≠ 0 then st0 else trainStatus 2 w0 w3
    if st ≠ 0 then (s.magDown port st).ingStop port 2
    else
      let s1 := s.magComeUp port w0 w3
      if s1.ingRuns port then
        (s1.ingOf port).tasks.foldl (fun s t =>
          if t.2.done then s
          else
            let i := s.ingOf port
            if t.2.kind = 0 then s.putIng port { i with tasks := i.tasks.set t.1 default }
            else (s.putIng port { i with tasks := i.tasks.set t.1 { (default : IngTask) with
                kind := t.2.kind, leaf := t.2.leaf, len := t.2.len, tries := t.2.tries } }).ingIssue port t.1
              (if t.2.kind = 1 then 0x01 else 0x02) t.2.leaf t.2.len) s1
      else s1))

/-! ### INGEST_CTL (R397, R399, R401) -/

/-- INGEST_CTL.START (R397). -/
def State.ingStart (s : State) (p : Nat) : State :=
  let f := magF F.MAGPORT_P_INGEST_CTL_STATUS p
  let v := s.volOf (s.getF (magF F.MAGPORT_P_INGEST_TARGET_VOLUME p))
  if s.ingRuns p then s.stat f 0x8120
  else if s.magUp p = false ∨ s.magRole p ≠ 2 ∨ v.slot = 0 ∨ s.owns v.commons = false ∨ v.readOnly = true then s.stat f 0x7121
  else
    let i : Ingest := { (default : Ingest) with
      queue := (s.ingOf p).queue, toQueue := (s.ingOf p).toQueue, startReeve := s.now, startTime := s.timeWord, sign := s.magFeat p 101 }
    let s2 := ((s.putIng p i).tick).setF (magF F.MAGPORT_P_INGEST_CTL_STATE p) 1
    let s3 := ((s2.setF (magF F.MAGPORT_P_INGEST_CTL_CAUSE p) 0).setN (R.MAGPORT_P_INGEST_PROGRESS + 0x100 * p) 0).setN
      (R.MAGPORT_P_INGEST_BYTES + 0x100 * p) 0
    ((s3.setN (R.MAGPORT_P_INGEST_OUTCOMES + 0x100 * p) 0).stat f 0).ingTask p 0 1 0 4096

def execIngestStart (port : Nat) (s : State) : Res := .next (if port < 4 ∧ s.deaf = false then s.ingStart port else s)

/-- INGEST_CTL.STOP (R399, cause 1); without an ingest there is nothing to stop. -/
def execIngestStop (port : Nat) (s : State) : Res := .next (if port < 4 then s.ingStop port 1 else s)

/-- A clip's parts have all been fed and the tree digest is compared with the one recorded (R216, R396, R397): the
first mismatch reads the clip once more. -/
def State.ingVerdict (s : State) (p : Nat) : State :=
  let i := s.ingOf p
  if s.ingState p ≠ 2 ∨ i.cur = 0 ∨ i.clips.length < i.cur ∨ i.fed < i.room then s
  else
    let c := i.clips.getD (i.cur - 1) []
    let fl := clipF c 0x04 4
    if bitOf fl 1 = false ∨ bitOf fl 2 = false then s.ingOutcome p 3
    else if i.tree = (c.drop 0x40).take 64 then s.ingOutcome p 1
    else if i.reread then s.ingOutcome p 2
    else State.ingAsk p 8 (s.putIng p { i with asked := 0, fed := 0, digests := [], reread := true })

def execIngestClipVerdict (port : Nat) (s : State) : Res := .next (if s.deaf = false then s.ingVerdict port else s)

/-- The report window (R401): the selected word. -/
def State.viewReport (s : State) (p : Nat) : Nat :=
  leNat (((s.magPort p).report.drop (8 * s.getF (magF F.MAGPORT_P_REPORT_SEL_VAL p))).take 8)

/-! ### Lanes that fail (R380) -/

/-- A lane fails retraining: the port goes on with the pair that is whole, its takes are tested again and a new capacity block
follows (R163, R380). Where neither pair is whole the link is lost (R399). -/
def execMagLaneFail (port lanes : Nat) (s : State) : Res :=
  .next (if port < 4 ∧ s.magState port ≠ 0 ∧ s.magState port ≠ 6 ∧ lanes % 16 ≠ 0 then
    let pair := if lanes % 4 = 0 then 3 else if lanes / 4 % 4 = 0 then 12 else 0
    if pair = 0 then (((s.magTrain port).magDown port 0).ingStop port 2).capTrigger
    else
      let s1 := if s.magState port < 3 then s.putMagPort port { s.magPort port with lanes := pair } else s.magTrainOn port pair
      (s1.retest).capTrigger
  else s)

end Sys2Proof.Machine
end

