-- ==== Sys2Proof/Machine/Lands.lean ====
section
/-! DEFINITION. The board-facing lands: what the LED lines show (R515), and the lands that a switch-over gap or HOLDUP holds at
their last value (R21, R514). -/
namespace Sys2Proof.Machine

/-- LED line of a sled (R515). Where two columns fit, FOREIGN and BLANK come first and the failed member next (assumption log 41). -/
def State.ledSled (s : State) (n : Nat) : Led :=
  let st := s.getF (F.SLED_STATE_STATE.at n)
  if st = 6 ∨ st = 7 then .fast
  else if st = 5 ∨ (s.hold.formed.flatMap (fun c => s.diesOn c n)).any (fun d => (s.dieOf d).state = 1) = true then .slow
  else if st = 3 ∨ st = 4 then .lit
  else .dark

/-- LED line of a magazine port (R515); a running ingest comes first. -/
def State.ledMag (s : State) (p : Nat) : Led :=
  let st := s.magState p
  let ing := s.getF (magF F.MAGPORT_P_INGEST_CTL_STATE p)
  if s.getF (magF F.MAGPORT_P_CFG_ENABLE p) = 0 ∨ st = 6 then .dark
  else if 1 ≤ ing ∧ ing ≤ 3 then .slow
  else if st = 4 ∨ st = 5 then .lit
  else if st = 0 then .fast
  else .dark

/-- LED line of the head (R515). -/
def ledHead (m : Mode) : Led :=
  match m with
  | .paired | .solo => .lit
  | .joining | .service | .replay => .slow
  | .sealedMode => .fast
  | .bootstrap | .holdup => .dark

/-- LED line of the bank (R515). -/
def ledBank (st : Nat) : Led :=
  if st = 3 then .lit else if st = 1 ∨ st = 2 then .slow else if st = 4 ∨ st = 5 then .fast else .dark

/-- LED line n as R515 drives it. -/
def State.ledLine (s : State) (n : Nat) : Led :=
  if n < 24 then s.ledSled n
  else if n < 28 then s.ledMag (n - 24)
  else if n = 28 then ledHead s.mode
  else if n = 29 then (if s.pins.ledAlarm then .lit else .dark)
  else if n = 30 then (if s.pins.fenceOut then .lit else if s.getF F.COUNCIL_PAIR_FENCE_IN = 1 then .slow else .dark)
  else if n = 31 then ledBank (s.getF F.WARDEN_BANK_STATE)
  else .dark

/-- The holdable lands as the head drives them: from t0 until POWER_DOWN, and low or high impedance otherwise (R514). -/
def State.landsDriven (s : State) : Lands :=
  if s.power = .on then ⟨s.pins.pwren, s.pins.perst, (upto 32).map s.ledLine⟩
  else ⟨0, 2 ^ 24 - 1, List.replicate 32 .dark⟩

/-- What the holdable lands show. -/
def State.landsShown (s : State) : Lands :=
  match s.pins.heldAt with
  | some l => l
  | none => s.landsDriven

/-- The lands are held from now on (R21, R514). -/
def State.landsHold (s : State) : State := { s with pins := { s.pins with heldAt := some s.landsShown } }

/-- A switch-over gap ends: the lands follow the head again, unless HOLDUP holds them (R21, R514). -/
def State.landsFree (s : State) : State :=
  if s.mode = .holdup then s else { s with pins := { s.pins with heldAt := none } }

/-- The second head's wait is over: it acts, or need not (R21, R406). -/
def State.gapEnd (s : State) : State := { s with pair := { s.pair with second := 0 } }.landsFree

end Sys2Proof.Machine
end

