-- ==== Sys2Proof/Machine/Switch.lean ====
section
/-! DEFINITION. What pairing events share: who serves what, the fence lines (R404, R405), giving up and taking over
commons (R407 to R410), the state transfer to a standby (R51, R260), planned moves (R413, R414) and drills (R415 to
R417). -/
namespace Sys2Proof.Machine

/-! ### Who serves what (R22 to R25) -/

/-- The commons homed on a slot. -/
def State.homed (s : State) (slot : Nat) : List Nat := s.hold.formed.filter (fun c => s.getF (F.HOLD_CMN_HOME.at c) = slot)

/-- Whether this head owns every commons. -/
def State.ownsAll (s : State) : Bool := s.hold.formed.all (fun c => s.owns c)

/-- Whether this head serves alone: SOLO, or SEALED with every commons (R406). -/
def State.alone (s : State) : Bool := s.mode = .solo || (s.mode = .sealedMode && s.ownsAll)

/-- Whether both heads serve their home commons: PAIRED, or SEALED entered from it (R405). -/
def State.bothServe (s : State) : Bool := s.mode = .paired || (s.mode = .sealedMode && !s.ownsAll)

/-- Whether this head stands by for the partner in SERVICE (R406, R411). -/
def State.isStandby (s : State) : Bool := s.mode = .service && s.getF F.COUNCIL_FAILBACK_STATE ≠ 0

/-- Drive FENCE_OUT (R404); HOLDUP holds it (R514). -/
def State.fenceDrive (s : State) (v : Bool) : State :=
  if s.mode = .holdup then s else { s with pins := { s.pins with fenceOut := v } }.setF F.COUNCIL_PAIR_FENCE_OUT (b2n v)

/-- The service addresses this head serves in its mode: its own, and the partner's where it serves alone (R25, R409). -/
def State.saddrServe (s : State) : State :=
  (upto 16).foldl (fun s i =>
    let mine := s.getF (F.FABRIC_SADDR_CFG_HOME.at i) = s.slotNo
    let on := s.getF (F.FABRIC_SADDR_CFG_VALID.at i) = 1 ∧ (if mine then s.mode.serves = true else s.alone = true)
    (s.setF (F.FABRIC_SADDR_STATE_SERVING.at i) (if on then 1 else 0)).setF (F.FABRIC_SADDR_STATE_ADOPTED.at i)
      (if on ∧ ¬ mine then 1 else 0)) s

/-- Record a move in COUNCIL_SWITCH (R423): its KIND, cause, commons, takes and gap. -/
def State.switchRecord (s : State) (kind cause commons takes since : Nat) : State :=
  let s1 := ((s.capTrigger.setF F.COUNCIL_SWITCH_GAP_MS (min 65535 ((s.time - since) / 1000))).setF F.COUNCIL_SWITCH_CAUSE cause).setF
    F.COUNCIL_SWITCH_KIND kind
  (((s1.setF F.COUNCIL_SWITCH_COMMONS commons).setF F.COUNCIL_SWITCH_TAKES takes).setN R.COUNCIL_SWITCH_SEQ s.now).tick

/-- Takes held. -/
def State.takeCount (s : State) : Nat := (s.toll.takes.filter (fun p => p.2.state ≠ 0)).length

/-! ### Giving up commons (R405, R413, R414) -/

/-- Drop this head's copy of a take, without a notice (R414). -/
def State.takeDrop (s : State) (k : Nat) : State :=
  let x := s.takeOf k
  if x.state = 0 then s
  else
    let s1 := (s.tagsOfQueue x.queue).foldl (fun s t => s.putTag t default) s
    let s2 := if x.regIdx = 0 then s1 else s1.setF (F.CARRIER_REG_INFO_STATE.at (x.regIdx - 1)) 0
    let held := x.state = 1 ∨ x.state = 2 ∨ x.state = 3
    let s3 := if held then
        (s2.setF F.TILL_REGIONS_BYTES (s2.getF F.TILL_REGIONS_BYTES - x.region)).setF F.TILL_REGIONS_COUNT
          (s2.getF F.TILL_REGIONS_COUNT - b2n x.direct)
      else s2
    (((s3.deleteQueue x.queue).putTake k default).streamClose (0x1000 + k)).magClass x.port


/-- What this head keeps of some commons goes: takes, placements, Daybook pages not yet programmed, folds and erases
under way, ledger writes, checks and secure discards that are due, and OWNED (R22). -/
def State.cmnDrop (s : State) (cs : List Nat) : State :=
  let inCs (v : Nat) : Bool := cs.contains (s.volOf v).commons
  let die (d : Nat) : Bool := match s.dieCommons d with | some c => cs.contains c | none => false
  let s1 := ((s.toll.takes.filter (fun p => p.2.state ≠ 0 && inCs p.2.vol)).map Prod.fst).foldl State.takeDrop s
  let dbs := s1.stew.db.map (fun (p : Nat × Daybook) =>
    if cs.contains p.1 then (p.1, { p.2 with buf := [], firstAt := 0, flying := [], ckptFirst := 0, ckptLast := 0 }) else p)
  let s2 := { s1 with
    till := { s1.till with places := s1.till.places.filter (fun p => !cs.contains p.2.commons) }
    stew := { s1.stew with db := dbs, dirty := s1.stew.dirty.filter (fun p => !cs.contains (s1.pageCommons p))
                           pending := s1.stew.pending.filter (fun g => !cs.contains g.commons)
                           recAt := s1.stew.recAt.filter (fun p => !cs.contains p.1) }
    media := { s1.media with folds := s1.media.folds.filter (fun f => !die f.die)
                             erases := s1.media.erases.filter (fun e => !cs.contains e.1)
                             secure := s1.media.secure.filter (fun w => !cs.contains (w.sheaf / 2 ^ 33))
                             heldProg := s1.media.heldProg.filter (fun e => !cs.contains (e.1 / 2 ^ 33)) }
    hold := { s1.hold with ledgerDirty := s1.hold.ledgerDirty.filter (fun c => !cs.contains c)
                           resync := s1.hold.resync.filter (fun c => !cs.contains c)
                           watchNow := s1.hold.watchNow.filter (fun c => !cs.contains c)
                           watchQ := s1.hold.watchQ.filter (fun k => !cs.contains (k / 2 ^ 33)) }
    docket := { s1.docket with images := s1.docket.images.filter (fun i => !inCs i.vol) } }
  let s3 := cs.foldl (fun s c => (s.setF (F.HOLD_CMN_OWNED.at c) 0).setF (F.STEWARD_CKPT_CTL_BUSY.at c) 0) s2.recFlags
  ((upto 16).foldl (fun s k => if s.linkState k ≠ 0 ∧ inCs (s.linkVol k) = true then s.setLink k 0 else s) s3).slcRecompute

/-- Forget what the partner has mirrored here. -/
def State.mirrorForget (s : State) : State :=
  { s with cf := { s.cf with mirror := [], overlay := [], gathering := [], ledger := [], takes := [], docket := [] } }

/-- Stop serving (R405): commands that have not completed are never completed to their senders; nothing stays owned;
the partner settles them from its copy. -/
def State.serveStop (s : State) : State :=
  let keys := (s.hands.ctxs.filter (fun p => decide (p.1 < 1024) && p.2.state ≠ .free)).map Prod.fst
  let s1 := (keys.foldl State.ctxDrop s).cmnDrop s.hold.formed
  let peers := s1.car.peers.map (fun (p : Nat × Peer) => (p.1, { p.2 with
    taken := p.2.taken.filter (fun q => !p.2.unacked.any (fun u => u.1 = q)), unacked := [], held := []
    out := p.2.out.filter (fun m => match m.wait with | .tag _ => false | _ => true) }))
  let s2 := { s1 with
    docket := { s1.docket with tags := [], ctrls := s1.docket.ctrls.map (fun (p : Nat × Ctrl) => (p.1, { p.2 with aers := [] })) }
    mag := { s1.mag with tasks := [] }
    till := { s1.till with places := [] }
    car := { s1.car with peers := peers }
    toll := { s1.toll with solo := none, waiting := [] }
    pair := { s1.pair with move := none, transfer := 0 }
    cf := { s1.cf with standby := false } }
  s2.saddrServe

/-! ### Region images and hand-offs (R125, R143, R266) -/

/-- The FRAME_LANDED command of a region image (R266): on the Steward's INTERNAL queue while that has room, its bytes at a TILL
address of its tag. -/
def State.imageGo (s : State) (im : RegionImage) : State :=
  match s.internalQueue with
  | none => s
  | some q =>
    let g : Tag := { (default : Tag) with
      state := .waiting, entry := 7, vol := im.vol, leaf := im.leaf, leaves := (im.data.length + 4095) / 4096
      declared := im.data.length, arrived := im.data.length, stream := im.vol, take := 64, frame := im.frame, reg := im.take, ofs := im.grain }
    if s.internalRoom q = false ∨ s.selfFenced = true then s
    else
      let (t, s1) := s.accept q g 0 0
      let s2 := (s1.putTake 64 { (default : Take) with regBase := 2 ^ 40 }).wrBytes (tillKey (2 ^ 40 + t * 65536)) im.data
      let s3 := if (s2.tagOf t).state = .free ∨ (s2.tagOf t).ended = true then s2 else s2.putTag t { s2.tagOf t with grain := t }
      { s3 with docket := { s3.docket with images := s3.docket.images.map (fun x => if x = im then { x with due := false } else x) } }

/-- Dispatch the region images of commons this head owns that wait for it (R266, R290). -/
def State.imagesGo (s : State) : State :=
  (s.docket.images.filter (fun i => i.due && s.owns (s.volOf i.vol).commons)).foldl State.imageGo s

/-- A tag of an INTERNAL queue has become free: region images and COPY commands that waited for one go on. -/
def State.internalGo (s : State) : State :=
  (upto 16).foldl (fun s k =>
    let l := s.linkOf k
    if l.offered.isEmpty = true ∧ l.toOffer.isEmpty = true ∧ l.copying = 0 ∧ l.todo.isEmpty = false ∧ s.linkState k = 2 then s.linkGo k else s)
    s.imagesGo

/-- After a hand-off: an INGEST_FOLIO's bytes count and the next is queued; a TASK_WRITE a reset held is taken (R390). -/
def State.afterHandoff (s : State) (g : Tag) : State :=
  let q := s.queueOf g.queue
  if g.entry = 8 then
    match s.ingPort g.queue with
    | some p =>
      let s1 := if classOf g.status < 2 then s.addF (magF F.MAGPORT_P_INGEST_BYTES_ALL p) g.declared else s
      s1.ingPump p
    | none => s
  else if q.kind = kInternal then s.internalGo
  else if q.kind = kMagazine then State.magHeldGo q.source (s.magPort q.source).heldWrites s
  else s

/-- A completion is handed to its source: posted, acknowledged or latched (R125). -/
def execCompletionHandoff (tag : Nat) (s : State) : Res :=
  .next (if (s.tagOf tag).state = .completing ∧ s.selfFenced = false ∧ s.withheld tag = false then
      (s.handOff tag).afterHandoff (s.tagOf tag)
    else s)

/-! ### Taking over commons (R265, R287, R290, R407) -/

/-- Region images found on the flash of a commons. -/
def State.imagesFound (s : State) (f : FlashCmn) : State :=
  { s with docket := { s.docket with images := s.docket.images ++ f.images.map (fun x =>
    ({ due := true, take := x.take, record := x.record, frame := x.frame, grain := x.grain, vol := x.addr / 2 ^ 52, leaf := x.addr % 2 ^ 52, data := x.data } : RegionImage)) } }

/-- Take commons without a mirror of them: recovered from flash where the surroundings bring it, claimed, and their
recovery checkpoint written (R23, R290). -/
def State.cmnOpen (s : State) (fl : List FlashCmn) (c : Nat) : State :=
  let s1 := match fl.find? (fun f => f.commons = c) with
    | some f => (s.cmnRecover f).imagesFound f
    | none => s
  let s2 := s1.claim c ((fl.find? (fun f => f.commons = c)).elim 0 FlashCmn.rival)
  if s2.owns c then (s2.ckptStart c).holdRecount c else s2

/-- Take commons over (R407): from the mirror where this head holds one, from flash otherwise. -/
def State.cmnsTake (s : State) (fl : List FlashCmn) (mirrored : Bool) (cs : List Nat) : State :=
  if mirrored then ((fl.filter (fun f => cs.contains f.commons)).foldl State.imagesFound (s.adopt fl cs)).imagesGo
  else ((cs.foldl (fun s c => s.cmnOpen fl c) s).imagesGo).slcRecompute

/-- Links of the commons taken reopen (R250). -/
def State.linksReopen (s : State) (cs : List Nat) : State :=
  (upto 16).foldl (fun s k =>
    if s.getF (F.SIEVE_REPL_CFG_MODE.at k) ≠ 0 ∧ s.linkState k = 0 ∧ cs.contains (s.volOf (s.linkVol k)).commons = true then
      s.linkOpen k else s) s

/-- What waited for the partner goes on unmirrored (R271): nothing is kept for it any more, the acts under way end
uncommitted. -/
def State.partnerGone (s : State) : State :=
  let s0 := s.actsDrop
  let s1 := { s0 with
    cf := { s0.cf with standby := false, store := [], acked := s0.cf.txSeq, sent := s0.cf.txSeq, holdup := false, flushDone := false }
    pair := { s0.pair with transfer := 0, joined := false } }.gapEnd
  let s3 := s1.soloEnd false
  ((((s3.indexSettle).carRelease).ackSweep).magRelease).tillServe

/-- Serve what this head now owns: addresses, tethers, adopted statuses, links (R393, R407, R409, R410). -/
def State.serveOn (s : State) (cs : List Nat) : State :=
  let s1 := (s.saddrServe).twinServe cs
  ((upto 4).foldl State.twinStatuses s1).linksReopen cs

/-- The role of R406 on losing the partner: 1 first, 2 second, 3 never. -/
def State.lossRole (s : State) : Nat :=
  if s.selfFenced then 3
  else if s.alone then 1
  else if s.bothServe = true ∨ s.mode = .joining then s.slotNo + 1
  else if s.isStandby = true ∨ s.mode = .replay then 2
  else 3

/-- Act on the loss of the partner (R406, R407): FENCE_OUT, the mode, and every commons this head does not own. kind is
that of COUNCIL_SWITCH. -/
def State.act (s : State) (fl : List FlashCmn) (cause kind : Nat) : State :=
  let since := if s.cf.lastBeat = 0 then s.time else s.cf.lastBeat
  let mirrored := s.bothServe || s.isStandby
  let s1 := s.fenceDrive true
  if s.alone then s1.partnerGone
  else
    let cs := s.hold.formed.filter (fun c => !s.owns c)
    let replayed := s.mode = .replay
    let s2 := (if s.mode = .sealedMode then s1 else (s1.setMode .solo cause)).reqDone 0x6020
    let s3 := { s2 with pair := { s2.pair with move := none, joinMine := false } }.setF F.COUNCIL_FAILBACK_STATE 0
    let s4 := if replayed then (s3.setF F.REEVE_REPLAY_STATE 0).councilArrange else s3
    let s5 := s4.cmnsTake fl mirrored cs
    ((s5.serveOn cs).switchRecord kind cause cs.length (s5.takeCount - s4.takeCount) since).partnerGone.sealEnter

/-- FENCE_IN is in effect (R404). -/
def State.fencedIn (s : State) : Bool := s.getF F.COUNCIL_PAIR_FENCE_IN = 1

/-- A head acts unless FENCE_IN stops it; serving alone it is never stopped (R405, R406). -/
def State.mayAct (s : State) : Bool := s.alone || !s.fencedIn

/-- On losing the partner: a first head acts, a second waits 30 ms (R406) with its lands held (R21). -/
def State.lossGo (s : State) (fl : List FlashCmn) : State :=
  let r := s.lossRole
  let s1 := s.setF F.COUNCIL_PAIR_ROLE r
  if r = 1 then (if s.mayAct then s1.act fl (if s.mode = .joining then 3 else 8) 1 else s1)
  else if r = 2 then { s1 with pair := { s1.pair with second := s.time + 1 } }.landsHold
  else s1

/-- Fenced (R405): stop serving and enter SERVICE. -/
def State.fencedNow (s : State) (kind : Nat) : State :=
  let n := (s.hold.formed.filter (fun c => s.owns c)).length
  let s1 := ((s.setMode .service 9).reqDone 0x6020).setF F.COUNCIL_FAILBACK_STATE 0
  ((s1.serveStop).mirrorForget).switchRecord kind 9 n 0 s.time

/-! ### The state transfer (R51, R260) -/

/-- Bytes that have landed in a frame of a take, as runs of its leaves. -/
def State.landSend (s : State) (k f : Nat) : State :=
  let x := s.takeOf k
  (x.covered.get f).foldl (fun s r =>
    let n := min (r.2 * 4096) x.frameBytes - r.1 * 4096
    s.landMirror (x.leafBase f r.1) x.vol (x.firstLeaf + 16 * (f * x.grainCount) + r.1) 0 s.now
      (s.rdBytes (tillKey (x.leafBase f r.1)) n)) s

/-- Send what the partner must hold of this head's work: dirty Till contents, Daybook deltas, open-sheaf ledger
entries, take state and the in-flight table (R51). The mirror goes on from there. -/
def State.transferSend (s : State) (cs : List Nat) : State :=
  let s0 := { s with pair := { s.pair with transfer := s.cf.txSeq + 1 } }
  let mine (v : Nat) : Bool := cs.contains (s.volOf v).commons
  let s1 := (s0.till.places.filter (fun p => decide (2 ≤ p.2.phase) && cs.contains p.2.commons)).foldl (fun s p =>
    s.mirror 0x02 (leBytes 8 p.2.off ++ leBytes 8 p.2.addr ++ leBytes 2 0 ++ leBytes 1 1 ++ leBytes 5 0 ++ leBytes 8 p.2.issue ++
      p.2.data)) s0
  let takes := s1.toll.takes.filter (fun p => p.2.state ≠ 0 && mine p.2.vol)
  let s2 := takes.foldl (fun s p => ((p.2.slots.filterMap Prod.snd).foldl (fun s f => s.landSend p.1 f) s)) s1
  let s3 := (s2.stew.db.filter (fun p => cs.contains p.1)).foldl (fun s p =>
    p.2.hist.foldl (fun s r => s.mirror 0x03 (leBytes 2 p.1 ++ leBytes 6 0 ++ r.bytes)) s) s2
  let s4 := ((s3.hold.sheaves.filter (fun p => cs.contains (p.1 / 2 ^ 33) && (p.2.state = 1 || p.2.state = 2))).map Prod.fst).foldl
    (fun s k => s.mirror 0x04 (leBytes 4 1 ++ leBytes 4 0 ++ s.ledgerBytes k)) s3
  let s5 := takes.foldl (fun s p => s.mirrorTake p.1) s4
  let s6 := ((s5.docket.tags.filter (fun p => p.2.state ≠ .free)).map Prod.fst).foldl State.mirrorTag s5
  { s6 with pair := { s6.pair with transfer := s6.cf.txSeq + 1 } }

/-! ### Joining messages (R51, R52) -/

/-- Whether the partner's heartbeats arrive over a link that is up. -/
def State.partnerHere (s : State) : Bool := s.cfUp && s.getF F.COUNCIL_PAIR_HB = 1

/-- JOIN_HELLO (R51): kind 1, slot, mode, serial number, pool identity, firmware version and the eight pair words
(assumption log 18). -/
def State.helloBytes (s : State) : List Byte :=
  leBytes 1 1 ++ leBytes 1 s.slotNo ++ leBytes 1 s.mode.code ++ leBytes 5 0 ++ leBytes 8 (s.getN R.IDENT_SERIAL) ++
    leBytes 8 (s.getN R.IDENT_POOL) ++ leBytes 8 (s.getN R.IDENT_FW) ++
    (upto 4).flatMap (fun k => leBytes 8 (s.pairOffer k))

/-- In JOINING, JOIN_HELLO goes once the link is trained and the partner's heartbeats are received (R51). -/
def State.joinGo (s : State) : State :=
  if s.mode = .joining ∧ s.pair.joinMine = false ∧ s.partnerHere = true then
    { s with pair := { s.pair with joinMine := true } }.sendStub 0x09 s.helloBytes
  else s

/-- Begin joining (R32, R51). -/
def State.joinBegin (s : State) (cause : Nat) : State :=
  let s1 := s.setMode .joining cause
  ({ s1 with pair := { s1.pair with joinMine := false, joined := false } }.setF F.COUNCIL_FAILBACK_STATE 0).joinGo

/-! ### Planned moves (R413, R414) -/

/-- The giving head begins a move: ACT names the commons, HANDBACK goes on their tethers, and their new commands are
HELD. kind is that of COUNCIL_SWITCH. One that ends in its own SERVICE starts a checkpoint of what it still owns (R285: entry to
SERVICE; a head in SERVICE owns nothing it could write to). -/
def State.moveStart (s : State) (kind : Nat) (cs : List Nat) : State :=
  let s0 := if kind = 3 then cs.foldl State.ckptStart s else s
  let s1 := { s0 with pair := { s0.pair with move := some ⟨true, kind, cs, s.time, false⟩ } }
  let s2 := (s1.sendAct 6 0 0 1 kind 0 (cs.flatMap (leBytes 2))).twinHandback cs
  let s3 := s2.docket.tags.foldl (fun s p =>
    if (s.tagOf p.1).state = .waiting ∧ s.moveHeld (s.tagOf p.1) = true then s.putTag p.1 { s.tagOf p.1 with state := .held } else s) s2
  (if s.mode = .service then s3 else s3.setF F.COUNCIL_FAILBACK_STATE 3).moveCheck

/-- The giving head's part ends: held commands complete with 0x7060, except FRAME_LANDED, which are discarded; the
commons, their takes and addresses go (R413, R414). -/
def State.moveGiven (s : State) (cs : List Nat) : State :=
  let ours := (s.docket.tags.filter (fun p => p.2.state ≠ .free && decide (p.2.entry < 16) &&
    cs.contains (s.volOf p.2.vol).commons && !p.2.ended)).map Prod.fst
  let s0 := { s with pair := { s.pair with move := none } }
  let s1 := ours.foldl (fun s t =>
    if (s.queueOf (s.tagOf t).queue).kind = kTake then s.putTag t default else s.docketEnd t 0x7060 0) s0
  s1.cmnDrop cs

/-- Both heads enter PAIRED: FENCE_OUT is deasserted and the mirror runs both ways (R404, R413). -/
def State.pairUp (s : State) (cause : Nat) : State :=
  let s1 := (s.setMode .paired cause).fenceDrive false
  let s2 := { s1 with cf := { s1.cf with standby := false }, pair := { s1.pair with transfer := 0 } }.gapEnd
  ((((s2.setF F.COUNCIL_FAILBACK_STATE 0).setF F.COUNCIL_FAILBACK_LEFT 0).saddrServe).paired).sealEnter

/-- The taking head claims and serves (R413, R414): takes and commands are adopted, then OWN, then the addresses. In a
failback or a drill both heads are PAIRED; otherwise this head serves alone. The reply says how many takes moved. -/
def State.moveTake (s : State) (fl : List FlashCmn) (kind : Nat) (cs : List Nat) : State :=
  let since := s.time
  let own := cs.filter (fun c => !s.owns c)
  let s1 := s.cmnsTake fl true own
  let n := s1.takeCount - s.takeCount
  let asked := s1.pair.asked
  let cause := if kind = 3 then 8 else if asked = 3 then 0x0A else 0x0B
  let s2 := if kind = 3 then (s1.setMode .solo cause).fenceDrive true else s1.pairUp cause
  let s3 := (({ s2 with pair := { s2.pair with move := none } }).serveOn own).reqDone 0
  let s4 := (s3.switchRecord (if kind = 3 then 3 else 4) cause own.length n since).sendAct 6 1 0 2 kind n (cs.flatMap (leBytes 2))
  s4.transferSend (if kind = 3 then s4.hold.formed else own)

/-- The giving head hears that the taking head serves (R413). In a failback it is PAIRED; where it has given its home
commons it stands by in SERVICE; what it holds of the partner's work comes by the transfer that follows. -/
def State.moveDone (s : State) (kind n : Nat) (cs : List Nat) : State :=
  let since := match s.pair.move with | some m => m.started | none => s.time
  let s1 := s.moveGiven cs
  let cause := if kind = 3 then 0x0A else if s.mode = .sealedMode then 0x0F else 0x0B
  let s2 := if kind = 3 then
      ((s1.setMode .service 0x0A).serveStop).setF F.COUNCIL_FAILBACK_STATE 2
    else s1.pairUp cause
  let s3 := (s2.saddrServe).switchRecord kind cause cs.length n since
  s3.reqDone 0

/-! ### Drills (R415 to R417) -/

/-- Put a drill. -/
def State.putDrill (s : State) (d : Drill) : State := { s with pair := { s.pair with drill := some d } }

/-- A 1 ms test pulse on FENCE_OUT (R417). -/
def State.pulse (s : State) : State :=
  let s1 := { s.fenceDrive true with pair := { s.pair with pulseOut := true, pulsesOut := s.pair.pulsesOut + 1 } }
  s1

/-- Begin a drill of a slot on this head: DRILL_BEGIN, and its test pulse. -/
def State.drillBegin (s : State) (slot : Nat) : State :=
  let s1 := s.putDrill { (default : Drill) with slot := slot, started := s.time }
  ((s1.setF F.COUNCIL_DRILL_CTL_BUSY 1).regEvent blkCOUNCIL 0x10E slot []).pulse

/-- End a drill on this head: DRILL_END, the result, and an ALARM for each failed check (R415, R417). -/
def State.drillEnd (s : State) (failed gap : Nat) : State :=
  match s.pair.drill with
  | none => s
  | some d =>
    let s1 := { s with pair := { s.pair with drill := none } }
    let s2 := ((s1.setF F.COUNCIL_DRILL_RESULT_GAP_MS (min 65535 gap)).setF F.COUNCIL_DRILL_RESULT_SLOT d.slot).setF
      F.COUNCIL_DRILL_RESULT_FAILED failed
    let s3 := (s2.setN R.COUNCIL_DRILL_SEQ s2.now).setF F.COUNCIL_DRILL_CTL_BUSY 0
    let s4 := s3.regEvent blkCOUNCIL 0x10F failed (leBytes 4 gap)
    ((upto 9).filter (fun b => failed.testBit b)).foldl (fun s b => s.alarm blkCOUNCIL 0 0 b []) s4

/-- The head that runs the drill ends it for both. -/
def State.drillClose (s : State) : State :=
  match s.pair.drill with
  | none => s
  | some d => (s.sendAct 7 0 0 5 d.failed d.gap []).drillEnd d.failed d.gap

/-- The digest of ranges of the Till by their MIRROR_OFF, however they are cut (R417 bit 4). -/
def rangesDigest (l : List (Nat × List Byte)) : List Byte :=
  let m : AMap Byte := l.foldl (fun m x => (x.2.foldl (fun (p : AMap Byte × Nat) b => (p.1.set p.2 b, p.2 + 1)) (m, x.1)).1) []
  digest 0 (leBytes 8 (l.foldl (fun n x => n + x.2.length) 0) ++ m.flatMap (fun c => leBytes 9 c.1 ++ [c.2]))

/-- What a take's region holds dirty: the grains of landed frames not yet released, and the covered leaves of the others. -/
def State.takeDirty (s : State) (x : Take) : List (Nat × List Byte) :=
  let at_ (a n : Nat) : Nat × List Byte := (landOff a, s.rdBytes (tillKey a) n)
  x.grains.map (fun g => at_ (x.grainBase g.1 g.2) (x.grainBytes g.2)) ++
    ((upto x.regFrames).filter (fun i => !x.slotLanded.get i)).flatMap (fun i => match x.slots.get i with
      | none => []
      | some f => (x.covered.get f).map (fun r => at_ (x.leafBase f r.1) (min (r.2 * 4096) x.frameBytes - r.1 * 4096)))

/-- Placed and landed bytes this head holds dirty, which the partner's MIRROR must equal (R417). -/
def State.drillDirty (s : State) : List Byte :=
  rangesDigest ((s.till.places.filter (fun p => decide (2 ≤ p.2.phase))).map (fun p => (p.2.off, p.2.data)) ++
    (s.toll.takes.filter (fun p => p.2.state ≠ 0)).flatMap (fun p => s.takeDirty p.2))

/-- Both pulses have been seen and reported: the head that is not drilled asserts FENCE_OUT (R415 step 1). -/
def State.drillFence (s : State) : State :=
  match s.pair.drill with
  | none => s
  | some d =>
    if d.slot ≠ s.slotNo ∧ d.seen = true ∧ d.heard = true ∧ d.fenced = false then
      ((s.putDrill { d with fenced := true, wait := 0 }).fenceDrive true)
    else s

/-- The drilled head is fenced (R415 steps 2 and 3): the other takes over. Bits 3, 4, 5 and 7 of R417 are judged. -/
def State.drillTake (s : State) (fl : List FlashCmn) (dirty : List Byte) : State :=
  match s.pair.drill with
  | none => s
  | some d =>
    let cs := s.hold.formed.filter (fun c => !s.owns c)
    let flash := cs.any (fun c => match fl.find? (fun f => f.commons = c) with
      | some f => s.anchorsRead f = [] || !f.roots
      | none => false)
    let bytes := rangesDigest (s.cf.mirror.map (fun m => (m.off, m.data)))
    let ports := (upto 8).filter (fun p => (s.getN R.FABRIC_LINK / 2 ^ (2 * p)) % 4 = 2)
    let t0 := s.time
    let s1 := s.act fl 8 5
    let adopted := (upto 16).filter (fun i => s1.getF (F.FABRIC_SADDR_STATE_ADOPTED.at i) = 1)
    let deaf := adopted.any (fun i => !(ports.any (fun p => p / 2 ≠ s1.getF (F.FABRIC_SADDR_CFG_PORT.at i) % 4)))
    let gap := (s1.time - t0) / 1000
    let failed := d.failed + b2n flash * 8 + b2n (bytes ≠ dirty) * 16 + b2n deaf * 32 + b2n (decide (300 < gap)) * 128
    let e := cs.foldl (fun n c => max n (s1.hold.epoch.get c)) 0
    ((s1.putDrill { d with failed := failed, gap := gap, back := false }).transferSend s1.hold.formed).sendAct 7 0 0 3 e 0 []

/-- The drilled head's probe (R405, R417 bit 2): one PROGRAM with its old epoch, which the bridge refuses where the
partner has raised the epoch. -/
def State.drillProbe (s : State) (epoch : Nat) : State :=
  let home := s.homed s.slotNo
  match home with
  | [] => s.sendAct 7 0 0 4 1 0 []
  | c :: _ =>
    let die := (s.cmnDies c).headD 0
    (s.send (.sled (die / 2048) 2 [c, 9, s.hold.epoch.get c, die % 2048])).sendAct 7 0 0 4 (b2n (decide (s.hold.epoch.get c < epoch))) 0 []

/-- A drill's failback has ended (R417): bits 2, 6 and 8 are judged and the drill ends. -/
def State.drillFinish (s : State) (since : Nat) : State :=
  match s.pair.drill with
  | none => s
  | some d =>
    let twin := (upto 4).any (fun p => s.magTwin p && (s.magPort p).out.any (fun m => m.type = 0x17 && m.sent))
    let late := decide (100000 < s.time - since)
    (s.putDrill { d with failed := d.failed + b2n (!d.probed) * 4 + b2n twin * 64 + b2n late * 256 }).drillClose

end Sys2Proof.Machine
end

