-- ==== Sys2Proof/Machine/Counterfoil.lean ====
section
/-! DEFINITION. The Counterfoil's commands (R255 to R260, R269, R272): stubs as they arrive, training, lanes, and
joining messages (R51, R52). -/
namespace Sys2Proof.Machine

/-! ### Receiving a stub (R256, R258) -/


/-- NAK for the next expected SEQ, at most once every 2 µs (R258). -/
def State.cfNak (s : State) : State :=
  if s.cf.nakAt ≠ 0 ∧ s.time < s.cf.nakAt + 1 then s
  else ({ s with cf := { s.cf with nakAt := s.time + 1 } }.sendStub 0x0C (leBytes 8 (s.cf.rxSeq + 1))).countEv 0x0C 1 16

/-- The partner has acknowledged stubs: what waited for them goes on, and once the state transfer is acknowledged the
mirror to the standby has begun (R258 to R260, R370). -/
def State.cfAck (s : State) (ack : Nat) : State :=
  let a := min s.cf.sent (s.cf.txBase + ack)
  if a ≤ s.cf.acked then s
  else
    let s0 := { s with cf := { s.cf with acked := a, store := s.cf.store.filter (fun x => decide (a < x.seq)) } }
    let s1 := State.cfPump s0.cf.store stubRoom s0
    let s2 := if s1.pair.transfer ≠ 0 ∧ s1.pair.transfer ≤ a + 1 then
        { s1 with pair := { s1.pair with transfer := 0 }
                  cf := { s1.cf with standby := s1.cf.standby || s1.mode = .solo || s1.mode = .sealedMode } }
      else s1
    (((((s2.indexSettle).carRelease).ackSweep).magRelease).tillServe).moveCheck

/-- Length of a stub on the wire for a payload length. -/
def stubLen (n : Nat) : Nat := (36 + n + 7) / 8 * 8

/-- A stub arrives. One that fails a check is discarded and NAK goes; one in sequence is applied where it is the
command's own type, takes a Reeve number (R463), and is acknowledged by the next stub, an empty HEARTBEAT where none
goes (R258). -/
def State.cfReceive (s : State) (b : List Byte) (want : Nat → Bool) (k : List Byte → State → State) : State :=
  let typ := fieldAt b 2 1
  let len := fieldAt b 4 4
  let payload := (b.drop 32).take len
  if s.cfUp = false ∨ s.selfFenced = true then s
  else if b.length < 32 ∨ fieldAt b 0 2 ≠ 0x5C0F ∨ fieldAt b 0x1C 4 ≠ crc32c (b.take 0x1C) then (s.addF F.TILL_CF_ERR_CRC 1).cfNak
  else if want typ = false then s
  else if 65600 < len ∨ b.length ≠ stubLen len then (s.addF F.TILL_CF_ERR_LENGTH 1).cfNak
  else if fieldAt b (32 + len) 4 ≠ crc32c payload then (s.addF F.TILL_CF_ERR_CRC 1).cfNak
  else if fieldAt b 8 8 ≠ s.cf.rxSeq + 1 then s.cfNak
  else
    let s1 := ({ s with cf := { s.cf with rxSeq := s.cf.rxSeq + 1 } }.addN R.TILL_CF_RX_STUBS 1).tick
    let s2 := k payload (s1.cfAck (fieldAt b 0x10 8))
    if s2.cf.txSeq = s1.cf.txSeq ∧ s2.cfUp = true then s2.sendStub 0x01 [] else s2

/-- Management's view of the partner's presence (R42, R423). -/
def State.hbSet (s : State) (v : Nat) : State := (s.setF F.COUNCIL_PAIR_HB v).setF F.IDENT_MODE_PARTNER v

/-- A HEARTBEAT of 16 bytes (R257, R402): the partner is alive; its mode, grade and limit. A partner that turns SEALED
seals this head too (R32). An empty one only acknowledges. -/
def State.beat (s : State) (p : List Byte) : State :=
  if p.length ≠ 16 then s
  else
    let gap := if s.getF F.COUNCIL_PAIR_HB = 1 then s.time - s.cf.lastBeat else 0
    let s1 := s.setF F.COUNCIL_PAIR_HB_GAP_MAX (max gap (s.getF F.COUNCIL_PAIR_HB_GAP_MAX))
    let s2 := if 5000 < gap then s1.holdRestart else s1
    let s3 := { s2 with cf := { s2.cf with lastBeat := s.time, partnerOpsec := fieldAt p 0 8, partnerMode := fieldAt p 8 1
                                           partnerGrade := fieldAt p 9 1, partnerLimit := fieldAt p 12 4
                                           sealBy := fieldAt p 8 1 = 6 && (s.cf.sealBy ||
                                             decide (s.cf.partnerMode ≠ 6 ∧ s.getF F.STEWARD_MEDIA_STATE_SEALING = 0)) } }.hbSet 1
    let s4 := if fieldAt p 8 1 = 6 ∧ s.cf.partnerMode ≠ 6 ∧ (s.mode = .paired ∨ s.mode = .solo) then
        (((s3.setMode .sealedMode 0x0E).reqDone 0x6020).cutAll 32)
      else s3
    if [2, 4, 6].contains (fieldAt p 8 1) then s4.joinGo else s4

/-- A HEARTBEAT stub (R257). -/
def execCfHeartbeat (b : List Byte) (s : State) : Res := .next (s.cfReceive b (fun t => t = 0x01) (fun p s => s.beat p))

/-! ### What the partner mirrors here (R257, R259, R260, R287) -/

/-- TILL_DATA: a placement or a landing stands in MIRROR. -/
def State.mirrorData (s : State) (p : List Byte) : State :=
  let m : MirrorItem := { off := fieldAt p 0 8, addr := fieldAt p 8 8, tag := fieldAt p 0x10 2, kind := fieldAt p 0x12 1
                          reeve := fieldAt p 0x18 8, data := p.drop 0x20 }
  { s with cf := { s.cf with mirror := s.cf.mirror.filter (fun x => x.off ≠ m.off) ++ [m] } }

def execCfTillData (b : List Byte) (s : State) : Res := .next (s.cfReceive b (fun t => t = 0x02) (fun p s => s.mirrorData p))

/-- DAYBOOK: whole groups enter the overlay (R287); the pool's one epoch counter follows the partner's snapshots (R237). -/
def execCfDaybook (b : List Byte) (s : State) : Res :=
  .next (s.cfReceive b (fun t => t = 0x03) (fun p s =>
    let rs := parseRecs 1024 (p.drop 8)
    let e := (rs.filter (fun r => r.typ = 0x0B)).foldl (fun n r => max n (fieldAt r.body 0 4 + 1)) s.poolEpoch
    (s.overlayTake (fieldAt p 0 2) rs).setF F.SIEVE_EPOCH_VAL e))

/-- LEDGER: entries of open sheaves are held; a closed one is retired (R338, R339). -/
def execCfLedger (b : List Byte) (s : State) : Res :=
  .next (s.cfReceive b (fun t => t = 0x04) (fun p s =>
    (pieces 192 (fieldAt p 0 4) (p.drop 8)).foldl (fun s e =>
      if fieldAt e 0xBC 4 ≠ crc32c (e.take 0xBC) then s
      else
        let key := fieldAt e 8 2 * 2 ^ 33 + fieldAt e 0 8
        { s with cf := { s.cf with ledger := s.cf.ledger.set key (if fieldAt e 10 1 = 3 then [] else e) } }) s))

/-- TAKE_STATE: a take's record, until its state is 0. -/
def execCfTakeState (b : List Byte) (s : State) : Res :=
  .next (s.cfReceive b (fun t => t = 0x05) (fun p s =>
    { s with cf := { s.cf with takes := s.cf.takes.set (fieldAt p 0x43 1) (if fieldAt p 0x7C 4 = 0 then [] else p) } }))

/-- DOCKET: an in-flight entry, until its tag is FREE. -/
def execCfDocket (b : List Byte) (s : State) : Res :=
  .next (s.cfReceive b (fun t => t = 0x06) (fun p s =>
    { s with cf := { s.cf with docket := s.cf.docket.set (fieldAt p 0 2) (if fieldAt p 0x40 1 = 0 then [] else p) } }))

/-- What is left of a mirrored range once part of it is released. -/
def MirrorItem.trim (m : MirrorItem) (off len : Nat) : List MirrorItem :=
  let e := m.off + m.data.length
  if off + len ≤ m.off ∨ e ≤ off then [m]
  else
    let left : List MirrorItem := if m.off < off then [{ m with data := m.data.take (off - m.off) }] else []
    let right : List MirrorItem := if off + len < e then
        [{ m with off := off + len, addr := m.addr + (off + len - m.off) / 4096, data := m.data.drop (off + len - m.off) }]
      else []
    left ++ right

/-- RELEASE: clean ranges leave MIRROR; what a checkpoint covers leaves the overlay (R257, R287). -/
def execCfRelease (b : List Byte) (s : State) : Res :=
  .next (s.cfReceive b (fun t => t = 0x07) (fun p s =>
    (pieces 16 (fieldAt p 0 4) (p.drop 8)).foldl (fun s e =>
      let off := fieldAt e 0 8
      let len := fieldAt e 8 8
      if 2 ^ 63 ≤ off then s.overlayApply false ((off - 2 ^ 63) / 2 ^ 51) len
      else { s with cf := { s.cf with mirror := s.cf.mirror.flatMap (fun m => m.trim off len) } }) s))

/-! ### Acts of the array (R79, R162, R226, R239), planned moves and drills -/

/-- Commons named in a blob. -/
def blobCommons (l : List Byte) : List Nat := (pieces 2 (l.length / 2) l).map (fun x => fieldAt x 0 2)

/-- The partner asks for a planned move or takes its part in one (R34, R412, R413). -/
def State.moveAct (s : State) (fl : List FlashCmn) (a kind : Nat) (blob : List Byte) : State :=
  match a with
  | 0 =>
    if s.mode = .solo ∧ s.pair.move = none then
      let s1 := if s.cf.standby then s else s.transferSend s.hold.formed
      s1.moveStart 4 ((s.homed (1 - s.slotNo)).filter (fun c => s.owns c))
    else s.sendAct 6 1 0x7020 0 kind 0 []
  | 1 =>
    let s1 := { s with pair := { s.pair with move := some ⟨false, kind, blobCommons blob, s.time, false⟩ } }
    if s.mode = .service then s1.setF F.COUNCIL_FAILBACK_STATE 3 else s1
  | 2 => s.moveTake fl kind (blobCommons blob)
  | _ =>
    if s.mode ≠ .paired ∨ s.pair.drill.isSome = true then s.sendAct 6 1 0x7020 4 0 0 []
    else if (s.pair.asked = 7 ∧ s.slotNo = 0) ∨ s.pair.move.isSome = true then s.sendAct 6 1 0x7021 4 0 0 []
    else (if s.pair.asked = 7 then s.reqDone 0x7021 else s).sendAct 6 1 0 4 0 0 []

/-- An answer about a planned move. -/
def State.moveReply (s : State) (a st kind n : Nat) (blob : List Byte) : State :=
  match a with
  | 0 => (s.reqDone st).setF F.COUNCIL_FAILBACK_STATE (if s.mode = .service then 2 else 0)
  | 2 =>
    match s.pair.move with
    | some m => if m.giving then
        let s1 := s.moveDone kind n (blobCommons blob)
        if m.kind = 5 then s1.drillFinish m.started else s1
      else s
    | none => s
  | _ => if st = 0 ∧ s.pair.asked = 7 ∧ s.mode = .paired then s.moveStart 3 (s.homed s.slotNo) else s.reqDone st

/-- A step of a drill reported by the partner (R415, R417): 0 begin, 1 a test pulse seen, 2 fenced, 3 taken over, 4 the
probe's outcome, 5 the end. -/
def State.drillAct (s : State) (fl : List FlashCmn) (a b c : Nat) (blob : List Byte) : State :=
  match a with
  | 0 => s.drillBegin (b % 2)
  | 1 =>
    let s1 := { s with pair := { s.pair with pulsesOut := 0 } }
    match s1.pair.drill with
    | some d => (s1.putDrill { d with heard := true }).drillFence
    | none => s1
  | 2 => match s.pair.drill with
    | some d => if d.fenced = true ∧ d.slot ≠ s.slotNo then s.drillTake fl blob else s
    | none => s
  | 3 => if s.mode = .service then s.drillProbe b else s
  | 4 => match s.pair.drill with
    | some d => s.putDrill { d with probed := decide (b = 1) }
    | none => s
  | _ => s.drillEnd b c

/-- Loads of every admitted take of the partner, from their mirrored records. -/
def State.partnerAll (s : State) : List Load :=
  (s.cf.takes.filter (fun p => fieldAt p.2 0x7C 1 = 1 || fieldAt p.2 0x7C 1 = 2)).map
    (fun p => s.blockLoad (parseReq p.2) (fieldAt p.2 0x58 5 - s.cf.partnerOpsec))

/-- Whether the SOLO test passes over every admitted take of both heads (R162, R416). -/
def State.drillTakesFit (s : State) : Bool :=
  let cap := { s.toll.cap with slcFree := s.toll.cap.slcFree + s.toll.partnerSlcFree
                               spaceFree := s.toll.cap.spaceFree + s.toll.partnerSpaceFree }
  s.failMask cap (s.getF F.TOLL_POLICY_TAKE_SHARE) (s.getF F.TOLL_POLICY_DIRTY_SHARE) (s.getF F.TOLL_POLICY_SLC_RSV)
    (((s.toll.takes.filter (fun p => p.2.kept?)).map (fun p => p.2.load s.opsec)) ++ s.partnerAll) = 0

/-! ### Management's mode requests (R34, R35), and the roll (R458) -/

/-- A request of management: while one is carried out, another completes with 0x8020. -/
def State.modeReq (s : State) (f : State → State) : State :=
  if s.getF F.IDENT_MODE_REQ_BUSY = 1 then s.stat F.IDENT_MODE_REQ_STATUS 0x8020 else f s

/-- The request is carried out while the partner answers: mode code m is asked. -/
def State.modeAsk (s : State) (m : Nat) : State :=
  ({ s with pair := { s.pair with asked := m } }.setF F.IDENT_MODE_REQ_BUSY 1).stat F.IDENT_MODE_REQ_STATUS 0

/-- What stands against a request for SERVICE (R35, R422); 0 nothing. -/
def State.serviceStatus (s : State) : Status :=
  if s.mode ≠ .paired then 0x5020
  else if s.pair.drill.isSome then 0x8130
  else if s.cf.partnerMode ≠ 3 ∨ s.partnerHere = false ∨ s.pair.move.isSome = true then 0x7020
  else 0

/-- SERVICE is asked for: the partner rules on it (R34, R35). -/
def State.serviceAsk (s : State) : State := (s.modeAsk 7).sendAct 6 0 0 4 0 0 []

/-- An act of the roll arrives at the head that is not head A: 9 the conditions, 10 its offer and SERVICE, 11 activation, which
its next ROLL_STEP_ADVANCE carries out (R458). -/
def State.rollAsked (s : State) (kind : Nat) (blob : List Byte) : State :=
  match kind with
  | 9 => s.sendAct 9 1 (if s.rollReady = true ∧ s.rollDigest = blob then 0 else 0x7160) 0 0 0 []
  | 10 =>
    let r := s.rollOffer
    if r.1 ≠ 0 ∨ s.serviceStatus ≠ 0 ∨ s.getF F.IDENT_MODE_REQ_BUSY = 1 then s.sendAct 10 1 0x7160 (if r.1 = 0 then 2 else 1) 0 0 []
    else (r.2.sendAct 10 1 0 0 0 0 []).serviceAsk
  | _ => { s with strong := { s.strong with rollTask := 2 } }

/-- The partner's answer in a roll. After the first, the SOLO test over every take decides (R458); then step 1 is done on this
head, and head B is asked for its part. -/
def State.rollAnswer (s : State) (kind st a : Nat) : State :=
  if s.getF F.STRONG_ROLL_CTL_BUSY = 0 then s
  else if kind = 9 ∧ s.strong.rollPhase = 1 then
    if st ≠ 0 ∨ s.rollReady = false then (s.rollEnd 0).setF F.STRONG_ROLL_CTL_STATUS 0x7160
    else if s.drillTakesFit = false then
      let takes := ((s.toll.takes.filter (fun p => p.2.kept?)).map (fun p => p.2.load s.opsec)) ++ s.partnerAll
      ((s.rollEnd 0).setF F.STRONG_ROLL_CTL_STATUS 0x2160).setF F.STRONG_ROLL_CTL_RETRY_MS (earliestKept takes)
    else
      let r := s.rollOffer
      if r.1 ≠ 0 then s.rollEnd 1
      else ({ r.2 with strong := { r.2.strong with rollPhase := 0 } }.setF F.STRONG_ROLL_STATE_STEP 2).sendAct 10 0 0 0 0 0 []
  else if kind = 10 ∧ st ≠ 0 then s.rollEnd a
  else s

/-- The serving head sends a joining head its resident recipe packages, each with the volumes bound to it, before the Till's
state (R80, assumption log 18). -/
def State.recipesSend (s : State) : State :=
  (s.hands.recipes.filter (fun p => p.2.state = 2)).foldl (fun s p =>
    let vs := (s.docket.vols.filter (fun v => v.2.slot = p.1 + 1)).map Prod.fst
    s.sendAct 12 0 0 vs.length 0 0 (vs.flatMap (leBytes 2) ++ p.2.pkg)) s

/-- A recipe package the serving head sends: the joining head verifies it as a load, and binds the volumes the serving head has
bound to it. One that fails is a pool mismatch, which ends joining with cause 0x06 (R80). -/
def State.recipeJoin (s : State) (n : Nat) (blob : List Byte) : State :=
  let vs := (upto n).map (fun i => fieldAt blob (2 * i) 2)
  let p := blob.drop (2 * n)
  let r := parseRecipe p
  let bound (slot : Nat) (s : State) : State := vs.foldl (fun s v => if (s.volOf v).slot = slot + 1 then s else s.bind v slot) s
  if s.mode ≠ .joining ∨ s.pair.joined = false then s
  else match s.hands.recipes.find? (fun x => x.2.state = 2 && x.2.ident = r.ident && x.2.version = r.version && x.2.digest = r.digest) with
  | some x => bound x.1 s
  | none =>
    if s.loadStatus p = 0 then
      let x := s.loadPlace p
      bound x.1 x.2
    else
      ({ s with pair := { s.pair with joined := false } }.alarm 0 0 0 6 (leBytes 1 (1 - s.slotNo) ++ leBytes 7 0 ++
        leBytes 8 s.strong.partnerSerial ++ leBytes 8 (s.getN R.IDENT_POOL) ++ leBytes 8 s.strong.partnerPool)).setMode .service 6

/-- What the partner reports of its SLC_FREE and SPACE_FREE (R162). -/
def State.partnerFree (s : State) (slc space : Nat) : State :=
  { s with toll := { s.toll with partnerSlcFree := slc, partnerSpaceFree := space } }

/-- An ACT stub: an act to judge, the answer to one, its commitment, or the report of R162 (R79). -/
def State.cfAct (s : State) (fl : List FlashCmn) (p : List Byte) : State :=
  let kind := fieldAt p 0 1
  let dir := fieldAt p 1 1
  let st := fieldAt p 2 2
  let a := fieldAt p 8 8
  let b := fieldAt p 16 8
  let c := fieldAt p 24 8
  let blob := p.drop 32
  if dir = 1 then
    match kind with
    | 5 => (s.partnerFree a b).soloEnd (st = 0)
    | 6 => s.moveReply a st b c blob
    | 9 => s.rollAnswer 9 st a
    | 10 => s.rollAnswer 10 st a
    | _ => match s.hands.acts with
      | x :: _ => if x.kind = kind then s.actEnd st else s
      | [] => s
  else if dir = 2 then s.actCommit kind st
  else if dir = 3 then (if kind = 13 then s.twinHear blob else s.partnerFree a b)
  else
    match kind with
    | 5 =>
      let s1 := s.partnerFree a b
      s1.sendAct 5 1 (if s1.soloJudge blob c then 0 else 0x2071) s.toll.cap.slcFree s.toll.cap.spaceFree 0 []
    | 6 => s.moveAct fl a b blob
    | 7 => s.drillAct fl a b c blob
    | 9 => s.rollAsked 9 blob
    | 10 => s.rollAsked 10 blob
    | 11 => s.rollAsked 11 blob
    | 12 => s.recipeJoin a blob
    | _ =>
      let r := s.actJudge ⟨true, kind, a, b, c, blob⟩
      r.2.sendAct kind 1 r.1 a b c []

/-- An ACT stub arrives. fl is what the flash holds of commons a move or a drill hands over. -/
def execCfAct (b : List Byte) (fl : List FlashCmn) (s : State) : Res :=
  .next (s.cfReceive b (fun t => t = 0x08) (fun p s => s.cfAct fl p))

/-! ### Joining (R51, R52) -/

/-- The first failing check of a JOIN_HELLO: its cause, 0 where all hold (R51). -/
def State.joinCheck (s : State) (p : List Byte) : Nat :=
  if fieldAt p 1 1 = s.slotNo then 5
  else if fieldAt p 16 8 ≠ s.getN R.IDENT_POOL then 6
  else if (upto 4).any (fun k => fieldAt p (32 + 8 * k) 8 ≠ s.pairOffer k) then 4
  else 0

/-- The record of a failed joining (R52, R530), and the bits that differed (R48). -/
def State.joinFailed (s : State) (p : List Byte) (cause : Nat) : State :=
  if cause = 4 then
    (upto 4).foldl (fun s k => s.setN (R.IDENT_FEAT_DIFF + 8 * k)
      (s.pairOffer k ^^^ fieldAt p (32 + 8 * k) 8)) s
  else
    s.alarm 0 0 0 cause (leBytes 1 (fieldAt p 1 1) ++ leBytes 7 0 ++ leBytes 8 (fieldAt p 8 8) ++
      (if cause = 6 then leBytes 8 (s.getN R.IDENT_POOL) ++ leBytes 8 (fieldAt p 16 8) else []))

/-- The words of both heads are identical: they run between the heads (R48), and the Council's configuration follows. -/
def State.pairWords (s : State) (p : List Byte) : State :=
  ((upto 4).foldl (fun s k => s.setN (R.IDENT_FEAT_PAIR + 8 * k) (fieldAt p (32 + 8 * k) 8)) s).councilArrange

/-- What a JOIN_HELLO tells of the partner (R51, R52). -/
def Strong.meets (x : Strong) (p : List Byte) : Strong :=
  { x with partnerFw := fieldAt p 24 8, partnerSerial := fieldAt p 8 8, partnerPool := fieldAt p 16 8 }

/-- JOINING meets JOIN_HELLO (R51, R52). -/
def State.joinHere (s : State) (fl : List FlashCmn) (p : List Byte) : State :=
  let cause := s.joinCheck p
  let serving := [4, 6].contains (fieldAt p 2 1)
  let s0 := { s with pair := { s.pair with joinMine := true }, strong := s.strong.meets p }
  let s1 := if s.pair.joinMine then s0 else s0.sendStub 0x09 s.helloBytes
  if cause ≠ 0 then
    let s2 := s1.joinFailed p cause
    if cause = 4 ∧ serving = false ∧ s.slotNo = 0 then
      let cs := s2.hold.formed.filter (fun c => !s2.owns c)
      (((s2.setMode .solo 4).cmnsTake fl false cs).serveOn cs).sealEnter
    else s2.setMode .service cause
  else
    let s2 := (s1.pairWords p).mirrorForget
    if serving then { s2 with pair := { s2.pair with joined := true } }
    else
      let mine := s2.homed s2.slotNo
      let s3 := (s2.cmnsTake fl false mine).pairUp 2
      (s3.serveOn mine).transferSend mine

/-- A serving head meets JOIN_HELLO: it answers with its own, and sends the joining head its state (R51). A failed
check leaves it as it is (R52); where both heads read the same HEAD_SLOT the model leaves it too, since R32 has no transition for
it (assumption log 32). -/
def State.joinServe (s : State) (p : List Byte) : State :=
  let cause := s.joinCheck p
  let s0 := { s with strong := s.strong.meets p }
  let s1 := s0.sendStub 0x09 s.helloBytes
  if cause ≠ 0 then s1.joinFailed p cause
  else (((s1.pairWords p).recipesSend.transferSend s.hold.formed).twinTell).sendStub 0x09 (leBytes 1 2 ++ leBytes 63 0)

/-- The transfer has ended: the joining head stands by in SERVICE, and the hold-off starts (R51, R412); in a roll it is 120 s
where IDENT_JOIN gives none (R458). -/
def State.joinStand (s : State) : State :=
  let auto := s.strong.rolling || (s.pairFeat 6 && s.getF F.IDENT_JOIN_HOLDOFF ≠ 0)
  let wait := if s.getF F.IDENT_JOIN_HOLDOFF = 0 then 120 else s.getF F.IDENT_JOIN_HOLDOFF
  let s0 := { s with stew := { s.stew with recAt := [] } }.recFlags
  let s1 := { s0 with pair := { s0.pair with joined := false } }.setMode .service 2
  (s1.setF F.COUNCIL_FAILBACK_STATE (if auto then 1 else 2)).setF F.COUNCIL_FAILBACK_LEFT
    (if auto then wait else 0)

/-- A JOIN stub: JOIN_HELLO, or the end of the state transfer (R51). fl is what the flash holds of the commons this head
comes to own. -/
def execCfJoin (b : List Byte) (fl : List FlashCmn) (s : State) : Res :=
  .next (s.cfReceive b (fun t => t = 0x09) (fun p s =>
    if fieldAt p 0 1 = 2 then (if s.mode = .joining ∧ s.pair.joined = true then s.joinStand else s)
    else if s.mode = .joining then s.joinHere fl p
    else if s.mode = .solo ∨ s.mode = .sealedMode then s.joinServe p
    else s))

/-! ### The partner in HOLDUP (R269) -/

/-- HOLDUP_NOTICE: the switch-over is held. -/
def execCfHoldupNotice (b : List Byte) (s : State) : Res :=
  .next (s.cfReceive b (fun t => t = 0x0A) (fun _ s => { s with cf := { s.cf with holdup := true, flushDone := false } }))

/-- FLUSH_DONE: the switch-over goes on; what was flushed need not be replayed (R269). -/
def execCfFlushDone (b : List Byte) (fl : List FlashCmn) (s : State) : Res :=
  .next (s.cfReceive b (fun t => t = 0x0B) (fun p s =>
    if s.cf.holdup = false then s
    else
      let whole := fieldAt p 8 4 = 0
      let s1 := { s with cf := { s.cf with holdup := false, flushDone := true, mirror := if whole then [] else s.cf.mirror
                                           ledger := if whole then [] else s.cf.ledger } }
      (s1.hbSet 0).lossGo fl))

/-- No FLUSH_DONE within 300 ms of the notice: MIRROR is replayed (R269). -/
def execFlushDoneTimeout (fl : List FlashCmn) (s : State) : Res :=
  .next (if s.cf.holdup then
    ({ s with cf := { s.cf with holdup := false } }.hbSet 0).lossGo fl else s)

/-! ### NAK, reserved stubs, training and lanes (R255, R257, R258, R271, R272) -/

/-- NAK: stubs are sent again from the named SEQ with RESEND set (R258). -/
def execCfNak (b : List Byte) (s : State) : Res :=
  .next (s.cfReceive b (fun t => t = 0x0C) (fun p s =>
    let from_ := s.cf.txBase + fieldAt p 0 8
    (s.cf.store.filter (fun x => decide (from_ ≤ x.seq) && decide (x.seq ≤ s.cf.sent))).foldl (fun s x =>
      (s.addN R.TILL_CF_RESENDS 1).send (.stub (fieldAt x.bytes 2 1) [x.seq - s.cf.txBase] (s.restamp x 1))) s))

/-- A stub of a reserved type is acknowledged, discarded and counted (R257). -/
def execCfReservedStub (b : List Byte) (s : State) : Res :=
  .next (s.cfReceive b (fun t => t = 0 || decide (0x0C < t)) (fun _ s => s.addF F.TILL_CF_ERR_LENGTH 1))

/-- The lanes a mask of whole lanes leaves: all eight, or the half that is whole (R255). -/
def cfLanes (whole : Nat) : Nat := if whole % 256 = 255 then 255 else if whole % 16 = 15 then 15 else if whole / 16 % 16 = 15 then 240 else 0

/-- Put the lanes in use in TILL_CF_STATE. -/
def State.cfLanesSet (s : State) (m : Nat) : State :=
  ((s.setF F.TILL_CF_STATE_LANES_UP m).setF F.TILL_CF_STATE_LANES (if m = 0 then 0 else if m = 255 then 8 else 4)).setF
    F.TILL_CF_STATE_STATE (if m = 0 then 0 else if m = 255 then 2 else 3)

/-- TILL_CF_CTL.RETRAIN (R272). -/
def execTillCfRetrain (s : State) : Res :=
  .next (
    if s.getF F.TILL_CF_CTL_BUSY = 1 then s.stat F.TILL_CF_CTL_STATUS 0x80D0
    else if s.mode = .solo ∨ s.mode = .service ∨ s.mode = .joining then
      ((((s.cfLanesSet 0).setF F.TILL_CF_STATE_STATE 1).setF F.TILL_CF_CTL_BUSY 1).stat F.TILL_CF_CTL_STATUS 0)
    else s.stat F.TILL_CF_CTL_STATUS 0x70D0)

/-- Training completes on the whole lanes (R255, R256): LINK_EPOCH rises, SEQ starts at 1, and what is not
acknowledged is sent again. In MINIMAL it takes lanes 0 to 3 alone, at 53.125 Gb/s (R491). -/
def State.cfTrained (s : State) (whole : Nat) : State :=
  let m := cfLanes (if s.grade = 2 then whole % 16 else whole)
  let w2 := if s.getN R.IDENT_FEAT_PAIR = 0 then s.pairOffer 2 else s.getN (R.IDENT_FEAT_PAIR + 16)
  let s0 := (s.cfLanesSet m).setF F.TILL_CF_CTL_BUSY 0
  if m = 0 then s0
  else
    let s1 := (s0.addF F.TILL_CF_STATE_LINK_EPOCH 1).setF F.TILL_CF_STATE_FULL (if s.grade = 2 then 0 else w2 / 64 % 2)
    let s2 := { s1 with cf := { s1.cf with txBase := s1.cf.acked, rxSeq := 0, nakAt := 0, sent := s1.cf.acked } }
    let s3 := (s2.setN R.TILL_CF_TX_STUBS 0).setN R.TILL_CF_RX_STUBS 0
    (State.cfPump s3.cf.store stubRoom s3).joinGo

/-- Training of the Counterfoil completes (R255). -/
def execCfTrained (whole : Nat) (s : State) : Res := .next (s.cfTrained whole)

/-- A lane fails retraining: the link runs on the half that is whole, or goes down (R255, R412). failed is the mask of
failed lanes. -/
def execCfLaneFailure (failed : Nat) (s : State) : Res :=
  .next (if s.cfUp then (s.cfLanesSet (cfLanes (s.getF F.TILL_CF_STATE_LANES_UP &&& (255 - failed % 256)))).holdRestart else s)

/-- The link goes down: TILL.P operations that wait for the partner go on waiting (R271). -/
def execCfLinkDown (s : State) : Res := .next ((s.cfLanesSet 0).setF F.TILL_CF_CTL_BUSY 0)

end Sys2Proof.Machine
end

