-- ==== Sys2Proof/Machine/Crier.lean ====
section
/-! DEFINITION. The Parish Register (R469 to R472), the Crier's windows (R473 to R476), counters (R478 to R481), wall time
(R465), operating seconds (R464) and the Replay reel's controls (R483 to R485). -/
namespace Sys2Proof.Machine

/-! ### Records as bytes (R466, R467) -/

/-- FLAGS of a record: CHANNEL, FOUNDING, CONT, COUNT, WALL_VALID. -/
def Rec.flags (r : Rec) (cont : Bool) : Nat :=
  r.chan % 4 + b2n r.founding * 4 + b2n cont * 8 + b2n r.isCount * 16 + b2n (r.wall ≠ 0) * 32

/-- A 64-byte record with its check. -/
def recSeal (l : List Byte) : List Byte := l ++ leBytes 4 (crc32c l)

/-- l cut or filled to n bytes. -/
def cutTo (n : Nat) (l : List Byte) : List Byte := (l ++ List.replicate n 0).take n

/-- A record and its continuations, 64 bytes each. -/
def Rec.frames (r : Rec) : List (List Byte) :=
  let first := leBytes 4 r.seq ++ leBytes 2 r.code ++ leBytes 1 r.source ++ leBytes 1 (r.flags false) ++ leBytes 8 r.reeve ++
    leBytes 8 r.time ++ leBytes 5 (r.wall - 1) ++ leBytes 1 r.wallEpoch ++ leBytes 2 r.body.length ++ leBytes 6 r.detail ++ cutTo 22 r.body
  recSeal first :: (upto (contCount r.body.length)).map (fun i =>
    recSeal (leBytes 4 (r.seq + i + 1) ++ leBytes 2 r.code ++ leBytes 1 r.source ++ leBytes 1 (r.flags true) ++ leBytes 8 r.reeve ++
      cutTo 44 (r.body.drop (22 + 44 * i))))

/-! ### The Register (R469, R470) -/

/-- Drop the oldest records until at most n remain, continuations counted. -/
def keepRecs (n : Nat) : List Rec → List Rec
  | [] => []
  | r :: l => if recsIn (r :: l) ≤ n then r :: l else keepRecs n l

/-- Write a record to the Register (R469): a founding one to the founding area while it has room, everything else to the
circulating area. The first founding record that finds no room raises an ALARM. -/
def State.parishWrite (s : State) (r0 : Rec) : State :=
  let seq := s.getF F.PARISH_STATE_NEXT_SEQ
  let found := foundingCode r0.code
  let r := { r0 with seq := seq, founding := found }
  let s1 := (s.setF F.PARISH_STATE_NEXT_SEQ (seq + r.size)).addN R.PARISH_WRITTEN r.size
  if found = true ∧ s.getF F.PARISH_STATE_FOUNDING_FULL = 0 ∧ recsIn s.obs.founding + r.size ≤ 4096 then
    { s1 with obs := { s1.obs with founding := s1.obs.founding ++ [r] } }.addF F.PARISH_STATE_FOUNDING r.size
  else
    let circ := keepRecs 65536 (s1.obs.circ ++ [r])
    let s2 := { s1 with obs := { s1.obs with circ := circ } }.setN R.PARISH_OLDEST ((circ.head?.map Rec.seq).getD seq)
    if found = true ∧ s.getF F.PARISH_STATE_FOUNDING_FULL = 0 then
      (s2.setF F.PARISH_STATE_FOUNDING_FULL 1).alarm blkPARISH 0 0 seq []
    else s2

/-! ### Windows (R473, R474, R476) -/

/-- Records of a queue that go into a window with some room, in order: what stays, what goes, the room left, and the further
windows a record larger than the window takes. -/
def fillQ (cap : Nat) : List Rec → Nat → List Rec × List Rec × Nat × Nat
  | [], room => ([], [], room, 0)
  | r :: rest, room =>
    if r.size ≤ room ∨ room = cap then
      let (l, o, rm, k) := fillQ cap rest (room - r.size)
      (l, r :: o, rm, k + ((r.size + cap - 1) / cap - 1))
    else (r :: rest, [], room, 0)

/-- TRACE of a window on a path: what goes, and the count and Reeve numbers of what has been dropped since the last GAP. After
drops a GAP takes the place of the next record that would go, which is dropped too (R476). -/
structure TraceFill where
  room : Nat
  out : List Rec
  gapCount : Nat
  gapFirst : Nat
  gapLast : Nat
  displaced : Option Rec
  dropped : Nat

/-- One more dropped. -/
def TraceFill.drop (t : TraceFill) (r : Rec) : TraceFill :=
  { t with gapCount := t.gapCount + 1, gapFirst := if t.gapCount = 0 then r.reeve else t.gapFirst, gapLast := r.reeve, dropped := t.dropped + 1 }

/-- Offer a TRACE record to the window. -/
def TraceFill.offer (gap : Rec) (cap : Nat) (t : TraceFill) (r : Rec) : TraceFill :=
  if room_ok t r then
    if t.gapCount ≠ 0 ∧ t.displaced.isNone = true then
      { t with room := t.room - 1, displaced := some r, gapCount := 0
               out := t.out ++ [{ gap with detail := t.gapCount, body := leBytes 8 t.gapFirst ++ leBytes 8 t.gapLast }] }
    else { t with room := t.room - r.size, out := t.out ++ [r] }
  else
    match t.displaced with
    | some d => if t.gapCount = 0 then (t.drop d).drop r else t.drop r
    | none => t.drop r
where
  /-- Whether the record finds room. -/
  room_ok (t : TraceFill) (r : Rec) : Bool := decide (r.size ≤ t.room) || decide (t.room = cap)

/-- The window's TRACE on a path: a displaced record counts toward the next GAP. -/
def CPath.traceFill (p : CPath) (gap : Rec) (cap room : Nat) : TraceFill :=
  let t := p.traces.foldl (TraceFill.offer gap cap) ⟨room, [], p.gapCount, p.gapFirst, p.gapLast, none, 0⟩
  match t.displaced with
  | some d => if t.gapCount = 0 then t.drop d else t
  | none => t

/-- One window of a path (R473): the path after it, what it carries as ALARM, LOG and TRACE, and TRACE records dropped. first
are records that go before its ALARMs. -/
def CPath.window (p : CPath) (gap : Rec) (cap : Nat) (first : List Rec) : CPath × List Rec × List Rec × Nat :=
  if p.busy ≠ 0 then
    let t := p.traceFill gap cap 0
    ({ p with busy := p.busy - 1, traces := [], gapCount := t.gapCount, gapFirst := t.gapFirst, gapLast := t.gapLast }, first, [], t.dropped)
  else
    let (fl, fo, r1, k1) := fillQ cap first cap
    let (al, ao, r2, k2) := fillQ cap p.alarms r1
    let (ll, lo, r3, k3) := fillQ cap p.logs r2
    let t := p.traceFill gap cap r3
    ({ p with alarms := al, logs := ll, traces := [], busy := k1 + k2 + k3, gapCount := t.gapCount, gapFirst := t.gapFirst, gapLast := t.gapLast },
      fl, fo ++ ao ++ lo ++ t.out, t.dropped)

/-- A record made for one path takes its Crier numbers when it goes: counts and GAPs (R473). -/
def State.madeNumber (s : State) (r : Rec) : Rec × State := if r.isCount = true ∨ r.code = 2 then s.crierNumber r else (r, s)

/-- Count a record delivered. -/
def State.sentCount (s : State) (r : Rec) : State := if r.chan < 3 then s.addN (R.CRIER_SENT + 8 * r.chan) 1 else s

/-- Pinned Carrier-M entries whose session is up (R527). -/
def State.mSessions (s : State) : List Nat :=
  [65536, 65537, 65538, 65539].filter (fun i => (s.peerAt i).used && (s.peerAt i).session ≠ 0)

/-- PUSH of CRIER_STATE: feature 3 accepted and a Carrier-M session up. When it falls the push queue is dropped, and GAP and HUSH
records count the loss (R473, R477). -/
def State.pushRefresh (s : State) : State :=
  let up := s.feat 3 && !s.mSessions.isEmpty
  if up = s.pushUp then s
  else if up then s.setF F.CRIER_STATE_PUSH 1
  else
    let p := s.obs.push
    let t := p.traces.foldl TraceFill.drop ⟨0, [], p.gapCount, p.gapFirst, p.gapLast, none, 0⟩
    let srcs := p.logs.foldl (fun (m : AMap LogSrc) r => m.upd r.source (fun x =>
      { x with suppressing := true, suppressed := x.suppressed + 1, first := if x.suppressed = 0 then r.reeve else x.first, last := r.reeve })) s.obs.srcs
    { s with obs := { s.obs with
        push := { (default : CPath) with gapCount := t.gapCount, gapFirst := t.gapFirst, gapLast := t.gapLast }, srcs := srcs } }.setF
      F.CRIER_STATE_PUSH 0

/-- Deliver to the ring: the oldest of 1,048,576 records are replaced (R473). -/
def State.ringPut (s : State) (r0 : Rec) : State :=
  let (r, s1) := s.madeNumber r0
  ({ s1 with obs := { s1.obs with ring := keepRecs 1048576 (s1.obs.ring ++ [r]) } }).sentCount r

/-- Push to management: every session that is up receives each record as a CRIER message (R358, R473). -/
def State.pushPut (s : State) (r0 : Rec) : State :=
  let (r, s1) := s.madeNumber r0
  (r.frames.foldl (fun s f => s.mSessions.foldl (fun s i => s.carSendAt i 0x1A 0 f .nothing) s) s1).sentCount r

/-- A GAP record's form (R476). -/
def State.gapRec (s : State) : Rec := s.mkRec 2 36 2 0 []

/-- The Register's part of a window: register events, then ALARM, 2 records (R470). all leaves out the rate, as in HOLDUP. -/
def State.parishWindow (s : State) (all : Bool) : State :=
  let cap := if all then recsIn s.obs.regQ + recsIn s.obs.parish.alarms + 1 else 2
  let p := if all then { s.obs.parish with busy := 0 } else s.obs.parish
  let (p1, left, out, _) := p.window s.gapRec cap s.obs.regQ
  let s1 := { s with obs := { s.obs with parish := p1, regQ := left } }
  out.foldl (fun s r => (s.parishWrite r).sentCount r) s1

/-- A 1 ms window of the Crier (R470, R473): the Register, the push path, the ring, and the LOG buckets. -/
def State.crierWindow (s : State) : State :=
  let s1 := s.parishWindow false
  let (pu, _, po, pd) := s1.obs.push.window s1.gapRec 100 []
  let s2 := po.foldl State.pushPut { s1 with obs := { s1.obs with push := pu } }
  let (ri, _, ro, rd) := s2.obs.ringP.window s2.gapRec 10000 []
  let s3 := ro.foldl State.ringPut { s2 with obs := { s2.obs with ringP := ri } }
  let rate := s3.getF F.CRIER_CFG_LOG_RATE
  let refill (p : Nat × LogSrc) : Nat × LogSrc := (p.1, { p.2 with used := p.2.used - rate })
  let srcs := (s3.obs.srcs.map refill).filter (fun p => p.2 ≠ default)
  let s4 := { s3 with obs := { s3.obs with srcs := srcs } }
  (s4.addN R.CRIER_DROPPED (pd + rd)).countEv 0x0E (pd + rd) 16

/-- A window of the Crier ends. -/
def execCrierWindow (s : State) : Res := .next (if s.power = .on ∧ s.mode ≠ .holdup then s.crierWindow else s)

/-- HUSH_S seconds of a suppressed source have passed (R475). -/
def execHushPeriod (source : Nat) (s : State) : Res :=
  let x := s.obs.srcs.get source
  .next (
    if x.suppressing = false then s
    else
      let r0 := s.mkRec 1 source 1 x.suppressed (leBytes 8 x.first ++ leBytes 8 x.last)
      let (r, s1) := s.crierNumber r0
      let y : LogSrc := { x with suppressed := 0, first := 0, last := 0, suppressing := decide (x.suppressed ≠ 0) }
      { s1 with obs := { s1.obs with
          push := if s1.pushUp then { s1.obs.push with logs := s1.obs.push.logs ++ [r] } else s1.obs.push
          ringP := { s1.obs.ringP with logs := s1.obs.ringP.logs ++ [r] }
          srcs := s1.obs.srcs.set source y } }.tick)

/-! ### Snapshots and clearing (R471, R472) -/

/-- PARISH_SNAP_CTL.GO: the area's records from FROM on, at most 65,536, into the path's buffer at one Reeve number. -/
def execParishSnapshot (p : Path) (area from_ : Nat) (s : State) : Res :=
  let s0 := (s.setF F.PARISH_SNAP_CTL_AREA area).setF F.PARISH_SNAP_CTL_FROM from_
  let recs := if area % 2 = 0 then s0.obs.founding else s0.obs.circ
  let fr := ((recs.flatMap Rec.frames).filter (fun f => decide (from_ % 2 ^ 32 ≤ fieldAt f 0 4))).take 65536
  let first := (fr.head?.map (fun f => fieldAt f 0 4)).getD 0
  let s1 := { s0 with obs := { s0.obs with snaps := s0.obs.snaps.set p.num fr } }
  let s2 := ((s1.setF F.PARISH_SNAP_INFO_FIRST first).setF F.PARISH_SNAP_INFO_COPIED fr.length).setN R.PARISH_SNAP_SEQ s.now
  .next (s2.tick.stat F.PARISH_SNAP_CTL_STATUS 0)

/-- PARISH_CLEAR.GO: under a grant, circulating records up to THROUGH go, and CLEARED is written at once (R472). -/
def execParishClearGo (s : State) : Res :=
  let g := s.obs.grant
  let through := fieldAt g 48 4
  let s0 := s.grantUsed
  .next (
    if s.grantOk 0x52414C43 568 = false then s0.stat F.PARISH_CLEAR_STATUS 0x7170
    else
      let keep := s0.obs.circ.filter (fun r => decide (through < r.seq + r.size - 1))
      let last := (s0.obs.circ.filter (fun r => decide (r.seq + r.size - 1 ≤ through))).foldl (fun n r => max n (r.seq + r.size - 1)) 0
      let s1 := { s0 with obs := { s0.obs with circ := keep } }.setN R.PARISH_OLDEST
        ((keep.head?.map Rec.seq).getD (s0.getF F.PARISH_STATE_NEXT_SEQ))
      let s2 := (s1.setN R.PARISH_CLEARED_SEQ s1.now)
      ((s2.parishWrite (s2.mkRec 0x10D (32 + blkPARISH) 3 last (digest 0 g))).tick).stat F.PARISH_CLEAR_STATUS 0)

/-! ### Wall time and operating seconds (R464, R465) -/

/-- REEVE_WALL (R465): WALL_STEP carries the old and the new wall time; an earlier time raises WALL_EPOCH first. -/
def execWallWrite (seconds : Nat) (s : State) : Res :=
  .next (
    if s.feat 1 = false then s.answer 0x7170
    else
      let valid := s.getF F.REEVE_WALL_VALID = 1
      let old := if valid then s.getF F.REEVE_WALL_SECONDS else 0
      let new_ := seconds % 2 ^ 40
      let s1 := if valid ∧ new_ < old then s.addF F.REEVE_WALL_WALL_EPOCH 1 else s
      let s2 := (s1.setF F.REEVE_WALL_VALID 1).setF F.REEVE_WALL_SECONDS new_
      (s2.regEvent blkREEVE 0x10C (s2.getF F.REEVE_WALL_WALL_EPOCH) (leBytes 8 old ++ leBytes 8 new_)).answer 0)

/-- Every 60 s the operating seconds are saved in the secure NVM (R464). -/
def execOpsecSave (s : State) : Res := .next { s with obs := { s.obs with opsecSaved := s.opsec } }

/-! ### Counters (R479 to R481) -/

/-- COUNT_LATCH.GO: every counter, and every cycle count, into its shadow at one Reeve number (R480). R489 gives the cycle
counts' shadows no register. -/
def execCountLatchGo (s0 : State) : Res :=
  let s := { s0 with obs := { s0.obs with cycleShadow := (upto 7).map (fun k => s0.getN (R.COUNT_CYCLES + 8 * k)) } }
  let s1 := (upto 32).foldl (fun s n => s.setF (F.COUNT_P_SHADOW_ALL.win 0x20 n) (s.getF (F.COUNT_P_VALUE_ALL.win 0x20 n))) s
  .next (((s1.setN R.COUNT_LATCH_SEQ s.now).tick).stat F.COUNT_LATCH_STATUS 0)

/-- COUNT_Pn_CFG (R479, R480, R489). -/
def execCountCfgWrite (n : Nat) (v : Word) (s : State) : Res :=
  let i := n % 32
  let g (f : Fld) : Nat := f.get v
  .next (
    if 0x0E < g F.COUNT_P_CFG_EVENT ∨ (g F.COUNT_P_CFG_CHAIN = 1 ∧ i % 2 = 0) then s.stat (F.COUNT_P_CFG_STATUS.win 0x20 i) 0x5180
    else
      let s1 := [F.COUNT_P_CFG_HAND_MASK, F.COUNT_P_CFG_OVF_LOG, F.COUNT_P_CFG_CHAIN, F.COUNT_P_CFG_SAMPLE, F.COUNT_P_CFG_LEVEL,
        F.COUNT_P_CFG_EVENT].foldl (fun s f => s.setF (f.win 0x20 i) (g f)) s
      { s1 with obs := { s1.obs with counts := s1.obs.counts.set i 0 } }.stat (F.COUNT_P_CFG_STATUS.win 0x20 i) 0)

/-- A counter at 2^64 − 1 counts once more (R480). -/
def execCounterWrap (n : Nat) (s : State) : Res :=
  let i := n % 32
  .next (if (s.getF F.COUNT_RUN_VAL).testBit i = true ∧ s.getF (F.COUNT_P_VALUE_ALL.win 0x20 i) = 2 ^ 64 - 1 then s.countAdd i 1 else s)

/-- Samples the ring of 16 MiB holds. -/
def sampleRing : Nat := 262144

/-- A sampling counter has reached its p-th occurrence (R481): the sample names the instruction of the context that caused it
where a Hand's event is counted in EDGE mode. -/
def execCounterSample (n : Nat) (e : Eng) (insn : Nat) (s : State) : Res :=
  let i := n % 32
  let period := s.getF (F.COUNT_P_PERIOD_VAL.win 0x20 i)
  let ev := s.getF (F.COUNT_P_CFG_EVENT.win 0x20 i)
  let ok := s.getF (F.COUNT_P_CFG_SAMPLE.win 0x20 i) = 1 ∧ s.getF (F.COUNT_P_CFG_LEVEL.win 0x20 i) = 0 ∧ 1000 ≤ period ∧
    period ≤ s.obs.counts.get i
  .next (
    if ok then
      let precise := decide (1 ≤ ev) && decide (ev ≤ 3) && decide (e.kind = .hand)
      let c := s.ctx e
      let p (x : Nat) : Nat := if precise then x else 0
      let sseq := s.getN R.COUNT_SAMPLE_HEAD
      let b := leBytes 4 sseq ++ leBytes 1 i ++ leBytes 1 (b2n precise) ++ leBytes 1 (p (e.unit % 16)) ++ leBytes 1 (p (e.ctx % 64)) ++
        leBytes 8 s.now ++ leBytes 8 (s.getF (F.COUNT_P_VALUE_ALL.win 0x20 i)) ++ leBytes 8 (s.getN R.COUNT_CYCLES) ++ leBytes 4 (p c.pc) ++
        leBytes 2 (p c.tag) ++ leBytes 1 (p c.recipe) ++ leBytes 1 (p c.entry) ++ leBytes 4 (p insn) ++ List.replicate 16 0
      let x := recSeal b
      let s1 := s.wrBytes (s.plan.sampleBase + sseq % sampleRing * 64) x
      let s2 := { s1 with obs := { s1.obs with counts := s1.obs.counts.upd i (fun k => k - period)
                                               samples := keepLast sampleRing (s1.obs.samples ++ [x]) } }
      let s3 := (s2.setN R.COUNT_SAMPLE_HEAD (sseq + 1)).tick
      if sampleRing ≤ sseq then s3.addN R.COUNT_SAMPLE_LOST 1 else s3
    else s)

/-! ### Freezing, and the end of a replay (R483, R485) -/

/-- REEVE_REEL_CTL.FREEZE = 1 (R483). -/
def execReelFreeze (s : State) : Res :=
  .next (if s.getF F.REEVE_REEL_CTL_FREEZE = 1 then s.stat F.REEVE_REEL_CTL_STATUS 0
    else
      let s1 := (s.reelMark 1 0).setF F.REEVE_REEL_CTL_FREEZE 1
      { s1 with obs := { s1.obs with reelLostAtFreeze := s1.getN R.REEVE_REEL_LOST } }.stat F.REEVE_REEL_CTL_STATUS 0)

/-- REEVE_REEL_CTL.FREEZE = 0: the reel is the one whose records now stand in memory (`State.reelReload`), and a MARK records the inputs lost meanwhile (R483). -/
def execReelThaw (s : State) : Res :=
  .next (if s.getF F.REEVE_REEL_CTL_FREEZE = 0 then s.stat F.REEVE_REEL_CTL_STATUS 0
    else
      let s1 := s.reelReload.setF F.REEVE_REEL_CTL_FREEZE 0
      (s1.reelMark 2 (s1.getN R.REEVE_REEL_LOST - s1.obs.reelLostAtFreeze)).stat F.REEVE_REEL_CTL_STATUS 0)

/-- A replay ends with a result: back to SERVICE, and the REPLAY_END record (R485). -/
def State.replayEnd (s : State) (result cause : Nat) : State :=
  let s1 := (s.setF F.REEVE_REPLAY_RESULT result).setF F.REEVE_REPLAY_STATE 0
  let body := leBytes 8 (s1.getN R.REEVE_REPLAY) ++ leBytes 8 (s1.getN R.REEVE_REPLAY_AT) ++ leBytes 8 (s1.getN R.REEVE_REPLAY_DIFF)
  ((s1.setMode .service cause).councilArrange).regEvent blkREEVE 0x113 result body

/-- REEVE_REPLAY_CTL.STOP (R485). -/
def execReplayStop (s : State) : Res :=
  .next (if s.mode = .replay then (s.replayEnd 4 0x11).stat F.REEVE_REPLAY_CTL_STATUS 0 else s.stat F.REEVE_REPLAY_CTL_STATUS 0x7170)

/-- Core 2 reaches the end of the replay: result 1 at REEL_LAST, 2 at the first difference, 3 at a gap; how many records, where, and for a
difference the PRIV minors and the offset (R484, R485). -/
def execReplayEnd (result count at_ recorded replayed offset : Nat) (s : State) : Res :=
  .next (
    if s.mode ≠ .replay ∨ result = 0 ∨ 3 < result then s
    else
      let s1 := (s.setF F.REEVE_REPLAY_COUNT count).setN R.REEVE_REPLAY_AT at_
      let s2 := if result = 2 then ((s1.setF F.REEVE_REPLAY_DIFF_RECORDED recorded).setF F.REEVE_REPLAY_DIFF_REPLAYED replayed).setF
          F.REEVE_REPLAY_DIFF_OFFSET offset else s1
      s2.replayEnd result 0x10)

end Sys2Proof.Machine
end

