-- ==== Sys2Proof/Machine/Larder.lean ====
section
/-! DEFINITION. Loads, stores and atomic operations (R62 to R65, R99, R100), the Larder and HBM (R424 to R438).
Memory holds the one value of each byte (R64); the lines record what the Larder holds and which of it is dirty. -/
namespace Sys2Proof.Machine

/-! ### Lines and ways (R424, R426) -/

/-- The line of a global address. -/
def lineOf (a : Nat) : Nat := a / 128
/-- Bank, set and tag of a line. -/
def lineBank (l : Nat) : Nat := l % 32
def lineSet (l : Nat) : Nat := l / 32 % 768
def lineTag (l : Nat) : Nat := l / 32

/-- Key of a way of a line's set. -/
def wayKey (l w : Nat) : Nat := (lineSet l * 32 + lineBank l) * 32 + w

/-- The line a key and its entry stand for. -/
def keyLine (k : Nat) (x : Line) : Nat := x.tag * 32 + k / 32 % 32

/-- The physical way that serves position i of a bank: its own, the spare in its place, or none (R426). -/
def State.wayAt (s : State) (b i : Nat) : Option Nat :=
  if (s.getF (F.LARDER_BANK_RETIRED.at b)).testBit i = false then some i
  else if s.larder.spareFor.get b = i + 1 then some 16
  else none

/-- Physical ways of a bank that are not retired, in rising order. -/
def State.waysFit (s : State) (b : Nat) : List Nat := (upto 17).filter (fun w => (upto 16).any (fun i => s.wayAt b i = some w))

/-- Whether a way is about to be retired. -/
def State.wayGoing (s : State) (b w : Nat) : Bool := s.larder.job = 3 && s.larder.jobBank = b && s.larder.jobWay = w

/-- Serving ways of a bank: the lowest COUNT of those that are fit (R430). -/
def State.waysServing (s : State) (b : Nat) : List Nat :=
  ((s.waysFit b).take (s.getF F.LARDER_WAYS_COUNT)).filter (fun w => !s.wayGoing b w)

/-- The way that holds a line, if any. -/
def State.lineWay (s : State) (l : Nat) : Option Nat :=
  (upto 17).find? (fun w => let x := s.larder.lines.get (wayKey l w); x.valid && x.tag = lineTag l)

/-- Put a way's line. -/
def State.putLine (s : State) (k : Nat) (x : Line) : State := { s with larder := { s.larder with lines := s.larder.lines.set k x } }

/-- One step of a bank's LFSR, x^16 + x^14 + x^13 + x^11 + 1 (R426). -/
def lfsrStep (v : Nat) : Nat :=
  let b := (v + v / 4 + v / 8 + v / 32) % 2
  v / 2 + b * 32768

/-- A bank's LFSR. -/
def State.lfsr (s : State) (b : Nat) : Nat :=
  let v := s.larder.lfsr.get b
  if v ≠ 0 then v - 1 else let x := s.larder.seed ^^^ b; if x = 0 then 1 else x

/-- Whether a way of a line's set is being filled. -/
def State.wayBusy (s : State) (l w : Nat) : Bool := (s.larder.lines.get (wayKey l w)).busy

/-- Step until a position has a serving way whose line is not being filled, at most 16 further times: the LFSR, and the way (R426). -/
def State.wayWalk (s : State) (l : Nat) : Nat → Nat → Nat × Option Nat
  | 0, v => (v, none)
  | n + 1, v =>
    match s.wayAt (lineBank l) (v % 16) with
    | some w => if (s.waysServing (lineBank l)).contains w && !s.wayBusy l w then (v, some w) else State.wayWalk s l n (lfsrStep v)
    | none => State.wayWalk s l n (lfsrStep v)

/-- Whether the Larder allocates: it is enabled and not write-through (R429). -/
def State.larderOn (s : State) : Bool := s.getF F.LARDER_STATE_DISABLED = 0 && !s.larder.writeThrough

/-- Choose the way a fill of a line replaces (R426), and write its old line to HBM where that is dirty (R425). None while every
serving way is busy. -/
def State.wayTake (s : State) (l : Nat) : Option Nat × State :=
  let b := lineBank l
  if (s.waysServing b).all (s.wayBusy l) then (none, s)
  else
    let v := lfsrStep (s.lfsr b)
    let (v2, w) := match (s.waysServing b).find? (fun w => !(s.larder.lines.get (wayKey l w)).valid && !s.wayBusy l w) with
      | some w => (v, some w)
      | none => s.wayWalk l 17 v
    let s1 := { s with larder := { s.larder with lfsr := s.larder.lfsr.set b (v2 + 1) } }
    match w with
    | none => (none, s1)
    | some w =>
      let old := s.larder.lines.get (wayKey l w)
      (some w, (if old.valid ∧ old.dirty then (s1.addN R.LARDER_EVICT_DIRTY 1).countEv 0x05 1 16 else s1).countEv 0x04 1 16)

/-- Allocate a line whose bytes are there at once. -/
def State.lineFill (s : State) (l : Nat) (dirty : Bool) : State :=
  match s.wayTake l with
  | (none, s1) => s1
  | (some w, s1) => s1.putLine (wayKey l w) { valid := true, tag := lineTag l, dirty := dirty }

/-- Take a way for a fill that waits for one. -/
def State.fillTake (s : State) (l : Nat) : State :=
  match s.wayTake l with
  | (none, s1) => s1
  | (some w, s1) => s1.putLine (wayKey l w) { valid := false, tag := lineTag l, dirty := false, busy := true }

/-- A miss starts the fill of a line, 1 for a load, 2 for a store, or joins the one in progress (R425). -/
def State.fillStart (s : State) (l kind : Nat) : State :=
  let put (s : State) (v : Nat) : State := { s with larder := { s.larder with fills := s.larder.fills.set l v } }
  if s.larder.fills.get l ≠ 0 then put s (max kind (s.larder.fills.get l)) else (put s kind).fillTake l

/-- The way that a fill of a line has taken. -/
def State.fillWay (s : State) (l : Nat) : Option Nat :=
  (upto 17).find? (fun w => let x := s.larder.lines.get (wayKey l w); x.busy && x.tag = lineTag l)

/-- Fills of a line's set that wait for a way take one, where one has become free (R426). -/
def State.fillsGo (s : State) (l : Nat) : State :=
  s.larder.fills.foldl (fun s p =>
    if lineBank p.1 = lineBank l ∧ lineSet p.1 = lineSet l ∧ s.fillWay p.1 = none then s.fillTake p.1 else s) s

/-- A write reaches a line the Larder holds: it is dirty, unless the Larder is write-through (R429). -/
def State.lineDirty (s : State) (l w : Nat) : State :=
  if s.larder.writeThrough then s
  else s.putLine (wayKey l w) { valid := true, tag := lineTag l, dirty := true }

/-- A store to a line: a hit dirties it, a miss fetches it and dirties it then; with whole the line is allocated at
once without a fetch, and loses its poison (R425, R431). A store that misses does not hold its context: R56 names the loads alone. -/
def State.lineStore (s : State) (l : Nat) (whole : Bool) : State :=
  let s0 := if whole then { s with larder := { s.larder with poison := s.larder.poison.filter (fun x => x ≠ l) } } else s
  match s0.lineWay l with
  | some w => (s0.addN R.LARDER_HITS 1).lineDirty l w
  | none =>
    if s0.larderOn = false then s0
    else if whole = true ∧ s0.larder.fills.get l = 0 then s0.lineFill l true
    else s0.fillStart l 2

/-- A read of a line by an accelerator or a port: a hit, or a fill. -/
def State.lineRead (s : State) (l : Nat) : State :=
  match s.lineWay l with
  | some _ => s.addN R.LARDER_HITS 1
  | none => if s.larderOn = true ∧ s.larder.fills.get l = 0 then (s.addN R.LARDER_MISSES 1).lineFill l false else s

/-- The lines of a span. -/
def linesOf (a n : Nat) : List Nat := if n = 0 then [] else (upto ((a + n - 1) / 128 + 1 - a / 128)).map (fun i => a / 128 + i)

/-- A span of global memory is written, line by line. -/
def State.spanStore (s : State) (a n : Nat) : State :=
  (linesOf a n).foldl (fun s l => s.lineStore l (decide (a ≤ l * 128) && decide (l * 128 + 128 ≤ a + n))) s

/-- A span is read. -/
def State.spanRead (s : State) (a n : Nat) : State := (linesOf a n).foldl State.lineRead s

/-- Whether a span holds a poisoned line (R431). -/
def State.poisoned (s : State) (a n : Nat) : Bool := (linesOf a n).any (fun l => s.larder.poison.contains l)

/-! ### Global accesses of engines -/

/-- What a global access does once its line is there: kind 0 a load, 1 SWAP, 2 ADD, 3 CAS. A poisoned line kills the
context (R431). -/
def State.globalServe (s : State) (e : Eng) (c : Ctx) (kind rt a n : Nat) (sx : Bool) (v : Word) : State :=
  if s.poisoned a n then (s.putCtx e { c with state := .ready, wait := .nothing }).kill e 0 .poison
  else
    let old := loadVal (s.rdSpN e.unitNo spGLOBAL a n) sx
    let c1 := { (c.wg rt old) with state := .ready, wait := .nothing, pc := c.pc + 4 }
    let write (w : Word) : State :=
      ((s.wrSpN e.unitNo spGLOBAL a (leBytes 8 w.toNat)).lineStore (lineOf a) false)
    let done (t : State) : State :=
      let k := { (t.ctx e) with g := c1.g, state := c1.state, wait := c1.wait, pc := c1.pc, pend := c1.pend, issued := true }
      t.putCtx e k
    match kind with
    | 0 => s.putCtx e c1
    | 1 => done (write v)
    | 2 => done (write (old + v))
    | _ => if old = c.rg rt then done (write v) else s.putCtx e c1

/-- A global load or atomic operation: at once on a hit, or where the Larder does not allocate; otherwise the context
waits for the line (R56, R425). -/
def State.globalGet (s : State) (e : Eng) (c : Ctx) (kind rt a n : Nat) (sx : Bool) (v : Word) : State :=
  let l := lineOf a
  match s.lineWay l with
  | some _ => (s.addN R.LARDER_HITS 1).globalServe e c kind rt a n sx v
  | none =>
    if s.larderOn = false then s.globalServe e c kind rt a n sx v
    else
      (s.fillStart l 1).putCtx e
        { c with state := .waiting, wait := .fill l kind rt a n sx v } |>.yields e

/-- The bytes a store of n bytes writes. -/
def storeBytes (v : Word) (n : Nat) : List Byte := leBytes n v.toNat

/-- LDP: a load from the pocket (R62, R99). -/
def execLdp (e : Eng) (rt ra : GReg) (sz : BitVec 2) (sx : Bool) (off : BitVec 13) (s : State) : Res :=
  .next (s.issue e [ra.toNat] (fun c s =>
    let a := addrOff (c.rg ra.toNat) off
    let n := szBytes sz
    if loadIllegal sz sx then s.trapTake e 0x01 0
    else match pocketTrap e a n false with
    | some t => s.trapTake e t 0
    | none => s.done e (c.wg rt.toNat (loadVal (s.rdSpN e.unitNo spPOCKET a n) sx))))

/-- STP: a store to the pocket (R62, R99). -/
def execStp (e : Eng) (rt ra : GReg) (sz : BitVec 2) (off : BitVec 13) (s : State) : Res :=
  .next (s.issue e [ra.toNat, rt.toNat] (fun c s =>
    let a := addrOff (c.rg ra.toNat) off
    let n := szBytes sz
    match pocketTrap e a n true with
    | some t => s.trapTake e t 0
    | none => (s.wrSpN e.unitNo spPOCKET a (storeBytes (c.rg rt.toNat) n)).done e c))

/-- LDG: a load from global memory (R63, R99). -/
def execLdg (e : Eng) (rt ra : GReg) (sz : BitVec 2) (sx : Bool) (off : BitVec 13) (s : State) : Res :=
  .next (s.issue e [ra.toNat] (fun c s =>
    let a := addrOff (c.rg ra.toNat) off
    let n := szBytes sz
    if loadIllegal sz sx then s.trapTake e 0x01 0
    else match s.globalTrap e a n false with
    | some t => s.trapTake e t 0
    | none => s.globalGet e c 0 rt.toNat a n sx 0))

/-- STG: a store to global memory (R63, R99). -/
def execStg (e : Eng) (rt ra : GReg) (sz : BitVec 2) (off : BitVec 13) (s : State) : Res :=
  .next (s.issue e [ra.toNat, rt.toNat] (fun c s =>
    let a := addrOff (c.rg ra.toNat) off
    let n := szBytes sz
    match s.globalTrap e a n true with
    | some t => s.trapTake e t 0
    | none =>
      let s1 := s.done e c
      (s1.wrSpN e.unitNo spGLOBAL a (storeBytes (c.rg rt.toNat) n)).lineStore (lineOf a) false))

/-- LDD: a load through a descriptor (R54, R99, R529). -/
def execLdd (e : Eng) (rt ra : GReg) (dn : DReg) (sz : BitVec 2) (sx : Bool) (off : BitVec 9) (s : State) : Res :=
  .next (s.issue e [ra.toNat] (fun c s =>
    let d := c.rd dn.toNat
    let o := (c.rg ra.toNat + off.setWidth 64).toNat
    let n := szBytes sz
    if loadIllegal sz sx then s.trapTake e 0x01 0
    else match s.descTrap e c d o n false with
    | some t => s.trapTake e t 0
    | none =>
      if descSpace d = spGLOBAL then s.globalGet e c 0 rt.toNat (descAddr d + o) n sx 0
      else s.done e (c.wg rt.toNat (loadVal (s.rdSpN e.unitNo (descSpace d) (descAddr d + o) n) sx))))

/-- STD: a store through a descriptor (R54, R66, R99, R529). -/
def execStd (e : Eng) (rt ra : GReg) (dn : DReg) (sz : BitVec 2) (off : BitVec 9) (s : State) : Res :=
  .next (s.issue e [ra.toNat, rt.toNat] (fun c s =>
    let d := c.rd dn.toNat
    let o := (c.rg ra.toNat + off.setWidth 64).toNat
    let n := szBytes sz
    match s.descTrap e c d o n true with
    | some t => s.trapTake e t 0
    | none =>
      let s1 := (s.done e c).wrSpN e.unitNo (descSpace d) (descAddr d + o) (storeBytes (c.rg rt.toNat) n)
      if descSpace d = spGLOBAL then s1.lineStore (lineOf (descAddr d + o)) false else s1))

/-- An atomic operation on the aligned word at ra (R65, R100). -/
def State.atom (s : State) (e : Eng) (kind : Nat) (rd ra rb : GReg) : State :=
  s.issue e (if kind = 3 then [ra.toNat, rb.toNat, rd.toNat] else [ra.toNat, rb.toNat]) (fun c s =>
    let a := (c.rg ra.toNat).toNat
    match s.globalTrap e a 8 true with
    | some t => s.trapTake e t 0
    | none => s.globalGet e c kind rd.toNat a 8 false (c.rg rb.toNat))

/-- ATOM SWAP: rd takes the old word, rb is stored (R100). -/
def execAtomSwap (e : Eng) (rd ra rb : GReg) (s : State) : Res := .next (s.atom e 1 rd ra rb)
/-- ATOM ADD: the old word plus rb is stored (R100). -/
def execAtomAdd (e : Eng) (rd ra rb : GReg) (s : State) : Res := .next (s.atom e 2 rd ra rb)
/-- ATOM CAS: rb is stored only where the old word equals rd's value before (R100). -/
def execAtomCas (e : Eng) (rd ra rb : GReg) (s : State) : Res := .next (s.atom e 3 rd ra rb)

/-- FENCE.G: every earlier global access has taken effect by now, in this model of one step an instruction (R65). -/
def execFenceG (e : Eng) (s : State) : Res := .next (s.issue e [] (fun c s => s.done e c))

/-! ### Fills and maintenance (R425 to R430) -/

/-- Whether a line lies in the range under maintenance, and whether it is invalidated. -/
def State.inMaint (s : State) (l : Nat) : Option Bool :=
  match s.larder.maint with
  | some (a, n, inv) => if a ≤ l * 128 ∧ l * 128 < a + n then some inv else none
  | none => none

/-- Serve the contexts that wait for a line. -/
def State.fillServe (s : State) (l : Nat) : State :=
  s.hands.ctxs.foldl (fun s p =>
    match p.2.wait with
    | .fill l2 kind rt a n sx v =>
      let e : Eng :=
        if p.1 < 1024 then handEng p.1
        else if p.1 < 1280 then { kind := .sequencer, unit := p.1 / 64 - 16, ctx := p.1 % 64 }
        else if p.1 < 1536 then { kind := .council, unit := p.1 / 64 - 20, ctx := p.1 % 64 }
        else { kind := .strongroom, unit := 0, ctx := p.1 % 64 }
      if l2 = l ∧ p.2.state = .waiting then s.globalServe e (s.ctx e) kind rt a n sx v else s
    | _ => s) s

/-- A line fill completes (R425, R428): the line stands in the way the fill took, unless that way serves no more. A fill that still
waits for a way cannot complete. -/
def execLarderFillComplete (line : Nat) (s : State) : Res :=
  let f := s.larder.fills.get line
  let way := s.fillWay line
  if f = 0 ∨ (way = none ∧ s.larderOn = true) then .next s
  else
    let s1 := ({ s with larder := { s.larder with fills := s.larder.fills.set line 0 } }.addN R.LARDER_MISSES 1)
    let s2 := match way with
      | none => s1
      | some w => s1.putLine (wayKey line w) (if s1.larderOn && (s1.waysServing (lineBank line)).contains w then
          { valid := true, tag := lineTag line, dirty := decide (f = 2) } else default)
    let s3 := s2.fillServe line
    let s4 := match s3.inMaint line, s3.lineWay line with
      | some inv, some w => s3.putLine (wayKey line w) (if inv then default else { valid := true, tag := lineTag line, dirty := false })
      | _, _ => s3
    .next (s4.fillsGo line)

/-- Clean, or clean and invalidate, the lines that a test picks; a line that is being filled stays for its fill (R428). -/
def State.linesClean (s : State) (inv : Bool) (f : Nat → Line → Bool) : State :=
  (s.larder.lines.filter (fun p => f p.1 p.2 && !p.2.busy)).foldl (fun s p =>
    s.putLine p.1 (if inv then default else { p.2 with dirty := false })) s

/-- LARDER_MAINT_CTL.GO (R427, R437). Each held line is maintained at once; a line being filled when its fill ends. -/
def State.maintGo (s : State) (inv : Bool) : State :=
  let a := s.getF F.LARDER_MAINT_ADDR_VAL
  let n := s.getF F.LARDER_MAINT_LEN_VAL
  let f := F.LARDER_MAINT_CTL_STATUS
  let s0 := s.setF F.LARDER_MAINT_CTL_OP (b2n inv)
  if s.getF F.LARDER_MAINT_CTL_BUSY = 1 then s.stat f 0x8140
  else if a % 128 ≠ 0 ∨ n % 128 ≠ 0 ∨ 1073741824 < n then s0.stat f 0x5140
  else
    let s1 := { s0 with larder := { s0.larder with maint := some (a, n, inv) } }
    let s2 := s1.linesClean inv (fun k x => x.valid && (s1.inMaint (keyLine k x)).isSome)
    ((s2.setF F.LARDER_MAINT_CTL_BUSY 1).setF F.LARDER_MAINT_CTL_DONE 0).stat f 0

/-- CLEAN over the range (R427). -/
def execLarderClean (s : State) : Res := .next (s.maintGo false)
/-- INVALIDATE over the range (R427). -/
def execLarderInvalidate (s : State) : Res := .next (s.maintGo true)

/-- Maintenance has finished its last line, once no line of the range is being filled (R427, R428). -/
def execLarderMaintDone (s : State) : Res :=
  .next (if s.larder.maint.isSome = true ∧ s.larder.fills.all (fun p => (s.inMaint p.1).isNone) = true then
      (({ s with larder := { s.larder with maint := none } }.setF F.LARDER_MAINT_CTL_BUSY 0).setF F.LARDER_MAINT_CTL_DONE 1).setF
        F.LARDER_MAINT_CTL_STATUS 0
    else s)

/-- Start a disable (1), a power-down of ways (2) or a way retirement (3): only one at a time (R429, R430). -/
def State.jobStart (s : State) (job bank way : Nat) : State :=
  { s with larder := { s.larder with job := job, jobBank := bank, jobWay := way } }.setF F.LARDER_CTL_BUSY 1

/-- LARDER_CTL.ENABLE = 0 (R429). -/
def execLarderDisable (s : State) : Res :=
  .next (
    if s.mode ≠ .service ∧ s.mode ≠ .bootstrap then s.stat F.LARDER_CTL_STATUS 0x7140
    else if s.larder.job ≠ 0 then s.stat F.LARDER_CTL_STATUS 0x8140
    else
      let s1 := { s with larder := { s.larder with writeThrough := true } }.jobStart 1 0 0
      (((s1.setF F.LARDER_CTL_ENABLE 0).setF F.LARDER_STATE_WRITE_THROUGH 1).setF F.LARDER_STATE_CLEANING 1).answer 0)

/-- LARDER_CTL.ENABLE = 1: at once, with every line invalid (R429). -/
def execLarderEnable (s : State) : Res :=
  .next (
    if s.larder.job ≠ 0 then s.stat F.LARDER_CTL_STATUS 0x8140
    else if s.getF F.LARDER_STATE_DISABLED = 0 then (s.setF F.LARDER_CTL_ENABLE 1).stat F.LARDER_CTL_STATUS 0
    else
      let s1 := { s with larder := { s.larder with writeThrough := false } }.linesClean true (fun _ _ => true)
      (((s1.setF F.LARDER_CTL_ENABLE 1).setF F.LARDER_STATE_WRITE_THROUGH 0).setF F.LARDER_STATE_DISABLED 0).stat F.LARDER_CTL_STATUS 0)

/-- The capacity with n ways serving in the worst bank: 2 % less for each below 15 (R432). -/
def waysCap (n : Nat) (c : Cap) : Cap :=
  let p := 100 - 2 * (15 - n)
  { c with ingest := c.ingest * p / 100, read := c.read * p / 100 }

/-- Show every bank's serving ways (R437). -/
def State.waysCount (s : State) : State := (upto 32).foldl (fun s b => s.setF (F.LARDER_BANK_SERVING.at b) (s.waysServing b).length) s

/-- LARDER_WAYS.COUNT (R430). -/
def execLarderWaysWrite (count : Nat) (s : State) : Res :=
  let f := F.LARDER_WAYS_STATUS
  let now := s.getF F.LARDER_WAYS_COUNT
  .next (
    if count < 8 ∨ 16 < count then s.stat f 0x5140
    else if s.larder.job ≠ 0 then s.stat f 0x8140
    else if now ≤ count then (s.setF F.LARDER_WAYS_COUNT count).waysCount.stat f 0
    else if s.keepsGuarantee s.toll.cap = true ∧ s.keepsGuarantee (waysCap count s.toll.cap) = false then
      (s.setF F.LARDER_WAYS_RETRY_MS (min 0xFFFF (s.retryGuarantee (waysCap count s.toll.cap)))).stat f 0x2140
    else (((s.setF F.LARDER_WAYS_COUNT count).jobStart 2 0 0).setF F.LARDER_STATE_CLEANING 1).stat f 0)

/-- Start to retire a way. -/
def State.wayRetire (s : State) (b w : Nat) : State := (s.jobStart 3 b w).setF F.LARDER_STATE_CLEANING 1

/-- An automatic retirement: queued behind a job under way (R432, R436). -/
def State.wayFail (s : State) (b w : Nat) : State :=
  if (s.getF (F.LARDER_BANK_RETIRED.at b)).testBit w ∨ s.wayGoing b w = true ∨ s.larder.jobQ.contains (b, w) = true then s
  else if s.larder.job ≠ 0 then { s with larder := { s.larder with jobQ := s.larder.jobQ ++ [(b, w)] } }
  else s.wayRetire b w



/-- A way is out of service: the bank's spare serves in its place, or the bank has one way fewer (R432, R507). -/
def State.wayOut (s : State) (b w : Nat) : State :=
  let fr := F.LARDER_BANK_RETIRED.at b
  let s1 := s.setF fr (setBit (s.getF fr) w true)
  let free := s.larder.spareFor.get b = 0 && w ≠ 16 && (s1.getF fr).testBit 16 = false
  let s2 := if free then
      { s1 with larder := { s1.larder with spareFor := s1.larder.spareFor.set b (w + 1) } }
    else if w = 16 then { s1 with larder := { s1.larder with spareFor := s1.larder.spareFor.set b 0 } }
    else s1
  let s3 := (s2.setF (F.LARDER_BANK_SPARE.at b) 0x1F).spareBook kWay b free
  s3.setF (F.LARDER_BANK_SERVING.at b) (s3.waysServing b).length

/-- The cleaning and invalidating of a job finish (R429, R430, R432): the next queued retirement begins. -/
def execLarderDisableDone (s : State) : Res :=
  let j := s.larder
  if j.job = 0 then .next s
  else
    let s0 := ({ s with larder := { s.larder with job := 0 } }.setF F.LARDER_CTL_BUSY 0).setF F.LARDER_STATE_CLEANING 0
    let s1 :=
      if j.job = 1 then
        ((s0.linesClean true (fun _ _ => true)).setF F.LARDER_STATE_DISABLED 1).setF F.LARDER_CTL_STATUS 0
      else if j.job = 2 then
        (s0.linesClean true (fun k _ => !(s0.waysServing (k / 32 % 32)).contains (k % 32))).waysCount
      else (s0.linesClean true (fun k _ => k / 32 % 32 = j.jobBank && k % 32 = j.jobWay)).wayOut j.jobBank j.jobWay
    .next (match s1.larder.jobQ with
      | [] => s1
      | (b, w) :: r => { s1 with larder := { s1.larder with jobQ := r } }.wayRetire b w)

/-- LARDER_BANK_CTL.RESTORE (R432): only in SERVICE, only after its march test passes. -/
def execLarderWayRestore (way : Nat) (pass : Bool) (s : State) : Res :=
  let b := s.getF F.LARDER_BANK_SEL_VAL
  let s0 := s.setF F.LARDER_BANK_CTL_WAY way
  let f := F.LARDER_BANK_CTL_STATUS.at b
  let fr := F.LARDER_BANK_RETIRED.at b
  .next (
    if 16 < way then s.stat f 0x5140
    else if s.larder.job ≠ 0 then s0.stat f 0x8140
    else if s.mode ≠ .service ∨ (s.getF fr).testBit way = false then s0.stat f 0x7140
    else if pass = false then s0.stat f 0x4140
    else
      let back := s.larder.spareFor.get b = way + 1
      let s1 := s0.setF fr (setBit (s0.getF fr) way false)
      let s2 := if back then
          ({ s1 with larder := { s1.larder with spareFor := s1.larder.spareFor.set b 0 } }.linesClean true
            (fun k _ => k / 32 % 32 = b && k % 32 = 16)).setF (F.LARDER_BANK_SPARE.at b) 16
        else if way = 16 then s1.setF (F.LARDER_BANK_SPARE.at b) 16
        else s1
      (s2.setF (F.LARDER_BANK_SERVING.at b) (s2.waysServing b).length).stat f 0)

/-! ### Errors (R431, R434, R435) -/

/-- Note the last error of the Larder. -/
def State.larderErr (s : State) (kind b w a : Nat) : State :=
  ((((s.setF F.LARDER_LAST_ERR_KIND kind).setF F.LARDER_LAST_ERR_BANK b).setF F.LARDER_LAST_ERR_WAY w).setF
    F.LARDER_LAST_ERR_ADDR a).setN R.LARDER_LAST_ERR_SEQ s.now |>.tick

/-- Poison a line (R431): counted, named by an ALARM. -/
def State.poisonLine (s : State) (l b w : Nat) : State :=
  ({ s with larder := { s.larder with poison := if s.larder.poison.contains l then s.larder.poison else l :: s.larder.poison } }.addN
    R.LARDER_POISON 1).larderErr 3 b w (l * 128) |>.alarm blkLARDER 15 0xF140 0 (leBytes 8 (l * 128))

/-- An ECC error in a way of a set (R431, R432): corrected, filled again, or poisoning a dirty line; an uncorrectable
error, or the 64th corrected one in an operating hour, retires the way. -/
def execLarderEccError (bank set way : Nat) (uncorr : Bool) (s : State) : Res :=
  let b := bank % 32
  let k := (set % 768 * 32 + b) * 32 + way % 17
  let x := s.larder.lines.get k
  let l := keyLine k x
  if x.valid = false then .next s
  else if uncorr then
    let s1 := (s.addF F.LARDER_ECC_UNCORR 1).larderErr 2 b way (l * 128)
    let s2 := if x.dirty then s1.poisonLine l b way else ((s1.putLine k default).addN R.LARDER_MISSES 1).lineFill l false
    .next (s2.wayFail b (way % 17))
  else
    let s1 := (s.addF F.LARDER_ECC_CORR 1).larderErr 1 b way (l * 128)
    let q := b * 32 + way % 17
    let l2 := s1.recent (s1.larder.corr.get q) 3600
    let s2 := { s1 with larder := { s1.larder with corr := s1.larder.corr.set q l2 } }
    let n := (upto 17).foldl (fun n w => n + ((s2.larder.corr.get (b * 32 + w)).filter (fun t => decide (s2.opsec < t + 3600))).length) 0
    let s3 := s2.setF (F.LARDER_BANK_CORR.at b) (min 0xFFFF n)
    .next (if 64 ≤ l2.length then s3.wayFail b (way % 17) else s3)

/-- The channel of a global address, stack × 16 + channel (R433); with one stack it is one of that stack's 16, whose number the
spec does not give: they show as channels 0 to 15 (R445, DESIGN CHOICE, assumption log 24). -/
def hbmChannel (n a : Nat) : Nat :=
  let c := (a / 2 ^ 8 % 32) ^^^ (a / 2 ^ 13 % 32)
  if n = 1 then c % 16 else c

/-- Remap a row of a channel to a spare row (R435): an ALARM once where none is left. -/
def State.rowRemap (s : State) (ch row : Nat) : State :=
  if s.larder.rows.contains (ch, row) then s
  else if s.getF (F.HBM_CH_LEFT.at ch) = 0 then
    (if s.larder.chAlarm.contains ch then s
     else { s with larder := { s.larder with chAlarm := ch :: s.larder.chAlarm } }.alarm blkHBM 0 0 ch [])
  else
    let s1 := { s with larder := { s.larder with rows := s.larder.rows ++ [(ch, row)] } }
    ((s1.setF (F.HBM_CH_LEFT.at ch) (s1.getF (F.HBM_CH_LEFT.at ch) - 1)).satF (F.HBM_CH_USED.at ch)).spareCall kRow ch

/-- An HBM error at an address of a row (R434, R435): counted; an uncorrectable one poisons its line where the Larder
does not hold it, and remaps the row; so does the 16th corrected one in 24 operating hours. -/
def execHbmEccError (addr row : Nat) (uncorr : Bool) (s : State) : Res :=
  let ch := hbmChannel (s.getF F.HBM_STATE_STACKS) addr
  let note (s : State) (kind : Nat) : State :=
    ((s.setF F.HBM_LAST_ERR_KIND kind).setF F.HBM_LAST_ERR_ADDR addr).setN R.HBM_LAST_ERR_SEQ s.now |>.tick
  if uncorr then
    let s1 := note (s.addF F.HBM_ECC_UNCORR 1) 2
    let s2 := if (s1.lineWay (lineOf addr)).isNone then s1.poisonLine (lineOf addr) (lineBank (lineOf addr)) 0x1F else s1
    .next (s2.rowRemap ch row)
  else
    let s1 := (note (s.addF F.HBM_ECC_CORR 1) 1).satF (F.HBM_CH_CORR.at ch)
    let q := ch * 1048576 + row
    let l := s1.recent (s1.larder.rowErr.get q) 86400
    let s2 := { s1 with larder := { s1.larder with rowErr := s1.larder.rowErr.set q l } }
    .next (if 16 ≤ l.length then s2.rowRemap ch row else s2)

/-- A scrub pass over HBM begins (R434); what it finds arrives as HBM errors. -/
def execHbmScrubDue (s : State) : Res := .next { s with larder := { s.larder with scrubAt := s.opsec } }

/-- HBM_ROW_CTL.REMAP of a row in the selected channel (R435, R438). -/
def execHbmRowRemap (row : Nat) (s : State) : Res :=
  let ch := s.getF F.HBM_CH_SEL_VAL
  let f := F.HBM_ROW_CTL_STATUS.at ch
  let s0 := s.setF F.HBM_ROW_CTL_ROW row
  .next (
    if s.getF (F.HBM_ROW_CTL_BUSY.at ch) = 1 then s0.stat f 0x8150
    else if s.getF (F.HBM_CH_LEFT.at ch) = 0 then s0.stat f 0x7150
    else (s0.rowRemap ch row).stat f 0)

end Sys2Proof.Machine
end

