-- ==== Sys2Proof/Machine/Sled.lean ====
section
/-! DEFINITION. Sleds: SLED.OP (R116, R298 to R304), the queue controls of the Sequencers (R119), and the sled
ports (R295, R296, R304, R326). -/
namespace Sys2Proof.Machine

/-! ### SLED.OP at issue -/

/-- The command block of a raw command (R298). -/
structure RawCmd where
  opcode : Nat
  flags : Nat
  commons : Nat
  epoch : Nat
  loc : Nat
  count : Nat
  level : Nat
  aux : Nat
  deriving DecidableEq, Repr, Inhabited

/-- Read a command block of 32 bytes. -/
def parseRaw (l : List Byte) : RawCmd where
  opcode := fieldAt l 0x00 1
  flags := fieldAt l 0x01 1 % 4
  commons := fieldAt l 0x02 2 % 4096
  epoch := fieldAt l 0x04 4
  loc := fieldAt l 0x08 8
  count := fieldAt l 0x10 4
  level := fieldAt l 0x14 1
  aux := fieldAt l 0x18 8

/-- Whether the block is or becomes SLC. -/
def RawCmd.slc (r : RawCmd) : Bool := r.flags.testBit 0

/-- Pages of a block in the command's mode (R293). -/
def RawCmd.pages (r : RawCmd) : Nat := if r.slc then 768 else 3072

/-- The die a command names. -/
def RawCmd.die (r : RawCmd) : Nat := locDieKey r.loc

/-- Whether a class mutates flash (R299). -/
def rawMutates (cls : Nat) : Bool := cls = 2 || cls = 3 || cls = 4

/-- Bytes a class needs in db, 0 where it leaves db unused (R299). -/
def RawCmd.dbLen (r : RawCmd) (cls : Nat) : Nat :=
  if cls = 1 ∨ cls = 2 then r.count * 16448 else if cls = 5 then r.count * 196608 else if cls = 6 then 240 else 0

/-- Whether a command block keeps the row of its class (R298, R299); what stands in reserved fields is ignored (R12). -/
def RawCmd.ok (r : RawCmd) (cls : Nat) : Bool :=
  r.opcode = cls && decide (locSled r.loc < 24) && decide (r.level < 16) &&
    match cls with
    | 1 => decide (1 ≤ r.count) && decide (r.count ≤ 64) && decide (locPage r.loc + r.count ≤ r.pages) && r.aux = 0
    | 2 => decide (1 ≤ r.count) && decide (r.count ≤ 64) && decide (locPage r.loc + r.count ≤ r.pages) && r.aux = 0
    | 3 => r.count = 1 && locPage r.loc = 0 && r.aux = 0
    | 4 => r.count = 1 && locPage r.loc = 0
    | 5 => decide (1 ≤ r.count) && decide (r.count ≤ 16) && locPage r.loc = 0 && r.aux = 0
    | 6 => r.count = 1 && decide (r.aux < 16) && (r.flags.testBit 1 || r.aux = 0)
    | _ => r.count = 0 && r.aux = 0

/-- SLED.OP issues in a class from 1 to 7 (R106, R116). -/
def State.rawIssue (s : State) (e : Eng) (rd : GReg) (da db : DReg) (ra : GReg) (imm cls : Nat) : State :=
  let useDb := cls = 1 || cls = 2 || cls = 5 || cls = 6
  s.accelIssue e rd ra
    (fun c s =>
      let k := locSled (parseRaw (s.viewBytes e.unitNo (c.rd da.toNat))).loc
      { mkAccel .sledOp c rd (some da) (if useDb then some db else none) ra (imm / 8 * 8 + cls) with
        dc := BitVec.ofNat 128 (k + 1), admitted := !s.media.stopped.testBit k
        die := if cls = 7 then 0 else (parseRaw (s.viewBytes e.unitNo (c.rd da.toNat))).die + 1 })
    (e.kind = .sequencer)
    (fun c => ⟨c.rd da.toNat, true, false⟩ :: (if useDb then [⟨c.rd db.toNat, cls = 2, cls ≠ 2⟩] else []))
    (fun c s =>
      let r := parseRaw (s.viewBytes e.unitNo (c.rd da.toNat))
      descLen (c.rd da.toNat) = 32 && r.ok cls && (!useDb || descLen (c.rd db.toNat) = r.dbLen cls) &&
        (cls ≠ 2 || (upto r.count).all (fun i =>
          (s.rdSpN e.unitNo (descSpace (c.rd db.toNat)) (descAddr (c.rd db.toNat) + 16448 * i + 16432) 16).all (fun b => b = 0))))

/-- The slots READ_ENTRY reads: a leaf that inherits from a raw parent is one slot of it, found by its tweak base,
the address of the leaf (R121, R275); any other entry names all its slots. -/
def entryRange (m : BitVec 128) : Nat × Nat :=
  if eKind m = 3 && eInherited m && eSlots m = 16 then (eSlot m + eTweak m % 16, 1) else (eSlot m, eSlots m)

/-- SLED.OP READ_ENTRY issues: Hands only, a grain or leaf entry in da, room for its slots in db (R106, R116). -/
def execSledReadEntry (e : Eng) (rd : GReg) (da db : DReg) (ra : GReg) (imm : BitVec 8) (s : State) : Res :=
  .next (s.accelIssue e rd ra
    (fun c s =>
      let x := entryOf (s.viewBytes e.unitNo (c.rd da.toNat))
      let loc := (s.sheafOf (eCommons x * 2 ^ 33 + eSlot x / 1024)).locs.getD (eSlot x % 1024 / 64) 0
      let k := locSled loc
      { mkAccel .sledOp c rd (some da) (some db) ra (imm.toNat / 8 * 8) with
        dc := BitVec.ofNat 128 (k + 1), admitted := !s.media.stopped.testBit k, die := locDieKey loc + 1 })
    (e.kind = .hand) (fun c => [⟨c.rd da.toNat, true, false⟩, ⟨c.rd db.toNat, false, true⟩])
    (fun c s =>
      let x := entryOf (s.viewBytes e.unitNo (c.rd da.toNat))
      descLen (c.rd da.toNat) = 16 && (eKind x = 1 || eKind x = 3) && decide ((entryRange x).2 * 4096 ≤ descLen (c.rd db.toNat))))

/-- SLED.OP READ issues (R299). -/
def execSledRead (e : Eng) (rd : GReg) (da db : DReg) (ra : GReg) (imm : BitVec 8) (s : State) : Res :=
  .next (s.rawIssue e rd da db ra imm.toNat 1)

/-- SLED.OP PROGRAM issues (R299, R300). -/
def execSledProgram (e : Eng) (rd : GReg) (da db : DReg) (ra : GReg) (imm : BitVec 8) (s : State) : Res :=
  .next (s.rawIssue e rd da db ra imm.toNat 2)

/-- SLED.OP ERASE issues (R299). -/
def execSledErase (e : Eng) (rd : GReg) (da db : DReg) (ra : GReg) (imm : BitVec 8) (s : State) : Res :=
  .next (s.rawIssue e rd da db ra imm.toNat 3)

/-- SLED.OP FOLD issues (R299). -/
def execSledFold (e : Eng) (rd : GReg) (da db : DReg) (ra : GReg) (imm : BitVec 8) (s : State) : Res :=
  .next (s.rawIssue e rd da db ra imm.toNat 4)

/-- SLED.OP TAGSCAN issues (R299). -/
def execSledTagscan (e : Eng) (rd : GReg) (da db : DReg) (ra : GReg) (imm : BitVec 8) (s : State) : Res :=
  .next (s.rawIssue e rd da db ra imm.toNat 5)

/-- SLED.OP LEVELS issues (R299). -/
def execSledLevels (e : Eng) (rd : GReg) (da db : DReg) (ra : GReg) (imm : BitVec 8) (s : State) : Res :=
  .next (s.rawIssue e rd da db ra imm.toNat 6)

/-- SLED.OP OWN issues (R299). -/
def execSledOwn (e : Eng) (rd : GReg) (da db : DReg) (ra : GReg) (imm : BitVec 8) (s : State) : Res :=
  .next (s.rawIssue e rd da db ra imm.toNat 7)

/-! ### Read levels (R315) -/

/-- A READ whose worst codeword uses more than CAL_TRIGGER_PCT of the correction strength calibrates its
group. -/
def State.calTrigger (s : State) (die b worst : Nat) : State :=
  if s.getF (F.SLED_GEOM_ECC_BITS.at (die / 2048)) * s.getF F.STEWARD_CAL_CFG_CAL_TRIGGER_PCT < worst * 100 then s.calibrate die b
  else s

/-! ### Completion of the raw commands (R300 to R303) -/

/-- The port's verdict on a class: all commands in READY and DEGRADED, reads of a FOREIGN sled (R295). -/
def State.portReady (s : State) (sled cls : Nat) : Bool :=
  s.sledIn sled || (s.getF (F.SLED_STATE_STATE.at sled) = 6 && (cls = 1 || cls = 5 || cls = 6))

/-- Completion word of a raw command (R301). env.n counts the pages or blocks done; env.m is the corrected bits
times 256 plus the worst codeword. -/
def rawWord (st level : Nat) (env : Env) : Nat :=
  st + env.n % 256 * 2 ^ 16 + level % 256 * 2 ^ 24 + env.m % 256 * 2 ^ 32 + min (2 ^ 24 - 1) (env.m / 256) * 2 ^ 40

/-- A page of a chunk has programmed: its tag names the sheaf, the chunk and the page (R288); the chunk's last
page completes it (R337). -/
def State.pageDone (s : State) (tag : List Byte) : State :=
  if fieldAt tag 0 2 = 0x7A95 ∧ fieldAt tag 4 2 = 15 ∧ [1, 2, 3, 5, 8].contains (fieldAt tag 2 1) then
    s.chunkDone (fieldAt tag 6 2 % 4096 * 2 ^ 33 + fieldAt tag 8 8) (fieldAt tag 3 1)
  else s

/-- A mutating command has failed or timed out (R301, R304, R321): the block is retired and what it still had to
take goes elsewhere. -/
def State.rawFailed (s : State) (cls : Nat) (r : RawCmd) (cause : Nat) : State :=
  let sled := locSled r.loc
  let b := locBlock r.loc
  let s1 :=
    if cls = 3 then s.setF (F.SLED_ERRORS_ERASE.at sled) (satInc (s.getF (F.SLED_ERRORS_ERASE.at sled)) 65535)
    else s.setF (F.SLED_ERRORS_PROGRAM.at sled) (satInc (s.getF (F.SLED_ERRORS_PROGRAM.at sled)) (2 ^ 32 - 1))
  (s1.retire r.die b cause).retarget r.die b

/-- A list with the bytes at the positions where keep fails read as zero, n bytes long. -/
def zeroed (n : Nat) (keep : Nat → Bool) (l : List Byte) : List Byte := (upto n).map (fun i => if keep i then l.getD i 0 else 0)

/-- What a READ, TAGSCAN or LEVELS writes to db from what the bridge delivers (R300): page records, tag entries or read references, with
their reserved bytes zero; an SLC block fills its first 768 entries, an SLC page entry 0. -/
def RawCmd.dbData (r : RawCmd) (cls : Nat) (l : List Byte) : List Byte :=
  match cls with
  | 1 => (pieces 16448 r.count l).flatMap (fun p =>
      zeroed 16432 (fun _ => true) p ++ [p.getD 16432 0 &&& 3] ++ List.replicate 15 0)
  | 5 => (pieces 196608 r.count l).flatMap (fun b => (pieces 64 3072 b).zipIdx.flatMap (fun p =>
      zeroed 64 (fun i => decide (i < 49) && !(r.slc && decide (768 ≤ p.2))) p.1))
  | _ => (pieces 16 15 l).zipIdx.flatMap (fun p =>
      zeroed 16 (fun i => (decide (i < 2) || (decide (4 ≤ i) && decide (i < 12))) && !(r.slc && p.2 ≠ 0)) p.1)

/-- Completion of a raw command of class 1 to 7. env.status, n, m and data are what the bridge answers. -/
def State.rawDone (s : State) (e : Eng) (o : AccelOp) (env : Env) : Nat × State :=
  let cls := o.imm % 8
  let r := parseRaw (s.viewBytes e.unitNo o.da)
  let sled := locSled r.loc
  let b := locBlock r.loc
  let s0 := s.addN (F.SLED_CMDS_ALL.at sled).addr 1
  let br := s.bridgeOf sled r.commons
  if o.n ≠ 0 then (0x80F1, s0)
  else if s.portReady sled cls = false then (0x80F0, s0)
  else if cls = 7 then
    if r.epoch ≤ br.1 then (0x7050 + br.1 % 2 ^ 32 * 2 ^ 32, s0.ownRefused r.commons r.epoch br.1)
    else if env.status ≠ 0 then 
      (0x7050 + env.n % 2 ^ 32 * 2 ^ 32, (s0.bridgeSet sled r.commons env.n false).ownRefused r.commons r.epoch env.n)
    else (r.epoch * 2 ^ 32, s0.bridgeSet sled r.commons r.epoch true)
  else if rawMutates cls = true ∧ (br.2 = false ∨ br.1 ≠ r.epoch) then (0x7050 + br.1 % 2 ^ 24 * 2 ^ 40, s0.ownLost r.commons br.1)
  else if rawMutates cls = true ∧ env.status = 0x7050 then
    (0x7050 + env.n % 2 ^ 24 * 2 ^ 40, (s0.bridgeSet sled r.commons env.n false).ownLost r.commons env.n)
  else
    let st := env.status
    let n := if st = 0 then (if cls = 4 ∨ cls = 3 ∨ cls = 6 then 1 else r.count) else env.n
    let w := rawWord st r.level { env with n := n }
    match cls with
    | 1 =>
      let s1 := (s0.wrView e.unitNo o.db (r.dbData 1 env.data)).calTrigger r.die b (env.m % 256)
      (w, if st = 0x30F2 then
          (s1.setF (F.SLED_ERRORS_UNCORR.at sled) (satInc (s1.getF (F.SLED_ERRORS_UNCORR.at sled)) 65535)).calibrate r.die b
        else s1)
    | 2 =>
      let tags := (upto n).map (fun i =>
        s.rdSpN e.unitNo (descSpace o.db) (descAddr o.db + 16448 * i + 16384) 48)
      let s1 := tags.foldl State.pageDone s0
      (w, if st = 0x30F0 then s1.rawFailed 2 r 1 else s1)
    | 3 => (w, if st = 0 then s0.blockErased r.die b
               else if st = 0x30F1 then (s0.unerased r.die b).rawFailed 3 r 2 else s0)
    | 4 => (w, if st = 0x30F4 then s0.rawFailed 4 r 1 else s0)
    | _ => (w, s0.wrView e.unitNo o.db (r.dbData cls env.data))

/-! ### READ_ENTRY (R116, R347, R348) -/

/-- The pages an entry's slots lie in, as (position, row), in order (R335). -/
def entryPages (slot n : Nat) : List (Nat × Nat) :=
  ((upto n).map (fun i => ((slot + i) % 1024 / 64, (slot + i) / 4 % 16))).eraseDups

/-- Whether a page of a sheaf cannot be read directly. -/
def Sheaf.pageLost (x : Sheaf) (p : Nat × Nat) : Bool := x.lost.testBit p.1 || x.bad.contains (p.2, p.1)

/-- The missing positions of a row. -/
def Sheaf.missing (x : Sheaf) (r : Nat) : List Nat := (upto 18).filter (fun i => x.pageLost (i, r))

/-- A sheaf as it reads now: chunks on sleds that do not serve are missing too, though they are not lost (R328, R347). -/
def State.sheafSeen (s : State) (x : Sheaf) : Sheaf :=
  { x with lost := (upto 18).foldl (fun m i =>
      if s.sledIn (locSled (x.locs.getD i 0)) then m else setBit m i true) x.lost }

/-- Gather the pages of an entry from what the sleds deliver: 16,384 bytes for a page read directly; the
eighteen pages of its row for one that is reconstructed. -/
def gatherPages (x : Sheaf) : List (Nat × Nat) → List Byte → List ((Nat × Nat) × List Byte)
  | [], _ => []
  | p :: r, l =>
    if x.pageLost p then
      let row := pieces 16384 18 (l.take 294912)
      (p, rowRead 16384 row (x.missing p.2) p.1) :: gatherPages x r (l.drop 294912)
    else (p, l.take 16384) :: gatherPages x r (l.drop 16384)

/-- Whether the rows delivered for reconstruction agree with Q as well as with P (R342). -/
def rowsAgree (x : Sheaf) : List (Nat × Nat) → List Byte → Bool
  | [], _ => true
  | p :: r, l =>
    if x.pageLost p then
      let row := pieces 16384 18 (l.take 294912)
      let d := rowRead 16384 row (x.missing p.2) p.1
      let full := (upto 18).map (fun i => if i = p.1 then d else row.getD i [])
      ((x.missing p.2).length ≠ 1 || rowQ 16384 full = row.getD 17 []) && rowsAgree x r (l.drop 294912)
    else rowsAgree x r (l.drop 16384)

/-- The bytes of slots from gathered pages. -/
def slotBytes (pages : List ((Nat × Nat) × List Byte)) (slot n : Nat) : List Byte :=
  (upto n).flatMap (fun i =>
    let t := (slot + i) % 1024
    match pages.find? (fun p => p.1 = (t / 64, t / 4 % 16)) with
    | some p => (p.2.drop (t % 4 * 4096)).take 4096
    | none => [])

/-- A page stays uncorrectable after its group's calibration and a second read (R316): it counts as missing, its
block is suspect, the Watch takes the sheaf next. -/
def State.pageBad (s : State) (k : Nat) (p : Nat × Nat) : State :=
  let x := s.sheafOf k
  let loc := x.locs.getD p.1 0
  let die := locDieKey loc
  let b := locBlock loc
  let s1 := s.setF (F.SLED_ERRORS_UNCORR.at (locSled loc)) (satInc (s.getF (F.SLED_ERRORS_UNCORR.at (locSled loc))) 65535)
  let d := s1.dieOf die
  let s2 := s1.putDie die { d with blocks := d.blocks.upd b (fun y => { y with suspect := true }) }
  let s3 := s2.putSheaf k { x with bad := x.bad ++ [(p.2, p.1)] }
  let s4 := { s3 with hold := { s3.hold with watchQ := if s3.hold.watchQ.contains k then s3.hold.watchQ else k :: s3.hold.watchQ } }
  (s4.scarRows k).holdRecount (k / 2 ^ 33)

/-- READ_ENTRY completes, or stays outstanding while an uncorrectable page's group is calibrated and the page read once more (R316), or
while it is reconstructed; a page that no member gives, and its row cannot
at present, is 0x3050 (R108). A degraded read raises a LOG and a TRACE (the
example of R477). Slots of a sheaf not yet closed are
read from the Till (R337); a scarred one gives 0x4056 (R348). -/
def State.readEntryDone (s : State) (e : Eng) (o : AccelOp) (env : Env) : Option Nat × AccelOp × State :=
  let m := entryOf (s.viewBytes e.unitNo o.da)
  let c := eCommons m
  let k := c * 2 ^ 33 + eSlot m / 1024
  let x := s.sheafOf k
  let (at_, n) := entryRange m
  let note (s : State) : State := s.putCtx e { s.ctx e with readEntry := (o.db, entryBytes m) :: (s.ctx e).readEntry.filter (fun p => p.1 ≠ o.db) }
  match s.tillRead c at_ n with
  | some d => (some 0, o, note (s.wrView e.unitNo o.db d))
  | none =>
    if o.n ≠ 0 then (some 0x80F1, o, s)
    else if s.scarred m then (some 0x4056, o, s)
    else
      let ps := entryPages (at_ % 1024) n
      let y := s.sheafSeen x
      let lost := ps.filter (fun p => y.pageLost p)
      if lost.any (fun p => decide (2 < (y.missing p.2).length)) then (some 0x3050, o, s)
      else if env.status = 0x30F2 then
        let p := ps.getD env.n (0, 0)
        let loc := y.locs.getD p.1 0
        if o.again then (none, { o with again := false }, s.pageBad k p)
        else (none, { o with again := true }, s.calibrate (locDieKey loc) (locBlock loc))
      else if s.hold.resync.contains c ∧ x.checked = false ∧ rowsAgree y ps env.data = false then
        (some 0x4056, o, ((s.putSheaf k { x with checked := true, bad := x.bad ++ lost.flatMap (fun p =>
          ((upto 18).filter (fun i => !y.pageLost (i, p.2))).map (fun i => (p.2, i))) }).scarRows k))
      else
        let d := slotBytes (gatherPages y ps env.data) at_ n
        let s1 := note (s.wrView e.unitNo o.db d)
        if lost.isEmpty then (some 0, o, s1)
        else (some (2 ^ 16), o, ((s1.addN R.HOLD_DEGRADED_READS 1).log blkHOLD 0 0 0 []).trace blkHOLD 0 0 0 [])

/-- The outstanding SLED.OPs of a port issued before an operation (R297). -/
def State.sledBefore (s : State) (o : AccelOp) : List AccelOp :=
  s.hands.ctxs.flatMap (fun p => p.2.ops.filter (fun x => x.op = .sledOp && x.dc = o.dc && decide (x.id < o.id) && x.n = 0))

/-- Whether an operation is a READ that may suspend another: a PROGRAM, ERASE or FOLD in progress, at most four times (R297). -/
def AccelOp.suspends (o x : AccelOp) : Bool := decide (o.imm % 8 ≤ 1) && rawMutates (x.imm % 8) && decide (x.susp < 4)

/-- Whether a SLED.OP's turn has come (R297): its port's queue of 256 has taken it, and every earlier one to its die has ended or is
suspended for it. One that has timed out ends at once (R304). -/
def State.sledTurn (s : State) (o : AccelOp) : Bool :=
  let l := s.sledBefore o
  o.n ≠ 0 || (decide (l.length < 256) && l.all (fun x => o.die = 0 || x.die ≠ o.die || o.suspends x))

/-- A READ goes ahead of what it suspends. -/
def State.sledSuspend (s : State) (o : AccelOp) : State :=
  let mark (x : AccelOp) : AccelOp :=
    if x.op = .sledOp ∧ x.dc = o.dc ∧ x.id < o.id ∧ x.die = o.die ∧ o.suspends x = true then { x with susp := x.susp + 1 } else x
  if o.imm % 8 ≤ 1 ∧ o.n = 0 then
    { s with hands := { s.hands with ctxs := s.hands.ctxs.map (fun p => (p.1, { p.2 with ops := p.2.ops.map mark })) } }
  else s

/-- Completion of SLED.OP in its turn (R297). A command that was given to a stopped queue waits until the queue is started (R119). -/
def State.sledDone (s : State) (e : Eng) (o : AccelOp) (env : Env) : Option Nat × AccelOp × State :=
  if (o.admitted = false ∧ s.media.stopped.testBit (o.dc.toNat - 1) = true) ∨ s.sledTurn o = false then (none, o, s)
  else
    let s1 := s.sledSuspend o
    if o.imm % 8 = 0 then s1.readEntryDone e o env
    else (some (s1.rawDone e o env).1, o, (s1.rawDone e o env).2)

/-! ### Port states (R295, R296) -/

/-- A port fails with a cause: its members fail (R343), and the SLC buffer is computed anew (R305). -/
def State.portFail (s : State) (k cause : Nat) : State :=
  ((((s.portState k 5).setF (F.SLED_STATE_FAIL_CAUSE.at k) cause).setF (F.SLED_STATE_WIDTH.at k) 0).sledFail k).slcRecompute

/-- SLED_PWREN of this head. -/
def State.sledPower (s : State) (k : Nat) (on : Bool) : State :=
  { s with pins := { s.pins with pwren := setBit s.pins.pwren k on } }

/-- SLED_PERST_N of a port driven low, or released. -/
def State.sledPerst (s : State) (k : Nat) (low : Bool) : State :=
  { s with pins := { s.pins with perst := setBit s.pins.perst k low } }

/-- A sled's presence appears on the sideband: the port is powered (R295). -/
def execSledPresence (sled : Nat) (s : State) : Res :=
  let st := s.getF (F.SLED_STATE_STATE.at sled)
  .next (if sled < s.sledPorts ∧ (st = 0 ∨ (st = 5 ∧ (s.getF F.SLED_FAILED_PRESENT).testBit sled = false)) then
    ((((s.portState sled 1).setF (F.SLED_STATE_FAIL_CAUSE.at sled) 0).setF F.SLED_FAILED_PRESENT
      (setBit (s.getF F.SLED_FAILED_PRESENT) sled true)).sledPower sled true).sledPerst sled true
  else s)

/-- SLED_PERST_N is released 100 ms after power or a reset pulse, and the port trains (R295, R326). -/
def execSledPowerTimer (sled : Nat) (s : State) : Res :=
  .next (if sled < s.sledPorts ∧ s.pins.perst.testBit sled = true ∧ s.pins.pwren.testBit sled = true then
    (s.sledPerst sled false).portState sled 2 else s)

/-- A request of SLED_CTL on a sled ends. -/
def State.sledCtlEnd (s : State) (sled : Nat) : State :=
  s.setF (F.SLED_CTL_BUSY.at sled) 0

/-- A port has trained and its identify data and label are read (R293, R295): READY for the pool's own label,
BLANK for an empty one or for a sled whose members have failed (R343), FOREIGN for another. -/
def State.sledTrained (s : State) (sled width label dies blocks cycles ecc : Nat) (geometry : Bool) : State :=
  if sled < s.sledPorts ∧ s.getF (F.SLED_STATE_STATE.at sled) = 2 then
    let s1 := ((((s.setF (F.SLED_STATE_WIDTH.at sled) (min width s.portWidth)).setF (F.SLED_GEOM_DIES.at sled) dies).setF
      (F.SLED_GEOM_BLOCKS.at sled) blocks).setF (F.SLED_GEOM_CYCLES.at sled) cycles).setF (F.SLED_GEOM_ECC_BITS.at sled) ecc
    if geometry = false ∨ 2048 < dies ∨ 65535 < blocks then (s1.portFail sled 2).sledCtlEnd sled
    else
      let s2 := { s1.setN (F.SLED_LABEL_ALL.at sled).addr label with
        media := { s1.media with labels := s1.media.labels.set sled label } }
      let dead := (s.hold.formed.flatMap (fun c => s.diesOn c sled)).any (fun d => (s.dieOf d).state ≠ 0)
      let st := if label = 0 then 7 else if label ≠ s.getN R.IDENT_POOL then 6 else if dead then 7 else 3
      let s3 := (s2.portState sled st).sledCtlEnd sled
      (s.hold.formed.foldl State.holdRecount s3).slcRecompute
  else s

/-- A port has trained (R295). -/
def execSledTrained (sled width label dies blocks cycles ecc : Nat) (geometry : Bool) (s : State) : Res :=
  .next (s.sledTrained sled width label dies blocks cycles ecc geometry)

/-- A port fails training, or its geometry is not the pool's (R295). -/
def execSledTrainFail (sled : Nat) (geometry : Bool) (s : State) : Res :=
  .next (if sled < s.sledPorts ∧ s.getF (F.SLED_STATE_STATE.at sled) = 2 then
    (s.portFail sled (if geometry then 2 else 1)).sledCtlEnd sled else s)

/-- A lane of an x2 port fails: DEGRADED at x1 with feature 133, else FAILED (R296). -/
def execSledLaneFault (sled : Nat) (s : State) : Res :=
  .next (if sled < s.sledPorts ∧ s.sledIn sled = true then
    if s.getF (F.SLED_STATE_STATE.at sled) = 3 ∧ s.getF (F.SLED_STATE_WIDTH.at sled) = 2 ∧ s.feat 133 = true then
      ((s.setF (F.SLED_STATE_WIDTH.at sled) 1).portState sled 4).spareCall kSledLane sled
    else s.portFail sled 1
  else s)

/-- Every command in flight on a port ends with 0x80F1 when it next completes (R304). -/
def State.portTimeout (s : State) (k : Nat) : State :=
  let mark (o : AccelOp) : AccelOp :=
    if o.op = .sledOp ∧ o.dc = BitVec.ofNat 128 (k + 1) then { o with n := 1 } else o
  { s with hands := { s.hands with ctxs := s.hands.ctxs.map (fun p => (p.1, { p.2 with ops := p.2.ops.map mark })) } }

/-- The mutating commands in flight on a port, as their blocks. -/
def State.portMutating (s : State) (k : Nat) : List (Nat × RawCmd) :=
  s.hands.ctxs.flatMap (fun p => (p.2.ops.filter (fun o =>
    o.op = .sledOp && o.dc = BitVec.ofNat 128 (k + 1) && rawMutates (o.imm % 8) && o.n = 0)).map (fun o =>
      (o.imm % 8, parseRaw (s.viewBytes (p.1 / 64) o.da))))

/-- A raw command has no completion after SLED_TIMEOUT (R304): every command of the port ends, mutating ones
count as failed and their blocks are retired, the port is reset and retrains; a second timeout within an
operating hour fails it. -/
def execSledCmdTimeout (sled : Nat) (s : State) : Res :=
  if sled < s.sledPorts ∧ s.sledIn sled = true then
    let s1 := (s.portMutating sled).foldl (fun s p => s.rawFailed p.1 p.2 5) s
    let recent := (s.media.timeouts.get sled).filter (fun t => decide (s.opsec < t + 3600))
    let s2 := { s1.portTimeout sled with media := { s1.media with timeouts := s1.media.timeouts.set sled (s.opsec :: recent) } }
    let s3 := if recent.isEmpty then (s2.sledPerst sled true).portState sled 2 else s2.portFail sled 3
    .next ((s3.media.folds.filter (fun f => f.die / 2048 = sled)).foldl (fun s f => s.foldEnd f.die 0x80F1 0) s3)
  else .next s

/-- A sled loses presence (R295, R343); the removal raises an ALARM from SLED (the example of R477). -/
def execSledRemoved (sled : Nat) (s : State) : Res :=
  .next (if sled < s.sledPorts ∧ s.getF (F.SLED_STATE_STATE.at sled) ≠ 0 then
    (((s.portTimeout sled).setF F.SLED_FAILED_PRESENT (setBit (s.getF F.SLED_FAILED_PRESENT) sled false)).portFail sled 4).alarm
      blkSLED 0 0 sled []
  else s)

/-! ### SLED_CTL (R326) -/

/-- Whether a sled holds members that are not marked failed. -/
def State.holdsMembers (s : State) (sled : Nat) : Bool :=
  s.poolSleds.contains sled && (s.hold.formed.flatMap (fun c => s.diesOn c sled)).any (fun d => (s.dieOf d).state = 0)

/-- A request of SLED_CTL on the selected sled; one while BUSY is 0x80E0. -/
def State.sledRequest (s : State) (f : Nat → State → State) : State :=
  let k := s.getF F.SLED_SEL_VAL
  if s.sledPorts ≤ k then s
  else if s.getF (F.SLED_CTL_BUSY.at k) = 1 then s.stat (F.SLED_CTL_STATUS.at k) 0x80E0
  else f k s

/-- POWER_OFF: this head's enable goes; refused for a sled holding members. -/
def execSledPowerOff (s : State) : Res :=
  .next (s.sledRequest (fun k s =>
    if s.holdsMembers k then s.stat (F.SLED_CTL_STATUS.at k) 0x70F0
    else ((s.sledPower k false).portState k 0).stat (F.SLED_CTL_STATUS.at k) 0))

/-- POWER_ON: this head's enable is asserted. -/
def execSledPowerOn (s : State) : Res :=
  .next (s.sledRequest (fun k s =>
    let s1 := (s.sledPower k true).stat (F.SLED_CTL_STATUS.at k) 0
    if s.getF (F.SLED_STATE_STATE.at k) = 0 ∧ (s.getF F.SLED_FAILED_PRESENT).testBit k = true then
      ((s1.portState k 1).sledPerst k true).setF (F.SLED_CTL_BUSY.at k) 1 else s1))

/-- RESET: SLED_PERST_N is pulsed for 100 ms, then the port trains; refused for a sled holding members. -/
def execSledReset (s : State) : Res :=
  .next (s.sledRequest (fun k s =>
    if s.holdsMembers k then s.stat (F.SLED_CTL_STATUS.at k) 0x70F0
    else (((s.sledPerst k true).portState k 2).setF (F.SLED_CTL_BUSY.at k) 1).stat (F.SLED_CTL_STATUS.at k) 0))

/-- RETRAIN the selected port. -/
def execSledRetrain (s : State) : Res :=
  .next (s.sledRequest (fun k s => ((s.portState k 2).setF (F.SLED_CTL_BUSY.at k) 1).stat (F.SLED_CTL_STATUS.at k) 0))

/-! ### Queue control of the Sequencers (R119) -/

/-- A privileged operation with ra alone: the minor in imm8, and the engine kind that may use it. -/
def State.privIssue (s : State) (e : Eng) (rd ra : GReg) (minor : Nat) (kind : EngKind) (ok : Ctx → State → Bool) : State :=
  s.accelIssue e rd ra (fun c _ => mkAccel .priv c rd none none ra minor) (e.kind = kind) (fun _ => []) ok

/-- The port SQ.START, SQ.STOP and SQ.WIDTH name exists. -/
def sqPort (ra : GReg) (c : Ctx) : Bool := decide ((c.rg ra.toNat).toNat % 2 ^ 16 < 24)

/-- PRIV SQ.START issues. -/
def execSqStart (e : Eng) (rd ra : GReg) (s : State) : Res :=
  .next (s.privIssue e rd ra 0x01 .sequencer (fun c _ => sqPort ra c))

/-- PRIV SQ.STOP issues. -/
def execSqStop (e : Eng) (rd ra : GReg) (s : State) : Res :=
  .next (s.privIssue e rd ra 0x02 .sequencer (fun c _ => sqPort ra c))

/-- PRIV SQ.WIDTH issues: a lane width of 1, 2 or 4 (R17). -/
def execSqWidth (e : Eng) (rd ra : GReg) (s : State) : Res :=
  .next (s.privIssue e rd ra 0x03 .sequencer (fun c _ =>
    sqPort ra c && [1, 2, 4].contains ((c.rg ra.toNat).toNat / 2 ^ 16 % 16)))

/-- Completion of a queue control: the queue runs or stops, or the port's width changes (R119, R296). SQ.STOP lets the commands
in flight end; what is given to the queue after it waits. DESIGN CHOICE: a queue runs until it is stopped (assumption log
29). -/
def State.sqDone (s : State) (o : AccelOp) : Nat × State :=
  let k := o.ra.toNat % 2 ^ 16
  match o.imm with
  | 1 => (0, { s with media := { s.media with stopped := setBit s.media.stopped k false } })
  | 2 => (0, { s with media := { s.media with stopped := setBit s.media.stopped k true } })
  | _ => (0, s.setF (F.SLED_STATE_WIDTH.at k) (o.ra.toNat / 2 ^ 16 % 16))

end Sys2Proof.Machine
end

