-- ==== Sys2Proof/Machine/Warden.lean ====
section
/-! DEFINITION. The Warden (R490 to R508): grades, the capacity block the Council forms (R150), the bank, heat, clocks, and
tests while work goes on. -/
namespace Sys2Proof.Machine

/-! ### The capacity block (R150, R160) -/

/-- Units that serve: Hands, Press lanes of each kind, Mill cores, Assay data lanes, ways in the worst Larder bank. -/
structure Units where
  hands : Nat
  coders : Nat
  checkers : Nat
  readers : Nat
  cores : Nat
  lanes : Nat
  ways : Nat
  deriving DecidableEq, Repr, Inhabited

/-- The counts in a row, as the Warden notes them while a forced test runs. -/
def Units.list (u : Units) : List Nat := [u.hands, u.coders, u.checkers, u.readers, u.cores, u.lanes, u.ways]

/-- The units of a noted row. -/
def Units.ofList (l : List Nat) : Units :=
  let n (i : Nat) : Nat := l.getD i 0
  ⟨n 0, n 1, n 2, n 3, n 4, n 5, n 6⟩

/-- Serving ways of the worst bank, one bank counted with some ways fewer. -/
def State.worstWays (s : State) (bank less : Nat) : Nat :=
  (upto 32).foldl (fun n b => min n ((s.waysServing b).length - (if b = bank then less else 0))) 17

/-- The units that serve now. -/
def State.units (s : State) : Units where
  hands := s.handCount
  coders := (s.pressLanes 0 0).length
  checkers := (s.pressLanes 1 0).length
  readers := (s.pressLanes 2 0).length
  cores := (s.millCores 0).length
  lanes := s.dataLanes.length
  ways := s.worstWays 32 0

/-- The units left while one of a kind is withdrawn; a spare serves in its place where one is free (R505). -/
def State.unitsLess (s : State) (kind unit : Nat) : Units :=
  let u := s.units
  let lane (k : Nat) : Nat := b2n (kind = kPress && unit / 9 = k && s.getF (F.PRESS_LANE_STATE.at unit) = 0 && (s.pressLanes k 1).isEmpty)
  if kind = kHand then { u with hands := u.hands - b2n (s.handServes unit) }
  else if kind = kPress then { u with coders := u.coders - lane 0, checkers := u.checkers - lane 1, readers := u.readers - lane 2 }
  else if kind = kMill then
    { u with cores := u.cores - b2n (s.getF (F.MILL_CORE_STATE.at unit) = 0 && (s.millCores 1).isEmpty) }
  else if kind = kAssay then { u with lanes := u.lanes - b2n (s.getF (F.ASSAY_LANE_STATE.at unit) = 0) }
  else if kind = kWay then { u with ways := s.worstWays (unit / 32) 1 }
  else u

/-- The thermal cap is in force (R500). -/
def State.thermal (s : State) : Bool := s.getF F.WARDEN_GRADE_THERMAL = 1

/-- INGEST and READ of the grade, the thermal cap and the HBM stacks, in B/s (R445, R491, R500). -/
def State.gradeRates (s : State) : Nat × Nat :=
  let r := match s.grade with
    | 0 => (96000000000, 120000000000)
    | 1 => (48000000000, 60000000000)
    | _ => (0, 10000000000)
  if s.thermal = true ∨ s.getF F.HBM_STATE_STACKS = 1 then (min r.1 48000000000, min r.2 60000000000) else r

/-- Grain data a Press lane moves in B/s (R168, R491, R500). -/
def State.laneRate (s : State) : Nat := if s.grade = 0 && !s.thermal then 20000000000 else 10000000000

/-- Payload rate of the Counterfoil in B/s (R255). -/
def State.mirrorRate (s : State) : Nat :=
  s.getF F.TILL_CF_STATE_LANES * (if s.getF F.TILL_CF_STATE_FULL = 1 then 12500000000 else 6250000000)

/-- The rebuild floor in MB/s, resynchronisation's share of it too (R160, R342, R345). -/
def State.rebuildFloor (s : State) : Nat :=
  let own := s.hold.formed.filter (fun c => s.owns c)
  let part (left due : Fld) (c : Nat) : Nat := s.getF (left.at c) * 4194304 / max 1 (s.getF (due.at c) - s.opsec)
  min (s.getF F.HOLD_CFG_REBUILD_MAX_MB) (own.foldl (fun n c =>
    n + (if s.hold.resync.contains c then
        (s.getF (F.HOLD_CMN_RESYNC_TOCHECK.at c) - s.getF (F.HOLD_CMN_RESYNC_CHECKED.at c)) * 4194304 / max 1 (s.hold.resyncDue.get c - s.opsec)
      else 0) + part F.HOLD_CMN_REBUILD_OTHER F.HOLD_CMN_DUE_SINGLE c + part F.HOLD_CMN_REBUILD_TWOPAGE F.HOLD_CMN_DUE_DOUBLE c) 0 / 1000000)

/-- Free data capacity of the owned commons in host bytes: sixteen of every eighteen raw bytes that hold no live chunk,
less the Granary and the spare reserve (R150, R333). -/
def State.spaceFree (s : State) : Nat :=
  let own := s.hold.formed.filter (fun c => s.owns c)
  let reserve := own.foldl (fun n c => n + (s.spareReserve c * 1000000000 - s.hold.spareUsed.get c)) 0
  (s.rawOf own - s.granaryOf own - s.liveBytes - reserve) * 16 / 18

/-- The capacity block over the units that serve and a flush budget; what only measurement gives is that of the block m
(R88, R150, R160, R170, R191, R212, R255, R305, R310, R432). Where the Mill's limit binds, READ falls first. -/
def State.capOf (s : State) (u : Units) (budget : Nat) (m : Cap) : Cap :=
  let g := s.gradeRates
  let pct (n : Nat) : Nat := n * s.toll.powerPct / 100
  let c0 : Cap := waysCap (min 15 u.ways) (handCap u.hands { m with ingest := pct g.1, read := pct g.2 })
  let i1 := min c0.ingest (min u.coders u.checkers * s.laneRate)
  let i2 := if s.grade = 2 then 0 else i1 - (s.warden.fingerprinted - u.lanes * 6400000000)
  let i3 := if s.mode = .paired ∧ s.cfUp = true then min i2 (s.mirrorRate * 96 / 100) else i2
  let floors := (s.rebuildFloor + m.gleanFloor) * 1000000
  let mill := u.cores * 16000000000 - s.warden.gcm
  let ingest := min (i3 - floors) mill
  let rate := s.getN R.STEWARD_FOLD_RATE
  { m with
    ingest := ingest
    read := min (min c0.read (u.readers * s.laneRate)) (mill - ingest)
    fold := (if rate = 0 then 48000000000 else min 48000000000 rate) * s.sledsServing / 24 -
      (s.rebuildFloor * 1000000 / 16 + m.gleanFloor * 1000000)
    slcFree := s.getN R.STEWARD_SLC_SIZE - s.getN R.STEWARD_SLC_USED
    spaceFree := s.spaceFree
    budget := budget
    rebuildFloor := s.rebuildFloor
    slcSize := s.getN R.STEWARD_SLC_SIZE }

/-- The Council sends a capacity block of the present moment (R150, R163). While a forced test runs, the admitted takes are re-tested
against the block with its unit, and the lowered figures stand for new admissions only (R506). -/
def State.capNow (s : State) : State :=
  let block (u : Units) : Cap := s.capOf u (s.getN R.TILL_BUDGET) s.toll.cap
  if s.power ≠ .on then s
  else
    let s1 : State := { s with toll := { s.toll with due := false } }
    if s.warden.full.isEmpty then s1.tollCap (block s.units)
    else (s1.tollCap (block (Units.ofList s.warden.full))).tollMirror (block s.units)

/-- At least once a second: a capacity block, with what has been measured since: GRANARY_S, RESIDENCE_US, the gleaning
floor in MB/s, the fingerprinted ingest and the Carrier's GCM rate in B/s (R150, R191, R212, R313). The rebuild rate is
measured too (R345). -/
def execCapacityTick (granaryS residence glean fp gcm : Nat) (s : State) : Res :=
  .next (
    if s.power ≠ .on then s
    else
      let done := s.getN R.HOLD_REBUILD_DONE
      let s1 := { s.setN R.HOLD_REBUILD_RATE ((done - s.hold.rebuildMark) * 4194304 / 1000000) with
        warden := { s.warden with fingerprinted := fp, gcm := gcm }, hold := { s.hold with rebuildMark := done }
        toll := { s.toll with cap := { s.toll.cap with granaryS := granaryS, residence := residence, gleanFloor := glean } } }
      s1.capNow)

/-! ### Grades (R490, R491) -/

/-- The power cap in W: the lower of the grade's and the thermal cap (R491, R500). -/
def State.capWatts (s : State) : Nat :=
  let g := match s.grade with | 0 => 165 | 1 => 90 | _ => 45
  if s.thermal then min g 90 else g

/-- A fabric port's links go down (R377). -/
def State.fabricDown (s : State) (p : Nat) : State :=
  let v := s.getN R.FABRIC_LINK
  s.setN R.FABRIC_LINK (v - v / 2 ^ (4 * p) % 16 * 2 ^ (4 * p))

/-- A magazine port is shut by the grade: its tasks end, an ingest stops with cause 3, the port is OFF (R385, R399). -/
def State.magShut (s : State) (p : Nat) : State :=
  if s.magState p = 6 then s
  else
    let s1 := (s.ingStop p 3).magAbortAll p true
    (s1.setF (magF F.MAGPORT_P_LINK_STATE p) 6).setF (magF F.MAGPORT_P_LINK_LANES_UP p) 0

/-- A magazine port the grade opens again: DOWN, and it trains where it is enabled. -/
def State.magOpen (s : State) (p : Nat) : State :=
  if s.magState p = 6 then (s.setF (magF F.MAGPORT_P_LINK_STATE p) 0).magTrain p else s

/-- The grade changes (R490, R491): one Reeve number, the ports it shuts or opens, the Counterfoil's lanes in MINIMAL, and a
capacity block. -/
def State.gradeTo (s : State) (g : Nat) : State :=
  let fell := decide (s.grade < g)
  let s1 := ((((s.setF F.WARDEN_GRADE_GRADE g).setF F.PRESS_STATE_HALF (b2n (g = 1 || (g = 0 && s.thermal)))).setF F.WARDEN_GRADE_SINCE s.opsec).addF
    F.WARDEN_VIN_CHANGES 1).tick
  let s2 := s1.setF F.WARDEN_POWER_CAP s1.capWatts
  let s3 := ((upto 4).filter (fun p => !portOpen g p)).foldl State.fabricDown s2
  let s4 := (upto 4).foldl (fun s p => if portOpen g (0x10 + p) then s.magOpen p else s.magShut p) s3
  let s5 := if g = 2 ∧ s4.cfUp = true then (s4.cfLanesSet 15).setF F.TILL_CF_STATE_FULL 0 else s4
  let s6 := if fell then s5.holdRestart else s5
  s6.capNow

/-- VIN in mV as sampled. -/
def State.vinSet (s : State) (vin : Nat) : State :=
  (s.setF F.WARDEN_VIN_VIN vin).setF F.WARDEN_VIN_LOWEST (min vin (s.getF F.WARDEN_VIN_LOWEST))

/-- VIN has stayed below a downward threshold for 1 ms: each transition in turn (R490). -/
def execGradeFall (vin : Nat) (s : State) : Res :=
  .next (
    if s.power ≠ .on then s
    else
      let s0 := s.vinSet vin
      let s1 := if s0.grade = 0 ∧ vin < 10800 then s0.gradeTo 1 else s0
      if s1.grade = 1 ∧ vin < 6000 then s1.gradeTo 2 else s1)

/-- VIN has stayed at or above an upward threshold for 100 ms (R490). -/
def execGradeRise (vin : Nat) (s : State) : Res :=
  .next (
    if s.power ≠ .on then s
    else
      let s0 := s.vinSet vin
      let s1 := if s0.grade = 2 ∧ 6400 ≤ vin then s0.gradeTo 1 else s0
      if s1.grade = 1 ∧ 11200 ≤ vin then s1.gradeTo 0 else s1)

/-- The Warden's part in entering HOLDUP: a withdrawal is abandoned, a step test ends and its measurement is discarded,
ingests stop with cause 4, outputs are held; a loss of VIN during a start is noted in its ledger (R399, R441, R497,
R506, R514). -/
def State.holdupGo (s : State) (cause : Nat) : State :=
  if s.mode = .holdup then s
  else
    let lost := s.strong.ledger.vinLost || (s.mode = .bootstrap && cause = 0x0C)
    let again := match s.warden.running with | none => [] | some r => [{ r with source := 0, force := false, notBefore := 0 }]
    let s1 := { s.testAbandon with warden := { s.testAbandon.warden with side := none, again := again }
                                   strong := { s.strong with ledger := { s.strong.ledger with vinLost := lost } } }
    let s2 := (upto 4).foldl (fun s p => s.ingStop p 4) s1
    let s3 := (s2.landsHold.setF F.WARDEN_BANK_CTL_BUSY 0).enterHoldup cause
    (upto 8).foldl (fun s p => s.fabricDown (p % 4)) s3

/-- VIN has stayed below 4.4 V for 20 µs (R32, R490, R497, R499): HOLDUP, or, before t0, the bank is bled. -/
def execVinLoss (vin : Nat) (s : State) : Res :=
  let s1 := s.vinSet vin
  .next (match s.power with
    | .on => s1.holdupGo 0x0C
    | .off => s1
    | _ => { s1 with power := .off, warden := { s1.warden with startFrom := 0 }, strong := { s1.strong with reset := false } }.setF F.WARDEN_BANK_STATE 7)

/-- VIN has stayed at or above 4.8 V for 10 ms after a loss: bleeding stops; a module that has stopped comes up again, but
not before it has cooled (R33, R490, R497, R501). -/
def execVinReturn (vin : Nat) (s : State) : Res :=
  .next (
    let s1 := s.vinSet vin
    let s2 := if s1.getF F.WARDEN_BANK_STATE = 7 then s1.setF F.WARDEN_BANK_STATE 0 else s1
    if (s2.power = .off ∨ s2.power = .down) ∧ s2.warden.hotStop = false then { s2 with power := .rising } else s2)

/-- Input power stays above the cap (R492): INGEST and READ fall by 10 % of their grade values. -/
def execPowerCapExceeded (mw : Nat) (s : State) : Res :=
  .next (if s.power ≠ .on then s
    else ((({ s with toll := { s.toll with powerPct := s.toll.powerPct - 10 } }.setF F.WARDEN_POWER_MW mw).setF
      F.WARDEN_POWER_LIMITED 1).capNow))

/-- The draw has stayed below 85 % of the cap for 1 s (R492): they rise by 5 %. -/
def execPowerCapRelax (mw : Nat) (s : State) : Res :=
  .next (if s.power ≠ .on ∨ s.toll.powerPct = 100 then s
    else
      let p := min 100 (s.toll.powerPct + 5)
      ((({ s with toll := { s.toll with powerPct := p } }.setF F.WARDEN_POWER_MW mw).setF F.WARDEN_POWER_LIMITED (b2n (p ≠ 100))).capNow))

/-! ### The bank (R493 to R497) -/

/-- The whole part of a square root, by bisection between lo and hi. -/
def rootOf (n : Nat) : Nat → Nat → Nat → Nat
  | 0, lo, _ => lo
  | k + 1, lo, hi =>
    if hi ≤ lo then lo
    else
      let m := (lo + hi + 1) / 2
      if m * m ≤ n then rootOf n k m hi else rootOf n k lo (m - 1)

/-- V_target in mV for C in 0.1 mF: the lower of 16.0 V and √(2 · 18.0 J ÷ C) (R493). -/
def vTarget (c : Nat) : Nat := if c = 0 then 6000 else rootOf (360000000000 / c) 15 0 16000

/-- The budget follows the bank at once; a change brings a capacity block (R163, R261, R264). -/
def State.bankBudget (s : State) : State :=
  let b := s.budgetNow
  if b = s.getN R.TILL_BUDGET then s else (s.budgetSet b).capNow

/-- C has been measured (R493 to R495): out of range the bank is REFUSED, charging stops and it is bled; in range the
target is fixed. -/
def State.bankMeasured (s : State) (c : Nat) : State :=
  let s1 := (((s.setF F.WARDEN_BANK_MEAS_C c).setN R.WARDEN_BANK_SEQ s.now).tick).bankVolt (s.getF F.WARDEN_BANK_MEAS_V)
  if c < 200 ∨ 2000 < c then
    (((s1.setF F.WARDEN_BANK_STATE 4).setF F.WARDEN_BANK_MEAS_VTARGET 0).alarm blkWARDEN 0 0 c []).bankBudget
  else
    let s2 := s1.setF F.WARDEN_BANK_MEAS_VTARGET (vTarget c)
    (s2.setF F.WARDEN_BANK_STATE (if s2.getF F.WARDEN_BANK_MEAS_V < vTarget c then 2 else 3)).bankBudget

/-- ESR has been measured (R496). -/
def State.esrMeasured (s : State) (esr : Nat) : State :=
  let high := decide (s.getF F.WARDEN_BANK_CFG_ESR_MAX < esr)
  let s1 := (s.setF F.WARDEN_BANK_MEAS_ESR esr).setF F.WARDEN_BANK_ESR_HIGH (b2n high)
  if high = true ∧ s.getF F.WARDEN_BANK_ESR_HIGH = 0 then s1.alarm blkWARDEN 0 0 esr [] else s1

/-- The bank reaches V_target: charging stops (R494). -/
def execBankCharged (s : State) : Res :=
  .next (if s.getF F.WARDEN_BANK_STATE = 2 then
    ((s.setF F.WARDEN_BANK_STATE 3).bankVolt (s.getF F.WARDEN_BANK_MEAS_VTARGET)).bankBudget else s)

/-- A charge has carried the bank through 6.0 V, or with refine through 14.0 V, its window taking dt µs: C is the charge
current times dt over 3.0 V or 4.0 V (R495). -/
def execChargeWindow (refine : Bool) (dt : Nat) (s : State) : Res :=
  .next (if s.getF F.WARDEN_BANK_STATE = 1 ∨ s.getF F.WARDEN_BANK_STATE = 2 then
    (s.bankVolt (if refine then 14000 else 6000)).bankMeasured (s.chargeMa * dt / (if refine then 400000 else 300000)) else s)

/-- A step test is queued: MEAS_H hours have passed (R495, R505). -/
def execBankStepTestDue (s : State) : Res :=
  .next (if s.mode ≠ .holdup ∧ s.getF F.WARDEN_BANK_STATE = 3 then s.queueTest { ownTest kBank 0 false with source := 0 } else s)

/-- WARDEN_BANK_CTL.MEASURE (R495, R508): no bank, a lost one, a flush or a bleed does not permit it. -/
def execBankMeasure (s : State) : Res :=
  .next (
    if s.getF F.WARDEN_BANK_CTL_BUSY = 1 then s.stat F.WARDEN_BANK_CTL_STATUS 0x8190
    else if [0, 5, 6, 7].contains (s.getF F.WARDEN_BANK_STATE) then s.stat F.WARDEN_BANK_CTL_STATUS 0x7190
    else (((s.setF F.WARDEN_BANK_CTL_RETRY_MS 0).setF F.WARDEN_BANK_CTL_BUSY 1).stat F.WARDEN_BANK_CTL_STATUS 0).queueTest
      (ownTest kBank 0 false))

/-- The bank is taken as disconnected (R497, R523): LOST, BUDGET zero at once, ALARM, capacity block. -/
def State.bankLost (s : State) (det : Nat) : State :=
  if s.getF F.WARDEN_BANK_STATE = 5 ∨ s.getF F.WARDEN_BANK_STATE = 0 then s
  else ((s.setF F.WARDEN_BANK_STATE 5).alarm blkWARDEN 0 0 det []).bankBudget

/-- The bank has fallen more than 1.0 V within 1 ms with no step test or HOLDUP (R497). -/
def execBankDisconnect (s : State) : Res :=
  .next (if s.mode = .holdup ∨ (match s.warden.side with | some r => decide (r.kind = kBank) | none => false) = true then s else s.bankLost 0)

/-- HOLD_SENSE has differed from HOLD by more than 0.3 V for 1 ms (R523). -/
def execHoldSenseMismatch (s : State) : Res := .next (if s.mode = .holdup then s else s.bankLost 1)

/-! ### Heat (R500, R501, R434) -/

/-- A 16-bit signed number in 0.1 °C. -/
def tempInt (t : Nat) : Int := if t < 32768 then t else (t : Int) - 65536

/-- The case temperature as read; the highest since start is kept. -/
def State.caseTemp (s : State) (t : Nat) : State :=
  let s1 := s.setF F.WARDEN_TEMP_CASE t
  if tempInt (s.getF F.WARDEN_TEMP_HIGHEST) < tempInt t then s1.setF F.WARDEN_TEMP_HIGHEST t else s1

/-- HBM refresh is doubled under the thermal cap or while a stack is hot (R434). -/
def State.refresh (s : State) : State := s.setF F.HBM_STATE_DOUBLED (b2n (s.thermal || s.larder.tempHot ≠ 0))

/-- The thermal cap applies or lifts (R500). -/
def State.thermalSet (s : State) (on : Bool) : State :=
  let s1 := (s.setF F.WARDEN_GRADE_THERMAL (b2n on)).setF F.PRESS_STATE_HALF (b2n (s.grade = 1 || (s.grade = 0 && on)))
  ((s1.setF F.WARDEN_POWER_CAP s1.capWatts).refresh).capNow

/-- The case has stood at or above +105 °C for 100 ms (R500). -/
def execThermalCapOn (temp : Nat) (s : State) : Res :=
  .next (if s.power = .on ∧ s.thermal = false then (s.caseTemp temp).thermalSet true else s.caseTemp temp)

/-- The case has stood at or below +100 °C for 10 s (R500). -/
def execThermalCapOff (temp : Nat) (s : State) : Res :=
  .next (if s.power = .on ∧ s.thermal = true then (s.caseTemp temp).thermalSet false else s.caseTemp temp)

/-- The case reaches +125 °C: HOLDUP with cause 0x0D, and no start before it has cooled (R500, R501). -/
def execOverTemp (temp : Nat) (s : State) : Res :=
  .next (
    let s1 := s.caseTemp temp
    if s.power = .on ∧ s.mode ≠ .holdup then { s1 with warden := { s1.warden with hotStop := true } }.holdupGo 0x0D else s1)

/-- After an over-temperature HOLDUP the case has come down to +95 °C: the module may start (R498, R501). -/
def execOvertempCooled (temp : Nat) (s : State) : Res :=
  .next (
    let s1 := s.caseTemp temp
    let s2 := { s1 with warden := { s1.warden with hotStop := false } }
    if s1.warden.hotStop = true ∧ (s.power = .down ∨ s.power = .off) ∧ 4800 ≤ s.getF F.WARDEN_VIN_VIN then { s2 with power := .rising } else s2)

/-- The case falls below −55 °C while running: ALARM once (R500, R530). -/
def execCaseTooCold (temp : Nat) (s : State) : Res :=
  .next (
    let s1 := s.caseTemp temp
    if s.power ≠ .on ∨ s.warden.cold = true then s1
    else { s1 with warden := { s1.warden with cold := true } }.alarm blkWARDEN 9 0 temp [])

/-- The HBM stacks report their temperatures: a stack above 85 °C doubles the refresh, both below 80 °C return it (R434). -/
def execHbmStackHot (temp0 temp1 : Nat) (s : State) : Res :=
  .next (
    let hot (t : Nat) : Bool := decide (850 < tempInt t)
    let s1 := (s.setF F.HBM_TEMP_STACK0 temp0).setF F.HBM_TEMP_STACK1 temp1
    let v := if tempInt temp0 < 800 ∧ tempInt temp1 < 800 then 0
      else s.larder.tempHot ||| (b2n (hot temp0) + 2 * b2n (hot temp1))
    ({ s1 with larder := { s1.larder with tempHot := v } }).refresh)

/-! ### Clocks and supply (R504, R523) -/

/-- A PLL is off frequency or out of lock: it is gated while its relock, of at most 50 µs, is under way (R504). PLLs
are numbered CORE, SEQ, COUNCIL, MILL, PRESS, HBM from 5 down, as WARDEN_CLOCKS places them. -/
def execPllFault (pll : Nat) (s : State) : Res :=
  .next (if s.power ≠ .on then s
    else { s with warden := { s.warden with pllAt := s.time + 1 } }.setF F.WARDEN_CLOCKS_LOCKED
      (setBit (s.getF F.WARDEN_CLOCKS_LOCKED) (pll % 6) false))

/-- RTCX is lost: operating seconds derive from AON; ALARM once (R504). -/
def execRtcxLoss (s : State) : Res :=
  .next (if s.getF F.WARDEN_CLOCKS_RTCX = 1 then (s.setF F.WARDEN_CLOCKS_RTCX 0).alarm blkWARDEN 0 0 2 [] else s)

/-- A REFCLK (0 A, 1 B, 2 C) is lost: the links it clocks go down (R502, R504). -/
def execRefclkLoss (ref : Nat) (s : State) : Res :=
  .next (
    if (s.getF F.WARDEN_CLOCKS_REFCLK_C).testBit (ref % 3) = false then s
    else
      let s1 := s.setF F.WARDEN_CLOCKS_REFCLK_C (setBit (s.getF F.WARDEN_CLOCKS_REFCLK_C) (ref % 3) false)
      match ref % 3 with
      | 0 => ((upto 24).filter (fun k => s1.getF (F.SLED_STATE_STATE.at k) = 3 || s1.getF (F.SLED_STATE_STATE.at k) = 4)).foldl
          (fun s k => (s.portTimeout k).portFail k 4) s1
      | 1 => (((upto 4).foldl State.fabricDown s1).cfLanesSet 0).setF F.TILL_CF_CTL_BUSY 0
      | _ => (upto 4).foldl (fun s p => if s.magState p ≠ 0 ∧ s.magState p ≠ 6 then ((s.magTrain p).magDown p 0).ingStop p 2 else s) s1)

/-- VIN exceeds 18.5 V: ALARM once while it does (R523). -/
def execVinAboveRange (vin : Nat) (s : State) : Res :=
  .next (
    let s1 := { s.vinSet vin with warden := { s.warden with overVin := decide (18500 < vin) } }
    if 18500 < vin ∧ s.warden.overVin = false ∧ s.power = .on then s1.alarm blkWARDEN 0 0 vin [] else s1)

/-- The bank has fallen below 4.5 V with VIN absent: the converter stops; outputs and the SPI answer cease (R499, R514). -/
def execConverterStop (s : State) : Res :=
  .next (if 4800 ≤ s.getF F.WARDEN_VIN_VIN then s
    else { s with power := .off, pins := { s.pins with fenceOut := false, pwren := 0, perst := 2 ^ 24 - 1, pgOut := false, misoAnswers := false, ledAlarm := false, heldAt := none } })

/-- 10 s after the last ALARM: line 29 goes dark (R515). -/
def execAlarmLedExpiry (s : State) : Res := .next { s with pins := { s.pins with ledAlarm := false } }

/-! ### Tests and calibrations (R505, R506) -/

/-- Whether a unit of a kind exists (R507). -/
def unitExists (kind unit : Nat) : Bool :=
  (kind = kHand && decide (unit < 16)) || (kind = kMill && decide (unit < 17)) || (kind = kPress && decide (unit < 27)) ||
    (kind = kWay && decide (unit < 17)) || (kind = kSerdes && decide (unit < 11)) || (kind = kCouncil && decide (unit < 3)) ||
    (kind = kAssay && decide (unit < 16)) || (kind = kBank && unit = 0)

/-- Whether a kind runs beside the withdrawal (R506 rule 1). -/
def besideKind (kind : Nat) : Bool := kind = kSerdes || kind = kBank

/-- The UNIT of a test: bits [7:5] are reserved for a Larder way and ignored (R12, R508). -/
def testUnit (kind unit : Nat) : Nat := if kind = kWay then unit % 32 else unit % 256

/-- WARDEN_TEST_CTL.GO (R506, R508). A forced request needs PAIRED, SOLO, SEALED or SERVICE. -/
def execWardenTestGo (kind unit0 : Nat) (force : Bool) (s : State) : Res :=
  let f := F.WARDEN_TEST_CTL_STATUS
  let unit := testUnit kind unit0
  .next (
    if unitExists kind unit = false then s.stat f 0x5190
    else
      let s1 := (s.setF F.WARDEN_TEST_CTL_KIND kind).setF F.WARDEN_TEST_CTL_UNIT unit
      let u := if kind = kWay then s.getF F.LARDER_BANK_SEL_VAL * 32 + unit else unit
      if force = true ∧ [Mode.paired, .solo, .sealedMode, .service].contains s.mode = false then s1.stat f 0x7190
      else ((s1.setF F.WARDEN_TEST_CTL_RETRY_MS 0).stat f 0).queueTest
        { ownTest kind u false with source := 1, force := force })

/-- Whether a unit is out of service for good. -/
def State.unitRetired (s : State) (kind unit : Nat) : Bool :=
  (kind = kHand && (s.getF F.HANDS_SUMMARY_RETIRED).testBit unit) || (kind = kPress && s.getF (F.PRESS_LANE_STATE.at unit) = 3) ||
    (kind = kMill && s.getF (F.MILL_CORE_STATE.at unit) = 3) || (kind = kAssay && s.getF (F.ASSAY_LANE_STATE.at unit) = 3) ||
    (kind = kCouncil && s.coreState unit = 5)

/-- A periodic test or calibration falls due (R505): never of a Council core in SINGLE, and of no group whose spare slice
substitutes for a failed lane. -/
def execPeriodicTestDue (kind unit : Nat) (s : State) : Res :=
  .next (
    if unitExists kind unit = false ∨ kind = kWay ∨ s.mode = .holdup ∨ s.unitRetired kind unit = true ∨
      (kind = kCouncil ∧ s.getF F.COUNCIL_STATE_CONFIG = 2) ∨ (kind = kSerdes ∧ s.getF (F.WARDEN_SERDES_SPARE_FREE.at unit) = 0) then s
    else s.queueTest { ownTest kind unit false with source := 0 })

/-- Four intervals of a kind's periodic work, in µs (R505, R506). -/
def State.fourIntervals (s : State) (kind : Nat) : Nat :=
  let h := 3600000000
  4 * (if kind = kHand then s.getF F.WARDEN_TEST_CFG_HAND_H * h
    else if kind = kPress then s.getF F.WARDEN_TEST_CFG_PRESS_MIN * 60000000
    else if kind = kMill then s.getF F.MILL_KAT_INTERVAL_S * 1000000
    else if kind = kAssay then s.getF F.ASSAY_KAT_INTERVAL_S * 1000000
    else if kind = kCouncil then s.getF F.WARDEN_TEST_CFG_COUNCIL_H * h
    else if kind = kSerdes then s.getF F.WARDEN_TEST_CFG_SERDES_MIN * 60000000
    else s.getF F.WARDEN_BANK_CFG_MEAS_H * h)

/-- The capacity block without a unit (R506 rule 3); a step test takes 20 ms · 1.0 A from the bank (R495). -/
def State.capLess (s : State) (kind unit : Nat) : Cap :=
  let c := s.getF F.WARDEN_BANK_MEAS_C
  let v := s.getF F.WARDEN_BANK_MEAS_V
  let b := if kind = kBank then
      min (s.getN R.TILL_BUDGET) (budgetOf s.bankC (v - (if c = 0 then v else 200000 / c)) s.sledsServing (s.getF F.TILL_BUDGET_CFG_DERATE))
    else s.getN R.TILL_BUDGET
  s.capOf (s.unitsLess kind unit) b s.toll.cap

/-- Put a request of the queue in place of the queue's entries, and recount. -/
def State.testQueueSet (s : State) (q : List TestReq) : State :=
  { s with warden := { s.warden with queue := q } }.setF F.WARDEN_TEST_STATE_QUEUED q.length

/-- A request is deferred (R506 rule 3): the requester's register says so with the retry-after; a periodic test stays
queued until then, and one deferred beyond four of its intervals writes an ALARM. -/
def State.testDefer (s : State) (r : TestReq) (ms : Nat) : State :=
  let q := s.warden.queue.filter (fun x => x ≠ r)
  let s1 := { s.addF F.WARDEN_TEST_STATE_DEFERRED 1 with warden := { s.warden with deferral :=
    (if r.source = 1 ∨ r.kind = kBank then 0x2190 else if r.kind = kHand then 0x2030 else if r.kind = kPress then 0x2080
      else if r.kind = kMill then 0x2090 else 0x20A0, 0x0A, ms) } }
  let own (st ret busy : Fld) (n v : Nat) (s : State) : State := ((s.setF st n).setF ret v).setF busy 0
  let s2 := if r.source = 1 then own F.WARDEN_TEST_CTL_STATUS F.WARDEN_TEST_CTL_RETRY_MS F.WARDEN_TEST_CTL_BUSY 0x2190 ms s1
    else if r.kind = kBank then own F.WARDEN_BANK_CTL_STATUS F.WARDEN_BANK_CTL_RETRY_MS F.WARDEN_BANK_CTL_BUSY 0x2190 ms s1
    else if r.kind = kHand then (s1.setF F.HANDS_RETIRE_STATUS 0x2030).setF F.HANDS_RETIRE_RETRY_MS (min 0xFFFF ms)
    else if r.source ≠ 2 then s1
    else if r.kind = kPress then own F.PRESS_LANE_CTL_STATUS F.PRESS_LANE_CTL_RETRY_MS F.PRESS_LANE_CTL_BUSY 0x2080 (min 0xFFFF ms) s1
    else if r.kind = kMill then own F.MILL_CORE_CTL_STATUS F.MILL_CORE_CTL_RETRY_MS F.MILL_CORE_CTL_BUSY 0x2090 (min 0xFFFF ms) s1
    else own F.ASSAY_LANE_CTL_STATUS F.ASSAY_LANE_CTL_RETRY_MS F.ASSAY_LANE_CTL_BUSY 0x20A0 (min 0xFFFF ms) s1
  if r.source = 1 ∨ r.source = 2 then s2.testQueueSet q
  else
    let s3 := s2.testQueueSet (q ++ [{ r with notBefore := s.time + ms * 1000, deferrals := r.deferrals + 1 }])
    if s.fourIntervals r.kind < s.time - r.due then s3.alarm blkWARDEN 2 0x2190 (r.kind * 256 + r.unit % 256) [] else s3

/-- A unit leaves service for its test. -/
def State.testBegin (s : State) (r : TestReq) : State :=
  let s1 := s.testQueueSet (s.warden.queue.filter (fun x => x ≠ r))
  let s2 := if r.source = 1 then s1.setF F.WARDEN_TEST_CTL_BUSY 1 else s1
  if besideKind r.kind then
    let s3 := { s2 with warden := { s2.warden with side := some r } }
    if r.kind = kBank then s3.setF F.WARDEN_BANK_STATE 1
    else (s3.setF (F.WARDEN_SERDES_LANE.at r.unit) (s3.getF (F.WARDEN_SERDES_RECALS.at r.unit) % 8)).setF (F.WARDEN_SERDES_SPARE_FREE.at r.unit) 0
  else
    let s3 := ({ s2 with warden := { s2.warden with running := some r } }.setF F.WARDEN_TEST_STATE_KIND r.kind).setF
      F.WARDEN_TEST_STATE_UNIT r.unit
    if r.kind = kHand then (if s3.handServes r.unit then s3.handWithdraw r.unit else s3)
    else if r.kind = kPress then s3.pressWithdraw r.unit
    else if r.kind = kMill then s3.millWithdraw r.unit
    else if r.kind = kAssay then s3.assayWithdraw r.unit
    else if r.kind = kCouncil then s3.councilWithdraw r.unit
    else s3.linesClean true (fun k _ => k / 32 % 32 = r.unit / 32 && k % 32 = r.unit % 32)

/-- Whether a queued request may start now: its time has come, nothing of its sort runs, and for a Hand no other
drains. -/
def State.testReady (s : State) (r : TestReq) : Bool :=
  decide (r.notBefore ≤ s.time) && (if besideKind r.kind then s.warden.side.isNone else s.warden.running.isNone) &&
    (r.kind ≠ kHand || s.hands.drain = none)

/-- The next queued test (R506): it passes the guarantee check and its unit is withdrawn, or it is deferred. A forced one
skips the check, and the lowered figures hold for new admissions only. -/
def execTestWithdrawal (s : State) : Res :=
  .next (
    if s.mode = .holdup ∨ s.power ≠ .on then s
    else match s.warden.queue.find? (fun r => s.testReady r) with
      | none => s
      | some r =>
        let c := s.capLess r.kind r.unit
        if r.force then
          { s.tollMirror c with warden := { s.warden with full := s.units.list } }.testBegin r
        else if s.keepsGuarantee s.toll.cap = true ∧ s.keepsGuarantee c = false then s.testDefer r (s.retryGuarantee c)
        else s.testBegin r)


/-- A unit's test ends: it returns, or is retired by its own chapter's rules. -/
def State.unitDone (s : State) (r : TestReq) (pass : Bool) : State :=
  if r.kind = kHand then (if s.unitRetired kHand r.unit then s else s.handTestDone r.unit pass)
  else if r.kind = kPress then s.pressTestDone r pass
  else if r.kind = kMill then s.millTestDone r pass
  else if r.kind = kAssay then s.assayTestDone r pass
  else if r.kind = kCouncil then s.councilTestDone r pass
  else if pass then s else s.wayFail (r.unit / 32) (r.unit % 32)

/-- A test ends (R506): beside runs the calibration or step test, otherwise the withdrawal. Requests for the same unit
complete with its result. c, esr and v are what a step test measured: 0.1 mF, 0.1 mΩ, mV. -/
def execUnitTestDone (beside pass : Bool) (c esr v : Nat) (s : State) : Res :=
  .next (
    if beside then
      match s.warden.side with
      | none => s
      | some r =>
        let s1 := { s with warden := { s.warden with side := none } }
        let s2 := if r.kind = kBank then
            let m := ((s1.bankVolt v).esrMeasured esr).bankMeasured c
            if r.source = 2 then (m.setF F.WARDEN_BANK_CTL_BUSY 0).setF F.WARDEN_BANK_CTL_STATUS 0 else m
          else
            let n := s1.addF (F.WARDEN_SERDES_RECALS.at r.unit) 1
            if pass then (n.setF (F.WARDEN_SERDES_LANE.at r.unit) 0xFF).setF (F.WARDEN_SERDES_SPARE_FREE.at r.unit) 1
            else (n.spareCall kSerdes r.unit).log blkWARDEN 0 0 (kSerdes * 256 + r.unit) []
        s2.testNoted r pass
    else
      match s.warden.running with
      | none => s
      | some r =>
        if (r.kind = kHand ∧ (s.getF F.HANDS_SUMMARY_WITHDRAWN).testBit r.unit = false ∧ s.unitRetired kHand r.unit = false) ∨
            (r.kind = kPress ∧ s.getF (F.PRESS_LANE_STATE.at r.unit) = 4) ∨
            (r.kind = kMill ∧ s.getF (F.MILL_CORE_STATE.at r.unit) = 4) then s
        else
          let same := s.warden.queue.filter (fun x => x.kind = r.kind && x.unit = r.unit && x.restore = r.restore && decide (x.source < 3))
          let s1 := ({ s with warden := { s.warden with running := none, full := [] } }.testQueueSet
            (s.warden.queue.filter (fun x => !same.contains x))).testIdle
          let s2 := (s1.unitDone r pass).testNoted r pass
          (same.foldl (fun s x => if x.source = 1 then s.testNoted x pass else if x.source = 2 then s.unitDone x pass else s) s2).capNow)

/-! ### Retirements that management asks for (R90, R166, R190, R208, R224, R432) -/

/-- The guarantee check before a retirement (R166): the retry-after where the takes admitted now would no longer pass without
the unit. -/
def State.retireDefers (s : State) (kind unit : Nat) : Option Nat :=
  let c := s.capLess kind unit
  if s.keepsGuarantee s.toll.cap = true ∧ s.keepsGuarantee c = false then some (s.retryGuarantee c) else none

/-- A request of management is deferred for the guarantee (R166): the status, reason 0x0A and the retry-after. -/
def State.deferred (s : State) (st : Fld) (ret : Fld) (n : Status) (ms : Nat) : State :=
  { (s.stat st n).setF ret (min 0xFFFF ms) with warden := { s.warden with deferral := (n, 0x0A, ms) } }

/-- PRESS_LANE_CTL.RETIRE (R190): cause 0x01; fewer than four lanes of the kind left is 0x7081; deferred where a guarantee
needs the lane (R166). -/
def execPressLaneRetire (s : State) : Res :=
  .next (s.pressRequest (fun l s =>
    if s.getF (F.PRESS_LANE_STATE.at l) = 3 then s.stat F.PRESS_LANE_CTL_STATUS 0
    else if s.pressLeft l < 4 then s.stat F.PRESS_LANE_CTL_STATUS 0x7081
    else match s.retireDefers kPress l with
    | some ms => s.deferred F.PRESS_LANE_CTL_STATUS F.PRESS_LANE_CTL_RETRY_MS 0x2080 ms
    | none => (s.pressRetire l 1).stat F.PRESS_LANE_CTL_STATUS 0))

/-- MILL_CORE_CTL.RETIRE: cause 0x01; fewer than 12 cores serving is 0x7090 (R208); deferred where a guarantee needs the core
(R166). -/
def execMillCoreRetire (s : State) : Res :=
  .next (s.millRequest (fun c s =>
    if s.getF (F.MILL_CORE_STATE.at c) = 3 then s.stat F.MILL_CORE_CTL_STATUS 0
    else if s.millLeft c < 12 then s.stat F.MILL_CORE_CTL_STATUS 0x7090
    else match s.retireDefers kMill c with
    | some ms => s.deferred F.MILL_CORE_CTL_STATUS F.MILL_CORE_CTL_RETRY_MS 0x2090 ms
    | none => (s.millRetire c 1).stat F.MILL_CORE_CTL_STATUS 0))

/-- ASSAY_LANE_CTL.RETIRE: cause 0x01; fewer than 12 data lanes left is 0x70A0 (R224); deferred where a guarantee needs the
lane (R166). -/
def execAssayLaneRetire (s : State) : Res :=
  .next (s.assayRequest (fun l s =>
    if s.getF (F.ASSAY_LANE_STATE.at l) = 3 then s.stat F.ASSAY_LANE_CTL_STATUS 0
    else if s.assayLeft ≤ 12 then s.stat F.ASSAY_LANE_CTL_STATUS 0x70A0
    else match s.retireDefers kAssay l with
    | some ms => s.deferred F.ASSAY_LANE_CTL_STATUS F.ASSAY_LANE_CTL_RETRY_MS 0x20A0 ms
    | none => (s.assayRetire l 1).stat F.ASSAY_LANE_CTL_STATUS 0))

/-- LARDER_BANK_CTL.RETIRE of the selected bank's WAY (R432); deferred where a guarantee needs the way (R166): R437 gives that no
status, and the model answers 0x2140, the one R430 gives a lower way count (DESIGN CHOICE, assumption log 24). -/
def execLarderWayRetire (way : Nat) (s : State) : Res :=
  let b := s.getF F.LARDER_BANK_SEL_VAL
  let s0 := s.setF F.LARDER_BANK_CTL_WAY way
  let f := F.LARDER_BANK_CTL_STATUS.at b
  let spare := s.larder.spareFor.get b = 0 && (s.getF (F.LARDER_BANK_RETIRED.at b)).testBit 16 = false
  .next (
    if 16 < way then s.stat f 0x5140
    else if s.larder.job ≠ 0 then s0.stat f 0x8140
    else if (s.waysFit b).contains way = false ∨ ((s.waysFit b).length < 13 ∧ (spare = false ∨ way = 16)) then s0.stat f 0x7140
    else match s0.retireDefers kWay (b * 32 + way) with
    | some ms => { s0.stat f 0x2140 with warden := { s0.warden with deferral := (0x2140, 0x0A, ms) } }
    | none => (s0.wayRetire b way).stat f 0)

/-! ### Units that fail while another is under test (R506) -/

/-- A unit fails: its own test ends with it, and the test of another unit that is withdrawn is abandoned. -/
def State.unitFailed (s : State) (kind unit : Nat) : State :=
  match s.warden.running with
  | some r => if r.kind = kind ∧ r.unit = unit then s.testLost r else s.testAbandon
  | none => s

/-- A Press lane fails during an operation (R188). -/
def execPressLaneFailure (lane : Nat) (s : State) : Res := .next ((s.unitFailed kPress lane).pressLaneFail lane)

/-- A Mill core fails mid-unit (R206). -/
def execMillCoreFailure (core : Nat) (s : State) : Res := .next ((s.unitFailed kMill core).millCoreFail core)

/-- An Assay data lane fails (R212). -/
def execAssayLaneFailure (lane : Nat) (s : State) : Res := .next ((s.unitFailed kAssay lane).assayLaneFail lane)

end Sys2Proof.Machine
end

