-- ==== Sys2Proof/Machine/Start.lean ====
section
/-! DEFINITION. Power, start and restart: t0, the boot ledger (R441 to R445), module reset and warm restart, the end of
HOLDUP, the mode requests that restart or replay, and rolling updates (R458). -/
namespace Sys2Proof.Machine

/-! ### What a start keeps -/

/-- Registers a start keeps, the blocks retired "since start" at zero (R325); while a roll runs, its registers too. -/
def State.keptRegs (s : State) : AMap Word :=
  (s.hold.formed.foldl (fun s c => s.setF (F.STEWARD_CMN_GROWN_BAD_START.at c) 0) s).regs.filter (fun p => nvmKept p.1 || (s.strong.rolling && (p.1 = R.STRONG_ROLL_CTL || p.1 = R.STRONG_ROLL_STATE)))

/-- The boards a start leaves: nothing driven (R514). -/
def Pins.resting (p : Pins) : Pins :=
  { p with fenceOut := false, pwren := 0, perst := 2 ^ 24 - 1, pgOut := false, misoAnswers := false, ledAlarm := false, heldAt := none }

/-- What the Register, the Reeve and the operating seconds keep in the secure NVM. -/
def Obs.kept (o : Obs) : Obs :=
  { (default : Obs) with reserved := o.reserved, opsecSaved := o.opsecSaved, founding := o.founding, circ := o.circ
                         foundingFullAlarm := o.foundingFullAlarm }

/-- What the secure NVM keeps of the Strongroom. -/
def Strong.kept (x : Strong) : Strong :=
  { x with blockBuf := [], keyBuf := [], keyOut := [], keyBack := 0, nonce := [], nonceAt := 0, quote := [], rollTask := 0
           rollPhase := 0, partnerFw := 0, partnerSerial := 0, partnerPool := 0, boot := default, negotiated := false }

/-- What a link's configuration keeps of it: its base, or what it has presented. -/
def Link.kept (l : Link) : Link :=
  { (default : Link) with base := l.base, target := l.target, tgtVol := l.tgtVol, heldEpoch := l.heldEpoch, arrayNo := l.arrayNo }

/-- The head after module reset: every register and every part at reset but what the secure NVM, the pool's labels and the
board hold (assumption log 36). The queue of commands and the wires are the surroundings'. -/
def State.restart (s : State) : State :=
  { State.reset with
    regs := s.keptRegs
    pending := s.pending
    outbox := s.outbox
    freeCtr := s.freeCtr
    power := s.power
    reply := s.reply
    obs := s.obs.kept
    hands := { (default : Hands) with recipes := s.hands.recipes, versions := s.hands.versions, uncorr := s.hands.uncorr, corr := s.hands.corr }
    docket := { (default : Docket) with vols := s.docket.vols }
    pins := s.pins.resting
    larder := { (default : Larder) with seed := (if s.power = .on then s.getF F.LARDER_CTL_SEED else s.larder.seed), spareFor := s.larder.spareFor, corr := s.larder.corr, rows := s.larder.rows, rowErr := s.larder.rowErr }
    press := { (default : Press) with everSet := s.press.everSet, transient := s.press.transient, drain := s.press.drain }
    warden := { (default : Warden) with exhausted := s.warden.exhausted, hotStop := s.warden.hotStop, again := s.warden.again }
    hold := { (default : Hold) with formed := s.hold.formed, epoch := s.hold.epoch, tableSeq := s.hold.tableSeq, scars := s.hold.scars
                                    spareUsed := s.hold.spareUsed }
    sieve := { (default : Sieve) with counters := s.sieve.countersTop, countersTop := s.sieve.countersTop, buckets := s.sieve.buckets
                                      links := s.sieve.links.map (fun p => (p.1, p.2.kept)) }
    media := { (default : Media) with dies := s.media.dies, labels := s.media.labels, bridge := s.media.bridge, levels := s.media.levels
                                      calAt := s.media.calAt, fillOrder := s.media.fillOrder }
    car := { (default : Car) with nextEpoch := s.car.topEpoch, topEpoch := s.car.topEpoch, iv := s.car.ivTop, ivTop := s.car.ivTop }
    pair := { (default : Pair) with dissents := s.pair.dissents, drillAt := s.pair.drillAt }
    strong := s.strong.kept }

/-- What a warm restart leaves running: the registers, the Reeve, the Register and the NVM; the engines, queues, sessions
and links start again (R32, R35, R456). -/
def State.warmed (s : State) : State :=
  { s with
    hands := { (default : Hands) with recipes := s.hands.recipes, versions := s.hands.versions, uncorr := s.hands.uncorr, corr := s.hands.corr }
    docket := { (default : Docket) with vols := s.docket.vols, errCount := s.docket.errCount }
    toll := { s.toll with takes := [], solo := none, waiting := [] }
    mag := default
    press := { s.press with closing := [], jobs := [] }
    mill := { s.mill with clear := [], msgs := [], busy := [] }
    assay := { s.assay with held := [], busy := false, data := [] }
    warden := { s.warden with queue := [], running := none, side := none }
    sieve := { s.sieve with recs := [], pendingFp := [], building := [], snaps := [], barrier := [], links := s.sieve.links.map (fun p => (p.1, p.2.kept)) }
    cf := default
    till := default
    stew := default
    hold := { s.hold with sheaves := [], nextSheaf := [], frontier := [], resync := [], watchQ := [], watchNow := [] }
    car := { (default : Car) with nextEpoch := s.car.nextEpoch, topEpoch := s.car.topEpoch, iv := s.car.iv, ivTop := s.car.ivTop }
    pair := { (default : Pair) with dissents := s.pair.dissents, drillAt := s.pair.drillAt }
    strong := { s.strong with rollTask := 0, rollPhase := s.strong.rollPhase, partnerFw := 0, partnerSerial := 0, partnerPool := 0 } }

/-! ### The boot ledger (R441 to R444) -/

/-- Optional steps (R442). -/
def optionalStep (n : Nat) : Bool := [13, 15, 16, 17, 18, 24, 29, 32, 35, 36, 38].contains n

/-- Steps whose alternate is the other bank (R442). -/
def bankSteps : List Nat := [5, 6, 7, 10, 19, 20]

/-- Steps with an alternate (R442). -/
def hasAlternate (n : Nat) : Bool := bankSteps.contains n || [11, 22, 25, 31, 33].contains n

/-- Whether a start's ledger shows a step as failed: failed, or begun and never finished without VIN_LOST (R443). -/
def Ledger.failed (l : Ledger) (n : Nat) : Bool :=
  (l.entries.get n).state = 3 || ((l.entries.get n).state = 1 && !l.vinLost)

/-- Milliseconds from t0 at which a step's work ends, by the rows of R49 and R528. -/
def stepMs (n : Nat) : Nat :=
  if n ≤ 10 then 60 else if n ≤ 12 then 250 else if n ≤ 23 then 400 else if n ≤ 24 then 500 else if n ≤ 26 then 1500
  else if n ≤ 30 then 3500 else 4000

/-- When a step ends at this start. -/
def bootDue (e : BootEnv) (n : Nat) : Nat :=
  match e.ms.find? (fun p => p.1 = n) with
  | some p => p.2
  | none => stepMs n

/-- Milliseconds since t0. -/
def State.bootMs (s : State) : Nat := (s.time - s.strong.boot.t0) / 1000

/-- Set a step's ledger entry (R441). -/
def State.bootEntry (s : State) (n state status : Nat) : State :=
  { s with strong := { s.strong with ledger := { s.strong.ledger with
      entries := s.strong.ledger.entries.set n ⟨state, status, s.bootMs⟩ } } }

/-- The masks of R443 as the register and the ledger show them. -/
def State.maskShow (s : State) : State :=
  let alt := s.strong.altOwn ||| s.strong.altBank
  let s1 := s.setN R.STRONG_BOOT_ALT alt
  { s1 with strong := { s1.strong with ledger := { s1.strong.ledger with
      alt := alt, skip := s1.getN R.STRONG_BOOT_SKIP, own := s1.strong.altOwn } } }

/-- One row of R443 for a step the previous start shows as failed. -/
def State.bootChoose (s : State) (n : Nat) : State :=
  let x := s.strong
  let bit := 2 ^ (n - 1)
  if x.prev.failed n = false then s
  else if optionalStep n then s.setN R.STRONG_BOOT_SKIP (s.getN R.STRONG_BOOT_SKIP ||| bit)
  else if x.prev.bank = x.active ∧ s.getF F.STRONG_STATE_COMMITTED = 0 then
    ({ s with strong := { x with altBank := x.altBank ||| bit } }.setF (F.STRONG_FW_BANKA_STATE.nth (1 - x.active)) 5).alarm blkSTRONG 0 0 n []
  else if hasAlternate n = true ∧ s.altStep n = false then { s with strong := { x with altOwn := x.altOwn ||| bit } }
  else if x.older.failed n = true ∧ (hasAlternate n = false ∨ x.older.own.testBit (n - 1) = true) then
    (s.setF F.STRONG_STATE_HALTED 1).alarm blkSTRONG 0 0 n []
  else s

/-- BL-03: the masks are cleared where CLEAR_ALT asked for it, the choices are made, the power-cycle count rises (R443, R444,
R464). An UNFLUSHED record of the start that ended is named by an ALARM (R268). A head halted before stays halted. -/
def State.bootPlan (s : State) : State :=
  let s1 := if s.strong.clearAlt then
      { s with strong := { s.strong with clearAlt := false, altOwn := 0, altBank := 0 } }.setN R.STRONG_BOOT_SKIP 0
    else s
  let s2 := if s1.getF F.STRONG_STATE_HALTED = 1 then s1 else ((upto 40).map (fun i => i + 1)).foldl State.bootChoose s1
  let cycle := s2.getF F.REEVE_TIME_CYCLE
  let lost := s2.obs.founding.reverse.find? (fun (r : Rec) => r.code = 0x107 && r.time / 2 ^ 40 = cycle)
  let s3 := if s2.strong.boot.warm then s2 else s2.setF F.REEVE_TIME_CYCLE (cycle + 1)
  let s4 := (s3.setF F.IDENT_START_POWER_CYCLE (s3.getF F.REEVE_TIME_CYCLE)).maskShow
  let s5 := { s4 with strong := { s4.strong with older := default
                                                 ledger := { s4.strong.ledger with cycle := s4.getF F.REEVE_TIME_CYCLE } } }
  match lost with
  | some r => if s5.strong.boot.warm then s5 else s5.alarm blkTILL 0 0 r.seq (leBytes 4 (r.detail % 2 ^ 32))
  | none => s5

/-- The bank this start runs: the active one, or by an alternate the other (R443, R444). -/
def State.bootBank (s : State) : Nat :=
  if s.strong.altBank ≠ 0 ∨ bankSteps.any (fun n => s.altStep n) = true then 1 - s.strong.active else s.strong.active

/-! ### The steps' work (R442) -/

/-- Head block of a bank that management has uploaded; empty for what the factory put there. -/
def State.headOf (s : State) (b : Nat) : List Byte := s.strong.blocks.get (b * 512)

/-- BL-05: the running bank's head block is verified; its version, bank and SUPP words are reported, and until management
negotiates the accepted words are STAND ∧ SUPP (R42, R46, R444, R453). -/
def State.bootHead (s : State) : Status × State :=
  let b := s.bootBank
  let h := s.headOf b
  if s.bankState b < 2 ∨ (h.isEmpty = false ∧ s.headOk h = false) then (0x4160, s)
  else
    let s1 := s.setN R.IDENT_FW (s.getF (F.STRONG_FW_BANKA_VERSION.nth b) * 2 ^ 32 + b)
    let s2 := { s1 with strong := { s1.strong with ledger := { s1.strong.ledger with bank := b } } }
    let s3 := if h.isEmpty then s2
      else (upto 4).foldl (fun s k => s.setN (R.IDENT_FEAT_SUPP + 8 * k) (fieldAt h (0x20 + 8 * k) 8 &&& featAssigned k)) s2
    (0, s3.mgmtWords)

/-- BL-06: every part of the running bank agrees with its manifest. -/
def State.bootParts (s : State) : Status × State :=
  let b := s.runBank
  if (s.headOf b).isEmpty = false ∧ s.partsOk b = false then (0x4161, s) else (0, s)

/-- SHA-512 digests of the running bank's parts in manifest order, with their PART numbers; those of the factory's image are
not known (assumption log 10). -/
def State.partDigests (s : State) : List (Nat × List Byte) :=
  let b := s.runBank
  let h := s.headOf b
  if h.isEmpty then (upto 6).map (fun i => (i + 1, Config.factoryDigest b (i + 1)))
  else (upto (fwParts h)).map (fun i => (fieldAt (fwEntry h i) 0 2, digest 0 (s.partBytes b (fwEntry h i))))

/-- HM0 by the Strongroom part, or HM1 by the others in manifest order (R449). -/
def State.partsExtend (s : State) (hm : Nat) : State :=
  (s.partDigests.filter (fun p => decide (p.1 = 1) = decide (hm = 0))).foldl (fun s p => s.hallmarkExtend hm p.2) s

/-- Firmware programs of an engine kind are loaded: its contexts are READY at the start of their code (R72, BL-19, BL-20,
BL-22; assumption log 37). -/
def State.enginesLoad (s : State) (lo units codeLen : Nat) : State :=
  let c : Ctx := { (default : Ctx) with state := .ready, codeLen := codeLen }
  { s with hands := { s.hands with ctxs := (upto (units * 64)).foldl (fun m i => m.set (lo + i) c) s.hands.ctxs } }

/-- BL-11: two stacks of 32 GiB, or by its alternate one, with the places and limits of R445. -/
def State.bootHbm (s : State) : State :=
  if s.altStep 11 then
    let s1 := ((s.setF F.HBM_STATE_STACKS 1).setF F.HBM_STATE_GIB 32).setF F.HBM_STATE_TRAINED 1
    let s2 := (s1.setF F.STEWARD_MAP_CFG_CACHE_GIB 4).setF F.SIEVE_CFG_HOT_MIB 256
    { s2 with plan := { tillBase := 0x200000000, tillLen := 0x400000000, scratchBase := 0x600000000, strong := [(0x7F0000000, 0x10000000)]
                        recordBase := 0x620000000, reelBase := 0x680000000, sampleBase := 0x780000000, spillBase := 0x7C0000000, cacheGib := 4 } }
  else
    let s1 := ((s.setF F.HBM_STATE_STACKS 2).setF F.HBM_STATE_GIB 64).setF F.HBM_STATE_TRAINED 1
    { s1 with plan := { s1.plan with cacheGib := s.getF F.STEWARD_MAP_CFG_CACHE_GIB } }

/-- BL-13: a hard repair replaces a remapped row and frees its spare (R435). -/
def State.bootRepair (s : State) (ch row : Nat) : State :=
  if s.larder.rows.contains (ch, row) then
    let s1 := { s with larder := { s.larder with rows := s.larder.rows.filter (fun x => x ≠ (ch, row)) } }
    ((s1.addF (F.HBM_CH_REPAIRED.at ch) 1).setF (F.HBM_CH_USED.at ch) (s1.getF (F.HBM_CH_USED.at ch) - 1)).addF (F.HBM_CH_LEFT.at ch) 1
  else s

/-- BL-21: every package in the recipe store is made resident, its constants stand in every pocket (R81, R449). -/
def State.bootRecipes (s : State) : State :=
  s.hands.recipes.foldl (fun s p =>
    if p.2.state ≠ 2 ∧ p.2.state ≠ 3 then s
    else
      let s1 := { s with hands := { s.hands with recipes := s.hands.recipes.set p.1 { p.2 with state := 2 } } }
      ((upto 16).foldl (fun s h => s.wrBytes (pocketKey h p.2.constOff) p.2.consts) s1).hallmarkExtend 2 p.2.digest) s

/-- BL-21: the packages are verified by R82 first; one that fails, fails the step. -/
def State.bootPackages (s : State) : Status × State :=
  if s.hands.recipes.any (fun p => (p.2.state = 2 || p.2.state = 3) && !p.2.pkg.isEmpty &&
      !sigHolds s.strong.progKey (p.2.pkg.take (p.2.pkg.length - 512)) (p.2.pkg.drop (p.2.pkg.length - 512))) then (0x4030, s)
  else (0, s.bootRecipes)

/-- BL-23: vault sets and session keys are unwrapped under the OMK into the Mill (R446). -/
def State.bootKeys (s : State) : State :=
  let load (s : State) (slot kind ident : Nat) (w : List Byte) : State :=
    match kwUnwrap s.strong.omk w with
    | some m => s.keyStore slot kind ident m
    | none => s.addN R.MILL_UNWRAP_FAIL 1
  let s1 := s.strong.vaults.foldl (fun s p => load s (0x100 + p.1) 3 p.2.ident p.2.wrapped) s
  s1.strong.sessions.foldl (fun s p => load s p.1 1 0 p.2) s1

/-- The sled-link arrangement is set at start-up by the standing offer, and stays while a sled is powered (R17, R44). -/
def State.arrange (s : State) : State :=
  let w := s.pairOffer 2
  if s.pins.pwren ≠ 0 then s
  else { s with media := { s.media with arr := if w.testBit 1 then 129 else if w.testBit 2 then 130 else 0 } }

/-- BL-25: ports with a sled are powered and train (R293). -/
def State.bootSleds (s : State) : State :=
  s.arrange.strong.boot.env.sleds.foldl (fun s x =>
    if s.sledPorts ≤ x.port then s else ((s.sledPower x.port true).sledPerst x.port false).portState x.port 2) s.arrange

/-- The pool identity most labels bear. -/
def State.poolLabel (s : State) : Nat :=
  let l := (s.strong.boot.env.sleds.map BootSled.label).filter (fun x => x ≠ 0)
  let n (x : Nat) : Nat := (l.filter (fun y => y = x)).length
  l.foldl (fun best x => if n best < n x then x else best) 0

/-- The copy of the holding table that most labels hold; among copies held equally often, that with the highest sequence number
(R331). -/
def tableOf (l : List (Nat × List TableRow)) : Nat × List TableRow :=
  let n (x : Nat × List TableRow) : Nat := (l.filter (fun y => y = x)).length
  l.foldl (fun b x => if n b < n x ∨ (n b = n x ∧ b.1 < x.1) then x else b) (0, [])

/-- The holding table read from the labels (R331). -/
def State.tableRead (s : State) (found : Nat × List TableRow) : State :=
  let l := found.2
  if l.isEmpty then s
  else
    let s0 := { s with hold := { s.hold with tableSeq := found.1, formed := l.foldl (fun f (r : TableRow) => insertNat r.commons f) [] } }
    l.foldl (fun s r =>
      let c := r.commons
      let s1 := ((s.setF (F.HOLD_CMN_FIRST_DIE.at c) r.first).setF (F.HOLD_CMN_DIES.at c) r.dies).setF (F.HOLD_CMN_HOME.at c) r.home
      let s2 := (s1.setF (F.HOLD_CMN_RECORD_FIRST.at c) r.recordFirst).setF (F.HOLD_CMN_RECORD_SECOND.at c) r.recordSecond
      r.failed.foldl (fun s d => if (s.dieOf d).state = 0 then s.putDie d { s.dieOf d with state := 1 } else s) s2) s0

/-- BL-26: the sleds are enumerated, their labels and the holding table read. IDENT_POOL stays zero until recovery has set
it (R42, R49). -/
def State.bootEnumerate (s : State) : State :=
  let e := s.strong.boot.env
  let s1 := (s.setN R.IDENT_POOL s.poolLabel).tableRead (tableOf e.tables)
  let s2 := e.sleds.foldl (fun s x => s.sledTrained x.port x.width x.label x.dies x.blocks x.cycles x.ecc x.geometry) s1
  if s.strong.boot.warm then s2 else s2.setN R.IDENT_POOL 0

/-- BL-27 and BL-28: the home commons are recovered by R290 as far as reading goes, and their open sheaves settled by R341; a warm
restart reads nothing. Each is under this head's eye but not owned. -/
def State.bootRecover (s : State) : State :=
  if s.strong.boot.warm then s
  else (s.homed s.slotNo).foldl (fun s c =>
    match s.strong.boot.env.flash.find? (fun f => f.commons = c) with
    | some f => (s.cmnRecover f).imagesFound f
    | none => s) s

/-- BL-34: every Carrier registration is FREE. -/
def State.regsClear (s : State) : State :=
  (s.regs.filter (fun p => p.1 % 2 ^ 32 = R.CARRIER_REG_INFO)).foldl (fun s p => s.setF (F.CARRIER_REG_INFO_STATE.at (p.1 / 2 ^ 32)) 0) s

/-- The configuration record of R449. -/
def State.configRecord (s : State) : List Byte :=
  (upto 4).flatMap (fun k => leBytes 8 (s.getN (R.IDENT_FEAT_STAND + 8 * k))) ++ leBytes 8 (s.getN R.HANDS_PROGKEY) ++
    leBytes 8 (s.getN R.STRONG_BOOT_ALT) ++ leBytes 8 (s.getN R.STRONG_BOOT_SKIP) ++ leBytes 1 s.runBank ++ List.replicate 7 0

/-- BL-40 creates the INTERNAL queues (R122): the Steward's, and one for the ingests of each magazine port. Their depths, which
the spec leaves to their owners, share the 4,096 internal tags (DESIGN CHOICE, assumption log 22). -/
def State.internalQueues (s : State) : State :=
  if s.internalQueue.isSome then s
  else
    let mk (depth src : Nat) (s : State) : Nat × State :=
      match s.createQueue kInternal depth 2 src 0 0 with
      | .ok (q, s1) => (q + 1, s1)
      | .error _ => (0, s)
    (upto 4).foldl (fun s p =>
      let r := mk 512 p s
      r.2.putIng p { r.2.ingOf p with queue := r.1 }) (mk 2048 0 s).2

/-- The work of step BL-n: the status of a failure, or 0, and the state. -/
def State.bootWork (s : State) (n : Nat) : Status × State :=
  let e := s.strong.boot.env
  match n with
  | 3 => (0, s.bootPlan)
  | 5 => s.bootHead
  | 6 => s.bootParts
  | 7 => (0, (s.partsExtend 0).enginesLoad 1536 1 262144)
  | 8 => (0, s.drbgStart.keyStore 1 1 0 Config.deviceKey)
  | 9 =>
    let s1 := s.setF F.STRONG_STATE_IDENT 1
    (0, if s1.strong.omk.isEmpty then s1 else (s1.keyStore 2 1 (s1.getN R.STRONG_OMK_ID) s1.strong.omk).setF F.STRONG_STATE_OMK 1)
  | 11 => (0, s.bootHbm)
  | 12 => (0, (s.setF F.LARDER_STATE_DISABLED 0).setF F.LARDER_STATE_READY 1)
  | 14 => (0, ((upto 17).filter (fun c => s.getF (F.MILL_CORE_STATE.at c) ≠ 3)).foldl (fun s c =>
      if e.katFails.contains (kMill, c) then s.millRetire c 2 else s.setN (R.MILL_CORE_TESTED + c * 4294967296) s.timeWord) s)
  | 15 => (0, (e.katFails.filter (fun p => p.1 = kAssay)).foldl (fun s p => s.assayRetire p.2 2) s)
  | 17 => (0, (e.katFails.filter (fun p => p.1 = kPress && decide (p.2 < 27))).foldl (fun s p =>
      if s.getF (F.PRESS_LANE_STATE.at p.2) = 3 then s else s.pressRetire p.2 2) s)
  | 18 => (0, (e.katFails.filter (fun p => p.1 = kWay)).foldl (fun s p => s.wayFail (p.2 / 32) (p.2 % 32)) s)
  | 13 => (0, e.repairs.foldl (fun s p => s.bootRepair p.1 p.2) s)
  | 19 => (0, s.enginesLoad 1024 4 131072)
  | 21 => s.bootPackages
  | 22 => (0, ((s.enginesLoad 1280 3 131072).partsExtend 1).councilArrange.reelMark 0 0)
  | 23 => (0, s.bootKeys)
  | 25 => (0, s.bootSleds)
  | 26 => (0, s.bootEnumerate)
  | 27 => (0, s.bootRecover)
  | 28 => (0, s.setN R.IDENT_POOL s.poolLabel)
  | 29 => (0, (s.homed s.slotNo).foldl State.filterBuild
      { s with sieve := { s.sieve with building := [], hotMax := s.getF F.SIEVE_CFG_HOT_MIB * 16384 } })
  | 30 => (0, (s.docket.vols.filter (fun p => p.2.size ≠ 0 && p.2.slot ≠ 0)).foldl (fun s p => s.streamOpenVol p.1) s)
  | 31 => (0, { s with car := { s.car with fabMode := s.getF F.FABRIC_CFG_MODE } }.setN R.FABRIC_LINK ((upto 8).foldl (fun v i => if e.links.testBit i && portOpen s.grade (i / 2) && linkOn (s.getF F.FABRIC_CFG_MODE) i then v + 2 * 4 ^ i else v) 0))
  | 32 => (0, (upto 4).foldl (fun s p => s.magTrain p) s)
  | 33 => (0, s.cfTrained e.cfLanes)
  | 34 => (0, s.regsClear)
  | 36 => (0, { s with larder := { s.larder with scrubAt := s.opsec } })
  | 37 => (0, s.hallmarkExtend 3 (digest 0 s.configRecord))
  | 38 => (0, s.regEvent blkSTRONG 0x101 (s.runBank * 2 ^ 40 + (s.getN R.STRONG_BOOT_ALT ||| s.getN R.STRONG_BOOT_SKIP)) [])
  | 40 => (0, s.internalQueues.slcRecompute.capNow.joinBegin 0x01)
  | _ => (0, s)

/-- Step n begins; skipped ones are passed over (R443). After BL-40 the ledger is closed. -/
def State.bootBegin (s : State) (n : Nat) : Nat → State
  | 0 => s
  | k + 1 =>
    if 40 < n then { s with strong := { s.strong with boot := { s.strong.boot with step := 0 } } }.setF F.IDENT_START_STATE 1
    else if optionalStep n = true ∧ (s.getN R.STRONG_BOOT_SKIP).testBit (n - 1) = true then
      ((s.bootEntry n 4 0).addF F.IDENT_START_SKIPPED 1).bootBegin (n + 1) k
    else
      let s1 := (s.bootEntry n 1 0).setF F.IDENT_START_STEP n |>.setF F.IDENT_START_STATE 0
      { s1 with strong := { s1.strong with boot := { s1.strong.boot with step := n } } }

/-- Step n is done: by its alternate where its ALT bit is set. The next begins. -/
def State.bootDone (s : State) (n : Nat) : State :=
  let alt := (s.getN R.STRONG_BOOT_ALT).testBit (n - 1)
  let s1 := s.bootEntry n (if alt then 5 else 2) 0
  (if alt then s1.addF F.IDENT_START_ALTERNATES 1 else s1).bootBegin (n + 1) 41

/-- Step n fails: its entry, a BOOT_FAIL record; the head stays in BOOTSTRAP until it resets itself (R443). -/
def State.bootFail (s : State) (n st : Nat) : State :=
  let s1 := (s.bootEntry n 3 st).setF F.IDENT_START_STATE 2
  { s1 with strong := { s1.strong with boot := { s1.strong.boot with failAt := s1.time + 1 } } }.regEvent blkSTRONG 0x102
    (n * 2 ^ 16 + st) []

/-- Whether a step is in progress. -/
def State.booting (s : State) : Bool :=
  s.power = .on && s.mode = .bootstrap && s.strong.boot.step ≠ 0 && s.strong.boot.failAt = 0

/-- At t0 + 1 ms the SPI target answers; at t0 + 2 ms the Warden begins charging the bank, or measures one found at or above
3.0 V by the step test first (R49, R495, R523). -/
def State.bootClock (s : State) : State :=
  let b := s.strong.boot
  if s.power ≠ .on ∨ s.mode = .holdup then s
  else if s.time = b.t0 + 1000 then { s with pins := { s.pins with misoAnswers := true } }
  else if s.time = b.t0 + 2000 ∧ b.warm = false ∧ b.env.bankV ≠ 0 then
    let s1 := ((s.setF F.WARDEN_BANK_STATE 2).setF F.WARDEN_BANK_MEAS_VTARGET 6000).bankVolt b.env.bankV
    if 3000 ≤ b.env.bankV then (s1.setF F.WARDEN_BANK_STATE 1).queueTest { ownTest kBank 0 false with source := 0 } else s1
  else s

/-- The step in progress ends when its time has come: its work is done, and it is recorded done or failed (R443). A head that
BL-03 halts stays where it is. -/
def State.bootTick (s : State) : State :=
  let n := s.strong.boot.step
  let e := s.strong.boot.env
  if s.booting = false ∨ e.stall = n ∨ s.time < s.strong.boot.t0 + bootDue e n * 1000 then s
  else match e.fails.find? (fun p => p.1 = n) with
    | some p => s.bootFail n p.2
    | none =>
      let r := s.bootWork n
      if r.1 ≠ 0 then s.bootFail n r.1
      else if r.2.getF F.STRONG_STATE_HALTED = 1 then
        { (r.2.bootEntry n 2 0) with strong := { (r.2.bootEntry n 2 0).strong with boot := { r.2.strong.boot with step := 0 } } }
      else r.2.bootDone n

/-! ### t0, module reset, warm restart -/

/-- The ledger of the start that ended becomes the previous one, and a new one begins. -/
def State.ledgerShift (s : State) : State :=
  { s with strong := { s.strong with older := s.strong.prev, prev := s.strong.ledger, ledger := default } }

/-- The ledger of a new start begins with BL-01. -/
def State.bootStart (s : State) (env : BootEnv) (warm : Bool) : State :=
  let s1 := s.ledgerShift
  let s2 := { s1 with strong := { s1.strong with boot := { env := env, step := 0, t0 := s1.time, warm := warm, failAt := 0 } } }
  ((s2.handsIn.pressIn.millIn.setF F.IDENT_START_ALTERNATES 0).setF F.IDENT_START_SKIPPED 0).bootBegin 1 41

/-- The grade that VIN gives by the downward thresholds (R490). -/
def gradeAt (vin : Nat) : Nat := if vin < 6000 then 2 else if vin < 10800 then 1 else 0

/-- t0 after power-on or module reset (R49, R461, R464): HEAD_SLOT is sampled, Reeve numbering starts at the base of the block
above the last reservation, operating seconds resume above the larger of the saved count and the newest record's, the mode is
BOOTSTRAP. -/
def State.t0 (s : State) (env : BootEnv) (cause : Nat) : State :=
  let r := s.restart
  let base := r.obs.reserved
  let newest := (r.obs.founding ++ r.obs.circ).foldl (fun n (x : Rec) => max n (x.time % 2 ^ 40)) r.obs.opsecSaved
  let s1 := { r with power := .on
                     obs := { r.obs with reserved := base + 2 ^ 36, opsecBase := newest + 1 }
                     pins := { r.pins with pgOut := true }
                     strong := { r.strong with reset := false } }
  let s2 := ((s1.setN R.REEVE_NOW base).setN R.REEVE_START base).setF F.IDENT_SLOT_SLOT (b2n r.pins.headSlotLand)
  let s3 := (s2.setN R.WARDEN_CLOCKS (0x3F00 + env.clocks % 32)).setF F.WARDEN_BANK_STATE 0
  let s3 := (s3.setF F.WARDEN_VIN_LOWEST (s3.getF F.WARDEN_VIN_VIN)).setF F.WARDEN_TEMP_HIGHEST (s3.getF F.WARDEN_TEMP_CASE)
  let s3 := { s3 with warden := { s3.warden with again := [] } }
  let s3 := s.warden.again.foldl State.queueTest s3
  let s4 := ((((s3.setF F.WARDEN_GRADE_GRADE (gradeAt (s3.getF F.WARDEN_VIN_VIN))).setF F.PRESS_STATE_HALF
    (b2n (gradeAt (s3.getF F.WARDEN_VIN_VIN) = 1))).setF F.WARDEN_VIN_CHANGES 0).setF
    F.IDENT_START_POWER_CYCLE (s3.getF F.REEVE_TIME_CYCLE)).mgmtWords
  let s5 := r.hold.formed.foldl (fun s c => s.setF (F.HOLD_CMN_OWNED.at c) 0) (s4.setF F.WARDEN_POWER_CAP s4.capWatts)
  let s6 := ((upto 4).filter (fun p => !portOpen s5.grade (0x10 + p))).foldl (fun s p => s.setF (magF F.MAGPORT_P_LINK_STATE p) 6) s5
  (s6.modeFrom s.warden.startFrom .bootstrap cause).bootStart env false

/-- Module reset (R32, R497, R514): ignored in HOLDUP. With VIN within range the head starts again at once; otherwise it is
left without power and the bank is bled. -/
def State.moduleReset (s : State) (env : BootEnv) : State :=
  if s.mode = .holdup ∨ s.power ≠ .on then s
  else if 4800 ≤ s.getF F.WARDEN_VIN_VIN then { s with warden := { s.warden with startFrom := s.mode.code } }.t0 env 0x12
  else { s.restart with power := .off }.setF F.WARDEN_BANK_STATE 7

/-- The warm restart of R35: BOOTSTRAP without a module reset. A checkpoint of what the head owns precedes it, followed by CLOSE of
kind FULL (R285). -/
def State.warmRestart (s : State) (env : BootEnv) (cause : Nat) : State :=
  let s1 := (s.hold.formed.filter (fun c => s.owns c)).foldl (fun s c => (s.ckptStart c).dbClose c 1) s
  ((s1.setMode .bootstrap cause).warmed.reqDone 0).bootStart env true

/-- VIN first reaches 4.8 V (R498). -/
def execPowerUp (vin : Nat) (s : State) : Res :=
  .next (let s1 := s.setF F.WARDEN_VIN_VIN vin
    if s.power = .off ∧ s.warden.hotStop = false ∧ 4800 ≤ vin then { s1 with power := .rising } else s1)

/-- Internal power-good (R49, R498): t0 of a module that comes up. A module reset that the Warden asserted gives its own cause (R504). -/
def execPowerGood (env : BootEnv) (s : State) : Res :=
  .next (if s.power ≠ .rising then s else s.t0 env (if s.strong.reset then 0x12 else 0))

/-- The step in progress has run longer than 10 s (R443). -/
def execBootStepTimeout (s : State) : Res :=
  .next (if s.booting then s.bootFail s.strong.boot.step 0 else s)

/-- 100 ms after a step failed (R443). -/
def execBootFailReset (env : BootEnv) (s : State) : Res :=
  .next (if s.mode = .bootstrap ∧ s.strong.boot.failAt ≠ 0 then s.moduleReset env else s)

/-- MOD_RESET_N held low for 10 µs (R514). -/
def execModuleReset (env : BootEnv) (s : State) : Res := .next (s.moduleReset env)

/-- A relock fails, or XTAL is lost: module reset, and R498 governs the next start (R504). -/
def execPllRelockFail (s : State) : Res :=
  .next (if s.mode = .holdup ∨ s.power ≠ .on then s
    else { s.restart with power := .rising, strong := { s.restart.strong with reset := true }
                          warden := { s.restart.warden with startFrom := s.mode.code } })

/-- STRONG_BOOT_CTL.RETRY (R460): HALTED is cleared, and the head resets with nothing held against any step. -/
def execStrongRetry (env : BootEnv) (s : State) : Res :=
  .next (if s.mode = .holdup then s.stat F.STRONG_BOOT_CTL_STATUS 0x7160
    else
      let s1 := (s.setF F.STRONG_STATE_HALTED 0).stat F.STRONG_BOOT_CTL_STATUS 0
      { s1 with strong := { s1.strong with ledger := default, prev := default, older := default } }.moduleReset env)

/-- STRONG_BOOT_CTL.CLEAR_ALT (R444). -/
def execStrongClearAlt (s : State) : Res :=
  .next ({ s with strong := { s.strong with clearAlt := true } }.stat F.STRONG_BOOT_CTL_STATUS 0)

/-! ### The end of HOLDUP (R266 to R270, R497 to R499) -/

/-- The committed groups of an owned commons that are not clean, with their Reeve numbers (R253, R268). -/
def State.dirtyGroups (s : State) (c : Nat) : List (Nat × List DbRec) :=
  let fl := s.getF (F.STEWARD_DB_FLASH_LSN_ALL.at c)
  let held (r : DbRec) : Bool := decide (fl < r.lsn) ||
    s.till.places.any (fun p => p.2.phase = 3 && p.2.commons = c && p.2.lsn = r.lsn && !s.placeClean p.2)
  ((splitGroups (s.dbOf c).hist []).1.filter (fun g => g.any (fun r => r.typ = 0x01 || r.typ = 0x02) && g.any held)).map (fun g =>
    (match g with | r :: _ => (if r.typ = 0x02 then fieldAt r.body 0 8 else 0) | [] => 0, g))

/-- Insert by Reeve number. -/
def insertReeve (x : Nat × List DbRec) : List (Nat × List DbRec) → List (Nat × List DbRec)
  | [] => [x]
  | y :: r => if x.1 ≤ y.1 then x :: y :: r else y :: insertReeve x r

/-- Every dirty group of the head, in Reeve order of commit. -/
def State.allDirtyGroups (s : State) : List (Nat × List DbRec) :=
  ((s.hold.formed.filter (fun c => s.owns c)).flatMap (fun c => s.dirtyGroups c)).foldr insertReeve []

/-- The HOLDUP flush ends: flushed groups were flushed and the rest dropped. FLUSH_DONE, what is queued, UNFLUSHED where groups
were dropped, and POWER_DOWN are written; the pair hears FLUSH_DONE; BOOTSTRAP follows if VIN is within range (R33, R266 to
R268, R497, R514). -/
def State.holdupDone (s : State) (flushed : Nat) : State :=
  let gs := s.allDirtyGroups
  let dropped := gs.drop flushed
  let left := (s.till.places.filter (fun p => p.2.phase = 3 && dropped.any (fun g => g.2.any (fun r => r.lsn = p.2.lsn)))).foldl
    (fun n p => n + p.2.slots * 4096) 0
  let mib := (s.till.holdupBytes - left) / 1048576
  let ms := (s.time + 1 - s.till.holdupFrom) / 1000
  let s1 := (s.hold.formed.filter (fun c => s.owns c)).foldl (fun s c => s.dbClose c 2) s
  let s2 := ((s1.setF F.TILL_LAST_HOLDUP_MIB mib).setF F.TILL_LAST_HOLDUP_MS ms).setF F.TILL_LAST_HOLDUP_UNFLUSHED dropped.length
  let s3 := s2.regEvent blkTILL 0x105 mib (leBytes 8 ms)
  let s4 := if s.getF F.IDENT_MODE_PREV = 3 then
      s3.sendStub 0x0B (leBytes 8 (s.till.holdupBytes - left) ++ leBytes 4 dropped.length ++ leBytes 4 0)
    else s3
  let s5 := s4.parishWindow true
  let s6 := if dropped.isEmpty then s5 else (s5.lossRecord blkTILL 0x107 dropped.length (dropped.flatMap (fun g => groupLoss g.2))).parishWindow true
  let s7 := (s6.regEvent blkWARDEN 0x106 (s6.getF F.WARDEN_BANK_ENERGY * 10) []).parishWindow true
  let s7a : State := { s7 with obs := { s7.obs with opsecSaved := s7.opsec }, pins := { s7.pins.resting with misoAnswers := true } }
  let s8 := s7a.setF F.TILL_STATE_FLUSHING 0
  if 4800 ≤ s8.getF F.WARDEN_VIN_VIN ∧ s8.warden.hotStop = false then
    { s8 with power := .rising, warden := { s8.warden with startFrom := Mode.holdup.code } }
  else
    let s9 : State := { s8 with power := .down }
    if 4800 ≤ s9.getF F.WARDEN_VIN_VIN then s9 else s9.setF F.WARDEN_BANK_STATE 7

/-- The flush ends with everything on flash (R267). -/
def execHoldupFlushComplete (s : State) : Res :=
  .next (if s.mode = .holdup ∧ s.power = .on then s.holdupDone s.allDirtyGroups.length else s)

/-- The bank's energy would not cover the reserve after so many groups in Reeve order: the flush stops there (R268). -/
def execBankReserveReached (flushed : Nat) (s : State) : Res :=
  .next (if s.mode = .holdup ∧ s.power = .on then s.holdupDone flushed else s)

/-! ### Mode requests that restart or replay (R35, R484) -/

/-- BOOTSTRAP, from SERVICE: a warm restart without activation. -/
def execModeReqBootstrap (env : BootEnv) (s : State) : Res :=
  .next (s.modeReq (fun s =>
    if s.mode = .service then (s.stat F.IDENT_MODE_REQ_STATUS 0).warmRestart env 0x14 else s.stat F.IDENT_MODE_REQ_STATUS 0x5020))

/-- The CHECKPOINT a replay from a record starts at: the latest at or before it. -/
def State.replayCheckpoint (s : State) (first : Nat) : Option Nat :=
  ((s.obs.reel.filter (fun r => r.kind = 3 && decide (r.rseq ≤ first))).map ReelRec.rseq).getLast?

/-- REPLAY, from SERVICE, in the order of R35: feature 4 and the configuration, the grant, the CHECKPOINT. -/
def execModeReqReplay (s : State) : Res :=
  .next (s.modeReq (fun s =>
    let f := F.IDENT_MODE_REQ_STATUS
    if s.mode ≠ .service then s.stat f 0x5020
    else if s.feat 4 = false ∨ s.getF F.COUNCIL_STATE_CONFIG = 2 then s.stat f 0x7020
    else if s.grantOk 0x4C504552 576 = false then s.grantUsed.stat f 0x7022
    else
      let first := fieldAt s.obs.grant 48 8
      let last := fieldAt s.obs.grant 56 8
      let s1 := if s.getF F.REEVE_REEL_CTL_FREEZE = 1 then s.grantUsed.reelReload else s.grantUsed
      match s1.replayCheckpoint first with
      | none => s1.stat f 0x7020
      | some c =>
        let s2 := { s1 with obs := { s1.obs with replayFirst := c, replayLast := last } }.setMode .replay 0x0A
        let s3 := (((s2.councilArrange).setN R.REEVE_REPLAY 1).setN R.REEVE_REPLAY_AT c).setN R.REEVE_REPLAY_DIFF 0
        s3.stat f 0))

/-- IDENT_FEAT_CTL.GO (R45, R46). -/
def execFeatNegotiate (persist : Bool) (s : State) : Res :=
  let r := s.featSet (fun k => s.getN (R.IDENT_FEAT_OFFER + 8 * k)) persist
  .next (r.2.stat F.IDENT_FEAT_CTL_STATUS r.1).pushRefresh

/-! ### Activation and the roll (R456 to R458) -/

/-- ACTIVATE or ROLLBACK: 1 or 3 in the FIRMWARE record. -/
def State.activateReq (s : State) (env : BootEnv) (what : Nat) : State :=
  let f := F.STRONG_FW_CTL_STATUS
  if s.getF F.STRONG_ROLL_CTL_BUSY = 1 then s.stat f 0x8160
  else if s.activateStatus ≠ 0 then s.stat f s.activateStatus
  else ((s.stat f 0).activate what).warmRestart env 0x13

/-- STRONG_FW_CTL.ACTIVATE (R456). -/
def execFwActivate (env : BootEnv) (s : State) : Res := .next (s.activateReq env 1)

/-- STRONG_FW_CTL.ROLLBACK (R457): ACTIVATE of the other bank under the same conditions. -/
def execFwRollback (env : BootEnv) (s : State) : Res := .next (s.activateReq env 3)

/-- STRONG_ROLL_CTL.GO (R458): on slot A, with this head's part of the conditions; the partner is asked for its own. -/
def execRollGo (s : State) : Res :=
  .next (
    let f := F.STRONG_ROLL_CTL_STATUS
    if s.getF F.STRONG_ROLL_CTL_BUSY = 1 then s.stat f 0x8160
    else if s.slotNo ≠ 0 ∨ s.rollReady = false ∨ s.partnerHere = false then s.stat f 0x7160
    else
      let s1 := { s with strong := { s.strong with rollPhase := 1 } }
      (((s1.setF F.STRONG_ROLL_CTL_BUSY 1).setF F.STRONG_ROLL_STATE_FAILED_STEP 0).setF F.STRONG_ROLL_STATE_STEP 1 |>.stat f 0).sendAct 9 0 0 0 0 0
        s.rollDigest)

/-- This head's bank is activated in a roll, or the step fails. -/
def State.rollActivate (s : State) (env : BootEnv) (step : Nat) : State :=
  if s.activateStatus ≠ 0 then s.rollEnd step
  else
    let s1 := (s.activate 1)
    { s1 with strong := { s1.strong with rollTask := 0, rollPhase := 2 } }.warmRestart env 0x13

/-- A step of the roll finishes and the next runs (R458). Head B, asked to activate, does so in SERVICE. Head A: with head B in
SERVICE it asks for the activation; when failback has returned PAIRED it checks what head B runs and asks for its own SERVICE;
in SERVICE it activates; when it is PAIRED again the roll is over. -/
def State.rollStep (s : State) (env : BootEnv) : State :=
  let step := s.getF F.STRONG_ROLL_STATE_STEP
  let other := s.getF (F.STRONG_FW_BANKA_VERSION.nth (1 - s.runBank))
  if s.getF F.STRONG_ROLL_CTL_BUSY = 0 then
    (if s.strong.rollTask = 2 ∧ s.mode = .service then s.rollActivate env 3 else s)
  else if step = 2 ∧ s.mode = .solo ∧ s.cf.partnerMode = 7 ∧ s.partnerHere = true then
    (s.setF F.STRONG_ROLL_STATE_STEP 3).sendAct 11 0 0 0 0 0 []
  else if step = 2 ∧ s.partnerHere = false then s.rollEnd 2
  else if step = 3 ∧ s.mode = .paired then
    if s.strong.partnerFw / 2 ^ 32 ≠ other then s.rollEnd 3
    else if s.serviceStatus ≠ 0 ∨ s.getF F.IDENT_MODE_REQ_BUSY = 1 then s.rollEnd 4
    else { s with strong := { s.strong with rollPhase := 1 } }.setF F.STRONG_ROLL_STATE_STEP 4 |>.serviceAsk
  else if step = 4 ∧ s.strong.rollPhase = 1 ∧ s.mode = .service then s.rollActivate env 4
  else if step = 4 ∧ s.strong.rollPhase = 1 ∧ s.mode = .paired ∧ s.getF F.IDENT_MODE_REQ_BUSY = 0 then s.rollEnd 4
  else if step = 4 ∧ s.strong.rollPhase = 2 ∧ s.mode = .paired then s.rollEnd (if s.runBank = s.strong.active then 0 else 4)
  else s

/-- A step of the roll finishes. -/
def execRollStepAdvance (env : BootEnv) (s : State) : Res := .next (s.rollStep env)

end Sys2Proof.Machine
end

