-- ==== Sys2Proof/Machine/Clock.lean ====
section
/-! DEFINITION. What passes with time when no command waits (assumption log 4). -/
namespace Sys2Proof.Machine

/-- The Reeve reserves its next block of 2^36 numbers before the present one is used up (R461). -/
def State.reserve (s : State) : State :=
  if s.obs.reserved ≤ s.now + 2 ^ 35 then { s with obs := { s.obs with reserved := s.obs.reserved + 2 ^ 36 } } else s

/-- Cycles of every clock domain in one microsecond (R502, R481): CORE, SEQ, COUNCIL, MILL, PRESS, HBM, AON in the order of
COUNT_CYCLES. -/
def domainMhz : List Nat := [2000, 1500, 1600, 1000, 1250, 3200, 25]

/-- Whether the condition of a LEVEL count holds, of Hands in a mask (0: all). Conditions on work that a command does at once
hold for no time here (assumption log 4). -/
def State.levelHolds (s : State) (ev mask : Nat) : Bool :=
  let hand (st : CtxState) : Bool := s.hands.ctxs.any (fun p => p.1 < 1024 && p.2.state = st && (mask = 0 || mask.testBit (p.1 / 64)))
  match ev with
  | 0x02 => hand .ready
  | 0x03 => hand .trapping
  | 0x04 => !s.larder.fills.isEmpty
  | 0x06 => s.docket.tags.any (fun p => p.2.state = .held)
  | 0x07 => s.till.places.any (fun p => p.2.phase = 1)
  | 0x0B => s.car.peers.any (fun p => p.2.used && p.2.state = 2)
  | 0x0C => decide (8388608 < s.cf.store.foldl (fun n x => n + x.bytes.length) 0)
  | 0x0E => !s.obs.parish.alarms.isEmpty || !s.obs.push.alarms.isEmpty || !s.obs.ringP.alarms.isEmpty
  | _ => false

/-- The running LEVEL counters whose condition holds count a microsecond's CORE cycles (R479). -/
def State.levelsTick (s : State) : State :=
  if s.getF F.COUNT_RUN_VAL = 0 then s
  else ((upto 32).filter (fun n =>
      let c (f : Fld) : Nat := s.getF (f.win 0x20 n)
      (s.getF F.COUNT_RUN_VAL).testBit n && c F.COUNT_P_CFG_LEVEL = 1 && c F.COUNT_P_CFG_CHAIN = 0 &&
        s.levelHolds (c F.COUNT_P_CFG_EVENT) (c F.COUNT_P_CFG_HAND_MASK))).foldl (fun s n => s.countAdd n 2000) s

/-- COUNT_CYCLES and the counters of a LEVEL that holds (R479, R481). -/
def State.cyclesTick (s : State) : State :=
  let s1 := (upto 7).foldl (fun s k => s.addN (R.COUNT_CYCLES + 8 * k) (domainMhz.getD k 0)) s
  s1.levelsTick

/-- Once a second: the Reeve's rate, wall time, the failback hold-off and the lowest VIN of the second (R51, R465, R486, R508). -/
def State.secondTick (s : State) : State :=
  let s1 := ({ s with obs := { s.obs with rateMark := s.now } }.setN R.REEVE_RATE (s.now - s.obs.rateMark)).setF F.WARDEN_VIN_LOWEST (s.getF F.WARDEN_VIN_VIN)
  let s2 := if s1.getF F.REEVE_WALL_VALID = 1 then s1.addF F.REEVE_WALL_SECONDS 1 else s1
  if s2.getF F.COUNCIL_FAILBACK_STATE = 1 ∧ s2.getF F.COUNCIL_FAILBACK_LEFT ≠ 0 then
    s2.setF F.COUNCIL_FAILBACK_LEFT (s2.getF F.COUNCIL_FAILBACK_LEFT - 1)
  else s2

/-- One microsecond without a command: time passes, a start goes on, cycles are counted, a relocked PLL is reported, a
capacity block that R163 asks for is sent, and once a second what counts seconds counts (assumption log 4). Without power nothing counts. -/
def clockTick (s : State) : State :=
  let s1 := { s with time := s.time + 1 }
  if s.power ≠ .on then s1
  else
    let s2 := ((s1.bootClock.bootTick).cyclesTick.reserve).magTick
    let s3 := if s2.warden.pllAt ≠ 0 ∧ s2.warden.pllAt + 49 ≤ s2.time then
        { s2 with warden := { s2.warden with pllAt := 0 } }.setF F.WARDEN_CLOCKS_LOCKED 63 else s2
    let s4 := if s3.toll.due then s3.capNow else s3
    if s4.time % 1000000 = 0 then s4.secondTick else s4

end Sys2Proof.Machine
end

