-- ==== Sys2Proof/Machine/Ixa.lean ====
section
/-! DEFINITION. The IXA instructions that touch registers, predicates, descriptors and the pc (R91 to
R98, R101, R102, R104). Loads and stores are in IxaMem.lean, accelerator operations in Accel.lean. -/
namespace Sys2Proof.Machine

/-! ### Register operations (R95) -/

/-- ADD: rd = ra + rb (R95). -/
def execAdd (e : Eng) (rd ra rb : GReg) (s : State) : Res :=
  .next (s.compute e [ra.toNat, rb.toNat] rd.toNat 4 (fun c => c.rg ra.toNat + c.rg rb.toNat))

/-- SUB: rd = ra - rb (R95). -/
def execSub (e : Eng) (rd ra rb : GReg) (s : State) : Res :=
  .next (s.compute e [ra.toNat, rb.toNat] rd.toNat 4 (fun c => c.rg ra.toNat - c.rg rb.toNat))

/-- AND (R95). -/
def execAnd (e : Eng) (rd ra rb : GReg) (s : State) : Res :=
  .next (s.compute e [ra.toNat, rb.toNat] rd.toNat 4 (fun c => c.rg ra.toNat &&& c.rg rb.toNat))

/-- OR (R95). -/
def execOr (e : Eng) (rd ra rb : GReg) (s : State) : Res :=
  .next (s.compute e [ra.toNat, rb.toNat] rd.toNat 4 (fun c => c.rg ra.toNat ||| c.rg rb.toNat))

/-- XOR (R95). -/
def execXor (e : Eng) (rd ra rb : GReg) (s : State) : Res :=
  .next (s.compute e [ra.toNat, rb.toNat] rd.toNat 4 (fun c => c.rg ra.toNat ^^^ c.rg rb.toNat))

/-- ANDN: ra and not rb (R95). -/
def execAndn (e : Eng) (rd ra rb : GReg) (s : State) : Res :=
  .next (s.compute e [ra.toNat, rb.toNat] rd.toNat 4 (fun c => c.rg ra.toNat &&& ~~~(c.rg rb.toNat)))

/-- SHL: left shift by rb[5:0] (R95). -/
def execShl (e : Eng) (rd ra rb : GReg) (s : State) : Res :=
  .next (s.compute e [ra.toNat, rb.toNat] rd.toNat 4 (fun c => c.rg ra.toNat <<< ((c.rg rb.toNat).toNat % 64)))

/-- SHR: logical right shift by rb[5:0] (R95). -/
def execShr (e : Eng) (rd ra rb : GReg) (s : State) : Res :=
  .next (s.compute e [ra.toNat, rb.toNat] rd.toNat 4 (fun c => c.rg ra.toNat >>> ((c.rg rb.toNat).toNat % 64)))

/-- SAR: arithmetic right shift by rb[5:0] (R95). -/
def execSar (e : Eng) (rd ra rb : GReg) (s : State) : Res :=
  .next (s.compute e [ra.toNat, rb.toNat] rd.toNat 4 (fun c => (c.rg ra.toNat).sshiftRight ((c.rg rb.toNat).toNat % 64)))

/-- ROTR: rotate right by rb[5:0] (R95). -/
def execRotr (e : Eng) (rd ra rb : GReg) (s : State) : Res :=
  .next (s.compute e [ra.toNat, rb.toNat] rd.toNat 4 (fun c => (c.rg ra.toNat).rotateRight ((c.rg rb.toNat).toNat % 64)))

/-- MUL: low 64 bits of the product (R95). -/
def execMul (e : Eng) (rd ra rb : GReg) (s : State) : Res :=
  .next (s.compute e [ra.toNat, rb.toNat] rd.toNat 4 (fun c => c.rg ra.toNat * c.rg rb.toNat))

/-- MULHU: high 64 bits, unsigned (R95). -/
def execMulhu (e : Eng) (rd ra rb : GReg) (s : State) : Res :=
  .next (s.compute e [ra.toNat, rb.toNat] rd.toNat 4 (fun c => mulHighU (c.rg ra.toNat) (c.rg rb.toNat)))

/-- MULHS: high 64 bits, signed (R95). -/
def execMulhs (e : Eng) (rd ra rb : GReg) (s : State) : Res :=
  .next (s.compute e [ra.toNat, rb.toNat] rd.toNat 4 (fun c => mulHighS (c.rg ra.toNat) (c.rg rb.toNat)))

/-- DIVU: unsigned quotient (R95). -/
def execDivu (e : Eng) (rd ra rb : GReg) (s : State) : Res :=
  .next (s.compute e [ra.toNat, rb.toNat] rd.toNat 4 (fun c => divUnsigned (c.rg ra.toNat) (c.rg rb.toNat)))

/-- REMU: unsigned remainder (R95). -/
def execRemu (e : Eng) (rd ra rb : GReg) (s : State) : Res :=
  .next (s.compute e [ra.toNat, rb.toNat] rd.toNat 4 (fun c => remUnsigned (c.rg ra.toNat) (c.rg rb.toNat)))

/-- DIVS: signed quotient (R95). -/
def execDivs (e : Eng) (rd ra rb : GReg) (s : State) : Res :=
  .next (s.compute e [ra.toNat, rb.toNat] rd.toNat 4 (fun c => divSigned (c.rg ra.toNat) (c.rg rb.toNat)))

/-- REMS: signed remainder (R95). -/
def execRems (e : Eng) (rd ra rb : GReg) (s : State) : Res :=
  .next (s.compute e [ra.toNat, rb.toNat] rd.toNat 4 (fun c => remSigned (c.rg ra.toNat) (c.rg rb.toNat)))

/-- MINU: unsigned minimum (R95). -/
def execMinu (e : Eng) (rd ra rb : GReg) (s : State) : Res :=
  .next (s.compute e [ra.toNat, rb.toNat] rd.toNat 4 (fun c => if BitVec.ult (c.rg rb.toNat) (c.rg ra.toNat) then c.rg rb.toNat else c.rg ra.toNat))

/-- MAXU: unsigned maximum (R95). -/
def execMaxu (e : Eng) (rd ra rb : GReg) (s : State) : Res :=
  .next (s.compute e [ra.toNat, rb.toNat] rd.toNat 4 (fun c => if BitVec.ult (c.rg ra.toNat) (c.rg rb.toNat) then c.rg rb.toNat else c.rg ra.toNat))

/-- MINS: signed minimum (R95). -/
def execMins (e : Eng) (rd ra rb : GReg) (s : State) : Res :=
  .next (s.compute e [ra.toNat, rb.toNat] rd.toNat 4 (fun c => if BitVec.slt (c.rg rb.toNat) (c.rg ra.toNat) then c.rg rb.toNat else c.rg ra.toNat))

/-- MAXS: signed maximum (R95). -/
def execMaxs (e : Eng) (rd ra rb : GReg) (s : State) : Res :=
  .next (s.compute e [ra.toNat, rb.toNat] rd.toNat 4 (fun c => if BitVec.slt (c.rg ra.toNat) (c.rg rb.toNat) then c.rg rb.toNat else c.rg ra.toNat))

/-- SHLI: left shift by an immediate (R95). -/
def execShli (e : Eng) (rd ra : GReg) (amt : BitVec 6) (s : State) : Res :=
  .next (s.compute e [ra.toNat] rd.toNat 4 (fun c => c.rg ra.toNat <<< amt.toNat))

/-- SHRI: logical right shift by an immediate (R95). -/
def execShri (e : Eng) (rd ra : GReg) (amt : BitVec 6) (s : State) : Res :=
  .next (s.compute e [ra.toNat] rd.toNat 4 (fun c => c.rg ra.toNat >>> amt.toNat))

/-- SARI: arithmetic right shift by an immediate (R95). -/
def execSari (e : Eng) (rd ra : GReg) (amt : BitVec 6) (s : State) : Res :=
  .next (s.compute e [ra.toNat] rd.toNat 4 (fun c => (c.rg ra.toNat).sshiftRight amt.toNat))

/-- CLZ: leading zeros (R95). -/
def execClz (e : Eng) (rd ra : GReg) (s : State) : Res :=
  .next (s.compute e [ra.toNat] rd.toNat 4 (fun c => BitVec.ofNat 64 (leadingZeros (c.rg ra.toNat) 64)))

/-- CTZ: trailing zeros (R95). -/
def execCtz (e : Eng) (rd ra : GReg) (s : State) : Res :=
  .next (s.compute e [ra.toNat] rd.toNat 4 (fun c => BitVec.ofNat 64 (trailingZeros (c.rg ra.toNat) 64 0)))

/-- POPC: set bits (R95). -/
def execPopc (e : Eng) (rd ra : GReg) (s : State) : Res :=
  .next (s.compute e [ra.toNat] rd.toNat 4 (fun c => BitVec.ofNat 64 (countOnes (c.rg ra.toNat) 64)))

/-- BSWAP: byte order reversed (R95). -/
def execBswap (e : Eng) (rd ra : GReg) (s : State) : Res :=
  .next (s.compute e [ra.toNat] rd.toNat 4 (fun c => byteSwap (c.rg ra.toNat)))

/-- SEL: ra or rb by a predicate (R95). -/
def execSel (e : Eng) (rd ra rb : GReg) (p : PReg) (s : State) : Res :=
  .next (s.compute e [ra.toNat, rb.toNat] rd.toNat 4 (fun c => if predOf c.p p then c.rg ra.toNat else c.rg rb.toNat))

/-- EXT: a field of sh + 1 bits of ra from bit rb[5:0] (R95). -/
def execExt (e : Eng) (rd ra rb : GReg) (sh : BitVec 5) (s : State) : Res :=
  .next (s.compute e [ra.toNat, rb.toNat] rd.toNat 4
    (fun c => (c.rg ra.toNat >>> ((c.rg rb.toNat).toNat % 64)) &&& lowMask (sh.toNat + 1)))

/-- The special value MFS selects, or none for a reserved selector; CYCLES is timing, so a free value
(R95, assumption log 8). DESIGN CHOICE: R96 reserves scratch areas for Hand contexts only; SCRATCH of another engine's
context is an area beyond them, by the context's number (assumption log 24). -/
def mfsValue (e : Eng) (c : Ctx) (s : State) (sh : Nat) : Option Word :=
  match sh with
  | 0 => some (BitVec.ofNat 64 c.pc)
  | 1 => some (ctxWord e)
  | 2 => some (BitVec.ofNat 64 (c.tag % 2 ^ 16))
  | 3 => some (BitVec.ofNat 64 (s.scratchBase e.key))
  | 4 => some (s.draw).1
  | _ => none

/-- MFS: a special value; a reserved selector takes ILLEGAL_OP (R95). -/
def execMfs (e : Eng) (rd : GReg) (sh : BitVec 5) (s : State) : Res :=
  .next (s.issue e [] (fun c s1 =>
    match mfsValue e c s1 sh.toNat with
    | none => s1.trapTake e 0x01 0
    | some v => (if sh.toNat = 4 then (s1.draw).2 else s1).done e (c.wg rd.toNat v)))

/-- PTOG: the predicates into rd[7:0] (R95). -/
def execPtog (e : Eng) (rd : GReg) (s : State) : Res :=
  .next (s.compute e [] rd.toNat 4 (fun c => BitVec.ofNat 64 (c.p % 256)))

/-- GTOP: ra[7:0] into the predicates (R95). -/
def execGtop (e : Eng) (ra : GReg) (s : State) : Res :=
  .next (s.issue e [ra.toNat] (fun c s1 => s1.done e { c with p := (c.rg ra.toNat).toNat % 256 }))

/-! ### Immediate forms (R93, R94) -/

/-- ADDI: ra plus the sign-extended immediate (R94). -/
def execAddi (e : Eng) (rd ra : GReg) (imm : BitVec 16) (s : State) : Res :=
  .next (s.compute e [ra.toNat] rd.toNat 4 (fun c => c.rg ra.toNat + imm.signExtend 64))

/-- ANDI: ra and the zero-extended immediate (R94). -/
def execAndi (e : Eng) (rd ra : GReg) (imm : BitVec 16) (s : State) : Res :=
  .next (s.compute e [ra.toNat] rd.toNat 4 (fun c => c.rg ra.toNat &&& imm.zeroExtend 64))

/-- ORI: ra or the zero-extended immediate (R94). -/
def execOri (e : Eng) (rd ra : GReg) (imm : BitVec 16) (s : State) : Res :=
  .next (s.compute e [ra.toNat] rd.toNat 4 (fun c => c.rg ra.toNat ||| imm.zeroExtend 64))

/-- XORI: ra xor the zero-extended immediate (R94). -/
def execXori (e : Eng) (rd ra : GReg) (imm : BitVec 16) (s : State) : Res :=
  .next (s.compute e [ra.toNat] rd.toNat 4 (fun c => c.rg ra.toNat ^^^ imm.zeroExtend 64))

/-- LI.L: the sign-extended 42-bit immediate (R93); a long form is two words. -/
def execLiL (e : Eng) (rd : GReg) (imm : BitVec 42) (s : State) : Res :=
  .next (s.compute e [] rd.toNat 8 (fun _ => imm.signExtend 64))

/-- LIU.L: rd[63:42] from the immediate, rd[41:0] unchanged (R93); a long form is two words. -/
def execLiuL (e : Eng) (rd : GReg) (imm : BitVec 22) (s : State) : Res :=
  .next (s.compute e [rd.toNat] rd.toNat 8 (fun c => (c.rg rd.toNat &&& lowMask 42) ||| (imm.zeroExtend 64 <<< 42)))

/-- ADDI.L: rd plus the sign-extended immediate (R93); a long form is two words. -/
def execAddiL (e : Eng) (rd : GReg) (imm : BitVec 42) (s : State) : Res :=
  .next (s.compute e [rd.toNat] rd.toNat 8 (fun c => c.rg rd.toNat + imm.signExtend 64))

/-- ANDI.L: rd and the sign-extended immediate (R93); a long form is two words. -/
def execAndiL (e : Eng) (rd : GReg) (imm : BitVec 42) (s : State) : Res :=
  .next (s.compute e [rd.toNat] rd.toNat 8 (fun c => c.rg rd.toNat &&& imm.signExtend 64))

/-- ORI.L: rd or the zero-extended immediate (R93); a long form is two words. -/
def execOriL (e : Eng) (rd : GReg) (imm : BitVec 42) (s : State) : Res :=
  .next (s.compute e [rd.toNat] rd.toNat 8 (fun c => c.rg rd.toNat ||| imm.zeroExtend 64))

/-! ### Compare and predicate operations (R97) -/

/-- CMP: pd = ra cond rb (R97). -/
def execCmp (e : Eng) (pd : PReg) (cond : BitVec 3) (ra rb : GReg) (s : State) : Res :=
  .next (s.computeP e [ra.toNat, rb.toNat] pd (fun c => condHolds cond (c.rg ra.toNat) (c.rg rb.toNat)))

/-- CMPI: pd = ra cond the sign-extended immediate (R97). -/
def execCmpi (e : Eng) (pd : PReg) (cond : BitVec 3) (ra : GReg) (imm : BitVec 15) (s : State) : Res :=
  .next (s.computeP e [ra.toNat] pd (fun c => condHolds cond (c.rg ra.toNat) (imm.signExtend 64)))

/-- PRED AND (R97). -/
def execPredAnd (e : Eng) (pd pa pb : PReg) (s : State) : Res :=
  .next (s.computeP e [] pd (fun c => predOf c.p pa && predOf c.p pb))

/-- PRED OR (R97). -/
def execPredOr (e : Eng) (pd pa pb : PReg) (s : State) : Res :=
  .next (s.computeP e [] pd (fun c => predOf c.p pa || predOf c.p pb))

/-- PRED XOR (R97). -/
def execPredXor (e : Eng) (pd pa pb : PReg) (s : State) : Res :=
  .next (s.computeP e [] pd (fun c => predOf c.p pa ^^ predOf c.p pb))

/-- PRED ANDN (R97). -/
def execPredAndn (e : Eng) (pd pa pb : PReg) (s : State) : Res :=
  .next (s.computeP e [] pd (fun c => predOf c.p pa && !predOf c.p pb))

/-- PRED NOT (R97). -/
def execPredNot (e : Eng) (pd pa : PReg) (s : State) : Res :=
  .next (s.computeP e [] pd (fun c => !predOf c.p pa))

/-- PRED MOV (R97). -/
def execPredMov (e : Eng) (pd pa : PReg) (s : State) : Res :=
  .next (s.computeP e [] pd (fun c => predOf c.p pa))

/-- PRED SET (R97). -/
def execPredSet (e : Eng) (pd : PReg) (s : State) : Res :=
  .next (s.computeP e [] pd (fun _ => true))

/-- PRED CLR (R97). -/
def execPredClr (e : Eng) (pd : PReg) (s : State) : Res :=
  .next (s.computeP e [] pd (fun _ => false))

/-! ### Branches (R98) -/

/-- The target of a branch: pc + off16 · 4, or none where it lies outside the code (R98). -/
def branchTarget (c : Ctx) (off : BitVec 16) : Option Nat :=
  let t : Int := (c.pc : Int) + off.toInt * 4
  if 0 ≤ t ∧ t < (c.codeLen : Int) then some t.toNat else none

/-- Branch if taken; a target outside the code takes ILLEGAL_OP whether or not it is taken (R98). -/
def State.branch (s : State) (e : Eng) (off : BitVec 16) (taken : Ctx → Bool) (link : Bool) : State :=
  s.issue e [] (fun c s1 =>
    match branchTarget c off with
    | none => s1.trapTake e 0x01 0
    | some t =>
      let c1 := if link then c.wg 31 (BitVec.ofNat 64 (c.pc + 4)) else c
      s1.putCtx e { c1 with pc := if taken c then t else c.pc + 4 })

/-- B: always (R98). -/
def execB (e : Eng) (off : BitVec 16) (s : State) : Res := .next (s.branch e off (fun _ => true) false)

/-- BT: when the predicate is set (R98). -/
def execBt (e : Eng) (p : PReg) (off : BitVec 16) (s : State) : Res :=
  .next (s.branch e off (fun c => predOf c.p p) false)

/-- BF: when the predicate is clear (R98). -/
def execBf (e : Eng) (p : PReg) (off : BitVec 16) (s : State) : Res :=
  .next (s.branch e off (fun c => !predOf c.p p) false)

/-- CALL: always, with g31 = pc + 4 (R98). -/
def execCall (e : Eng) (off : BitVec 16) (s : State) : Res := .next (s.branch e off (fun _ => true) true)

/-- JR: to ra's old value, rd = pc + 4; a target outside the code or not a word takes ILLEGAL_OP (R98). -/
def execJr (e : Eng) (rd ra : GReg) (s : State) : Res :=
  .next (s.issue e [ra.toNat] (fun c s1 =>
    let t := (c.rg ra.toNat).toNat
    if c.codeLen ≤ t ∨ t % 4 ≠ 0 then s1.trapTake e 0x01 0
    else s1.putCtx e { (c.wg rd.toNat (BitVec.ofNat 64 (c.pc + 4))) with pc := t }))

/-- An instruction of a reserved encoding takes ILLEGAL_OP (R91, R93). -/
def execIllegalEncoding (e : Eng) (s : State) : Res :=
  .next (s.issue e [] (fun _ s1 => s1.trapTake e 0x01 0))

/-! ### Descriptor operations (R101) -/

/-- DMK: build a POCKET or GLOBAL descriptor; VALID is 0 if rb[63:32] is not zero (R101). -/
def execDmk (e : Eng) (dn : DReg) (ra rb : GReg) (sh : BitVec 3) (s : State) : Res :=
  .next (s.issue e [ra.toNat, rb.toNat] (fun c s1 =>
    let l := (c.rg rb.toNat).toNat
    s1.done e (c.wd dn.toNat (mkDesc (decide (l < 2 ^ 32)) (sh.getLsbD 0) (sh.getLsbD 1) false
      (b2n (sh.getLsbD 2)) l (c.rg ra.toNat).toNat))))

/-- DMOV: all 128 bits (R101). -/
def execDmov (e : Eng) (dn dm : DReg) (s : State) : Res :=
  .next (s.issue e [] (fun c s1 => s1.done e (c.wd dn.toNat (c.rd dm.toNat))))

/-- DADV: ADDRESS + rb, LENGTH - rb; VALID = 0 if rb exceeds LENGTH (R101). -/
def execDadv (e : Eng) (dn : DReg) (rb : GReg) (s : State) : Res :=
  .next (s.issue e [rb.toNat] (fun c s1 =>
    let d := c.rd dn.toNat
    let n := (c.rg rb.toNat).toNat
    let len := (descLen d + 2 ^ 32 - n % 2 ^ 32) % 2 ^ 32
    s1.done e (c.wd dn.toNat
      (mkDesc (descValid d && decide (n ≤ descLen d)) (descRead d) (descWrite d) (descSupplied d) (descSpace d) len
        (descAddr d + n)))))

/-- DTRIM: LENGTH = min(LENGTH, rb) (R101). -/
def execDtrim (e : Eng) (dn : DReg) (rb : GReg) (s : State) : Res :=
  .next (s.issue e [rb.toNat] (fun c s1 =>
    let d := c.rd dn.toNat
    s1.done e (c.wd dn.toNat (descMove d (min (descLen d) (c.rg rb.toNat).toNat) (descAddr d)))))

/-- DDROP: clear READ or WRITE (R101). -/
def execDdrop (e : Eng) (dn : DReg) (sh : BitVec 2) (s : State) : Res :=
  .next (s.issue e [] (fun c s1 =>
    let d := c.rd dn.toNat
    s1.done e (c.wd dn.toNat (mkDesc (descValid d) (descRead d && !sh.getLsbD 0) (descWrite d && !sh.getLsbD 1)
      (descSupplied d) (descSpace d) (descLen d) (descAddr d)))))

/-- DGET: ADDRESS, LENGTH or the high half; sh 3 to 31 take ILLEGAL_OP (R101). -/
def execDget (e : Eng) (rd : GReg) (dm : DReg) (sh : BitVec 5) (s : State) : Res :=
  .next (s.issue e [] (fun c s1 =>
    let d := c.rd dm.toNat
    if sh.toNat = 0 then s1.done e (c.wg rd.toNat (BitVec.ofNat 64 (descAddr d)))
    else if sh.toNat = 1 then s1.done e (c.wg rd.toNat (BitVec.ofNat 64 (descLen d)))
    else if sh.toNat = 2 then s1.done e (c.wg rd.toNat (BitVec.ofNat 64 (d >>> 64).toNat))
    else s1.trapTake e 0x01 0))

/-- DCLR: VALID = 0 (R101). -/
def execDclr (e : Eng) (dn : DReg) (s : State) : Res :=
  .next (s.issue e [] (fun c s1 => s1.done e (c.wd dn.toNat (c.rd dn.toNat &&& ~~~(1#128 <<< 127)))))

/-! ### WAIT and TRAP (R102, R104) -/

/-- The registers of a mask (R102). -/
def maskRegs (m : Word) : List Nat := (List.range 32).filter (fun i => m.getLsbD i)

/-- Whether the condition of WAIT ALL or ANY holds: a register not pending counts as written (R102). -/
def maskMet (all : Bool) (c : Ctx) (m : Word) : Bool :=
  if all then (maskRegs m).all (fun i => !c.pend.contains i) else (maskRegs m).any (fun i => !c.pend.contains i)

/-- WAIT ALL (R102): an empty mask goes on at once with pd set. -/
def execWaitAll (e : Eng) (pd : PReg) (ra : GReg) (imm : BitVec 16) (s : State) : Res :=
  .next (s.issue e [ra.toNat] (fun c s1 =>
    if maskMet true c (c.rg ra.toNat) then s1.done e { c with p := predSet c.p pd true }
    else (s1.putCtx e { c with state := .waiting, wait := .mask true ((c.rg ra.toNat).toNat % 2 ^ 32) pd.toNat, imm := imm.toNat }).yields e))

/-- WAIT ANY (R102): an empty mask takes ILLEGAL_OP. -/
def execWaitAny (e : Eng) (pd : PReg) (ra : GReg) (imm : BitVec 16) (s : State) : Res :=
  .next (s.issue e [ra.toNat] (fun c s1 =>
    if maskRegs (c.rg ra.toNat) = [] then s1.trapTake e 0x01 0
    else if maskMet false c (c.rg ra.toNat) then s1.done e { c with p := predSet c.p pd true }
    else (s1.putCtx e { c with state := .waiting, wait := .mask false ((c.rg ra.toNat).toNat % 2 ^ 32) pd.toNat, imm := imm.toNat }).yields e))

/-- WAIT DOORBELL (R102): a doorbell already held meets it at once. -/
def execWaitDoorbell (e : Eng) (pd : PReg) (ra : GReg) (imm : BitVec 16) (s : State) : Res :=
  .next (s.issue e [] (fun c s1 =>
    match c.bells with
    | w :: r => s1.done e { (c.wg ra.toNat w) with bells := r, p := predSet c.p pd true }
    | [] => (s1.putCtx e { c with state := .waiting, wait := .bell ra.toNat pd.toNat, imm := imm.toNat }).yields e))

/-- WAIT SLEEP (R102): imm16 of 0 is a reserved encoding and takes ILLEGAL_OP. -/
def execWaitSleep (e : Eng) (imm : BitVec 16) (s : State) : Res :=
  .next (s.issue e [] (fun c s1 =>
    if imm.toNat = 0 then s1.trapTake e 0x01 0
    else (s1.putCtx e { c with state := .waiting, wait := .sleep, imm := imm.toNat }).yields e))

/-- TRAP takes the TRAP trap with imm16 (R104). -/
def execTrap (e : Eng) (imm : BitVec 16) (s : State) : Res :=
  .next (s.issue e [] (fun _ s1 => s1.trapTake e 0x0D imm.toNat))

/-- A WAIT's timeout, or a SLEEP's period, expires: READY with pd cleared; SLEEP writes no predicate (R102).
A WAIT without a timeout (imm16 = 0) never expires. -/
def execWaitTimeout (e : Eng) (s : State) : Res :=
  let c := s.ctx e
  .next (if c.state ≠ .waiting then s else match c.wait with
    | .mask _ _ pd =>
      if c.imm = 0 then s
      else s.putCtx e { c with state := .ready, wait := .nothing, imm := 0, pc := c.pc + 4, p := setBit c.p pd false }
    | .bell _ pd =>
      if c.imm = 0 then s
      else s.putCtx e { c with state := .ready, wait := .nothing, imm := 0, pc := c.pc + 4, p := setBit c.p pd false }
    | .sleep => s.putCtx e { c with state := .ready, wait := .nothing, imm := 0, pc := c.pc + 4 }
    | _ => s)

/-- A doorbell arrives: it meets a WAIT DOORBELL, or is queued up to four, or its sender gets 0x8040 (R102). DESIGN CHOICE:
R102 gives 0x8040 for a context that holds four; one sent to a FREE context is not delivered either, and its sender gets the
same status (assumption log 24). -/
def execDoorbell (e : Eng) (word : Word) (s : State) : Res :=
  let c := s.ctx e
  .next (match c.state, c.wait with
    | .waiting, .bell ra pd =>
      s.putCtx e { (c.wg ra word) with state := .ready, wait := .nothing, imm := 0, pc := c.pc + 4, p := setBit c.p pd true }
    | _, _ =>
      if c.state = .free ∨ 4 ≤ c.bells.length then s.send (.bell e.key 0x8040)
      else s.putCtx e { c with bells := c.bells ++ [word] })

/-- The watchdog: a READY context that has issued HANDS_WATCHDOG.CYCLES cycles without yielding takes the
WATCHDOG trap (R61). -/
def execWatchdogExpiry (e : Eng) (s : State) : Res :=
  .next (if (s.ctx e).state = .ready then s.trapTake e 0x0C 0 else s)

end Sys2Proof.Machine
end

