-- ==== Sys2Proof/Machine/Tally.lean ====
section
/-! DEFINITION. The Tally: the accelerator operation (R112, R222) and the check units (R217 to R220, R225).
The inline checkers of R221 stand with the arrival of data in the Docket. -/
namespace Sys2Proof.Machine

/-! ### The TALLY operation -/

/-- Reference tag expected for leaf i of an operation that starts at leaf first (R222). -/
def Tag.refFor (g : Tag) (fmt first i : Nat) : Nat := refOf fmt g.piType g.refTag (first + 2 ^ 64 - g.leaf + i)

/-- The failing status of one leaf, or 0 (R222). guardOk is the guard's result. -/
def Tag.leafStatus (g : Tag) (fmt : Nat) (pi : List Byte) (guardOk : Bool) (want : Nat) : Status :=
  let gw := if fmt = 1 then 2 else 8
  let app := beNat ((pi.drop gw).take 2)
  let ref := beNat (pi.drop (gw + 2))
  let ones := 2 ^ (if fmt = 1 then 32 else 48) - 1
  if app = 0xFFFF ∧ (g.piType ≠ 3 ∨ ref = ones) then 0
  else if g.flags.testBit 5 = true ∧ guardOk = false then 0x4053
  else if g.flags.testBit 4 = true ∧ (app &&& g.appMask) ≠ (g.appTag &&& g.appMask) then 0x4055
  else if g.flags.testBit 3 = true ∧ g.piType = 1 ∧ ref ≠ want then 0x4054
  else 0

/-- Whether leaf i of a view keeps its guard: from the checker's record for arrived STAGE data, computed for
any other view (R222). -/
def State.guardHolds (s : State) (unit fmt : Nat) (d : BitVec 128) (i : Nat) (pi : List Byte) : Bool :=
  let a := descAddr d + 4096 * i
  let t := a / 2 ^ 28
  let g := s.tagOf t
  if descSpace d = spSTAGE ∧ g.inbound = true ∧ g.pract = false then !g.guardBad.contains (a % 2 ^ 28 / 4096)
  else decide (beNat (pi.take (if fmt = 1 then 2 else 8)) = guardOf fmt (s.rdSpN unit (descSpace d) a 4096))

/-- The first failing leaf of a view and its status (R222). -/
def State.firstBad (s : State) (unit fmt : Nat) (g : Tag) (da db : BitVec 128) (first : Nat) : List Nat → Option (Nat × Status)
  | [] => none
  | i :: r =>
    let pi := s.rdSpN unit (descSpace db) (descAddr db + metaBytes fmt * i) (metaBytes fmt)
    let st := g.leafStatus fmt pi (s.guardHolds unit fmt da i pi) (g.refFor fmt first i)
    if st = 0 then State.firstBad s unit fmt g da db first r else some (i, st)

/-- CHECK_PI (R112, R222): the first failing leaf in bits [47:16]; each failure counts. -/
def State.checkPi (s : State) (e : Eng) (o : AccelOp) : Nat × State :=
  let g := s.tagOf (s.ctx e).tag
  let fmt := (s.volOf g.vol).format
  match s.firstBad e.unitNo fmt g o.da o.db o.ra.toNat (upto (descLen o.da / 4096)) with
  | none => (0, s)
  | some (i, st) => (st + i % 2 ^ 32 * 2 ^ 16, s.addN R.TALLY_PI_FAIL 1)

/-- GEN_PI (R222): guard, application tag and reference tag of each leaf, big-endian. -/
def State.genPi (s : State) (e : Eng) (o : AccelOp) : Nat × State :=
  let g := s.tagOf (s.ctx e).tag
  let fmt := (s.volOf g.vol).format
  let one (i : Nat) : List Byte :=
    piBytes fmt (guardOf fmt (s.rdSpN e.unitNo (descSpace o.da) (descAddr o.da + 4096 * i) 4096)) g.appTag
      (g.refFor fmt o.ra.toNat i)
  (0, s.wrView e.unitNo o.db ((upto (descLen o.da / 4096)).flatMap one))

/-- Completion of TALLY (R112). -/
def State.tallyDone (s : State) (e : Eng) (o : AccelOp) : Nat × State :=
  match o.imm % 8 with
  | 0 => s.checkPi e o
  | 1 => s.genPi e o
  | f => (0, s.wrView e.unitNo o.db (leBytes 8 (crcMore (f - 2) o.ra.toNat (s.viewBytes e.unitNo o.da))))

/-- Check 4 of R106 for TALLY: functions 0 and 1 are for Hands, need whole leaves, room for their protection
information and a PI_TYPE other than 0 (R112, R222); the others need 8 bytes. -/
def State.tallyForm (s : State) (e : Eng) (c : Ctx) (da db : DReg) (fn : Nat) : Bool :=
  let n := descLen (c.rd da.toNat)
  let m := descLen (c.rd db.toNat)
  if fn < 2 then
    let g := s.tagOf c.tag
    let fmt := (s.volOf g.vol).format
    e.kind = .hand && n % 4096 = 0 && g.piType ≠ 0 && fmt ≠ 0 && decide (n / 4096 * metaBytes fmt ≤ m)
  else decide (8 ≤ m)

/-- Issue of a TALLY operation; the row fixes imm8[2:0] (R112). -/
def State.tallyIssue (s : State) (e : Eng) (rd : GReg) (da db : DReg) (ra : GReg) (imm fn : Nat) : State :=
  s.accelIssue e rd ra (fun c _ => mkAccel .tally c rd (some da) (some db) ra (imm / 8 * 8 + fn)) true
    (fun c => [⟨c.rd da.toNat, true, false⟩, ⟨c.rd db.toNat, fn = 0, fn ≠ 0⟩])
    (fun c s => s.tallyForm e c da db fn)

/-- TALLY CHECK_PI issues (R112). -/
def execTallyCheckPi (e : Eng) (rd : GReg) (da db : DReg) (ra : GReg) (imm : BitVec 8) (s : State) : Res :=
  .next (s.tallyIssue e rd da db ra imm.toNat 0)

/-- TALLY GEN_PI issues (R112). -/
def execTallyGenPi (e : Eng) (rd : GReg) (da db : DReg) (ra : GReg) (imm : BitVec 8) (s : State) : Res :=
  .next (s.tallyIssue e rd da db ra imm.toNat 1)

/-- TALLY CRC64 issues (R112). -/
def execTallyCrc64 (e : Eng) (rd : GReg) (da db : DReg) (ra : GReg) (imm : BitVec 8) (s : State) : Res :=
  .next (s.tallyIssue e rd da db ra imm.toNat 2)

/-- TALLY CRC32C issues (R112). -/
def execTallyCrc32c (e : Eng) (rd : GReg) (da db : DReg) (ra : GReg) (imm : BitVec 8) (s : State) : Res :=
  .next (s.tallyIssue e rd da db ra imm.toNat 3)

/-- TALLY CRC16 issues (R112). -/
def execTallyCrc16 (e : Eng) (rd : GReg) (da db : DReg) (ra : GReg) (imm : BitVec 8) (s : State) : Res :=
  .next (s.tallyIssue e rd da db ra imm.toNat 4)

/-! ### Check units (R217 to R220). A path is 1 SPI, 2 Carrier-M, 3 Sequencer, 4 Council, 5 Strongroom. -/

/-- TALLY_CLAIM.CLAIM: the lowest free unit goes to the claiming path, or 0x80B0 (R218). -/
def execTallyClaim (path : Nat) (s : State) : Res :=
  match (upto 32).find? (fun u => s.getF (F.TALLY_U_CFG_OWNER.at u) = 0) with
  | none => .next (s.stat F.TALLY_CLAIM_STATUS 0x80B0)
  | some u =>
    .next ((((s.setF (F.TALLY_U_CFG_OWNER.at u) path).setF F.TALLY_STATE_CLAIMED
      (setBit (s.getF F.TALLY_STATE_CLAIMED) u true)).setF F.TALLY_CLAIM_GRANTED u).stat F.TALLY_CLAIM_STATUS 0)

/-- A unit is released. -/
def State.unitFree (s : State) (u : Nat) : State :=
  (s.setF (F.TALLY_U_CFG_OWNER.at u) 0).setF F.TALLY_STATE_CLAIMED (setBit (s.getF F.TALLY_STATE_CLAIMED) u false)

/-- TALLY_CLAIM.RELEASE by the owner frees the unit; from any other path it is 0x70B0 (R218). -/
def execTallyRelease (path unit : Nat) (s : State) : Res :=
  if s.getF (F.TALLY_U_CFG_OWNER.at (unit % 32)) = path ∧ path ≠ 0 then
    .next ((s.unitFree (unit % 32)).stat F.TALLY_CLAIM_STATUS 0)
  else .next (s.stat F.TALLY_CLAIM_STATUS 0x70B0)

/-- The owner's path is lost: its claims end (R218). -/
def State.unitsFree (s : State) (path : Nat) : State :=
  (upto 32).foldl (fun s u => if s.getF (F.TALLY_U_CFG_OWNER.at u) = path then s.unitFree u else s) s

/-- A write to a unit's register takes effect only from its owner's path (R218). -/
def State.unitWrite (s : State) (path unit : Nat) (f : Nat → State → State) : State :=
  if s.getF (F.TALLY_U_CFG_OWNER.at (unit % 32)) = path ∧ path ≠ 0 then f (unit % 32) (s.answer 0) else s.answer 0x70B0

/-- COMPARE over the algorithm's width; a mismatch sets the unit's bit, and under TALLY_IRQ_EN writes a LOG
record with the unit, the owner, the value and the expected value (R220). -/
def State.unitCompare (s : State) (u : Nat) : State :=
  let w := crcWidth (s.getF (F.TALLY_U_CFG_ALG.at u))
  let v := s.getF (F.TALLY_U_VALUE_ALL.at u)
  let x := s.getF (F.TALLY_U_EXPECT_ALL.at u)
  if v % 2 ^ w = x % 2 ^ w then (s.setF (F.TALLY_U_CTL_MATCH.at u) 1).setF (F.TALLY_U_CTL_MISMATCH.at u) 0
  else
    let s1 := ((s.setF (F.TALLY_U_CTL_MATCH.at u) 0).setF (F.TALLY_U_CTL_MISMATCH.at u) 1).setF F.TALLY_MISMATCH_VAL
      (setBit (s.getF F.TALLY_MISMATCH_VAL) u true)
    if (s1.getF F.TALLY_IRQ_EN_VAL).testBit u then
      s1.log blkTALLY 0 0 (u * 256 + s1.getF (F.TALLY_U_CFG_OWNER.at u)) (leBytes 8 v ++ leBytes 8 x)
    else s1

/-- With AUTO set, a feed or a write of VALUE compares (R220, R223). -/
def State.unitAuto (s : State) (u : Nat) : State :=
  if s.getF (F.TALLY_U_CTL_AUTO.at u) = 1 then s.unitCompare u else s

/-- Feed n bytes from the low bits of a value, least significant first (R219). -/
def State.unitFeed (s : State) (u n : Nat) (v : Word) : State :=
  let alg := s.getF (F.TALLY_U_CFG_ALG.at u)
  let x := crcMore alg (s.getF (F.TALLY_U_VALUE_ALL.at u)) (leBytes n v.toNat)
  ((s.setF (F.TALLY_U_VALUE_ALL.at u) x).setF (F.TALLY_U_CTL_BYTES.at u)
    (min (2 ^ 32 - 1) (s.getF (F.TALLY_U_CTL_BYTES.at u) + n))).unitAuto u

/-- A write to TALLY_U_FEED_B (R219). -/
def execTallyFeedB (path unit : Nat) (v : Word) (s : State) : Res :=
  .next (s.unitWrite path unit (fun u s => s.unitFeed u 1 v))

/-- A write to TALLY_U_FEED_H (R219). -/
def execTallyFeedH (path unit : Nat) (v : Word) (s : State) : Res :=
  .next (s.unitWrite path unit (fun u s => s.unitFeed u 2 v))

/-- A write to TALLY_U_FEED_W (R219). -/
def execTallyFeedW (path unit : Nat) (v : Word) (s : State) : Res :=
  .next (s.unitWrite path unit (fun u s => s.unitFeed u 4 v))

/-- A write to TALLY_U_FEED_D (R219). -/
def execTallyFeedD (path unit : Nat) (v : Word) (s : State) : Res :=
  .next (s.unitWrite path unit (fun u s => s.unitFeed u 8 v))

/-- A write to TALLY_U_VALUE sets the running state; the value reads as written, over the algorithm's width
(R219, R223). -/
def execTallyValueWrite (path unit : Nat) (v : Word) (s : State) : Res :=
  .next (s.unitWrite path unit (fun u s =>
    (s.setF (F.TALLY_U_VALUE_ALL.at u) (v.toNat % 2 ^ crcWidth (s.getF (F.TALLY_U_CFG_ALG.at u)))).unitAuto u))

/-- The value returns to the initial value of its algorithm, which the final XOR makes zero, and BYTES to 0
(R217, R219). -/
def State.unitReset (s : State) (u : Nat) : State :=
  (s.setF (F.TALLY_U_VALUE_ALL.at u) 0).setF (F.TALLY_U_CTL_BYTES.at u) 0

/-- A write of TALLY_U_CFG.ALG; ALG 3 is reserved and completes with 0x50B0 (R217, R219). -/
def execTallyAlgWrite (path unit alg : Nat) (s : State) : Res :=
  .next (s.unitWrite path unit (fun u s =>
    if 3 ≤ alg then s.answer 0x50B0 else (s.setF (F.TALLY_U_CFG_ALG.at u) alg).unitReset u))

/-- TALLY_U_CTL.COMPARE (R220). -/
def execTallyCompare (path unit : Nat) (s : State) : Res :=
  .next (s.unitWrite path unit (fun u s => s.unitCompare u))

/-- TALLY_U_CTL.RESET (R219). -/
def execTallyReset (path unit : Nat) (s : State) : Res :=
  .next (s.unitWrite path unit (fun u s => s.unitReset u))

end Sys2Proof.Machine
end

