-- ==== Sys2Proof/Machine/Accel.lean ====
section
/-! DEFINITION. Accelerator operations that message, record and control (R117 to R119, R371), and the completion of
every accelerator operation (R58, R66, R108, R120). -/
namespace Sys2Proof.Machine

/-! ### CARRY (R117, R371) -/

/-- The request block of a CARRY: TYPE, FLAGS, KEY, PEER, REG, OFFSET, FRAME or LEN; its reserved bytes and flag bits are
not checked (R12, R371). -/
structure CarryReq where
  type : Nat
  flags : Nat
  key : Nat
  peer : Nat
  reg : Nat
  ofs : Nat
  len : Nat
  deriving DecidableEq, Repr

/-- Read a request block (R371). -/
def parseCarry (l : List Byte) : CarryReq where
  type := fieldAt l 0 1
  flags := fieldAt l 1 1
  key := fieldAt l 2 1
  peer := fieldAt l 4 4
  reg := fieldAt l 8 8
  ofs := fieldAt l 16 8
  len := fieldAt l 24 4

/-- The message body of a CARRY (R358): a READ ends in its RTAG. -/
def CarryReq.body (r : CarryReq) (data : List Byte) (rtag : Nat) : List Byte :=
  match r.type with
  | 0x05 => leBytes 8 r.reg ++ leBytes 8 r.ofs ++ leBytes 4 r.len ++ leBytes 4 0 ++ data
  | 0x06 => leBytes 8 r.reg ++ leBytes 8 r.ofs ++ leBytes 4 r.len ++ leBytes 4 rtag
  | _ => data

/-- The entry of the peer store a CARRY names: a Carrier-M entry where MGMT is set (R363). -/
def CarryReq.entry (r : CarryReq) (mgmt : Bool) : Nat := if mgmt then 65536 + r.peer % 65536 else r.peer % 65536

/-- Whether a Hand may name the peer: its command's, or a replication link's (R371). -/
def State.carryPeerOk (s : State) (e : Eng) (c : Ctx) (r : CarryReq) : Bool :=
  e.kind ≠ .hand || r.peer = (s.tagOf c.tag).peer ||
    (upto 16).any (fun k => s.linkState k ≠ 0 && s.getF (F.SIEVE_REPL_PEER_VAL.at k) = r.peer)

/-- Check 4 of R106 for CARRY (R371): TYPE, peer, vault and body length. Messages with MGMT use WRITE, READ and CRIER
(R358). -/
def State.carryForm (s : State) (e : Eng) (c : Ctx) (da db : DReg) (imm : Nat) : Bool :=
  let d := c.rd da.toNat
  let r := parseCarry (s.viewBytes e.unitNo d)
  let n := if imm.testBit 0 then descLen (c.rd db.toNat) else 0
  let mgmt := imm.testBit 2
  decide (32 ≤ descLen d) &&
    (if mgmt then [0x05, 0x06, 0x1A].contains r.type else [0x05, 0x06, 0x16].contains r.type) &&
    s.carryPeerOk e c r &&
    (e.kind ≠ .hand || !r.flags.testBit 1 || r.key = c.vault) &&
    (if r.type = 0x06 then decide (r.len ≤ n) && decide (r.len ≤ 1048552)
     else if r.type = 0x05 then decide (n + 24 ≤ 1048576) else decide (n ≤ 1048576))

/-- CARRY issues (R117): Hands without MGMT, Council cores with it; a header outside the pocket is no permitted descriptor
(check 2 of R106). -/
def execCarry (e : Eng) (rd : GReg) (da db : DReg) (ra : GReg) (imm : BitVec 8) (s : State) : Res :=
  let im := imm.toNat
  .next (s.accelIssue e rd ra (fun c _ => mkAccel .carry c rd (some da) (if im.testBit 0 then some db else none) ra im)
    ((e.kind = .hand && !im.testBit 2) || (e.kind = .council && im.testBit 2))
    (fun c =>
      let d := c.rd da.toNat
      let read := fieldAt (s.viewBytes e.unitNo d) 0 1 = 0x06
      ⟨if descSpace d = spPOCKET then d else 0, true, false⟩ :: (if im.testBit 0 then [⟨c.rd db.toNat, !read, read⟩] else []))
    (fun c s => s.carryForm e c da db im))

/-- Put a record of a CARRY that has been sent. -/
def State.putCarry (s : State) (n : Nat) (j : CarryJob) : State :=
  { s with car := { s.car with carries := s.car.carries.set n j } }

/-- Send a CARRY: the word at once where it does not wait, or the operation as it stands outstanding (R117, R371). A number
whose generation still matches creates its entry anew after an eviction (R363). -/
def State.carrySend (s0 : State) (e : Eng) (o : AccelOp) : Option Nat × AccelOp × State :=
  let r := parseCarry (s0.viewBytes e.unitNo o.da)
  let i := r.entry (o.imm.testBit 2)
  let p := s0.peerAt i
  let s := if p.used = false ∧ p.gen ≠ 0 ∧ p.gen = r.peer / 65536 % 65536 then
    (s0.putPeer i { p with used := true, state := 0, rxEpoch := 0, floor := 0, taken := [], lastRx := s0.time }).sendSide i else s0
  let data := if o.imm.testBit 0 ∧ r.type ≠ 0x06 then s.viewBytes e.unitNo o.db else []
  if p.gen = 0 ∨ p.gen ≠ r.peer / 65536 % 65536 then (some 0x8113, o, s)
  else if p.used ∧ p.state = 2 then (some 0x8112, o, s)
  else
    let n := s.car.nextCarry
    let rtag := s.car.nextRtag
    let flags := r.flags % 4 + (if o.imm.testBit 2 then 16 else 0) + 256 * r.key
    let job : CarryJob := { used := true, peer := r.peer, done := false, status := 0, bytes := data.length, unit := e.unitNo,
                            db := o.db, len := if r.type = 0x06 then r.len else 0 }
    let s1 : State := { s with car := { s.car with
      nextCarry := n + 1
      carries := s.car.carries.set n job
      nextRtag := if r.type = 0x06 then (rtag + 1) % 2 ^ 32 else rtag
      reads := if r.type = 0x06 then s.car.reads.set rtag { carry := n + 1, tag := 0, len := r.len, got := 0, parts := [] } else s.car.reads } }
    let s2 := s1.carSendAt i r.type flags (r.body data rtag) (.carry n)
    let s3 := if r.type = 0x16 then s2.replCount data else s2
    if o.imm.testBit 1 = false ∧ r.type ≠ 0x06 then (some (data.length * 2 ^ 16), o, s3.putCarry n default)
    else (none, { o with admitted := true, n := n }, s3)

/-- The outcome of a CARRY that was sent, once it is known. -/
def State.carryEnd (s : State) (o : AccelOp) : Option Nat × State :=
  let j := s.car.carries.get o.n
  if j.done then (some (j.status + j.bytes % 2 ^ 32 * 2 ^ 16), s.putCarry o.n default) else (none, s)

/-! ### EMIT and REEVE.E (R118) -/

/-- The source number of an engine (R462). -/
def engSource (e : Eng) : Nat :=
  match e.kind with
  | .hand => e.unit % 16
  | .sequencer => 16 + e.unit % 4
  | .council => 20 + e.unit % 3
  | .strongroom => 23

/-- Whether a code lies in its channel's program range (R468). -/
def emitCode (chan code : Nat) : Bool :=
  match chan with
  | 0 => decide (0x8200 ≤ code) && decide (code ≤ 0x83FF)
  | 1 => decide (0x4200 ≤ code) && decide (code ≤ 0x7FFF)
  | 2 => decide (0x1000 ≤ code) && decide (code ≤ 0x3FFF)
  | _ => false

/-- EMIT issues (R118, R468): a body of 1 to 48 bytes where BODY is set. -/
def execEmit (e : Eng) (rd : GReg) (da _db : DReg) (ra : GReg) (imm : BitVec 8) (s : State) : Res :=
  let im := imm.toNat
  .next (s.accelIssue e rd ra
    (fun c _ => mkAccel .emit c rd (if im.testBit 2 then some da else none) none ra im) true
    (fun c => if im.testBit 2 then [⟨c.rd da.toNat, true, false⟩] else [])
    (fun c _ =>
      let n := descLen (c.rd da.toNat)
      emitCode (im % 4) ((c.rg ra.toNat).toNat / 2 ^ 48) &&
        (!im.testBit 2 || (decide (1 ≤ n) && decide (n ≤ 48)))))

/-- The Crier accepts the record of an EMIT (R118, R473). -/
def State.emitDone (s : State) (e : Eng) (o : AccelOp) : State :=
  let body := if o.imm.testBit 2 then s.viewBytes e.unitNo o.da else []
  let r := s.mkRec (o.ra.toNat / 2 ^ 48) (engSource e) (o.imm % 4) (o.ra.toNat % 2 ^ 48) body
  match o.imm % 4 with
  | 0 => (s.crierAlarm r).tick
  | 1 => (s.crierLog r).tick
  | _ => (s.crierTrace r).tick

/-- REEVE.E issues (R118): db is 8 bytes. -/
def execReeveE (e : Eng) (rd : GReg) (_da db : DReg) (ra : GReg) (imm : BitVec 8) (s : State) : Res :=
  .next (s.accelIssue e rd ra (fun c _ => mkAccel .reeveE c rd none (some db) ra imm.toNat) true
    (fun c => [⟨c.rd db.toNat, false, true⟩]) (fun c _ => descLen (c.rd db.toNat) = 8))

/-- An event takes a Reeve number (R118, R461). -/
def State.reeveDone (s : State) (e : Eng) (o : AccelOp) : Nat × State :=
  let n := s.now
  (n % 2 ^ 48 * 2 ^ 16, (s.wrView e.unitNo o.db (leBytes 8 n)).tick)

/-! ### Privileged operations (R119) -/

/-- Issue of a privileged operation that reads da. -/
def State.privIssueD (s : State) (e : Eng) (rd : GReg) (da : DReg) (ra : GReg) (minor : Nat) (kind : EngKind)
    (ok : Ctx → Bool) : State :=
  s.accelIssue e rd ra (fun c _ => mkAccel .priv c rd (some da) none ra minor) (e.kind = kind)
    (fun c => [⟨c.rd da.toNat, true, false⟩]) (fun c _ => ok c)

/-- PRIV TOLL.CAP issues: da is the 72-byte capacity block (R119, R150). -/
def execTollCap (e : Eng) (rd : GReg) (da : DReg) (s : State) : Res :=
  .next (s.privIssueD e rd da 0 0x10 .council (fun c => descLen (c.rd da.toNat) = 72))

/-- PRIV HAND.RETIRE issues (R119). -/
def execHandRetire (e : Eng) (rd ra : GReg) (s : State) : Res := .next (s.privIssue e rd ra 0x11 .council (fun _ _ => true))

/-- PRIV PRESS.TARGET issues (R119). -/
def execPressTarget (e : Eng) (rd ra : GReg) (s : State) : Res := .next (s.privIssue e rd ra 0x12 .council (fun _ _ => true))

/-- PRIV SPARE.CALL issues (R119). -/
def execSpareCall (e : Eng) (rd ra : GReg) (s : State) : Res := .next (s.privIssue e rd ra 0x13 .council (fun _ _ => true))

/-- PRIV REEL.PUT issues: da is one reel record, a header and at most 16 MiB of body (R119, R482). -/
def execReelPut (e : Eng) (rd : GReg) (da : DReg) (s : State) : Res :=
  .next (s.privIssueD e rd da 0 0x14 .council (fun c =>
    decide (32 ≤ descLen (c.rd da.toNat)) && decide (descLen (c.rd da.toNat) ≤ 16777216 + 32)))

/-- PRIV KEY.LOAD issues (R119, R197). -/
def execKeyLoad (e : Eng) (rd : GReg) (da : DReg) (ra : GReg) (s : State) : Res :=
  .next (s.privIssueD e rd da ra 0x20 .strongroom (fun _ => true))

/-- PRIV KEY.ZERO issues: the slot is ZEROING from its acceptance (R119, R198). -/
def execKeyZero (e : Eng) (rd ra : GReg) (s : State) : Res :=
  let slot := ((s.ctx e).rg ra.toNat).toNat % 512
  let s1 := s.accelIssue e rd ra (fun c s => { mkAccel .priv c rd none none ra 0x21 with n := (s.zeroAccept slot).1 })
    (e.kind = .strongroom) (fun _ => []) (fun _ _ => true)
  .next (s.thenIf e s1 (fun s => (s.zeroAccept slot).2))

/-- PRIV MILL.LOCK issues: its place among waiting requests is its Reeve number (R119, R205). -/
def execMillLock (e : Eng) (rd ra : GReg) (s : State) : Res :=
  let s1 := s.accelIssue e rd ra (fun c s => { mkAccel .priv c rd none none ra 0x22 with n := s.now })
    (e.kind = .strongroom) (fun _ => []) (fun _ _ => true)
  .next (s.thenIf e s1 (fun s => s.tick))

/-- PRIV MILL.FREE issues (R119, R206). -/
def execMillFree (e : Eng) (rd ra : GReg) (s : State) : Res := .next (s.privIssue e rd ra 0x23 .strongroom (fun _ _ => true))

/-- A privileged operation completes: a Council core's is its ballot (R119, R418). input is the Reeve number of the
last input it consumed. -/
def State.privDone (s : State) (e : Eng) (o : AccelOp) (input : Nat) : Option Nat × State :=
  match o.imm with
  | 0x20 => let r := s.keyLoad (s.viewBytes e.unitNo o.da) o.ra.toNat; (some (outcomeWord r.1 0), r.2)
  | 0x21 => s.zeroTry o
  | 0x22 => s.lockTry o
  | 0x23 => let r := s.lockRelease o; (some r.1, r.2)
  | m =>
    if m < 0x10 then let r := s.sqDone o; (some r.1, r.2)
    else s.cast ⟨e.unit % 3, m, o.ra.toNat, if m = 0x10 ∨ m = 0x14 then s.viewBytes e.unitNo o.da else [], input, s.time⟩

/-! ### Completion (R58, R66, R108, R120) -/

/-- A context whose wait is met goes on (R56, R59, R60, R102, R103). -/
def State.wake (s : State) (e : Eng) : State :=
  let c := s.ctx e
  if c.state ≠ .waiting then s
  else match c.wait with
    | .reg r => if c.pend.contains r then s else s.putCtx e { c with state := .ready, wait := .nothing, issued := true }
    | .slot => if c.ops.length < 8 then s.putCtx e { c with state := .ready, wait := .nothing } else s
    | .mask all m pd =>
      if maskMet all c (BitVec.ofNat 64 m) then
        s.putCtx e { c with state := .ready, wait := .nothing, imm := 0, pc := c.pc + 4, p := setBit c.p pd true }
      else s
    | .ending ra => if c.ops.isEmpty then s.endGo e ra else s
    | _ => s

/-- Put back an operation that stays outstanding. -/
def State.putOp (s : State) (e : Eng) (i : Nat) (o : AccelOp) : State :=
  let c := s.ctx e
  s.putCtx e { c with ops := c.ops.set i o }

/-- An operation leaves its context with its completion word; a killed context's word is discarded, and its group
with it (R58, R120). -/
def State.accelEnd (s : State) (e : Eng) (i w : Nat) : State :=
  let c := s.ctx e
  match c.ops[i]? with
  | none => s
  | some o =>
    let c1 := { c with ops := c.ops.eraseIdx i }
    let s := if o.op = .pressC ∨ o.op = .pressD then s.pressDrop (fun j => j.id = o.id)
      else if o.op = .seal ∨ o.op = .unseal then s.millDrop (fun m => m.id = o.id) else s
    let s0 := if o.op = .pressC ∧ s.press.closing.contains (o.ra.toNat % 2 ^ 16) then
        (s.putCtx e c1).streamClose (o.ra.toNat % 2 ^ 16)
      else s.putCtx e c1
    if c.state = .halted then (s0.discardGroup e.key).heldFreeAll e.key
    else
      let c2 := s0.ctx e
      ((s0.putCtx e { (c2.wg o.rd (BitVec.ofNat 64 w)) with pend := c2.pend.filter (fun r => r ≠ o.rd) }).wake e)

/-- A global view that covers a poisoned line (R431). -/
def State.viewPoisoned (s : State) (d : BitVec 128) : Bool :=
  descValid d && descSpace d = spGLOBAL && s.poisoned (descAddr d) (descLen d)

/-- Whether an operation reads its db. -/
def AccelOp.readsDb (o : AccelOp) : Bool :=
  match o.op with
  | .sieve => o.imm % 4 = 1
  | .tally => o.imm % 8 = 0
  | .carry => true
  | .sledOp => o.imm % 8 = 2
  | .mapU => true
  | _ => false

/-- The lines of an operation's global views are read and written at the Larder (R424). -/
def State.viewsTouch (s : State) (o : AccelOp) : State :=
  let s1 := if descValid o.da ∧ descSpace o.da = spGLOBAL then s.spanRead (descAddr o.da) (descLen o.da) else s
  let s2 := if descValid o.db ∧ descSpace o.db = spGLOBAL then
      (if o.readsDb then s1.spanRead (descAddr o.db) (descLen o.db) else s1.spanStore (descAddr o.db) (descLen o.db))
    else s1
  if descValid o.dc ∧ descSpace o.dc = spGLOBAL then s2.spanStore (descAddr o.dc) (descLen o.dc) else s2

/-- MAP.U without GROUP: judged, committed alone, and complete once the partner's ACK covers its records (R114,
R120, R280). -/
def State.mapUDone (s : State) (e : Eng) (o : AccelOp) : Option Nat × AccelOp × State :=
  if o.admitted then
    (if s.mirrors = true ∧ s.cf.acked < o.n then none else some 0, o, s)
  else match s.mapUJudge e o with
    | (some w, s1) => (some w, o, s1)
    | (none, s1) =>
      let s2 := s1.mapUCommit e o
      if s2.mirrors = true ∧ s2.cf.acked < s2.cf.txSeq then (none, { o with admitted := true, n := s2.cf.txSeq }, s2)
      else (some 0, o, s2)

/-- An operation's effect: its completion word, or none while it stays outstanding, and the operation as it stands. -/
def State.accelDone (s : State) (e : Eng) (o : AccelOp) (env : Env) : Option Nat × AccelOp × State :=
  let c := s.ctx e
  let full (r : Nat × State) : Option Nat × AccelOp × State := (some r.1, o, r.2)
  let part (r : Option Nat × State) : Option Nat × AccelOp × State := (r.1, o, r.2)
  match o.op with
  | .pressC => part (s.pressCStep e o c.tag env)
  | .pressD => part (s.pressDStep e c o c.tag)
  | .seal => part (s.sealDone e o c.tag)
  | .unseal => part (s.sealDone e o c.tag)
  | .assay => if s.assayWaits c o then (none, o, s) else full (s.assayDone e c o env)
  | .tally => full (s.tallyDone e o)
  | .sieve => part (s.sieveDone e o)
  | .mapL => part (s.mapLDone e o)
  | .mapU => s.mapUDone e o
  | .tillP =>
    let r := s.tillPDone e o
    (r.1, o, if c.state = .halted then { r.2 with docket := { r.2.docket with tags := s.docket.tags } } else r.2)
  | .sledOp => s.sledDone e o env
  | .carry => if o.admitted then part (s.carryEnd o) else s.carrySend e o
  | .emit => (some 0, o, s.emitDone e o)
  | .reeveE => full (s.reeveDone e o)
  | .priv => part (s.privDone e o env.n)

/-- Whether an operation of an aborted tag may still complete normally: a TILL.P decides for itself, a MAP.U whose
record stands in the Till does (R120). -/
def AccelOp.committing (o : AccelOp) : Bool := o.op = .tillP || (o.op = .mapU && o.admitted)

/-- Whether a failure of its unit, and of the spare that repeats it, may still end an operation with 0xF050 (R108, R120): not
once it is admitted, not the zeroing of a key, and not at the Press and the Mill, whose lanes and cores fail by events of their
own (R188, R206). -/
def State.mayFail (s : State) (o : AccelOp) : Bool :=
  match o.op with
  | .pressC => false
  | .pressD => false
  | .seal => false
  | .unseal => false
  | .tillP => (s.placeOf o.n).phase = 1
  | .priv => o.imm ≠ 0x21
  | _ => !o.admitted

/-- An accelerator operation, the i-th outstanding of its context, completes (R58): with 0x6050 and no effect where
the tag was aborted (R120), with 0xF140 and no effect where it would read a poisoned line (R431), with 0xF050 and no effect
where its unit and the spare failed (R108). -/
def execAccelCompletion (e : Eng) (slot : Nat) (env : Env) (s : State) : Res :=
  let c := s.ctx e
  .next (match c.ops[slot]? with
    | none => s
    | some o0 =>
      let ab := e.kind = .hand && c.state ≠ .halted && (s.tagOf c.tag).aborted
      let o := { o0 with aborted := ab }
      if c.state = .free then s
      else if ab = true ∧ o.committing = false then
        (if o.op = .carry ∧ o.admitted = true then s.putCarry o.n default else s).accelEnd e slot 0x6050
      else if s.viewPoisoned o.da = true ∨ (o.readsDb = true ∧ s.viewPoisoned o.db = true) then s.accelEnd e slot 0xF140
      else if env.status = 0xF050 ∧ s.mayFail o = true then
        (if o.op = .tillP then s.putPlace o.n default else s).accelEnd e slot 0xF050
      else
        match s.accelDone e o env with
        | (some w, _, s1) =>
          let s2 := (s1.viewsTouch o).accelEnd e slot w
          if o.op = .seal ∨ o.op = .unseal then s2.zeroSweep else s2
        | (none, o1, s1) => if ((s1.ctx e).ops[slot]?.elim 0 AccelOp.id) = o1.id then s1.putOp e slot o1 else s1)

/-- A waiting MILL.LOCK is granted once a core frees (R205). -/
def execMillLockGranted (e : Eng) (slot : Nat) (s : State) : Res :=
  .next (match (s.ctx e).ops[slot]? with
    | some o =>
      if o.op = .priv ∧ o.imm = 0x22 then
        (match s.lockTry o with
        | (some w, s1) => s1.accelEnd e slot w
        | (none, s1) => s1)
      else s
    | none => s)

/-- The earlier operations on a ZEROING slot have drained: KEY.ZERO completes (R198). -/
def execKeyZeroDrained (e : Eng) (slot : Nat) (s : State) : Res :=
  .next (match (s.ctx e).ops[slot]? with
    | some o =>
      if o.op = .priv ∧ o.imm = 0x21 then
        (match s.zeroTry o with
        | (some w, s1) => s1.accelEnd e slot w
        | (none, s1) => s1)
      else s
    | none => s)

/-- Bucket pages are not in HBM within 10 ms: a LOOKUP that reads them completes with 0x8050 and takes no reference (R232). -/
def execSievePageTimeout (e : Eng) (slot : Nat) (s : State) : Res :=
  .next (match (s.ctx e).ops[slot]? with
    | some o =>
      let k := s.fpOf e o
      if o.op = .sieve ∧ o.imm % 4 = 0 ∧ s.excludedFor e k = false ∧ s.lookupReads k = true then
        (s.addN R.SIEVE_UNAVAIL 1).accelEnd e slot 0x8050
      else s
    | none => s)

/-- A map page fetch completes and the waiting MAP.L is answered, unless an abort was caught (R120, R279). -/
def execMapPageFetched (e : Eng) (slot : Nat) (lost : Bool) (s : State) : Res :=
  .next (match (s.ctx e).ops[slot]? with
    | some o =>
      if o.op ≠ .mapL then s
      else if e.kind = .hand ∧ (s.ctx e).state ≠ .halted ∧ (s.tagOf (s.ctx e).tag).aborted = true then s.accelEnd e slot 0x6050
      else
        let r := (s.countEv 0x0A 1 16).mapFetched e o lost
        r.2.accelEnd e slot r.1
    | none => s)

end Sys2Proof.Machine
end

