-- ==== Sys2Proof/Machine/Pair.lean ====
section
/-! DEFINITION. Heartbeats, the fence lines, who takes over, failback, drills and management's mode requests (R35, R402 to
R417, R422). -/
namespace Sys2Proof.Machine

/-! ### Liveness (R402, R403) -/

/-- Every 1 ms a HEARTBEAT goes, while ALIVE advanced within the last 10 ms (R402): operating seconds, mode, grade,
TILL_LIMIT in units of 256 MiB (R257). -/
def execHeartbeatTick (s : State) : Res :=
  .next (if s.power = .on ∧ s.selfFenced = false ∧ s.cfUp = true ∧ s.getF F.COUNCIL_STATE_ALIVE ≠ 0 ∧ s.time ≤ s.pair.aliveAt + 10000 then
    s.sendStub 0x01 (leBytes 8 s.opsec ++ leBytes 1 s.mode.code ++ leBytes 1 s.grade ++ leBytes 2 0 ++
      leBytes 4 (s.getN R.TILL_LIMIT / budgetUnit))
    else s)

/-- Stages of a drill that the head which is not drilled watches (R417): no reported pulse within 2 ALIVE ticks fails bit
0, no fence within 2 ticks of FENCE_OUT fails bit 1; either stops the drill. -/
def State.drillWatch (s : State) : State :=
  match s.pair.drill with
  | none => s
  | some d =>
    if d.slot = s.slotNo ∨ s.mode ≠ .paired then s
    else if d.wait < 2 then s.putDrill { d with wait := d.wait + 1 }
    else if d.fenced then ((s.putDrill { d with failed := d.failed ||| 2 }).fenceDrive false).drillClose
    else (s.putDrill { d with failed := d.failed ||| 1 }).drillClose

/-- The Council advances ALIVE at least every 5 ms, unless it has halted (R402, R419). -/
def execAliveTick (s : State) : Res :=
  .next (if s.getF F.COUNCIL_STATE_HALTED = 1 ∨ s.power ≠ .on then s else (s.alive).drillWatch)

/-- The head fences itself: it stops heartbeats, releases FENCE_OUT, takes nothing, changes nothing on the sleds and
completes nothing (R403). Before BL-22 is done the rule does not apply. -/
def execSelfFence (s : State) : Res :=
  .next (
    if (s.mode = .bootstrap ∧ s.getF F.IDENT_START_STEP ≤ 22) ∨ s.mode = .holdup ∨ s.selfFenced = true ∨ s.power ≠ .on then s
    else
      let keys := (s.hands.ctxs.filter (fun p => p.2.state ≠ .free)).map Prod.fst
      let s1 := keys.foldl State.ctxDrop ((s.fenceDrive false).setF F.COUNCIL_PAIR_SELF_FENCED 1)
      let s2 := { s1 with pair := { s1.pair with drill := none, pulseOut := false } }.gapEnd
      (s2.serveStop).alarm blkCOUNCIL 9 0 (s.getF F.COUNCIL_STATE_ALIVE) [])

/-! ### The fence lines (R404, R405) -/

/-- FENCE_IN has stood asserted for 5 ms (R404, R405, R406). A head that serves its home commons stops; one that serves
alone only writes an ALARM, unless it is slot B asserting too. -/
def execFenceInEffect (s : State) : Res :=
  .next (
    let s1 := ({ s with pins := { s.pins with fenceIn := true } }.setF F.COUNCIL_PAIR_FENCE_IN_RAW 1).setF F.COUNCIL_PAIR_FENCE_IN 1
    if s.power ≠ .on ∨ s.selfFenced = true then s1
    else if s.bothServe then
      match s.pair.drill with
      | some d =>
        if d.slot = s.slotNo then (s1.sendAct 7 0 0 2 0 0 s1.drillDirty).fencedNow 5 else s1.fencedNow 2
      | none => s1.fencedNow 2
    else if s.alone then
      let s2 := s1.alarm blkCOUNCIL 0 0 4 []
      if s.slotNo = 1 ∧ s.pins.fenceOut = true ∧ s.pair.pulseOut = false then (s2.fenceDrive false).fencedNow 2 else s2
    else s1)

/-- A pulse on FENCE_IN shorter than 5 ms is counted and reported (R404, R417). -/
def execFenceInPulse (s : State) : Res :=
  .next (
    if s.power ≠ .on then s
    else
      let s1 := (s.addF F.COUNCIL_PAIR_TEST_PULSES 1).sendAct 7 0 0 1 0 0 []
      match s1.pair.drill with
      | some d => (s1.putDrill { d with seen := true }).drillFence
      | none => s1)

/-- FENCE_IN is deasserted: no longer in effect (R404). -/
def execFenceInRelease (s : State) : Res :=
  .next (({ s with pins := { s.pins with fenceIn := false } }.setF F.COUNCIL_PAIR_FENCE_IN_RAW 0).setF F.COUNCIL_PAIR_FENCE_IN 0)

/-- A test pulse ends: FENCE_OUT is deasserted, unless the drill has asserted it in earnest meanwhile (R404, R415). -/
def execTestPulseEnd (s : State) : Res :=
  .next (
    if s.pair.pulseOut = false then s
    else
      let s1 := { s with pair := { s.pair with pulseOut := false } }
      let held := match s.pair.drill with | some d => d.fenced && decide (d.slot ≠ s.slotNo) | none => false
      if held then s1 else s1.fenceDrive false)

/-! ### Losing the partner (R406, R412, R422) -/

/-- A drill under way when the partner is lost ends with bit 8 (R422). -/
def State.drillLost (s : State) : State :=
  match s.pair.drill with
  | some d => s.drillEnd (d.failed ||| 256) d.gap
  | none => s

/-- The partner is lost (R402): while its HOLDUP_NOTICE stands and the link is up, R269 governs. A joining head whose
checks had passed goes back to waiting (R52). -/
def execPartnerLost (fl : List FlashCmn) (s : State) : Res :=
  .next (
    if s.power ≠ .on ∨ s.getF F.COUNCIL_PAIR_HB = 0 ∨ (s.cf.holdup = true ∧ s.cfUp = true) then s
    else
      let s1 := { s with cf := { s.cf with holdup := false } }.hbSet 0
      if s.mode = .joining then
        let s2 := { s1 with pair := { s1.pair with joinMine := false, joined := false } }
        if s.pair.joined then s2.log blkIDENT 0 0 0 [] else s2
      else (s1.lossGo fl).drillLost)

/-- A second head's 30 ms pass: it acts if FENCE_IN is not in effect (R406). -/
def execSecondWaitExpiry (fl : List FlashCmn) (s : State) : Res :=
  .next (
    if s.pair.second = 0 then s
    else
      let s1 := { s with pair := { s.pair with second := 0 } }
      if s1.lossRole = 2 ∧ s1.fencedIn = false then (s1.act fl (if s.mode = .joining then 3 else 8) 1).drillLost else s1.gapEnd)

/-- IDENT_JOIN.WAIT passes in JOINING without the partner (R51, R406). -/
def execJoinWaitExpiry (fl : List FlashCmn) (s : State) : Res :=
  .next (if s.mode = .joining ∧ s.partnerHere = false then s.lossGo fl else s)

/-- The standby's hold-off ends: it asks the head that serves for its commons (R412, R413). -/
def execFailbackHoldoffExpiry (s : State) : Res :=
  .next (
    if s.mode = .service ∧ s.getF F.COUNCIL_FAILBACK_STATE = 1 ∧ s.grade = 0 ∧ s.partnerHere = true ∧ (s.pairFeat 6 = true ∨ s.strong.rolling = true) then
      ((s.setF F.COUNCIL_FAILBACK_STATE 3).setF F.COUNCIL_FAILBACK_LEFT 0).sendAct 6 0 0 0 4 0 []
    else s)

/-! ### Drills (R415, R416) -/

/-- Whether the pool is HEALTHY with no rebuild running (R416). -/
def State.poolQuiet (s : State) : Bool :=
  s.getF F.HOLD_STATE_STATE = 0 && s.hold.formed.all (fun c =>
    s.getF (F.HOLD_CMN_REBUILD_TWOPAGE.at c) = 0 && s.getF (F.HOLD_CMN_REBUILD_OTHER.at c) = 0)

/-- Whether both heads are in PAIRED under FULL (R416). -/
def State.pairFull (s : State) : Bool :=
  s.mode = .paired && s.cf.partnerMode = 3 && s.grade = 0 && s.cf.partnerGrade = 0

/-- Start a drill where R416 allows it; else defer it with a retry-after. -/
def State.drillTry (s : State) : State :=
  let takes := ((s.toll.takes.filter (fun p => p.2.kept?)).map (fun p => p.2.load s.opsec)) ++ s.partnerAll
  if s.pairFull = true ∧ s.poolQuiet = true ∧ s.drillTakesFit = true then
    let slot := 1 - s.getF F.COUNCIL_DRILL_RESULT_SLOT
    ((s.setF F.COUNCIL_DRILL_CTL_RETRY_MS 0).stat F.COUNCIL_DRILL_CTL_STATUS 0 |>.sendAct 7 0 0 0 slot 0 []).drillBegin slot
  else
    let ms := if s.pairFull = true ∧ s.poolQuiet = true then earliestKept takes else 3600000
    let s1 := (s.setF F.COUNCIL_DRILL_CTL_RETRY_MS ms).stat F.COUNCIL_DRILL_CTL_STATUS 0x2130
    { s1 with pair := { s1.pair with drillAt := s.opsec + (ms + 999) / 1000 } }

/-- INTERVAL_H has passed, or a deferred drill's time has come: the slot A Council starts it (R415, R416). -/
def execDrillDue (s : State) : Res :=
  .next (
    if s.power ≠ .on ∨ s.slotNo ≠ 0 ∨ s.pairFeat 5 = false ∨ s.getF F.COUNCIL_DRILL_CFG_ENABLE = 0 ∨ s.getF F.COUNCIL_DRILL_CTL_BUSY = 1 ∨
      s.pair.move.isSome = true then s
    else s.drillTry)

/-- COUNCIL_DRILL_CTL.GO (R415, R416, R423). -/
def execCouncilDrillGo (s : State) : Res :=
  .next (
    if s.mode ≠ .paired then s.stat F.COUNCIL_DRILL_CTL_STATUS 0x7130
    else if s.getF F.COUNCIL_DRILL_CTL_BUSY = 1 ∨ s.pair.move.isSome = true then s.stat F.COUNCIL_DRILL_CTL_STATUS 0x8130
    else s.drillTry)

/-- HOLD_S seconds of stable service have passed: the commons fail back, whatever HOLDOFF says (R415). -/
def execDrillHoldExpiry (s : State) : Res :=
  .next (match s.pair.drill with
    | some d =>
      if d.slot ≠ s.slotNo ∧ s.mode = .solo ∧ s.partnerHere = true ∧ s.pair.move.isSome = false then
        s.moveStart 5 ((s.homed (1 - s.slotNo)).filter (fun c => s.owns c))
      else s
    | none => s)

/-! ### Management's mode requests (R34, R35) -/

/-- Spares are restored: neither this head's Steward holds the pool read-only, nor does a partner that is here and sealed it
(R35, R322, R323, assumption log 48). -/
def State.unsealed (s : State) : Bool :=
  s.getF F.STEWARD_MEDIA_STATE_SEALING = 0 && !(s.cf.sealBy && s.partnerHere)

/-- SERVICE, from PAIRED: the head's home commons are handed to the partner (R35, R413). -/
def execModeReqService (s : State) : Res :=
  .next (s.modeReq (fun s =>
    let f := F.IDENT_MODE_REQ_STATUS
    if s.serviceStatus ≠ 0 then s.stat f s.serviceStatus else s.serviceAsk))

/-- PAIRED, from SERVICE: the partner hands this head's home commons back; from SEALED, once spares are restored (R35). -/
def execModeReqPaired (s : State) : Res :=
  .next (s.modeReq (fun s =>
    let f := F.IDENT_MODE_REQ_STATUS
    if s.mode = .service then
      if s.partnerHere = true ∧ (s.cf.partnerMode = 3 ∨ s.cf.partnerMode = 4) then
        ((s.modeAsk 3).setF F.COUNCIL_FAILBACK_STATE 3).sendAct 6 0 0 0 4 0 []
      else s.stat f 0x7020
    else if s.mode = .sealedMode then
      if s.unsealed = false then s.stat f 0x7020
      else if s.bothServe then (s.pairUp 0x0F).stat f 0
      else if s.cf.standby = true ∧ s.partnerHere = true then
        (s.modeAsk 3).moveStart 4 ((s.homed (1 - s.slotNo)).filter (fun c => s.owns c))
      else s.stat f 0x7020
    else s.stat f 0x5020))

/-- SOLO, from SEALED with the partner absent and spares restored (R35). -/
def execModeReqSolo (s : State) : Res :=
  .next (s.modeReq (fun s =>
    let f := F.IDENT_MODE_REQ_STATUS
    if s.mode ≠ .sealedMode then s.stat f 0x5020
    else if s.partnerHere = true ∨ s.unsealed = false then s.stat f 0x7020
    else ((s.setMode .solo 0x0F).saddrServe).stat f 0))

/-- JOINING, from SERVICE (R35). -/
def execModeReqJoining (s : State) : Res :=
  .next (s.modeReq (fun s =>
    if s.mode = .service then (s.joinBegin 0x0A).stat F.IDENT_MODE_REQ_STATUS 0 else s.stat F.IDENT_MODE_REQ_STATUS 0x5020))

/-- A mode no request permits (R35). -/
def execModeReqInvalid (s : State) : Res := .next (s.modeReq (fun s => s.stat F.IDENT_MODE_REQ_STATUS 0x5020))

/-! ### Service addresses (R409) and the slot strap (R523) -/

/-- An announcement of a served address falls due: for its IPv6 address, and for its IPv4 address where feature 68 is
accepted and one is configured (R409). -/
def execSaddrAnnounce (saddr : Nat) (s : State) : Res :=
  let i := saddr % 16
  .next (
    if s.getF (F.FABRIC_SADDR_STATE_SERVING.at i) = 0 ∨ s.deaf = true then s
    else
      let s1 := (s.send (.announce (2 * i))).addF (F.FABRIC_SADDR_STATE_SENT.at i) 1
      if s.getF (F.FABRIC_SADDR_CFG_V4.at i) = 1 ∧ s.feat 68 = true then
        (s1.send (.announce (2 * i + 1))).addF (F.FABRIC_SADDR_STATE_SENT.at i) 1
      else s1)

/-- HEAD_SLOT changes after t0: nothing until the next t0 (R523). -/
def execHeadSlotChange (level : Bool) (s : State) : Res := .next { s with pins := { s.pins with headSlotLand := level } }

end Sys2Proof.Machine
end

