-- ==== Sys2Proof/Machine/Map.lean ====
section
/-! DEFINITION. How the management map is written (R11, R37): which bits of a register take what is written, which clear on a
one, and which register selects the unit it acts on. Written from the access columns of the register tables; registers that
are only read and have no selector need no row. -/
namespace Sys2Proof.Machine

/-- A row: first address, how many registers, stride; selector register with its field's place (0: none); whether the index is
itself the unit (the Tally units); the RW bits; the W1C bits. -/
structure MapRow where
  addr : Nat
  count : Nat
  stride : Nat
  sel : Nat
  selLo : Nat
  selW : Nat
  unit : Bool
  rw : Nat
  w1c : Nat
  deriving DecidableEq, Repr

/-- Rows of the map, part 0. -/
def mapRows0 : List MapRow := [
  ⟨R.IDENT_MAP_ERR, 1, 0x8, 0, 0, 0, false, 0x0, 0x1F⟩,
  ⟨R.IDENT_JOIN, 1, 0x8, 0, 0, 0, false, 0xFFFFFFFFFFFF, 0x0⟩,
  ⟨R.IDENT_SCRATCH, 1, 0x8, 0, 0, 0, false, 0xFFFFFFFFFFFFFFFF, 0x0⟩,
  ⟨R.IDENT_FEAT_OFFER, 4, 0x8, 0, 0, 0, false, 0xFFFFFFFFFFFFFFFF, 0x0⟩,
  ⟨R.HANDS_RETIRE, 1, 0x8, 0, 0, 0, false, 0xF, 0x0⟩,
  ⟨R.HANDS_WATCHDOG, 1, 0x8, 0, 0, 0, false, 0xFFFFFFFF, 0x0⟩,
  ⟨R.HANDS_LOAD_LEN, 1, 0x8, 0, 0, 0, false, 0xFFFFFFFF, 0x0⟩,
  ⟨R.HANDS_BIND_SEL, 1, 0x8, 0, 0, 0, false, 0xFFF, 0x0⟩,
  ⟨R.HANDS_BIND, 1, 0x8, R.HANDS_BIND_SEL, 0, 12, false, 0xFF, 0x0⟩,
  ⟨R.DOCKET_LATE, 1, 0x8, 0, 0, 0, false, 0xFFFF, 0x0⟩,
  ⟨R.DOCKET_TAG_SEL, 1, 0x8, 0, 0, 0, false, 0xFFFF, 0x0⟩,
  ⟨R.DOCKET_QSEL, 1, 0x8, 0, 0, 0, false, 0xFFF, 0x0⟩,
  ⟨R.DOCKET_ELOG_SEL, 1, 0x8, 0, 0, 0, false, 0x3F, 0x0⟩,
  ⟨R.DOCKET_ABORT, 1, 0x8, 0, 0, 0, false, 0xFFFF, 0x0⟩,
  ⟨R.TOLL_POLICY, 1, 0x8, 0, 0, 0, false, 0xFFFFFFFFFFFFFFFF, 0x0⟩,
  ⟨R.TOLL_HOLD, 1, 0x8, 0, 0, 0, false, 0xFFFFFFFF, 0x0⟩,
  ⟨R.TOLL_REQ_CTL, 1, 0x8, 0, 0, 0, false, 0x3F, 0x0⟩,
  ⟨R.TOLL_REQ_DATA, 8, 0x8, 0, 0, 0, false, 0xFFFFFFFFFFFFFFFF, 0x0⟩,
  ⟨R.TOLL_TAKE_SEL, 1, 0x8, 0, 0, 0, false, 0x3F, 0x0⟩,
  ⟨R.PRESS_ADAPT, 1, 0x8, 0, 0, 0, false, 0xFFFFFFFFFFC0000F, 0x0⟩,
  ⟨R.PRESS_LANE_SEL, 1, 0x8, 0, 0, 0, false, 0x3F, 0x0⟩,
  ⟨R.PRESS_LANE, 1, 0x8, R.PRESS_LANE_SEL, 0, 6, false, 0x0, 0x0⟩,
  ⟨R.PRESS_STREAM_SEL, 1, 0x8, 0, 0, 0, false, 0xFFFF, 0x0⟩,
  ⟨R.PRESS_STREAM_CFG, 1, 0x8, R.PRESS_STREAM_SEL, 0, 16, false, 0xFFF00006, 0x0⟩,
  ⟨R.PRESS_STREAM_GRAINS, 1, 0x8, R.PRESS_STREAM_SEL, 0, 16, false, 0x0, 0x0⟩,
  ⟨R.PRESS_STREAM_RAW, 1, 0x8, R.PRESS_STREAM_SEL, 0, 16, false, 0x0, 0x0⟩,
  ⟨R.PRESS_STREAM_SLOTS, 1, 0x8, R.PRESS_STREAM_SEL, 0, 16, false, 0x0, 0x0⟩,
  ⟨R.PRESS_STREAM_TSEQ, 1, 0x8, R.PRESS_STREAM_SEL, 0, 16, false, 0x0, 0x0⟩,
  ⟨R.PRESS_STREAM_HIST, 16, 0x8, R.PRESS_STREAM_SEL, 0, 16, false, 0x0, 0x0⟩,
  ⟨R.MILL_RNG, 1, 0x8, 0, 0, 0, false, 0x0, 0x2⟩,
  ⟨R.MILL_KAT, 1, 0x8, 0, 0, 0, false, 0xFFFFFFFF, 0x0⟩,
  ⟨R.MILL_LOCK_LIMIT, 1, 0x8, 0, 0, 0, false, 0xFFFFFFFF, 0x0⟩,
  ⟨R.MILL_CORE_SEL, 1, 0x8, 0, 0, 0, false, 0x1F, 0x0⟩,
  ⟨R.MILL_CORE, 1, 0x8, R.MILL_CORE_SEL, 0, 5, false, 0x0, 0x0⟩,
  ⟨R.MILL_CORE_TESTED, 1, 0x8, R.MILL_CORE_SEL, 0, 5, false, 0x0, 0x0⟩,
  ⟨R.MILL_SLOT_SEL, 1, 0x8, 0, 0, 0, false, 0x1FF, 0x0⟩,
  ⟨R.MILL_VAULT_SEL, 1, 0x8, 0, 0, 0, false, 0xFFF, 0x0⟩,
  ⟨R.ASSAY_KAT, 1, 0x8, 0, 0, 0, false, 0xFFFFFFFF, 0x0⟩,
  ⟨R.ASSAY_LANE_SEL, 1, 0x8, 0, 0, 0, false, 0x1F, 0x0⟩,
  ⟨R.ASSAY_LANE, 1, 0x8, R.ASSAY_LANE_SEL, 0, 5, false, 0x0, 0x0⟩]

/-- Rows of the map, part 1. -/
def mapRows1 : List MapRow := [
  ⟨R.ASSAY_DMA_CTL, 1, 0x8, 0, 0, 0, false, 0x23, 0x0⟩,
  ⟨R.ASSAY_DMA_ADDR, 1, 0x8, 0, 0, 0, false, 0xFFFFFFFFFFFFFFFF, 0x0⟩,
  ⟨R.ASSAY_DMA_LEN, 1, 0x8, 0, 0, 0, false, 0xFFFFFFFFFF, 0x0⟩,
  ⟨R.ASSAY_EXPECT, 8, 0x8, 0, 0, 0, false, 0xFFFFFFFFFFFFFFFF, 0x0⟩,
  ⟨R.ASSAY_CMP_CTL, 1, 0x8, 0, 0, 0, false, 0x710, 0x0⟩,
  ⟨R.TALLY_MISMATCH, 1, 0x8, 0, 0, 0, false, 0x0, 0xFFFFFFFF⟩,
  ⟨R.TALLY_IRQ_EN, 1, 0x8, 0, 0, 0, false, 0xFFFFFFFF, 0x0⟩,
  ⟨R.TALLY_CLAIM, 1, 0x8, 0, 0, 0, false, 0x1F, 0x0⟩,
  ⟨R.TALLY_U_CFG, 32, 0x40, 0, 0, 0, true, 0x3, 0x0⟩,
  ⟨R.TALLY_U_VALUE, 32, 0x40, 0, 0, 0, true, 0xFFFFFFFFFFFFFFFF, 0x0⟩,
  ⟨R.TALLY_U_EXPECT, 32, 0x40, 0, 0, 0, true, 0xFFFFFFFFFFFFFFFF, 0x0⟩,
  ⟨R.TALLY_U_FEED_B, 32, 0x40, 0, 0, 0, true, 0x0, 0x0⟩,
  ⟨R.TALLY_U_FEED_H, 32, 0x40, 0, 0, 0, true, 0x0, 0x0⟩,
  ⟨R.TALLY_U_FEED_W, 32, 0x40, 0, 0, 0, true, 0x0, 0x0⟩,
  ⟨R.TALLY_U_FEED_D, 32, 0x40, 0, 0, 0, true, 0x0, 0x0⟩,
  ⟨R.TALLY_U_CTL, 32, 0x40, 0, 0, 0, true, 0x4, 0x0⟩,
  ⟨R.SIEVE_CFG, 1, 0x8, 0, 0, 0, false, 0xFFFF000000001FFF, 0x0⟩,
  ⟨R.SIEVE_VOL_SEL, 1, 0x8, 0, 0, 0, false, 0xFFF, 0x0⟩,
  ⟨R.SIEVE_VOL_CFG, 1, 0x8, R.SIEVE_VOL_SEL, 0, 12, false, 0xFF01, 0x0⟩,
  ⟨R.SIEVE_VOL_SNAPS, 1, 0x8, R.SIEVE_VOL_SEL, 0, 12, false, 0x0, 0x0⟩,
  ⟨R.SIEVE_SNAP_ARG, 1, 0x8, 0, 0, 0, false, 0xFFF0FFFFFFFFFFF, 0x0⟩,
  ⟨R.SIEVE_SNAP_SET, 16, 0x8, 0, 0, 0, false, 0x8FFF8FFF8FFF8FFF, 0x0⟩,
  ⟨R.SIEVE_SNAP_SEL, 1, 0x8, 0, 0, 0, false, 0xFFFFFFFFFFF, 0x0⟩,
  ⟨R.SIEVE_REPL_SEL, 1, 0x8, 0, 0, 0, false, 0xF, 0x0⟩,
  ⟨R.SIEVE_REPL_CFG, 1, 0x8, R.SIEVE_REPL_SEL, 0, 4, false, 0xFFFFFFFFFFFFFF0F, 0x0⟩,
  ⟨R.SIEVE_REPL_PEER, 1, 0x8, R.SIEVE_REPL_SEL, 0, 4, false, 0xFFFFFFFF, 0x0⟩,
  ⟨R.SIEVE_REPL_STATE, 1, 0x8, R.SIEVE_REPL_SEL, 0, 4, false, 0x0, 0x0⟩,
  ⟨R.SIEVE_REPL_EPOCHS, 1, 0x8, R.SIEVE_REPL_SEL, 0, 4, false, 0x0, 0x0⟩,
  ⟨R.SIEVE_REPL_BYTES, 1, 0x8, R.SIEVE_REPL_SEL, 0, 4, false, 0x0, 0x0⟩,
  ⟨R.SIEVE_REPL_LAG, 1, 0x8, R.SIEVE_REPL_SEL, 0, 4, false, 0x0, 0x0⟩,
  ⟨R.SIEVE_REPL_CTL, 1, 0x8, R.SIEVE_REPL_SEL, 0, 4, false, 0x0, 0x0⟩,
  ⟨R.TILL_BUDGET_CFG, 1, 0x8, 0, 0, 0, false, 0x3FF00000000, 0x0⟩,
  ⟨R.STEWARD_MAP_CFG, 1, 0x8, 0, 0, 0, false, 0xFFFFFFFFFFFF, 0x0⟩,
  ⟨R.STEWARD_CMN_SEL, 1, 0x8, 0, 0, 0, false, 0xFFF, 0x0⟩,
  ⟨R.STEWARD_DB_LSN, 1, 0x8, R.STEWARD_CMN_SEL, 0, 12, false, 0x0, 0x0⟩,
  ⟨R.STEWARD_DB_FLASH_LSN, 1, 0x8, R.STEWARD_CMN_SEL, 0, 12, false, 0x0, 0x0⟩,
  ⟨R.STEWARD_DB_REPLAY_LSN, 1, 0x8, R.STEWARD_CMN_SEL, 0, 12, false, 0x0, 0x0⟩,
  ⟨R.STEWARD_DB_SINCE, 1, 0x8, R.STEWARD_CMN_SEL, 0, 12, false, 0x0, 0x0⟩,
  ⟨R.STEWARD_CKPT_CTL, 1, 0x8, R.STEWARD_CMN_SEL, 0, 12, false, 0x0, 0x0⟩,
  ⟨R.STEWARD_CKPT_SEQ, 1, 0x8, R.STEWARD_CMN_SEL, 0, 12, false, 0x0, 0x0⟩]

/-- Rows of the map, part 2. -/
def mapRows2 : List MapRow := [
  ⟨R.STEWARD_ANCHOR, 1, 0x8, R.STEWARD_CMN_SEL, 0, 12, false, 0x0, 0x0⟩,
  ⟨R.STEWARD_MEDIA_CFG, 1, 0x8, 0, 0, 0, false, 0xFFFFFFC0FFFF, 0x0⟩,
  ⟨R.STEWARD_GRANARY_CFG, 1, 0x8, 0, 0, 0, false, 0xFFFFFFFF, 0x0⟩,
  ⟨R.STEWARD_CAL_CFG, 1, 0x8, 0, 0, 0, false, 0xFFFFFF, 0x0⟩,
  ⟨R.STEWARD_CMN_FREE, 1, 0x8, R.STEWARD_CMN_SEL, 0, 12, false, 0x0, 0x0⟩,
  ⟨R.STEWARD_CMN_GRANARY, 1, 0x8, R.STEWARD_CMN_SEL, 0, 12, false, 0x0, 0x0⟩,
  ⟨R.STEWARD_CMN_GROWN_BAD, 1, 0x8, R.STEWARD_CMN_SEL, 0, 12, false, 0x0, 0x0⟩,
  ⟨R.STEWARD_CMN_THIN, 1, 0x8, R.STEWARD_CMN_SEL, 0, 12, false, 0x0, 0x0⟩,
  ⟨R.STEWARD_VOL_SEL, 1, 0x8, 0, 0, 0, false, 0xFFF, 0x0⟩,
  ⟨R.STEWARD_VOL_MEDIA, 1, 0x8, R.STEWARD_VOL_SEL, 0, 12, false, 0x1, 0x0⟩,
  ⟨R.STEWARD_SECURE_SEQ, 1, 0x8, R.STEWARD_VOL_SEL, 0, 12, false, 0x0, 0x0⟩,
  ⟨R.SLED_TIMEOUT, 1, 0x8, 0, 0, 0, false, 0xFFFF, 0x0⟩,
  ⟨R.SLED_SEL, 1, 0x8, 0, 0, 0, false, 0x1F, 0x0⟩,
  ⟨R.SLED_STATE, 1, 0x8, R.SLED_SEL, 0, 5, false, 0x0, 0x0⟩,
  ⟨R.SLED_GEOM, 1, 0x8, R.SLED_SEL, 0, 5, false, 0x0, 0x0⟩,
  ⟨R.SLED_LABEL, 1, 0x8, R.SLED_SEL, 0, 5, false, 0x0, 0x0⟩,
  ⟨R.SLED_OWN_CMN, 1, 0x8, 0, 0, 0, false, 0xFFF, 0x0⟩,
  ⟨R.SLED_CMDS, 1, 0x8, R.SLED_SEL, 0, 5, false, 0x0, 0x0⟩,
  ⟨R.SLED_ERRORS, 1, 0x8, R.SLED_SEL, 0, 5, false, 0x0, 0x0⟩,
  ⟨R.SLED_TEMP, 1, 0x8, R.SLED_SEL, 0, 5, false, 0x0, 0x0⟩,
  ⟨R.SLED_CTL, 1, 0x8, R.SLED_SEL, 0, 5, false, 0x0, 0x0⟩,
  ⟨R.HOLD_CFG, 1, 0x8, 0, 0, 0, false, 0xFFFFFFFFFFFF, 0x0⟩,
  ⟨R.HOLD_CTL_ARG, 1, 0x8, 0, 0, 0, false, 0xFFF1FFFFFFFFFFFF, 0x0⟩,
  ⟨R.HOLD_CMN_SEL, 1, 0x8, 0, 0, 0, false, 0xFFF, 0x0⟩,
  ⟨R.HOLD_CMN, 1, 0x8, R.HOLD_CMN_SEL, 0, 12, false, 0x0, 0x0⟩,
  ⟨R.HOLD_CMN_RECORD, 1, 0x8, R.HOLD_CMN_SEL, 0, 12, false, 0x0, 0x0⟩,
  ⟨R.HOLD_CMN_SPARE, 1, 0x8, R.HOLD_CMN_SEL, 0, 12, false, 0x0, 0x0⟩,
  ⟨R.HOLD_CMN_REBUILD, 1, 0x8, R.HOLD_CMN_SEL, 0, 12, false, 0x0, 0x0⟩,
  ⟨R.HOLD_CMN_DUE, 1, 0x8, R.HOLD_CMN_SEL, 0, 12, false, 0x0, 0x0⟩,
  ⟨R.HOLD_CMN_LEDGER, 1, 0x8, R.HOLD_CMN_SEL, 0, 12, false, 0x0, 0x0⟩,
  ⟨R.HOLD_CMN_WATCH, 1, 0x8, R.HOLD_CMN_SEL, 0, 12, false, 0x0, 0x0⟩,
  ⟨R.HOLD_CMN_RESYNC, 1, 0x8, R.HOLD_CMN_SEL, 0, 12, false, 0x0, 0x0⟩,
  ⟨R.HOLD_SCAR_SEL, 1, 0x8, 0, 0, 0, false, 0xFFF, 0x0⟩,
  ⟨R.HOLD_MEMBER_SEL, 1, 0x8, 0, 0, 0, false, 0xFFFF, 0x0⟩,
  ⟨R.CARRIER_CFG, 1, 0x8, 0, 0, 0, false, 0xFFFFFFFFFFFF, 0x0⟩,
  ⟨R.CARRIER_KEYMAP, 2, 0x8, 0, 0, 0, false, 0x3F3F3F3F3F3F3F3F, 0x0⟩,
  ⟨R.CARRIER_PEER_SEL, 1, 0x8, 0, 0, 0, false, 0xFFFFFFFF, 0x0⟩,
  ⟨R.CARRIER_REG_SEL, 1, 0x8, 0, 0, 0, false, 0xFFFFF, 0x0⟩,
  ⟨R.CARRIER_REG_HANDLE, 1, 0x8, R.CARRIER_REG_SEL, 0, 20, false, 0x0, 0x0⟩,
  ⟨R.CARRIER_REG_INFO, 1, 0x8, R.CARRIER_REG_SEL, 0, 20, false, 0x0, 0x0⟩]

/-- Rows of the map, part 3. -/
def mapRows3 : List MapRow := [
  ⟨R.CARRIER_REG_BASE, 1, 0x8, 0, 0, 0, false, 0xFFFFFFFFFFFFFFFF, 0x0⟩,
  ⟨R.CARRIER_REG_PEER, 1, 0x8, 0, 0, 0, false, 0xFFFFFFFFFFFFFFFF, 0x0⟩,
  ⟨R.CARRIER_REG_CTL, 1, 0x8, 0, 0, 0, false, 0xFFFFFFFF018, 0x0⟩,
  ⟨R.CARRIER_REG_REVOKE_SEQ, 1, 0x8, R.CARRIER_REG_SEL, 0, 20, false, 0x0, 0x0⟩,
  ⟨R.FABRIC_CFG, 1, 0x8, 0, 0, 0, false, 0xFF, 0x0⟩,
  ⟨R.FABRIC_SADDR_SEL, 1, 0x8, 0, 0, 0, false, 0xF, 0x0⟩,
  ⟨R.FABRIC_SADDR_CFG, 1, 0x8, R.FABRIC_SADDR_SEL, 0, 4, false, 0xFEFFFFFFFF, 0x0⟩,
  ⟨R.FABRIC_SADDR_V6_HI, 1, 0x8, R.FABRIC_SADDR_SEL, 0, 4, false, 0xFFFFFFFFFFFFFFFF, 0x0⟩,
  ⟨R.FABRIC_SADDR_V6_LO, 1, 0x8, R.FABRIC_SADDR_SEL, 0, 4, false, 0xFFFFFFFFFFFFFFFF, 0x0⟩,
  ⟨R.FABRIC_SADDR_STATE, 1, 0x8, R.FABRIC_SADDR_SEL, 0, 4, false, 0x0, 0x0⟩,
  ⟨R.MAGPORT_TIMERS, 1, 0x8, 0, 0, 0, false, 0xFFFFFFFF, 0x0⟩,
  ⟨R.MAGPORT_P_CFG, 4, 0x100, 0, 0, 0, false, 0xFFF00000000F, 0x0⟩,
  ⟨R.MAGPORT_P_TASK_SEL, 4, 0x100, 0, 0, 0, false, 0x3F, 0x0⟩,
  ⟨R.MAGPORT_P_INGEST_TARGET, 4, 0x100, 0, 0, 0, false, 0xFFFFFFFFFFFFFFFF, 0x0⟩,
  ⟨R.MAGPORT_P_INGEST_REPORT, 4, 0x100, 0, 0, 0, false, 0xFFFFFFFFFFFFFFFF, 0x0⟩,
  ⟨R.MAGPORT_P_REPORT_SEL, 4, 0x100, 0, 0, 0, false, 0x1FFFF, 0x0⟩,
  ⟨R.COUNCIL_CFG, 1, 0x8, 0, 0, 0, false, 0xFFFFFF000000, 0x0⟩,
  ⟨R.COUNCIL_CORE_SEL, 1, 0x8, 0, 0, 0, false, 0x3, 0x0⟩,
  ⟨R.COUNCIL_CORE, 1, 0x8, R.COUNCIL_CORE_SEL, 0, 2, false, 0x0, 0x0⟩,
  ⟨R.COUNCIL_DRILL_CFG, 1, 0x8, 0, 0, 0, false, 0xFFFFFFFF0001, 0x0⟩,
  ⟨R.LARDER_CTL, 1, 0x8, 0, 0, 0, false, 0xFFFF0001, 0x0⟩,
  ⟨R.LARDER_MAINT_ADDR, 1, 0x8, 0, 0, 0, false, 0xFFFFFFFFF, 0x0⟩,
  ⟨R.LARDER_MAINT_LEN, 1, 0x8, 0, 0, 0, false, 0x7FFFFFFF, 0x0⟩,
  ⟨R.LARDER_MAINT_CTL, 1, 0x8, 0, 0, 0, false, 0x2, 0x0⟩,
  ⟨R.LARDER_WAYS, 1, 0x8, 0, 0, 0, false, 0x1F, 0x0⟩,
  ⟨R.LARDER_BANK_SEL, 1, 0x8, 0, 0, 0, false, 0x1F, 0x0⟩,
  ⟨R.LARDER_BANK, 1, 0x8, R.LARDER_BANK_SEL, 0, 5, false, 0x0, 0x0⟩,
  ⟨R.LARDER_BANK_CTL, 1, 0x8, R.LARDER_BANK_SEL, 0, 5, false, 0x1F, 0x0⟩,
  ⟨R.HBM_REMAP_CFG, 1, 0x8, 0, 0, 0, false, 0xFF, 0x0⟩,
  ⟨R.HBM_CH_SEL, 1, 0x8, 0, 0, 0, false, 0x1F, 0x0⟩,
  ⟨R.HBM_CH, 1, 0x8, R.HBM_CH_SEL, 0, 5, false, 0x0, 0x0⟩,
  ⟨R.HBM_ROW_CTL, 1, 0x8, R.HBM_CH_SEL, 0, 5, false, 0xFFFFF, 0x0⟩,
  ⟨R.STRONG_BOOT_SEL, 1, 0x8, 0, 0, 0, false, 0x7F, 0x0⟩,
  ⟨R.STRONG_FW_BLK, 1, 0x8, 0, 0, 0, false, 0x1FF, 0x0⟩,
  ⟨R.STRONG_FW_CFG, 1, 0x8, 0, 0, 0, false, 0x1, 0x0⟩,
  ⟨R.STRONG_QUOTE_NONCE, 8, 0x8, 0, 0, 0, false, 0xFFFFFFFFFFFFFFFF, 0x0⟩,
  ⟨R.STRONG_QUOTE_SEL, 1, 0x8, 0, 0, 0, false, 0xFF, 0x0⟩,
  ⟨R.STRONG_CERT_SEL, 1, 0x8, 0, 0, 0, false, 0xFFF, 0x0⟩,
  ⟨R.STRONG_KEY_CTL, 1, 0x8, 0, 0, 0, false, 0xFF, 0x0⟩,
  ⟨R.STRONG_KEY_LEN, 1, 0x8, 0, 0, 0, false, 0xFFFF, 0x0⟩]

/-- Rows of the map, part 4. -/
def mapRows4 : List MapRow := [
  ⟨R.STRONG_KEY_OUT_SEL, 1, 0x8, 0, 0, 0, false, 0xF, 0x0⟩,
  ⟨R.STRONG_VAULT_SEL, 1, 0x8, 0, 0, 0, false, 0xFF, 0x0⟩,
  ⟨R.STRONG_AUTH_LEN, 1, 0x8, 0, 0, 0, false, 0xFFFF, 0x0⟩,
  ⟨R.REEVE_WALL, 1, 0x8, 0, 0, 0, false, 0xFFFFFFFFFF, 0x0⟩,
  ⟨R.REEVE_REEL_CTL, 1, 0x8, 0, 0, 0, false, 0x1, 0x0⟩,
  ⟨R.PARISH_SNAP_CTL, 1, 0x8, 0, 0, 0, false, 0x10FFFFFFFF, 0x0⟩,
  ⟨R.PARISH_SNAP_SEL, 1, 0x8, 0, 0, 0, false, 0x1FFFF, 0x0⟩,
  ⟨R.CRIER_CFG, 1, 0x8, 0, 0, 0, false, 0xFFFFFFFFFF00, 0x0⟩,
  ⟨R.CRIER_TRACE_EN, 2, 0x8, 0, 0, 0, false, 0xFFFFFFFFFFFFFFFF, 0x0⟩,
  ⟨R.CRIER_RING_SEL, 1, 0x8, 0, 0, 0, false, 0xFFFFFFFF, 0x0⟩,
  ⟨R.COUNT_P_CFG, 32, 0x20, 0, 0, 0, false, 0xFFFF00001EFF, 0x0⟩,
  ⟨R.COUNT_P_VALUE, 32, 0x20, 0, 0, 0, false, 0xFFFFFFFFFFFFFFFF, 0x0⟩,
  ⟨R.COUNT_P_PERIOD, 32, 0x20, 0, 0, 0, false, 0xFFFFFFFF, 0x0⟩,
  ⟨R.COUNT_OVF, 1, 0x8, 0, 0, 0, false, 0x0, 0xFFFFFFFF⟩,
  ⟨R.COUNT_RUN, 1, 0x8, 0, 0, 0, false, 0xFFFFFFFF, 0x0⟩,
  ⟨R.WARDEN_BANK_CFG, 1, 0x8, 0, 0, 0, false, 0xFFFFFFFF, 0x0⟩,
  ⟨R.WARDEN_TEST_CFG, 1, 0x8, 0, 0, 0, false, 0xFFFFFFFFFFFF, 0x0⟩,
  ⟨R.WARDEN_TEST_CTL, 1, 0x8, 0, 0, 0, false, 0xFFFF, 0x0⟩,
  ⟨R.WARDEN_SPARE_SEL, 1, 0x8, 0, 0, 0, false, 0xF, 0x0⟩,
  ⟨R.WARDEN_SPARE, 1, 0x8, R.WARDEN_SPARE_SEL, 0, 4, false, 0x0, 0x0⟩,
  ⟨R.WARDEN_SERDES_SEL, 1, 0x8, 0, 0, 0, false, 0xF, 0x0⟩,
  ⟨R.WARDEN_SERDES, 1, 0x8, R.WARDEN_SERDES_SEL, 0, 4, false, 0x0, 0x0⟩]

/-- All rows. -/
def mapRows : List MapRow := mapRows0 ++ mapRows1 ++ mapRows2 ++ mapRows3 ++ mapRows4

/-- Whether an address is one of a row's registers. -/
def MapRow.has (r : MapRow) (a : Nat) : Bool :=
  decide (r.addr ≤ a) && decide (a < r.addr + r.count * r.stride) && (a - r.addr) % r.stride = 0

/-- The row of an address. -/
def mapRow (a : Nat) : Option MapRow := mapRows.find? (fun r => r.has a)

/-- The key under which the word of the register at an address stands: that of the selected unit. -/
def State.regKey (s : State) (a : Nat) : Nat :=
  match mapRow a with
  | none => a
  | some r =>
    if r.unit then r.addr + (a - r.addr) / r.stride * 4294967296
    else if r.sel = 0 then a
    else a + (Fld.get ⟨r.sel, r.selLo, r.selW⟩ (s.getR r.sel)) * 4294967296

/-- A plain write (R11): RW bits take the value, W1C bits clear on a one, the rest stay. -/
def State.regSet (s : State) (a : Nat) (v : Word) : State :=
  match mapRow a with
  | none => s
  | some r =>
    let k := s.regKey a
    let old := s.getR k
    let rw := BitVec.ofNat 64 r.rw
    s.setR k (((old &&& ~~~rw) ||| (v &&& rw)) &&& ~~~(v &&& BitVec.ofNat 64 r.w1c))

end Sys2Proof.Machine
end

