-- ==== Sys2Proof/Machine/Peers.lean ====
section
/-! DEFINITION. The peer cache (R363 to R365): creating, failing, pinning and evicting entries, and the WINDOW registrations
of management (R367, R369, R376). -/
namespace Sys2Proof.Machine

/-! ### Errors and rates -/

/-- CARRIER_LAST_ERR (R376). -/
def State.carErr (s : State) (num type : Nat) (st : Status) : State :=
  ((s.setN R.CARRIER_LAST_ERR (st * 2 ^ 48 + num % 2 ^ 32 * 2 ^ 16 + type % 256)).setN R.CARRIER_LAST_ERR_SEQ s.now).tick

/-- The line rate of a port in Mb/s (R377); Carrier-M's is 1 Gb/s (R29). -/
def State.lineRate (s : State) (port : Nat) : Nat :=
  if port = 8 then 1000 else if s.car.fabMode / 4 ^ (port % 4) % 4 = 3 then 100000 else 200000


/-! ### Entries (R363, R364) -/

/-- A new entry for a node (R363): its generation is raised, UNSYNCED, at line rate (R366). -/
def State.peerNew (s : State) (i node port epoch : Nat) : State :=
  let p : Peer := { (default : Peer) with
    used := true, gen := ((s.peerAt i).gen + 1) % 65536, node := node, port := port, rxEpoch := epoch, lastRx := s.time, rate := s.lineRate port }
  (s.putPeer i p).sendSide i

/-- Whether a replication link pins the peer (R364). -/
def State.linkPins (s : State) (num : Nat) : Bool :=
  (upto 16).any (fun k => s.linkState k ≠ 0 && s.getF (F.SIEVE_REPL_PEER_VAL.at k) = num)

/-- Whether an entry waits for an acknowledgement in either direction: what the head sent, or what it has taken and not
yet acknowledged; a command of the peer's queues counts (R364). -/
def State.peerBusy (s : State) (i : Nat) : Bool :=
  let p := s.peerAt i
  !p.out.isEmpty || !p.held.isEmpty || !p.unacked.isEmpty || decide (0 < p.got) ||
    s.docket.tags.any (fun t => t.2.state ≠ .free && (s.queueOf t.2.queue).kind = kCarrier && (s.queueOf t.2.queue).source = s.peerNum i)

/-- Whether an entry may be evicted (R364). -/
def State.evictable (s : State) (i : Nat) : Bool :=
  let p := s.peerAt i
  p.used && !p.pinned && !s.linkPins (s.peerNum i) && !s.peerBusy i &&
    decide (p.lastRx + s.getF F.CARRIER_CFG_EVICT_QUIET_MS * 1000 ≤ s.time)

/-- The least recently used evictable fabric entry. -/
def State.evictPick (s : State) : Option Nat :=
  (s.car.peers.filter (fun p => decide (p.1 < 65536) && s.evictable p.1)).foldl (fun (o : Option Nat) p =>
    match o with
    | none => some p.1
    | some j => if p.2.lastRx < (s.peerAt j).lastRx then some p.1 else o) none

/-- Evict an entry; the node's peer number is remembered (R364). -/
def State.evict (s : State) (i : Nat) : State :=
  let p := s.peerAt i
  let s1 := s.putPeer i { (default : Peer) with gen := p.gen, node := p.node, port := p.port, rate := s.lineRate p.port }
  ({ s1 with car := { s1.car with moved := s1.car.moved.set p.node (s.peerNum i + 1) } }).addN R.CARRIER_EVICTIONS 1

/-- A place for a new entry: a free index, else that of an evicted entry (R363, R364). -/
def State.peerPlace (s : State) (mgmt : Bool) : Option Nat × State :=
  if mgmt then ([65536, 65537, 65538, 65539].find? (fun i => !(s.peerAt i).used), s)
  else
    let used := (s.car.peers.filter (fun p => decide (p.1 < 65536) && p.2.used)).map Prod.fst
    let i := lowestFree 0 used
    if i < 65536 then (some i, s)
    else match s.evictPick with
      | some j => (some j, s.evict j)
      | none => (none, s)

/-! ### Carrier-M sessions (R527) -/

/-- A session has ended: without one the claims of the Carrier-M path end, and the push path follows (R218, R473). -/
def State.sessionsSettle (s : State) : State := (if s.mSessions.isEmpty then s.unitsFree 2 else s).pushRefresh

/-! ### ERROR (R365) -/

/-- What waited for a message ends with a status: a CARRY completes; a command's pull of its data ends the command. -/
def State.carWaitEnd (s : State) (w : CarWait) (st : Status) : State :=
  match w with
  | .carry n =>
    let j := s.car.carries.get n
    if j.used ∧ j.done = false then s.putCarry n { j with done := true, status := st } else s
  | _ => s

/-- READs to a peer whose data will not come: the CARRY or the command that waits for them ends (R365). -/
def State.readsEnd (s : State) (num : Nat) (st : Status) : State :=
  s.car.reads.foldl (fun s r =>
    if r.2.carry ≠ 0 ∧ (s.car.carries.get (r.2.carry - 1)).peer = num then
      ({ s with car := { s.car with reads := s.car.reads.set r.1 default } }).carWaitEnd (.carry (r.2.carry - 1)) st
    else if r.2.tag ≠ 0 ∧ (s.queueOf (s.tagOf (r.2.tag - 1)).queue).source = num then
      ({ s with car := { s.car with reads := s.car.reads.set r.1 default } }).docketEnd (r.2.tag - 1) st 0
    else s) s

/-- An entry enters ERROR (R365): what is outstanding completes with 0x6110; completions of commands stay COMPLETING. A
replication link over it is lost (R248). A Carrier-M session ends (R527). -/
def State.carFail (s : State) (i : Nat) (first : Status) : State :=
  let p := s.peerAt i
  if p.used = false ∨ p.state = 2 then s
  else
    let num := s.peerNum i
    let s1 := s.putPeer i { p with state := 2, session := 0, errAt := s.time + 1, out := [], held := [], unacked := [] }
    let s2 := (p.out.foldl (fun (a : Bool × State) m =>
      (false, a.2.carWaitEnd m.wait (if a.1 then first else 0x6110))) (true, s1)).2
    let s3 := (s2.readsEnd num 0x6110).tick
    if 65536 ≤ i then s3.sessionsSettle
    else (upto 16).foldl (fun s k =>
      if s.linkState k ≠ 0 ∧ s.getF (F.SIEVE_REPL_PEER_VAL.at k) = num then s.linkLost k else s) s3

/-! ### CARRIER_PEER_CTL (R364, R365, R376) -/

/-- Act on the entry CARRIER_PEER_SEL names; a stale number is refused with 0x8113. -/
def State.peerRequest (s : State) (f : Nat → State → State) : State :=
  let n := s.getF F.CARRIER_PEER_SEL_VAL
  if s.peerLive n then f (n % 65536) (s.stat F.CARRIER_PEER_CTL_STATUS 0) else s.stat F.CARRIER_PEER_CTL_STATUS 0x8113

/-- RESET: the entry enters ERROR (R365). -/
def execPeerReset (s : State) : Res := .next (s.peerRequest (fun i s => s.carFail i 0x6110))

/-- PIN: at most 256 entries (R364). -/
def execPeerPin (s : State) : Res :=
  .next (s.peerRequest (fun i s =>
    if (s.peerAt i).pinned = false ∧ 256 ≤ (s.car.peers.filter (fun p => p.2.pinned)).length then
      s.stat F.CARRIER_PEER_CTL_STATUS 0x8110
    else s.putPeer i { s.peerAt i with pinned := true }))

/-- UNPIN (R364). -/
def execPeerUnpin (s : State) : Res := .next (s.peerRequest (fun i s => s.putPeer i { s.peerAt i with pinned := false }))

/-! ### CARRIER_REG_CTL (R367, R369, R376) -/

/-- CREATE: a WINDOW over global memory outside the Till and the Strongroom's regions, at the lowest FREE index (R367). -/
def execRegCreate (s : State) : Res :=
  let base := s.getN R.CARRIER_REG_BASE
  let len := s.getF F.CARRIER_REG_CTL_LENGTH * 4096
  let acc := s.getF F.CARRIER_REG_CTL_ACCESS
  let bad : Status :=
    if s.getF F.CARRIER_REG_CTL_BUSY = 1 then 0x8114
    else if len = 0 ∨ base % 4096 ≠ 0 ∨ s.globalTop < base + len then 0x5117
    else if s.inTill base len ∨ s.inStrong base len then 0x7113
    else 0
  if bad ≠ 0 then .next (s.stat F.CARRIER_REG_CTL_STATUS bad)
  else
    let (i, s1) := s.regCreate 2 base len acc (s.getN R.CARRIER_REG_PEER)
    .next (if i = 0 then s1.stat F.CARRIER_REG_CTL_STATUS 0x8111
      else (s1.stat F.CARRIER_REG_CTL_STATUS 0).setF F.CARRIER_REG_SEL_VAL (i - 1))

/-- REVOKE: the selected WINDOW (R369). A TAKE registration is refused with 0x7113. The spec gives one that is not ACTIVE no
status: 0x7111 (DESIGN CHOICE, assumption log 30). -/
def execRegRevoke (s : State) : Res :=
  let i := s.getF F.CARRIER_REG_SEL_VAL
  .next (
    if s.getF F.CARRIER_REG_CTL_BUSY = 1 then s.stat F.CARRIER_REG_CTL_STATUS 0x8114
    else if s.getF (F.CARRIER_REG_INFO_STATE.at i) ≠ 1 then s.stat F.CARRIER_REG_CTL_STATUS 0x7111
    else if s.getF (F.CARRIER_REG_INFO_KIND.at i) ≠ 2 then s.stat F.CARRIER_REG_CTL_STATUS 0x7113
    else ((s.regRevoke i).stat F.CARRIER_REG_CTL_STATUS 0).setF F.CARRIER_REG_CTL_BUSY 1)

/-- The accesses before REVOKE_SEQ have drained: the index is FREE, and reused only after EVICT_QUIET_MS (R364, R369). -/
def execRevocationDrained (index : Nat) (s : State) : Res :=
  let i := index % 1048576
  .next (
    if s.getF (F.CARRIER_REG_INFO_STATE.at i) = 2 then
      let s1 := s.setF (F.CARRIER_REG_INFO_STATE.at i) 0
      let s2 : State := { s1 with car := { s1.car with freed := s1.car.freed.set i (s.time + 1) } }
      if s.getF (F.CARRIER_REG_INFO_KIND.at i) = 2 then s2.setF F.CARRIER_REG_CTL_BUSY 0 else s2
    else s)

end Sys2Proof.Machine
end

