-- ==== Sys2Proof/Machine/Views.lean ====
section
/-! DEFINITION. What the registers show that no register keeps (R90, R146, R167, R208, R224, R251, R272, R292, R325, R326, R353,
R376, R401, R437, R460, R486 to R489): counts, states and windows onto what the rest of the state holds. -/
namespace Sys2Proof.Machine

/-- The 8-byte word k of a list of bytes, zero past its end. -/
def wordAt (l : List Byte) (k : Nat) : Nat := fieldAt l (8 * k) 8

/-! ### HANDS, DOCKET, TOLL -/

/-- HANDS_STATE of a Hand (R90). -/
def State.viewHand (s : State) (h : Nat) : Nat :=
  let n (st : CtxState) : Nat := ((s.handBusy h).filter (fun k => (s.hands.ctxs.get k).state = st)).length
  s.getF (F.HANDS_STATE_RETIRE_CAUSE.win 0x10000 h) * 2 ^ 56 + s.handFree h * 2 ^ 32 + n .ready * 2 ^ 24 + n .waiting * 2 ^ 16 +
    s.getF (F.HANDS_STATE_STATE.win 0x10000 h)

/-- HANDS_CTX of a context (R90). -/
def State.viewCtx (s : State) (key : Nat) : Nat :=
  let c := s.hands.ctxs.get key
  if c.state = .free then 0
  else c.tag % 2 ^ 16 * 2 ^ 48 + c.recipe % 256 * 2 ^ 40 + c.entry % 16 * 2 ^ 36 + c.pc / 4 % 2 ^ 15 * 2 ^ 20 + c.ops.length * 2 ^ 16 + c.state.code

/-- HANDS_BIND of the selected volume: STATUS, BOUND, and SLOT, 0xFF where it is unbound (R90). -/
def State.viewBind (s : State) : Nat :=
  let v := s.getF F.HANDS_BIND_SEL_VOLUME
  let slot := (s.volOf v).slot
  s.getF (F.HANDS_BIND_STATUS.at v) * 2 ^ 48 + b2n (slot ≠ 0) * 2 ^ 32 + (if slot = 0 then 0xFF else slot - 1)

/-- The HANDS block: Hand h at 0x1_0000 · h (R37, R90). -/
def State.viewHands (s : State) (a : Nat) : Option Nat :=
  let h := (a - 0x200000) / 0x10000
  let o := (a - 0x200000) % 0x10000
  if o = 0 then some (s.viewHand h)
  else if 0x100 ≤ o ∧ o < 0x300 then some (s.viewCtx (64 * h + (o - 0x100) / 8))
  else if h ≠ 0 then none
  else if a = R.HANDS_BIND then some s.viewBind
  else if a = R.HANDS_STORE then some (s.storeFree * 2 ^ 32 + s.sharedFree)
  else if R.HANDS_RECIPE_ID ≤ a ∧ a < R.HANDS_RECIPE_ID + 0x200 then
    let r := s.hands.recipes.get ((a - R.HANDS_RECIPE_ID) / 8)
    some (if r.state = 0 then 0 else r.ident * 2 ^ 32 + r.version)
  else if R.HANDS_RECIPE_STAT ≤ a ∧ a < R.HANDS_RECIPE_STAT + 0x200 then
    let k := (a - R.HANDS_RECIPE_STAT) / 8
    some ((s.docket.vols.filter (fun p => p.2.slot = k + 1)).length * 2 ^ 51 + s.recipeRunning k * 2 ^ 40 + (s.hands.recipes.get k).state)
  else none

/-- The DOCKET block (R146). -/
def State.viewDocket (s : State) (a : Nat) : Option Nat :=
  let q := s.getF F.DOCKET_QSEL_VAL
  if a = R.DOCKET_TAGS then some s.viewTags
  else if a = R.DOCKET_ATOMIC then some (if s.feat 38 then 65536 else 16)
  else if a = R.DOCKET_TAG_STATE then some (s.viewTagState (s.getF F.DOCKET_TAG_SEL_VAL))
  else if a = R.DOCKET_QCFG then some (s.viewQcfg q)
  else if a = R.DOCKET_QSTATE then some (s.viewQstate q)
  else if R.DOCKET_ELOG_DATA ≤ a ∧ a < R.DOCKET_ELOG_DATA + 0x40 then
    some (s.viewElog q (s.getF F.DOCKET_ELOG_SEL_VAL) ((a - R.DOCKET_ELOG_DATA) / 8))
  else if R.DOCKET_FROZEN ≤ a ∧ a < R.DOCKET_FROZEN + 0x200 then some (s.viewFrozen ((a - R.DOCKET_FROZEN) / 8))
  else none

/-- The TOLL block (R167). -/
def State.viewToll (s : State) (a : Nat) : Option Nat :=
  let k := s.getF F.TOLL_TAKE_SEL_VAL
  let x := s.takeOf k
  if a = R.TOLL_STATE then some s.viewTollState
  else if a = R.TOLL_RATE_SUM then some s.viewRateSum
  else if a = R.TOLL_SLC_NEED then some s.viewSlcNeed
  else if a = R.TOLL_TAKE_INFO then some (s.viewTakeInfo k)
  else if a = R.TOLL_TAKE_RATE then some x.rate
  else if a = R.TOLL_TAKE_KEPT then some (if x.state = 0 then 0 else s.getF F.REEVE_TIME_CYCLE * 2 ^ 40 + x.kept)
  else if a = R.TOLL_TAKE_LANDED then some x.landed
  else if a = R.TOLL_TAKE_LATE then some (x.late * 2 ^ 32 + x.largest)
  else none

/-! ### MILL, ASSAY, SIEVE -/

/-- The PRESS block (R190): a stream that is reserved or not open reads as zeros, but for the kept settings of a volume
stream. -/
def State.viewPress (s : State) (a : Nat) : Option Nat :=
  let n := s.getF F.PRESS_STREAM_SEL_VAL
  if a < R.PRESS_STREAM_CFG ∨ s.streamOpen n = true then none
  else if streamValid n = true ∧ n < 0x1000 ∧ (a = R.PRESS_STREAM_CFG ∨ a = R.PRESS_STREAM_TSEQ) then none
  else some 0

/-- The MILL block (R208). DESIGN CHOICE: slot 63 is private to each core, and the registers show that of the lowest core that is
locked (assumption log 24). -/
def State.viewMill (s : State) (a : Nat) : Option Nat :=
  let n := s.getF F.MILL_SLOT_SEL_VAL
  let k := if n = 63 then s.mill.clear.get ((s.millCores 5).headD 17) else s.mill.slots.get n
  let v := s.getF F.MILL_VAULT_SEL_VAL
  if a = R.MILL_SLOT then some (s.slotInFlight n * 2 ^ 48 + k.kind * 2 ^ 4 + k.state)
  else if a = R.MILL_SLOT_ID then some k.ident
  else if a = R.MILL_SLOT_SEQ then some k.seq
  else if a = R.MILL_VAULT then
    some (if (s.volOf v).slot = 0 then 2 ^ 8 else s.getF (F.SIEVE_VOL_CFG_VAULT.at v))
  else none

/-- The ASSAY block: a path's view of the hallmarks (R215, R224). -/
def State.viewAssay (s : State) (p : Path) (a : Nat) : Option Nat :=
  if R.ASSAY_HM ≤ a ∧ a < R.ASSAY_HM + 0x200 then
    some (s.hallmarkView p.num ((a - R.ASSAY_HM) / 0x40) ((a - R.ASSAY_HM) % 0x40 / 8)).toNat
  else if R.ASSAY_HM_COUNT ≤ a ∧ a < R.ASSAY_HM_COUNT + 0x40 then some (s.hallmarkView p.num ((a - R.ASSAY_HM_COUNT) / 8) 8).toNat
  else if R.ASSAY_HM_SEQ ≤ a ∧ a < R.ASSAY_HM_SEQ + 0x40 then some (s.hallmarkView p.num ((a - R.ASSAY_HM_SEQ) / 8) 9).toNat
  else none

/-- The SIEVE block (R251). -/
def State.viewSieve (s : State) (a : Nat) : Option Nat :=
  let v := s.getF F.SIEVE_VOL_SEL_VAL
  let k := s.getF F.SIEVE_REPL_SEL_VAL
  if a = R.SIEVE_STATE then
    some ((s.sieve.recs.filter (fun r => r.2.valid && s.owns (r.1 / 2 ^ 264))).length * 2 ^ 32 + s.getF F.SIEVE_STATE_REBUILDING)
  else if a = R.SIEVE_VOL_CFG then
    some (s.getN (R.SIEVE_VOL_CFG + v * 4294967296) - s.getF (F.SIEVE_VOL_CFG_EXCLUDED.at v) * 4 + b2n (s.excluded v) * 4)
  else if a = R.SIEVE_SNAP_INFO then
    let vol := s.getF F.SIEVE_SNAP_SEL_VOLUME
    let e := s.getF F.SIEVE_SNAP_SEL_EPOCH
    let x := s.snapOf vol e
    some ((if x.presented = 0 then 0xFFFF else x.presented - 1) * 2 ^ 48 + s.snapHolders vol e * 2 ^ 43 + x.state)
  else if a = R.SIEVE_REPL_LAG then
    some ((if s.linkState k = 0 then 0 else (s.opsec - (s.linkOf k).lastCommit) % 2 ^ 32) * 2 ^ 32 + s.getF (F.SIEVE_REPL_LAG_UNACKED.at k))
  else none

/-! ### TILL, STEWARD, SLED, HOLD -/

/-- The TILL block (R272). Clean data leave the Till at once, so TILL_CLEAN shows none (assumption log 18). -/
def State.viewTill (s : State) (a : Nat) : Option Nat :=
  if a = R.TILL_STATE then some s.viewTillState
  else if a = R.TILL_DIRTY then some s.dirty
  else if a = R.TILL_MIRROR then some s.viewMirror
  else if a = R.TILL_CF_LATENCY then some (if s.cf.acked = 0 then 0 else (Config.linkLatency s.cf.acked).toNat)
  else none

/-- Condemned slots of a volume that still stand in a sheaf (R318). -/
def State.condemnedOf (s : State) (v sheaf : Nat) : Nat :=
  (s.stew.extents.filter (fun p => p.1 / 2 ^ 10 = sheaf && p.2.vol = v && !p.2.page && !s.extentHeld p.2)).foldl (fun n p => n + p.2.n) 0

/-- STEWARD_SECURE of a volume (R325). -/
def State.viewSecure (s : State) (v : Nat) : Nat :=
  let l := s.stew.condemned.filter (fun p => s.condemnedOf v p.1 ≠ 0)
  l.foldl (fun n p => n + s.condemnedOf v p.1) 0 % 2 ^ 32 * 2 ^ 32 +
    (if l.isEmpty then 0 else (s.opsec - l.foldl (fun n p => min n p.2.2) s.opsec) % 2 ^ 32)

/-- The STEWARD block (R292, R325). -/
def State.viewSteward (s : State) (a : Nat) : Option Nat :=
  if a = R.STEWARD_MAP_STATE then
    some (s.stew.cache.length % 2 ^ 32 * 2 ^ 32 + min s.stew.dirty.length (2 ^ 24 - 1) * 2 ^ 8 + s.getN R.STEWARD_MAP_STATE % 256)
  else if a = R.STEWARD_ROOT_ENTRIES then
    some ((s.docket.vols.filter (fun p => s.owns p.2.commons)).foldl (fun n p => n + rootEntries p.2.size) 0)
  else if a = R.STEWARD_OVERLAY then
    some (s.cf.overlay.length * 2 ^ 32 + s.cf.overlay.foldl (fun n p => n + 16 + p.2.body.length) 0 / 2 ^ 20)
  else if a = R.STEWARD_SECURE then some (s.viewSecure (s.getF F.STEWARD_VOL_SEL_VAL))
  else if a = R.STEWARD_CMN_FREE then
    let n := s.freeBlocks (s.getF F.STEWARD_CMN_SEL_VAL)
    some (n * 2 ^ 32 + min n ((s.getN R.STEWARD_SLC_SIZE - s.getN R.STEWARD_SLC_USED) / 12582912))
  else none

/-- The WARDEN block (R508): the hottest die sensor. -/
def State.viewWarden (s : State) (a : Nat) : Option Nat :=
  if a = R.WARDEN_TEMP then some (F.WARDEN_TEMP_DIE.put (s.getR a) (Config.dieTemp s.time).toNat).toNat else none

/-- The SLED block (R326): the epoch the selected sled's bridge holds, and its temperature. -/
def State.viewSled (s : State) (a : Nat) : Option Nat :=
  if a = R.SLED_OWN_EPOCH then
    let b := s.bridgeOf (s.getF F.SLED_SEL_VAL) (s.getF F.SLED_OWN_CMN_VAL)
    some (b.1 % 2 ^ 32 * 2 ^ 32 + b2n b.2)
  else if a = R.SLED_TEMP then
    let k := s.getF F.SLED_SEL_VAL
    some (if s.getF (F.SLED_STATE_STATE.at k) = 0 then 0 else (Config.sledTemp k s.time).toNat)
  else none

/-- HOLD_MEMBER of the selected member, which is a die of a sled: sled · 2048 + die (R328, R353). -/
def State.viewMember (s : State) (m : Nat) : Nat :=
  let d := s.media.dies.get m
  let live := d.blocks.foldl (fun n b => n + (s.liveIn m b.1).length) 0
  ((s.dieCommons m).getD 0) % 2 ^ 12 * 2 ^ 52 + d.cause % 2 ^ 12 * 2 ^ 40 + live % 2 ^ 32 * 2 ^ 8 + d.state % 4

/-- The HOLD block (R353). -/
def State.viewHold (s : State) (a : Nat) : Option Nat :=
  match s.hold.scars[s.getF F.HOLD_SCAR_SEL_VAL]? with
  | some x =>
    if a = R.HOLD_SCAR_ADDR then some x.addr
    else if a = R.HOLD_SCAR_INFO then some (x.leaves % 2 ^ 32 * 2 ^ 32 + x.reeve % 2 ^ 32)
    else if a = R.HOLD_MEMBER then some (s.viewMember (s.getF F.HOLD_MEMBER_SEL_VAL)) else none
  | none => if a = R.HOLD_MEMBER then some (s.viewMember (s.getF F.HOLD_MEMBER_SEL_VAL)) else none

/-! ### CARRIER, MAGPORT, LARDER -/

/-- The CARRIER block (R376). A stale peer number reads as zero. BASE and PEER show the selected registration, and what was last
written where it is FREE. -/
def State.viewCarrier (s : State) (a : Nat) : Option Nat :=
  let n := s.getF F.CARRIER_PEER_SEL_VAL
  let p := if s.peerLive n then s.peerAt (n % 65536) else default
  let i := s.getF F.CARRIER_REG_SEL_VAL
  let held := s.getF (F.CARRIER_REG_INFO_STATE.at i) ≠ 0
  if a = R.CARRIER_STATE then
    some ((s.car.peers.filter (fun x => x.2.used)).length * 2 ^ 40 +
      (s.regs.filter (fun x => x.1 % 4294967296 = R.CARRIER_REG_INFO && x.2.toNat % 4 ≠ 0)).length * 2 ^ 20 +
      (s.car.peers.filter (fun x => x.2.used && x.2.state = 2)).length)
  else if a = R.CARRIER_PEER then
    some (p.port * 2 ^ 48 + p.role * 2 ^ 40 + b2n (p.pinned || (p.used && s.linkPins n)) * 2 ^ 8 + p.state)
  else if a = R.CARRIER_PEER_NODE then some p.node
  else if a = R.CARRIER_PEER_EPOCHS then some (p.rxEpoch % 2 ^ 32 * 2 ^ 32 + p.txEpoch % 2 ^ 32)
  else if a = R.CARRIER_PEER_WINDOW then some (p.floor % 2 ^ 32 * 2 ^ 32 + p.txSeq % 2 ^ 32)
  else if a = R.CARRIER_PEER_RATE then some (p.rate % 2 ^ 32 * 2 ^ 32 + p.alpha % 2 ^ 16)
  else if a = R.CARRIER_PEER_FEAT then some (p.feat2 % 2 ^ 32 * 2 ^ 32 + p.feat0 % 2 ^ 32)
  else if a = R.CARRIER_REG_BASE ∧ held then some (s.getF (F.CARRIER_REG_BASE_ALL.at i))
  else if a = R.CARRIER_REG_PEER ∧ held then some (s.getF (F.CARRIER_REG_PEER_ALL.at i))
  else none

/-- The MAGPORT block (R401). -/
def State.viewMagport (s : State) (a : Nat) : Option Nat :=
  let p := (a - R.MAGPORT_P_CFG) / 0x100
  if a = R.MAGPORT_SUMMARY then some s.viewMagSummary
  else if a < R.MAGPORT_P_CFG ∨ 4 ≤ p then none
  else if a = R.MAGPORT_P_TASK + 0x100 * p then some (s.viewMagTask p)
  else if a = R.MAGPORT_P_REPORT_DATA + 0x100 * p then some (s.viewReport p)
  else none

/-- The LARDER block (R437): dirty lines in units of 64. -/
def State.viewLarder (s : State) (a : Nat) : Option Nat :=
  if a = R.LARDER_STATE then
    some ((s.larder.lines.filter (fun l => l.2.valid && l.2.dirty)).length / 64 % 2 ^ 16 * 2 ^ 48 + s.getN R.LARDER_STATE % 16)
  else none

/-! ### STRONG, REEVE, PARISH, CRIER, COUNT -/

/-- The entry of step n of a boot ledger as STRONG_BOOT_ENTRY shows it (R441). -/
def Ledger.word (l : Ledger) (n : Nat) : Nat :=
  let e := l.entries.get n
  if n = 0 ∨ 40 < n then 0
  else n * 2 ^ 56 + e.state % 2 ^ 8 * 2 ^ 48 + e.status % 2 ^ 16 * 2 ^ 32 + e.ms % 2 ^ 32

/-- A boot ledger as the secure NVM keeps it (R441): the header, and the 40 entries. -/
def Ledger.bytes (l : Ledger) : List Byte :=
  leBytes 4 0x4C544F42 ++ leBytes 8 l.cycle ++ leBytes 1 l.bank ++ leBytes 8 l.alt ++ leBytes 8 l.skip ++ leBytes 1 (b2n l.vinLost) ++
    List.replicate 34 0 ++ (upto 40).flatMap (fun i => leBytes 8 (l.word (i + 1)))

/-- The STRONG block (R460). -/
def State.viewStrong (s : State) (a : Nat) : Option Nat :=
  if a = R.STRONG_BOOT_ENTRY then
    let l := if s.getF F.STRONG_BOOT_SEL_PREV = 1 then s.strong.prev else s.strong.ledger
    some (l.word (s.getF F.STRONG_BOOT_SEL_STEP))
  else if a = R.STRONG_QUOTE_DATA then some (wordAt s.strong.quote (s.getF F.STRONG_QUOTE_SEL_VAL))
  else if a = R.STRONG_CERT_DATA then
    some (leNat ((upto 8).map (fun i => Config.certByte (8 * s.getF F.STRONG_CERT_SEL_VAL + i))))
  else if a = R.STRONG_KEY_OUT then some (wordAt s.strong.keyOut (s.getF F.STRONG_KEY_OUT_SEL_VAL))
  else if a = R.STRONG_VAULT_ID then some (s.strong.vaults.get (s.getF F.STRONG_VAULT_SEL_VAL)).ident
  else none

/-- The REEVE block (R486). -/
def State.viewReeve (s : State) (a : Nat) : Option Nat :=
  if a = R.REEVE_TIME then some s.timeWord
  else if a = R.REEVE_REEL_BASE then some s.plan.reelBase
  else none

/-- The PARISH block: the selected record of a path's snapshot (R471, R487). -/
def State.viewParish (s : State) (p : Path) (a : Nat) : Option Nat :=
  if R.PARISH_SNAP_DATA ≤ a ∧ a < R.PARISH_SNAP_DATA + 0x40 then
    some (wordAt (((s.obs.snaps.get p.num)[s.getF F.PARISH_SNAP_SEL_VAL]?).getD []) ((a - R.PARISH_SNAP_DATA) / 8))
  else none

/-- The record of the ring that carries a Crier sequence, if the ring still holds it (R477, R488). -/
def State.ringFrame (s : State) (n : Nat) : Option (List Byte) :=
  (s.obs.ring.flatMap Rec.frames).find? (fun f => fieldAt f 0 4 = n)

/-- The CRIER block (R488). -/
def State.viewCrier (s : State) (a : Nat) : Option Nat :=
  if a = R.CRIER_STATE then
    let q (f : CPath → List Rec) : Nat := recsIn (f s.obs.parish) + recsIn (f s.obs.push) + recsIn (f s.obs.ringP)
    some (min (q CPath.alarms) 65535 * 2 ^ 48 + min (q CPath.logs) 65535 * 2 ^ 32 + s.getF F.CRIER_STATE_PUSH)
  else if R.CRIER_RING_DATA ≤ a ∧ a < R.CRIER_RING_DATA + 0x40 then
    some (wordAt ((s.ringFrame (s.getF F.CRIER_RING_SEL_VAL)).getD []) ((a - R.CRIER_RING_DATA) / 8))
  else none

/-- The COUNT block (R489). -/
def State.viewCount (s : State) (a : Nat) : Option Nat := if a = R.COUNT_SAMPLE_BASE then some s.plan.sampleBase else none

/-! ### The whole map (R37) -/

/-- What the head computes of a register at a read; none where the register keeps its word. -/
def State.viewOf (s : State) (p : Path) (a : Nat) : Option Nat :=
  if a < 0x10000 then none
  else if a < 0x20000 then s.viewWarden a
  else if a < 0x30000 then s.viewReeve a
  else if a < 0x40000 then s.viewParish p a
  else if a < 0x50000 then s.viewCrier a
  else if a < 0x60000 then s.viewCount a
  else if a < 0x80000 then s.viewStrong a
  else if a < 0xA0000 then none
  else if a < 0x100000 then s.viewToll a
  else if a < 0x140000 then s.viewDocket a
  else if a < 0x180000 then s.viewCarrier a
  else if a < 0x1C0000 then none
  else if a < 0x200000 then s.viewMagport a
  else if a < 0x300000 then s.viewHands a
  else if a < 0x320000 then s.viewPress a
  else if a < 0x340000 then s.viewMill a
  else if a < 0x360000 then s.viewAssay p a
  else if a < 0x380000 then none
  else if a < 0x400000 then s.viewSieve a
  else if a < 0x480000 then s.viewTill a
  else if a < 0x4C0000 then s.viewLarder a
  else if a < 0x500000 then none
  else if a < 0x580000 then s.viewSteward a
  else if a < 0x600000 then s.viewSled a
  else s.viewHold a

/-- The value of the register at an address, as a path reads it. -/
def State.regGet (s : State) (p : Path) (a : Nat) : Word :=
  match s.viewOf p a with
  | some n => BitVec.ofNat 64 n
  | none => s.getR (s.regKey a)

end Sys2Proof.Machine
end

