-- ==== Sys2Proof/Machine/Control.lean ====
section
/-! DEFINITION. What a register write does (R11): a plain field takes its value, a field with a range refuses what lies outside it,
and a request field starts the operation its chapter gives it, through the meaning of that operation's own command. -/
namespace Sys2Proof.Machine

/-- The state a meaning leads to. -/
def State.did (s : State) (r : Res) : State :=
  match r with
  | .next t => t
  | _ => s

/-- Several request bits written together: the lowest acts (assumption log 21). -/
def State.pick (s : State) (v : Word) : List (Fld × (State → Res)) → State
  | [] => s
  | (f, g) :: r => if f.get v = 1 then s.did (g s) else State.pick s v r

/-- A request code: the one that stands at its place in the list, from 1 on; 0 asks nothing; any other is refused. -/
def State.code (s : State) (op : Nat) (l : List (State → Res)) (bad : State → State) : State :=
  if op = 0 then s
  else match l[op - 1]? with
    | some g => s.did (g s)
    | none => bad s

/-! ### Fields with a range -/

/-- Set each field whose value lies in its range; the answer is whether one did not. -/
def State.ranged (v : Word) : List (Fld × Nat × Nat) → State → Bool × State
  | [], s => (false, s)
  | (f, lo, hi) :: r, s =>
    if lo ≤ f.get v ∧ f.get v ≤ hi then State.ranged v r (s.setF f (f.get v))
    else (true, (State.ranged v r s).2)

/-- A write of a register whose fields have ranges: a field outside is unchanged, and the write completes with a status. Fields
whose values together break a rule of the register all keep their values. -/
def State.config (s : State) (v : Word) (st : Status) (fs : List (Fld × Nat × Nat)) (rel : List Fld) (ok : State → Bool) : State :=
  let (bad, s1) := State.ranged v fs s
  if ok s1 then s1.answer (if bad then st else 0)
  else (rel.foldl (fun t f => t.setF f (s.getF f)) s1).answer st

/-- The same with a STATUS field that shows the write's status. -/
def State.configStat (s : State) (v : Word) (f : Fld) (st : Status) (fs : List (Fld × Nat × Nat)) (rel : List Fld)
    (ok : State → Bool) : State :=
  let s1 := s.config v st fs rel ok
  s1.stat f s1.reply

/-- A register without a rule between its fields. -/
def noRule : State → Bool := fun _ => true

/-! ### IDENT, WARDEN, REEVE, PARISH, CRIER, COUNT -/

/-- A mode request (R35). -/
def State.writeModeReq (s : State) (o : Outside) (m : Nat) : State :=
  s.did (match m with
    | 1 => execModeReqBootstrap o.boot s
    | 2 => execModeReqJoining s
    | 3 => execModeReqPaired s
    | 4 => execModeReqSolo s
    | 7 => execModeReqService s
    | 8 => execModeReqReplay s
    | _ => execModeReqInvalid s)

/-- The IDENT block (R42, R46). -/
def State.writeIdent (s : State) (o : Outside) (a : Nat) (v : Word) : State :=
  if a = R.IDENT_MODE_REQ then s.writeModeReq o (F.IDENT_MODE_REQ_TARGET.get v)
  else if a = R.IDENT_FEAT_CTL then
    if F.IDENT_FEAT_CTL_GO.get v = 1 then s.did (execFeatNegotiate (F.IDENT_FEAT_CTL_PERSIST.get v = 1) s) else s
  else s.regSet a v

/-- The WARDEN block (R508). -/
def State.writeWarden (s : State) (a : Nat) (v : Word) : State :=
  if a = R.WARDEN_BANK_CFG then
    s.configStat v F.WARDEN_BANK_CFG_STATUS 0x5190 [(F.WARDEN_BANK_CFG_ESR_MAX, 50, 2000), (F.WARDEN_BANK_CFG_MEAS_H, 1, 720)] [] noRule
  else if a = R.WARDEN_BANK_CTL then s.pick v [(F.WARDEN_BANK_CTL_MEASURE, execBankMeasure)]
  else if a = R.WARDEN_TEST_CFG then
    s.configStat v F.WARDEN_TEST_CFG_STATUS 0x5190 [(F.WARDEN_TEST_CFG_HAND_H, 1, 168), (F.WARDEN_TEST_CFG_COUNCIL_H, 24, 255),
      (F.WARDEN_TEST_CFG_PRESS_MIN, 10, 10080), (F.WARDEN_TEST_CFG_SERDES_MIN, 1, 1440)] [] noRule
  else if a = R.WARDEN_TEST_CTL then
    let u := testUnit (F.WARDEN_TEST_CTL_KIND.get v) (F.WARDEN_TEST_CTL_UNIT.get v)
    (s.regSet a (F.WARDEN_TEST_CTL_UNIT.put v u)).pick v [(F.WARDEN_TEST_CTL_GO,
      execWardenTestGo (F.WARDEN_TEST_CTL_KIND.get v) u (F.WARDEN_TEST_CTL_FORCE.get v = 1))]
  else s.regSet a v

/-- The REEVE block (R486). -/
def State.writeReeve (s : State) (a : Nat) (v : Word) : State :=
  if a = R.REEVE_WALL then s.did (execWallWrite (F.REEVE_WALL_SECONDS.get v) s)
  else if a = R.REEVE_REEL_CTL then s.did (if F.REEVE_REEL_CTL_FREEZE.get v = 1 then execReelFreeze s else execReelThaw s)
  else if a = R.REEVE_REPLAY_CTL then s.pick v [(F.REEVE_REPLAY_CTL_STOP, execReplayStop)]
  else s.regSet a v

/-- The PARISH block (R487). -/
def State.writeParish (s : State) (p : Path) (a : Nat) (v : Word) : State :=
  if a = R.PARISH_CLEAR then s.pick v [(F.PARISH_CLEAR_GO, execParishClearGo)]
  else if a = R.PARISH_SNAP_CTL then
    (s.regSet a v).pick v [(F.PARISH_SNAP_CTL_GO,
      execParishSnapshot p (F.PARISH_SNAP_CTL_AREA.get v) (F.PARISH_SNAP_CTL_FROM.get v))]
  else s.regSet a v

/-- CRIER_RING_SEL.STATUS: 0x5171 when the ring no longer holds the record chosen (R477, R486). -/
def State.ringHeld (s : State) : State :=
  s.setF F.CRIER_RING_SEL_STATUS (if (s.ringFrame (s.getF F.CRIER_RING_SEL_VAL)).isSome then 0 else 0x5171)

/-- The CRIER block (R488). -/
def State.writeCrier (s : State) (a : Nat) (v : Word) : State :=
  if a = R.CRIER_CFG then
    s.configStat v F.CRIER_CFG_STATUS 0x5170 [(F.CRIER_CFG_LOG_RATE, 10, 10000), (F.CRIER_CFG_LOG_BURST, 10, 65535),
      (F.CRIER_CFG_HUSH_S, 1, 60)] [] noRule
  else if a = R.CRIER_RING_SEL then (s.regSet a v).ringHeld
  else s.regSet a v

/-- The COUNT block (R489): counter n at 0x100 + 0x20 · n. -/
def State.writeCount (s : State) (a : Nat) (v : Word) : State :=
  let n := (a - R.COUNT_P_CFG) / 0x20
  if a = R.COUNT_LATCH then s.pick v [(F.COUNT_LATCH_GO, execCountLatchGo)]
  else if a < R.COUNT_P_CFG ∨ 32 ≤ n then s.regSet a v
  else if a = R.COUNT_P_CFG + 0x20 * n then s.did (execCountCfgWrite n v s)
  else if a = R.COUNT_P_PERIOD + 0x20 * n then s.config v 0x5170 [(F.COUNT_P_PERIOD_VAL.win 0x20 n, 1000, 2 ^ 32 - 1)] [] noRule
  else s.regSet a v

/-! ### STRONG, COUNCIL -/

/-- The STRONG block (R460). -/
def State.writeStrong (s : State) (o : Outside) (a : Nat) (v : Word) : State :=
  let t := F.STRONG_KEY_CTL_TARGET.get v
  if a = R.STRONG_BOOT_CTL then
    s.pick v [(F.STRONG_BOOT_CTL_CLEAR_ALT, execStrongClearAlt), (F.STRONG_BOOT_CTL_RETRY, execStrongRetry o.boot)]
  else if a = R.STRONG_FW_CTL then
    s.pick v [(F.STRONG_FW_CTL_BEGIN, execFwBegin), (F.STRONG_FW_CTL_ABORT, execFwAbort), (F.STRONG_FW_CTL_END_BLOCK, execFwEndBlock),
      (F.STRONG_FW_CTL_VERIFY, execFwVerify), (F.STRONG_FW_CTL_ACTIVATE, execFwActivate o.boot), (F.STRONG_FW_CTL_COMMIT, execFwCommit),
      (F.STRONG_FW_CTL_ROLLBACK, execFwRollback o.boot)]
  else if a = R.STRONG_FW_DATA then s.did (execFwData v s)
  else if a = R.STRONG_ROLL_CTL then s.pick v [(F.STRONG_ROLL_CTL_GO, execRollGo)]
  else if a = R.STRONG_QUOTE_CTL then s.pick v [(F.STRONG_QUOTE_CTL_GO, execQuoteGo)]
  else if a = R.STRONG_KEY_CTL then
    (s.regSet a v).code (F.STRONG_KEY_CTL_OP.get v) [execKeyImportOmk, execKeyEnrollProgkey, execKeyVaultCreate t, execKeyVaultExport t,
      execKeyVaultImport t, execKeyVaultDelete t, execKeySessionLoad t] id
  else if a = R.STRONG_KEY_DATA then s.did (execKeyData v s)
  else if a = R.STRONG_AUTH_DATA then s.did (execAuthData v s)
  else s.regSet a v

/-- The COUNCIL block (R423). -/
def State.writeCouncil (s : State) (a : Nat) (v : Word) : State :=
  if a = R.COUNCIL_CFG then
    s.configStat v F.COUNCIL_CFG_STATUS 0x5130 [(F.COUNCIL_CFG_VOTE_WINDOW_US, 5, 1000), (F.COUNCIL_CFG_DISSENT_LIMIT, 1, 16)] [] noRule
  else if a = R.COUNCIL_DRILL_CFG then
    s.configStat v F.COUNCIL_DRILL_CFG_STATUS 0x5130 [(F.COUNCIL_DRILL_CFG_INTERVAL_H, 24, 8760), (F.COUNCIL_DRILL_CFG_HOLD_S, 5, 600),
      (F.COUNCIL_DRILL_CFG_ENABLE, 0, 1)] [] noRule
  else if a = R.COUNCIL_CORE_CTL then
    s.pick v [(F.COUNCIL_CORE_CTL_TEST, execCouncilCoreTest), (F.COUNCIL_CORE_CTL_RETIRE, execCouncilCoreRetire),
      (F.COUNCIL_CORE_CTL_RESTORE, execCouncilCoreRestore)]
  else if a = R.COUNCIL_DRILL_CTL then s.pick v [(F.COUNCIL_DRILL_CTL_GO, execCouncilDrillGo)]
  else s.regSet a v

/-! ### TOLL, DOCKET, HANDS -/

/-- The TOLL block (R167): a field of TOLL_POLICY outside its range is unchanged, and no status says so. -/
def State.writeToll (s : State) (a : Nat) (v : Word) : State :=
  if a = R.TOLL_POLICY then
    s.config v 0 [(F.TOLL_POLICY_TAKE_SHARE, 10, 100), (F.TOLL_POLICY_DIRTY_SHARE, 10, 100), (F.TOLL_POLICY_SLC_RSV, 5, 200),
      (F.TOLL_POLICY_REGION_FRAMES, 1, 8), (F.TOLL_POLICY_NOTICE_MIN, 1, 600), (F.TOLL_POLICY_ARM_WINDOW, 1, 3600)] [] noRule
  else if a = R.TOLL_REQ_CTL then
    (s.regSet a v).pick v [(F.TOLL_REQ_CTL_GO, execTollReqGo), (F.TOLL_REQ_CTL_CLOSE, execTollReqClose)]
  else s.regSet a v

/-- The DOCKET block (R146). -/
def State.writeDocket (s : State) (a : Nat) (v : Word) : State :=
  if a = R.DOCKET_QCTL then
    s.code (F.DOCKET_QCTL_OP.get v) [execDocketQueueResume, execDocketQueueReset, execDocketQueueFreeze] id
  else if a = R.DOCKET_ABORT then (s.regSet a v).pick v [(F.DOCKET_ABORT_GO, execDocketAbortGo (F.DOCKET_ABORT_TAG.get v))]
  else s.regSet a v

/-- The HANDS block (R61, R90). -/
def State.writeHands (s : State) (o : Outside) (a : Nat) (v : Word) : State :=
  if a = R.HANDS_RETIRE then
    let h := F.HANDS_RETIRE_HAND.get v
    (s.regSet a v).pick v [(F.HANDS_RETIRE_RETIRE, execHandsRetireReq h), (F.HANDS_RETIRE_RESTORE, execHandsRestoreReq h o.pass)]
  else if a = R.HANDS_WATCHDOG then s.config v 0 [(F.HANDS_WATCHDOG_CYCLES, 10000, 2 ^ 32 - 1)] [] noRule
  else if a = R.HANDS_LOAD_CTL then
    s.pick v [(F.HANDS_LOAD_CTL_BEGIN, execHandsLoadBegin), (F.HANDS_LOAD_CTL_COMMIT, execHandsLoadCommit),
      (F.HANDS_LOAD_CTL_ABORT, execHandsLoadAbort)]
  else if a = R.HANDS_LOAD_DATA then s.did (execHandsLoadData v s)
  else if a = R.HANDS_BIND then s.did (execHandsBind (F.HANDS_BIND_SLOT.get v) s)
  else if a = R.HANDS_UNLOAD then s.did (execHandsUnload (F.HANDS_UNLOAD_SLOT.get v) s)
  else s.regSet a v

/-! ### CARRIER, FABRIC, MAGPORT -/

/-- The CARRIER block (R376). -/
def State.writeCarrier (s : State) (a : Nat) (v : Word) : State :=
  if a = R.CARRIER_CFG then
    s.configStat v F.CARRIER_CFG_STATUS 0x5117 [(F.CARRIER_CFG_GIVEUP_MS, 5, 100), (F.CARRIER_CFG_EVICT_QUIET_MS, 20, 1000),
      (F.CARRIER_CFG_RTO_MIN_US, 10, 1000), (F.CARRIER_CFG_ACK_DELAY_US, 1, 63), (F.CARRIER_CFG_REASM_MS, 1, 15),
      (F.CARRIER_CFG_RATE_STEP, 1, 15), (F.CARRIER_CFG_QUEUE_GRACE_S, 1, 63)] [F.CARRIER_CFG_GIVEUP_MS, F.CARRIER_CFG_EVICT_QUIET_MS]
      (fun t => decide (2 * t.getF F.CARRIER_CFG_GIVEUP_MS ≤ t.getF F.CARRIER_CFG_EVICT_QUIET_MS))
  else if a = R.CARRIER_PEER_CTL then
    s.pick v [(F.CARRIER_PEER_CTL_PIN, execPeerPin), (F.CARRIER_PEER_CTL_UNPIN, execPeerUnpin), (F.CARRIER_PEER_CTL_RESET, execPeerReset)]
  else if a = R.CARRIER_REG_CTL then
    (s.regSet a v).pick v [(F.CARRIER_REG_CTL_CREATE, execRegCreate), (F.CARRIER_REG_CTL_REVOKE, execRegRevoke)]
  else s.regSet a v

/-- Whether a PORT code of FABRIC_SADDR_CFG names a port that is on: bit 3 only in split mode (R377). -/
def State.saddrPort (s : State) (code : Nat) : Bool :=
  let m := s.getF F.FABRIC_CFG_MODE / 4 ^ (code % 4) % 4
  code % 8 < 4 && m ≠ 0 && (code < 8 || m = 3)

/-- FABRIC_SADDR_CFG (R377): a port that is off, or IPv4 without feature 68, is refused with 0x5117. -/
def State.writeSaddr (s : State) (v : Word) : State :=
  let k := s.getF F.FABRIC_SADDR_SEL_VAL
  let port := F.FABRIC_SADDR_CFG_PORT.get v
  let v4 := F.FABRIC_SADDR_CFG_V4.get v
  let bad := s.saddrPort port = false ∨ (v4 = 1 ∧ s.feat 68 = false)
  if bad then s.stat (F.FABRIC_SADDR_CFG_STATUS.at k) 0x5117
  else (s.regSet R.FABRIC_SADDR_CFG v).stat (F.FABRIC_SADDR_CFG_STATUS.at k) 0

/-- The FABRIC block (R377). -/
def State.writeFabric (s : State) (a : Nat) (v : Word) : State :=
  if a = R.FABRIC_CFG then (s.regSet a v).stat F.FABRIC_CFG_STATUS 0
  else if a = R.FABRIC_SADDR_CFG then s.writeSaddr v
  else s.regSet a v

/-- MAGPORT_Pp_CFG (R401): ROLE and VOLUME only while the port is DOWN or OFF; ENABLE starts training, and its clearing ends the
link. -/
def State.writeMagCfg (s : State) (p : Nat) (v : Word) : State :=
  let st := s.magState p
  let g (f : Fld) : Nat := f.get v
  let fixed := (st ≠ 0 ∧ st ≠ 6) ∧ (g F.MAGPORT_P_CFG_ROLE ≠ s.magRole p ∨ g F.MAGPORT_P_CFG_VOLUME ≠ s.magVol p)
  if fixed ∨ g F.MAGPORT_P_CFG_ROLE = 3 then s.stat (magF F.MAGPORT_P_CFG_STATUS p) 0x7121
  else
    let s1 := ((s.setF (magF F.MAGPORT_P_CFG_ROLE p) (g F.MAGPORT_P_CFG_ROLE)).setF (magF F.MAGPORT_P_CFG_VOLUME p)
      (g F.MAGPORT_P_CFG_VOLUME)).setF (magF F.MAGPORT_P_CFG_TWIN p) (g F.MAGPORT_P_CFG_TWIN)
    let s2 := (s1.setF (magF F.MAGPORT_P_CFG_ENABLE p) (g F.MAGPORT_P_CFG_ENABLE)).stat (magF F.MAGPORT_P_CFG_STATUS p) 0
    if g F.MAGPORT_P_CFG_ENABLE = 1 ∧ st = 0 then s2.magTrain p
    else if g F.MAGPORT_P_CFG_ENABLE = 0 ∧ st ≠ 0 ∧ st ≠ 6 then (s2.magDown p 0).ingStop p 2
    else s2

/-- The MAGPORT block (R401): port p at 0x100 + 0x100 · p. -/
def State.writeMagport (s : State) (a : Nat) (v : Word) : State :=
  let p := (a - R.MAGPORT_P_CFG) / 0x100
  if a = R.MAGPORT_TIMERS then s.config v 0 [(F.MAGPORT_TIMERS_TWIN_LOSS_MS, 5, 200), (F.MAGPORT_TIMERS_RESEND_US, 10, 1000)] [] noRule
  else if a < R.MAGPORT_P_CFG ∨ 4 ≤ p then s.regSet a v
  else if a = R.MAGPORT_P_CFG + 0x100 * p then s.writeMagCfg p v
  else if a = R.MAGPORT_P_CTL + 0x100 * p then s.pick v [(F.MAGPORT_P_CTL_RETRAIN, execMagRetrain p)]
  else if a = R.MAGPORT_P_INGEST_CTL + 0x100 * p then
    s.pick v [(F.MAGPORT_P_INGEST_CTL_START, execIngestStart p), (F.MAGPORT_P_INGEST_CTL_STOP, execIngestStop p)]
  else s.regSet a v

/-! ### PRESS, MILL, ASSAY, TALLY -/

/-- The PRESS block (R188, R190): a field of PRESS_ADAPT outside its range is unchanged. -/
def State.writePress (s : State) (a : Nat) (v : Word) : State :=
  if a = R.PRESS_ADAPT then
    s.config v 0 [(F.PRESS_ADAPT_WINDOW_MS, 100, 60000), (F.PRESS_ADAPT_MIN_GRAINS, 0, 65535), (F.PRESS_ADAPT_FIT_FLOOR, 500, 999),
      (F.PRESS_ADAPT_START, 1, 15)] [] noRule
  else if a = R.PRESS_LANE_CTL then
    s.pick v [(F.PRESS_LANE_CTL_TEST, execPressLaneTest), (F.PRESS_LANE_CTL_RETIRE, execPressLaneRetire),
      (F.PRESS_LANE_CTL_RESTORE, execPressLaneRestore)]
  else if a = R.PRESS_STREAM_CFG then s.did (execPressStreamCfgWrite v s)
  else s.regSet a v

/-- The MILL block (R208). -/
def State.writeMill (s : State) (a : Nat) (v : Word) : State :=
  if a = R.MILL_KAT then s.config v 0 [(F.MILL_KAT_INTERVAL_S, 60, 86400)] [] noRule
  else if a = R.MILL_LOCK_LIMIT then s.config v 0 [(F.MILL_LOCK_LIMIT_LIMIT_US, 100, 1000000)] [] noRule
  else if a = R.MILL_CORE_CTL then
    s.pick v [(F.MILL_CORE_CTL_TEST, execMillCoreTest), (F.MILL_CORE_CTL_RETIRE, execMillCoreRetire),
      (F.MILL_CORE_CTL_RESTORE, execMillCoreRestore)]
  else s.regSet a v

/-- The ASSAY block (R213, R216, R224). -/
def State.writeAssay (s : State) (a : Nat) (v : Word) : State :=
  if a = R.ASSAY_KAT then s.config v 0 [(F.ASSAY_KAT_INTERVAL_S, 60, 86400)] [] noRule
  else if a = R.ASSAY_LANE_CTL then
    s.pick v [(F.ASSAY_LANE_CTL_TEST, execAssayLaneTest), (F.ASSAY_LANE_CTL_RETIRE, execAssayLaneRetire),
      (F.ASSAY_LANE_CTL_RESTORE, execAssayLaneRestore)]
  else if a = R.ASSAY_DMA_CTL then
    (if s.assay.busy then s else s.regSet a v).pick v [(F.ASSAY_DMA_CTL_GO, execAssayDmaGo), (F.ASSAY_DMA_CTL_CLOSE, execAssayDmaClose),
      (F.ASSAY_DMA_CTL_ABORT, execAssayDmaAbort)]
  else if a = R.ASSAY_FEED then s.did (execAssayFeed v s)
  else if a = R.ASSAY_FEED_TAIL then s.did (execAssayFeedTail v s)
  else if a = R.ASSAY_CMP_CTL then (s.regSet a v).pick v [(F.ASSAY_CMP_CTL_GO, execAssayCompareGo)]
  else s.regSet a v

/-- A register of Tally unit u, written by a path (R217, R218). -/
def State.writeUnit (s : State) (path u o : Nat) (a : Nat) (v : Word) : State :=
  match o with
  | 0x00 => s.did (execTallyAlgWrite path u (F.TALLY_U_CFG_ALG.get v) s)
  | 0x08 => s.did (execTallyValueWrite path u v s)
  | 0x10 => s.unitWrite path u (fun _ t => t.regSet a v)
  | 0x18 => s.did (execTallyFeedB path u v s)
  | 0x20 => s.did (execTallyFeedH path u v s)
  | 0x28 => s.did (execTallyFeedW path u v s)
  | 0x30 => s.did (execTallyFeedD path u v s)
  | _ => (s.unitWrite path u (fun _ t => t.regSet a v)).pick v
      [(F.TALLY_U_CTL_RESET, execTallyReset path u), (F.TALLY_U_CTL_COMPARE, execTallyCompare path u)]

/-- The TALLY block (R218, R225): unit u at 0x1000 + 0x40 · u; a path owns as 1 or 2. -/
def State.writeTally (s : State) (p : Path) (a : Nat) (v : Word) : State :=
  let path := p.num + 1
  if R.TALLY_U_CFG ≤ a ∧ a < R.TALLY_U_CFG + 0x800 then
    s.writeUnit path ((a - R.TALLY_U_CFG) / 0x40) ((a - R.TALLY_U_CFG) % 0x40) a v
  else if a = R.TALLY_CLAIM then
    (s.regSet a v).pick v [(F.TALLY_CLAIM_CLAIM, execTallyClaim path), (F.TALLY_CLAIM_RELEASE, execTallyRelease path (F.TALLY_CLAIM_UNIT.get v))]
  else s.regSet a v

/-! ### SIEVE, TILL, LARDER, HBM -/

/-- Whether every replication link is IDLE (R251). -/
def State.linksIdle (s : State) : Bool := (upto 16).all (fun k => s.linkState k = 0)

/-- The SIEVE block (R242, R251). -/
def State.writeSieve (s : State) (a : Nat) (v : Word) : State :=
  let k := s.getF F.SIEVE_REPL_SEL_VAL
  if a = R.SIEVE_CFG then
    s.config v 0 (if s.linksIdle then [(F.SIEVE_CFG_HOT_MIB, 256, 4096), (F.SIEVE_CFG_ARRAY_NO, 0, 65535)]
      else [(F.SIEVE_CFG_HOT_MIB, 256, 4096)]) [] noRule
  else if a = R.SIEVE_VOL_CFG then s.did (execSieveVaultWrite v s)
  else if a = R.SIEVE_SNAP_CTL then
    s.code (F.SIEVE_SNAP_CTL_OP.get v) [execSnapTake, execSnapDelete, execSnapPresent, execSnapWithdraw]
      (fun t => t.stat F.SIEVE_SNAP_CTL_STATUS 0x50C0)
  else if a = R.SIEVE_REPL_CFG then
    if s.linkState k ≠ 0 then s.answer 0x70C4
    else
      let c := F.SIEVE_REPL_CFG_CYCLE_S.at k
      let old := s.getF c
      let s1 := s.regSet a v
      if F.SIEVE_REPL_CFG_CYCLE_S.get v < 10 then s1.setF c old else s1
  else if a = R.SIEVE_REPL_PEER then if s.linkState k ≠ 0 then s.answer 0x70C4 else s.regSet a v
  else if a = R.SIEVE_REPL_CTL then s.code (F.SIEVE_REPL_CTL_OP.get v) [execReplOpen, execReplClose, execReplCycleNow] id
  else s.regSet a v

/-- The TILL block (R262, R272). -/
def State.writeTill (s : State) (a : Nat) (v : Word) : State :=
  if a = R.TILL_BUDGET_CFG then s.configStat v F.TILL_BUDGET_CFG_STATUS 0x50D0 [(F.TILL_BUDGET_CFG_DERATE, 300, 700)] [] noRule
  else if a = R.TILL_CF_CTL then s.pick v [(F.TILL_CF_CTL_RETRAIN, execTillCfRetrain)]
  else s.regSet a v

/-- LARDER_CTL: SEED is kept for the next module reset; a change of ENABLE disables or enables (R426, R429). -/
def State.writeLarderCtl (s : State) (v : Word) : State :=
  let s1 := s.setF F.LARDER_CTL_SEED (F.LARDER_CTL_SEED.get v)
  if F.LARDER_CTL_ENABLE.get v = s.getF F.LARDER_CTL_ENABLE then s1
  else s1.did (if F.LARDER_CTL_ENABLE.get v = 1 then execLarderEnable s1 else execLarderDisable s1)

/-- The LARDER block (R437). -/
def State.writeLarder (s : State) (o : Outside) (a : Nat) (v : Word) : State :=
  let w := F.LARDER_BANK_CTL_WAY.get v
  if a = R.LARDER_CTL then s.writeLarderCtl v
  else if a = R.LARDER_MAINT_CTL then
    (s.regSet a v).pick v [(F.LARDER_MAINT_CTL_GO, if F.LARDER_MAINT_CTL_OP.get v = 1 then execLarderInvalidate else execLarderClean)]
  else if a = R.LARDER_WAYS then s.did (execLarderWaysWrite (F.LARDER_WAYS_COUNT.get v) s)
  else if a = R.LARDER_BANK_CTL then
    (s.regSet a v).pick v [(F.LARDER_BANK_CTL_RETIRE, execLarderWayRetire w), (F.LARDER_BANK_CTL_RESTORE, execLarderWayRestore w o.pass)]
  else s.regSet a v

/-- The HBM block (R438). -/
def State.writeHbm (s : State) (a : Nat) (v : Word) : State :=
  if a = R.HBM_REMAP_CFG then s.configStat v F.HBM_REMAP_CFG_STATUS 0x5150 [(F.HBM_REMAP_CFG_SCRUB_H, 6, 168)] [] noRule
  else if a = R.HBM_ROW_CTL then (s.regSet a v).pick v [(F.HBM_ROW_CTL_REMAP, execHbmRowRemap (F.HBM_ROW_CTL_ROW.get v))]
  else s.regSet a v

/-! ### STEWARD, SLED, HOLD -/

/-- The STEWARD block (R292, R325). -/
def State.writeSteward (s : State) (a : Nat) (v : Word) : State :=
  if a = R.STEWARD_MAP_CFG then
    s.configStat v F.STEWARD_MAP_CFG_STATUS 0x50E0 [(F.STEWARD_MAP_CFG_CACHE_GIB, 4, 24), (F.STEWARD_MAP_CFG_CHECKPOINT_S, 5, 600),
      (F.STEWARD_MAP_CFG_CHECKPOINT_MIB, 64, 1024), (F.STEWARD_MAP_CFG_FLUSH_MS, 1, 100)] [] noRule
  else if a = R.STEWARD_CKPT_CTL then s.pick v [(F.STEWARD_CKPT_CTL_GO, execStewardCkptGo)]
  else if a = R.STEWARD_MEDIA_CFG then
    s.configStat v F.STEWARD_MEDIA_CFG_STATUS 0x50E0 [(F.STEWARD_MEDIA_CFG_FREE_LOW, 2, 100), (F.STEWARD_MEDIA_CFG_FREE_HIGH, 4, 200),
      (F.STEWARD_MEDIA_CFG_THIN_PM, 50, 500), (F.STEWARD_MEDIA_CFG_SECURE_BOUND_S, 60, 3600)]
      [F.STEWARD_MEDIA_CFG_FREE_LOW, F.STEWARD_MEDIA_CFG_FREE_HIGH]
      (fun t => decide (t.getF F.STEWARD_MEDIA_CFG_FREE_LOW < t.getF F.STEWARD_MEDIA_CFG_FREE_HIGH))
  else if a = R.STEWARD_GRANARY_CFG then
    s.configStat v F.STEWARD_GRANARY_CFG_STATUS 0x50E0 [(F.STEWARD_GRANARY_CFG_FORMAT_PM, 10, 100), (F.STEWARD_GRANARY_CFG_WARN_PM, 100, 500),
      (F.STEWARD_GRANARY_CFG_SEAL_PM, 20, 200)] [F.STEWARD_GRANARY_CFG_WARN_PM, F.STEWARD_GRANARY_CFG_SEAL_PM]
      (fun t => decide (t.getF F.STEWARD_GRANARY_CFG_SEAL_PM < t.getF F.STEWARD_GRANARY_CFG_WARN_PM))
  else if a = R.STEWARD_CAL_CFG then
    s.config v 0x50E0 [(F.STEWARD_CAL_CFG_CAL_TRIGGER_PCT, 50, 95), (F.STEWARD_CAL_CFG_CAL_HOURS, 24, 2160)] [] noRule
  else if a = R.STEWARD_VOL_MEDIA then s.did (execStewardSecureWrite v s)
  else s.regSet a v

/-- The SLED block (R304, R326). -/
def State.writeSled (s : State) (a : Nat) (v : Word) : State :=
  if a = R.SLED_TIMEOUT then s.config v 0 [(F.SLED_TIMEOUT_VAL, 100, 10000)] [] noRule
  else if a = R.SLED_CTL then
    s.pick v [(F.SLED_CTL_POWER_OFF, execSledPowerOff), (F.SLED_CTL_POWER_ON, execSledPowerOn), (F.SLED_CTL_RESET, execSledReset),
      (F.SLED_CTL_RETRAIN, execSledRetrain)]
  else s.regSet a v

/-- The HOLD block (R353). -/
def State.writeHold (s : State) (a : Nat) (v : Word) : State :=
  if a = R.HOLD_CFG then
    s.configStat v F.HOLD_CFG_STATUS 0x5100 [(F.HOLD_CFG_REBUILD_MAX_MB, 1000, 30000), (F.HOLD_CFG_REBUILD_BOUND_H, 2, 168),
      (F.HOLD_CFG_DOUBLE_BOUND_H, 1, 24), (F.HOLD_CFG_SPARE_SLEDS, 0, 1), (F.HOLD_CFG_LEDGER_MS, 5, 200), (F.HOLD_CFG_WATCH_DAYS, 1, 365)]
      [F.HOLD_CFG_REBUILD_BOUND_H, F.HOLD_CFG_DOUBLE_BOUND_H]
      (fun t => decide (t.getF F.HOLD_CFG_DOUBLE_BOUND_H < t.getF F.HOLD_CFG_REBUILD_BOUND_H))
  else if a = R.HOLD_CTL then
    s.code (F.HOLD_CTL_OP.get v) [execHoldForm, execHoldDissolve, execHoldTakeIn, execHoldFail, execHoldResync, execHoldWatchNow]
      (fun t => t.stat F.HOLD_CTL_STATUS 0x5100)
  else s.regSet a v

/-! ### The whole map -/

/-- A 64-bit write of the register at an address by a path; State.reply is the status it completes with (R37, R38). -/
def State.regWrite (s0 : State) (p : Path) (o : Outside) (a : Nat) (v : Word) : State :=
  let s := s0.answer 0
  if a < 0x10000 then s.writeIdent o a v
  else if a < 0x20000 then s.writeWarden a v
  else if a < 0x30000 then s.writeReeve a v
  else if a < 0x40000 then s.writeParish p a v
  else if a < 0x50000 then s.writeCrier a v
  else if a < 0x60000 then s.writeCount a v
  else if a < 0x80000 then s.writeStrong o a v
  else if a < 0xA0000 then s.writeCouncil a v
  else if a < 0x100000 then s.writeToll a v
  else if a < 0x140000 then s.writeDocket a v
  else if a < 0x180000 then s.writeCarrier a v
  else if a < 0x1C0000 then s.writeFabric a v
  else if a < 0x200000 then s.writeMagport a v
  else if a < 0x300000 then s.writeHands o a v
  else if a < 0x320000 then s.writePress a v
  else if a < 0x340000 then s.writeMill a v
  else if a < 0x360000 then s.writeAssay a v
  else if a < 0x380000 then s.writeTally p a v
  else if a < 0x400000 then s.writeSieve a v
  else if a < 0x480000 then s.writeTill a v
  else if a < 0x4C0000 then s.writeLarder o a v
  else if a < 0x500000 then s.writeHbm a v
  else if a < 0x580000 then s.writeSteward a v
  else if a < 0x600000 then s.writeSled a v
  else s.writeHold a v

/-- A read with what it changes: word 0 of a hallmark latches (R215), a read of STRONG_AUTH_NONCE draws (R451), a read of a LAPSED take's
state frees its number (R156), and a record the ring no longer holds reads as zeros with 0x5171 (R477). -/
def State.regRead (s0 : State) (p : Path) (a : Nat) : Word × State :=
  let s := s0.answer 0
  if R.ASSAY_HM ≤ a ∧ a < R.ASSAY_HM + 0x200 ∧ (a - R.ASSAY_HM) % 0x40 = 0 then
    let s1 := s.did (execHallmarkWord0Read p ((a - R.ASSAY_HM) / 0x40) s)
    (s1.regGet p a, s1)
  else if a = R.STRONG_AUTH_NONCE then
    s.nonceRead
  else if a = R.TOLL_TAKE_INFO then s.takeInfoRead (s.getF F.TOLL_TAKE_SEL_VAL)
  else if R.CRIER_RING_DATA ≤ a ∧ a < R.CRIER_RING_DATA + 0x40 then
    (s.regGet p a, s.ringHeld)
  else (s.regGet p a, s)

end Sys2Proof.Machine
end

