-- ==== Sys2Proof/Machine/Access.lean ====
section
/-! DEFINITION. Access to the management map: what is readable (R37), the checks of R38, the halves of R39, and the SPI target
(R40, R526). -/
namespace Sys2Proof.Machine

/-! ### Readiness (R37) -/

/-- Whether a step of the start is done, by its alternate or not (R441). -/
def State.stepDone (s : State) (n : Nat) : Bool :=
  let e := (s.strong.ledger.entries.get n).state
  e = 2 || e = 5

/-- The blocks readable from t0 + 1 ms, and those readable once the HBM is trained; the others wait for the engines (R37, R528). -/
def earlyBlock (a : Nat) : Bool :=
  decide (a < 0x50000) || (decide (0x60000 ≤ a) && decide (a < 0x80000)) || (decide (0x340000 ≤ a) && decide (a < 0x360000)) ||
    (decide (0x4C0000 ≤ a) && decide (a < 0x500000))
def hbmBlock (a : Nat) : Bool :=
  (decide (0x50000 ≤ a) && decide (a < 0x60000)) || (decide (0x400000 ≤ a) && decide (a < 0x4C0000))

/-- Whether the block at an address is readable (R37). -/
def State.readable (s : State) (a : Nat) : Bool :=
  s.pins.misoAnswers &&
    (earlyBlock a || (if hbmBlock a then s.stepDone 11 else [19, 20, 21, 22].all (fun n => s.stepDone n)))

/-! ### One access (R38, R39) -/

/-- IDENT_MAP_ERR: a bit, and the address and path of the error (R42). -/
def State.mapErr (s : State) (p : Path) (f : Fld) (a : Nat) : State :=
  ((s.setF f 1).setF F.IDENT_MAP_ERR_ADDR a).setF F.IDENT_MAP_ERR_PATH p.num

/-- The checks of R38 in their order: the first that fails, its status and its bit. -/
def State.accessBad (s : State) (width a : Nat) : Option (Status × Fld) :=
  if width < 32 then some (0x5002, F.IDENT_MAP_ERR_WIDTH)
  else if a % (width / 8) ≠ 0 then some (0x5003, F.IDENT_MAP_ERR_ALIGN)
  else if 0x700000 ≤ a then some (0x5001, F.IDENT_MAP_ERR_RSVD_ADDR)
  else if s.readable a = false then some (0x8001, F.IDENT_MAP_ERR_NOT_READY)
  else none

/-- What a path holds. -/
def State.latch (s : State) (p : Path) : Latch := s.latches.get p.num

/-- Put what a path holds. -/
def State.putLatch (s : State) (p : Path) (l : Latch) : State := { s with latches := s.latches.set p.num l }

/-- Whether an access is the high-half write that completes a held low half (R39). -/
def Latch.commits (l : Latch) (width a : Nat) (v : Option Nat) : Bool :=
  match l.held with
  | some (r, _) => v.isSome && width = 32 && a = r + 4
  | none => false

/-- Every access first settles the path's held half: any access but the one that completes it discards it, with TORN and the
register's address (R39). -/
def State.latchSettle (s : State) (p : Path) (width a : Nat) (v : Option Nat) : State :=
  let l := s.latch p
  let s1 := match l.held with
    | some (r, _) => if l.commits width a v then s else s.mapErr p F.IDENT_MAP_ERR_TORN r
    | none => s
  s1.putLatch p default

/-- A read that has passed the checks (R39). -/
def State.readHalf (s : State) (p : Path) (l : Latch) (width a : Nat) : Nat × State :=
  let reg := a / 8 * 8
  if width = 64 then ((s.regRead p reg).1.toNat, (s.regRead p reg).2)
  else if a % 8 = 0 then
    let (v, t) := s.regRead p reg
    (v.toNat % 2 ^ 32, t.putLatch p { (default : Latch) with low := some (reg, v.toNat / 2 ^ 32) })
  else match l.low with
    | some (r, h) => if r = reg then (h, s.answer 0) else ((s.regRead p reg).1.toNat / 2 ^ 32, (s.regRead p reg).2)
    | none => ((s.regRead p reg).1.toNat / 2 ^ 32, (s.regRead p reg).2)

/-- A write that has passed the checks (R39). -/
def State.writeHalf (s : State) (p : Path) (o : Outside) (l : Latch) (width a n : Nat) : State :=
  let reg := a / 8 * 8
  if width = 64 then s.regWrite p o reg (BitVec.ofNat 64 n)
  else if a % 8 = 0 then (s.putLatch p { (default : Latch) with held := some (reg, n % 2 ^ 32) }).answer 0
  else match l.held with
    | some (r, lo) =>
      if r = reg then s.regWrite p o reg (BitVec.ofNat 64 (n % 2 ^ 32 * 2 ^ 32 + lo))
      else (s.mapErr p F.IDENT_MAP_ERR_TORN a).answer 0x5004
    | none => (s.mapErr p F.IDENT_MAP_ERR_TORN a).answer 0x5004

/-- The common registers of the HANDS block are the same whichever Hand's window is used (R90): an address of a later window
reaches Hand 0's. -/
def homeReg (a : Nat) : Nat :=
  if 0x210000 ≤ a ∧ a < 0x300000 ∧ 0x8000 ≤ a % 0x10000 then 0x200000 + a % 0x10000 else a

/-- One access of a path, 8 to 64 bits wide, a write where a value is given: the data, and the state with the status in reply. -/
def State.access (s : State) (p : Path) (o : Outside) (width a0 : Nat) (v : Option Nat) : Nat × State :=
  let a := homeReg a0
  let l := s.latch p
  let s1 := s.latchSettle p width a v
  match s1.accessBad width a0 with
  | some (st, f) => (0, (s1.mapErr p f a0).answer st)
  | none =>
    match v with
    | none => s1.readHalf p l width a
    | some n =>
      -- R13: a TORN that this very access sets is not cleared by what it writes
      let t := s1.writeHalf p o l width a n
      (0, if l.held.isSome && !l.commits width a v then t.setF F.IDENT_MAP_ERR_TORN 1 else t)

/-! ### SPI (R40, R526) -/

/-- The bytes of a status on SPI_MISO. -/
def statusBytes (st : Status) : List Byte := beBytes 2 st

/-- Drive bytes on SPI_MISO. -/
def State.drive (s : State) (l : List Byte) : State := if l.isEmpty then s else s.send (.miso l)

/-- An SPI access: the bytes the head answers with, data first (R40). -/
def State.spiAccess (s : State) (o : Outside) (width a : Nat) (v : Option Nat) : List Byte × State :=
  let (d, t) := s.access .spi o width a v
  ((if v.isSome then [] else leBytes (width / 8) d) ++ statusBytes t.reply, t)

/-- A whole SPI transaction, where the target answers at all. -/
def State.spi (s : State) (o : Outside) (width a : Nat) (v : Option Nat) : State :=
  if s.pins.misoAnswers then (s.spiAccess o width a v).2.drive (s.spiAccess o width a v).1 else s

/-- n registers of a burst, from an address on. -/
def State.spiBurst (s : State) (a : Nat) : Nat → List Byte × State
  | 0 => ([], s)
  | n + 1 =>
    let (l, t) := s.spiBurst a n
    let (d, u) := t.spiAccess default 64 (a + 8 * n) none
    (l ++ d, u)

/-- An unknown opcode: 0x5005 in the two byte times after it, then zeros (R40). -/
def unknownBytes (n : Nat) : List Byte := (statusBytes 0x5005 ++ List.replicate n 0).take n

/-- SPI READ (R40). -/
def execSpiRead (addr : Nat) (s : State) : Res := .next (s.spi default 64 addr none)

/-- SPI WRITE (R40). -/
def execSpiWrite (addr : Nat) (v : Word) (o : Outside) (s : State) : Res := .next (s.spi o 64 addr (some v.toNat))

/-- SPI READ_BURST of count registers; without feature 2 its opcode is unknown (R40). -/
def execSpiReadBurst (addr count : Nat) (s : State) : Res :=
  .next (if s.pins.misoAnswers = false then s
    else if s.feat 2 then (s.spiBurst addr count).2.drive (s.spiBurst addr count).1
    else s.drive (unknownBytes (5 + 10 * count)))

/-- SPI READ32 (R39, R40). -/
def execSpiRead32 (addr : Nat) (s : State) : Res := .next (s.spi default 32 addr none)

/-- SPI WRITE32 (R39, R40). -/
def execSpiWrite32 (addr v : Nat) (o : Outside) (s : State) : Res := .next (s.spi o 32 addr (some v))

/-- SPI READ16: no effect but 0x5002 and WIDTH (R39, R40). -/
def execSpiRead16 (addr : Nat) (s : State) : Res := .next (s.spi default 16 addr none)

/-- SPI READ8 (R39, R40). -/
def execSpiRead8 (addr : Nat) (s : State) : Res := .next (s.spi default 8 addr none)

/-- SPI WRITE16 (R39, R40). -/
def execSpiWrite16 (addr v : Nat) (s : State) : Res := .next (s.spi default 16 addr (some v))

/-- SPI WRITE8 (R39, R40). -/
def execSpiWrite8 (addr v : Nat) (s : State) : Res := .next (s.spi default 8 addr (some v))

/-- An unknown SPI opcode, with the byte times that follow it (R40). -/
def execSpiUnknownOpcode (count : Nat) (s : State) : Res :=
  .next (if s.pins.misoAnswers then s.drive (unknownBytes count) else s)

/-- How an opcode reads: its width, whether it writes, or none where it is unknown (R40). -/
def spiOp (op : Nat) : Option (Nat × Bool) :=
  match op with
  | 0x03 => some (64, false) | 0x0B => some (64, false) | 0x13 => some (32, false) | 0x23 => some (16, false) | 0x33 => some (8, false)
  | 0x02 => some (64, true) | 0x12 => some (32, true) | 0x22 => some (16, true) | 0x32 => some (8, true)
  | _ => none

/-- SPI_CS_N rises after these bytes from the board controller (R526): a read is made at the end of its dummy byte, a further
register of a burst once its first data byte begins, a write once all its data have arrived; before that nothing happens. -/
def State.csRise (s : State) (o : Outside) (b : List Byte) : State :=
  let op := fieldAt b 0 1
  let a := beNat ((b.drop 1).take 4)
  if b.isEmpty ∨ s.pins.misoAnswers = false then s
  else match (if op = 0x0B ∧ s.feat 2 = false then none else spiOp op) with
    | none => s.drive (unknownBytes (b.length - 1))
    | some (w, true) =>
      if b.length < 5 + w / 8 then s
      else
        let (l, t) := s.spiAccess o w a (some (fieldAt b 5 (w / 8)))
        t.drive (l.take (b.length - 5 - w / 8))
    | some (w, false) =>
      if b.length < 6 then s
      else
        let m := b.length - 6
        let (l, t) := if op = 0x0B then s.spiBurst a (max 1 ((m + 9) / 10)) else s.spiAccess default w a none
        t.drive (l.take m)

/-- SPI_CS_N rises early (R526). -/
def execSpiCsEarlyRise (bytes : List Byte) (o : Outside) (s : State) : Res := .next (s.csRise o bytes)

/-! ### Writes and reads named for their effect -/

/-- A 64-bit register write by a path (R11, R38); an engine's window reaches the TALLY block (R218), and a write elsewhere through it
has no effect (DESIGN CHOICE, assumption log 24). -/
def execRegisterWrite (p : Path) (addr : Nat) (v : Word) (o : Outside) (s : State) : Res :=
  .next (
    if p.engine then (if 0x360000 ≤ addr ∧ addr < 0x380000 then s.regWrite p o addr v else s)
    else if s.pins.misoAnswers then (s.access p o 64 addr (some v.toNat)).2 else s)

/-- Management reads a take's state (R156). -/
def execTakeInfoRead (p : Path) (s : State) : Res :=
  .next (if s.pins.misoAnswers then (s.access p default 64 R.TOLL_TAKE_INFO none).2 else s)

end Sys2Proof.Machine
end

