-- ==== Sys2Proof/Machine/Carrier.lean ====
section
/-! DEFINITION. Receiving on the Carrier (R354 to R373): the checks of a message, epochs and windows, what each message does, and
acknowledgement. The rows are in Io.lean. -/
namespace Sys2Proof.Machine

/-! ### Forms (R358) -/

/-- Whether a type is idempotent. -/
def carIdem (type : Nat) : Bool := [0x01, 0x02, 0x03, 0x04, 0x05, 0x06, 0x07, 0x17, 0x18].contains type

/-- Types that travel on Carrier-M, and those that travel on the fabric ports; a READ_RESP answers a READ on either. -/
def carTravels (mgmt : Bool) (type : Nat) : Bool :=
  if mgmt then [0x01, 0x02, 0x03, 0x04, 0x05, 0x06, 0x07, 0x17, 0x18, 0x19, 0x1A].contains type
  else decide (1 ≤ type) && decide (type ≤ 0x16) && type ≠ 0x15

/-- Whether n bytes from an offset on are zero. -/
def zeroAt (b : List Byte) (ofs n : Nat) : Bool := fieldAt b ofs n = 0

/-- Whether the items of an ACK have their form (R360). -/
def ackItemsOk (b : List Byte) : Bool :=
  (upto (fieldAt b 0x14 2)).all (fun i =>
    (fieldAt b (0x18 + 32 * i + 4) 1 = 1 || fieldAt b (0x18 + 32 * i + 4) 1 = 2) && zeroAt b (0x18 + 32 * i + 5) 1)

/-- Whether a body has the form of its type, reserved fields zero (R357, R358). -/
def carBodyOk (type : Nat) (b : List Byte) : Bool :=
  let n := b.length
  match type with
  | 0x01 => n = 16 && decide (1 ≤ fieldAt b 12 1) && decide (fieldAt b 12 1 ≤ 5) && zeroAt b 13 3
  | 0x02 => n = 20 && zeroAt b 2 2
  | 0x03 => n = 8 && zeroAt b 4 4
  | 0x04 => n = 0x18 + 32 * fieldAt b 0x14 2 && zeroAt b 0x16 2 && ackItemsOk b
  | 0x05 => decide (24 ≤ n) && decide (n ≤ 1048576) && zeroAt b 20 4
  | 0x06 => n = 24 && decide (fieldAt b 16 4 ≤ 1048552)
  | 0x07 => decide (16 ≤ n) && decide (n ≤ 1048576) && zeroAt b 6 2
  | 0x08 => n = 16
  | 0x09 => n = 8 && decide (2 ≤ fieldAt b 2 2) && decide (fieldAt b 2 2 ≤ 4096) && decide (fieldAt b 4 2 < 2) && zeroAt b 6 2
  | 0x0A => n = 8 && zeroAt b 6 2
  | 0x0B => n = 8 && decide (1 ≤ fieldAt b 2 1) && decide (fieldAt b 2 1 ≤ 3) && zeroAt b 3 5
  | 0x0C => n = 72 && zeroAt b 2 6
  | 0x0D => n = 24 && zeroAt b 6 2 && zeroAt b 12 4
  | 0x0E => n = 8 && zeroAt b 4 4
  | 0x0F => n = 8 && decide (fieldAt b 4 1 < 3) && zeroAt b 5 3
  | 0x10 => n = 16 && (fieldAt b 2 1 = 1 || fieldAt b 2 1 = 2) && zeroAt b 3 5
  | 0x11 => n = 64 && decide (fieldAt b 2 2 < 8) && zeroAt b 0x31 15
  | 0x12 => n = 64
  | 0x13 => n = 8 && zeroAt b 1 7
  | 0x14 => n = 32 && decide (fieldAt b 2 1 < 2) && zeroAt b 3 1
  | 0x16 => decide (16 ≤ n) && decide (n ≤ 1048576)
  | 0x17 => n = 8 && [1, 2, 4, 8].contains (fieldAt b 4 1) && zeroAt b 5 3
  | 0x18 => n = 16 && zeroAt b 7 1
  | 0x19 => n = 16 && [1, 2, 4, 8].contains (fieldAt b 4 1) && zeroAt b 5 3
  | 0x1A => n = 64
  | _ => false

/-- Whether FLAGS and KEY have their form on the port a message came by (R355, R356, R358). -/
def carFlagsOk (h : CarHdr) (type : Nat) : Bool :=
  h.flags / 32 = 0 && h.flags.testBit 4 = decide (h.port = 8) && carTravels (decide (h.port = 8)) type &&
    (!h.flags.testBit 0 || h.flags.testBit 1 || decide (h.key < 16))

/-! ### Arrival (R354, R357, R363) -/

/-- Whether messages reach the head on a port: Carrier-M once it is trained, a fabric port while its link is up and the head takes
data (R31, R266). -/
def State.carrierUp (s : State) (port : Nat) : Bool :=
  s.power = .on && (if port = 8 then s.stepDone 24
    else decide (port < 8) && !s.deaf && decide (s.getN R.FABRIC_LINK / 4 ^ (2 * (port % 4) + port / 4) % 4 = 2))

/-- Whether a message came to an address of this head (R354, R363): a service address it serves, over IPv4 only with feature 68 and an
IPv4 address there. -/
def State.carAddr (s : State) (h : CarHdr) : Bool :=
  h.port = 8 || (decide (h.addr < 16) && s.getF (F.FABRIC_SADDR_STATE_SERVING.at h.addr) = 1 &&
    (!h.v4 || (s.feat 68 && s.getF (F.FABRIC_SADDR_CFG_V4.at h.addr) = 1)))

/-- Count what came in on a fabric port (R377). -/
def State.carCount (s : State) (h : CarHdr) (len : Nat) : State :=
  if h.port = 8 then s
  else
    let s1 := s.addN (R.FABRIC_P_RX_BYTES + 64 * (h.port % 4)) (carWireBytes h.flags len)
    if h.ce then s1.addN (R.FABRIC_P_CE + 64 * (h.port % 4)) 1 else s1

/-- Bytes that stand in the reassembly store for messages not whole (R357). -/
def State.reasmBytes (s : State) : Nat := s.car.reasm.foldl (fun n r => n + r.len) 0

/-- Whether a record of the store is of a message. -/
def Reasm.of (r : Reasm) (h : CarHdr) : Bool := r.node = h.node && r.port = h.port && r.epoch = h.epoch && r.seq = h.seq

/-- Take a message out of the store. -/
def State.reasmDrop (s : State) (h : CarHdr) : State :=
  { s with car := { s.car with reasm := s.car.reasm.filter (fun r => !r.of h) } }

/-- Whether a message finds room in the 64 MiB store (R357). -/
def State.reasmRoom (s : State) (h : CarHdr) (len : Nat) : Bool :=
  s.car.reasm.any (fun r => r.of h) || decide (s.reasmBytes + len ≤ 67108864)

/-- Whether the head holds the key a sealed message names (R356): a session key needs feature 65 and a slot in CARRIER_KEYMAP. -/
def State.carKey (s : State) (h : CarHdr) : Bool :=
  !h.flags.testBit 0 || h.flags.testBit 1 ||
    (s.feat 65 && (s.getN (R.CARRIER_KEYMAP + 8 * (h.key % 16 / 8)) / 256 ^ (h.key % 8) % 64 ≠ 0))

/-- The entry of a node, on the fabric or on Carrier-M. -/
def State.carFind (s : State) (h : CarHdr) : Option Nat :=
  (s.car.peers.find? (fun p => p.2.used && p.2.node = h.node && decide (65536 ≤ p.1) = decide (h.port = 8))).map Prod.fst

/-- A node whose entry was evicted keeps its queues and takes under the new peer number (R364). -/
def State.carMoved (s : State) (i : Nat) : State :=
  let node := (s.peerAt i).node
  let old := s.car.moved.get node
  if old = 0 ∨ 65536 ≤ i then s
  else
    let s1 : State := { s with car := { s.car with moved := s.car.moved.set node 0 } }
    let s2 := (s1.docket.queues.filter (fun p => p.2.kind = kCarrier && p.2.source = old - 1)).foldl
      (fun s p => s.putQueue p.1 { s.queueOf p.1 with source := s.peerNum i }) s1
    (s2.toll.takes.filter (fun p => p.2.route = 1 && p.2.peer = old - 1)).foldl
      (fun s p => s.putTake p.1 { s.takeOf p.1 with peer := s.peerNum i }) s2

/-- The entry a message belongs to; a new node's is created, or refused with 0x8110 where there is no room (R363, R364). -/
def State.carEntry (s : State) (h : CarHdr) (type : Nat) : Option Nat × State :=
  match s.carFind h with
  | some i => (some i, s.putPeer i { s.peerAt i with port := h.port, lastRx := s.time })
  | none =>
    match s.peerPlace (decide (h.port = 8)) with
    | (none, s1) => (none, (s1.carAckBare h 0x8110).carErr 0 type 0x8110)
    | (some i, s1) => (some i, (s1.peerNew i h.node h.port h.epoch).carMoved i)

/-- A failing GCM tag or PCRC: discarded unacknowledged and counted; 16 failed tags from a peer within 1 s are a cause of ERROR
(R357, R365). -/
def State.carTagFail (s : State) (h : CarHdr) : State :=
  if h.flags.testBit 0 then
    let s1 := s.addN R.CARRIER_TAG_FAIL 1
    match s1.carFind h with
    | none => s1
    | some i =>
      let p := s1.peerAt i
      let l := (p.tagFails.filter (fun t => decide (s.time < t + 1000000))) ++ [s.time]
      let s2 := s1.putPeer i { p with tagFails := l }
      if 16 ≤ l.length then s2.carFail i 0x6110 else s2
  else if h.port = 8 then s
  else s.addF { F.FABRIC_P_ERR_DISCARDED with addr := R.FABRIC_P_ERR + 64 * (h.port % 4) } 1

/-! ### Windows (R362) -/

/-- A higher EPOCH starts a new window: the entry is UNSYNCED, and in ERROR stays so. -/
def State.carEpoch (s : State) (i epoch : Nat) : State :=
  let p := s.peerAt i
  if p.rxEpoch < epoch then
    s.putPeer i { p with rxEpoch := epoch, floor := 0, taken := [], unacked := [], held := [], got := 0
                         state := if p.state = 2 then 2 else 0 }
  else s

/-- A SEQ at or above FLOOR + 1,024 becomes the top of the window. -/
def State.carSlide (s : State) (i seq : Nat) : State :=
  let p := s.peerAt i
  if p.floor + 1024 ≤ seq then
    let f := seq - 1023
    s.putPeer i { p with floor := f, taken := p.taken.filter (fun q => decide (f ≤ q)), unacked := p.unacked.filter (fun u => decide (f ≤ u.1)) }
  else s

/-- Insert into a rising list without repeats. -/
def insertRising (n : Nat) : List Nat → List Nat
  | [] => [n]
  | a :: r => if n < a then n :: a :: r else if n = a then a :: r else a :: insertRising n r

/-- A SEQ of the window has been taken. -/
def State.carMark (s : State) (i seq : Nat) : State :=
  let p := s.peerAt i
  if p.used ∧ p.floor ≤ seq then s.putPeer i { p with taken := insertRising seq p.taken } else s

/-- Whether every lower SEQ of the window has been taken. -/
def Peer.lowerTaken (p : Peer) (seq : Nat) : Bool := (upto (seq - p.floor)).all (fun k => p.taken.contains (p.floor + k))

/-- A refused message: acknowledged at once with a STATUS item; the last error shows it (R360, R376). -/
def State.carRefuse (s : State) (i type seq : Nat) (st : Status) (det : Nat) : State :=
  (s.carAck i [(⟨seq, 1, st, det, 0⟩ : AckItem)]).carErr (s.peerNum i) type st

/-- A message of a lower epoch: refused under the epoch it bears (R362). -/
def State.carOld (s : State) (i : Nat) (h : CarHdr) (type : Nat) : State :=
  ((s.carOut (s.peerNum i) 0x04 (carFlags i) (s.peerAt i).txEpoch 0 0
    (ackBody h.epoch 0 0 0 [(⟨h.seq, 1, 0x5112, 0, 0⟩ : AckItem)])).addF ⟨R.CARRIER_DUPS, 0, 32⟩ 1).carErr (s.peerNum i) type 0x5112

/-! ### HELLO and FLOOR (R47, R358, R362) -/

/-- FLOOR of a message is set: the window is cleared and the entry SYNCED (R362). -/
def State.carFloor (s : State) (i floor : Nat) : State :=
  s.putPeer i { s.peerAt i with floor := floor, taken := [], unacked := [], held := [], state := 1, errAt := 0 }

/-- Completions that wait for the peer are offered again under the new epoch (R365). -/
def State.reoffer (s : State) (num : Nat) : State :=
  (s.inReeveOrder (s.tagsBy (fun g => g.state = .completing && (s.queueOf g.queue).kind = kCarrier && (s.queueOf g.queue).source = num))).foldl
    (fun s t => s.offer t (s.tagOf t)) s

/-- The HELLO_REPLY body (R358). -/
def helloReply (st : Status) (w0 w2 num floor : Nat) : List Byte :=
  leBytes 2 st ++ leBytes 2 0 ++ leBytes 4 w0 ++ leBytes 4 w2 ++ leBytes 4 num ++ leBytes 4 floor

/-- A session starts on a Carrier-M entry under its epoch (R527). -/
def State.sessionStart (s : State) (i : Nat) : State :=
  (s.putPeer i { s.peerAt i with session := (s.peerAt i).rxEpoch + 1 }).pushRefresh

/-- A HELLO of the same peer under a higher epoch ends the session (R527). -/
def State.sessionOver (s : State) (i : Nat) : State :=
  let p := s.peerAt i
  if p.session ≠ 0 ∧ p.session ≤ p.rxEpoch then (s.putPeer i { p with session := 0 }).sessionsSettle else s

/-- HELLO (R47, R362, R365, R527): without BASE it fails with 0x5010. -/
def State.carHello (s00 : State) (i : Nat) (b : List Byte) : Status × State :=
  let s := s00.sessionOver i
  let w0 := fieldAt b 0 4 &&& s.mgmtWord 0
  let w2 := fieldAt b 4 4 &&& s.mgmtWord 2
  let role := fieldAt b 12 1
  let was := (s.peerAt i).state
  if w0.testBit 0 = false then
    (0x5010, s.carSendAt i 0x02 (carFlags i) (helloReply 0x5010 w0 w2 (s.peerNum i) (s.peerAt i).oldest) .nothing)
  else
    let s1 := s.carFloor i (fieldAt b 8 4)
    let s2 := s1.putPeer i { s1.peerAt i with role := role, feat0 := w0, feat2 := w2 }
    let s3 := if was = 2 then s2.sendSide i else s2
    let s4 := s3.carSendAt i 0x02 (carFlags i) (helloReply 0 w0 w2 (s.peerNum i) (s3.peerAt i).oldest) .nothing
    let s5 := if was = 2 then s4.reoffer (s4.peerNum i) else s4
    (0, if 65536 ≤ i ∧ role = 5 then s5.sessionStart i else s5)

/-! ### Acknowledgements of what the head sent (R360, R361) -/

/-- What a message waited for is known (R125, R371). -/
def State.carWaitDone (s : State) (w : CarWait) (st : Status) : State :=
  match w with
  | .nothing => s
  | .tag t => s.handOff t
  | .carry n =>
    let j := s.car.carries.get n
    if j.used = false ∨ (st = 0 ∧ j.len ≠ 0) then s
    else s.putCarry n { j with done := true, status := st }
  | .repl k => if st = 0 then s else (s.linkStatus k st).linkLost k
  | .pull r =>
    let j := s.car.reads.get r
    if st = 0 ∨ j.tag = 0 then s
    else ({ s with car := { s.car with reads := s.car.reads.set r default } }).dataArrive (j.tag - 1) [] true

/-- Put on the wire what now stands inside the 1,024 SEQs that may be outstanding (R359). -/
def State.carPump (s : State) (i : Nat) : State :=
  let lim := (s.peerAt i).oldest + 1024
  ((s.peerAt i).out.filter (fun m => !m.sent && decide (m.seq < lim))).foldl (fun s m =>
    let p := s.peerAt i
    let m1 := { m with sent := true, first := s.time, at_ := s.time, rto := s.rtoFirst i }
    (s.putPeer i { p with out := p.out.map (fun x => if x.seq = m.seq then m1 else x) }).carWire i m1) s

/-- The STATUS item of an ACK for a SEQ: its status, none without one. -/
def ackStatus (b : List Byte) (seq : Nat) : Option Status :=
  ((upto (fieldAt b 0x14 2)).find? (fun k => fieldAt b (0x18 + 32 * k) 4 = seq && fieldAt b (0x1C + 32 * k) 1 = 1)).map
    (fun k => fieldAt b (0x1E + 32 * k) 2)

/-- Whether an ACK acknowledges a SEQ. -/
def ackCovers (b : List Byte) (seq : Nat) : Bool :=
  let cum := fieldAt b 4 4
  decide (seq < cum) || (decide (cum < seq) && decide (seq < cum + 65) && (fieldAt b 8 8).testBit (seq - cum - 1)) || (ackStatus b seq).isSome

/-- The smoothed round trip with one more sample: of a message not repeated (assumption log 16). -/
def srttNext (srtt sample : Nat) : Nat := if srtt = 0 then sample else (7 * srtt + sample) / 8

/-- One message is acknowledged. -/
def State.carAcked (s : State) (i : Nat) (b : List Byte) (m : CarMsg) : State :=
  let p := s.peerAt i
  let q : Peer := { p with
    out := p.out.filter (fun x => x.seq ≠ m.seq)
    srtt := if m.tries = 0 then srttNext p.srtt (s.time - m.at_) else p.srtt
    ackedI := p.ackedI + segsOf m.body.length }
  (s.putPeer i q).carWaitDone m.wait ((ackStatus b m.seq).getD 0)

/-- The bytes of the segments a map lacks. -/
def segsMissing (map : Nat) (body : List Byte) : List Byte :=
  ((upto (segsOf body.length)).filter (fun k => !map.testBit k)).flatMap (fun k => (body.drop (8192 * k)).take 8192)

/-- A MISSING item: only the absent segments are repeated (R361). -/
def State.carMissing (s : State) (i seq map : Nat) : State :=
  match (s.peerAt i).out.find? (fun m => m.seq = seq && m.sent) with
  | none => s
  | some m =>
    let n := ((upto (segsOf m.body.length)).filter (fun k => !map.testBit k)).length
    if n = 0 then s
    else
      ((s.addN R.CARRIER_RESENDS n).countEv 0x0B n 16).carOut (s.peerNum i) m.type (m.flags ||| 8)
        (s.peerAt i).txEpoch m.seq m.iv (segsMissing map m.body)

/-- An ACK is taken (R360, R361). -/
def State.carAckTake (s : State) (i : Nat) (b : List Byte) : State :=
  let p := s.peerAt i
  if fieldAt b 0 4 ≠ p.txEpoch then s
  else
    let s1 := s.putPeer i { p with ceI := p.ceI + fieldAt b 0x10 4 }
    let s2 := (p.out.filter (fun m => m.sent && ackCovers b m.seq)).foldl (fun s m => s.carAcked i b m) s1
    let s3 := (upto (fieldAt b 0x14 2)).foldl (fun s k =>
      if fieldAt b (0x1C + 32 * k) 1 = 2 then s.carMissing i (fieldAt b (0x18 + 32 * k) 4) (fieldAt b (0x28 + 32 * k) 16) else s) s2
    s3.carPump i

/-! ### Pulling data (R358, R371) -/

/-- Send a READ for the next bytes of a command's data (R358). -/
def State.carPull (s : State) (t : Nat) : State :=
  let g := s.tagOf t
  let q := s.queueOf g.queue
  let n := min (g.declared - g.arrived) 1048552
  let r := s.car.nextRtag
  let s1 : State := { s with car := { s.car with
    nextRtag := (r + 1) % 2 ^ 32
    reads := s.car.reads.set r { carry := 0, tag := t + 1, len := n, got := 0, parts := [] } } }
  if g.state = .arriving ∧ n ≠ 0 then
    s1.carSend q.source 0x06 0 (leBytes 8 g.reg ++ leBytes 8 (g.ofs + g.arrived) ++ leBytes 4 n ++ leBytes 4 r) (.pull r)
  else s

/-- Data for a command's READ, in the order of their positions. -/
def State.pullTake (s : State) (r : Nat) (st : Status) (pos : Nat) (d : List Byte) : State :=
  let j := s.car.reads.get r
  let t := j.tag - 1
  let drop (s : State) : State := { s with car := { s.car with reads := s.car.reads.set r default } }
  if st ≠ 0 ∨ d.isEmpty then (drop s).dataArrive t [] true
  else if j.len < pos + d.length then (drop s).dataArrive t [] true
  else if pos ≠ j.got then { s with car := { s.car with reads := s.car.reads.set r { j with parts := j.parts ++ [(pos, d)] } } }
  else
    let (n, l, rest) := j.parts.foldl (fun (a : Nat × List Byte × List (Nat × List Byte)) x =>
      if x.1 = a.1 then (a.1 + x.2.length, a.2.1 ++ x.2, a.2.2) else (a.1, a.2.1, a.2.2 ++ [x])) (pos + d.length, d, [])
    if n = j.len then ((drop s).dataArrive t l false).carPull t
    else ({ s with car := { s.car with reads := s.car.reads.set r { j with got := n, parts := rest } } }).dataArrive t l false

/-- Data for a CARRY's READ, placed in its view; complete with LEN bytes, and ended by a status or an empty response (R371). -/
def State.carryTake (s : State) (r : Nat) (st : Status) (pos : Nat) (d : List Byte) : State :=
  let j := s.car.reads.get r
  let n := j.carry - 1
  let c := s.car.carries.get n
  let fits := decide (pos + d.length ≤ j.len)
  let s1 := if st = 0 ∧ fits = true ∧ c.used = true then s.wrSpN c.unit (descSpace c.db) (descAddr c.db + pos) d else s
  let got := if st = 0 ∧ fits = true then j.got + d.length else j.got
  if st ≠ 0 ∨ d.isEmpty ∨ fits = false ∨ got = j.len then
    let s2 : State := { s1 with car := { s1.car with reads := s1.car.reads.set r default } }
    if c.used then
      s2.putCarry n { c with done := true, bytes := got, status := if st ≠ 0 then st else if got = j.len then 0 else 0x5110 }
    else s2
  else { s1 with car := { s1.car with reads := s1.car.reads.set r { j with got := got } } }

/-- READ_RESP: an RTAG that nothing waits for, or that another peer answers, is taken without effect. -/
def State.readResp (s : State) (i : Nat) (b : List Byte) : State :=
  let r := fieldAt b 0 4
  let j := s.car.reads.get r
  if j.carry ≠ 0 then
    (if (s.car.carries.get (j.carry - 1)).peer = s.peerNum i ∨ 65536 ≤ i then s.carryTake r (fieldAt b 4 2) (fieldAt b 8 8) (b.drop 16) else s)
  else if j.tag ≠ 0 ∧ (s.queueOf (s.tagOf (j.tag - 1)).queue).source = s.peerNum i then
    s.pullTake r (fieldAt b 4 2) (fieldAt b 8 8) (b.drop 16)
  else s

/-! ### Registrations (R367 to R370) -/

/-- Checks 1 to 4 of R368 for a handle, an access (1 WRITE, 2 READ) and a message's Reeve number; 0 where they hold. -/
def State.regCheck (s : State) (i handle n access : Nat) : Status :=
  let k := handle % 1048576
  let own := s.getF (F.CARRIER_REG_HANDLE_ALL.at k)
  let st := s.getF (F.CARRIER_REG_INFO_STATE.at k)
  let perm := s.getF (F.CARRIER_REG_PEER_ALL.at k)
  let node := (s.peerAt i).node
  let who := if s.getF (F.CARRIER_REG_INFO_KIND.at k) = 1 then
      decide (i < 65536) && perm ≠ noPeer && (perm = 2 ^ 64 - 2 || perm = node)
    else perm = 0 || perm = node
  if st = 0 ∨ own / 2 ^ 48 ≠ handle / 2 ^ 48 then 0x7111
  else if own / 2 ^ 24 % 2 ^ 24 ≠ handle / 2 ^ 24 % 2 ^ 24 then 0x7112
  else if st = 2 ∧ s.getF (F.CARRIER_REG_REVOKE_SEQ_ALL.at k) ≤ n then 0x7110
  else if s.getF (F.CARRIER_REG_INFO_ACCESS.at k) / access % 2 = 0 ∨ who = false then 0x7113
  else 0

/-- Bytes of a registration. -/
def State.regLen (s : State) (k : Nat) : Nat := s.getF (F.CARRIER_REG_INFO_LENGTH.at k) * 4096

/-- The take a TAKE registration belongs to. -/
def State.takeOfReg (s : State) (k : Nat) : Option Nat :=
  (s.toll.takes.find? (fun p => p.2.state ≠ 0 && p.2.regIdx = k + 1)).map Prod.fst

/-- A WRITE into a take's region (R370). -/
def State.takeWrite (s : State) (k ofs frame n : Nat) (data : List Byte) : Status × Nat × State :=
  let x := s.takeOf k
  let base := x.slotOf frame * (strideGrains x.frameBytes * 65536)
  if ofs < base ∨ ofs % 4096 ≠ 0 ∨ data.length % 4096 ≠ 0 ∨ (x.frameBytes + 4095) / 4096 * 4096 < ofs - base + data.length then (0x5114, 0, s)
  else match x.slotStatus frame with
    | 0 => (0, 0, s.landPlace k frame ((ofs - base) / 4096) 0xFFFF n data)
    | 0x2073 => (0x2073, s.regionFull.1, s.regionFull.2)
    | st => (st, 0, s)

/-- WRITE (R368, R370). -/
def State.carWrite (s : State) (i n : Nat) (b : List Byte) : Status × Nat × State :=
  let h := fieldAt b 0 8
  let k := h % 1048576
  let ofs := fieldAt b 8 8
  let data := b.drop 24
  let st := s.regCheck i h n 1
  if st ≠ 0 then (st, 0, s)
  else if s.regLen k < ofs + data.length then (0x5114, 0, s)
  else if s.getF (F.CARRIER_REG_INFO_KIND.at k) = 1 then
    match s.takeOfReg k with
    | some t => s.takeWrite t ofs (fieldAt b 16 4) n data
    | none => (0x7111, 0, s)
  else
    let a := s.getF (F.CARRIER_REG_BASE_ALL.at k) + ofs
    (0, 0, (s.wrSpN 0 spGLOBAL a data).spanStore a data.length)

/-- READ (R368): answered with READ_RESP; a poisoned line is reported there (R431). -/
def State.carRead (s : State) (i n : Nat) (b : List Byte) : Status × Nat × State :=
  let h := fieldAt b 0 8
  let k := h % 1048576
  let ofs := fieldAt b 8 8
  let len := fieldAt b 16 4
  let st := s.regCheck i h n 2
  if st ≠ 0 then (st, 0, s)
  else if s.regLen k < ofs + len then (0x5114, 0, s)
  else
    let a := s.getF (F.CARRIER_REG_BASE_ALL.at k) + ofs
    let bad := s.poisoned a len
    let body := leBytes 4 (fieldAt b 20 4) ++ leBytes 2 (if bad then 0xF140 else 0) ++ leBytes 2 0 ++ leBytes 8 0 ++
      (if bad then [] else s.rdSpN 0 spGLOBAL a len)
    (0, 0, (s.spanRead a len).carSendAt i 0x07 (carFlags i) body .nothing)

/-- FRAME_DONE (R370): BYTES must equal FRAME_BYTES and what arrived. A frame that has landed already is only acknowledged. -/
def State.frameDone (s : State) (i n : Nat) (b : List Byte) : Status × Nat × State :=
  let h := fieldAt b 0 8
  let f := fieldAt b 8 4
  let bytes := fieldAt b 12 4
  let st := s.regCheck i h n 1
  if st ≠ 0 then (st, 0, s)
  else match (if s.getF (F.CARRIER_REG_INFO_KIND.at (h % 1048576)) = 1 then s.takeOfReg (h % 1048576) else none) with
  | none => (0x7113, 0, s)
  | some k =>
    let x := s.takeOf k
    let here := x.slots.get (x.slotOf f) = some f
    if here ∧ x.slotLanded.get (x.slotOf f) = true then (0, 0, s)
    else
      let got := if here then x.arrivedOf f else 0
      if here ∧ bytes = x.frameBytes ∧ bytes = got then (0, 0, s.frameLand k f)
      else (0x5110, bytes % 2 ^ 32 * 2 ^ 32 + got % 2 ^ 32, if here then s.frameDrop k f else s)

/-! ### Queues, commands and takes (R122, R141, R147, R156, R358) -/

/-- QUEUE_OPEN (R122, R358). -/
def State.queueOpen (s : State) (i : Nat) (b : List Byte) : State :=
  let host := fieldAt b 0 2
  let reply (st q : Nat) := leBytes 2 st ++ leBytes 2 q ++ leBytes 2 host ++ leBytes 2 0
  match s.createQueue kCarrier (fieldAt b 2 2) (if fieldAt b 4 2 % 2 = 1 then 2 else 1) (s.peerNum i) 0 host with
  | .error st => s.carSendAt i 0x0A 0 (reply st 0) .nothing
  | .ok (q, s1) => s1.carSendAt i 0x0A 0 (reply 0 q) .nothing

/-- Whether a queue is a Carrier queue of a peer. -/
def State.ownQueue (s : State) (i q : Nat) : Bool := (s.queueOf q).kind = kCarrier && (s.queueOf q).source = s.peerNum i

/-- QUEUE_CTL (R142, R358): resume and reset act on a FROZEN queue; a closed one is reported DELETED. -/
def State.queueCtl (s : State) (i : Nat) (b : List Byte) : Status × State :=
  let q := fieldAt b 0 2
  let frozen := decide ((s.queueOf q).state = 1)
  if s.ownQueue i q = false then (0x5111, s)
  else match fieldAt b 2 1 with
  | 1 => if frozen then (0, s.activateQueue q) else (0x7063, s)
  | 2 => if frozen then (0, s.resetQueue q) else (0x7063, s)
  | _ => (0, (s.deleteQueue q).carSendAt i 0x10 0 (leBytes 2 q ++ leBytes 1 2 ++ leBytes 5 0 ++ leBytes 8 s.now) .nothing)

/-- A command on a queue, by its opcode's support (R128, R358). -/
def State.cmdRun (s : State) (m : CarCmd) : Nat × State :=
  if m.entry = 16 then (65536, s.noOpcode m.q m.cid m.op)
  else if m.op = 0x09 then (65536, s.dsmAccept m.q m.cid m.c m.ranges m.dealloc)
  else s.ioAccept m.q m.cid m.op m.entry m.c m.inbound

/-- CMD (R358, R372): one that stands in the adopted table is a duplicate, and is completed. -/
def State.carCmd (s : State) (i : Nat) (m : CarCmd) : Status × State :=
  match s.car.adopt.find? (fun a => a.take 2 = [m.q, m.cid]) with
  | some a =>
    let s1 : State := { s with car := { s.car with adopt := s.car.adopt.filter (fun x => x ≠ a) } }
    (0, s1.carSendAt i 0x0D 0 (cmdDone m.q m.cid (a.getD 2 0) 0 (a.getD 3 0)) .nothing)
  | none =>
    if s.ownQueue i m.q = false then (0x5111, s)
    else
      let (t, s1) := s.cmdRun m
      (0, if m.inbound ∧ t < 65536 then s1.carPull t else s1)

/-- ABORT (R141, R358): the reply follows the completion. -/
def State.carAbort (s : State) (i : Nat) (b : List Byte) : State :=
  let q := fieldAt b 0 2
  let cid := fieldAt b 2 2
  let reply (r : Nat) (s : State) := s.carSendAt i 0x0F 0 (leBytes 2 q ++ leBytes 2 cid ++ leBytes 1 r ++ leBytes 3 0) .nothing
  match (if s.ownQueue i q then s.tagByCid q cid else none) with
  | none => reply 2 s
  | some t =>
    match s.abortTag t 0x6060 with
    | (1, s1) => s1.abortLater t [1, s.peerNum i, q, cid, 1]
    | (3, s1) => s1.abortLater t [1, s.peerNum i, q, cid, 0]
    | (r, s1) => reply r s1

/-- TAKE_CLOSE (R156). -/
def State.carTakeClose (s : State) (b : List Byte) : Status × State :=
  if s.holdsTake (fieldAt b 0 1) then (0, s.takeClose (fieldAt b 0 1)) else (0x5071, s)

/-! ### Register access (R39, R41, R358) -/

/-- MGMT_READ: answered with MGMT_DATA. -/
def State.mgmtRead (s : State) (i : Nat) (b : List Byte) : State :=
  let w := fieldAt b 4 1
  let (v, s1) := s.access .carrierM default (8 * w) (fieldAt b 0 4) none
  s1.carSendAt i 0x18 (carFlags i)
    (leBytes 4 (fieldAt b 0 4) ++ leBytes 2 s1.reply ++ leBytes 1 w ++ leBytes 1 0 ++ leBytes 8 (v % 256 ^ w)) .nothing

/-- MGMT_WRITE: its status returns in the ACK. -/
def State.mgmtWrite (s : State) (b : List Byte) (o : Outside) : Status × State :=
  let w := fieldAt b 4 1
  let s1 := (s.access .carrierM o (8 * w) (fieldAt b 0 4) (some (fieldAt b 8 8 % 256 ^ w))).2
  (s1.reply, s1)

/-! ### Taking a message (R362) -/

/-- What a message of a known form does: its status, the detail of a refusal, and the state. n is its Reeve number. A message to a
peer that the head itself sends (HELLO_REPLY, QUEUE_REPLY, CMD_DONE, ABORT_REPLY, QUEUE_NOTICE, TAKE_GRANT, TAKE_NOTICE, MGMT_DATA,
CRIER) is taken and has no further effect: the head opens no queue and asks for no take. -/
def State.carEffect (s : State) (i n : Nat) (m : CarIn) : Status × Nat × State :=
  let plain (r : Status × State) : Status × Nat × State := (r.1, 0, r.2)
  match m.type with
  | 0x01 => plain (s.carHello i m.body)
  | 0x03 => (0, 0, s.carFloor i (fieldAt m.body 0 4))
  | 0x05 => s.carWrite i n m.body
  | 0x06 => s.carRead i n m.body
  | 0x07 => (0, 0, s.readResp i m.body)
  | 0x08 => s.frameDone i n m.body
  | 0x09 => (0, 0, s.queueOpen i m.body)
  | 0x0B => plain (s.queueCtl i m.body)
  | 0x0C => match m.cmd with
    | some c => plain (s.carCmd i c)
    | none => (0x5111, 0, s)
  | 0x0E => (0, 0, s.carAbort i m.body)
  | 0x11 => (0, 0, s.takeDecide { block := m.body, route := 1, peer := s.peerNum i, ref := 0 })
  | 0x13 => plain (s.carTakeClose m.body)
  | 0x16 => (0, 0, s.replTake (s.peerNum i) m.body)
  | 0x17 => (0, 0, s.mgmtRead i m.body)
  | 0x19 => plain (s.mgmtWrite m.body m.out)
  | _ => (0, 0, s)

/-- Whether a message's acknowledgement waits for the partner's copy: a WRITE into a TAKE region (R370). -/
def State.carWithholds (s : State) (m : CarIn) : Bool :=
  m.type = 0x05 && s.mirrors && decide (s.cf.acked < s.cf.txSeq) && s.getF (F.CARRIER_REG_INFO_KIND.at (fieldAt m.body 0 8 % 1048576)) = 1

/-- A message takes effect, with a Reeve number (a command takes its own at acceptance), and its SEQ is taken. A module restart it
asked for leaves no entry to acknowledge. -/
def State.carApply (s : State) (i : Nat) (m : CarIn) : State :=
  let r := (if m.type = 0x0C then s else s.tick).carEffect i s.now m
  let s1 := r.2.2
  if (s1.peerAt i).used = false then s1
  else
    let s2 := (s1.carMark i m.seq).addN R.CARRIER_RX_MSGS 1
    if r.1 ≠ 0 then
      (if m.type = 0x19 then s2.carAck i [(⟨m.seq, 1, r.1, 0, 0⟩ : AckItem)] else s2.carRefuse i m.type m.seq r.1 r.2.1)
    else if s1.carWithholds m then
      s2.putPeer i { s2.peerAt i with unacked := (s2.peerAt i).unacked ++ [(m.seq, s1.cf.txSeq)] }
    else s2.carGot i

/-- Messages that waited for lower SEQs take effect, lowest first (R362). -/
def State.carHeld (s : State) (i : Nat) : Nat → State
  | 0 => s
  | n + 1 =>
    match (s.peerAt i).held.find? (fun m => (s.peerAt i).lowerTaken m.seq && (s.peerAt i).held.all (fun x => decide (m.seq ≤ x.seq))) with
    | none => s
    | some m =>
      let p := s.peerAt i
      State.carHeld ((s.putPeer i { p with held := p.held.filter (fun x => x.seq ≠ m.seq) }).carApply i m) i n

/-- A message whose SEQ is new in the window: refused for its form, held for lower SEQs, or applied (R357, R362). An ACK goes at
once on a gap and on ACK_NOW (R360). -/
def State.carNew (s0 : State) (i : Nat) (h : CarHdr) (m : CarIn) : State :=
  let s := s0.carSlide i m.seq
  let p := s.peerAt i
  let refuse (st : Status) (det : Nat) := ((s.carMark i m.seq).addN R.CARRIER_RX_MSGS 1).carRefuse i m.type m.seq st det
  let done (s : State) := let t := s.carHeld i (s.peerAt i).held.length
    if (t.peerAt i).used = true ∧ (h.flags.testBit 2 = true ∨ (t.peerAt i).lowerTaken m.seq = false) then t.carAck i [] else t
  if h.fault = 2 then done (refuse 0x5110 (h.declared % 2 ^ 32 * 2 ^ 32 + h.arrived % 2 ^ 32))
  else if h.fault ≠ 0 ∨ carFlagsOk h m.type = false ∨ carBodyOk m.type m.body = false then done (refuse 0x5111 0)
  else if carIdem m.type then done (s.carApply i m)
  else if p.state = 0 then done (refuse 0x5113 0)
  else if p.lowerTaken m.seq then done (s.carApply i m)
  else (s.putPeer i { p with held := p.held ++ [m] }).carAck i []

/-- A message reaches its entry (R362, R365). -/
def State.carArrive (s : State) (i : Nat) (h : CarHdr) (m : CarIn) : State :=
  let p := s.peerAt i
  if p.state = 2 ∧ m.type ≠ 0x01 then s.carRefuse i m.type m.seq 0x5116 0
  else if h.epoch < p.rxEpoch then s.carOld i h m.type
  else
    let s1 := s.carEpoch i h.epoch
    let q := s1.peerAt i
    if m.type = 0x04 then
      (if h.fault ≠ 0 ∨ carFlagsOk h m.type = false ∨ carBodyOk m.type m.body = false then s1.carRefuse i m.type m.seq 0x5111 0
       else s1.tick.carAckTake i m.body)
    else if m.seq < q.floor then (s1.addF ⟨R.CARRIER_DUPS, 0, 32⟩ 1).carRefuse i m.type m.seq 0x5112 0
    else if q.taken.contains m.seq then (s1.addF ⟨R.CARRIER_DUPS, 32, 32⟩ 1).carAck i []
    else if q.held.any (fun x => x.seq = m.seq) then s1
    else s1.carNew i h m

/-- A Carrier message arrives, all its segments with it (R355 to R365). -/
def State.carReceive (s : State) (h : CarHdr) (m : CarIn) : State :=
  if s.carrierUp h.port = false ∨ s.carAddr h = false then s
  else
    let s1 := s.carCount h m.body.length
    if s1.reasmRoom h m.body.length = false then s1
    else
      let s2 := s1.reasmDrop h
      if h.fault = 3 ∨ s2.carKey h = false then s2.carTagFail h
      else match (s2.carMill true h.node m.type (h.flags % 256 + 256 * h.key) h.epoch h.seq 0 m.body).carEntry h m.type with
      | (none, s3) => s3
      | (some i, s3) =>
        let p := s3.peerAt i
        (if h.ce = true ∧ s3.feat 67 = true then s3.putPeer i { p with ce := p.ce + 1 } else s3).carArrive i h m

/-- A message of a type, with its header and body. -/
def carMsg (h : CarHdr) (type : Nat) (body : List Byte) : CarIn := { (default : CarIn) with seq := h.seq, type := type, body := body }

/-- A command in a CMD message: QUEUE stands in its first two bytes; the capsule's form is the row's operands. -/
def State.carCommand (s : State) (h : CarHdr) (c : CarCmd) : State :=
  s.carReceive h { (default : CarIn) with
    seq := h.seq, type := 0x0C, body := leBytes 2 c.q ++ List.replicate 70 0, cmd := some c }

end Sys2Proof.Machine
end

