-- ==== Sys2Proof/Machine/Io.lean ====
section
/-! DEFINITION. The commands of the Carrier, of the RoCEv2 path and of NVMe I/O as they arrive (R121, R128 to R136, R354 to R377):
messages, timers, links and queue pairs. -/
namespace Sys2Proof.Machine

/-! ### Messages (R358) -/

/-- MGMT_READ (R41, R358). -/
def execMgmtRead (h : CarHdr) (body : List Byte) (s : State) : Res := .next (s.carReceive h (carMsg h 0x17 body))
/-- MGMT_WRITE (R41, R358). -/
def execMgmtWrite (h : CarHdr) (body : List Byte) (o : Outside) (s : State) : Res :=
  .next (s.carReceive h { carMsg h 0x19 body with out := o })
/-- MGMT_DATA (R358). -/
def execMgmtData (h : CarHdr) (body : List Byte) (s : State) : Res := .next (s.carReceive h (carMsg h 0x18 body))
/-- HELLO (R362). -/
def execCarrierHello (h : CarHdr) (body : List Byte) (s : State) : Res := .next (s.carReceive h (carMsg h 0x01 body))
/-- HELLO_REPLY (R358). -/
def execCarrierHelloReply (h : CarHdr) (body : List Byte) (s : State) : Res := .next (s.carReceive h (carMsg h 0x02 body))
/-- FLOOR (R362). -/
def execCarrierFloor (h : CarHdr) (body : List Byte) (s : State) : Res := .next (s.carReceive h (carMsg h 0x03 body))
/-- ACK (R360). -/
def execCarrierAck (h : CarHdr) (body : List Byte) (s : State) : Res := .next (s.carReceive h (carMsg h 0x04 body))
/-- WRITE (R370). -/
def execCarrierWrite (h : CarHdr) (body : List Byte) (s : State) : Res := .next (s.carReceive h (carMsg h 0x05 body))
/-- READ (R368). -/
def execCarrierRead (h : CarHdr) (body : List Byte) (s : State) : Res := .next (s.carReceive h (carMsg h 0x06 body))
/-- READ_RESP (R371). -/
def execCarrierReadResp (h : CarHdr) (body : List Byte) (s : State) : Res := .next (s.carReceive h (carMsg h 0x07 body))
/-- FRAME_DONE (R370). -/
def execFrameDone (h : CarHdr) (body : List Byte) (s : State) : Res := .next (s.carReceive h (carMsg h 0x08 body))
/-- QUEUE_OPEN (R122). -/
def execQueueOpen (h : CarHdr) (body : List Byte) (s : State) : Res := .next (s.carReceive h (carMsg h 0x09 body))
/-- QUEUE_REPLY (R358). -/
def execQueueReply (h : CarHdr) (body : List Byte) (s : State) : Res := .next (s.carReceive h (carMsg h 0x0A body))
/-- QUEUE_CTL (R358). -/
def execQueueCtl (h : CarHdr) (body : List Byte) (s : State) : Res := .next (s.carReceive h (carMsg h 0x0B body))
/-- CMD_DONE (R358). -/
def execCmdDone (h : CarHdr) (body : List Byte) (s : State) : Res := .next (s.carReceive h (carMsg h 0x0D body))
/-- ABORT (R141). -/
def execCarrierAbort (h : CarHdr) (body : List Byte) (s : State) : Res := .next (s.carReceive h (carMsg h 0x0E body))
/-- ABORT_REPLY (R358). -/
def execAbortReply (h : CarHdr) (body : List Byte) (s : State) : Res := .next (s.carReceive h (carMsg h 0x0F body))
/-- QUEUE_NOTICE (R358). -/
def execQueueNotice (h : CarHdr) (body : List Byte) (s : State) : Res := .next (s.carReceive h (carMsg h 0x10 body))
/-- TAKE_OPEN (R147). -/
def execTakeOpen (h : CarHdr) (body : List Byte) (s : State) : Res := .next (s.carReceive h (carMsg h 0x11 body))
/-- TAKE_GRANT (R154). -/
def execTakeGrant (h : CarHdr) (body : List Byte) (s : State) : Res := .next (s.carReceive h (carMsg h 0x12 body))
/-- TAKE_CLOSE (R156). -/
def execTakeClose (h : CarHdr) (body : List Byte) (s : State) : Res := .next (s.carReceive h (carMsg h 0x13 body))
/-- TAKE_NOTICE (R165). -/
def execTakeNotice (h : CarHdr) (body : List Byte) (s : State) : Res := .next (s.carReceive h (carMsg h 0x14 body))
/-- REPL (R246). -/
def execCarrierRepl (h : CarHdr) (body : List Byte) (s : State) : Res := .next (s.carReceive h (carMsg h 0x16 body))
/-- CRIER (R466). -/
def execCarrierCrier (h : CarHdr) (body : List Byte) (s : State) : Res := .next (s.carReceive h (carMsg h 0x1A body))
/-- A message of a reserved TYPE (R358): refused with 0x5111. A TYPE that the table names is none of these. -/
def execCarrierReservedType (h : CarHdr) (type : Nat) (body : List Byte) (s : State) : Res :=
  .next (if type = 0 ∨ type = 0x15 ∨ 0x1A < type then s.carReceive h (carMsg h type body) else s)

/-! ### Segments and timers (R357, R360, R361, R365, R366) -/

/-- A datagram that fails MAGIC, VERSION, HCRC or segment consistency: discarded and counted (R357). -/
def execMalformedSegment (port : Nat) (s : State) : Res :=
  .next (if s.carrierUp port = false ∨ port = 8 then s
    else s.addF { F.FABRIC_P_ERR_DISCARDED with addr := R.FABRIC_P_ERR + 64 * (port % 4) } 1)

/-- REASM_MS without progress: the message is dropped from the store (R357). -/
def execReasmTimeout (h : CarHdr) (s : State) : Res := .next (s.reasmDrop h)

/-- A gap stands 20 µs in an incomplete message of declared LENGTH: it stands in the store with the segments received, and a MISSING
item goes to its sender at once (R357, R360). A full store keeps no new message. -/
def execMissingGap (h : CarHdr) (map : Nat) (s : State) : Res :=
  .next (if s.carrierUp h.port = false ∨ s.carAddr h = false ∨ s.reasmRoom h h.declared = false then s
    else
      let s1 := s.reasmDrop h
      let s2 : State := { s1 with car := { s1.car with
        reasm := s1.car.reasm ++ [{ node := h.node, port := h.port, epoch := h.epoch, seq := h.seq, len := h.declared, map := map }] } }
      match s2.carEntry h 0 with
      | (none, s3) => s3
      | (some i, s3) =>
        if (s3.peerAt i).rxEpoch ≤ h.epoch then (s3.carEpoch i h.epoch).carAck i [(⟨h.seq, 2, 0, 0, map⟩ : AckItem)] else s3)

/-- ACK_DELAY_US has passed since a message that is not yet acknowledged (R360). -/
def execAckDelayExpiry (peer : Nat) (s : State) : Res :=
  .next (if (s.peerAt peer).used = true ∧ 0 < (s.peerAt peer).got then s.carAck peer [] else s)

/-- The RTO of a message passes: it is repeated, with RESEND set, and its RTO doubles, up to 4 ms (R361). -/
def execRtoExpiry (peer seq : Nat) (s : State) : Res :=
  let p := s.peerAt peer
  .next (match p.out.find? (fun m => m.seq = seq && m.sent) with
    | none => s
    | some m =>
      let m1 := { m with tries := m.tries + 1, at_ := s.time, rto := min 4000 (2 * m.rto) }
      let s1 := s.putPeer peer { p with out := p.out.map (fun x => if x.seq = seq then m1 else x) }
      ((s1.addN R.CARRIER_RESENDS 1).countEv 0x0B 1 16).carWire peer { m1 with flags := m1.flags ||| 8 })

/-- GIVEUP_MS has passed since the first sending of an entry's oldest message (R361, R373). -/
def execGiveupExpiry (peer : Nat) (s : State) : Res :=
  .next (match (s.peerAt peer).out.find? (fun m => m.sent) with
    | none => s
    | some m => (s.carErr (s.peerNum peer) m.type 0x8112).carFail peer 0x8112)

/-- Commands of a queue that no context serves complete locally with a status, and are recorded; the queue is DELETED (R142). -/
def State.queueDrop (s : State) (q : Nat) (st : Status) : State :=
  let s1 := (s.inReeveOrder (s.tagsOfQueue q)).foldl (fun s t =>
    if (s.tagOf t).state = .dispatched ∨ (s.tagOf t).state = .completing then s else s.docketEnd t st 0) s
  s1.deleteQueue q

/-- QUEUE_GRACE_S after ERROR without a HELLO: the peer's queues are deleted, with a LOG record (R365, R468). -/
def execQueueGraceExpiry (peer : Nat) (s : State) : Res :=
  let num := s.peerNum peer
  .next (if (s.peerAt peer).state = 2 then
    let qs := (s.docket.queues.filter (fun p => p.2.kind = kCarrier && p.2.source = num)).map Prod.fst
    if qs.isEmpty then s
    else (qs.foldl (fun s q => s.queueDrop q 0x6110) s).log blkCARRIER 6 0x6110 num (qs.flatMap (leBytes 2))
  else s)

/-- The rate rule of R366 on a rate in Mb/s and alpha in units of 1/65,536, with f in the same units. -/
def rateRule (line step rate alpha f : Nat) : Nat × Nat :=
  let a := alpha * 15 / 16 + f / 16
  (if 0 < f then max 100 (rate - rate * a / 131072) else min line (rate + step * 100), a)

/-- An interval I ends for a peer entry that sent in it, or for a queue pair without a CNP in it (R366, R374). The fraction of an
interval in which nothing was acknowledged is a free value (assumption log 8). -/
def execRateInterval (qp : Bool) (n : Nat) (s : State) : Res :=
  let step := s.getF F.CARRIER_CFG_RATE_STEP
  .next (
    if qp then
      let x := s.car.qps.get n
      let r := rateRule (s.lineRate 0) step x.rate x.alpha 0
      { s with car := { s.car with qps := s.car.qps.set n (if x.cnp then { x with cnp := false } else { x with rate := r.1, alpha := r.2 }) } }
    else
      let p := s.peerAt n
      if s.feat 67 = false ∨ p.used = false ∨ p.sentI = 0 then s
      else
        let (f, s1) := if p.ackedI = 0 then (s.draw.1.toNat % 65537, s.draw.2) else (min 65536 (p.ceI * 65536 / p.ackedI), s)
        let r := rateRule (s.lineRate p.port) step p.rate p.alpha f
        s1.putPeer n { p with rate := r.1, alpha := r.2, sentI := 0, ackedI := 0, ceI := 0 })

/-- The Carrier-M link goes down: its sessions end (R527). -/
def execCmLinkDown (s : State) : Res :=
  .next (([65536, 65537, 65538, 65539].foldl (fun s i => s.putPeer i { s.peerAt i with session := 0 }) s).sessionsSettle)

/-! ### RoCEv2 queue pairs (R374) -/

/-- A queue pair enters its error state: its NVMe queue is deleted; the commands a context serves are recorded too and run to their
END, their completions discarded. -/
def State.qpError (s : State) (q : Nat) : State :=
  if (s.queueOf q).kind = kNvme ∨ (s.queueOf q).kind = kAdmin then
    let s1 := (s.tagsOfQueue q).foldl (fun s t =>
      if (s.tagOf t).state = .dispatched then s.logError t (s.tagOf t) 0x6110 (s.detailWord (s.tagOf t) 0x6110 0 0) else s) s
    let s2 := s1.queueDrop q 0x6110
    { s2 with car := { s2.car with qps := s2.car.qps.set q default } }
  else s

/-- A queue pair enters its error state (R374). -/
def execQpError (q : Nat) (s : State) : Res := .next (s.qpError q)

/-- A CNP is received: the rule of R366 with a CE fraction the spec does not give, a free value (R374, assumption log 8). A queue pair
starts at line rate. -/
def execRoceCnp (q : Nat) (s : State) : Res :=
  .next (if (s.queueOf q).kind = kNvme ∨ (s.queueOf q).kind = kAdmin then
    let x := s.car.qps.get q
    let r := rateRule (s.lineRate 0) (s.getF F.CARRIER_CFG_RATE_STEP) (if x.rate = 0 then s.lineRate 0 else x.rate) x.alpha
      (1 + s.draw.1.toNat % 65536)
    { s.draw.2 with car := { s.draw.2.car with qps := s.car.qps.set q { x with rate := r.1, alpha := r.2, cnp := true } } }
  else s)

/-- The 67 ms local ACK timeout: go-back-N, until the retry count of 7 is spent and the queue pair fails (R374). -/
def execLocalAckTimeout (q : Nat) (s : State) : Res :=
  .next (if (s.queueOf q).kind = kNvme ∨ (s.queueOf q).kind = kAdmin then
    let x := s.car.qps.get q
    if 7 ≤ x.retries then s.qpError q
    else { s with car := { s.car with qps := s.car.qps.set q { x with retries := x.retries + 1 } } }.send (.roce q 1)
  else s)

/-! ### Fabric links (R377) -/

/-- Two bits of FABRIC_LINK. -/
def State.linkSet (s : State) (link v : Nat) : State :=
  let w := s.getN R.FABRIC_LINK
  s.setN R.FABRIC_LINK (w - w / 4 ^ link % 4 * 4 ^ link + v * 4 ^ link)

/-- A fabric link is lost (R377). -/
def execFabricLinkDown (link : Nat) (s : State) : Res := .next (if link < 8 then s.linkSet link 0 else s)

/-- A fabric link completes training: the port's MODE is applied; a port that is off, that the mode gives no second link, or that the
grade has shut stays down (R25, R377, R491). -/
def execFabricLinkTrained (link : Nat) (s : State) : Res :=
  let p := link / 2
  let m := s.getF F.FABRIC_CFG_MODE / 4 ^ p % 4
  let s1 : State := { s with car := { s.car with fabMode := s.car.fabMode - s.car.fabMode / 4 ^ p % 4 * 4 ^ p + m * 4 ^ p } }
  .next (if 8 ≤ link ∨ s.power ≠ .on ∨ s.mode = .holdup ∨ portOpen s.grade p = false then s
    else if linkOn s1.car.fabMode link then s1.linkSet link 2 else s1.linkSet link 0)

/-! ### I/O commands (R121, R128 to R136) -/

/-- A CNP for CE-marked traffic of a queue pair, at most once per 50 µs (R374). -/
def State.cnpSend (s : State) (q : Nat) (ce : Bool) : State :=
  let x := s.car.qps.get q
  if ce = true ∧ (x.cnpAt = 0 ∨ x.cnpAt + 49 ≤ s.time) then
    { s with car := { s.car with qps := s.car.qps.set q { x with cnpAt := s.time + 1 } } }.send (.roce q 2)
  else s

/-- An I/O command on a RoCEv2 queue pair, or in a CMD message of a Carrier queue (R358, R374). -/
def State.ioCommand (s : State) (m : CarCmd) (car : Option CarHdr) : State :=
  match car with
  | some h => s.carCommand h m
  | none => if s.takes m.q kNvme then ((s.cnpSend m.q m.c.ce).cmdRun m).2 else s

/-- NVMe Flush (R133): promises only what completion has promised. -/
def execNvmeFlush (q cid : Nat) (c : IoCmd) (s : State) : Res :=
  .next (s.ioCommand ⟨q, cid, 0x00, 4, false, { c with lba := 0, nlb := 0 }, [], false⟩ c.car)

/-- NVMe Write (R134 to R136). -/
def execNvmeWrite (q cid : Nat) (c : IoCmd) (s : State) : Res := .next (s.ioCommand ⟨q, cid, 0x01, 1, true, c, [], false⟩ c.car)

/-- NVMe Read (R131, R136). -/
def execNvmeRead (q cid : Nat) (c : IoCmd) (s : State) : Res := .next (s.ioCommand ⟨q, cid, 0x02, 0, false, c, [], false⟩ c.car)

/-- NVMe Compare (R121): the host's data arrive to be compared. -/
def execNvmeCompare (q cid : Nat) (c : IoCmd) (s : State) : Res := .next (s.ioCommand ⟨q, cid, 0x05, 5, true, c, [], false⟩ c.car)

/-- NVMe Write Zeroes (R121): no host data. -/
def execNvmeWriteZeroes (q cid : Nat) (c : IoCmd) (s : State) : Res := .next (s.ioCommand ⟨q, cid, 0x08, 2, false, c, [], false⟩ c.car)

/-- NVMe Verify (R121): nothing is transferred to the host. -/
def execNvmeVerify (q cid : Nat) (c : IoCmd) (s : State) : Res := .next (s.ioCommand ⟨q, cid, 0x0C, 6, false, c, [], false⟩ c.car)

/-- Dataset Management (R128, R131). ranges: first leaf and leaves. -/
def execDatasetManagement (q cid : Nat) (c : IoCmd) (ranges : List (Nat × Nat)) (dealloc : Bool) (s : State) : Res :=
  .next (s.ioCommand ⟨q, cid, 0x09, 3, false, c, ranges, dealloc⟩ c.car)

/-- An unsupported opcode or fused operation (R128). -/
def execUnsupportedOpcode (q cid op : Nat) (car : Option CarHdr) (s : State) : Res :=
  .next (match car with
    | some h => s.carCommand h ⟨q, cid, op, 16, false, default, [], false⟩
    | none => if s.takes q kNvme ∨ s.takes q kAdmin then s.noOpcode q cid op else s)

end Sys2Proof.Machine
end

