-- ==== Sys2Proof/Machine/Dispatch.lean ====
section
/-! DEFINITION. One arm for each command: its meaning, or its rejection by name. -/
namespace Sys2Proof.Machine

/-- The effect of a command on everything but the queue. -/
def exec (i : Instr) (s : State) : Host.Outcome State Fault Refusal :=
  match i with
  | .powerUp vin => Sys2Proof.Machine.execPowerUp vin s
  | .powerGood env => Sys2Proof.Machine.execPowerGood env s
  | .bootStepTimeout => Sys2Proof.Machine.execBootStepTimeout s
  | .bootFailReset env => Sys2Proof.Machine.execBootFailReset env s
  | .moduleReset env => Sys2Proof.Machine.execModuleReset env s
  | .headSlotChange level => Sys2Proof.Machine.execHeadSlotChange level s
  | .modeReqService => Sys2Proof.Machine.execModeReqService s
  | .modeReqPaired => Sys2Proof.Machine.execModeReqPaired s
  | .modeReqSolo => Sys2Proof.Machine.execModeReqSolo s
  | .modeReqJoining => Sys2Proof.Machine.execModeReqJoining s
  | .modeReqReplay => Sys2Proof.Machine.execModeReqReplay s
  | .modeReqBootstrap env => Sys2Proof.Machine.execModeReqBootstrap env s
  | .modeReqInvalid => Sys2Proof.Machine.execModeReqInvalid s
  | .featNegotiate persist => Sys2Proof.Machine.execFeatNegotiate persist s
  | .spiRead addr => Sys2Proof.Machine.execSpiRead addr s
  | .spiWrite addr v o => Sys2Proof.Machine.execSpiWrite addr v o s
  | .spiReadBurst addr count => Sys2Proof.Machine.execSpiReadBurst addr count s
  | .spiRead32 addr => Sys2Proof.Machine.execSpiRead32 addr s
  | .spiWrite32 addr v o => Sys2Proof.Machine.execSpiWrite32 addr v o s
  | .spiRead16 addr => Sys2Proof.Machine.execSpiRead16 addr s
  | .spiRead8 addr => Sys2Proof.Machine.execSpiRead8 addr s
  | .spiWrite16 addr v => Sys2Proof.Machine.execSpiWrite16 addr v s
  | .spiWrite8 addr v => Sys2Proof.Machine.execSpiWrite8 addr v s
  | .spiUnknownOpcode count => Sys2Proof.Machine.execSpiUnknownOpcode count s
  | .spiCsEarlyRise bytes o => Sys2Proof.Machine.execSpiCsEarlyRise bytes o s
  | .mgmtRead h body => Sys2Proof.Machine.execMgmtRead h body s
  | .mgmtWrite h body o => Sys2Proof.Machine.execMgmtWrite h body o s
  | .mgmtData h body => Sys2Proof.Machine.execMgmtData h body s
  | .registerWrite p addr v o => Sys2Proof.Machine.execRegisterWrite p addr v o s
  | .hallmarkWord0Read p word => Sys2Proof.Machine.execHallmarkWord0Read p word s
  | .authNonceRead => Sys2Proof.Machine.execAuthNonceRead s
  | .nonceExpiry => Sys2Proof.Machine.execNonceExpiry s
  | .takeInfoRead p => Sys2Proof.Machine.execTakeInfoRead p s
  | .dispatch tag => Sys2Proof.Machine.execDispatch tag s
  | .watchdogExpiry e => Sys2Proof.Machine.execWatchdogExpiry e s
  | .doorbell e word => Sys2Proof.Machine.execDoorbell e word s
  | .waitTimeout e => Sys2Proof.Machine.execWaitTimeout e s
  | .accelCompletion e slot env => Sys2Proof.Machine.execAccelCompletion e slot env s
  | .trapEntry e => Sys2Proof.Machine.execTrapEntry e s
  | .contextFreed e => Sys2Proof.Machine.execContextFreed e s
  | .handStoreError e parity => Sys2Proof.Machine.execHandStoreError e parity s
  | .handCorrectedError hand => Sys2Proof.Machine.execHandCorrectedError hand s
  | .handLockup hand => Sys2Proof.Machine.execHandLockup hand s
  | .drainTimeout e => Sys2Proof.Machine.execDrainTimeout e s
  | .handsLoadBegin => Sys2Proof.Machine.execHandsLoadBegin s
  | .handsLoadData v => Sys2Proof.Machine.execHandsLoadData v s
  | .handsLoadCommit => Sys2Proof.Machine.execHandsLoadCommit s
  | .handsLoadAbort => Sys2Proof.Machine.execHandsLoadAbort s
  | .handsBind slot => Sys2Proof.Machine.execHandsBind slot s
  | .handsUnload slot => Sys2Proof.Machine.execHandsUnload slot s
  | .handsRetireReq hand => Sys2Proof.Machine.execHandsRetireReq hand s
  | .handsRestoreReq hand pass => Sys2Proof.Machine.execHandsRestoreReq hand pass s
  | .actReplyTimeout => Sys2Proof.Machine.execActReplyTimeout s
  | .illegalEncoding e => Sys2Proof.Machine.execIllegalEncoding e s
  | .add e rd ra rb => Sys2Proof.Machine.execAdd e rd ra rb s
  | .sub e rd ra rb => Sys2Proof.Machine.execSub e rd ra rb s
  | .and e rd ra rb => Sys2Proof.Machine.execAnd e rd ra rb s
  | .or e rd ra rb => Sys2Proof.Machine.execOr e rd ra rb s
  | .xor e rd ra rb => Sys2Proof.Machine.execXor e rd ra rb s
  | .andn e rd ra rb => Sys2Proof.Machine.execAndn e rd ra rb s
  | .shl e rd ra rb => Sys2Proof.Machine.execShl e rd ra rb s
  | .shr e rd ra rb => Sys2Proof.Machine.execShr e rd ra rb s
  | .sar e rd ra rb => Sys2Proof.Machine.execSar e rd ra rb s
  | .shli e rd ra amt => Sys2Proof.Machine.execShli e rd ra amt s
  | .shri e rd ra amt => Sys2Proof.Machine.execShri e rd ra amt s
  | .sari e rd ra amt => Sys2Proof.Machine.execSari e rd ra amt s
  | .rotr e rd ra rb => Sys2Proof.Machine.execRotr e rd ra rb s
  | .mul e rd ra rb => Sys2Proof.Machine.execMul e rd ra rb s
  | .mulhu e rd ra rb => Sys2Proof.Machine.execMulhu e rd ra rb s
  | .mulhs e rd ra rb => Sys2Proof.Machine.execMulhs e rd ra rb s
  | .divu e rd ra rb => Sys2Proof.Machine.execDivu e rd ra rb s
  | .remu e rd ra rb => Sys2Proof.Machine.execRemu e rd ra rb s
  | .divs e rd ra rb => Sys2Proof.Machine.execDivs e rd ra rb s
  | .rems e rd ra rb => Sys2Proof.Machine.execRems e rd ra rb s
  | .minu e rd ra rb => Sys2Proof.Machine.execMinu e rd ra rb s
  | .maxu e rd ra rb => Sys2Proof.Machine.execMaxu e rd ra rb s
  | .mins e rd ra rb => Sys2Proof.Machine.execMins e rd ra rb s
  | .maxs e rd ra rb => Sys2Proof.Machine.execMaxs e rd ra rb s
  | .clz e rd ra => Sys2Proof.Machine.execClz e rd ra s
  | .ctz e rd ra => Sys2Proof.Machine.execCtz e rd ra s
  | .popc e rd ra => Sys2Proof.Machine.execPopc e rd ra s
  | .bswap e rd ra => Sys2Proof.Machine.execBswap e rd ra s
  | .sel e rd ra rb p => Sys2Proof.Machine.execSel e rd ra rb p s
  | .ext e rd ra rb sh => Sys2Proof.Machine.execExt e rd ra rb sh s
  | .mfs e rd sh => Sys2Proof.Machine.execMfs e rd sh s
  | .ptog e rd => Sys2Proof.Machine.execPtog e rd s
  | .gtop e ra => Sys2Proof.Machine.execGtop e ra s
  | .addi e rd ra imm => Sys2Proof.Machine.execAddi e rd ra imm s
  | .andi e rd ra imm => Sys2Proof.Machine.execAndi e rd ra imm s
  | .ori e rd ra imm => Sys2Proof.Machine.execOri e rd ra imm s
  | .xori e rd ra imm => Sys2Proof.Machine.execXori e rd ra imm s
  | .liL e rd imm => Sys2Proof.Machine.execLiL e rd imm s
  | .liuL e rd imm => Sys2Proof.Machine.execLiuL e rd imm s
  | .addiL e rd imm => Sys2Proof.Machine.execAddiL e rd imm s
  | .andiL e rd imm => Sys2Proof.Machine.execAndiL e rd imm s
  | .oriL e rd imm => Sys2Proof.Machine.execOriL e rd imm s
  | .cmp e pd cond ra rb => Sys2Proof.Machine.execCmp e pd cond ra rb s
  | .cmpi e pd cond ra imm => Sys2Proof.Machine.execCmpi e pd cond ra imm s
  | .predAnd e pd pa pb => Sys2Proof.Machine.execPredAnd e pd pa pb s
  | .predOr e pd pa pb => Sys2Proof.Machine.execPredOr e pd pa pb s
  | .predXor e pd pa pb => Sys2Proof.Machine.execPredXor e pd pa pb s
  | .predAndn e pd pa pb => Sys2Proof.Machine.execPredAndn e pd pa pb s
  | .predNot e pd pa => Sys2Proof.Machine.execPredNot e pd pa s
  | .predMov e pd pa => Sys2Proof.Machine.execPredMov e pd pa s
  | .predSet e pd => Sys2Proof.Machine.execPredSet e pd s
  | .predClr e pd => Sys2Proof.Machine.execPredClr e pd s
  | .b e off => Sys2Proof.Machine.execB e off s
  | .bt e p off => Sys2Proof.Machine.execBt e p off s
  | .bf e p off => Sys2Proof.Machine.execBf e p off s
  | .call e off => Sys2Proof.Machine.execCall e off s
  | .jr e rd ra => Sys2Proof.Machine.execJr e rd ra s
  | .ldp e rt ra sz sx off => Sys2Proof.Machine.execLdp e rt ra sz sx off s
  | .stp e rt ra sz off => Sys2Proof.Machine.execStp e rt ra sz off s
  | .ldg e rt ra sz sx off => Sys2Proof.Machine.execLdg e rt ra sz sx off s
  | .stg e rt ra sz off => Sys2Proof.Machine.execStg e rt ra sz off s
  | .ldd e rt ra dn sz sx off => Sys2Proof.Machine.execLdd e rt ra dn sz sx off s
  | .std e rt ra dn sz off => Sys2Proof.Machine.execStd e rt ra dn sz off s
  | .atomSwap e rd ra rb => Sys2Proof.Machine.execAtomSwap e rd ra rb s
  | .atomAdd e rd ra rb => Sys2Proof.Machine.execAtomAdd e rd ra rb s
  | .atomCas e rd ra rb => Sys2Proof.Machine.execAtomCas e rd ra rb s
  | .fenceG e => Sys2Proof.Machine.execFenceG e s
  | .dmk e dn ra rb sh => Sys2Proof.Machine.execDmk e dn ra rb sh s
  | .dmov e dn dm => Sys2Proof.Machine.execDmov e dn dm s
  | .dadv e dn rb => Sys2Proof.Machine.execDadv e dn rb s
  | .dtrim e dn rb => Sys2Proof.Machine.execDtrim e dn rb s
  | .ddrop e dn sh => Sys2Proof.Machine.execDdrop e dn sh s
  | .dget e rd dm sh => Sys2Proof.Machine.execDget e rd dm sh s
  | .dclr e dn => Sys2Proof.Machine.execDclr e dn s
  | .waitAll e pd ra imm => Sys2Proof.Machine.execWaitAll e pd ra imm s
  | .waitAny e pd ra imm => Sys2Proof.Machine.execWaitAny e pd ra imm s
  | .waitDoorbell e pd ra imm => Sys2Proof.Machine.execWaitDoorbell e pd ra imm s
  | .waitSleep e imm => Sys2Proof.Machine.execWaitSleep e imm s
  | .endCtx e ra => Sys2Proof.Machine.execEndCtx e ra s
  | .trap e imm => Sys2Proof.Machine.execTrap e imm s
  | .pressC e rd da db ra imm => Sys2Proof.Machine.execPressC e rd da db ra imm s
  | .pressD e rd da db ra imm => Sys2Proof.Machine.execPressD e rd da db ra imm s
  | .seal e rd da db ra imm => Sys2Proof.Machine.execSeal e rd da db ra imm s
  | .unseal e rd da db ra imm => Sys2Proof.Machine.execUnseal e rd da db ra imm s
  | .assayOne e rd da db ra imm => Sys2Proof.Machine.execAssayOne e rd da db ra imm s
  | .assayStart e rd da db ra imm => Sys2Proof.Machine.execAssayStart e rd da db ra imm s
  | .assayMore e rd da db ra imm => Sys2Proof.Machine.execAssayMore e rd da db ra imm s
  | .assayFinish e rd da db ra imm => Sys2Proof.Machine.execAssayFinish e rd da db ra imm s
  | .tallyCheckPi e rd da db ra imm => Sys2Proof.Machine.execTallyCheckPi e rd da db ra imm s
  | .tallyGenPi e rd da db ra imm => Sys2Proof.Machine.execTallyGenPi e rd da db ra imm s
  | .tallyCrc64 e rd da db ra imm => Sys2Proof.Machine.execTallyCrc64 e rd da db ra imm s
  | .tallyCrc32c e rd da db ra imm => Sys2Proof.Machine.execTallyCrc32c e rd da db ra imm s
  | .tallyCrc16 e rd da db ra imm => Sys2Proof.Machine.execTallyCrc16 e rd da db ra imm s
  | .sieveLookup e rd da db ra imm => Sys2Proof.Machine.execSieveLookup e rd da db ra imm s
  | .sieveInsert e rd da db ra imm => Sys2Proof.Machine.execSieveInsert e rd da db ra imm s
  | .sieveUnref e rd da db ra imm => Sys2Proof.Machine.execSieveUnref e rd da db ra imm s
  | .mapL e rd da db ra imm => Sys2Proof.Machine.execMapL e rd da db ra imm s
  | .mapU e rd da db ra imm => Sys2Proof.Machine.execMapU e rd da db ra imm s
  | .tillP e rd da db ra imm => Sys2Proof.Machine.execTillP e rd da db ra imm s
  | .sledReadEntry e rd da db ra imm => Sys2Proof.Machine.execSledReadEntry e rd da db ra imm s
  | .sledRead e rd da db ra imm => Sys2Proof.Machine.execSledRead e rd da db ra imm s
  | .sledProgram e rd da db ra imm => Sys2Proof.Machine.execSledProgram e rd da db ra imm s
  | .sledErase e rd da db ra imm => Sys2Proof.Machine.execSledErase e rd da db ra imm s
  | .sledFold e rd da db ra imm => Sys2Proof.Machine.execSledFold e rd da db ra imm s
  | .sledTagscan e rd da db ra imm => Sys2Proof.Machine.execSledTagscan e rd da db ra imm s
  | .sledLevels e rd da db ra imm => Sys2Proof.Machine.execSledLevels e rd da db ra imm s
  | .sledOwn e rd da db ra imm => Sys2Proof.Machine.execSledOwn e rd da db ra imm s
  | .carry e rd da db ra imm => Sys2Proof.Machine.execCarry e rd da db ra imm s
  | .emit e rd da db ra imm => Sys2Proof.Machine.execEmit e rd da db ra imm s
  | .reeveE e rd da db ra imm => Sys2Proof.Machine.execReeveE e rd da db ra imm s
  | .sqStart e rd ra => Sys2Proof.Machine.execSqStart e rd ra s
  | .sqStop e rd ra => Sys2Proof.Machine.execSqStop e rd ra s
  | .sqWidth e rd ra => Sys2Proof.Machine.execSqWidth e rd ra s
  | .tollCap e rd da => Sys2Proof.Machine.execTollCap e rd da s
  | .handRetire e rd ra => Sys2Proof.Machine.execHandRetire e rd ra s
  | .pressTarget e rd ra => Sys2Proof.Machine.execPressTarget e rd ra s
  | .spareCall e rd ra => Sys2Proof.Machine.execSpareCall e rd ra s
  | .reelPut e rd da => Sys2Proof.Machine.execReelPut e rd da s
  | .keyLoad e rd da ra => Sys2Proof.Machine.execKeyLoad e rd da ra s
  | .keyZero e rd ra => Sys2Proof.Machine.execKeyZero e rd ra s
  | .millLock e rd ra => Sys2Proof.Machine.execMillLock e rd ra s
  | .millFree e rd ra => Sys2Proof.Machine.execMillFree e rd ra s
  | .nvmeConnect ctrl qid depth peer cid => Sys2Proof.Machine.execNvmeConnect ctrl qid depth peer cid s
  | .propertyGet q cid ofs => Sys2Proof.Machine.execPropertyGet q cid ofs s
  | .propertySet q cid ofs v => Sys2Proof.Machine.execPropertySet q cid ofs v s
  | .getLogPage q cid page lsi n => Sys2Proof.Machine.execGetLogPage q cid page lsi n s
  | .identify q cid cns nsid => Sys2Proof.Machine.execIdentify q cid cns nsid s
  | .nvmeAbort q cid sqid tcid => Sys2Proof.Machine.execNvmeAbort q cid sqid tcid s
  | .setFeatures q cid fid v => Sys2Proof.Machine.execSetFeatures q cid fid v s
  | .getFeatures q cid fid => Sys2Proof.Machine.execGetFeatures q cid fid s
  | .asyncEventRequest q cid => Sys2Proof.Machine.execAsyncEventRequest q cid s
  | .keepAlive q cid => Sys2Proof.Machine.execKeepAlive q cid s
  | .queueResume q cid qid => Sys2Proof.Machine.execQueueResume q cid qid s
  | .queueReset q cid qid => Sys2Proof.Machine.execQueueReset q cid qid s
  | .nvmeFlush q cid c => Sys2Proof.Machine.execNvmeFlush q cid c s
  | .nvmeWrite q cid c => Sys2Proof.Machine.execNvmeWrite q cid c s
  | .nvmeRead q cid c => Sys2Proof.Machine.execNvmeRead q cid c s
  | .nvmeCompare q cid c => Sys2Proof.Machine.execNvmeCompare q cid c s
  | .nvmeWriteZeroes q cid c => Sys2Proof.Machine.execNvmeWriteZeroes q cid c s
  | .datasetManagement q cid c ranges dealloc => Sys2Proof.Machine.execDatasetManagement q cid c ranges dealloc s
  | .nvmeVerify q cid c => Sys2Proof.Machine.execNvmeVerify q cid c s
  | .unsupportedOpcode q cid op car => Sys2Proof.Machine.execUnsupportedOpcode q cid op car s
  | .dataArrived tag data closed => Sys2Proof.Machine.execDataArrived tag data closed s
  | .completionHandoff tag => Sys2Proof.Machine.execCompletionHandoff tag s
  | .docketQueueResume => Sys2Proof.Machine.execDocketQueueResume s
  | .docketQueueReset => Sys2Proof.Machine.execDocketQueueReset s
  | .docketQueueFreeze => Sys2Proof.Machine.execDocketQueueFreeze s
  | .docketAbortGo tag => Sys2Proof.Machine.execDocketAbortGo tag s
  | .tollWindow => Sys2Proof.Machine.execTollWindow s
  | .tollReqGo => Sys2Proof.Machine.execTollReqGo s
  | .tollReqClose => Sys2Proof.Machine.execTollReqClose s
  | .armWindowExpiry take => Sys2Proof.Machine.execArmWindowExpiry take s
  | .keptUntilExpiry take => Sys2Proof.Machine.execKeptUntilExpiry take s
  | .lapsedExpiry take => Sys2Proof.Machine.execLapsedExpiry take s
  | .bulkHoldExpiry tag => Sys2Proof.Machine.execBulkHoldExpiry tag s
  | .soloTestTimeout => Sys2Proof.Machine.execSoloTestTimeout s
  | .capacityTick granaryS residence glean fp gcm => Sys2Proof.Machine.execCapacityTick granaryS residence glean fp gcm s
  | .pressAdaptWindow => Sys2Proof.Machine.execPressAdaptWindow s
  | .pressLaneTest => Sys2Proof.Machine.execPressLaneTest s
  | .pressLaneRetire => Sys2Proof.Machine.execPressLaneRetire s
  | .pressLaneRestore => Sys2Proof.Machine.execPressLaneRestore s
  | .pressStreamCfgWrite v => Sys2Proof.Machine.execPressStreamCfgWrite v s
  | .pressLaneFailure lane => Sys2Proof.Machine.execPressLaneFailure lane s
  | .millLockGranted e slot => Sys2Proof.Machine.execMillLockGranted e slot s
  | .millLockExpiry core => Sys2Proof.Machine.execMillLockExpiry core s
  | .keyZeroDrained e slot => Sys2Proof.Machine.execKeyZeroDrained e slot s
  | .drbgReseed => Sys2Proof.Machine.execDrbgReseed s
  | .rngHealthFail => Sys2Proof.Machine.execRngHealthFail s
  | .reseedOverdue => Sys2Proof.Machine.execReseedOverdue s
  | .millKatDue core => Sys2Proof.Machine.execMillKatDue core s
  | .millCoreTest => Sys2Proof.Machine.execMillCoreTest s
  | .millCoreRetire => Sys2Proof.Machine.execMillCoreRetire s
  | .millCoreRestore => Sys2Proof.Machine.execMillCoreRestore s
  | .millCoreFailure core => Sys2Proof.Machine.execMillCoreFailure core s
  | .assayDmaGo => Sys2Proof.Machine.execAssayDmaGo s
  | .assayDmaComplete env => Sys2Proof.Machine.execAssayDmaComplete env s
  | .assayFeed v => Sys2Proof.Machine.execAssayFeed v s
  | .assayFeedTail v => Sys2Proof.Machine.execAssayFeedTail v s
  | .assayDmaClose => Sys2Proof.Machine.execAssayDmaClose s
  | .assayDmaAbort => Sys2Proof.Machine.execAssayDmaAbort s
  | .assayCompareGo => Sys2Proof.Machine.execAssayCompareGo s
  | .assayLaneTest => Sys2Proof.Machine.execAssayLaneTest s
  | .assayLaneRetire => Sys2Proof.Machine.execAssayLaneRetire s
  | .assayLaneRestore => Sys2Proof.Machine.execAssayLaneRestore s
  | .assayKatDue lane => Sys2Proof.Machine.execAssayKatDue lane s
  | .assayLaneFailure lane => Sys2Proof.Machine.execAssayLaneFailure lane s
  | .tallyClaim path => Sys2Proof.Machine.execTallyClaim path s
  | .tallyRelease path unit => Sys2Proof.Machine.execTallyRelease path unit s
  | .tallyFeedB path unit v => Sys2Proof.Machine.execTallyFeedB path unit v s
  | .tallyFeedH path unit v => Sys2Proof.Machine.execTallyFeedH path unit v s
  | .tallyFeedW path unit v => Sys2Proof.Machine.execTallyFeedW path unit v s
  | .tallyFeedD path unit v => Sys2Proof.Machine.execTallyFeedD path unit v s
  | .tallyValueWrite path unit v => Sys2Proof.Machine.execTallyValueWrite path unit v s
  | .tallyAlgWrite path unit alg => Sys2Proof.Machine.execTallyAlgWrite path unit alg s
  | .tallyCompare path unit => Sys2Proof.Machine.execTallyCompare path unit s
  | .tallyReset path unit => Sys2Proof.Machine.execTallyReset path unit s
  | .sieveVaultWrite v => Sys2Proof.Machine.execSieveVaultWrite v s
  | .sievePageTimeout e slot => Sys2Proof.Machine.execSievePageTimeout e slot s
  | .sieveFilterReady commons => Sys2Proof.Machine.execSieveFilterReady commons s
  | .snapTake => Sys2Proof.Machine.execSnapTake s
  | .snapDelete => Sys2Proof.Machine.execSnapDelete s
  | .snapPresent => Sys2Proof.Machine.execSnapPresent s
  | .snapWithdraw => Sys2Proof.Machine.execSnapWithdraw s
  | .replOpen => Sys2Proof.Machine.execReplOpen s
  | .replClose => Sys2Proof.Machine.execReplClose s
  | .replCycleNow => Sys2Proof.Machine.execReplCycleNow s
  | .replCycleExpiry link => Sys2Proof.Machine.execReplCycleExpiry link s
  | .replRecOpen peer link batch body => Sys2Proof.Machine.execReplRecOpen peer link batch body s
  | .replRecOpenReply link body => Sys2Proof.Machine.execReplRecOpenReply link body s
  | .replRecOffer peer link batch epoch count body => Sys2Proof.Machine.execReplRecOffer peer link batch epoch count body s
  | .replRecHave link body => Sys2Proof.Machine.execReplRecHave link body s
  | .replRecGrain peer link body => Sys2Proof.Machine.execReplRecGrain peer link body s
  | .replRecUnmap peer link count body => Sys2Proof.Machine.execReplRecUnmap peer link count body s
  | .replRecCommit peer link batch epoch body => Sys2Proof.Machine.execReplRecCommit peer link batch epoch body s
  | .replRecCommitAck link body => Sys2Proof.Machine.execReplRecCommitAck link body s
  | .replRecSyncWrite peer link body => Sys2Proof.Machine.execReplRecSyncWrite peer link body s
  | .replRecSyncAck link body => Sys2Proof.Machine.execReplRecSyncAck link body s
  | .syncAckTimeout link => Sys2Proof.Machine.execSyncAckTimeout link s
  | .replLinkLost link => Sys2Proof.Machine.execReplLinkLost link s
  | .replLinkReturn link => Sys2Proof.Machine.execReplLinkReturn link s
  | .cfHeartbeat b => Sys2Proof.Machine.execCfHeartbeat b s
  | .cfTillData b => Sys2Proof.Machine.execCfTillData b s
  | .cfDaybook b => Sys2Proof.Machine.execCfDaybook b s
  | .cfLedger b => Sys2Proof.Machine.execCfLedger b s
  | .cfTakeState b => Sys2Proof.Machine.execCfTakeState b s
  | .cfDocket b => Sys2Proof.Machine.execCfDocket b s
  | .cfRelease b => Sys2Proof.Machine.execCfRelease b s
  | .cfAct b fl => Sys2Proof.Machine.execCfAct b fl s
  | .cfJoin b fl => Sys2Proof.Machine.execCfJoin b fl s
  | .cfHoldupNotice b => Sys2Proof.Machine.execCfHoldupNotice b s
  | .cfFlushDone b fl => Sys2Proof.Machine.execCfFlushDone b fl s
  | .cfNak b => Sys2Proof.Machine.execCfNak b s
  | .heartbeatTick => Sys2Proof.Machine.execHeartbeatTick s
  | .budgetRecompute v => Sys2Proof.Machine.execBudgetRecompute v s
  | .flushDoneTimeout fl => Sys2Proof.Machine.execFlushDoneTimeout fl s
  | .holdupFlushComplete => Sys2Proof.Machine.execHoldupFlushComplete s
  | .bankReserveReached flushed => Sys2Proof.Machine.execBankReserveReached flushed s
  | .tillCfRetrain => Sys2Proof.Machine.execTillCfRetrain s
  | .cfTrained whole => Sys2Proof.Machine.execCfTrained whole s
  | .cfLaneFailure failed => Sys2Proof.Machine.execCfLaneFailure failed s
  | .cfLinkDown => Sys2Proof.Machine.execCfLinkDown s
  | .partnerLost fl => Sys2Proof.Machine.execPartnerLost fl s
  | .secondWaitExpiry fl => Sys2Proof.Machine.execSecondWaitExpiry fl s
  | .joinWaitExpiry fl => Sys2Proof.Machine.execJoinWaitExpiry fl s
  | .failbackHoldoffExpiry => Sys2Proof.Machine.execFailbackHoldoffExpiry s
  | .selfFence => Sys2Proof.Machine.execSelfFence s
  | .fenceInEffect => Sys2Proof.Machine.execFenceInEffect s
  | .fenceInPulse => Sys2Proof.Machine.execFenceInPulse s
  | .testPulseEnd => Sys2Proof.Machine.execTestPulseEnd s
  | .aliveTick => Sys2Proof.Machine.execAliveTick s
  | .drillDue => Sys2Proof.Machine.execDrillDue s
  | .councilDrillGo => Sys2Proof.Machine.execCouncilDrillGo s
  | .drillHoldExpiry => Sys2Proof.Machine.execDrillHoldExpiry s
  | .councilBallot core minor ra da input => Sys2Proof.Machine.execCouncilBallot core minor ra da input s
  | .voteWindowExpiry => Sys2Proof.Machine.execVoteWindowExpiry s
  | .activeCoreTimeout => Sys2Proof.Machine.execActiveCoreTimeout s
  | .coreResyncDone core => Sys2Proof.Machine.execCoreResyncDone core s
  | .councilCoreTest => Sys2Proof.Machine.execCouncilCoreTest s
  | .councilCoreRetire => Sys2Proof.Machine.execCouncilCoreRetire s
  | .councilCoreRestore => Sys2Proof.Machine.execCouncilCoreRestore s
  | .councilCheckpoint body => Sys2Proof.Machine.execCouncilCheckpoint body s
  | .groupCommit e => Sys2Proof.Machine.execGroupCommit e s
  | .daybookFlushTimer commons => Sys2Proof.Machine.execDaybookFlushTimer commons s
  | .daybookPageDurable commons failed => Sys2Proof.Machine.execDaybookPageDurable commons failed s
  | .checkpointTimer commons => Sys2Proof.Machine.execCheckpointTimer commons s
  | .checkpointSize commons => Sys2Proof.Machine.execCheckpointSize commons s
  | .stewardCkptGo => Sys2Proof.Machine.execStewardCkptGo s
  | .mapPageFetched e slot lost => Sys2Proof.Machine.execMapPageFetched e slot lost s
  | .sledPresence sled => Sys2Proof.Machine.execSledPresence sled s
  | .sledPowerTimer sled => Sys2Proof.Machine.execSledPowerTimer sled s
  | .sledTrained sled width label dies blocks cycles ecc geometry => Sys2Proof.Machine.execSledTrained sled width label dies blocks cycles ecc geometry s
  | .sledTrainFail sled geometry => Sys2Proof.Machine.execSledTrainFail sled geometry s
  | .sledLaneFault sled => Sys2Proof.Machine.execSledLaneFault sled s
  | .sledRemoved sled => Sys2Proof.Machine.execSledRemoved sled s
  | .sledCmdTimeout sled => Sys2Proof.Machine.execSledCmdTimeout sled s
  | .sledPowerOff => Sys2Proof.Machine.execSledPowerOff s
  | .sledPowerOn => Sys2Proof.Machine.execSledPowerOn s
  | .sledReset => Sys2Proof.Machine.execSledReset s
  | .sledRetrain => Sys2Proof.Machine.execSledRetrain s
  | .slcRecompute => Sys2Proof.Machine.execSlcRecompute s
  | .foldStart => Sys2Proof.Machine.execFoldStart s
  | .foldComplete die status failing => Sys2Proof.Machine.execFoldComplete die status failing s
  | .foldRateWindow => Sys2Proof.Machine.execFoldRateWindow s
  | .gleanBlock commons status => Sys2Proof.Machine.execGleanBlock commons status s
  | .thinSheaf commons sheaf data => Sys2Proof.Machine.execThinSheaf commons sheaf data s
  | .calibrationDue die group => Sys2Proof.Machine.execCalibrationDue die group s
  | .secureBoundExpiry commons sheaf data => Sys2Proof.Machine.execSecureBoundExpiry commons sheaf data s
  | .stewardSecureWrite v => Sys2Proof.Machine.execStewardSecureWrite v s
  | .holdForm => Sys2Proof.Machine.execHoldForm s
  | .holdDissolve => Sys2Proof.Machine.execHoldDissolve s
  | .holdTakeIn => Sys2Proof.Machine.execHoldTakeIn s
  | .holdFail => Sys2Proof.Machine.execHoldFail s
  | .holdResync => Sys2Proof.Machine.execHoldResync s
  | .holdWatchNow => Sys2Proof.Machine.execHoldWatchNow s
  | .ledgerWriteTick commons copies => Sys2Proof.Machine.execLedgerWriteTick commons copies s
  | .rebuildChunk commons status => Sys2Proof.Machine.execRebuildChunk commons status s
  | .resyncPass commons data decodes => Sys2Proof.Machine.execResyncPass commons data decodes s
  | .watchSheaf commons data decodes => Sys2Proof.Machine.execWatchSheaf commons data decodes s
  | .watchOverdue commons => Sys2Proof.Machine.execWatchOverdue commons s
  | .carrierHello h body => Sys2Proof.Machine.execCarrierHello h body s
  | .carrierHelloReply h body => Sys2Proof.Machine.execCarrierHelloReply h body s
  | .carrierFloor h body => Sys2Proof.Machine.execCarrierFloor h body s
  | .carrierAck h body => Sys2Proof.Machine.execCarrierAck h body s
  | .carrierWrite h body => Sys2Proof.Machine.execCarrierWrite h body s
  | .carrierRead h body => Sys2Proof.Machine.execCarrierRead h body s
  | .carrierReadResp h body => Sys2Proof.Machine.execCarrierReadResp h body s
  | .frameDone h body => Sys2Proof.Machine.execFrameDone h body s
  | .queueOpen h body => Sys2Proof.Machine.execQueueOpen h body s
  | .queueReply h body => Sys2Proof.Machine.execQueueReply h body s
  | .queueCtl h body => Sys2Proof.Machine.execQueueCtl h body s
  | .cmdDone h body => Sys2Proof.Machine.execCmdDone h body s
  | .carrierAbort h body => Sys2Proof.Machine.execCarrierAbort h body s
  | .abortReply h body => Sys2Proof.Machine.execAbortReply h body s
  | .queueNotice h body => Sys2Proof.Machine.execQueueNotice h body s
  | .takeOpen h body => Sys2Proof.Machine.execTakeOpen h body s
  | .takeGrant h body => Sys2Proof.Machine.execTakeGrant h body s
  | .takeClose h body => Sys2Proof.Machine.execTakeClose h body s
  | .takeNotice h body => Sys2Proof.Machine.execTakeNotice h body s
  | .carrierRepl h body => Sys2Proof.Machine.execCarrierRepl h body s
  | .carrierCrier h body => Sys2Proof.Machine.execCarrierCrier h body s
  | .reasmTimeout h => Sys2Proof.Machine.execReasmTimeout h s
  | .missingGap h map => Sys2Proof.Machine.execMissingGap h map s
  | .ackDelayExpiry peer => Sys2Proof.Machine.execAckDelayExpiry peer s
  | .rtoExpiry peer seq => Sys2Proof.Machine.execRtoExpiry peer seq s
  | .giveupExpiry peer => Sys2Proof.Machine.execGiveupExpiry peer s
  | .queueGraceExpiry peer => Sys2Proof.Machine.execQueueGraceExpiry peer s
  | .rateInterval qp n => Sys2Proof.Machine.execRateInterval qp n s
  | .peerReset => Sys2Proof.Machine.execPeerReset s
  | .peerPin => Sys2Proof.Machine.execPeerPin s
  | .peerUnpin => Sys2Proof.Machine.execPeerUnpin s
  | .regCreate => Sys2Proof.Machine.execRegCreate s
  | .regRevoke => Sys2Proof.Machine.execRegRevoke s
  | .revocationDrained index => Sys2Proof.Machine.execRevocationDrained index s
  | .cmLinkDown => Sys2Proof.Machine.execCmLinkDown s
  | .qpError q => Sys2Proof.Machine.execQpError q s
  | .roceCnp q => Sys2Proof.Machine.execRoceCnp q s
  | .saddrAnnounce saddr => Sys2Proof.Machine.execSaddrAnnounce saddr s
  | .magTrain port err f => Sys2Proof.Machine.execMagTrain port err f s
  | .magTrainReply port err f => Sys2Proof.Machine.execMagTrainReply port err f s
  | .magAck port err f => Sys2Proof.Machine.execMagAck port err f s
  | .magResendReq port err f => Sys2Proof.Machine.execMagResendReq port err f s
  | .magIdentify port err f => Sys2Proof.Machine.execMagIdentify port err f s
  | .magRead port err f => Sys2Proof.Machine.execMagRead port err f s
  | .magWrite port err f => Sys2Proof.Machine.execMagWrite port err f s
  | .magFlush port err f => Sys2Proof.Machine.execMagFlush port err f s
  | .magTrim port err f => Sys2Proof.Machine.execMagTrim port err f s
  | .recordArm port err f => Sys2Proof.Machine.execRecordArm port err f s
  | .recordStop port err f => Sys2Proof.Machine.execRecordStop port err f s
  | .magTaskStatus port err f => Sys2Proof.Machine.execMagTaskStatus port err f s
  | .magData port err f => Sys2Proof.Machine.execMagData port err f s
  | .magTaskReset port err f => Sys2Proof.Machine.execMagTaskReset port err f s
  | .magAbort port err f => Sys2Proof.Machine.execMagAbort port err f s
  | .magAbortReply port err f => Sys2Proof.Machine.execMagAbortReply port err f s
  | .magNotice port err f => Sys2Proof.Machine.execMagNotice port err f s
  | .magTwin port err f => Sys2Proof.Machine.execMagTwin port err f s
  | .magResendTimer port => Sys2Proof.Machine.execMagResendTimer port s
  | .magLockLoss port => Sys2Proof.Machine.execMagLockLoss port s
  | .magRetrain port => Sys2Proof.Machine.execMagRetrain port s
  | .magTrainRetry port => Sys2Proof.Machine.execMagTrainRetry port s
  | .magLaneFail port lanes => Sys2Proof.Machine.execMagLaneFail port lanes s
  | .twinTick port => Sys2Proof.Machine.execTwinTick port s
  | .handbackDrained port => Sys2Proof.Machine.execHandbackDrained port s
  | .ingestStart port => Sys2Proof.Machine.execIngestStart port s
  | .ingestStop port => Sys2Proof.Machine.execIngestStop port s
  | .ingestClipVerdict port => Sys2Proof.Machine.execIngestClipVerdict port s
  | .larderClean => Sys2Proof.Machine.execLarderClean s
  | .larderInvalidate => Sys2Proof.Machine.execLarderInvalidate s
  | .larderDisable => Sys2Proof.Machine.execLarderDisable s
  | .larderEnable => Sys2Proof.Machine.execLarderEnable s
  | .larderWaysWrite count => Sys2Proof.Machine.execLarderWaysWrite count s
  | .larderWayRetire way => Sys2Proof.Machine.execLarderWayRetire way s
  | .larderWayRestore way pass => Sys2Proof.Machine.execLarderWayRestore way pass s
  | .larderFillComplete line => Sys2Proof.Machine.execLarderFillComplete line s
  | .larderEccError bank set way uncorr => Sys2Proof.Machine.execLarderEccError bank set way uncorr s
  | .hbmEccError addr row uncorr => Sys2Proof.Machine.execHbmEccError addr row uncorr s
  | .hbmScrubDue => Sys2Proof.Machine.execHbmScrubDue s
  | .hbmRowRemap row => Sys2Proof.Machine.execHbmRowRemap row s
  | .strongRetry env => Sys2Proof.Machine.execStrongRetry env s
  | .strongClearAlt => Sys2Proof.Machine.execStrongClearAlt s
  | .fwBegin => Sys2Proof.Machine.execFwBegin s
  | .fwData v => Sys2Proof.Machine.execFwData v s
  | .fwEndBlock => Sys2Proof.Machine.execFwEndBlock s
  | .fwVerify => Sys2Proof.Machine.execFwVerify s
  | .fwAbort => Sys2Proof.Machine.execFwAbort s
  | .fwActivate env => Sys2Proof.Machine.execFwActivate env s
  | .fwCommit => Sys2Proof.Machine.execFwCommit s
  | .fwRollback env => Sys2Proof.Machine.execFwRollback env s
  | .rollGo => Sys2Proof.Machine.execRollGo s
  | .rollStepAdvance env => Sys2Proof.Machine.execRollStepAdvance env s
  | .quoteGo => Sys2Proof.Machine.execQuoteGo s
  | .keyImportOmk => Sys2Proof.Machine.execKeyImportOmk s
  | .keyEnrollProgkey => Sys2Proof.Machine.execKeyEnrollProgkey s
  | .keyVaultCreate vault => Sys2Proof.Machine.execKeyVaultCreate vault s
  | .keyVaultExport vault => Sys2Proof.Machine.execKeyVaultExport vault s
  | .keyVaultImport vault => Sys2Proof.Machine.execKeyVaultImport vault s
  | .keyVaultDelete vault => Sys2Proof.Machine.execKeyVaultDelete vault s
  | .keySessionLoad slot => Sys2Proof.Machine.execKeySessionLoad slot s
  | .keyData v => Sys2Proof.Machine.execKeyData v s
  | .authData v => Sys2Proof.Machine.execAuthData v s
  | .wallWrite seconds => Sys2Proof.Machine.execWallWrite seconds s
  | .parishSnapshot p area from_ => Sys2Proof.Machine.execParishSnapshot p area from_ s
  | .parishClearGo => Sys2Proof.Machine.execParishClearGo s
  | .crierWindow => Sys2Proof.Machine.execCrierWindow s
  | .hushPeriod source => Sys2Proof.Machine.execHushPeriod source s
  | .countLatchGo => Sys2Proof.Machine.execCountLatchGo s
  | .countCfgWrite n v => Sys2Proof.Machine.execCountCfgWrite n v s
  | .counterWrap n => Sys2Proof.Machine.execCounterWrap n s
  | .counterSample n e insn => Sys2Proof.Machine.execCounterSample n e insn s
  | .reelFreeze => Sys2Proof.Machine.execReelFreeze s
  | .reelThaw => Sys2Proof.Machine.execReelThaw s
  | .replayStop => Sys2Proof.Machine.execReplayStop s
  | .replayEnd result count at_ recorded replayed offset => Sys2Proof.Machine.execReplayEnd result count at_ recorded replayed offset s
  | .opsecSave => Sys2Proof.Machine.execOpsecSave s
  | .gradeFall vin => Sys2Proof.Machine.execGradeFall vin s
  | .gradeRise vin => Sys2Proof.Machine.execGradeRise vin s
  | .vinLoss vin => Sys2Proof.Machine.execVinLoss vin s
  | .vinReturn vin => Sys2Proof.Machine.execVinReturn vin s
  | .powerCapExceeded mw => Sys2Proof.Machine.execPowerCapExceeded mw s
  | .powerCapRelax mw => Sys2Proof.Machine.execPowerCapRelax mw s
  | .bankCharged => Sys2Proof.Machine.execBankCharged s
  | .bankStepTestDue => Sys2Proof.Machine.execBankStepTestDue s
  | .bankMeasure => Sys2Proof.Machine.execBankMeasure s
  | .bankDisconnect => Sys2Proof.Machine.execBankDisconnect s
  | .holdSenseMismatch => Sys2Proof.Machine.execHoldSenseMismatch s
  | .thermalCapOn temp => Sys2Proof.Machine.execThermalCapOn temp s
  | .thermalCapOff temp => Sys2Proof.Machine.execThermalCapOff temp s
  | .overTemp temp => Sys2Proof.Machine.execOverTemp temp s
  | .caseTooCold temp => Sys2Proof.Machine.execCaseTooCold temp s
  | .overtempCooled temp => Sys2Proof.Machine.execOvertempCooled temp s
  | .pllFault pll => Sys2Proof.Machine.execPllFault pll s
  | .pllRelockFail => Sys2Proof.Machine.execPllRelockFail s
  | .rtcxLoss => Sys2Proof.Machine.execRtcxLoss s
  | .refclkLoss ref => Sys2Proof.Machine.execRefclkLoss ref s
  | .wardenTestGo kind unit force => Sys2Proof.Machine.execWardenTestGo kind unit force s
  | .periodicTestDue kind unit => Sys2Proof.Machine.execPeriodicTestDue kind unit s
  | .testWithdrawal => Sys2Proof.Machine.execTestWithdrawal s
  | .unitTestDone beside pass c esr v => Sys2Proof.Machine.execUnitTestDone beside pass c esr v s
  | .chargeWindow refine dt => Sys2Proof.Machine.execChargeWindow refine dt s
  | .converterStop => Sys2Proof.Machine.execConverterStop s
  | .hbmStackHot temp0 temp1 => Sys2Proof.Machine.execHbmStackHot temp0 temp1 s
  | .fabricLinkDown link => Sys2Proof.Machine.execFabricLinkDown link s
  | .fabricLinkTrained link => Sys2Proof.Machine.execFabricLinkTrained link s
  | .carrierReservedType h type body => Sys2Proof.Machine.execCarrierReservedType h type body s
  | .cfReservedStub b => Sys2Proof.Machine.execCfReservedStub b s
  | .magReservedFolio port err f => Sys2Proof.Machine.execMagReservedFolio port err f s
  | .magUnknownOpcode port err f => Sys2Proof.Machine.execMagUnknownOpcode port err f s
  | .falseMark port => Sys2Proof.Machine.execFalseMark port s
  | .malformedSegment port => Sys2Proof.Machine.execMalformedSegment port s
  | .larderMaintDone => Sys2Proof.Machine.execLarderMaintDone s
  | .larderDisableDone => Sys2Proof.Machine.execLarderDisableDone s
  | .vinAboveRange vin => Sys2Proof.Machine.execVinAboveRange vin s
  | .alarmLedExpiry => Sys2Proof.Machine.execAlarmLedExpiry s
  | .fenceInRelease => Sys2Proof.Machine.execFenceInRelease s
  | .laneMarkersFound port => Sys2Proof.Machine.execLaneMarkersFound port s
  | .keepAliveTimeout ctrl => Sys2Proof.Machine.execKeepAliveTimeout ctrl s
  | .localAckTimeout q => Sys2Proof.Machine.execLocalAckTimeout q s

end Sys2Proof.Machine
end

