-- ==== Sys2Proof/Machine/Step.lean ====
section
/-! DEFINITION. One step of the head: the command at the front of the queue, or on an empty queue one
microsecond of the clock (assumption log 4). -/
namespace Sys2Proof.Machine

/-- Take the front command and run it on the state that holds the rest of the queue; on an empty queue
time passes (assumption log 4). -/
def step (s : State) : Host.Outcome State Fault Refusal :=
  match s.pending with
  | [] => .next (clockTick s)
  | c :: rest => exec c { s with pending := rest }

/-- The state with the command a table word spells at the front of its queue; unchanged where the word
spells none. -/
def State.withFetchWord (s : State) (nbits w : Nat) : State :=
  match decodeTableWord nbits w with
  | some c => { s with pending := c :: s.pending }
  | none => s

end Sys2Proof.Machine
end

