-- ==== Sys2Proof/Safety.lean ====
section
/-! DEFINITION. What a safe state is, and the terms the statements use: when a context may issue, and what a command leaves
alone. -/
namespace Sys2Proof.Machine

/-- The register file and memory are in canonical form. -/
def State.canonical (s : State) : Prop := AMap.wf resetOf s.regs = true ∧ Memory.wf s.mem = true

/-- Registers that counting, records and Reeve numbers write: REEVE_NOW (R461) and the CRIER and COUNT blocks (R473, R479). -/
def noisy (k : Nat) : Bool := k == 0x20000 || (decide (0x40000 ≤ k) && decide (k < 0x60000))

/-- All of a state but its registers and records. -/
def State.rest (s : State) : State := { s with regs := [], obs := default }

/-- A context may issue an instruction of one word that reads the listed registers: READY, the word inside its code, none of them
pending (R57, R58, R98). -/
def State.canIssue (s : State) (e : Eng) (reads : List GReg) : Prop :=
  (s.ctx e).state = .ready ∧ (s.ctx e).pc + 4 ≤ (s.ctx e).codeLen ∧ ∀ r ∈ reads, r.toNat = 0 ∨ r.toNat ∉ (s.ctx e).pend

/-- The register that counts the instructions of a Hand (R90). -/
def issuedKey (e : Eng) : Nat := R.HANDS_ISSUED + 0x10000 * (e.unit % 16)

/-- The register that counts the busy cycles of a Hand (R90). -/
def busyKey (e : Eng) : Nat := R.HANDS_BUSY_CYCLES + 0x10000 * (e.unit % 16)

/-- Registers an issue writes: the Hand's counts of instructions and busy cycles, and those of counting. -/
def issueKeys (e : Eng) (k : Nat) : Bool := noisy k || k == issuedKey e || k == busyKey e

/-- The frame of an instruction that changes its own context only: every other context, every byte of memory, every register
but those of counting and all other state stay. -/
def State.onlyCtx (s t : State) (e : Eng) : Prop :=
  (∀ e' : Eng, e'.key ≠ e.key → t.ctx e' = s.ctx e') ∧ (∀ a, t.rdB a = s.rdB a) ∧
  (∀ k, issueKeys e k = false → t.getR k = s.getR k) ∧
  { t.hands with ctxs := [] } = { s.hands with ctxs := [] } ∧
  { t.rest with hands := s.hands } = s.rest

/-- The same for an instruction that also writes bytes of memory: only the keys of a set may change. -/
def State.ctxAndBytes (s t : State) (e : Eng) (own : Nat → Prop) : Prop :=
  (∀ e' : Eng, e'.key ≠ e.key → t.ctx e' = s.ctx e') ∧ (∀ a, ¬ own a → t.rdB a = s.rdB a) ∧
  (∀ k, issueKeys e k = false → t.getR k = s.getR k) ∧
  { t.hands with ctxs := [] } = { s.hands with ctxs := [] } ∧
  { t.rest with hands := s.hands, mem := s.mem } = s.rest

end Sys2Proof.Machine
end

