-- ==== Sys2Proof/Certificates/Slice0/Obligations.lean ====
section
/-! DEFINITION. The statements for the provers, each with the rules it rests on. Sys2Proof.Claims holds the terms they share:
what the rules say of whole families, written from the rules' own words. -/

open Sys2Proof Sys2Proof.Machine

namespace Sys2Proof.Claims

/-- Register r of a context as an instruction reads it: g0 is zero (R53). -/
def reg (s : State) (e : Eng) (r : GReg) : Word := if r = 0 then 0 else (s.ctx e).g.get r.toNat

/-- A context after it has written register rd and gone on by len bytes: a write of g0 is discarded (R53). -/
def wrote (c : Ctx) (rd : GReg) (v : Word) (len : Nat) : Ctx :=
  { c with g := if rd = 0 then c.g else c.g.set rd.toNat v, pc := c.pc + len, issued := true }

/-- R93 to R95: of each instruction that computes one register, its context, the registers it reads, its destination, its
length in bytes and the value, from the words of the rules. -/
def registerForm (s : State) : Instr → Option (Eng × List GReg × GReg × Nat × Word)
  | .add e rd ra rb => some (e, [ra, rb], rd, 4, reg s e ra + reg s e rb)
  | .sub e rd ra rb => some (e, [ra, rb], rd, 4, reg s e ra - reg s e rb)
  | .and e rd ra rb => some (e, [ra, rb], rd, 4, reg s e ra &&& reg s e rb)
  | .or e rd ra rb => some (e, [ra, rb], rd, 4, reg s e ra ||| reg s e rb)
  | .xor e rd ra rb => some (e, [ra, rb], rd, 4, reg s e ra ^^^ reg s e rb)
  | .andn e rd ra rb => some (e, [ra, rb], rd, 4, reg s e ra &&& ~~~(reg s e rb))
  | .shl e rd ra rb => some (e, [ra, rb], rd, 4, reg s e ra <<< ((reg s e rb).extractLsb' 0 6))
  | .shr e rd ra rb => some (e, [ra, rb], rd, 4, reg s e ra >>> ((reg s e rb).extractLsb' 0 6))
  | .sar e rd ra rb => some (e, [ra, rb], rd, 4, (reg s e ra).sshiftRight ((reg s e rb).extractLsb' 0 6).toNat)
  | .shli e rd ra amt => some (e, [ra], rd, 4, reg s e ra <<< amt)
  | .shri e rd ra amt => some (e, [ra], rd, 4, reg s e ra >>> amt)
  | .sari e rd ra amt => some (e, [ra], rd, 4, (reg s e ra).sshiftRight amt.toNat)
  | .rotr e rd ra rb => some (e, [ra, rb], rd, 4, (reg s e ra).rotateRight ((reg s e rb).extractLsb' 0 6).toNat)
  | .mul e rd ra rb => some (e, [ra, rb], rd, 4, reg s e ra * reg s e rb)
  | .mulhu e rd ra rb => some (e, [ra, rb], rd, 4,
      BitVec.extractLsb' 64 64 ((reg s e ra).zeroExtend 128 * (reg s e rb).zeroExtend 128))
  | .mulhs e rd ra rb => some (e, [ra, rb], rd, 4,
      BitVec.extractLsb' 64 64 ((reg s e ra).signExtend 128 * (reg s e rb).signExtend 128))
  | .divu e rd ra rb => some (e, [ra, rb], rd, 4, if reg s e rb = 0 then BitVec.allOnes 64 else reg s e ra / reg s e rb)
  | .remu e rd ra rb => some (e, [ra, rb], rd, 4, if reg s e rb = 0 then reg s e ra else reg s e ra % reg s e rb)
  | .divs e rd ra rb => some (e, [ra, rb], rd, 4,
      if reg s e rb = 0 then BitVec.allOnes 64 else (reg s e ra).sdiv (reg s e rb))
  | .rems e rd ra rb => some (e, [ra, rb], rd, 4, if reg s e rb = 0 then reg s e ra else (reg s e ra).srem (reg s e rb))
  | .minu e rd ra rb => some (e, [ra, rb], rd, 4, if reg s e ra ≤ reg s e rb then reg s e ra else reg s e rb)
  | .maxu e rd ra rb => some (e, [ra, rb], rd, 4, if reg s e ra ≤ reg s e rb then reg s e rb else reg s e ra)
  | .mins e rd ra rb => some (e, [ra, rb], rd, 4, if (reg s e ra).sle (reg s e rb) then reg s e ra else reg s e rb)
  | .maxs e rd ra rb => some (e, [ra, rb], rd, 4, if (reg s e ra).sle (reg s e rb) then reg s e rb else reg s e ra)
  | .bswap e rd ra => some (e, [ra], rd, 4, (reg s e ra).extractLsb' 0 8 ++ (reg s e ra).extractLsb' 8 8 ++
      (reg s e ra).extractLsb' 16 8 ++ (reg s e ra).extractLsb' 24 8 ++ (reg s e ra).extractLsb' 32 8 ++
      (reg s e ra).extractLsb' 40 8 ++ (reg s e ra).extractLsb' 48 8 ++ (reg s e ra).extractLsb' 56 8)
  | .sel e rd ra rb p => some (e, [ra, rb], rd, 4, if (s.ctx e).p.testBit p.toNat then reg s e ra else reg s e rb)
  | .ext e rd ra rb sh => some (e, [ra, rb], rd, 4,
      (reg s e ra >>> ((reg s e rb).extractLsb' 0 6)) &&& (BitVec.allOnes 64 >>> (63 - sh.toNat)))
  | .ptog e rd => some (e, [], rd, 4, BitVec.ofNat 64 ((s.ctx e).p % 256))
  | .addi e rd ra imm => some (e, [ra], rd, 4, reg s e ra + imm.signExtend 64)
  | .andi e rd ra imm => some (e, [ra], rd, 4, reg s e ra &&& imm.zeroExtend 64)
  | .ori e rd ra imm => some (e, [ra], rd, 4, reg s e ra ||| imm.zeroExtend 64)
  | .xori e rd ra imm => some (e, [ra], rd, 4, reg s e ra ^^^ imm.zeroExtend 64)
  | .liL e rd imm => some (e, [], rd, 8, imm.signExtend 64)
  | .liuL e rd imm => some (e, [rd], rd, 8, imm ++ (reg s e rd).extractLsb' 0 42)
  | .addiL e rd imm => some (e, [rd], rd, 8, reg s e rd + imm.signExtend 64)
  | .andiL e rd imm => some (e, [rd], rd, 8, reg s e rd &&& imm.signExtend 64)
  | .oriL e rd imm => some (e, [rd], rd, 8, reg s e rd ||| imm.zeroExtend 64)
  | _ => none

end Sys2Proof.Claims

open Sys2Proof.Claims

/-- For ADD to MAXS, BSWAP, SEL, EXT, PTOG, the immediate and the long forms: in a context that may issue, the words of the
instruction inside its code, exec answers the state in which rd holds the value of R93 to R95 (a write of g0 discarded), the
pc has advanced by 4, or by 8 for a long form, and every other context, every byte of memory, every register but those of
counting and all other state are unchanged. (R93, R94, R95) -/
def Obligations.RegisterOperationsCompute : Prop :=
  ∀ (i : Instr) (s : State) (e : Eng) (reads : List GReg) (rd : GReg) (len : Nat) (v : Word),
    registerForm s i = some (e, reads, rd, len, v) → s.canIssue e reads → (s.ctx e).pc + len ≤ (s.ctx e).codeLen →
      ∃ t, exec i s = .next t ∧ t.ctx e = wrote (s.ctx e) rd v len ∧ s.onlyCtx t e

/-- In a context that may issue, CLZ, CTZ and POPC write rd with a number n at most 64 and go on; for CLZ the n bits from the
top are 0 and the next is 1 where there is one; for CTZ the same from the bottom; for POPC n is the number of bits that are
1. Nothing else changes. (R95) -/
def Obligations.BitCountsAreCounts : Prop :=
  ∀ (s : State) (e : Eng) (rd ra : GReg), s.canIssue e [ra] →
    (∃ t n, exec (.clz e rd ra) s = .next t ∧ t.ctx e = wrote (s.ctx e) rd (BitVec.ofNat 64 n) 4 ∧ s.onlyCtx t e ∧ n ≤ 64 ∧
      (∀ i, 64 - n ≤ i → i < 64 → (reg s e ra).getLsbD i = false) ∧ (n < 64 → (reg s e ra).getLsbD (63 - n) = true)) ∧
    (∃ t n, exec (.ctz e rd ra) s = .next t ∧ t.ctx e = wrote (s.ctx e) rd (BitVec.ofNat 64 n) 4 ∧ s.onlyCtx t e ∧ n ≤ 64 ∧
      (∀ i, i < n → (reg s e ra).getLsbD i = false) ∧ (n < 64 → (reg s e ra).getLsbD n = true)) ∧
    (∃ t n, exec (.popc e rd ra) s = .next t ∧ t.ctx e = wrote (s.ctx e) rd (BitVec.ofNat 64 n) 4 ∧ s.onlyCtx t e ∧
      n = ((List.range 64).filter (fun i => (reg s e ra).getLsbD i)).length)

namespace Sys2Proof.Claims

/-- R97: of each instruction that computes one predicate, its context, the registers it reads, its destination and the value. -/
def predicateForm (s : State) : Instr → Option (Eng × List GReg × PReg × Bool)
  | .cmp e pd cond ra rb => some (e, [ra, rb], pd, compared cond (reg s e ra) (reg s e rb))
  | .cmpi e pd cond ra imm => some (e, [ra], pd, compared cond (reg s e ra) (imm.signExtend 64))
  | .predAnd e pd pa pb => some (e, [], pd, p e pa && p e pb)
  | .predOr e pd pa pb => some (e, [], pd, p e pa || p e pb)
  | .predXor e pd pa pb => some (e, [], pd, p e pa != p e pb)
  | .predAndn e pd pa pb => some (e, [], pd, p e pa && !p e pb)
  | .predNot e pd pa => some (e, [], pd, !p e pa)
  | .predMov e pd pa => some (e, [], pd, p e pa)
  | .predSet e pd => some (e, [], pd, true)
  | .predClr e pd => some (e, [], pd, false)
  | _ => none
where
  p (e : Eng) (q : PReg) : Bool := (s.ctx e).p.testBit q.toNat
  compared (cond : BitVec 3) (a b : Word) : Bool :=
    if cond = 0 then a == b else if cond = 1 then a != b
    else if cond = 2 then decide (a < b) else if cond = 3 then decide (b ≤ a)
    else if cond = 4 then a.slt b else if cond = 5 then b.sle a
    else if cond = 6 then a &&& b != 0 else a &&& b == 0

end Sys2Proof.Claims

/-- In a context that may issue, each of CMP, CMPI and the eight PRED functions sets predicate pd to the value R97 gives, leaves
the other predicates, every register and descriptor of the context, goes on at pc + 4, and leaves every other context,
memory, registers but those of counting and all other state. (R97) -/
def Obligations.PredicateOperationsCompute : Prop :=
  ∀ (i : Instr) (s : State) (e : Eng) (reads : List GReg) (pd : PReg) (v : Bool),
    predicateForm s i = some (e, reads, pd, v) → s.canIssue e reads →
      ∃ t n, exec i s = .next t ∧ t.ctx e = { s.ctx e with p := n, pc := (s.ctx e).pc + 4, issued := true } ∧
        (∀ j, n.testBit j = if j = pd.toNat then v else (s.ctx e).p.testBit j) ∧ s.onlyCtx t e

namespace Sys2Proof.Claims

/-- Whether an address lies in the code of a context. -/
def inCode (c : Ctx) (a : Int) : Prop := 0 ≤ a ∧ a < c.codeLen

end Sys2Proof.Claims

/-- In a context that may issue: where the target pc + off16 x 4 lies in the code, B and CALL go there, BT and BF go there where
their predicate is set or clear and otherwise to pc + 4; CALL writes pc + 4 to g31. JR to a word in the code goes there and
writes pc + 4 to rd, ra being read first. Every other register, the predicates and the descriptors of the context, every
other context, memory and all other state stay. (R98) -/
def Obligations.BranchesGoWhereTheySay : Prop :=
  (∀ (s : State) (e : Eng) (p : PReg) (off : BitVec 16), s.canIssue e [] → inCode (s.ctx e) ((s.ctx e).pc + off.toInt * 4) →
    let c := { s.ctx e with issued := true }
    let dest := ((s.ctx e).pc + off.toInt * 4 : Int).toNat
    let cond := (s.ctx e).p.testBit p.toNat
    (∃ t, exec (.b e off) s = .next t ∧ t.ctx e = { c with pc := dest } ∧ s.onlyCtx t e) ∧
    (∃ t, exec (.bt e p off) s = .next t ∧ t.ctx e = { c with pc := if cond then dest else c.pc + 4 } ∧ s.onlyCtx t e) ∧
    (∃ t, exec (.bf e p off) s = .next t ∧ t.ctx e = { c with pc := if cond then c.pc + 4 else dest } ∧ s.onlyCtx t e) ∧
    (∃ t, exec (.call e off) s = .next t ∧ s.onlyCtx t e ∧
      t.ctx e = { c with pc := dest, g := c.g.set 31 (BitVec.ofNat 64 (c.pc + 4)) })) ∧
  (∀ (s : State) (e : Eng) (rd ra : GReg), s.canIssue e [ra] → (reg s e ra).toNat < (s.ctx e).codeLen → (reg s e ra).toNat % 4 = 0 →
    ∃ t, exec (.jr e rd ra) s = .next t ∧ s.onlyCtx t e ∧
      t.ctx e = { wrote (s.ctx e) rd (BitVec.ofNat 64 ((s.ctx e).pc + 4)) 4 with pc := (reg s e ra).toNat })

/-- In a context that may issue: a reserved encoding, a branch B, BT, BF or CALL whose target lies outside the code whether or
not it would be taken, a JR outside the code or to no word, a WAIT ANY of an empty mask and a WAIT SLEEP of 0 take
ILLEGAL_OP (cause 0x01), and TRAP takes cause 0x0D with its imm16: the context is TRAPPING at the same pc with its
registers, predicates and descriptors unchanged, and every other context, memory and other state but counting, the trap
registers of the Hand and the records stay. Taking the trap is the effect of TRAP and of a reserved encoding. (R98) -/
def Obligations.IllegalInstructionsTrap : Prop :=
  ∀ (s : State) (e : Eng) (off imm : BitVec 16) (p pd : PReg) (rd ra : GReg), s.canIssue e [] →
    let traps (i : Instr) (cause n : Nat) : Prop := ∃ t, exec i s = .next t ∧
      t.ctx e = { s.ctx e with state := .trapping, cause := cause, imm := n, wait := .nothing, issued := true } ∧
      (∀ e' : Eng, e'.key ≠ e.key → t.ctx e' = s.ctx e') ∧ (∀ a, t.rdB a = s.rdB a) ∧ { t.rest with hands := s.hands } = s.rest
    traps (.illegalEncoding e) 0x01 0 ∧ traps (.trap e imm) 0x0D imm.toNat ∧
    (¬ inCode (s.ctx e) ((s.ctx e).pc + off.toInt * 4) →
      traps (.b e off) 0x01 0 ∧ traps (.bt e p off) 0x01 0 ∧ traps (.bf e p off) 0x01 0 ∧ traps (.call e off) 0x01 0) ∧
    (s.canIssue e [ra] → (s.ctx e).codeLen ≤ (reg s e ra).toNat ∨ (reg s e ra).toNat % 4 ≠ 0 → traps (.jr e rd ra) 0x01 0) ∧
    (s.canIssue e [ra] → (reg s e ra).extractLsb' 0 32 = 0 → traps (.waitAny e pd ra imm) 0x01 0) ∧ traps (.waitSleep e 0) 0x01 0

namespace Sys2Proof.Claims

/-- Descriptor n of a context. -/
def desc (s : State) (e : Eng) (n : DReg) : BitVec 128 := (s.ctx e).d.get n.toNat

/-- A context after it has written a descriptor and gone on. -/
def wroteDesc (c : Ctx) (n : DReg) (v : BitVec 128) : Ctx := { c with d := c.d.set n.toNat v, pc := c.pc + 4, issued := true }

/-- The fields of a descriptor (R54). -/
def fields (d : BitVec 128) (valid read write supplied : Bool) (space len addr : Nat) : Prop :=
  descValid d = valid ∧ descRead d = read ∧ descWrite d = write ∧ descSupplied d = supplied ∧ descSpace d = space ∧
    descLen d = len ∧ descAddr d = addr

end Sys2Proof.Claims

/-- In a context that may issue: DMK builds a POCKET or GLOBAL descriptor, valid where rb[63:32] is 0; DMOV copies 128 bits;
DADV adds rb to ADDRESS and takes it from LENGTH, VALID falling where rb exceeds LENGTH; DTRIM lowers LENGTH to at most rb;
DDROP clears READ or WRITE; DCLR clears VALID; each leaves the other fields, SUPPLIED among them. DGET with sh 0, 1, 2 reads
ADDRESS, LENGTH or bits [127:64]; with sh 3 to 31 it takes ILLEGAL_OP. The context goes on at pc + 4, and every other
register, context, byte of memory and state stays. (R101) -/
def Obligations.DescriptorOperationsNarrow : Prop :=
  ∀ (s : State) (e : Eng) (dn dm : DReg) (rd ra rb : GReg) (sh3 : BitVec 3) (sh2 : BitVec 2) (sh5 : BitVec 5),
    let c := s.ctx e
    let D := desc s e dn
    let writes (i : Instr) (P : BitVec 128 → Prop) : Prop :=
      ∃ t v, exec i s = .next t ∧ t.ctx e = wroteDesc c dn v ∧ P v ∧ s.onlyCtx t e
    (s.canIssue e [ra, rb] → writes (.dmk e dn ra rb sh3) (fun v => fields v ((reg s e rb).extractLsb' 32 32 == 0) (sh3.getLsbD 0)
      (sh3.getLsbD 1) false (if sh3.getLsbD 2 then 1 else 0) ((reg s e rb).toNat % 2 ^ 32) (reg s e ra).toNat)) ∧
    (s.canIssue e [] → writes (.dmov e dn dm) (fun v => v = desc s e dm)) ∧
    (s.canIssue e [rb] → writes (.dadv e dn rb) (fun v => fields v (descValid D && decide ((reg s e rb).toNat ≤ descLen D)) (descRead D)
      (descWrite D) (descSupplied D) (descSpace D) (((descLen D : Int) - (reg s e rb).toNat) % 2 ^ 32).toNat
      ((descAddr D + (reg s e rb).toNat) % 2 ^ 64))) ∧
    (s.canIssue e [rb] → writes (.dtrim e dn rb) (fun v => fields v (descValid D) (descRead D) (descWrite D) (descSupplied D) (descSpace D)
      (min (descLen D) (reg s e rb).toNat) (descAddr D))) ∧
    (s.canIssue e [] → writes (.ddrop e dn sh2) (fun v => fields v (descValid D) (descRead D && !sh2.getLsbD 0)
      (descWrite D && !sh2.getLsbD 1) (descSupplied D) (descSpace D) (descLen D) (descAddr D))) ∧
    (s.canIssue e [] → writes (.dclr e dn) (fun v => fields v false (descRead D) (descWrite D) (descSupplied D) (descSpace D) (descLen D)
      (descAddr D))) ∧
    (s.canIssue e [] → sh5.toNat ≤ 2 → ∃ t, exec (.dget e rd dm sh5) s = .next t ∧ s.onlyCtx t e ∧
      t.ctx e = wrote c rd (if sh5 = 0 then BitVec.ofNat 64 (descAddr (desc s e dm)) else if sh5 = 1 then
        BitVec.ofNat 64 (descLen (desc s e dm)) else (desc s e dm).extractLsb' 64 64) 4) ∧
    (s.canIssue e [] → 2 < sh5.toNat → ∃ t, exec (.dget e rd dm sh5) s = .next t ∧
      t.ctx e = { c with state := .trapping, cause := 0x01, imm := 0, wait := .nothing, issued := true } ∧ (∀ a, t.rdB a = s.rdB a))

/-- In a context that may issue: MFS with sh 0 to 3 writes rd with the pc, the ctx register of a Hand context, the tag or the
scratch area's address and changes nothing else; with sh 4 it writes the next free value, whatever that is, and the counter
of free values advances (the model's choice, log entry 8); other sh take ILLEGAL_OP. GTOP sets all eight predicates from
ra[7:0]. FENCE.G goes on at pc + 4 with no other effect. (R95 (MFS, GTOP), R65 (FENCE.G), assumption log 8 (CYCLES is a free
value)) -/
def Obligations.SpecialReadsAndPredicateWrites : Prop :=
  ∀ (s : State) (e : Eng) (rd ra : GReg) (sh : BitVec 5),
    let c := s.ctx e
    (s.canIssue e [] → sh.toNat ≤ 3 → ∃ t, exec (.mfs e rd sh) s = .next t ∧ s.onlyCtx t e ∧
      t.ctx e = wrote c rd (if sh = 0 then BitVec.ofNat 64 c.pc else if sh = 1 then BitVec.ofNat 64 (e.unit % 16 * 64 + e.ctx % 64)
        else if sh = 2 then BitVec.ofNat 64 (c.tag % 2 ^ 16) else BitVec.ofNat 64 (s.plan.scratchBase + e.key * 0x20000)) 4) ∧
    (s.canIssue e [] → ∃ t, exec (.mfs e rd 4) s = .next t ∧ t.ctx e = wrote c rd (Config.freeValue s.freeCtr) 4 ∧
      t.freeCtr = s.freeCtr + 1 ∧ s.onlyCtx { t with freeCtr := s.freeCtr } e) ∧
    (s.canIssue e [] → 4 < sh.toNat → ∃ t, exec (.mfs e rd sh) s = .next t ∧ (∀ a, t.rdB a = s.rdB a) ∧
      t.ctx e = { c with state := .trapping, cause := 0x01, imm := 0, wait := .nothing, issued := true }) ∧
    (s.canIssue e [ra] → ∃ t, exec (.gtop e ra) s = .next t ∧ s.onlyCtx t e ∧
      t.ctx e = { c with p := (reg s e ra).toNat % 256, pc := c.pc + 4, issued := true }) ∧
    (s.canIssue e [] → ∃ t, exec (.fenceG e) s = .next t ∧ s.onlyCtx t e ∧ t.ctx e = { c with pc := c.pc + 4, issued := true })

namespace Sys2Proof.Claims

/-- Whether register i of a context stands in a mask and is still pending. -/
def awaited (s : State) (e : Eng) (m : Word) (i : Nat) : Prop := i < 32 ∧ m.getLsbD i = true ∧ i ∈ (s.ctx e).pend

end Sys2Proof.Claims

/-- In a context that may issue: WAIT ALL goes on at pc + 4 with pd set where no masked register is pending (an empty mask among
these), WAIT ANY where some masked register is not pending, WAIT DOORBELL where a doorbell is held, taking the oldest into
ra; otherwise the context is WAITING at the same pc with its condition and timeout, registers unchanged. WAIT SLEEP of 1 to
65,535 us makes the context WAITING. Every other context and all of memory stay. (R102, R60) -/
def Obligations.WaitsGoOnOrWait : Prop :=
  ∀ (s : State) (e : Eng) (pd : PReg) (ra : GReg) (imm : BitVec 16),
    let c := s.ctx e
    let m := reg s e ra
    let on (i : Instr) (c1 : Ctx) : Prop := ∃ t n, exec i s = .next t ∧ t.ctx e = { c1 with p := n, pc := c.pc + 4, issued := true } ∧
      (∀ j, n.testBit j = if j = pd.toNat then true else c.p.testBit j) ∧ s.onlyCtx t e
    let waits (i : Instr) (w : WaitOn) : Prop := ∃ t, exec i s = .next t ∧
      t.ctx e = { c with state := .waiting, wait := w, imm := imm.toNat, issued := true } ∧ s.onlyCtx t e
    (s.canIssue e [ra] → (∀ i, ¬ awaited s e m i) → on (.waitAll e pd ra imm) c) ∧
    (s.canIssue e [ra] → (∃ i, awaited s e m i) → waits (.waitAll e pd ra imm) (.mask true (m.toNat % 2 ^ 32) pd.toNat)) ∧
    (s.canIssue e [ra] → (∃ i, i < 32 ∧ m.getLsbD i = true ∧ i ∉ c.pend) → on (.waitAny e pd ra imm) c) ∧
    (s.canIssue e [ra] → (∃ i, awaited s e m i) → (∀ i, i < 32 → m.getLsbD i = true → i ∈ c.pend) →
      waits (.waitAny e pd ra imm) (.mask false (m.toNat % 2 ^ 32) pd.toNat)) ∧
    (∀ w r, s.canIssue e [] → c.bells = w :: r →
      on (.waitDoorbell e pd ra imm) { wrote c ra w 4 with bells := r }) ∧
    (s.canIssue e [] → c.bells = [] → waits (.waitDoorbell e pd ra imm) (.bell ra.toNat pd.toNat)) ∧
    (s.canIssue e [] → 1 ≤ imm.toNat → waits (.waitSleep e imm) .sleep)

/-- A doorbell to a context that waits for one makes it READY at pc + 4 with the word in ra and pd set; to any other context
that is not FREE and holds fewer than four it is queued behind them; a fifth is refused to its sender with 0x8040. A timeout
makes a context that waits on a mask READY at pc + 4 with pd clear, and ends a SLEEP leaving the predicates. The watchdog
takes trap 0x0C in a READY context. A TRAPPING Hand context with no operation outstanding and an entry 15 continues there,
READY, with the cause, the entry and the faulting pc in g30. A HALTED context with no operation outstanding becomes FREE.
(R60, R61, R69, R102, R56) -/
def Obligations.WakingAContext : Prop :=
  ∀ (s : State) (e : Eng) (word : Word),
    let c := s.ctx e
    let ready (c1 : Ctx) : Ctx := { c1 with state := .ready, wait := .nothing, imm := 0, pc := c.pc + 4 }
    (∀ (ra : GReg) (pd : PReg), c.state = .waiting → c.wait = .bell ra.toNat pd.toNat → ∃ t n, exec (.doorbell e word) s = .next t ∧
      t.ctx e = { ready { c with g := if ra = 0 then c.g else c.g.set ra.toNat word } with p := n } ∧
      (∀ j, n.testBit j = if j = pd.toNat then true else c.p.testBit j) ∧ (∀ a, t.rdB a = s.rdB a)) ∧
    (c.state ≠ .free → (∀ ra pd, ¬ (c.state = .waiting ∧ c.wait = .bell ra pd)) → c.bells.length < 4 → ∃ t, exec (.doorbell e word) s = .next t ∧ t.ctx e = { c with bells := c.bells ++ [word] } ∧
      (∀ a, t.rdB a = s.rdB a)) ∧
    ((∀ ra pd, ¬ (c.state = .waiting ∧ c.wait = .bell ra pd)) → 4 ≤ c.bells.length → exec (.doorbell e word) s = .next { s with outbox := s.outbox ++ [.bell e.key 0x8040] }) ∧
    (∀ all m pd, c.state = .waiting → c.wait = .mask all m pd → c.imm ≠ 0 → ∃ t n, exec (.waitTimeout e) s = .next t ∧
      t.ctx e = { ready c with p := n } ∧ (∀ j, n.testBit j = if j = pd then false else c.p.testBit j)) ∧
    (c.state = .waiting → c.wait = .sleep → ∃ t, exec (.waitTimeout e) s = .next t ∧ t.ctx e = ready c) ∧
    (c.state = .ready → ∃ t, exec (.watchdogExpiry e) s = .next t ∧
      t.ctx e = { c with state := .trapping, cause := 0x0C, imm := 0, wait := .nothing, issued := true }) ∧
    (c.state = .trapping → c.ops = [] → e.kind = .hand → c.inTrap = false →
      (s.hands.recipes.get c.recipe).entryWord 15 ≠ 0xFFFFFFFF → ∃ t g, exec (.trapEntry e) s = .next t ∧
      t.ctx e = { c with state := .ready, inTrap := true, pend := [], g := g, pc := (s.hands.recipes.get c.recipe).entryWord 15 % 2 ^ 17 } ∧
      g.get 30 = BitVec.ofNat 64 (c.cause + c.entry % 16 * 2 ^ 8 + c.imm % 2 ^ 16 * 2 ^ 16 + c.pc % 2 ^ 17 * 2 ^ 32) ∧
      (∀ r, r ≠ 30 → g.get r = c.g.get r)) ∧
    (c.state = .halted → c.ops = [] → s.hands.drain = none → ∃ t, exec (.contextFreed e) s = .next t ∧ (t.ctx e).state = .free)

namespace Sys2Proof.Claims

/-- The value of a load: the bytes, lowest first, extended to 64 bits by the sign or by zeros (R9, R99). -/
def loaded (l : List Byte) (sx : Bool) : Word :=
  let v := BitVec.ofNat (8 * l.length) (leNat l)
  if sx then v.signExtend 64 else v.zeroExtend 64

end Sys2Proof.Claims

/-- In a context that may issue, where ra + off13 is aligned and lies in the context's own 2 KiB of the pocket (for LDP also in
the shared range 0x20000 to 0x3BFFF): LDP of a size and extension that R99 does not reserve writes rt with the bytes there,
lowest first, extended as sx says; STP writes the low bytes of rt there and no other byte of memory changes. The context
goes on at pc + 4 and everything else stays. (R62, R99, R529) -/
def Obligations.PocketLoadsAndStores : Prop :=
  ∀ (s : State) (e : Eng) (rt ra : GReg) (sz : BitVec 2) (sx : Bool) (off : BitVec 13),
    let n := 2 ^ sz.toNat
    let a := (reg s e ra + off.signExtend 64).toNat
    let own := e.ctx % 64 * 0x800 ≤ a ∧ a + n ≤ e.ctx % 64 * 0x800 + 0x800
    (s.canIssue e [ra] → ¬ (sz = 3 ∧ sx = true) → a % n = 0 → own ∨ (0x20000 ≤ a ∧ a + n ≤ 0x3C000) →
      ∃ t, exec (.ldp e rt ra sz sx off) s = .next t ∧ s.onlyCtx t e ∧
        t.ctx e = wrote (s.ctx e) rt (loaded ((List.range n).map (fun i => s.rdB (pocketKey e.unitNo (a + i)))) sx) 4) ∧
    (s.canIssue e [ra, rt] → a % n = 0 → own →
      ∃ t, exec (.stp e rt ra sz off) s = .next t ∧ t.ctx e = { s.ctx e with pc := (s.ctx e).pc + 4, issued := true } ∧
        (∀ i, i < n → t.rdB (pocketKey e.unitNo (a + i)) = (reg s e rt).extractLsb' (8 * i) 8) ∧
        s.ctxAndBytes t e (fun k => ∃ i, i < n ∧ k = pocketKey e.unitNo (a + i)))

/-- In a context that may issue, where the address passes the checks of R63: LDG, where the Larder holds the line or does not
allocate and the line is not poisoned, writes rt with the global bytes there (a scratch area's among them), extended as sx
says, and no memory changes; where the line must be fetched the context waits for it. STG writes the low bytes of rt there,
the registers of the context staying. ATOM SWAP, ADD and CAS, under the conditions of LDG for an aligned word, write rd with
the old word and store rb, the sum, or rb only where the old word equals rd. The context goes on at pc + 4, and no other
byte of global or other memory changes. (R63, R65, R96, R99, R100, R425) -/
def Obligations.GlobalLoadsStoresAndAtomics : Prop :=
  ∀ (s : State) (e : Eng) (rt ra rb : GReg) (sz : BitVec 2) (sx : Bool) (off : BitVec 13),
    let c := s.ctx e
    let n := 2 ^ sz.toNat
    let a := (reg s e ra + off.signExtend 64).toNat
    let b := (reg s e ra).toNat
    let here (a n : Nat) : Prop := (s.lineWay (a / 128) ≠ none ∨ s.larderOn = false) ∧ s.poisoned a n = false
    let word (a n : Nat) : List Byte := (List.range n).map (fun i => s.rdG (a + i))
    let old := loaded (word b 8) false
    let stored (t : State) (a n : Nat) (v : Word) : Prop := (∀ i, i < n → t.rdG (a + i) = v.extractLsb' (8 * i) 8) ∧
      (∀ k, k < a ∨ a + n ≤ k → t.rdG k = s.rdG k ∧ t.rdB k = s.rdB k) ∧
      (∀ e' : Eng, e'.key ≠ e.key → { t.ctx e' with scratch := [] } = { s.ctx e' with scratch := [] })
    let goes (t : State) (c1 : Ctx) : Prop := { t.ctx e with scratch := [] } = { c1 with scratch := [] }
    let ready (c1 : Ctx) : Ctx := { c1 with state := .ready, wait := .nothing }
    (s.canIssue e [ra] → ¬ (sz = 3 ∧ sx = true) → s.globalTrap e a n false = none → here a n →
      ∃ t, exec (.ldg e rt ra sz sx off) s = .next t ∧ t.ctx e = ready (wrote c rt (loaded (word a n) sx) 4) ∧
        (∀ k, t.rdB k = s.rdB k) ∧ ∀ e' : Eng, e'.key ≠ e.key → t.ctx e' = s.ctx e') ∧
    (s.canIssue e [ra] → ¬ (sz = 3 ∧ sx = true) → s.globalTrap e a n false = none → s.lineWay (a / 128) = none → s.larderOn = true →
      ∃ t, exec (.ldg e rt ra sz sx off) s = .next t ∧ (∀ k, t.rdB k = s.rdB k) ∧ t.larder.fills.get (a / 128) ≠ 0 ∧
        t.ctx e = { c with state := .waiting, wait := .fill (a / 128) 0 rt.toNat a n sx 0, issued := true }) ∧
    (s.canIssue e [ra, rt] → s.globalTrap e a n true = none →
      ∃ t, exec (.stg e rt ra sz off) s = .next t ∧ goes t { c with pc := c.pc + 4, issued := true } ∧ stored t a n (reg s e rt)) ∧
    (s.canIssue e [ra, rb] → s.globalTrap e b 8 true = none → here b 8 → ∃ t, exec (.atomSwap e rt ra rb) s = .next t ∧
      goes t (ready (wrote c rt old 4)) ∧ stored t b 8 (reg s e rb)) ∧
    (s.canIssue e [ra, rb] → s.globalTrap e b 8 true = none → here b 8 → ∃ t, exec (.atomAdd e rt ra rb) s = .next t ∧
      goes t (ready (wrote c rt old 4)) ∧ stored t b 8 (old + reg s e rb)) ∧
    (s.canIssue e [ra, rb, rt] → s.globalTrap e b 8 true = none → here b 8 → ∃ t, exec (.atomCas e rt ra rb) s = .next t ∧
      goes t (ready (wrote c rt old 4)) ∧ stored t b 8 (if old = reg s e rt then reg s e rb else old))

/-- In a context that may issue, through a valid descriptor of a POCKET, STAGE or TILL view with the needed permission, where
the access is aligned, lies inside LENGTH and passes the checks of R529: LDD writes rt with the bytes of the view at ra +
off9, extended as sx says, and STD writes the low bytes of rt there and no other byte of memory; the context goes on at pc +
4. (R54, R99, R529) -/
def Obligations.DescriptorLoadsAndStores : Prop :=
  ∀ (s : State) (e : Eng) (rt ra : GReg) (dn : DReg) (sz : BitVec 2) (sx : Bool) (off : BitVec 9),
    let n := 2 ^ sz.toNat
    let o := (reg s e ra + off.zeroExtend 64).toNat
    let D := desc s e dn
    let key (i : Nat) : Nat := spaceKey e.unitNo (descSpace D) (descAddr D + o + i)
    (s.canIssue e [ra] → ¬ (sz = 3 ∧ sx = true) → s.descTrap e (s.ctx e) D o n false = none → descSpace D ≠ 1 →
      ∃ t, exec (.ldd e rt ra dn sz sx off) s = .next t ∧ s.onlyCtx t e ∧
        t.ctx e = wrote (s.ctx e) rt (loaded ((List.range n).map (fun i => s.rdB (key i))) sx) 4) ∧
    (s.canIssue e [ra, rt] → s.descTrap e (s.ctx e) D o n true = none → descSpace D ≠ 1 →
      ∃ t, exec (.std e rt ra dn sz off) s = .next t ∧ t.ctx e = { s.ctx e with pc := (s.ctx e).pc + 4, issued := true } ∧
        (∀ i, i < n → t.rdB (key i) = (reg s e rt).extractLsb' (8 * i) 8) ∧
        s.ctxAndBytes t e (fun k => ∃ i, i < n ∧ k = key i))

namespace Sys2Proof.Claims

/-- The issue of an accelerator operation: context, destination, parameter register, operation, recorded mode flags, source
and destination descriptors as recorded, the engine check, the descriptors used (each with read and write), and the
operation's own conditions (R106). -/
structure Issue where
  e : Eng
  rd : GReg
  ra : GReg
  op : AccelKind
  imm : Nat
  da : BitVec 128
  db : BitVec 128
  engine : Bool
  uses : List Use
  form : Bool

/-- A descriptor that is read. -/
def src (d : BitVec 128) : Use := ⟨d, true, false⟩

/-- A descriptor that is written. -/
def dst (d : BitVec 128) : Use := ⟨d, false, true⟩

/-- The accelerator operations of a Hand's recipes and of the other engines (R109 to R118, R222, R299, R371, R468): what each
checks and records at issue. -/
def accelForm (s : State) : Instr → Option Issue
  | .pressC e rd da db ra imm => some ⟨e, rd, ra, .pressC, imm.toNat, desc s e da, desc s e db, e.kind == .hand,
      [src (desc s e da), dst (desc s e db)], len s e da == 65536 && len s e db % 4096 == 0 && decide (4096 ≤ len s e db) &&
        s.streamOpen ((reg s e ra).toNat % 2 ^ 16)⟩
  | .pressD e rd da db ra imm => some ⟨e, rd, ra, .pressD, imm.toNat, desc s e da, desc s e db, e.kind == .hand,
      [src (desc s e da), dst (desc s e db)], len s e da % 4096 == 0 && decide (4096 ≤ len s e da) && decide (len s e da ≤ 65536) &&
        len s e db == 65536⟩
  | .seal e rd da db ra imm => some ⟨e, rd, ra, .seal, imm.toNat, desc s e da, desc s e db, sealPriv e imm.toNat,
      [src (desc s e da), dst (desc s e db)], s.sealForm e (desc s e da) (desc s e db) (reg s e ra) imm.toNat false &&
        s.sealKey e (s.ctx e) imm.toNat⟩
  | .unseal e rd da db ra imm => some ⟨e, rd, ra, .unseal, imm.toNat, desc s e da, desc s e db, sealPriv e imm.toNat,
      [src (desc s e da), dst (desc s e db)], s.sealForm e (desc s e da) (desc s e db) (reg s e ra) imm.toNat true &&
        s.sealKey e (s.ctx e) imm.toNat⟩
  | .assayOne e rd da db ra imm => some (assay e rd da db ra (imm.toNat / 16 * 16 + imm.toNat % 4) true)
  | .assayStart e rd da db ra imm => some (assay e rd da db ra (imm.toNat / 16 * 16 + 4 + imm.toNat % 4) false)
  | .assayMore e rd da db ra imm => some (assay e rd da db ra (imm.toNat / 16 * 16 + 8 + imm.toNat % 4) false)
  | .assayFinish e rd da db ra imm => some (assay e rd da db ra (imm.toNat / 16 * 16 + 12 + imm.toNat % 4) true)
  | .tallyCheckPi e rd da db ra imm => some (tally e rd da db ra imm 0 (src (desc s e db)))
  | .tallyGenPi e rd da db ra imm => some (tally e rd da db ra imm 1 (dst (desc s e db)))
  | .tallyCrc64 e rd da db ra imm => some (tally e rd da db ra imm 2 (dst (desc s e db)))
  | .tallyCrc32c e rd da db ra imm => some (tally e rd da db ra imm 3 (dst (desc s e db)))
  | .tallyCrc16 e rd da db ra imm => some (tally e rd da db ra imm 4 (dst (desc s e db)))
  | .sieveLookup e rd da db ra imm => some ⟨e, rd, ra, .sieve, imm.toNat / 4 * 4, desc s e da, desc s e db,
      e.kind == .hand || e.kind == .council, [src (desc s e da), dst (desc s e db)], decide (32 ≤ len s e da) &&
        decide (16 ≤ len s e db) && vault e ra⟩
  | .sieveInsert e rd da db ra imm => some ⟨e, rd, ra, .sieve, imm.toNat / 4 * 4 + 1, desc s e da, desc s e db,
      e.kind == .hand || e.kind == .council, [src (desc s e da), src (desc s e db)], decide (32 ≤ len s e da) &&
        decide (16 ≤ len s e db) && vault e ra⟩
  | .sieveUnref e rd da _ ra imm => some ⟨e, rd, ra, .sieve, imm.toNat / 4 * 4 + 2, desc s e da, 0,
      e.kind == .hand || e.kind == .council, [src (desc s e da)], decide (32 ≤ len s e da) && vault e ra⟩
  | .mapL e rd _ db ra imm => some ⟨e, rd, ra, .mapL, imm.toNat, 0, desc s e db, e.kind == .hand || e.kind == .council,
      [dst (desc s e db)], inVolume e ra && decide (16 ≤ len s e db)⟩
  | .mapU e rd da db ra imm => some ⟨e, rd, ra, .mapU, imm.toNat, desc s e da, if imm.getLsbD 2 then desc s e db else 0,
      e.kind == .hand || e.kind == .council, src (desc s e da) :: (if imm.getLsbD 2 then [src (desc s e db)] else []),
      inVolume e ra && (imm.getLsbD 0 || (reg s e ra).toNat % 16 == 0) && decide (16 ≤ len s e da) &&
        (!imm.getLsbD 2 || decide (16 ≤ len s e db))⟩
  | .tillP e rd da db ra imm => some ⟨e, rd, ra, .tillP, imm.toNat, desc s e da, desc s e db, e.kind == .hand,
      [src (desc s e da), dst (desc s e db)], (reg s e ra).toNat / 2 ^ 52 == (s.ctx e).vol &&
        decide (16 ≤ len s e db) && (if imm.getLsbD 0 then len s e da == 4096 else
          len s e da % 4096 == 0 && decide (4096 ≤ len s e da) && decide (len s e da ≤ 65536))⟩
  | .sledReadEntry e rd da db ra imm =>
      let x := entryOf (s.viewBytes e.unitNo (desc s e da))
      some ⟨e, rd, ra, .sledOp, imm.toNat / 8 * 8, desc s e da, desc s e db, e.kind == .hand,
        [src (desc s e da), dst (desc s e db)], len s e da == 16 && (eKind x == 1 || eKind x == 3) &&
          decide ((entryRange x).2 * 4096 ≤ len s e db)⟩
  | .sledRead e rd da db ra imm => some (raw e rd da db ra imm 1 [dst (desc s e db)])
  | .sledProgram e rd da db ra imm => some (raw e rd da db ra imm 2 [src (desc s e db)])
  | .sledErase e rd da db ra imm => some (raw e rd da db ra imm 3 [])
  | .sledFold e rd da db ra imm => some (raw e rd da db ra imm 4 [])
  | .sledTagscan e rd da db ra imm => some (raw e rd da db ra imm 5 [dst (desc s e db)])
  | .sledLevels e rd da db ra imm => some (raw e rd da db ra imm 6 [dst (desc s e db)])
  | .sledOwn e rd da db ra imm => some (raw e rd da db ra imm 7 [])
  | .carry e rd da db ra imm =>
      let read := fieldAt (s.viewBytes e.unitNo (desc s e da)) 0 1 == 0x06
      some ⟨e, rd, ra, .carry, imm.toNat, desc s e da, if imm.getLsbD 0 then desc s e db else 0,
        (e.kind == .hand && !imm.getLsbD 2) || (e.kind == .council && imm.getLsbD 2),
        src (if descSpace (desc s e da) = 0 then desc s e da else 0) :: (if imm.getLsbD 0 then [⟨desc s e db, !read, read⟩] else []), s.carryForm e (s.ctx e) da db imm.toNat⟩
  | .emit e rd da _ ra imm => some ⟨e, rd, ra, .emit, imm.toNat, if imm.getLsbD 2 then desc s e da else 0, 0, true,
      if imm.getLsbD 2 then [src (desc s e da)] else [], emitCode (imm.toNat % 4) ((reg s e ra).toNat / 2 ^ 48) && (!imm.getLsbD 2 || (decide (1 ≤ len s e da) && decide (len s e da ≤ 48)))⟩
  | .reeveE e rd _ db ra imm => some ⟨e, rd, ra, .reeveE, imm.toNat, 0, desc s e db, true, [dst (desc s e db)], len s e db == 8⟩
  | _ => none
where
  vault (e : Eng) (ra : GReg) : Bool := if e.kind = .hand then reg s e ra == 0 else decide ((reg s e ra).toNat % 4096 < 256)
  len (s : State) (e : Eng) (n : DReg) : Nat := descLen (desc s e n)
  inVolume (e : Eng) (ra : GReg) : Bool :=
    (e.kind != .hand || (reg s e ra).toNat / 2 ^ 52 == (s.ctx e).vol) &&
      decide ((reg s e ra).toNat % 2 ^ 52 < (s.volOf ((reg s e ra).toNat / 2 ^ 52 % 4096)).size)
  assay (e : Eng) (rd : GReg) (da db : DReg) (ra : GReg) (imm : Nat) (ends : Bool) : Issue :=
    ⟨e, rd, ra, .assay, imm, desc s e da, if ends then desc s e db else 0, assayPriv e imm,
      src (desc s e da) :: (if ends then [dst (desc s e db)] else []), s.assayForm e (s.ctx e) da db ra imm⟩
  tally (e : Eng) (rd : GReg) (da db : DReg) (ra : GReg) (imm : BitVec 8) (fn : Nat) (use : Use) : Issue :=
    let g := s.tagOf (s.ctx e).tag
    let fmt := (s.volOf g.vol).format
    ⟨e, rd, ra, .tally, imm.toNat / 8 * 8 + fn, desc s e da, desc s e db, true, [src (desc s e da), use],
      if fn < 2 then e.kind == .hand && len s e da % 4096 == 0 && g.piType != 0 && fmt != 0 &&
        decide (len s e da / 4096 * metaBytes fmt ≤ len s e db) else decide (8 ≤ len s e db)⟩
  raw (e : Eng) (rd : GReg) (da db : DReg) (ra : GReg) (imm : BitVec 8) (cls : Nat) (use : List Use) : Issue :=
    let r := parseRaw (s.viewBytes e.unitNo (desc s e da))
    let page (i : Nat) : List Byte :=
      s.rdSpN e.unitNo (descSpace (desc s e db)) (descAddr (desc s e db) + 16448 * i + 16432) 16
    ⟨e, rd, ra, .sledOp, imm.toNat / 8 * 8 + cls, desc s e da, if use = [] then 0 else desc s e db, e.kind == .sequencer,
      src (desc s e da) :: use, len s e da == 32 && r.ok cls && (use.isEmpty || len s e db == r.dbLen cls) &&
        (cls != 2 || (List.range r.count).all (fun i => (page i).all (fun b => b == 0)))⟩

/-- The privileged operations (R119): each is one engine kind's, with its minor in the mode flags. -/
def privForm (s : State) : Instr → Option Issue
  | .sqStart e rd ra => some (op e rd ra 0x01 .sequencer 0 [] (port e ra))
  | .sqStop e rd ra => some (op e rd ra 0x02 .sequencer 0 [] (port e ra))
  | .sqWidth e rd ra => some (op e rd ra 0x03 .sequencer 0 [] (port e ra && [1, 2, 4].contains ((reg s e ra).toNat / 2 ^ 16 % 16)))
  | .tollCap e rd da => some (op e rd 0 0x10 .council (desc s e da) [src (desc s e da)] (descLen (desc s e da) == 72))
  | .handRetire e rd ra => some (op e rd ra 0x11 .council 0 [] true)
  | .pressTarget e rd ra => some (op e rd ra 0x12 .council 0 [] true)
  | .spareCall e rd ra => some (op e rd ra 0x13 .council 0 [] true)
  | .reelPut e rd da => some (op e rd 0 0x14 .council (desc s e da) [src (desc s e da)]
      (decide (32 ≤ descLen (desc s e da)) && decide (descLen (desc s e da) ≤ 2 ^ 24 + 32)))
  | .keyLoad e rd da ra => some (op e rd ra 0x20 .strongroom (desc s e da) [src (desc s e da)] true)
  | .keyZero e rd ra => some (op e rd ra 0x21 .strongroom 0 [] true)
  | .millLock e rd ra => some (op e rd ra 0x22 .strongroom 0 [] true)
  | .millFree e rd ra => some (op e rd ra 0x23 .strongroom 0 [] true)
  | _ => none
where
  port (e : Eng) (ra : GReg) : Bool := decide ((reg s e ra).toNat % 2 ^ 16 < 24)
  op (e : Eng) (rd ra : GReg) (minor : Nat) (kind : EngKind) (da : BitVec 128) (uses : List Use) (form : Bool) : Issue :=
    ⟨e, rd, ra, .priv, minor, da, 0, e.kind == kind, uses, form⟩

/-- Either table. -/
def issueForm (s : State) (i : Instr) : Option Issue := (accelForm s i).or (privForm s i)

/-- A context that has issued an accelerator operation (R58): it goes on, the destination is pending, not written, and the
operation is the last of those outstanding, with its operands as they stand now. -/
def hasIssued (f : Issue) (c c1 : Ctx) (r : Word) : Prop :=
  ∃ p o, c1 = { c with pc := c.pc + 4, issued := true, pend := p, ops := c.ops ++ [o] } ∧
    (∀ x, x ∈ p ↔ x ∈ c.pend ∨ (x = f.rd.toNat ∧ f.rd ≠ 0)) ∧
    o.op = f.op ∧ o.rd = f.rd.toNat ∧ o.imm = f.imm ∧ o.da = f.da ∧ o.db = f.db ∧ o.ra = r ∧ o.aborted = false ∧ (f.op ≠ .sledOp → o.admitted = false)

/-- The frame of an issue: every other context, memory, the registers but those of counting and all other state stay, but the head's
count of operations. PRESS.C and PRESS.D also join the Press's queues; SEAL and UNSEAL join the Mill's, whose cores may take units and
masks at once; TILL.P is admitted where it fits. -/
def issueFrame (s t : State) (f : Issue) : Prop :=
  let t0 : State := { t with hands := { t.hands with opSeq := s.hands.opSeq } }
  t.hands.opSeq = s.hands.opSeq + 1 ∧
  if f.op = .tillP then t.till.nextPlace = s.till.nextPlace + 1
  else if f.op = .pressC ∨ f.op = .pressD then s.onlyCtx { t0 with press := s.press } f.e
  else if f.op = .seal ∨ f.op = .unseal then
    (∀ e' : Eng, e'.key ≠ f.e.key → t.ctx e' = s.ctx e') ∧ (∀ a, t.rdB a = s.rdB a) ∧
      (∀ k, issueKeys f.e k = false → k < 0x320000 ∨ 0x340000 ≤ k → t.getR k = s.getR k) ∧
      { t.hands with ctxs := [], opSeq := 0 } = { s.hands with ctxs := [], opSeq := 0 } ∧
      { t.rest with hands := s.hands, mill := s.mill, freeCtr := s.freeCtr } = s.rest
  else s.onlyCtx t0 f.e

end Sys2Proof.Claims

/-- For PRESS.C to REEVE.E: in a context that may issue and has fewer than eight operations outstanding, where the engine, every
descriptor used and the operation's own lengths, modes and flags pass, exec answers the state in which the context has gone
on by 4, rd is pending and unwritten (no register where rd is g0), and the operation stands last among those outstanding
with the values of its operands. Every other context, memory, the registers but those of counting and all other state stay,
but that the count of operations rises by one, PRESS.C and PRESS.D join the Press's queues, SEAL and UNSEAL join the Mill's,
whose idle cores may take units, mask seeds and the Mill's registers with them, and TILL.P takes the next place number for
its placement, of whose other effects this says nothing. EMIT and REEVE.E have their conditions from R118 and R468. (R58,
R66, R106, R109, R110, R111, R112, R113, R114, R115, R116, R117) -/
def Obligations.AcceleratorOperationsIssue : Prop :=
  ∀ (i : Instr) (s : State) (f : Issue), accelForm s i = some f → s.canIssue f.e [f.ra] → (s.ctx f.e).ops.length < 8 →
    s.accelTrap f.e f.engine f.uses f.form = none →
      ∃ t, exec i s = .next t ∧
        hasIssued f (s.ctx f.e) (t.ctx f.e) (reg s f.e f.ra) ∧
        issueFrame s t f

/-- For the twelve operations of R119: in a context of the engine kind that owns it, which may issue and has fewer than eight
operations outstanding, where its checks pass, exec answers the state in which the context has gone on by 4, rd is pending
and unwritten, and the operation stands last among those outstanding with its minor and the value of ra. Every other
context, memory, the registers but those of counting and REEVE_NOW and all other state stay, but for the count of operations
and the Mill: KEY.ZERO of a loaded or zeroing slot from 1 to 62 or from 0x100 leaves that slot ZEROING, and no other slot
changes. (R119, R106, R198, R205) -/
def Obligations.PrivilegedOperationsIssue : Prop :=
  ∀ (i : Instr) (s : State) (f : Issue), privForm s i = some f → s.canIssue f.e [f.ra] → (s.ctx f.e).ops.length < 8 →
    s.accelTrap f.e f.engine f.uses f.form = none →
      ∃ t, exec i s = .next t ∧ hasIssued f (s.ctx f.e) (t.ctx f.e) (reg s f.e f.ra) ∧ t.hands.opSeq = s.hands.opSeq + 1 ∧
        s.onlyCtx { t with mill := s.mill, hands := { t.hands with opSeq := s.hands.opSeq } } f.e ∧
        (f.imm ≠ 0x21 → t.mill = s.mill) ∧
        (let n := (reg s f.e f.ra).toNat % 512
         f.imm = 0x21 → (n ≠ 0 → n ≤ 62 ∨ 0x100 ≤ n → (s.mill.slots.get n).state ≠ 0 → (t.mill.slots.get n).state = 2) ∧
           ∀ k, k ≠ n → t.mill.slots.get k = s.mill.slots.get k)

/-- For every accelerator operation in a context that may issue: with fewer than eight outstanding, where the engine kind is
wrong it takes PRIVILEGE (0x02), else where a descriptor used is invalid DESC_INVALID (0x07), else where a permission is
missing DESC_PERM (0x06), else the trap of the memory rules, else where its own conditions fail ACCEL_REFUSED (0x0A): the
context is TRAPPING at the same pc, no register is pending, nothing is outstanding and no memory changes. With eight
outstanding the context waits for a slot, unchanged. (R58, R59, R69, R106) -/
def Obligations.AcceleratorOperationsRefusedAtIssue : Prop :=
  ∀ (i : Instr) (s : State) (f : Issue), issueForm s i = some f → s.canIssue f.e [f.ra] →
    let c := s.ctx f.e
    let traps (cause : Nat) : Prop := ∃ t, exec i s = .next t ∧
      t.ctx f.e = { c with state := .trapping, cause := cause, imm := 0, wait := .nothing, issued := true } ∧ (∀ a, t.rdB a = s.rdB a)
    let invalid := ∃ u ∈ f.uses, descValid u.d = false ∨ 3 < descSpace u.d
    let perm := ∃ u ∈ f.uses, (u.r = true ∧ descRead u.d = false) ∨ (u.w = true ∧ descWrite u.d = false)
    (c.ops.length < 8 →
      (f.engine = false → traps 0x02) ∧
      (f.engine = true → invalid → traps 0x07) ∧
      (f.engine = true → ¬ invalid → perm → traps 0x06) ∧
      (f.engine = true → ¬ invalid → ¬ perm → (∀ u ∈ f.uses, s.useTrap f.e u = none) → f.form = false → traps 0x0A) ∧
      (∀ cause, s.accelTrap f.e f.engine f.uses f.form = some cause → traps cause)) ∧
    (8 ≤ c.ops.length → ∃ t, exec i s = .next t ∧ t.ctx f.e = { c with state := .waiting, wait := .slot } ∧ s.onlyCtx t f.e)

namespace Sys2Proof.Claims

/-- A request has completed with a status: the field that shows it, and the access that made it (R38). -/
def completed (t : State) (f : Fld) (st : Status) : Prop := t.getF f = st ∧ t.reply = st

/-- A head that has just come to t0 (R49): BOOTSTRAP entered for a cause, BL-01 begun in a new ledger, Reeve numbers reserved
above the last block, and nothing in flight. -/
def freshStart (s t : State) (env : BootEnv) (cause : Nat) : Prop :=
  t.power = .on ∧ t.mode = .bootstrap ∧ t.getF F.IDENT_MODE_MODE = Mode.bootstrap.code ∧ t.getF F.IDENT_MODE_CAUSE = cause ∧
    t.strong.boot.env = env ∧ t.strong.boot.warm = false ∧ t.strong.boot.step = 1 ∧ (t.strong.ledger.entries.get 1).state = 1 ∧
    t.getF F.IDENT_START_STEP = 1 ∧ t.obs.reserved = s.obs.reserved + 2 ^ 36 ∧ t.hands.ctxs = [] ∧ t.docket.tags = [] ∧
    t.docket.queues = [] ∧ t.toll.takes = [] ∧ t.mem = [] ∧ t.pending = s.pending

/-- A head that restarts warm (R35, R456): BOOTSTRAP entered for a cause and BL-01 begun, memory kept, nothing in flight. -/
def warmStart (s t : State) (env : BootEnv) (cause : Nat) : Prop :=
  t.mode = .bootstrap ∧ t.getF F.IDENT_MODE_MODE = Mode.bootstrap.code ∧ t.getF F.IDENT_MODE_CAUSE = cause ∧
    t.strong.boot.env = env ∧ t.strong.boot.warm = true ∧ t.strong.boot.step = 1 ∧ (t.strong.ledger.entries.get 1).state = 1 ∧
    t.hands.ctxs = [] ∧ t.docket.tags = [] ∧ t.docket.queues = [] ∧ t.toll.takes = [] ∧ t.mem = s.mem ∧ t.power = s.power

end Sys2Proof.Claims

/-- VIN at 4.8 V or more starts a head that is off and not stopped hot. Internal power-good of a head that rises, a module reset
within range, the reset after a failed step and RETRY come to t0: BOOTSTRAP with its cause, a new ledger at BL-01, Reeve
numbers reserved, no context, tag, queue or take. A module reset below 4.8 V leaves the head off with its bank bled. A boot
step past 10 s is recorded failed, and the reset is timed from then. CLEAR_ALT is remembered for the next start. A relock
that fails resets the head. A HOLDUP flush that ends, with or without groups dropped, stops driving the boards and leaves
the head to rise again or down. (R49, R32, R266, R443, R444, R460, R461, R497, R498, R504, R514) -/
def Obligations.PowerStartAndReset : Prop :=
  ∀ (s : State) (env : BootEnv),
    (∀ vin, vin < 2 ^ F.WARDEN_VIN_VIN.w → 4800 ≤ vin → s.power = .off → s.warden.hotStop = false →
      ∃ t, exec (.powerUp vin) s = .next t ∧ t.power = .rising ∧ t.getF F.WARDEN_VIN_VIN = vin ∧ { t.rest with power := .off } = s.rest) ∧
    (s.power = .rising → ∃ t, exec (.powerGood env) s = .next t ∧ freshStart s t env (if s.strong.reset then 0x12 else 0)) ∧
    (s.power = .on → s.mode ≠ .holdup → 4800 ≤ s.getF F.WARDEN_VIN_VIN →
      (∃ t, exec (.moduleReset env) s = .next t ∧ freshStart s t env 0x12) ∧
      (∃ t, exec (.strongRetry env) s = .next t ∧ freshStart s t env 0x12 ∧ t.strong.prev = default) ∧
      (s.mode = .bootstrap → s.strong.boot.failAt ≠ 0 → ∃ t, exec (.bootFailReset env) s = .next t ∧ freshStart s t env 0x12)) ∧
    (s.power = .on → s.mode ≠ .holdup → s.getF F.WARDEN_VIN_VIN < 4800 →
      ∃ t, exec (.moduleReset env) s = .next t ∧ t.power = .off ∧ t.getF F.WARDEN_BANK_STATE = 7 ∧ t.hands.ctxs = [] ∧ t.docket.tags = []) ∧
    (s.power = .on → s.mode = .bootstrap → s.strong.boot.step ≠ 0 → s.strong.boot.failAt = 0 →
      ∃ t, exec .bootStepTimeout s = .next t ∧ (t.strong.ledger.entries.get s.strong.boot.step).state = 3 ∧
        t.getF F.IDENT_START_STATE = 2 ∧ t.strong.boot.failAt = s.time + 1 ∧ t.mode = .bootstrap ∧ t.mem = s.mem) ∧
    (∃ t, exec .strongClearAlt s = .next t ∧ t.strong.clearAlt = true ∧ completed t F.STRONG_BOOT_CTL_STATUS 0 ∧
      { t.rest with reply := s.reply, strong := s.strong } = s.rest) ∧
    (s.power = .on → s.mode ≠ .holdup → ∃ t, exec .pllRelockFail s = .next t ∧ t.power = .rising ∧ t.strong.reset = true ∧
      t.hands.ctxs = [] ∧ t.docket.tags = [] ∧ t.mem = []) ∧
    (s.power = .on → s.mode = .holdup →
      (∃ t, exec .holdupFlushComplete s = .next t ∧ (t.power = .rising ∨ t.power = .down) ∧ t.getF F.TILL_STATE_FLUSHING = 0 ∧
        t.pins.fenceOut = false ∧ t.pins.pgOut = false) ∧
      (∀ n, ∃ t, exec (.bankReserveReached n) s = .next t ∧ (t.power = .rising ∨ t.power = .down) ∧ t.getF F.TILL_STATE_FLUSHING = 0 ∧
        t.pins.fenceOut = false ∧ t.pins.pgOut = false))

/-- Where no request is under way: SERVICE from PAIRED with a partner in PAIRED, no drill and no move, and PAIRED from SERVICE
with a partner that serves, are under way, STATUS 0, the mode still what it was; PAIRED from SEALED with spares restored and
both heads serving completes at once; SOLO from SEALED with the partner absent and spares restored enters SOLO; JOINING from
SERVICE enters JOINING; BOOTSTRAP from SERVICE restarts warm with cause 0x14; REPLAY from SERVICE with feature 4, a council,
a good grant, a reel that is not frozen and a CHECKPOINT enters REPLAY; a target no request permits completes with 0x5020.
While one is under way another completes with 0x8020. An offer that R45 admits is accepted as far as it is supported, and
with persist stands. A change of HEAD_SLOT after t0 changes the strap alone. (R34, R35, R45, R46, R523) -/
def Obligations.ModeRequestsAndFeatures : Prop :=
  ∀ (s : State),
    let st := F.IDENT_MODE_REQ_STATUS
    let underWay (i : Instr) (m : Nat) : Prop := ∃ t, exec i s = .next t ∧ completed t st 0 ∧ t.getF F.IDENT_MODE_REQ_BUSY = 1 ∧
      t.pair.asked = m ∧ t.mode = s.mode ∧ t.mem = s.mem
    (s.getF F.IDENT_MODE_REQ_BUSY ≠ 1 →
      (s.mode = .paired → s.pair.drill = none → s.cf.partnerMode = 3 → s.partnerHere = true → s.pair.move = none →
        underWay .modeReqService 7) ∧
      (s.mode = .service → s.partnerHere = true → s.cf.partnerMode = 3 ∨ s.cf.partnerMode = 4 → underWay .modeReqPaired 3) ∧
      (s.mode = .sealedMode → s.unsealed = true → s.bothServe = true → ∃ t, exec .modeReqPaired s = .next t ∧ completed t st 0 ∧
        t.mode = .paired) ∧
      (s.mode = .sealedMode → s.partnerHere = false → s.unsealed = true → ∃ t, exec .modeReqSolo s = .next t ∧ completed t st 0 ∧
        t.mode = .solo) ∧
      (s.mode = .service → ∃ t, exec .modeReqJoining s = .next t ∧ completed t st 0 ∧ t.mode = .joining) ∧
      (s.mode = .service → ∀ env, ∃ t, exec (.modeReqBootstrap env) s = .next t ∧ warmStart s t env 0x14) ∧
      (s.mode = .service → s.feat 4 = true → s.getF F.COUNCIL_STATE_CONFIG ≠ 2 → s.grantOk 0x4C504552 576 = true →
        s.getF F.REEVE_REEL_CTL_FREEZE = 0 →
        ∀ c, s.replayCheckpoint (fieldAt s.obs.grant 48 8) = some c →
          ∃ t, exec .modeReqReplay s = .next t ∧ completed t st 0 ∧ t.mode = .replay ∧ t.obs.replayFirst = c ∧
            t.obs.replayLast = fieldAt s.obs.grant 56 8) ∧
      (∃ t, exec .modeReqInvalid s = .next t ∧ completed t st 0x5020 ∧ t.rest = { s with reply := 0x5020 }.rest)) ∧
    (s.getF F.IDENT_MODE_REQ_BUSY = 1 → ∀ i ∈ [Instr.modeReqService, .modeReqPaired, .modeReqSolo, .modeReqJoining, .modeReqReplay,
        .modeReqInvalid], ∃ t, exec i s = .next t ∧ completed t st 0x8020 ∧ t.rest = { s with reply := 0x8020 }.rest) ∧
    (let offer (k : Nat) : Nat := s.getN (R.IDENT_FEAT_OFFER + 8 * k)
     let bit (n : Nat) : Bool := (offer (n / 64)).testBit (n % 64)
     ∀ persist, bit 0 = true → ([128, 129, 130].filter bit).length = 1 → ([131, 132].filter bit).length = 1 →
      ∃ t, exec (.featNegotiate persist) s = .next t ∧ completed t F.IDENT_FEAT_CTL_STATUS 0 ∧
        ∀ k, k < 4 → t.getN (R.IDENT_FEAT_MGMT + 8 * k) = offer k &&& s.getN (R.IDENT_FEAT_SUPP + 8 * k) ∧
          t.getN (R.IDENT_FEAT_STAND + 8 * k) = if persist then offer k &&& s.getN (R.IDENT_FEAT_SUPP + 8 * k)
            else s.getN (R.IDENT_FEAT_STAND + 8 * k)) ∧
    (∀ level, exec (.headSlotChange level) s = .next { s with pins := { s.pins with headSlotLand := level } })

namespace Sys2Proof.Claims

/-- The word of a register of the IDENT block, as the map keeps it. -/
def identWord (s : State) (a : Nat) : Nat := (s.getR (s.regKey a)).toNat

end Sys2Proof.Claims

/-- With the target answering and no half held by the path: READ and READ32 of an aligned IDENT address answer its bytes, lowest
first, then status 0, READ32 of the low half latching the high half that a READ32 of reg + 4 then answers; READ_BURST with
feature 2 answers that many registers in turn, and without it 0x5005; WRITE sets IDENT_FEAT_OFFER; WRITE32 of its low half
is held until the high half completes it; accesses of 8 or 16 bits answer 0x5002 and set WIDTH and the address; an unknown
opcode answers 0x5005. A READ that SPI_CS_N cuts off drives as many bytes as were clocked, and a WRITE cut off before its
data changes nothing. (R11, R38, R39, R40, R42, R526) -/
def Obligations.SpiReadsAndWrites : Prop :=
  ∀ (s : State) (a : Nat) (o : Outside), s.pins.misoAnswers = true → s.latch .spi = default → a < 0x10000 → a % 8 = 0 →
    let ok : List Byte := [0, 0]
    let w := identWord s a
    let drives (i : Instr) (l : List Byte) : Prop := ∃ t, exec i s = .next t ∧ t.outbox = s.outbox ++ [.miso l] ∧
      (∀ k, t.getR k = s.getR k) ∧ t.mem = s.mem
    let narrow (i : Instr) (l : List Byte) (b : Nat) : Prop := ∃ t, exec i s = .next t ∧ t.outbox = s.outbox ++ [.miso (l ++ [0x50, 0x02])] ∧
      t.reply = 0x5002 ∧ t.getF F.IDENT_MAP_ERR_WIDTH = 1 ∧ t.getF F.IDENT_MAP_ERR_ADDR = b ∧ t.mem = s.mem
    drives (.spiRead a) (leBytes 8 w ++ ok) ∧
    (∃ t, exec (.spiRead32 a) s = .next t ∧ t.outbox = s.outbox ++ [.miso (leBytes 4 (w % 2 ^ 32) ++ ok)] ∧ (∀ k, t.getR k = s.getR k) ∧
      ∃ u, exec (.spiRead32 (a + 4)) t = .next u ∧ u.outbox = t.outbox ++ [.miso (leBytes 4 (w / 2 ^ 32) ++ ok)] ∧ ∀ k, u.getR k = s.getR k) ∧
    (∀ n, 0 < n → a + 8 * n ≤ 0x10000 → s.feat 2 = true →
      drives (.spiReadBurst a n) ((List.range n).flatMap (fun i => leBytes 8 (identWord s (a + 8 * i)) ++ ok))) ∧
    (∀ n, s.feat 2 = false → drives (.spiReadBurst a n) ((([0x50, 0x05] : List Byte) ++ List.replicate (5 + 10 * n) 0).take (5 + 10 * n))) ∧
    (∀ (k : Nat) (v : Word), k < 4 → ∃ t, exec (.spiWrite (R.IDENT_FEAT_OFFER + 8 * k) v o) s = .next t ∧
      t.outbox = s.outbox ++ [.miso ok] ∧ t.getR (R.IDENT_FEAT_OFFER + 8 * k) = v ∧
      (∀ r, r ≠ R.IDENT_FEAT_OFFER + 8 * k → t.getR r = s.getR r) ∧ t.mem = s.mem) ∧
    (∀ k lo hi, k < 4 → lo < 2 ^ 32 → hi < 2 ^ 32 → ∃ t, exec (.spiWrite32 (R.IDENT_FEAT_OFFER + 8 * k) lo o) s = .next t ∧
      t.outbox = s.outbox ++ [.miso ok] ∧ (∀ r, t.getR r = s.getR r) ∧
      ∃ u, exec (.spiWrite32 (R.IDENT_FEAT_OFFER + 8 * k + 4) hi o) t = .next u ∧ u.outbox = t.outbox ++ [.miso ok] ∧
        u.getN (R.IDENT_FEAT_OFFER + 8 * k) = hi * 2 ^ 32 + lo) ∧
    (∀ b v, b < 2 ^ 32 → narrow (.spiRead16 b) [0, 0] b ∧ narrow (.spiRead8 b) [0] b ∧ narrow (.spiWrite16 b v) [] b ∧
      narrow (.spiWrite8 b v) [] b) ∧
    (∀ n, 0 < n → drives (.spiUnknownOpcode n) ((([0x50, 0x05] : List Byte) ++ List.replicate n 0).take n)) ∧
    (∀ (l : List Byte), 0 < l.length → drives (.spiCsEarlyRise (0x03 :: beBytes 4 a ++ 0 :: l) o) ((leBytes 8 w ++ ok).take l.length)) ∧
    (∀ (l : List Byte), l.length < 8 → exec (.spiCsEarlyRise (0x02 :: beBytes 4 a ++ l) o) s = .next s)

/-- With the target answering and no half held by the path: a 64-bit write of IDENT_FEAT_OFFER by SPI or MGMT sets it, status 0,
and no other register. A read of word 0 of a hallmark latches its eight words, its count and its Reeve number for that path
alone. A read of STRONG_AUTH_NONCE draws four free values as the nonce, times it from now and returns to 0, the other three
words standing in STRONG_AUTH_NONCE1 to 3; at 600 s it is invalid. A read of the state of a LAPSED take frees its number,
and of any other changes no take. (R11, R38, R156, R215, R451) -/
def Obligations.RegisterWritesLatchesAndNonces : Prop :=
  ∀ (s : State) (p : Path),
    (p.engine = false → s.pins.misoAnswers = true → s.latch p = default → ∀ (k : Nat) (v : Word) (o : Outside), k < 4 →
      ∃ t, exec (.registerWrite p (R.IDENT_FEAT_OFFER + 8 * k) v o) s = .next t ∧ t.reply = 0 ∧
        t.getR (R.IDENT_FEAT_OFFER + 8 * k) = v ∧ (∀ r, r ≠ R.IDENT_FEAT_OFFER + 8 * k → t.getR r = s.getR r) ∧
        t.outbox = s.outbox ∧ t.mem = s.mem) ∧
    (∀ i, i < 8 → ∃ t, exec (.hallmarkWord0Read p i) s = .next t ∧
      (∀ k, k < 8 → t.hallmarkView p.num i k = s.getR (R.ASSAY_HM + 0x40 * i + 8 * k)) ∧
      t.hallmarkView p.num i 8 = s.getR (R.ASSAY_HM_COUNT + 8 * i) ∧ t.hallmarkView p.num i 9 = s.getR (R.ASSAY_HM_SEQ + 8 * i) ∧
      (∀ q j k, j < 8 → (q, j) ≠ (p.num, i) → t.hallmarkView q j k = s.hallmarkView q j k) ∧
      { t.rest with assay := s.assay } = s.rest ∧ t.regs = s.regs) ∧
    (∃ t, exec .authNonceRead s = .next t ∧ t.strong.nonce = (List.range 4).flatMap (fun k => leBytes 8 (Config.freeValue (s.freeCtr + k)).toNat) ∧
      t.strong.nonceAt = s.time + 1 ∧ t.freeCtr = s.freeCtr + 4 ∧ t.reply = 0 ∧
      t.getR R.STRONG_AUTH_NONCE = 0 ∧ (∀ k, 1 ≤ k → k < 4 → t.getR (R.STRONG_AUTH_NONCE + 8 * k) = Config.freeValue (s.freeCtr + k))) ∧
    (∃ t, exec .nonceExpiry s = .next t ∧ t.nonceValid = false ∧ { t with strong := s.strong } = s) ∧
    (s.pins.misoAnswers = true → s.readable R.TOLL_TAKE_INFO = true → s.latch p = default → ∃ t, exec (.takeInfoRead p) s = .next t ∧
      let n := s.getF F.TOLL_TAKE_SEL_VAL
      (s.takeOf n).state = 5 → t.takeOf n = default ∧ (∀ k, k ≠ n → t.takeOf k = s.takeOf k)) ∧
    (s.pins.misoAnswers = true → s.readable R.TOLL_TAKE_INFO = true → s.latch p = default →
      (s.takeOf (s.getF F.TOLL_TAKE_SEL_VAL)).state ≠ 5 → ∃ t, exec (.takeInfoRead p) s = .next t ∧ t.toll = s.toll ∧ t.reply = 0)

/-- A WAITING tag that may be dispatched, before which none may, whose recipe is RESIDENT and has its entry, goes to the Hand
R88 picks: its tag is DISPATCHED there and the context READY at the entry with the registers of R76. END waits for
outstanding operations; with a good status and a group it waits for the commit; it frees the context of another engine that
has no group. A completion of an aborted tag's operation writes 0x6050 with no other effect on the context than to end the
operation, and REEVE.E's writes the Reeve number into its view and its word, and EMIT's writes 0. A commit waits while a
snapshot barrier stands; otherwise the group is committed, and where the partner has not acknowledged its records the
context waits for that. (R58, R75, R76, R88, R103, R118, R120, R132, R239, R280) -/
def Obligations.DispatchEndAndCompletion : Prop :=
  ∀ (s : State),
    (∀ tag h, let g := s.tagOf tag
      let r := s.hands.recipes.get (g.slot - 1)
      s.mayDispatch tag = true → (∀ p ∈ s.docket.tags, p.1 = tag ∨ g.reeve ≤ p.2.reeve ∨ s.mayDispatch p.1 = false) →
      g.slot ≠ 0 → r.state = 2 → r.entryWord g.entry ≠ 0xFFFFFFFF → s.pickHand (if g.redisp then g.ctx / 64 else 16) = some h →
      let key := h * 64 + lowestFree 0 ((s.handBusy h).map (fun k => k % 64))
      ∃ t, exec (.dispatch tag) s = .next t ∧ t.tagOf tag = { g with state := .dispatched, ctx := key } ∧
        (let c := t.hands.ctxs.get key
         c.state = .ready ∧ c.pc = r.entryWord g.entry % 2 ^ 17 ∧ c.tag = tag ∧ c.vol = g.vol ∧ c.codeLen = r.codeLen ∧ c.p = 0 ∧
           c.pend = [] ∧ c.ops = [] ∧ c.bells = [] ∧ c.g.get 2 = BitVec.ofNat 64 g.vol ∧ c.g.get 3 = BitVec.ofNat 64 (s.subRange g).1 ∧
           c.g.get 4 = BitVec.ofNat 64 (s.subRange g).2.1 ∧ c.g.get 6 = BitVec.ofNat 64 (key % 64 * 0x800)) ∧
        (∀ k, k ≠ key → t.hands.ctxs.get k = s.hands.ctxs.get k) ∧ t.mem = s.mem) ∧
    (∀ (e : Eng) (ra : GReg), s.canIssue e [ra] →
      let c := s.ctx e
      let v := reg s e ra
      (c.ops ≠ [] → ∃ t, exec (.endCtx e ra) s = .next t ∧ s.onlyCtx t e ∧
        t.ctx e = { c with issued := true, state := .waiting, wait := .ending ra.toNat }) ∧
      (c.ops = [] → e.kind = .hand → (s.tagOf c.tag).aborted = false → v.toNat % 65536 < 0x2000 → c.group ≠ [] ∨ c.refs ≠ [] →
        ∃ t, exec (.endCtx e ra) s = .next t ∧ (t.tagOf c.tag).committing = true ∧ t.ctx e = 
          { c with issued := true, state := .waiting, wait := .commit (v.toNat % 65536) (v.toNat / 65536 % 2 ^ 32) } ∧ t.mem = s.mem) ∧
      (c.ops = [] → e.kind ≠ .hand → c.group = [] → c.refs = [] → ∃ t, exec (.endCtx e ra) s = .next t ∧ t.ctx e = default ∧
        t.mem = s.mem)) ∧
    (∀ (e : Eng) (slot : Nat) (env : Env) (o : AccelOp), (s.ctx e).ops[slot]? = some o → (s.ctx e).state = .ready →
      env.status ≠ 0xF050 → descValid o.dc = false →
      let c := s.ctx e
      let after (w : Word) : Ctx := { c with
        ops := c.ops.eraseIdx slot
        pend := c.pend.filter (fun r => r ≠ o.rd)
        g := if o.rd = 0 then c.g else c.g.set o.rd w }
      (e.kind = .hand → (s.tagOf c.tag).aborted = true → o.op ∉ [.pressC, .pressD, .seal, .unseal, .tillP, .mapU, .carry] →
        ∃ t, exec (.accelCompletion e slot env) s = .next t ∧ t.ctx e = after 0x6050 ∧ s.onlyCtx t e) ∧
      (e.kind ≠ .hand ∨ (s.tagOf c.tag).aborted = false → o.op = .reeveE → descValid o.da = false → descSpace o.db = 0 →
        ∃ t, exec (.accelCompletion e slot env) s = .next t ∧ t.ctx e = after (BitVec.ofNat 64 (s.now % 2 ^ 48 * 2 ^ 16)) ∧
          ∀ i, i < 8 → t.rdB (pocketKey e.unitNo (descAddr o.db + i)) = (BitVec.ofNat 64 s.now).extractLsb' (8 * i) 8) ∧
      (e.kind ≠ .hand ∨ (s.tagOf c.tag).aborted = false → o.op = .emit → s.viewPoisoned o.da = false → descSpace o.da ≠ 1 →
        descValid o.db = false →
        ∃ t, exec (.accelCompletion e slot env) s = .next t ∧ t.ctx e = after 0 ∧ t.mem = s.mem)) ∧
    (∀ (e : Eng) (st det : Nat), e.kind = .hand → (s.ctx e).wait = .commit st det →
      let c := s.ctx e
      let own (u : MapUpd) : Nat := (s.volOf (u.addr / 2 ^ 52 % 4096)).commons
      ((c.vol ∈ s.sieve.barrier) → exec (.groupCommit e) s = .next s) ∧
      (∀ cm, c.vol ∉ s.sieve.barrier → (∀ u ∈ c.group, u.addr / 2 ^ 52 % 4096 ∉ s.sieve.barrier ∧ own u = cm) →
        (∀ o ∈ c.refs, (o : SieveOp).key / 2 ^ 264 = cm) → c.group ≠ [] ∨ c.refs ≠ [] → s.owns cm = true →
        let s1 := (s.commitGroup cm c.tag c.vol c.group c.refs).mirrorTag c.tag
        (s1.mirrors = true → s1.cf.acked < s1.cf.txSeq →
          ∃ t, exec (.groupCommit e) s = .next t ∧ t.ctx e = { s1.ctx e with wait := .ack s1.cf.txSeq st det, refs := [] } ∧
            t.stew = s1.stew ∧ t.cf = s1.cf) ∧
        (s1.mirrors = false →
          ∃ t, exec (.groupCommit e) s = .next t ∧ t = (s1.putCtx e { s1.ctx e with refs := [] }).endFinish e st det)))

namespace Sys2Proof.Claims

/-- What a kill leaves (R71, R87): the context HALTED; a command that may run again, the first time, goes back to WAITING, or to HELD
where its queue is frozen, for another Hand; any other but a frame's and a copy's completes with a status. -/
def killed (s t : State) (e : Eng) (st : Status) : Prop :=
  let c := s.ctx e
  let g := s.tagOf c.tag
  let again := g.redisp = false ∧ (c.issued = false ∨ ((s.hands.recipes.get c.recipe).entryWord c.entry).testBit 31 = true)
  (t.ctx e).state = .halted ∧ (t.ctx e).bells = [] ∧
    (g.aborted = false → again → (t.tagOf c.tag).redisp = true ∧
      (t.tagOf c.tag).state = if (s.queueOf g.queue).state = 1 then .held else .waiting) ∧
    (g.aborted = false → ¬ again → (s.queueOf g.queue).kind ≠ 0 → g.entry ≠ 7 → g.entry ≠ 10 →
      (t.tagOf c.tag).ended = true ∧ (t.tagOf c.tag).status = st)

end Sys2Proof.Claims

/-- A store error of a Hand counts one more and kills the live context it meets with 0xF032, and so does a parity error of a
live context; the third store error in a day retires the Hand. A drain timeout kills a live context of the draining Hand
with 0xF033. A kill leaves the context HALTED and its command WAITING or HELD to run once more where it had not issued or
its entry allows it, else completed with that status. A corrected error counts one more; the thousandth in an hour has the
Hand drain. A lockup with a READY context retires the Hand and halts every context it holds. A retirement asked for drains a
Hand with contexts, retires one without, queues behind a drain, is deferred with 0x2030 where a guarantee needs the Hand and
refused with 0x8031 after three. RESTORE in SERVICE puts a tested Hand back IN_SERVICE, refuses a failed one with 0x4031,
and elsewhere answers 0x7035. (R70, R71, R85, R86, R87, R88, R89, R90, R166) -/
def Obligations.HandErrorsKillsAndRetirement : Prop :=
  ∀ (s : State),
    let retired (t : State) (h : Nat) : Prop := (t.getF F.HANDS_SUMMARY_RETIRED).testBit h = true
    let bump (t : State) (f : Fld) : Prop := t.getF f = satInc (s.getF f) (2 ^ f.w - 1)
    (∀ (e : Eng), e.kind = .hand →
      let c := s.ctx e
      let h := e.unit % 16
      let live := c.state ≠ .free ∧ c.state ≠ .halted
      let day := s.recent (s.hands.uncorr.get h) 86400
      (∃ t, exec (.handStoreError e false) s = .next t ∧ bump t (F.HANDS_ERRORS_UNCORR.win 0x10000 h) ∧ t.hands.uncorr.get h = day ∧
        (¬ live → day.length < 3 → t.hands.ctxs = s.hands.ctxs ∧ t.docket = s.docket ∧ t.mem = s.mem) ∧
        (live → (t.ctx e).state = .halted) ∧ (live → day.length < 3 → killed s t e 0xF032) ∧ (3 ≤ day.length → retired t h)) ∧
      (live → ∃ t, exec (.handStoreError e true) s = .next t ∧ bump t (F.HANDS_ERRORS_UNCORR.win 0x10000 h) ∧ killed s t e 0xF032 ∧
        t.hands.uncorr = s.hands.uncorr) ∧
      (∀ cause, live → s.hands.drain = some (h, cause) → ∃ t, exec (.drainTimeout e) s = .next t ∧ killed s t e 0xF033 ∧
        t.hands.drain = s.hands.drain)) ∧
    (∀ hand, let h := hand % 16
      let hour := s.recent (s.hands.corr.get h) 3600
      ∃ t, exec (.handCorrectedError hand) s = .next t ∧ bump t (F.HANDS_ERRORS_CORR.win 0x10000 h) ∧ t.hands.corr.get h = hour ∧
        (hour.length < 1000 → t.hands.ctxs = s.hands.ctxs ∧ t.hands.drain = s.hands.drain ∧ t.docket = s.docket ∧ t.mem = s.mem) ∧
        (1000 ≤ hour.length → ¬ retired s h → (s.getF F.HANDS_SUMMARY_DRAINING).testBit h = false → s.handsRetired < 3 →
          s.hands.drain = none → s.keepsGuarantee s.toll.cap = false → s.handBusy h ≠ [] → t.hands.drain = some (h, 4))) ∧
    (∀ hand, let h := hand % 16
      ¬ retired s h → (∃ k ∈ s.handBusy h, (s.hands.ctxs.get k).state = .ready) → ∃ t, exec (.handLockup hand) s = .next t ∧ retired t h ∧
        t.getF (F.HANDS_STATE_RETIRE_CAUSE.win 0x10000 h) = 5 ∧
        ∀ k ∈ s.handBusy h, (s.hands.ctxs.get k).state ≠ .free → (t.hands.ctxs.get k).state = .halted) ∧
    (∀ hand, let h := hand % 16
      let st := F.HANDS_RETIRE_STATUS
      let keeps := s.keepsGuarantee s.toll.cap = false ∨ s.keepsGuarantee (handCap (s.handCount - 1) s.toll.cap) = true
      ¬ retired s h → (s.getF F.HANDS_SUMMARY_DRAINING).testBit h = false →
        (3 ≤ s.handsRetired → ∃ t, exec (.handsRetireReq hand) s = .next t ∧ completed t st 0x8031 ∧ t.hands = s.hands) ∧
        (s.handsRetired < 3 → ∀ d, s.hands.drain = some d → (∀ x ∈ s.hands.retireQ, x.1 ≠ h) →
          ∃ t, exec (.handsRetireReq hand) s = .next t ∧ completed t st 0 ∧ t.hands.retireQ = s.hands.retireQ ++ [(h, 1)] ∧
            t.getF F.HANDS_RETIRE_BUSY = 1) ∧
        (s.handsRetired < 3 → s.hands.drain = none → keeps → s.handBusy h ≠ [] →
          ∃ t, exec (.handsRetireReq hand) s = .next t ∧ completed t st 0 ∧ t.hands.drain = some (h, 1) ∧ t.hands.ctxs = s.hands.ctxs ∧
            t.handServes h = false ∧ t.getF F.HANDS_RETIRE_BUSY = 1) ∧
        (s.handsRetired < 3 → s.hands.drain = none → keeps → s.handBusy h = [] →
          ∃ t, exec (.handsRetireReq hand) s = .next t ∧ completed t st 0 ∧ t.hands.drain = none ∧ retired t h ∧
            t.handServes h = false ∧ t.getF F.HANDS_RETIRE_BUSY = 0) ∧
        (s.handsRetired < 3 → s.hands.drain = none → ¬ keeps →
          ∃ t, exec (.handsRetireReq hand) s = .next t ∧ completed t st 0x2030 ∧ t.hands = s.hands)) ∧
    (∀ hand pass, let h := hand % 16
      let st := F.HANDS_RETIRE_STATUS
      (s.mode = .service → retired s h → pass = true → ∃ t, exec (.handsRestoreReq hand pass) s = .next t ∧ completed t st 0 ∧
        t.getF (F.HANDS_STATE_STATE.win 0x10000 h) = 0 ∧ t.handServes h = true) ∧
      (s.mode = .service → retired s h → pass = false → ∃ t, exec (.handsRestoreReq hand pass) s = .next t ∧ completed t st 0x4031 ∧
        t.hands = s.hands) ∧
      (s.mode ≠ .service ∨ ¬ retired s h → ∃ t, exec (.handsRestoreReq hand pass) s = .next t ∧ completed t st 0x7035 ∧
        t.hands = s.hands))

/-- BEGIN opens a load with nothing counted; each write of the data register appends the bytes the declared length still takes
and counts 8; ABORT drops a load that is open or waits for the partner. COMMIT with another count than declared completes
with 0x5030; of a good package outside PAIRED it makes the recipe resident in the lowest free slot, named in SLOT, STATUS 0,
and in PAIRED it asks the partner. BIND in PAIRED asks the partner too; outside it binds the selected volume to a resident
slot or, with 0xFF, unbinds it, and any other slot completes with 0x7034. UNLOAD of a resident recipe that no volume is
bound to retires it, and empties its slot where no context runs it. The oldest act without an answer is given up with
0x7032, and changes nothing. (R78, R79, R81, R83, R84, R90) -/
def Obligations.RecipesLoadBindAndUnload : Prop :=
  ∀ (s : State),
    let load := F.HANDS_LOAD_CTL_STATUS
    let noneAsked := ∀ x ∈ s.hands.acts, x.live = false ∨ x.kind ≠ 1
    (∃ t, exec .handsLoadBegin s = .next t ∧ t.hands.loadOpen = true ∧ t.hands.loadBuf = [] ∧ t.hands.recipes = s.hands.recipes ∧
      (noneAsked → t.hands = { s.hands with loadOpen := true, loadBuf := [] }) ∧ t.getN R.HANDS_LOAD_COUNT = 0 ∧
      t.getF F.HANDS_LOAD_CTL_BUSY = 1 ∧ t.reply = 0 ∧ t.mem = s.mem) ∧
    (∀ (v : Word), s.hands.loadOpen = true → s.getN R.HANDS_LOAD_COUNT + 8 < 2 ^ 64 → ∃ t, exec (.handsLoadData v) s = .next t ∧
      t.hands = { s.hands with loadBuf := s.hands.loadBuf ++
        (leBytes 8 v.toNat).take (s.getF F.HANDS_LOAD_LEN_VAL - s.getN R.HANDS_LOAD_COUNT) } ∧
      t.getN R.HANDS_LOAD_COUNT = s.getN R.HANDS_LOAD_COUNT + 8 ∧ t.mem = s.mem) ∧
    (s.getF F.HANDS_LOAD_CTL_BUSY = 1 → ∃ t, exec .handsLoadAbort s = .next t ∧ t.hands.loadOpen = false ∧ t.hands.loadBuf = [] ∧
      t.hands.recipes = s.hands.recipes ∧ (noneAsked → t.hands = { s.hands with loadOpen := false, loadBuf := [] }) ∧ t.getF F.HANDS_LOAD_CTL_BUSY = 0 ∧ t.reply = 0 ∧ t.mem = s.mem) ∧
    (s.hands.loadOpen = true → s.getN R.HANDS_LOAD_COUNT ≠ s.getF F.HANDS_LOAD_LEN_VAL → ∃ t, exec .handsLoadCommit s = .next t ∧
      completed t load 0x5030 ∧ t.hands.loadOpen = false ∧ t.hands.recipes = s.hands.recipes) ∧
    (s.hands.loadOpen = true → s.getN R.HANDS_LOAD_COUNT = s.getF F.HANDS_LOAD_LEN_VAL → s.loadStatus s.hands.loadBuf = 0 →
      let slot := lowestFree 0 s.hands.recipes.keys
      (s.mode ≠ .paired → ∃ t, exec .handsLoadCommit s = .next t ∧ completed t load 0 ∧ t.getF F.HANDS_LOAD_CTL_SLOT = slot % 256 ∧
        t.getF F.HANDS_LOAD_CTL_BUSY = 0 ∧ t.hands.loadOpen = false ∧ (t.hands.recipes.get slot).state = 2 ∧
        (t.hands.recipes.get slot).ident = fieldAt s.hands.loadBuf 8 4 ∧ (t.hands.recipes.get slot).version = fieldAt s.hands.loadBuf 12 4 ∧
        (∀ k, k ≠ slot → t.hands.recipes.get k = s.hands.recipes.get k)) ∧
      (s.mode = .paired → ∃ t, exec .handsLoadCommit s = .next t ∧ t.reply = 0 ∧
        t.hands = { s.hands with loadOpen := false, acts := s.hands.acts ++ [⟨true, 1, 0, 0, 0, s.hands.loadBuf⟩] })) ∧
    (∀ slot, let v := s.getF F.HANDS_BIND_SEL_VOLUME
      let st := F.HANDS_BIND_STATUS.at v
      (slot < 64 → (s.hands.recipes.get slot).state = 2 → s.mode ≠ .paired → ∃ t, exec (.handsBind slot) s = .next t ∧ completed t st 0 ∧
        t.volOf v = { s.volOf v with slot := slot + 1 } ∧ (∀ w, w ≠ v → t.volOf w = s.volOf w) ∧ t.hands = s.hands) ∧
      (s.mode ≠ .paired → ∃ t, exec (.handsBind 0xFF) s = .next t ∧ completed t st 0 ∧ t.volOf v = { s.volOf v with slot := 0 }) ∧
      (slot < 64 → (s.hands.recipes.get slot).state = 2 → s.mode = .paired → ∃ t, exec (.handsBind slot) s = .next t ∧ t.reply = 0 ∧
        t.docket = s.docket ∧ ∃ a, t.hands = { s.hands with acts := s.hands.acts ++ [a] } ∧ a.live = true ∧ a.kind = 2 ∧ a.a = v ∧ a.c = slot) ∧
      (slot ≠ 0xFF → 64 ≤ slot ∨ (s.hands.recipes.get slot).state ≠ 2 → ∃ t, exec (.handsBind slot) s = .next t ∧ completed t st 0x7034 ∧
        t.docket = s.docket ∧ t.hands = s.hands)) ∧
    (∀ slot, slot < 64 → (s.hands.recipes.get slot).state = 2 → (∀ p ∈ s.docket.vols, p.2.slot ≠ slot + 1) →
      ∃ t, exec (.handsUnload slot) s = .next t ∧ completed t F.HANDS_UNLOAD_STATUS 0 ∧
        (s.recipeRunning slot ≠ 0 → t.hands.recipes.get slot = { s.hands.recipes.get slot with state := 3 }) ∧
        (s.recipeRunning slot = 0 → t.hands.recipes.get slot = default) ∧ t.docket.vols = s.docket.vols) ∧
    (∀ a, s.hands.acts.find? (fun x => x.live) = some a → ∃ t, exec .actReplyTimeout s = .next t ∧
      t.hands.acts = s.hands.acts.replace a { a with live := false } ∧
      (a.kind = 1 → t.getF load = 0x7032 ∧ t.hands.loadOpen = false ∧ t.hands.recipes = s.hands.recipes ∧ t.docket = s.docket) ∧
      (a.kind = 2 → t.getF (F.HANDS_BIND_STATUS.at a.a) = 0x7032 ∧ t.hands.recipes = s.hands.recipes ∧ t.docket = s.docket))

namespace Sys2Proof.Claims

/-- The tag a command of a host takes: the lowest that is free. -/
def freeTag (s : State) : Nat := lowestFree 0 (s.tagsBy (fun _ => true))

/-- The table of tags is in canonical form. -/
def tagsCanonical (s : State) : Prop := AMap.wf (fun _ => (default : Tag)) s.docket.tags = true

/-- A queue of a kind takes one more command: the head is not deaf, the queue has depth left and a tag is free (R123, R126). -/
def takesOne (s : State) (q kind : Nat) : Prop :=
  tagsCanonical s ∧ s.takes q kind = true ∧ (s.tagsOfQueue q).length < (s.queueOf q).depth ∧ (s.tagOf (freeTag s)).state = .free ∧
    freeTag s < 65536

/-- The recipe bound to a volume has an entry for a command (R75). -/
def hasEntry (s : State) (v entry : Nat) : Prop :=
  (s.volOf v).slot ≠ 0 ∧ (s.hands.recipes.get ((s.volOf v).slot - 1)).entryWord entry ≠ 0xFFFFFFFF

/-- The command of tag k of a queue is complete with a status and a detail, awaiting its hand-off. -/
def complete (t : State) (k q cid : Nat) (st : Status) (det : Nat) : Prop :=
  let g := t.tagOf k
  g.state = .completing ∧ g.ended = true ∧ g.status = st ∧ g.detail = det ∧ g.queue = q ∧ g.cid = cid

end Sys2Proof.Claims

/-- On an admin queue with room: Property Get gives CAP and VS (free values), CC and CSTS in data to the host; Property Set of
CC, Set Features of 0x07, 0x0B and 0x0F and Keep Alive complete with 0 and keep what they set; Get Features gives it in
data; Get Log Page and Identify send a page of the length asked, Identify CNS 0 beginning with the volume's size; an
Asynchronous Event Request completes with a waiting event or is held, of at most four; Abort of an unknown command completes
with 1, of one in a context marks it with 0x6060 and replies later; QUEUE_RESUME and QUEUE_RESET of a FROZEN queue without
held commands make it ACTIVE. Connect creates the queue and completes on it, and a keep alive that expires ends the
controller. (R122, R126, R128, R129, R130, R141, R142, assumption log 17 (CAP, VS and page bytes the spec does not fix are
free values)) -/
def Obligations.AdminCommandsComplete : Prop :=
  ∀ (s : State),
    (∀ q cid, takesOne s q kAdmin →
      let k := freeTag s
      let n := (s.queueOf q).ctrl
      let c := s.ctrlOf n
      let ends (i : Instr) (v : Nat) (P : State → Prop) : Prop := ∃ t, exec i s = .next t ∧ complete t k q cid 0 v ∧ P t
      let any : State → Prop := fun _ => True
      let sends (len : Nat) (p : List Byte → Prop) : State → Prop :=
        fun t => ∃ l d, t.outbox = s.outbox ++ l ++ [.hostData q cid d] ∧ d.length = len ∧ p d
      let gives (i : Instr) (d : List Byte) : Prop := ends i 0 (sends d.length (fun x => x = d))
      gives (.propertyGet q ⟨cid, false⟩ 0) (leBytes 8 (Config.property 0).toNat) ∧
      gives (.propertyGet q ⟨cid, false⟩ 8) (leBytes 8 (Config.property 8).toNat) ∧ gives (.propertyGet q ⟨cid, false⟩ 0x14) (leBytes 8 c.cc) ∧
      gives (.propertyGet q ⟨cid, false⟩ 0x1C) (leBytes 8 (c.cc % 2 + if c.cc / 2 ^ 14 % 4 = 0 then 0 else 8)) ∧
      (∀ v, ends (.propertySet q ⟨cid, false⟩ 0x14 v) 0 (fun t => t.ctrlOf n = { c with cc := v % 2 ^ 32 })) ∧
      (∀ v, ends (.setFeatures q ⟨cid, false⟩ 0x07 v) 0 (fun t => t.ctrlOf n = { c with nqueues := v })) ∧
      (∀ v, ends (.setFeatures q ⟨cid, false⟩ 0x0B v) 0 (fun t => t.ctrlOf n = { c with aerCfg := v })) ∧
      (∀ v, 1000 ≤ v → v ≤ 60000 → ends (.setFeatures q ⟨cid, false⟩ 0x0F v) 0 (fun t => t.ctrlOf n = { c with kato := v })) ∧
      gives (.getFeatures q ⟨cid, false⟩ 0x07) (leBytes 4 c.nqueues) ∧ gives (.getFeatures q ⟨cid, false⟩ 0x0B) (leBytes 4 c.aerCfg) ∧
      gives (.getFeatures q ⟨cid, false⟩ 0x0F) (leBytes 4 c.kato) ∧ ends (.keepAlive q ⟨cid, false⟩) 0 any ∧
      (∀ page lsi len, page ∈ [0x01, 0x02, 0x03, 0x05] → ends (.getLogPage q ⟨cid, false⟩ page lsi len) 0 (sends len (fun _ => True))) ∧
      (∀ nsid, 1 ≤ nsid → nsid ≤ 4096 → (s.volOf (nsid - 1)).slot ≠ 0 →
        ends (.identify q ⟨cid, false⟩ 0 nsid) 0 (sends 4096 (fun d => d.take 8 = leBytes 8 (s.volOf (nsid - 1)).size))) ∧
      (∀ nsid, ends (.identify q ⟨cid, false⟩ 1 nsid) 0 (sends 4096 (fun d => d[77]? = some 16 ∧ d[259]? = some 3))) ∧
      (∀ e r, c.events = e :: r → ends (.asyncEventRequest q ⟨cid, false⟩) 0 (fun t => t.ctrlOf n = { c with events := r })) ∧
      (c.events = [] → c.aers.length < 4 → ∃ t, exec (.asyncEventRequest q ⟨cid, false⟩) s = .next t ∧ t.ctrlOf n = { c with aers := c.aers ++ [k] } ∧
        (t.tagOf k).state ≠ .free ∧ (t.tagOf k).cid = cid) ∧
      (∀ sqid tcid, s.findQueue n sqid = none → ends (.nvmeAbort q ⟨cid, false⟩ sqid tcid) 1 any) ∧
      (∀ sqid tcid sq x, s.findQueue n sqid = some sq → sq ≠ q → s.tagByCid sq tcid = some x → x ≠ k →
        let g := s.tagOf x
        g.state = .dispatched → g.committing = false → g.chain = 0 → g.ended = false → g.aborted = false →
          ∃ t, exec (.nvmeAbort q ⟨cid, false⟩ sqid tcid) s = .next t ∧ (t.tagOf x).aborted = true ∧ (t.tagOf x).status = 0x6060 ∧
            (t.tagOf x).state = .dispatched ∧ [3, k, 0] ∈ (t.tagOf x).late ∧ (t.tagOf k).cid = cid) ∧
      (∀ qid kq, s.findQueue n qid = some kq → kq ≠ q → (s.queueOf kq).state = 1 → (s.queueOf kq).kind ≠ kTake →
        (∀ x, (s.tagOf x).queue = kq → (s.tagOf x).state ≠ .held ∧ (s.tagOf x).state ≠ .completing) →
        ends (.queueResume q ⟨cid, false⟩ qid) 0 (fun t => t.queueOf kq = { s.queueOf kq with state := 0, byError := false }) ∧
        ends (.queueReset q ⟨cid, false⟩ qid) 0 (fun t => t.queueOf kq = { s.queueOf kq with state := 0, byError := false }))) ∧
    (∀ ctrl peer cid depth, s.deaf = false → s.feat 69 = true → s.findQueue ctrl 0 = none → s.reservedExt + 32 ≤ 61440 →
      s.queuesUsed < 4096 → (s.tagOf (freeTag s)).state = .free → freeTag s < 65536 → s.tagsOfQueue s.freeQueue = [] →
      ∃ t, exec (.nvmeConnect ctrl 0 depth peer ⟨cid, false⟩) s = .next t ∧
        (t.queueOf s.freeQueue).kind = kAdmin ∧ (t.queueOf s.freeQueue).depth = 32 ∧ (t.queueOf s.freeQueue).ctrl = ctrl ∧
        (t.ctrlOf ctrl).live = true ∧ complete t (freeTag s) s.freeQueue cid 0 0) ∧
    (∀ ctrl qid peer cid depth, s.deaf = false → s.feat 69 = true → freeTag s < 65536 → qid ≠ 0 → s.findQueue ctrl qid = none → (s.findQueue ctrl 0).isSome = true →
      2 ≤ depth → depth ≤ 4096 → s.reservedExt + depth ≤ 61440 → s.queuesUsed < 4096 → (s.tagOf (freeTag s)).state = .free →
      s.tagsOfQueue s.freeQueue = [] → ∃ t, exec (.nvmeConnect ctrl qid depth peer ⟨cid, false⟩) s = .next t ∧
        (t.queueOf s.freeQueue).kind = kNvme ∧ (t.queueOf s.freeQueue).depth = depth ∧ (t.queueOf s.freeQueue).qid = qid ∧
        complete t (freeTag s) s.freeQueue cid 0 0) ∧
    (∀ ctrl, (s.ctrlOf ctrl).live = true → ∃ t, exec (.keepAliveTimeout ctrl) s = .next t ∧ t.ctrlOf ctrl = default)

namespace Sys2Proof.Claims

/-- The commands of an NVMe I/O queue that have a recipe entry, and the opcode, the entry and the sender's data of each (R74, R121,
R128). -/
def ioForm : Instr → Option (Nat × Nat × IoCmd × Nat × Nat × Bool)
  | .nvmeFlush q cid c => some (q, cid, { c with lba := 0, nlb := 0 }, 0x00, 4, false)
  | .nvmeWrite q cid c => some (q, cid, c, 0x01, 1, true)
  | .nvmeRead q cid c => some (q, cid, c, 0x02, 0, false)
  | .nvmeCompare q cid c => some (q, cid, c, 0x05, 5, true)
  | .nvmeWriteZeroes q cid c => some (q, cid, c, 0x08, 2, false)
  | .nvmeVerify q cid c => some (q, cid, c, 0x0C, 6, false)
  | _ => none

end Sys2Proof.Claims

/-- For Flush, Write, Read, Compare, Write Zeroes and Verify on an NVMe queue with room, whose fields, volume, range and buffer
pass and whose recipe has the entry: the lowest free tag holds the command with its recipe entry, opcode, volume, range and
the Reeve number of the moment; it is ARRIVING where host data are to come, HELD where the queue is frozen or its volume
moves, else WAITING. Dataset Management that deallocates takes the span of its ranges, which stand in STAGE, and one that
does not completes with 0. An unsupported opcode completes with 0x5064. Data that arrive stand in STAGE and count; the last
makes the command WAITING, and data beyond or short of what was declared complete it with 0x5062. (R74, R121, R126, R128,
R130, R131, R136) -/
def Obligations.IoCommandsAreAccepted : Prop :=
  ∀ (s : State),
    (∀ (i : Instr) q cid c op entry inb, ioForm i = some (q, cid, c, op, entry, inb) → c.car = none → takesOne s q kNvme →
      hasEntry s (nsVol c.nsid) entry → s.fieldStatus c = 0 → s.volStatus (nsVol c.nsid) c.lba c.nlb entry = 0 →
      (entry = 0 → c.buffer = (s.ioTag q cid op entry c (nsVol c.nsid) inb).declared) → s.overBudget entry (c.nlb * 4096) = false →
      ∃ t, exec i s = .next t ∧
        (let g := t.tagOf (freeTag s)
         g.queue = q ∧ g.cid = cid ∧ g.op = op ∧ g.entry = entry ∧ g.vol = nsVol c.nsid ∧ g.leaf = c.lba ∧ g.leaves = c.nlb ∧
          g.reeve = s.now ∧ g.ended = false ∧
          g.state = if inb = true ∧ g.declared ≠ 0 then .arriving
            else if (s.queueOf q).state = 1 ∨ s.moving (nsVol c.nsid) = true then .held else .waiting)) ∧
    (∀ q cid c ranges, c.car = none → takesOne s q kNvme → hasEntry s (nsVol c.nsid) 3 → s.fieldStatus c = 0 →
      s.volStatus (nsVol c.nsid) (spanOf ranges).1 (spanOf ranges).2 3 = 0 →
      (∃ t, exec (.datasetManagement q cid c ranges true) s = .next t ∧
        (t.tagOf (freeTag s)).entry = 3 ∧ (t.tagOf (freeTag s)).ranges = ranges ∧ (t.tagOf (freeTag s)).leaf = (spanOf ranges).1 ∧
        (t.tagOf (freeTag s)).leaves = (spanOf ranges).2 ∧ (t.tagOf (freeTag s)).cid = cid) ∧
      (s.getF F.DOCKET_LATE_MIN_US ≠ 0 → ∃ t, exec (.datasetManagement q cid c ranges false) s = .next t ∧ complete t (freeTag s) q cid 0 0)) ∧
    (∀ q cid op, takesOne s q kAdmin → ∃ t, exec (.unsupportedOpcode q cid op none) s = .next t ∧ complete t (freeTag s) q cid 0x5064 0) ∧
    (∀ tag data, let g := s.tagOf tag
      s.deaf = false → g.state = .arriving →
      (g.arrived + data.length < g.declared → ∃ t, exec (.dataArrived tag data false) s = .next t ∧
        (t.tagOf tag).arrived = g.arrived + data.length ∧ (t.tagOf tag).state = .arriving ∧
        (16 ≤ g.entry ∨ g.pract = true → s.plan.recordBase + 64 * tag + 64 ≤ 2 ^ 64 → ∀ i (h : i < data.length),
          t.rdB (stageKey (stageBase tag + g.arrived + i)) = data[i])) ∧
      (g.arrived + data.length = g.declared → 16 ≤ g.entry ∨ (s.volOf g.vol).format = 0 →
        ∃ t, exec (.dataArrived tag data false) s = .next t ∧ (t.tagOf tag).arrived = g.declared ∧
          (t.tagOf tag).state = if (s.queueOf g.queue).state = 1 ∨ s.moveHeld g = true then .held else .waiting) ∧
      (g.declared < g.arrived + data.length → (s.queueOf g.queue).kind = kAdmin → ∃ t, exec (.dataArrived tag data false) s = .next t ∧
        (t.tagOf tag).state = .completing ∧ (t.tagOf tag).status = 0x5062))

/-- RESUME of the selected FROZEN queue makes it ACTIVE, RESET too where nothing is held, FREEZE of an ACTIVE one freezes it; a
queue in another state is refused with 0x7063 by the first two. DOCKET_ABORT of a waiting NVMe or admin command completes it
with 0x6060, RESULT 0; of one in a context that is not committing marks it, RESULT 0; again once CAUGHT answers the same; of
one completing waits, and answers LATE once its completion is posted; of a FREE tag UNKNOWN. A completion of an NVMe queue
is posted with its status and detail, and its tag freed. A BULK command held too long completes with 0x2070, reason
CLASS_HOLD and a free retry-after. With no command waiting for the Toll a window refills INGEST, READ and every take's gate.
(R125, R138, R141, R142, R146, R153, R159, R161, assumption log 8 (a BULK retry-after is a free value)) -/
def Obligations.QueuesAbortsAndHandoffs : Prop :=
  ∀ (s : State),
    (let q := s.getF F.DOCKET_QSEL_VAL
     let x := s.queueOf q
     let st := F.DOCKET_QCTL_STATUS
     (x.kind ≠ 0 → x.state = 1 → x.kind ≠ kTake → ∃ t, exec .docketQueueResume s = .next t ∧ completed t st 0 ∧
       t.queueOf q = { x with state := 0, byError := false } ∧ t.mem = s.mem) ∧
     (x.kind ≠ 0 → x.state = 1 → ∃ t, exec .docketQueueReset s = .next t ∧ completed t st 0 ∧
       (tagsCanonical s → x.kind ≠ kTake → (∀ k, (s.tagOf k).queue = q → (s.tagOf k).state ≠ .held ∧ (s.tagOf k).state ≠ .completing) →
         t.queueOf q = { x with state := 0, byError := false })) ∧
     (x.kind ≠ 0 → x.state = 0 → ∃ t, exec .docketQueueFreeze s = .next t ∧ completed t st 0 ∧
       (x.kind ≠ kCarrier → t.queueOf q = { x with state := 1, byError := false } ∧ t.mem = s.mem)) ∧
     (x.state ≠ 1 → (∃ t, exec .docketQueueResume s = .next t ∧ completed t st 0x7063 ∧ t.docket = s.docket) ∧
       ∃ t, exec .docketQueueReset s = .next t ∧ completed t st 0x7063 ∧ t.docket = s.docket)) ∧
    (∀ tag, tag < 65536 →
      let g := s.tagOf tag
      let k := (s.queueOf g.queue).kind
      let answers (r : Nat) (P : State → Prop) : Prop := ∃ t, exec (.docketAbortGo tag) s = .next t ∧ t.getF F.DOCKET_ABORT_RESULT = r ∧
        completed t F.DOCKET_ABORT_STATUS 0 ∧ P t
      (g.state = .waiting → g.chain = 0 → k = kNvme ∨ k = kAdmin → answers 0 (fun t => (t.tagOf tag).state = .completing ∧
        (t.tagOf tag).status = 0x6060)) ∧
      (g.state = .dispatched → g.committing = false → g.chain = 0 → g.ended = false → g.aborted = false →
        answers 0 (fun t => t.tagOf tag = { g with aborted := true, status := 0x6060 } ∧ t.mem = s.mem)) ∧
      (g.state = .completing → g.aborted = true → answers 0 (fun t => t.docket = s.docket)) ∧
      (g.state = .completing → g.aborted = false → ∃ t, exec (.docketAbortGo tag) s = .next t ∧ t.reply = 0 ∧
        t.tagOf tag = { g with late := g.late ++ [[4, 1]] } ∧ t.mem = s.mem) ∧
      (g.state = .free → answers 2 (fun t => t.docket = s.docket))) ∧
    (∀ tag, let g := s.tagOf tag
      let q := s.queueOf g.queue
      g.state = .completing → s.selfFenced = false → s.withheld tag = false → q.kind = kNvme ∨ q.kind = kAdmin → q.state ≠ 2 →
      g.late = [] ∨ g.late = [[4, 1]] → g.entry ≠ 8 →
        ∃ t l, exec (.completionHandoff tag) s = .next t ∧ t.tagOf tag = default ∧
          t.outbox = s.outbox ++ l ++ [.nvme g.queue g.cid g.status (nvmeField g.status (g.entry = 0)) g.detail] ∧ t.mem = s.mem ∧
          (g.late ≠ [] → t.getF F.DOCKET_ABORT_RESULT = 1 ∧ t.getF F.DOCKET_ABORT_STATUS = 0)) ∧
    (∀ tag, let g := s.tagOf tag
      let q := s.queueOf g.queue
      g.state = .waiting → g.tollPassed = false → g.tollFrom ≠ 0 → q.cls = 2 → q.kind = kNvme →
        ∃ t, exec (.bulkHoldExpiry tag) s = .next t ∧ (t.tagOf tag).state = .completing ∧ (t.tagOf tag).status = 0x2070 ∧
          (t.tagOf tag).detail = 0x0C * 2 ^ 24 + (Config.freeValue s.freeCtr).toNat % 2 ^ 24 ∧ t.freeCtr = s.freeCtr + 1) ∧
    ((∀ p ∈ s.docket.tags, p.2.state ≠ .waiting ∨ p.2.tollPassed = true) →
      AMap.wf (fun _ => (default : Take)) s.toll.takes = true → ∃ t, exec .tollWindow s = .next t ∧
        t.toll.inTok = min s.toll.inTok 0 + (s.toll.cap.ingest / 10000 : Nat) ∧ t.toll.rdTok = min s.toll.rdTok 0 + (s.toll.cap.read / 10000 : Nat) ∧
        (∀ k, t.takeOf k = { s.takeOf k with
          tokens := min ((s.takeOf k).tokens + (((s.takeOf k).rate * 102 / 1000000 : Nat) : Int)) ((s.takeOf k).gateMost : Int) }) ∧
        t.docket = s.docket ∧ t.mem = s.mem)

/-- A request that meets the checks and is admitted, needing no partner, is granted under the lowest free number: ADMITTED with
its rate, volume and port, kept for what was decided, STATUS that of the decision; an extension moves KEPT_UNTIL of the take
it names and returns OVERTIME to RECORDING. One that is not admitted completes with its status and creates none. CLOSE of a
held take ends its reservation: CLOSING while commands remain, else free. ARM_WINDOW passing makes an ADMITTED take LAPSED
without registration; KEPT_UNTIL passing a RECORDING one OVERTIME, its queue BULK; 60 s free a LAPSED one. A SOLO test
without an answer completes with 0x2071. The capacity tick takes what was measured into the block the Toll mirrors. (R147,
R150, R152, R153, R154, R156, R162, R163, R167) -/
def Obligations.TakesAreGrantedAndEnd : Prop :=
  ∀ (s : State),
    let block := (upto 8).flatMap (fun k => leBytes 8 (s.getN (R.TOLL_REQ_DATA + 8 * k)))
    let r := parseReq block
    let d := s.judge r
    let st := F.TOLL_REQ_CTL_STATUS
    (s.getF F.TOLL_REQ_CTL_BUSY ≠ 1 → s.selfFenced = false → s.toll.solo = none → s.reqStatus r = 0 →
      (d.status = 0 ∨ d.status = 0x70 → s.reqSolo r = false ∨ s.mode ≠ .paired → r.extend = false →
        let k := s.slotNo * 32 + s.freeTake
        ∃ t, exec .tollReqGo s = .next t ∧ completed t st d.status ∧ t.getF F.TOLL_REQ_CTL_BUSY = 0 ∧ (t.takeOf k).state = 1 ∧
          (t.takeOf k).rate = r.rate ∧ (t.takeOf k).vol = r.vol ∧ (t.takeOf k).port = r.port ∧ (t.takeOf k).kept = s.opsec + d.d ∧
          (t.takeOf k).req = block ∧ ∀ j, j ≠ k → t.takeOf j = s.takeOf j) ∧
      (d.status = 0 ∨ d.status = 0x70 → s.reqSolo r = false ∨ s.mode ≠ .paired → r.extend = true →
        ∃ t, exec .tollReqGo s = .next t ∧ completed t st d.status ∧ (t.takeOf r.take).kept = s.opsec + d.d ∧
          (t.takeOf r.take).state = (if (s.takeOf r.take).state = 3 then 2 else (s.takeOf r.take).state) ∧
          (t.takeOf r.take).rate = (s.takeOf r.take).rate ∧ ∀ j, j ≠ r.take → t.takeOf j = s.takeOf j) ∧
      (d.status = 0x2071 ∨ d.status = 0x2072 → ∃ t, exec .tollReqGo s = .next t ∧ completed t st d.status ∧
        t.getF F.TOLL_REQ_CTL_BUSY = 0 ∧ t.toll.takes = s.toll.takes) ∧
      (s.grade = 2 → d.status = 0x2071 ∧ d.reason = 0x07 ∧ d.retry = 1000)) ∧
    (let k := s.getF F.TOLL_REQ_CTL_TAKE
     let x := s.takeOf k
     s.getF F.TOLL_REQ_CTL_BUSY ≠ 1 → k < 64 → 1 ≤ x.state → x.state ≤ 3 → ∃ t, exec .tollReqClose s = .next t ∧ completed t st 0 ∧
       (s.tagsOfQueue x.queue = [] → x.toGen = [] → t.takeOf k = default) ∧
       (s.tagsOfQueue x.queue ≠ [] ∨ x.toGen ≠ [] → (t.takeOf k).state = 4 ∧ (t.takeOf k).regIdx = 0) ∧
       (x.regIdx = 0 → ∀ j, j ≠ k → t.takeOf j = s.takeOf j)) ∧
    (∀ k, (s.takeOf k).state = 1 → ∃ t, exec (.armWindowExpiry k) s = .next t ∧ (t.takeOf k).state = 5 ∧ (t.takeOf k).regIdx = 0 ∧
      ((s.takeOf k).regIdx = 0 → s.tagsOfQueue (s.takeOf k).queue = [] → ∀ j, j ≠ k → t.takeOf j = s.takeOf j)) ∧
    (∀ k, (s.takeOf k).state = 2 → ∃ t, exec (.keptUntilExpiry k) s = .next t ∧ t.takeOf k = { s.takeOf k with state := 3 } ∧
      (t.queueOf (s.takeOf k).queue).cls = 2 ∧ t.mem = s.mem) ∧
    (∀ k, (s.takeOf k).state = 5 → ∃ t, exec (.lapsedExpiry k) s = .next t ∧ t.takeOf k = default ∧
      (∀ j, j ≠ k → t.takeOf j = s.takeOf j) ∧ t.docket = s.docket ∧ t.mem = s.mem) ∧
    (∀ q, s.toll.solo = some q → s.toll.waiting = [] → q.route = 0 → ∃ t, exec .soloTestTimeout s = .next t ∧ completed t st 0x2071 ∧
      t.getF F.TOLL_REQ_CTL_BUSY = 0 ∧ t.toll.solo = none ∧ t.toll.takes = s.toll.takes) ∧
    (∀ granary residence glean fp gcm, s.power = .on → ∃ t, exec (.capacityTick granary residence glean fp gcm) s = .next t ∧
      t.toll.cap.granaryS = granary ∧ t.toll.cap.residence = residence ∧ t.toll.cap.gleanFloor = glean ∧
      t.toll.cap.budget = s.getN R.TILL_BUDGET ∧ t.warden.fingerprinted = fp ∧ t.warden.gcm = gcm)

namespace Sys2Proof.Claims

/-- A test or a restore of a unit has been asked for: STATUS 0, BUSY, and its place at the end of the Warden's queue (R505). -/
def testAsked (s t : State) (status busy : Fld) (kind unit : Nat) (restore : Bool) : Prop :=
  completed t status 0 ∧ t.getF busy = 1 ∧ t.warden.queue = s.warden.queue ++ [{ ownTest kind unit restore with due := s.time }] ∧ t.mem = s.mem

/-- A context whose operation at an index has ended with a completion word (R58). -/
def wordGiven (c : Ctx) (slot rd : Nat) (w : Word) : Ctx := { c with
  ops := c.ops.eraseIdx slot
  pend := c.pend.filter (fun r => r ≠ rd)
  g := if rd = 0 then c.g else c.g.set rd w }

end Sys2Proof.Claims

/-- For the selected lane or core, where no request of its block is under way: TEST puts a test at the end of the Warden's
queue, RESTORE does so of a RETIRED unit (in SERVICE for the Mill and the Assay), RETIRE retires a unit that runs nothing
with cause 1 where enough are left and the guarantee stays. A unit that fails while serving is retired with cause 4. A
known-answer test that falls due is queued. A lock that reaches its limit frees its core and zeroises slot 63, a lock that
can be granted is granted to the waiting request, and a slot whose earlier operations have drained empties for KEY.ZERO,
each completing its operation. A reseed counts and ends OVERDUE; a failed health test and an overdue reseed are shown.
(R188, R190, R205, R206, R207, R208, R212, R224) -/
def Obligations.LanesAndCoresAreTestedAndRetired : Prop :=
  ∀ (s : State),
    (let l := s.getF F.PRESS_LANE_SEL_VAL
     let st := F.PRESS_LANE_CTL_STATUS
     l < 27 → s.getF F.PRESS_LANE_CTL_BUSY ≠ 1 →
      (∃ t, exec .pressLaneTest s = .next t ∧ testAsked s t st F.PRESS_LANE_CTL_BUSY kPress l false) ∧
      (s.getF (F.PRESS_LANE_STATE.at l) = 3 → ∃ t, exec .pressLaneRestore s = .next t ∧ testAsked s t st F.PRESS_LANE_CTL_BUSY kPress l true) ∧
      (s.getF (F.PRESS_LANE_STATE.at l) ≠ 3 → 4 ≤ s.pressLeft l → s.retireDefers kPress l = none → s.pressHeld l = false → ∃ t, exec .pressLaneRetire s = .next t ∧ completed t st 0 ∧
        t.getF (F.PRESS_LANE_STATE.at l) = 3 ∧ t.getF (F.PRESS_LANE_RETIRE_CAUSE.at l) = 1 ∧ t.mem = s.mem)) ∧
    (let c := s.getF F.MILL_CORE_SEL_VAL
     let st := F.MILL_CORE_CTL_STATUS
     c < 17 → s.getF F.MILL_CORE_CTL_BUSY ≠ 1 →
      (∃ t, exec .millCoreTest s = .next t ∧ testAsked s t st F.MILL_CORE_CTL_BUSY kMill c false) ∧
      (s.mode = .service → s.getF (F.MILL_CORE_STATE.at c) = 3 →
        ∃ t, exec .millCoreRestore s = .next t ∧ testAsked s t st F.MILL_CORE_CTL_BUSY kMill c true) ∧
      (s.getF (F.MILL_CORE_STATE.at c) ≠ 3 → 12 ≤ s.millLeft c → s.retireDefers kMill c = none → s.millHeld c = false → ∃ t, exec .millCoreRetire s = .next t ∧ completed t st 0 ∧
        t.getF (F.MILL_CORE_STATE.at c) = 3 ∧ t.getF (F.MILL_CORE_RETIRE_CAUSE.at c) = 1 ∧ t.mill.clear.get c = default ∧ t.mem = s.mem)) ∧
    (let l := s.getF F.ASSAY_LANE_SEL_VAL
     let st := F.ASSAY_LANE_CTL_STATUS
     l < 16 → s.getF F.ASSAY_LANE_CTL_BUSY ≠ 1 →
      (∃ t, exec .assayLaneTest s = .next t ∧ testAsked s t st F.ASSAY_LANE_CTL_BUSY kAssay l false) ∧
      (s.mode = .service → s.getF (F.ASSAY_LANE_STATE.at l) = 3 →
        ∃ t, exec .assayLaneRestore s = .next t ∧ testAsked s t st F.ASSAY_LANE_CTL_BUSY kAssay l true) ∧
      (s.getF (F.ASSAY_LANE_STATE.at l) ≠ 3 → 12 < s.assayLeft → s.retireDefers kAssay l = none → ∃ t, exec .assayLaneRetire s = .next t ∧ completed t st 0 ∧
        t.getF (F.ASSAY_LANE_STATE.at l) = 3 ∧ t.getF (F.ASSAY_LANE_RETIRE_CAUSE.at l) = 1 ∧ t.mem = s.mem)) ∧
    (s.warden.running = none →
      (∀ l, l < 27 → s.getF (F.PRESS_LANE_STATE.at l) < 2 → ∃ t, exec (.pressLaneFailure l) s = .next t ∧
        t.getF (F.PRESS_LANE_STATE.at l) = 3 ∧ t.getF (F.PRESS_LANE_RETIRE_CAUSE.at l) = 4 ∧ t.mem = s.mem) ∧
      (∀ c, c < 17 → s.getF (F.MILL_CORE_STATE.at c) ≠ 3 → ∃ t, exec (.millCoreFailure c) s = .next t ∧
        t.getF (F.MILL_CORE_STATE.at c) = 3 ∧ t.getF (F.MILL_CORE_RETIRE_CAUSE.at c) = 4 ∧ t.mill.clear.get c = default ∧ t.mem = s.mem) ∧
      (∀ l, l < 16 → s.laneRetired l = false → ∃ t, exec (.assayLaneFailure l) s = .next t ∧
        t.getF (F.ASSAY_LANE_STATE.at l) = 3 ∧ t.getF (F.ASSAY_LANE_RETIRE_CAUSE.at l) = 4 ∧ t.mem = s.mem)) ∧
    (∀ c, c < 17 → s.getF (F.MILL_CORE_STATE.at c) ≠ 3 → ∃ t, exec (.millKatDue c) s = .next t ∧ t.mem = s.mem ∧
      t.warden.queue = s.warden.queue ++ [{ ownTest kMill c false with source := 0, due := s.time }]) ∧
    (∀ l, l < 16 → s.getF (F.ASSAY_LANE_STATE.at l) ≠ 3 → ∃ t, exec (.assayKatDue l) s = .next t ∧ t.mem = s.mem ∧
      t.warden.queue = s.warden.queue ++ [{ ownTest kAssay l false with source := 0, due := s.time }]) ∧
    (∀ c, c < 17 → s.getF (F.MILL_CORE_STATE.at c) = 5 → (∀ m ∈ s.mill.msgs, m.core ≠ c + 1) → ∃ t, exec (.millLockExpiry c) s = .next t ∧
      t.getF (F.MILL_CORE_STATE.at c) = (if s.millCores 1 = [] then 1 else 0) ∧ t.getF (F.MILL_CORE_HOLDER.at c) = 0 ∧
      t.mill.clear.get c = default ∧ t.pins.ledAlarm = true ∧ t.mem = s.mem) ∧
    (∀ (e : Eng) slot o, (s.ctx e).ops[slot]? = some o → (s.ctx e).state = .ready → o.op = .priv →
      (∀ c, o.imm = 0x22 → s.lockBefore o.n = false → s.lockPick (o.ra.toNat % 32) = some c → c < 17 → s.millHeld c = false →
        ∃ t, exec (.millLockGranted e slot) s = .next t ∧ t.getF (F.MILL_CORE_STATE.at c) = 5 ∧
          t.getF (F.MILL_CORE_HOLDER.at c) = o.ra.toNat / 256 % 4 + 1 ∧ t.ctx e = wordGiven (s.ctx e) slot o.rd (BitVec.ofNat 64 (c * 2 ^ 24)) ∧
          t.mem = s.mem) ∧
      (o.imm = 0x21 → o.n < 0x1000 → o.n ≠ 63 → (s.mill.slots.get o.n).state = 2 → s.slotInFlight o.n = 0 → ∃ t, exec (.keyZeroDrained e slot) s = .next t ∧
        t.mill.slots.get o.n = { (default : KeySlot) with seq := s.now } ∧ (∀ k, k ≠ o.n → t.mill.slots.get k = s.mill.slots.get k) ∧
        t.ctx e = wordGiven (s.ctx e) slot o.rd 0 ∧ t.mem = s.mem)) ∧
    (∃ t, exec .drbgReseed s = .next t ∧ t.getF F.MILL_RNG_RESEEDS = satInc (s.getF F.MILL_RNG_RESEEDS) (2 ^ F.MILL_RNG_RESEEDS.w - 1) ∧
      t.getF F.MILL_RNG_OVERDUE = 0 ∧ t.rest = { s with mill := { s.mill with gens := 0 } }.rest) ∧
    (∃ t, exec .rngHealthFail s = .next t ∧ t.getF F.MILL_RNG_HEALTH_FAIL = 1 ∧ t.pins.ledAlarm = true ∧ t.mem = s.mem) ∧
    (∃ t, exec .reseedOverdue s = .next t ∧ t.getF F.MILL_RNG_OVERDUE = 1 ∧ t.pins.ledAlarm = true ∧ t.mem = s.mem)

/-- A write of PRESS_STREAM_CFG with legal bounds sets them and the target clamped to them, and with an empty or inverted range
completes with 0x5080 and changes none. At a window the one open stream goes up to the best target at once, or down by one.
GO of an idle Assay starts the job, refused with 0x80A0 while one runs and with 0x50A0 for the reserved algorithm; a MEMORY
job completes with the digest of the bytes named, a FEED job takes eight bytes or a tail of 1 to 7, CLOSE ends it with the
digest where the counts agree and INVALID with 0x5050 otherwise, ABORT with 0x60A0. A comparison gives its two magic words,
or 0 and 0x5050 without an operand. (R185, R190, R211, R213, R216, R224) -/
def Obligations.StreamsAdaptAndAssayJobs : Prop :=
  ∀ (s : State),
    let ctl := F.ASSAY_DMA_CTL_STATUS
    let len := s.assay.len
    let ended (t : State) (st : Status) (invalid : Nat) : Prop := t.getF ctl = st ∧ t.getF F.ASSAY_DMA_CTL_BUSY = 0 ∧
      t.getF F.ASSAY_DMA_CTL_DONE = 1 ∧ t.getF F.ASSAY_DMA_CTL_INVALID = invalid ∧ t.assay.busy = false ∧ t.mem = s.mem
    let shows (t : State) (d : List Byte) : Prop := ∀ k, k < 8 → t.getN (R.ASSAY_DIGEST + 8 * k) = leNat ((d.drop (8 * k)).take 8)
    (∀ (v : Word), let n := s.getF F.PRESS_STREAM_SEL_VAL
      let lo := F.PRESS_STREAM_CFG_TARGET_MIN.get v
      let hi := F.PRESS_STREAM_CFG_TARGET_MAX.get v
      streamValid n = true → n < 0x1000 ∨ s.streamOpen n = true →
      (lo ≠ 0 → lo ≤ hi → ∃ t, exec (.pressStreamCfgWrite v) s = .next t ∧ completed t (F.PRESS_STREAM_CFG_STATUS.at n) 0 ∧
        t.getF (F.PRESS_STREAM_CFG_TARGET_MIN.at n) = lo ∧ t.getF (F.PRESS_STREAM_CFG_TARGET_MAX.at n) = hi ∧
        t.getF (F.PRESS_STREAM_CFG_TARGET.at n) = clamp lo hi (F.PRESS_STREAM_CFG_TARGET.get v) ∧ t.mem = s.mem) ∧
      (lo = 0 ∨ hi < lo → ∃ t, exec (.pressStreamCfgWrite v) s = .next t ∧ completed t (F.PRESS_STREAM_CFG_STATUS.at n) 0x5080 ∧
        t.getF (F.PRESS_STREAM_CFG_TARGET.at n) = s.getF (F.PRESS_STREAM_CFG_TARGET.at n))) ∧
    (∀ n, (upto 0x1040).filter (fun k => s.streamOpen k) = [n] → s.getF (F.PRESS_STREAM_CFG_PIN.at n) = 0 →
      s.getF (F.PRESS_STREAM_CFG_RAW_ONLY.at n) = 0 → s.press.closing = [] →
      let h := s.histGrowth n
      let lo := s.getF (F.PRESS_STREAM_CFG_TARGET_MIN.at n)
      let hi := s.getF (F.PRESS_STREAM_CFG_TARGET_MAX.at n)
      let old := s.getF (F.PRESS_STREAM_CFG_TARGET.at n)
      let b := bestTarget h (s.getF F.PRESS_ADAPT_FIT_FLOOR) lo hi
      s.getF F.PRESS_ADAPT_MIN_GRAINS ≤ fits h 16 → 1 ≤ lo → lo ≤ b → b ≤ hi → lo ≤ old → old ≤ hi →
        ∃ t, exec .pressAdaptWindow s = .next t ∧ t.mem = s.mem ∧
          t.getF (F.PRESS_STREAM_CFG_TARGET.at n) = if old < b then b else if b < old then old - 1 else old) ∧
    (s.assay.busy = false → s.getF F.ASSAY_DMA_CTL_ALG ≠ 3 → ∃ t, exec .assayDmaGo s = .next t ∧ completed t ctl 0 ∧
      t.getF F.ASSAY_DMA_CTL_BUSY = 1 ∧ t.getF F.ASSAY_DMA_CTL_DONE = 0 ∧ t.getN R.ASSAY_DMA_COUNT = 0 ∧ t.assay.busy = true ∧
      t.assay.data = [] ∧ t.assay.alg = s.getF F.ASSAY_DMA_CTL_ALG ∧ t.assay.len = s.getN R.ASSAY_DMA_LEN % 2 ^ 40 ∧
      t.assay.addr = s.getN R.ASSAY_DMA_ADDR ∧ t.mem = s.mem) ∧
    (s.assay.busy = true → ∃ t, exec .assayDmaGo s = .next t ∧ completed t ctl 0x80A0 ∧ t.assay = s.assay) ∧
    (s.assay.busy = false → s.getF F.ASSAY_DMA_CTL_ALG = 3 → ∃ t, exec .assayDmaGo s = .next t ∧ completed t ctl 0x50A0 ∧ t.assay = s.assay) ∧
    (∀ env, s.assay.busy = true → s.assay.feed = false → len < 2 ^ 40 →
      (env.status = 0 → ∃ t, exec (.assayDmaComplete env) s = .next t ∧ ended t 0 0 ∧ t.getN R.ASSAY_DMA_COUNT = len ∧
        shows t (digest s.assay.alg ((upto len).map (fun k => s.rdG (s.assay.addr + k))))) ∧
      (env.status ≠ 0 → ∃ t, exec (.assayDmaComplete env) s = .next t ∧ ended t 0xF050 1)) ∧
    (∀ (v : Word), s.assay.busy = true → s.assay.feed = true →
      (∃ t, exec (.assayFeed v) s = .next t ∧ t.assay.data = s.assay.data ++ (leBytes 8 v.toNat).take (len - s.assay.data.length) ∧
        t.getN R.ASSAY_DMA_COUNT = (s.getN R.ASSAY_DMA_COUNT + 8) % 2 ^ 40 ∧ t.mem = s.mem) ∧
      (let n := v.toNat / 2 ^ 56 % 8
       ∃ t, exec (.assayFeedTail v) s = .next t ∧ t.assay.data = s.assay.data ++ (leBytes n v.toNat).take (len - s.assay.data.length) ∧
        t.getN R.ASSAY_DMA_COUNT = (s.getN R.ASSAY_DMA_COUNT + n) % 2 ^ 40 ∧ t.mem = s.mem) ∧
      (s.getN R.ASSAY_DMA_COUNT = len → ∃ t, exec .assayDmaClose s = .next t ∧ ended t 0 0 ∧ shows t (digest s.assay.alg s.assay.data)) ∧
      (s.getN R.ASSAY_DMA_COUNT ≠ len → ∃ t, exec .assayDmaClose s = .next t ∧ ended t 0x5050 1)) ∧
    (s.assay.busy = true → ∃ t, exec .assayDmaAbort s = .next t ∧ ended t 0x60A0 1) ∧
    (∀ d, s.compareOperand = some d → ∃ t, exec .assayCompareGo s = .next t ∧ completed t F.ASSAY_CMP_CTL_STATUS 0 ∧
      t.getN R.ASSAY_CMP_RESULT = (if d = ((upto 8).flatMap (fun k => leBytes 8 (s.getN (R.ASSAY_EXPECT + 8 * k)))).take d.length
        then 0x6C93A55A936C5AA5 else 0x936C5AA56C93A55A) ∧ t.mem = s.mem) ∧
    (s.compareOperand = none → ∃ t, exec .assayCompareGo s = .next t ∧ completed t F.ASSAY_CMP_CTL_STATUS 0x5050 ∧ t.getN R.ASSAY_CMP_RESULT = 0)

/-- CLAIM gives the lowest unit without an owner to the path, shown in GRANTED, or answers 0x80B0. From its owner: a feed of 1,
2, 4 or 8 bytes carries the value on over those bytes, lowest first, and counts them, saturating; a write of VALUE sets it
over the algorithm's width; a write of ALG 0 to 2 sets it and resets the unit, and 3 is refused with 0x50B0; COMPARE sets
MATCH or MISMATCH by the width's bits; RESET clears value and count; RELEASE frees the unit. From any other path each
completes with 0x70B0 and changes no unit. (R217, R218, R219, R220, R223) -/
def Obligations.TallyUnitsCheck : Prop :=
  ∀ (s : State) (path u : Nat), u < 32 → 1 ≤ path → path ≤ 5 →
    let owner := s.getF (F.TALLY_U_CFG_OWNER.at u)
    let alg := s.getF (F.TALLY_U_CFG_ALG.at u)
    let value := s.getF (F.TALLY_U_VALUE_ALL.at u)
    let count := s.getF (F.TALLY_U_CTL_BYTES.at u)
    let same := value % 2 ^ crcWidth alg = s.getF (F.TALLY_U_EXPECT_ALL.at u) % 2 ^ crcWidth alg
    (owner = 0 → (∀ k, k < u → s.getF (F.TALLY_U_CFG_OWNER.at k) ≠ 0) → ∃ t, exec (.tallyClaim path) s = .next t ∧
      completed t F.TALLY_CLAIM_STATUS 0 ∧ t.getF F.TALLY_CLAIM_GRANTED = u ∧ t.getF (F.TALLY_U_CFG_OWNER.at u) = path ∧ t.mem = s.mem) ∧
    ((∀ k, k < 32 → s.getF (F.TALLY_U_CFG_OWNER.at k) ≠ 0) → ∃ t, exec (.tallyClaim path) s = .next t ∧ completed t F.TALLY_CLAIM_STATUS 0x80B0) ∧
    (owner = path →
      (∃ t, exec (.tallyRelease path u) s = .next t ∧ completed t F.TALLY_CLAIM_STATUS 0 ∧ t.getF (F.TALLY_U_CFG_OWNER.at u) = 0 ∧
        t.rest = { s with reply := 0 }.rest) ∧
      (∀ (v : Word),
        let fed (i : Instr) (n : Nat) : Prop := ∃ t, exec i s = .next t ∧ t.reply = 0 ∧
          t.getF (F.TALLY_U_VALUE_ALL.at u) = crcMore alg value (leBytes n v.toNat) % 2 ^ 64 ∧
          t.getF (F.TALLY_U_CTL_BYTES.at u) = min (2 ^ 32 - 1) (count + n) ∧ t.mem = s.mem
        fed (.tallyFeedB path u v) 1 ∧ fed (.tallyFeedH path u v) 2 ∧ fed (.tallyFeedW path u v) 4 ∧ fed (.tallyFeedD path u v) 8 ∧
        ∃ t, exec (.tallyValueWrite path u v) s = .next t ∧ t.reply = 0 ∧
          t.getF (F.TALLY_U_VALUE_ALL.at u) = v.toNat % 2 ^ crcWidth alg % 2 ^ 64 ∧ t.getF (F.TALLY_U_CTL_BYTES.at u) = count ∧ t.mem = s.mem) ∧
      (∀ a, a < 3 → ∃ t, exec (.tallyAlgWrite path u a) s = .next t ∧ t.reply = 0 ∧ t.getF (F.TALLY_U_CFG_ALG.at u) = a ∧
        t.getF (F.TALLY_U_VALUE_ALL.at u) = 0 ∧ t.getF (F.TALLY_U_CTL_BYTES.at u) = 0 ∧ t.rest = { s with reply := 0 }.rest) ∧
      (∃ t, exec (.tallyAlgWrite path u 3) s = .next t ∧ t.reply = 0x50B0 ∧ t.regs = s.regs) ∧
      (∃ t, exec (.tallyCompare path u) s = .next t ∧ t.reply = 0 ∧ t.mem = s.mem ∧
        (same → t.getF (F.TALLY_U_CTL_MATCH.at u) = 1 ∧ t.getF (F.TALLY_U_CTL_MISMATCH.at u) = 0) ∧
        (¬ same → t.getF (F.TALLY_U_CTL_MATCH.at u) = 0 ∧ t.getF (F.TALLY_U_CTL_MISMATCH.at u) = 1)) ∧
      (∃ t, exec (.tallyReset path u) s = .next t ∧ t.reply = 0 ∧ t.getF (F.TALLY_U_VALUE_ALL.at u) = 0 ∧
        t.getF (F.TALLY_U_CTL_BYTES.at u) = 0 ∧ t.rest = { s with reply := 0 }.rest)) ∧
    (owner ≠ path → ∀ (v : Word), ∀ i ∈ [Instr.tallyRelease path u, .tallyFeedB path u v, .tallyFeedH path u v, .tallyFeedW path u v,
        .tallyFeedD path u v, .tallyValueWrite path u v, .tallyCompare path u, .tallyReset path u],
      ∃ t, exec i s = .next t ∧ t.reply = 0x70B0 ∧ t.getF (F.TALLY_U_VALUE_ALL.at u) = value ∧ t.getF (F.TALLY_U_CTL_BYTES.at u) = count ∧
        t.getF (F.TALLY_U_CFG_OWNER.at u) = owner ∧ t.mem = s.mem)

namespace Sys2Proof.Claims

/-- A whole datagram's message reaches the SYNCED entry i: it is of the entry's epoch, new inside its window, every lower SEQ has
been taken, and nothing is held (R357, R362). -/
def reaches (s : State) (h : CarHdr) (len i : Nat) : Prop :=
  s.carrierUp h.port = true ∧ s.carAddr h = true ∧ h.fault = 0 ∧ h.ce = false ∧ h.flags = (if h.port = 8 then 16 else 0) ∧ s.reasmRoom h len = true ∧
    s.carFind h = some i ∧ (let p := s.peerAt i
      p.used = true ∧ p.state = 1 ∧ h.epoch = p.rxEpoch ∧ p.floor ≤ h.seq ∧ h.seq < p.floor + 1024 ∧
        p.taken.contains h.seq = false ∧ p.lowerTaken h.seq = true ∧ p.held = [])

/-- It does so in a form of its type, by a port its type travels on (R357, R358). -/
def heard (s : State) (h : CarHdr) (type : Nat) (body : List Byte) (i : Nat) : Prop :=
  reaches s h body.length i ∧ carTravels (decide (h.port = 8)) type = true ∧ carBodyOk type body = true

/-- The state in which a message that reaches entry i takes effect: what came in is counted, the sender seen, and the message
given its Reeve number (R362, R377, R461). -/
def carAt (s : State) (h : CarHdr) (len i : Nat) : State :=
  let s1 := (s.carCount h len).reasmDrop h
  (s1.putPeer i { s1.peerAt i with port := h.port, lastRx := s1.time }).tick

/-- A SEQ stands in the window of an entry as taken. -/
def seqTaken (t : State) (i seq : Nat) : Prop := (t.peerAt i).taken.contains seq = true

/-- A message of a type and body waits for its acknowledgement at an entry (R359). -/
def awaits (t : State) (i type : Nat) (body : List Byte) : Prop := ∃ m ∈ (t.peerAt i).out, m.type = type ∧ m.body = body

end Sys2Proof.Claims

/-- Of a message that reaches a SYNCED entry in the form of its type: HELLO with BASE takes role, features and FLOOR and is
answered by HELLO_REPLY; FLOOR sets FLOOR; an ACK of all that is outstanding empties it; MGMT_READ of a word of
IDENT_FEAT_OFFER is answered by MGMT_DATA with its value, and MGMT_WRITE sets it; HELLO_REPLY, QUEUE_REPLY, CMD_DONE,
ABORT_REPLY, QUEUE_NOTICE, TAKE_GRANT, TAKE_NOTICE, MGMT_DATA and CRIER are taken and change no command, take or byte; a
reserved TYPE is refused with 0x5111, which CARRIER_LAST_ERR shows, and taken. (R39, R41, R358, R360, R361, R362, R376) -/
def Obligations.CarrierSessionsAndRegisters : Prop :=
  ∀ (s : State) (h : CarHdr) (b : List Byte) (i : Nat),
    let p := s.peerAt i
    (heard s h 0x01 b i →
      let w0 := fieldAt b 0 4 &&& s.mgmtWord 0
      let w2 := fieldAt b 4 4 &&& s.mgmtWord 2
      w0.testBit 0 = true → fieldAt b 12 1 ≠ 5 → p.session = 0 ∨ p.rxEpoch < p.session →
      ∃ t, exec (.carrierHello h b) s = .next t ∧ (t.peerAt i).state = 1 ∧ (t.peerAt i).floor = fieldAt b 8 4 ∧
        (t.peerAt i).role = fieldAt b 12 1 ∧ (t.peerAt i).feat0 = w0 ∧ (t.peerAt i).feat2 = w2 ∧
        awaits t i 0x02 (helloReply 0 w0 w2 (s.peerNum i) p.oldest) ∧ t.mem = s.mem) ∧
    (heard s h 0x03 b i → ∃ t, exec (.carrierFloor h b) s = .next t ∧ (t.peerAt i).state = 1 ∧ (t.peerAt i).floor = fieldAt b 0 4 ∧
      (t.peerAt i).held = [] ∧ (t.peerAt i).out = p.out ∧ t.docket = s.docket ∧ t.mem = s.mem) ∧
    (heard s h 0x04 b i → fieldAt b 0 4 = p.txEpoch → fieldAt b 0x14 2 = 0 →
      (∀ m ∈ p.out, m.sent = true ∧ m.wait = .nothing ∧ ackCovers b m.seq = true) →
      ∃ t, exec (.carrierAck h b) s = .next t ∧ (t.peerAt i).out = [] ∧ (t.peerAt i).txSeq = p.txSeq ∧ (t.peerAt i).taken = p.taken ∧
        (t.peerAt i).ceI = p.ceI + fieldAt b 0x10 4 ∧ t.docket = s.docket ∧ t.mem = s.mem) ∧
    (h.port = 8 → s.pins.misoAnswers = true → s.latch .carrierM = default → ∀ k, k < 4 →
      let a := R.IDENT_FEAT_OFFER + 8 * k
      fieldAt b 0 4 = a → fieldAt b 4 1 = 8 →
      (heard s h 0x17 b i → ∃ t, exec (.mgmtRead h b) s = .next t ∧
        awaits t i 0x18 (leBytes 4 a ++ leBytes 2 0 ++ leBytes 1 8 ++ leBytes 1 0 ++ leBytes 8 (s.getN a)) ∧ seqTaken t i h.seq ∧
        t.mem = s.mem) ∧
      (heard s h 0x19 b i → ∀ o, ∃ t, exec (.mgmtWrite h b o) s = .next t ∧ t.getN a = fieldAt b 8 8 ∧ seqTaken t i h.seq ∧
        t.mem = s.mem)) ∧
    (let idle (c : Instr) (type : Nat) : Prop := heard s h type b i → ∃ t, exec c s = .next t ∧ seqTaken t i h.seq ∧
       t.docket = s.docket ∧ t.toll = s.toll ∧ t.hands = s.hands ∧ t.mem = s.mem
     idle (.carrierHelloReply h b) 0x02 ∧ idle (.queueReply h b) 0x0A ∧ idle (.cmdDone h b) 0x0D ∧ idle (.abortReply h b) 0x0F ∧
     idle (.queueNotice h b) 0x10 ∧ idle (.takeGrant h b) 0x12 ∧ idle (.takeNotice h b) 0x14 ∧ idle (.mgmtData h b) 0x18 ∧
     idle (.carrierCrier h b) 0x1A) ∧
    (∀ type, type = 0 ∨ type = 0x15 ∨ 0x1A < type → type < 256 → reaches s h b.length i →
      ∃ t, exec (.carrierReservedType h type b) s = .next t ∧ seqTaken t i h.seq ∧
        t.getN R.CARRIER_LAST_ERR = 0x5111 * 2 ^ 48 + s.peerNum i * 2 ^ 16 + type ∧ t.docket = s.docket ∧ t.toll = s.toll ∧ t.mem = s.mem)

/-- Of a message that reaches a SYNCED entry in its form: a WRITE to a WINDOW whose checks hold writes its bytes there, and a
READ is answered with them; a READ_RESP that nothing waits for is taken without effect; FRAME_DONE of a frame that has
arrived whole lands it; QUEUE_OPEN with room makes an ACTIVE queue of the peer and answers; QUEUE_CTL resumes a FROZEN one
and deletes one without commands; ABORT of a command the head does not hold answers UNKNOWN, and of one in a context marks
it; TAKE_OPEN that is admitted makes an ADMITTED take, TAKE_CLOSE ends it; a REPL message goes to replication. (R122, R141,
R142, R147, R156, R246, R358, R368, R370, R371) -/
def Obligations.CarrierDataQueuesAndTakes : Prop :=
  ∀ (s : State) (h : CarHdr) (b : List Byte) (i : Nat),
    let u := carAt s h b.length i
    let idx := fieldAt b 0 8 % 1048576
    let kind := s.getF (F.CARRIER_REG_INFO_KIND.at idx)
    let at_ := s.getF (F.CARRIER_REG_BASE_ALL.at idx) + fieldAt b 8 8
    (heard s h 0x05 b i → u.regCheck i (fieldAt b 0 8) s.now 1 = 0 → kind = 2 → fieldAt b 8 8 + (b.length - 24) ≤ s.regLen idx →
      ∃ t, exec (.carrierWrite h b) s = .next t ∧ t.mem = (s.wrSpN 0 spGLOBAL at_ (b.drop 24)).mem ∧ seqTaken t i h.seq ∧
        t.docket = s.docket ∧ t.toll = s.toll) ∧
    (heard s h 0x06 b i → u.regCheck i (fieldAt b 0 8) s.now 2 = 0 → fieldAt b 8 8 + fieldAt b 16 4 ≤ s.regLen idx →
      s.poisoned at_ (fieldAt b 16 4) = false → ∃ t, exec (.carrierRead h b) s = .next t ∧ seqTaken t i h.seq ∧ t.mem = s.mem ∧
        awaits t i 0x07 (leBytes 4 (fieldAt b 20 4) ++ leBytes 2 0 ++ leBytes 2 0 ++ leBytes 8 0 ++ s.rdSpN 0 spGLOBAL at_ (fieldAt b 16 4))) ∧
    (heard s h 0x07 b i → s.car.reads.get (fieldAt b 0 4) = default → ∃ t, exec (.carrierReadResp h b) s = .next t ∧
      seqTaken t i h.seq ∧ t.car.reads = s.car.reads ∧ t.docket = s.docket ∧ t.mem = s.mem) ∧
    (heard s h 0x08 b i → u.regCheck i (fieldAt b 0 8) s.now 1 = 0 → kind = 1 → ∀ k, s.takeOfReg idx = some k →
      let x := s.takeOf k
      let f := fieldAt b 8 4
      x.slots.get (x.slotOf f) = some f → x.slotLanded.get (x.slotOf f) = false → fieldAt b 12 4 = x.frameBytes →
      x.frameBytes = x.arrivedOf f → ∃ t, exec (.frameDone h b) s = .next t ∧ t.toll = (u.frameLand k f).toll ∧
        t.docket = (u.frameLand k f).docket ∧ t.mem = (u.frameLand k f).mem) ∧
    (heard s h 0x09 b i → s.reservedExt + fieldAt b 2 2 ≤ 61440 → s.queuesUsed < 4096 → ∃ t, exec (.queueOpen h b) s = .next t ∧
      t.queueOf s.freeQueue = { (default : Queue) with
        kind := kCarrier, depth := fieldAt b 2 2, cls := if fieldAt b 4 2 = 1 then 2 else 1, source := s.peerNum i, qid := fieldAt b 0 2 } ∧
      awaits t i 0x0A (leBytes 2 0 ++ leBytes 2 s.freeQueue ++ leBytes 2 (fieldAt b 0 2) ++ leBytes 2 0) ∧
      (∀ k, k ≠ s.freeQueue → t.queueOf k = s.queueOf k) ∧ t.mem = s.mem) ∧
    (heard s h 0x0B b i → let q := fieldAt b 0 2
      s.ownQueue i q = true →
      (fieldAt b 2 1 = 1 → (s.queueOf q).state = 1 → ∃ t, exec (.queueCtl h b) s = .next t ∧
        t.queueOf q = { s.queueOf q with state := 0, byError := false } ∧ t.mem = s.mem) ∧
      (fieldAt b 2 1 = 3 → s.tagsOfQueue q = [] → ∃ t, exec (.queueCtl h b) s = .next t ∧ seqTaken t i h.seq ∧
        t.queueOf q = { (default : Queue) with state := 3 } ∧ t.docket.tags = s.docket.tags ∧ t.mem = s.mem)) ∧
    (heard s h 0x0E b i → let q := fieldAt b 0 2
      let cid := fieldAt b 2 2
      (s.ownQueue i q = false → ∃ t, exec (.carrierAbort h b) s = .next t ∧ seqTaken t i h.seq ∧ t.docket = s.docket ∧ t.mem = s.mem ∧
        awaits t i 0x0F (leBytes 2 q ++ leBytes 2 cid ++ leBytes 1 2 ++ leBytes 3 0)) ∧
      (s.ownQueue i q = true → ∀ tag, s.tagByCid q cid = some tag → (s.tagOf tag).state = .dispatched →
        (s.tagOf tag).catchable = true → (s.tagOf tag).aborted = false → ∃ t, exec (.carrierAbort h b) s = .next t ∧
          t.tagOf tag = { s.tagOf tag with aborted := true, status := 0x6060, late := (s.tagOf tag).late ++ [[1, s.peerNum i, q, cid, 0]] } ∧
          t.mem = s.mem)) ∧
    (heard s h 0x11 b i → let r := parseReq b
      let d := u.judge r
      let k := s.slotNo * 32 + s.freeTake
      u.reqStatus r = 0 → s.toll.solo = none → d.status = 0 ∨ d.status = 0x70 → u.reqSolo r = false ∨ s.mode ≠ .paired → r.extend = false →
      s.queuesUsed < 4096 → ∃ t, exec (.takeOpen h b) s = .next t ∧ (t.takeOf k).state = 1 ∧ (t.takeOf k).rate = r.rate ∧
        (t.takeOf k).vol = r.vol ∧ (t.takeOf k).route = 1 ∧ (t.takeOf k).peer = s.peerNum i ∧ (t.takeOf k).kept = s.opsec + d.d ∧
        (t.takeOf k).req = b ∧ ∀ j, j ≠ k → t.takeOf j = s.takeOf j) ∧
    (heard s h 0x13 b i → let k := fieldAt b 0 1
      let x := s.takeOf k
      k < 64 → 1 ≤ x.state → x.state ≤ 3 → ∃ t, exec (.takeClose h b) s = .next t ∧
        (s.tagsOfQueue x.queue = [] → x.toGen = [] → t.takeOf k = default) ∧
        (s.tagsOfQueue x.queue ≠ [] ∨ x.toGen ≠ [] → (t.takeOf k).state = 4 ∧ (t.takeOf k).regIdx = 0) ∧
        (x.regIdx = 0 → ∀ j, j ≠ k → t.takeOf j = s.takeOf j)) ∧
    (heard s h 0x16 b i → ∃ t, exec (.carrierRepl h b) s = .next t ∧ t.sieve = (u.replTake (s.peerNum i) b).sieve ∧
      t.mem = (u.replTake (s.peerNum i) b).mem)

namespace Sys2Proof.Claims

/-- The rule of R366 on a rate, its alpha and a CE fraction in units of 1/65,536: alpha moves by a sixteenth towards the fraction; a
rate that saw CE falls by half of alpha, down to 100 Mb/s, another rises by RATE_STEP hundreds, up to line rate. -/
def rateNext (line step rate alpha f : Nat) : Nat × Nat :=
  let a := alpha * 15 / 16 + f / 16
  (if f = 0 then min line (rate + step * 100) else max 100 (rate - rate * a / 131072), a)

/-- A queue pair's queue is one the NVMe side serves (R374). -/
def rocePair (s : State) (q : Nat) : Prop := (s.queueOf q).kind = kNvme ∨ (s.queueOf q).kind = kAdmin

/-- Bit 16 of the flags of what goes out: its datagrams bear ECT(0), with feature 67 (R354). -/
def ecn (s : State) : Nat := if s.feat 67 then 65536 else 0

end Sys2Proof.Claims

/-- A malformed datagram is counted on its port. REASM_MS drops the message; a gap puts it in the store with the segments
received and asks for the rest. ACK_DELAY_US sends an ACK; the RTO repeats the message with RESEND; GIVEUP_MS and RESET put
the entry in ERROR, and QUEUE_GRACE_S then deletes its queues. An interval moves rate and alpha as R366 says; a CNP does so
with a free fraction. The end of Carrier-M ends its sessions and its Tally claims. A queue pair's error deletes its queue; a
local ACK timeout repeats, the eighth fails the pair. A fabric link goes down, and trains up where its port and mode allow.
(R357, R360, R361, R365, R366, R374, R377, R527, assumption log 8 (the CE fraction of a CNP is a free value)) -/
def Obligations.CarrierTimersAndSegments : Prop :=
  ∀ (s : State),
    (∀ port, port < 8 → s.carrierUp port = true →
      let f : Fld := { F.FABRIC_P_ERR_DISCARDED with addr := R.FABRIC_P_ERR + 64 * (port % 4) }
      ∃ t, exec (.malformedSegment port) s = .next t ∧ t.getF f = (s.getF f + 1) % 2 ^ f.w ∧ t.rest = s.rest) ∧
    (∀ h, ∃ t, exec (.reasmTimeout h) s = .next t ∧ (∀ r ∈ t.car.reasm, r.of h = false) ∧
      (∀ r ∈ s.car.reasm, r.of h = false → r ∈ t.car.reasm) ∧ { t with car := s.car } = s) ∧
    (∀ (h : CarHdr) (map i : Nat), s.carrierUp h.port = true → s.carAddr h = true → s.reasmRoom h h.declared = true → s.carFind h = some i →
      (s.peerAt i).used = true → (s.peerAt i).rxEpoch = h.epoch → ∃ t, exec (.missingGap h map) s = .next t ∧ t.mem = s.mem ∧
        (⟨h.node, h.port, h.epoch, h.seq, h.declared, map⟩ : Reasm) ∈ t.car.reasm ∧
        Out.carrier (s.peerNum i) 0x04 (carFlags i + ecn s) (s.peerAt i).txEpoch 0 0 (ackBody h.epoch (s.peerAt i).cum (s.peerAt i).sack
          (s.peerAt i).ce [⟨h.seq, 2, 0, 0, map⟩]) ∈ t.outbox) ∧
    (∀ i, let p := s.peerAt i
      (p.used = true → 0 < p.got → ∃ t, exec (.ackDelayExpiry i) s = .next t ∧ t.peerAt i = { p with got := 0, ce := 0 } ∧
        t.outbox = s.outbox ++ [.carrier (s.peerNum i) 0x04 (carFlags i + ecn s) p.txEpoch 0 0 (ackBody p.rxEpoch p.cum p.sack p.ce [])] ∧
        t.mem = s.mem) ∧
      (∀ seq m, p.out.find? (fun m => m.seq = seq && m.sent) = some m → ∃ t, exec (.rtoExpiry i seq) s = .next t ∧
        (t.peerAt i).out = p.out.map (fun x => if x.seq = seq then { m with tries := m.tries + 1, at_ := s.time, rto := min 4000 (2 * m.rto) } else x) ∧
        Out.carrier (s.peerNum i) m.type ((m.flags ||| 8) + ecn s) p.txEpoch seq m.iv m.body ∈ t.outbox ∧ t.docket = s.docket ∧ t.mem = s.mem) ∧
      (p.used = true → p.state ≠ 2 → (∃ m ∈ p.out, m.sent = true) → ∃ t, exec (.giveupExpiry i) s = .next t ∧
        (t.peerAt i).state = 2 ∧ (t.peerAt i).out = [] ∧ (t.peerAt i).errAt = s.time + 1) ∧
      (p.state = 2 → ∃ t, exec (.queueGraceExpiry i) s = .next t ∧
        ∀ q, (s.queueOf q).kind = kCarrier → (s.queueOf q).source = s.peerNum i → (t.queueOf q).kind = 0) ∧
      (s.feat 67 = true → p.used = true → p.sentI ≠ 0 → p.ackedI ≠ 0 → ∃ t, exec (.rateInterval false i) s = .next t ∧
        let r := rateNext (s.lineRate p.port) (s.getF F.CARRIER_CFG_RATE_STEP) p.rate p.alpha (min 65536 (p.ceI * 65536 / p.ackedI))
        t.peerAt i = { p with rate := r.1, alpha := r.2, sentI := 0, ackedI := 0, ceI := 0 } ∧ { t with car := s.car } = s)) ∧
    (∃ t, exec .cmLinkDown s = .next t ∧ t.mSessions = [] ∧ (∀ u, u < 32 → t.getF (F.TALLY_U_CFG_OWNER.at u) ≠ 2) ∧ t.mem = s.mem) ∧
    (AMap.wf (fun _ => (default : Qp)) s.car.qps = true → ∀ q, let x := s.car.qps.get q
      let line := s.lineRate 0
      let step := s.getF F.CARRIER_CFG_RATE_STEP
      (∃ t, exec (.rateInterval true q) s = .next t ∧ { t with car := s.car } = s ∧
        t.car.qps.get q = (if x.cnp then { x with cnp := false }
          else { x with rate := (rateNext line step x.rate x.alpha 0).1, alpha := (rateNext line step x.rate x.alpha 0).2 })) ∧
      (rocePair s q → (∃ t, exec (.qpError q) s = .next t ∧ (t.queueOf q).kind = 0 ∧ t.car.qps.get q = default) ∧
        (∃ t, exec (.roceCnp q) s = .next t ∧ t.freeCtr = s.freeCtr + 1 ∧ t.mem = s.mem ∧
          let r := rateNext line step (if x.rate = 0 then line else x.rate) x.alpha (1 + (Config.freeValue s.freeCtr).toNat % 65536)
          t.car.qps.get q = { x with rate := r.1, alpha := r.2, cnp := true }) ∧
        (x.retries < 7 → ∃ t, exec (.localAckTimeout q) s = .next t ∧ t.car.qps.get q = { x with retries := x.retries + 1 } ∧
          t.outbox = s.outbox ++ [.roce q 1] ∧ t.docket = s.docket ∧ t.mem = s.mem) ∧
        (7 ≤ x.retries → ∃ t, exec (.localAckTimeout q) s = .next t ∧ (t.queueOf q).kind = 0 ∧ t.car.qps.get q = default))) ∧
    (∀ link, link < 8 → let two (t : State) (k : Nat) := t.getN R.FABRIC_LINK / 4 ^ k % 4
      (∃ t, exec (.fabricLinkDown link) s = .next t ∧ two t link = 0 ∧ (∀ k, k < 8 → k ≠ link → two t k = two s k) ∧ t.rest = s.rest) ∧
      (let p := link / 2
       let fm := s.car.fabMode - s.car.fabMode / 4 ^ p % 4 * 4 ^ p + s.getF F.FABRIC_CFG_MODE / 4 ^ p % 4 * 4 ^ p
       s.power = .on → s.mode ≠ .holdup → portOpen s.grade p = true → ∃ t, exec (.fabricLinkTrained link) s = .next t ∧
         t.car.fabMode = fm ∧ two t link = (if linkOn fm link then 2 else 0) ∧ (∀ k, k < 8 → k ≠ link → two t k = two s k) ∧
         t.mem = s.mem))

/-- For the entry CARRIER_PEER_SEL names: RESET puts it in ERROR, PIN pins it while fewer than 256 are, UNPIN unpins it, STATUS
0; a stale number is refused with 0x8113 by each. CREATE registers a window at the lowest FREE index with its base, length,
access and peer, ACTIVE, selected, its key a free value; a length of 0 or an unaligned base is refused with 0x5117, a range
in the Till or the Strongroom with 0x7113. REVOKE of an ACTIVE window makes it REVOKING from this Reeve number, BUSY; once
its accesses have drained it is FREE and BUSY ends. A served address is announced, for IPv4 too where that is configured and
accepted, and counted. (R363, R364, R365, R367, R369, R376, R409) -/
def Obligations.PeersRegistrationsAndAddresses : Prop :=
  ∀ (s : State),
    (let n := s.getF F.CARRIER_PEER_SEL_VAL
     let i := n % 65536
     let p := s.peerAt i
     let st := F.CARRIER_PEER_CTL_STATUS
     (s.peerLive n = true → (p.state ≠ 2 → ∃ t, exec .peerReset s = .next t ∧ completed t st 0 ∧ (t.peerAt i).state = 2 ∧
         (t.peerAt i).out = [] ∧ (t.peerAt i).errAt = s.time + 1) ∧
       (p.pinned = true ∨ (s.car.peers.filter (fun p => p.2.pinned)).length < 256 → ∃ t, exec .peerPin s = .next t ∧ completed t st 0 ∧
         t.peerAt i = { p with pinned := true } ∧ (∀ k, k ≠ i → t.peerAt k = s.peerAt k) ∧ t.mem = s.mem) ∧
       (∃ t, exec .peerUnpin s = .next t ∧ completed t st 0 ∧ t.peerAt i = { p with pinned := false } ∧
         (∀ k, k ≠ i → t.peerAt k = s.peerAt k) ∧ t.mem = s.mem)) ∧
     (s.peerLive n = false → ∀ c ∈ [Instr.peerReset, .peerPin, .peerUnpin], ∃ t, exec c s = .next t ∧ completed t st 0x8113 ∧
       t.car = s.car)) ∧
    (let base := s.getN R.CARRIER_REG_BASE
     let pages := s.getF F.CARRIER_REG_CTL_LENGTH
     let len := pages * 4096
     let i := s.regFree 1048576 0
     let st := F.CARRIER_REG_CTL_STATUS
     s.getF F.CARRIER_REG_CTL_BUSY ≠ 1 →
      (len ≠ 0 → base % 4096 = 0 → base + len ≤ s.globalTop → s.inTill base len = false → s.inStrong base len = false → i < 1048576 →
        ∃ t, exec .regCreate s = .next t ∧ completed t st 0 ∧ t.getF F.CARRIER_REG_SEL_VAL = i ∧ t.freeCtr = s.freeCtr + 1 ∧
          t.getF (F.CARRIER_REG_INFO_STATE.at i) = 1 ∧ t.getF (F.CARRIER_REG_INFO_KIND.at i) = 2 ∧
          t.getF (F.CARRIER_REG_BASE_ALL.at i) = base ∧ t.getF (F.CARRIER_REG_INFO_LENGTH.at i) = pages % 2 ^ F.CARRIER_REG_INFO_LENGTH.w ∧
          t.getF (F.CARRIER_REG_INFO_ACCESS.at i) = s.getF F.CARRIER_REG_CTL_ACCESS % 2 ^ F.CARRIER_REG_INFO_ACCESS.w ∧
          t.getF (F.CARRIER_REG_PEER_ALL.at i) = s.getN R.CARRIER_REG_PEER ∧
          t.getF (F.CARRIER_REG_HANDLE_ALL.at i) / 2 ^ 24 % 2 ^ 24 = (Config.freeValue s.freeCtr).toNat % 2 ^ 24 ∧ t.mem = s.mem) ∧
      (len = 0 ∨ base % 4096 ≠ 0 → ∃ t, exec .regCreate s = .next t ∧ completed t st 0x5117) ∧
      (len ≠ 0 → base % 4096 = 0 → base + len ≤ s.globalTop → s.inTill base len = true ∨ s.inStrong base len = true →
        ∃ t, exec .regCreate s = .next t ∧ completed t st 0x7113) ∧
      (let k := s.getF F.CARRIER_REG_SEL_VAL
       s.getF (F.CARRIER_REG_INFO_STATE.at k) = 1 → s.getF (F.CARRIER_REG_INFO_KIND.at k) = 2 → ∃ t, exec .regRevoke s = .next t ∧
         completed t st 0 ∧ t.getF F.CARRIER_REG_CTL_BUSY = 1 ∧ t.getF (F.CARRIER_REG_INFO_STATE.at k) = 2 ∧
         t.getF (F.CARRIER_REG_REVOKE_SEQ_ALL.at k) = s.now ∧ t.mem = s.mem)) ∧
    (∀ i, i < 1048576 → s.getF (F.CARRIER_REG_INFO_STATE.at i) = 2 → ∃ t, exec (.revocationDrained i) s = .next t ∧
      t.getF (F.CARRIER_REG_INFO_STATE.at i) = 0 ∧ t.car.freed.get i = s.time + 1 ∧
      (s.getF (F.CARRIER_REG_INFO_KIND.at i) = 2 → t.getF F.CARRIER_REG_CTL_BUSY = 0) ∧ t.mem = s.mem) ∧
    (∀ i, i < 16 → s.getF (F.FABRIC_SADDR_STATE_SERVING.at i) ≠ 0 → s.deaf = false → ∃ t, exec (.saddrAnnounce i) s = .next t ∧
      let both := s.getF (F.FABRIC_SADDR_CFG_V4.at i) = 1 ∧ s.feat 68 = true
      (both → t.outbox = s.outbox ++ [.announce (2 * i), .announce (2 * i + 1)]) ∧ (¬ both → t.outbox = s.outbox ++ [.announce (2 * i)]) ∧
      t.getF (F.FABRIC_SADDR_STATE_SENT.at i) =
        (s.getF (F.FABRIC_SADDR_STATE_SENT.at i) + if s.getF (F.FABRIC_SADDR_CFG_V4.at i) = 1 ∧ s.feat 68 = true then 2 else 1) %
          2 ^ F.FABRIC_SADDR_STATE_SENT.w ∧ t.mem = s.mem)

/-- SIEVE_VOL_CFG sets DEDUP, and VAULT of a volume neither bound nor mapped at once outside PAIRED, and in PAIRED once the
partner has it; otherwise 0x70C0. TAKE of a set this head owns snapshots each at one epoch and Reeve number and raises the
epoch; a set the partner owns in part waits, BUSY, behind a barrier in PAIRED. DELETE, PRESENT and WITHDRAW leave what R240
and R241 say; a held snapshot is refused with 0x70C1, an unknown one with 0x50C0. While BUSY each answers 0x80C1. A Sieve
page that does not come completes LOOKUP with 0x8050; a map page that is lost, or fetched, completes MAP.L; a filter that is
ready ends its commons's rebuild. (R113, R114, R226, R235, R237, R239, R240, R241, R251, R279, R276) -/
def Obligations.VaultsSnapshotsAndLookups : Prop :=
  ∀ (s : State),
    (∀ (w : Word), let v := s.getF F.SIEVE_VOL_SEL_VAL
      let vault := F.SIEVE_VOL_CFG_VAULT.get w
      let old := s.getF (F.SIEVE_VOL_CFG_VAULT.at v)
      let st := F.SIEVE_VOL_CFG_STATUS.at v
      let empty := (s.volOf v).slot = 0 ∧ s.volMapped v = false
      (vault = old ∨ (empty ∧ s.mode ≠ .paired) → ∃ t, exec (.sieveVaultWrite w) s = .next t ∧ completed t st 0 ∧
        t.getF (F.SIEVE_VOL_CFG_VAULT.at v) = vault ∧ t.getF (F.SIEVE_VOL_CFG_DEDUP.at v) = F.SIEVE_VOL_CFG_DEDUP.get w ∧ t.mem = s.mem) ∧
      (vault ≠ old → empty → s.mode = .paired → ∃ t, exec (.sieveVaultWrite w) s = .next t ∧ t.reply = 0 ∧
        t.getF (F.SIEVE_VOL_CFG_VAULT.at v) = old ∧ t.getF (F.SIEVE_VOL_CFG_DEDUP.at v) = s.getF (F.SIEVE_VOL_CFG_DEDUP.at v) ∧ t.mem = s.mem ∧
        t.hands = { s.hands with acts := s.hands.acts ++ [⟨true, 3, v, vault, F.SIEVE_VOL_CFG_DEDUP.get w, []⟩] }) ∧
      (vault ≠ old → ¬ empty → ∃ t, exec (.sieveVaultWrite w) s = .next t ∧ completed t st 0x70C0 ∧
        t.getF (F.SIEVE_VOL_CFG_VAULT.at v) = old ∧ t.getF (F.SIEVE_VOL_CFG_DEDUP.at v) = s.getF (F.SIEVE_VOL_CFG_DEDUP.at v))) ∧
    (s.getF F.SIEVE_SNAP_CTL_BUSY = 1 → ∀ c ∈ [Instr.snapTake, .snapDelete, .snapPresent, .snapWithdraw],
      ∃ t, exec c s = .next t ∧ t.reply = 0x80C1 ∧ t.sieve = s.sieve ∧ t.docket = s.docket) ∧
    (let st := F.SIEVE_SNAP_CTL_STATUS
     s.getF F.SIEVE_SNAP_CTL_BUSY ≠ 1 → s.feat 35 = true →
     (let vs := s.snapSet
      let e := s.poolEpoch
      vs ≠ [] → (∀ v ∈ vs, (s.volOf v).size ≠ 0) → s.snapRoom vs = true →
       ((∀ v ∈ vs, s.owns (s.volOf v).commons = true) → ∃ t, exec .snapTake s = .next t ∧ completed t st 0 ∧
         t.getF F.SIEVE_SNAP_CTL_EPOCH = e % 2 ^ F.SIEVE_SNAP_CTL_EPOCH.w ∧ t.getF F.SIEVE_EPOCH_VAL = (e + 1) % 2 ^ F.SIEVE_EPOCH_VAL.w ∧
         ∀ v ∈ vs, t.snapOf v e = { (default : Snap) with
           state := 1, reeve := s.now, map := s.stew.map.filter (fun p => p.1 / 2 ^ 48 = v) }) ∧
       ((∃ v ∈ vs, s.owns (s.volOf v).commons = false) → s.mode = .paired → ∃ t, exec .snapTake s = .next t ∧ t.reply = 0 ∧
         t.getF F.SIEVE_SNAP_CTL_BUSY = 1 ∧ t.sieve.barrier = vs ∧ t.sieve.barrierEpoch = e ∧ t.sieve.snaps = s.sieve.snaps)) ∧
     (let v := s.getF F.SIEVE_SNAP_ARG_VOLUME
      let e := s.getF F.SIEVE_SNAP_ARG_EPOCH
      let a := s.getF F.SIEVE_SNAP_ARG_AT_VOLUME
      let x := s.snapOf v e
      (x.state = 1 → x.presented = 0 → s.snapHolders v e = 0 → ∃ t, exec .snapDelete s = .next t ∧ completed t st 0 ∧
        t.snapOf v e = { x with state := 2 } ∧ t.docket = s.docket ∧ t.mem = s.mem) ∧
      (x.state = 1 → x.presented ≠ 0 ∨ s.snapHolders v e ≠ 0 → ∃ t, exec .snapDelete s = .next t ∧ completed t st 0x70C1 ∧
        t.sieve = s.sieve) ∧
      (x.state ≠ 1 → ∀ c ∈ [Instr.snapDelete, .snapPresent], ∃ t, exec c s = .next t ∧ completed t st 0x50C0 ∧ t.sieve = s.sieve) ∧
      (x.state = 1 → x.presented = 0 → (s.volOf a).size = 0 → s.owns (s.volOf v).commons = true →
        ∃ t, exec .snapPresent s = .next t ∧ completed t st 0 ∧ t.snapOf v e = { x with presented := a + 1 } ∧
          t.volOf a = { s.volOf v with readOnly := true, presented := e + 1, presVol := v } ∧
          t.getF (F.SIEVE_VOL_CFG_READ_ONLY.at a) = 1 ∧ (∀ k, k ≠ a → t.volOf k = s.volOf k) ∧ t.mem = s.mem) ∧
      (x.presented ≠ 0 → ∃ t, exec .snapWithdraw s = .next t ∧ completed t st 0 ∧ (t.snapOf v e).presented = 0 ∧
        t.volOf (x.presented - 1) = default ∧ t.getF (F.SIEVE_VOL_CFG_READ_ONLY.at (x.presented - 1)) = 0 ∧ t.mem = s.mem) ∧
      (x.presented = 0 → ∃ t, exec .snapWithdraw s = .next t ∧ completed t st 0x50C0 ∧ t.sieve = s.sieve))) ∧
    (∀ c, ∃ t, exec (.sieveFilterReady c) s = .next t ∧ c ∉ t.sieve.building ∧
      (∀ k, k ≠ c → (k ∈ t.sieve.building ↔ k ∈ s.sieve.building)) ∧ (t.getF F.SIEVE_STATE_REBUILDING = 0 ↔ t.sieve.building = []) ∧
      t.mem = s.mem) ∧
    (∀ (e : Eng) (slot : Nat) (o : AccelOp), (s.ctx e).ops[slot]? = some o → (s.ctx e).state = .ready →
      (o.op = .sieve → o.imm % 4 = 0 → s.excludedFor e (s.fpOf e o) = false → s.lookupReads (s.fpOf e o) = true → ∃ t, exec (.sievePageTimeout e slot) s = .next t ∧
        t.ctx e = wordGiven (s.ctx e) slot o.rd 0x8050 ∧ t.getN R.SIEVE_UNAVAIL = (s.getN R.SIEVE_UNAVAIL + 1) % 2 ^ 64 ∧ t.mem = s.mem) ∧
      (o.op = .mapL → e.kind ≠ .hand ∨ (s.tagOf (s.ctx e).tag).aborted = false →
        (∃ t, exec (.mapPageFetched e slot true) s = .next t ∧ t.ctx e = wordGiven (s.ctx e) slot o.rd 0x4056 ∧ t.mem = s.mem) ∧
        (let v := seeGroup (grainKey o.ra.toNat) (s.ctx e).group (s.mapSeen e (grainKey o.ra.toNat))
         v.length ≠ 17 → s.scarred v.whole = false → ∃ t, exec (.mapPageFetched e slot false) s = .next t ∧
           t.ctx e = wordGiven (s.ctx e) slot o.rd (if v.whole = 0 then 0 else 0x10000) ∧
           t.mem = (s.wrView e.unitNo o.db (entryBytes v.whole)).mem)) ∧
      (o.op = .mapL → e.kind = .hand → (s.tagOf (s.ctx e).tag).aborted = true → ∀ lost, ∃ t, exec (.mapPageFetched e slot lost) s = .next t ∧
        t.ctx e = wordGiven (s.ctx e) slot o.rd 0x6050 ∧ t.mem = s.mem))

/-- OPEN of an IDLE or FAILED link whose settings hold makes it OPENING, BUSY, its bytes 0, with a live peer, and FAILED with
0x8113 without. CLOSE of one that withholds nothing makes it IDLE and empty. CYCLE_NOW and the cycle's timer on a WAITING
one take a snapshot and start the next BATCH; CYCLE_NOW elsewhere is refused with 0x50C0. A synchronous link that is lost,
or whose write is not acknowledged, completes what it withholds and shows OUT OF STEP, or HALTED where it is told to halt;
an asynchronous one opens again. One that returns sends what was marked, under the next BATCH. (R242, R243, R245, R247,
R248, R250) -/
def Obligations.ReplicationLinksAreDriven : Prop :=
  ∀ (s : State),
    let begun (t : State) (k : Nat) : Prop :=
      t.getF (F.SIEVE_REPL_STATE_BATCH.at k) = (s.getF (F.SIEVE_REPL_STATE_BATCH.at k) + 1) % 2 ^ F.SIEVE_REPL_STATE_BATCH.w ∧
      t.getF (F.SIEVE_REPL_EPOCHS_SENT.at k) = s.poolEpoch % 2 ^ F.SIEVE_REPL_EPOCHS_SENT.w ∧ (t.snapOf (s.linkVol k) s.poolEpoch).state = 1 ∧
      (t.linkOf k).sending = s.poolEpoch + 1
    (let k := s.getF F.SIEVE_REPL_SEL_VAL
     let mode := s.getF (F.SIEVE_REPL_CFG_MODE.at k)
     let st := F.SIEVE_REPL_CTL_STATUS.at k
     (s.linkState k = 0 ∨ s.linkState k = 9 → mode = 1 ∨ mode = 2 → (s.volOf (s.linkVol k)).size ≠ 0 → s.feat (35 + mode) = true →
       s.owns (s.volOf (s.linkVol k)).commons = true →
       (s.peerLive (s.getF (F.SIEVE_REPL_PEER_VAL.at k)) = true → ∃ t, exec .replOpen s = .next t ∧ completed t st 0 ∧ t.linkState k = 1 ∧
         t.getF (F.SIEVE_REPL_CTL_BUSY.at k) = 1 ∧ t.getF (F.SIEVE_REPL_BYTES_ALL.at k) = 0 ∧ t.mem = s.mem) ∧
       (s.peerLive (s.getF (F.SIEVE_REPL_PEER_VAL.at k)) = false → ∃ t, exec .replOpen s = .next t ∧ completed t st 0x8113 ∧
         t.linkState k = 9 ∧ t.mem = s.mem)) ∧
     ((s.linkOf k).waits = [] → ∃ t, exec .replClose s = .next t ∧ completed t st 0 ∧ t.linkState k = 0 ∧ t.linkOf k = default ∧
       t.getF (F.SIEVE_REPL_CTL_BUSY.at k) = 0 ∧ t.docket = s.docket ∧ t.mem = s.mem) ∧
     (s.linkState k = 4 → s.snapRoom [s.linkVol k] = true → ∃ t, exec .replCycleNow s = .next t ∧ completed t st 0 ∧ begun t k) ∧
     (s.linkState k ≠ 4 → ∃ t, exec .replCycleNow s = .next t ∧ completed t st 0x50C0 ∧ t.sieve = s.sieve)) ∧
    (∀ k, k < 16 → let l := s.linkOf k
      let mode := s.getF (F.SIEVE_REPL_CFG_MODE.at k)
      let now := s.linkState k
      (now = 4 → s.snapRoom [s.linkVol k] = true → ∃ t, exec (.replCycleExpiry k) s = .next t ∧ begun t k) ∧
      (mode = 2 → now = 3 ∨ now = 5 ∨ now = 7 → ∀ c, c = .replLinkLost k ∨ (l.waits ≠ [] ∧ c = .syncAckTimeout k) →
        ∃ t, exec c s = .next t ∧ t.linkState k = (if s.getF (F.SIEVE_REPL_CFG_HALT.at k) = 1 then 8 else 6) ∧ (t.linkOf k).waits = [] ∧
          (t.linkOf k).batch = [] ∧ t.getF (F.SIEVE_REPL_LAG_UNACKED.at k) = 0) ∧
      (mode ≠ 2 → now = 2 ∨ now = 3 → ∃ t, exec (.replLinkLost k) s = .next t ∧ t.linkState k = 1 ∧
        t.linkOf k = { l with todo := [], toOffer := [], offered := [], copying := 0 } ∧ t.docket = s.docket ∧ t.mem = s.mem) ∧
      (now = 6 ∨ now = 8 → s.snapRoom [s.linkVol k] = true → ∃ t, exec (.replLinkReturn k) s = .next t ∧ begun t k ∧
        (t.linkOf k).catchUp = [] ∧ (t.linkOf k).batch = l.catchUp) ∧
      (now = 1 → ∃ t, exec (.replLinkReturn k) s = .next t ∧ t.linkState k = 1 ∧ t.linkOf k = l ∧ t.docket = s.docket ∧ t.mem = s.mem))

/-- At the receiver: OPEN of a volume in the vault's key makes it a read-only target; an OFFER of a fingerprint the index holds
takes a reference into the staging epoch, and of an excluded volume none; a GRAIN and an UNMAP are staged and counted; a
COMMIT whose counts match makes the staging epoch the target's map and empties it, one whose counts differ discards it with
0x50C1; SYNC_WRITE parts gather until LAST. At the sender: OPEN_REPLY makes an asynchronous link WAITING with the epoch
held, or FAILED with its status; a HAVE that leaves nothing to send is followed by COMMIT; COMMIT_ACK makes what was sent
the base and the link WAITING; SYNC_ACK releases the write. (R242, R243, R245, R246, R247) -/
def Obligations.ReplicationRecordsAreTaken : Prop :=
  ∀ (s : State) (peer link batch epoch count : Nat) (b : List Byte),
    (let k := rxLink peer link
     let l := s.linkOf k
     (let v := fieldAt b 10 2
      let vault := fieldAt b 4 1
      let x := s.volOf v
      let key := s.mill.slots.get (0x100 + vault)
      v < 4096 → x.size ≠ 0 → s.getF (F.SIEVE_VOL_CFG_VAULT.at v) = vault → fieldAt b 3 1 = 1 ∨ fieldAt b 3 1 = 2 →
      s.feat (35 + fieldAt b 3 1) = true → s.owns x.commons = true → key.state = 1 → key.ident = fieldAt b 16 8 →
        ∃ t, exec (.replRecOpen peer link batch b) s = .next t ∧ t.volOf v = { x with readOnly := true } ∧
          t.getF (F.SIEVE_VOL_CFG_READ_ONLY.at v) = 1 ∧ (t.linkOf k).target = true ∧ (t.linkOf k).tgtVol = v ∧ (t.linkOf k).staging = []) ∧
     (l.target = true →
       (s.excluded l.tgtVol = true → ∃ t, exec (.replRecOffer peer link batch epoch count b) s = .next t ∧ t.linkOf k = l ∧
         t.sieve.recs = s.sieve.recs ∧ t.mem = s.mem) ∧
       (let fk := fpKey (s.volOf l.tgtVol).commons (s.rxVault k) ((b.drop 8).take 32)
        let r := s.sieveRec fk
        s.excluded l.tgtVol = false → s.filterPass fk = true → s.recLive r = true → ∃ t, exec (.replRecOffer peer link batch epoch 1 b) s = .next t ∧
          t.linkOf k = { l with
            staging := l.staging ++ [{ leaf := false, cond := false, addr := l.tgtVol * 2 ^ 52 + fieldAt b 0 8 % 2 ^ 52, entry := r.entry, expect := 0 }]
            stageRefs := l.stageRefs ++ [{ op := if r.defunct then 4 else 2, key := fk, vol := l.tgtVol, entry := r.entry }]
            stageRecs := l.stageRecs + 1 }) ∧
       (∃ t, exec (.replRecGrain peer link b) s = .next t ∧ (t.linkOf k).stageRecs = l.stageRecs + 1 ∧
         (fieldAt b 9 1 % 32 = 0 → (t.linkOf k).staging = l.staging ++
           [{ leaf := fieldAt b 8 1 = 2, cond := false, addr := l.tgtVol * 2 ^ 52 + fieldAt b 0 8 % 2 ^ 52, entry := 0, expect := 0 }])) ∧
       (∃ t, exec (.replRecUnmap peer link count b) s = .next t ∧ t.linkOf k = { l with
         staging := l.staging ++ (upto count).flatMap (fun i => unmapUpds l.tgtVol (fieldAt b (16 * i) 8) (fieldAt b (16 * i + 8) 4))
         stageRecs := l.stageRecs + count } ∧ t.docket = s.docket ∧ t.mem = s.mem) ∧
       (l.last ≠ 0x8051 → fieldAt b 0 8 = l.stageRecs → fieldAt b 8 8 = l.stageBytes →
         ∃ t, exec (.replRecCommit peer link batch epoch b) s = .next t ∧ t.linkOf k = { l with
           staging := [], stageRecs := 0, stageBytes := 0, stageRefs := [], heldEpoch := epoch, last := 0 }) ∧
       (l.last ≠ 0x8051 → fieldAt b 0 8 ≠ l.stageRecs ∨ fieldAt b 8 8 ≠ l.stageBytes →
         ∃ t, exec (.replRecCommit peer link batch epoch b) s = .next t ∧ t.linkOf k = { l with
           staging := [], stageRecs := 0, stageBytes := 0, stageRefs := [], parts := [], last := 0x50C1 }) ∧
       (fieldAt b 10 1 = 0 → ∃ t, exec (.replRecSyncWrite peer link b) s = .next t ∧ t.linkOf k = { l with
         parts := l.parts.filter (fun p => p.1 = fieldAt b 0 8) ++ [(fieldAt b 0 8, b.drop 16)] } ∧ t.mem = s.mem) ∧
       (fieldAt b 10 1 ≠ 0 → ∃ t, exec (.replRecSyncWrite peer link b) s = .next t ∧ (t.linkOf k).parts = []))) ∧
    (∀ k, k < 16 → let l := s.linkOf k
      let now := s.linkState k
      let mode := s.getF (F.SIEVE_REPL_CFG_MODE.at k)
      let st := fieldAt b 0 2
      (now = 1 → st ≠ 0 → ∃ t, exec (.replRecOpenReply k b) s = .next t ∧ t.linkState k = 9 ∧
        t.getF (F.SIEVE_REPL_STATE_LAST_STATUS.at k) = st ∧ t.sieve = s.sieve ∧ t.mem = s.mem) ∧
      (now = 1 → st = 0 → mode = 1 → l.sending = 0 → l.base = fieldAt b 4 4 + 1 → ∃ t, exec (.replRecOpenReply k b) s = .next t ∧
        t.linkState k = 4 ∧ t.getF (F.SIEVE_REPL_EPOCHS_HELD.at k) = fieldAt b 4 4 ∧ t.sieve = s.sieve ∧ t.mem = s.mem) ∧
      (let has := (upto l.offered.length).filter (fun i => (leNat (b.take 128)).testBit i)
       let gone := has.map (fun i => l.offered.getD i 0)
       l.offered ≠ [] → l.copying = 0 → l.toOffer = [] → (∀ g ∈ l.todo, g ∈ gone) → ∃ t, exec (.replRecHave k b) s = .next t ∧
         t.linkState k = (if now = 7 then 7 else 3) ∧ t.linkOf k = { l with offered := [], held := l.held + has.length, todo := [] } ∧ t.docket = s.docket) ∧
      (now = 3 → st = 0 → mode = 1 → l.sending ≠ 0 → l.offered = [] → l.toOffer = [] → l.todo = [] → l.copying = 0 → ∃ t, exec (.replRecCommitAck k b) s = .next t ∧ t.linkState k = 4 ∧ t.linkOf k = { l with
         base := l.sending, sending := 0, batch := [], todo := [], lastCommit := s.opsec, heldEpoch := l.sending } ∧
         t.getF (F.SIEVE_REPL_EPOCHS_HELD.at k) = fieldAt b 4 4 ∧ t.docket = s.docket ∧ t.mem = s.mem)) ∧
    (∀ k, ∀ w ∈ (s.linkOf k).waits, w.seq = fieldAt b 0 8 → ∃ t, exec (.replRecSyncAck k b) s = .next t ∧
      (t.linkOf k).waits = (s.linkOf k).waits.filter (fun x => x.seq ≠ w.seq))

namespace Sys2Proof.Claims

/-- A stub of a type arrives whole and in sequence over a link that is up, and acknowledges nothing new (R256, R258). -/
def stubArrives (s : State) (b : List Byte) (type : Nat) : Prop :=
  let len := fieldAt b 4 4
  s.cfUp = true ∧ s.selfFenced = false ∧ 32 ≤ b.length ∧ fieldAt b 0 2 = 0x5C0F ∧ fieldAt b 0x1C 4 = crc32c (b.take 0x1C) ∧
    fieldAt b 2 1 = type ∧ len ≤ 65600 ∧ b.length = stubLen len ∧ fieldAt b (32 + len) 4 = crc32c ((b.drop 32).take len) ∧
    fieldAt b 8 8 = s.cf.rxSeq + 1 ∧ s.cf.txBase + fieldAt b 0x10 8 ≤ s.cf.acked

/-- The payload of a stub. -/
def stubBody (b : List Byte) : List Byte := (b.drop 32).take (fieldAt b 4 4)

/-- It has been taken in its place, and acknowledged by a stub of this head's own. -/
def stubTaken (s t : State) : Prop := t.cf.rxSeq = s.cf.rxSeq + 1 ∧ s.cf.txSeq < t.cf.txSeq

/-- The head has noted that it lost the partner and waits as the second (R406). -/
def waitsSecond (s t : State) : Prop :=
  t.getF F.COUNCIL_PAIR_ROLE = 2 ∧ t.pair.second = s.time + 1 ∧ t.mode = s.mode ∧ t.docket = s.docket ∧ t.mem = s.mem

end Sys2Proof.Claims

/-- A HEARTBEAT leaves the partner's time, mode, grade and limit, and HB; TILL_DATA stands in MIRROR in place of what had its
offset; DAYBOOK's whole groups enter the overlay and the rest waits; a LEDGER entry is held until closed; TAKE_STATE and
DOCKET records are held until 0; RELEASE trims MIRROR; a SOLO test leaves the partner's free space, and the roll's
activation its task; the end of the transfer puts a joining head in SERVICE; HOLDUP_NOTICE is noted; FLUSH_DONE lets the
second wait; NAK sends again what was sent and is kept from its SEQ on; a stub of a reserved type is counted. Each is taken
in its place and acknowledged. (R51, R79, R162, R256, R257, R258, R259, R269, R287, R338, R402, R458) -/
def Obligations.StubsAreTaken : Prop :=
  ∀ (s : State) (b : List Byte) (fl : List FlashCmn),
    let p := stubBody b
    (stubArrives s b 0x01 → p.length = 16 → fieldAt p 8 1 ≠ 2 → fieldAt p 8 1 ≠ 4 → fieldAt p 8 1 ≠ 6 →
      ∃ t, exec (.cfHeartbeat b) s = .next t ∧ stubTaken s t ∧ t.cf.lastBeat = s.time ∧ t.cf.partnerOpsec = fieldAt p 0 8 ∧
        t.cf.partnerMode = fieldAt p 8 1 ∧ t.cf.partnerGrade = fieldAt p 9 1 ∧ t.cf.partnerLimit = fieldAt p 12 4 ∧
        t.getF F.COUNCIL_PAIR_HB = 1 ∧ t.getF F.IDENT_MODE_PARTNER = 1 ∧ t.mode = s.mode ∧ t.mem = s.mem) ∧
    (stubArrives s b 0x02 → ∃ t, exec (.cfTillData b) s = .next t ∧ stubTaken s t ∧ t.docket = s.docket ∧ t.mem = s.mem ∧
      t.cf.mirror = s.cf.mirror.filter (fun x => x.off ≠ fieldAt p 0 8) ++
        [{ off := fieldAt p 0 8, addr := fieldAt p 8 8, tag := fieldAt p 0x10 2, kind := fieldAt p 0x12 1, reeve := fieldAt p 0x18 8
           data := p.drop 0x20 }]) ∧
    (stubArrives s b 0x03 → ∃ t, exec (.cfDaybook b) s = .next t ∧ stubTaken s t ∧ t.mem = s.mem ∧
      (let c := fieldAt p 0 2
       let g := splitGroups (parseRecs 1024 (p.drop 8)) (s.cf.gathering.get c)
       t.cf.gathering.get c = g.2 ∧ (g.1 = [] → t.cf.overlay = s.cf.overlay) ∧
       (∀ l, g.1 = [l] → t.cf.overlay = (l.flatMap (DbRec.overlay c)).foldl (fun m x => m.set x.1 x.2) s.cf.overlay))) ∧
    (stubArrives s b 0x04 → fieldAt p 0 4 = 1 → let e := (p.drop 8).take 192
      fieldAt e 0xBC 4 = crc32c (e.take 0xBC) → ∃ t, exec (.cfLedger b) s = .next t ∧ stubTaken s t ∧ t.mem = s.mem ∧
        t.cf.ledger.get (fieldAt e 8 2 * 2 ^ 33 + fieldAt e 0 8) = if fieldAt e 10 1 = 3 then [] else e) ∧
    (stubArrives s b 0x05 → ∃ t, exec (.cfTakeState b) s = .next t ∧ stubTaken s t ∧ t.toll = s.toll ∧ t.mem = s.mem ∧
      t.cf.takes.get (fieldAt p 0x43 1) = if fieldAt p 0x7C 4 = 0 then [] else p) ∧
    (stubArrives s b 0x06 → ∃ t, exec (.cfDocket b) s = .next t ∧ stubTaken s t ∧ t.docket = s.docket ∧ t.mem = s.mem ∧
      t.cf.docket.get (fieldAt p 0 2) = if fieldAt p 0x40 1 = 0 then [] else p) ∧
    (stubArrives s b 0x07 → fieldAt p 0 4 = 1 → let e := (p.drop 8).take 16
      fieldAt e 0 8 < 2 ^ 63 → ∃ t, exec (.cfRelease b) s = .next t ∧ stubTaken s t ∧ t.mem = s.mem ∧
        t.cf.mirror = s.cf.mirror.flatMap (fun m => m.trim (fieldAt e 0 8) (fieldAt e 8 8))) ∧
    (stubArrives s b 0x08 → fieldAt p 1 1 = 0 →
      (fieldAt p 0 1 = 5 → ∃ t, exec (.cfAct b fl) s = .next t ∧ stubTaken s t ∧ t.toll.partnerSlcFree = fieldAt p 8 8 ∧
        t.toll.partnerSpaceFree = fieldAt p 16 8 ∧ t.toll.takes = s.toll.takes ∧ t.mem = s.mem) ∧
      (fieldAt p 0 1 = 11 → ∃ t, exec (.cfAct b fl) s = .next t ∧ stubTaken s t ∧ t.strong.rollTask = 2 ∧ t.mem = s.mem)) ∧
    (stubArrives s b 0x09 → fieldAt p 0 1 = 2 → s.mode = .joining → s.pair.joined = true →
      ∃ t, exec (.cfJoin b fl) s = .next t ∧ stubTaken s t ∧ t.mode = .service ∧ t.getF F.IDENT_MODE_MODE = Mode.service.code ∧
        t.pair.joined = false ∧ t.getF F.COUNCIL_FAILBACK_STATE =
          (if s.strong.rolling = true ∨ (s.pairFeat 6 = true ∧ s.getF F.IDENT_JOIN_HOLDOFF ≠ 0) then 1 else 2) ∧ t.mem = s.mem) ∧
    (stubArrives s b 0x0A → ∃ t, exec (.cfHoldupNotice b) s = .next t ∧ stubTaken s t ∧ t.cf.holdup = true ∧ t.cf.flushDone = false ∧
      t.mode = s.mode ∧ t.mem = s.mem) ∧
    (stubArrives s b 0x0B → s.cf.holdup = true → s.lossRole = 2 → ∃ t, exec (.cfFlushDone b fl) s = .next t ∧ stubTaken s t ∧
      waitsSecond s t ∧ t.getF F.COUNCIL_PAIR_HB = 0 ∧ t.cf.holdup = false ∧ t.cf.flushDone = true ∧
      (fieldAt p 8 4 = 0 → t.cf.mirror = [] ∧ t.cf.ledger = []) ∧ (fieldAt p 8 4 ≠ 0 → t.cf.mirror = s.cf.mirror)) ∧
    (stubArrives s b 0x0C → ∃ t, exec (.cfNak b) s = .next t ∧ stubTaken s t ∧ t.docket = s.docket ∧ t.mem = s.mem ∧
      t.getN R.TILL_CF_RESENDS =
        (s.getN R.TILL_CF_RESENDS + (s.cf.store.filter (fun x => decide (s.cf.txBase + fieldAt p 0 8 ≤ x.seq) && decide (x.seq ≤ s.cf.sent))).length) % 2 ^ 64) ∧
    (∀ type, type = 0 ∨ 0x0C < type → stubArrives s b type → ∃ t, exec (.cfReservedStub b) s = .next t ∧ stubTaken s t ∧
      t.getF F.TILL_CF_ERR_LENGTH = (s.getF F.TILL_CF_ERR_LENGTH + 1) % 2 ^ 32 ∧ t.docket = s.docket ∧ t.toll = s.toll ∧ t.mem = s.mem)

/-- While ALIVE has advanced within 10 ms the tick sends a HEARTBEAT of time, mode, grade and limit. The budget and the limit
are those of the voltage measured. Without FLUSH_DONE the second head waits. RETRAIN in SOLO, SERVICE or JOINING starts
training, BUSY; while BUSY it completes with 0x80D0, elsewhere with 0x70D0. Training that ends on whole lanes raises
LINK_EPOCH, starts SEQ anew and shows UP or DEGRADED, and on none is DOWN. A lane that fails leaves the half that is whole.
The link that goes down shows DOWN. (R255, R256, R257, R258, R261, R263, R269, R271, R272, R402, R406) -/
def Obligations.HeartbeatsBudgetAndLink : Prop :=
  ∀ (s : State) (fl : List FlashCmn),
    let st := F.TILL_CF_CTL_STATUS
    let lanes (t : State) (m : Nat) : Prop := t.getF F.TILL_CF_STATE_LANES_UP = m ∧
      t.getF F.TILL_CF_STATE_STATE = (if m = 0 then 0 else if m = 255 then 2 else 3) ∧
      t.getF F.TILL_CF_STATE_LANES = (if m = 0 then 0 else if m = 255 then 8 else 4)
    (s.power = .on → s.selfFenced = false → s.cfUp = true → s.getF F.COUNCIL_STATE_ALIVE ≠ 0 → s.time ≤ s.pair.aliveAt + 10000 →
      let seq := s.cf.txSeq + 1
      let beat := stubBytes 1 0 (seq - s.cf.txBase) s.cf.rxSeq (s.getF F.TILL_CF_STATE_LINK_EPOCH)
        (leBytes 8 s.opsec ++ leBytes 1 s.mode.code ++ leBytes 1 s.grade ++ leBytes 2 0 ++ leBytes 4 (s.getN R.TILL_LIMIT / 268435456))
      ∃ t, exec .heartbeatTick s = .next t ∧ t.cf.txSeq = seq ∧ t.cf.store = s.cf.store ++ [⟨seq, beat⟩] ∧ t.mem = s.mem ∧
        (s.cf.store = [] → s.cf.sent = s.cf.txSeq → t.cf.sent = seq ∧ t.outbox = s.outbox ++
          [.stub 1 [seq - s.cf.txBase] (s.restamp ⟨seq, beat⟩ 0)])) ∧
    (∀ v, ∃ t, exec (.budgetRecompute v) s = .next t ∧ t.getF F.WARDEN_BANK_MEAS_V = v % 2 ^ F.WARDEN_BANK_MEAS_V.w ∧
      t.getN R.TILL_BUDGET = (s.bankVolt v).budgetNow ∧ t.getN R.TILL_LIMIT = (s.bankVolt v).budgetNow) ∧
    (s.cf.holdup = true → s.lossRole = 2 → ∃ t, exec (.flushDoneTimeout fl) s = .next t ∧ waitsSecond s t ∧ t.cf.holdup = false ∧
      t.cf.mirror = s.cf.mirror ∧ t.getF F.COUNCIL_PAIR_HB = 0) ∧
    (s.getF F.TILL_CF_CTL_BUSY ≠ 1 → s.mode = .solo ∨ s.mode = .service ∨ s.mode = .joining → ∃ t, exec .tillCfRetrain s = .next t ∧
      completed t st 0 ∧ t.getF F.TILL_CF_CTL_BUSY = 1 ∧ t.getF F.TILL_CF_STATE_STATE = 1 ∧ t.getF F.TILL_CF_STATE_LANES_UP = 0 ∧
      t.rest = { s with reply := 0 }.rest) ∧
    (s.getF F.TILL_CF_CTL_BUSY = 1 → ∃ t, exec .tillCfRetrain s = .next t ∧ completed t st 0x80D0 ∧
      t.getF F.TILL_CF_STATE_STATE = s.getF F.TILL_CF_STATE_STATE) ∧
    (s.getF F.TILL_CF_CTL_BUSY ≠ 1 → s.mode = .paired → ∃ t, exec .tillCfRetrain s = .next t ∧ completed t st 0x70D0 ∧
      t.getF F.TILL_CF_STATE_STATE = s.getF F.TILL_CF_STATE_STATE) ∧
    (∀ whole, let m := cfLanes (if s.grade = 2 then whole % 16 else whole)
      ∃ t, exec (.cfTrained whole) s = .next t ∧ lanes t m ∧ t.getF F.TILL_CF_CTL_BUSY = 0 ∧ t.mem = s.mem ∧
        (m ≠ 0 → t.getF F.TILL_CF_STATE_LINK_EPOCH = (s.getF F.TILL_CF_STATE_LINK_EPOCH + 1) % 2 ^ 32 ∧ t.cf.txBase = s.cf.acked ∧
          t.cf.rxSeq = 0 ∧ t.cf.acked = s.cf.acked) ∧ (m = 0 → t.cf = s.cf)) ∧
    (∀ failed, s.cfUp = true → ∃ t, exec (.cfLaneFailure failed) s = .next t ∧ t.cf = s.cf ∧ t.mem = s.mem ∧
      lanes t (cfLanes (s.getF F.TILL_CF_STATE_LANES_UP &&& (255 - failed % 256)))) ∧
    (∃ t, exec .cfLinkDown s = .next t ∧ lanes t 0 ∧ t.getF F.TILL_CF_CTL_BUSY = 0 ∧ t.rest = s.rest)

/-- On losing the partner a second head waits, a head that serves alone asserts FENCE_OUT, a joining one goes back to waiting;
the wait ends without acting where FENCE_IN is in effect. JOINING that waits in vain acts by its slot. The hold-off asks the
serving head for the commons. A head that fences itself shows it and releases FENCE_OUT. FENCE_IN in effect stops a head
that serves its own commons: SERVICE, nothing owned, no command; its release, a pulse and the end of a test pulse leave what
R404 says. ALIVE advances. A drill that R416 allows begins with DRILL_BEGIN and a pulse, another is deferred with 0x2130;
after HOLD_S the commons fail back. (R51, R52, R402, R403, R404, R405, R406, R412, R415, R416, R417, R423) -/
def Obligations.PartnerLossFencesAndDrills : Prop :=
  ∀ (s : State) (fl : List FlashCmn),
    (s.power = .on → s.getF F.COUNCIL_PAIR_HB ≠ 0 → s.cf.holdup = false ∨ s.cfUp = false →
      (s.mode = .joining → ∃ t, exec (.partnerLost fl) s = .next t ∧ t.getF F.COUNCIL_PAIR_HB = 0 ∧ t.getF F.IDENT_MODE_PARTNER = 0 ∧
        t.pair.joinMine = false ∧ t.pair.joined = false ∧ t.mode = .joining ∧ t.mem = s.mem) ∧
      (s.mode ≠ .joining → s.lossRole = 2 → s.pair.drill = none → ∃ t, exec (.partnerLost fl) s = .next t ∧ waitsSecond s t ∧
        t.getF F.COUNCIL_PAIR_HB = 0 ∧ t.cf.holdup = false) ∧
      (s.mode ≠ .joining → s.selfFenced = false → s.alone = true → s.pair.drill = none → ∃ t, exec (.partnerLost fl) s = .next t ∧
        t.getF F.COUNCIL_PAIR_ROLE = 1 ∧ t.pins.fenceOut = true ∧ t.pair.transfer = 0)) ∧
    (s.pair.second ≠ 0 → s.lossRole ≠ 2 ∨ s.fencedIn = true → ∃ t, exec (.secondWaitExpiry fl) s = .next t ∧ t.pair.second = 0 ∧
      (s.mode ≠ .holdup → t.pins.heldAt = none) ∧ { t with pair := s.pair, pins := s.pins } = s) ∧
    (s.pair.second ≠ 0 → s.lossRole = 2 → s.fencedIn = false → s.pair.drill = none → ∃ t, exec (.secondWaitExpiry fl) s = .next t ∧
      t.pins.fenceOut = true) ∧
    (s.mode = .joining → s.partnerHere = false → s.selfFenced = false →
      (s.slotNo = 1 → ∃ t, exec (.joinWaitExpiry fl) s = .next t ∧ waitsSecond s t) ∧
      (s.slotNo = 0 → s.fencedIn = false → ∃ t, exec (.joinWaitExpiry fl) s = .next t ∧ t.pins.fenceOut = true)) ∧
    (s.mode = .service → s.getF F.COUNCIL_FAILBACK_STATE = 1 → s.grade = 0 → s.partnerHere = true → s.pairFeat 6 = true ∨ s.strong.rolling = true →
      ∃ t, exec .failbackHoldoffExpiry s = .next t ∧ t.getF F.COUNCIL_FAILBACK_STATE = 3 ∧ t.getF F.COUNCIL_FAILBACK_LEFT = 0 ∧
        t.cf.txSeq = s.cf.txSeq + 1 ∧ t.mode = .service ∧ t.mem = s.mem) ∧
    (s.mode ≠ .bootstrap → s.mode ≠ .holdup → s.selfFenced = false → s.power = .on → ∃ t, exec .selfFence s = .next t ∧
      t.getF F.COUNCIL_PAIR_SELF_FENCED = 1 ∧ t.pins.fenceOut = false ∧ t.pair.second = 0 ∧ t.docket.tags = [] ∧ t.mode = s.mode) ∧
    (∃ t, exec .fenceInEffect s = .next t ∧ t.pins.fenceIn = true ∧ t.getF F.COUNCIL_PAIR_FENCE_IN = 1 ∧ t.getF F.COUNCIL_PAIR_FENCE_IN_RAW = 1 ∧
      (s.power = .on → s.selfFenced = false → s.bothServe = true → s.pair.drill = none → t.mode = .service ∧ t.docket.tags = [] ∧
        (∀ c ∈ s.hold.formed, t.owns c = false)) ∧
      (s.power = .on → s.selfFenced = false → s.bothServe = false → s.alone = true → s.slotNo = 0 → t.pins.ledAlarm = true ∧
        t.mode = s.mode ∧ t.docket = s.docket)) ∧
    (∃ t, exec .fenceInRelease s = .next t ∧ t.pins.fenceIn = false ∧ t.getF F.COUNCIL_PAIR_FENCE_IN = 0 ∧
      t.getF F.COUNCIL_PAIR_FENCE_IN_RAW = 0 ∧ { t.rest with pins := s.pins } = s.rest) ∧
    (s.power = .on → s.pair.drill = none → ∃ t, exec .fenceInPulse s = .next t ∧ t.cf.txSeq = s.cf.txSeq + 1 ∧
      t.getF F.COUNCIL_PAIR_TEST_PULSES = (s.getF F.COUNCIL_PAIR_TEST_PULSES + 1) % 2 ^ 16 ∧ t.mem = s.mem) ∧
    (s.pair.pulseOut = true → s.pair.drill = none → s.mode ≠ .holdup → ∃ t, exec .testPulseEnd s = .next t ∧ t.pins.fenceOut = false ∧
      t.pair.pulseOut = false ∧ t.getF F.COUNCIL_PAIR_FENCE_OUT = 0 ∧ t.mem = s.mem) ∧
    (s.getF F.COUNCIL_STATE_HALTED ≠ 1 → s.power = .on → ∃ t, exec .aliveTick s = .next t ∧ t.pair.aliveAt = s.time ∧
      t.getF F.COUNCIL_STATE_ALIVE = (s.getF F.COUNCIL_STATE_ALIVE + 1) % 2 ^ 32 ∧ (s.pair.drill = none → t.mem = s.mem)) ∧
    (∀ c, (c = .councilDrillGo ∧ s.mode = .paired) ∨
        (c = .drillDue ∧ s.power = .on ∧ s.slotNo = 0 ∧ s.pairFeat 5 = true ∧ s.getF F.COUNCIL_DRILL_CFG_ENABLE ≠ 0) →
      s.getF F.COUNCIL_DRILL_CTL_BUSY ≠ 1 → s.pair.move = none → s.mode ≠ .holdup →
      (s.pairFull = true → s.poolQuiet = true → s.drillTakesFit = true → ∃ t, exec c s = .next t ∧ completed t F.COUNCIL_DRILL_CTL_STATUS 0 ∧
        t.getF F.COUNCIL_DRILL_CTL_BUSY = 1 ∧ t.pins.fenceOut = true ∧ t.pair.pulseOut = true ∧ t.mem = s.mem ∧
        t.pair.drill = some { (default : Drill) with slot := 1 - s.getF F.COUNCIL_DRILL_RESULT_SLOT, started := s.time }) ∧
      (s.pairFull = false ∨ s.poolQuiet = false ∨ s.drillTakesFit = false → ∃ t, exec c s = .next t ∧
        completed t F.COUNCIL_DRILL_CTL_STATUS 0x2130 ∧ t.pair.drill = s.pair.drill ∧ t.pins = s.pins ∧ t.mem = s.mem)) ∧
    (∀ d, s.pair.drill = some d → d.slot ≠ s.slotNo → s.mode = .solo → s.partnerHere = true → s.pair.move = none →
      ∃ t b, exec .drillHoldExpiry s = .next t ∧ t.getF F.COUNCIL_FAILBACK_STATE = 3 ∧
        t.pair.move = some ⟨true, 5, (s.homed (1 - s.slotNo)).filter (fun c => s.owns c), s.time, b⟩)

/-- In VOTING a first ballot of a voter waits; a second, equal and in the window, makes the decision: it counts, ALIVE advances
and no ballot waits. In SINGLE one ballot decides. The window's end without agreement discards the ballots, and the second
time halts the Council. In WATCHKEEPER a silent active core gives way to the standby and resynchronises. A core that has
resynchronised holds another's contexts and serves. TEST and RESTORE queue the core's test, BUSY; RETIRE retires it with
cause 1 unless it is the last; BUSY refuses with 0x8130, SINGLE a test with 0x7130. A checkpoint goes onto the reel under
the next RSEQ, and none while it is frozen. (R402, R418, R419, R420, R421, R423, R482, R483, R505) -/
def Obligations.TheCouncilDecidesAndKeepsItsCores : Prop :=
  ∀ (s : State),
    let cfg := s.getF F.COUNCIL_STATE_CONFIG
    let running := s.getF F.COUNCIL_STATE_HALTED = 0
    let plus (t : State) (f : Fld) : Prop := t.getF f = (s.getF f + 1) % 2 ^ f.w
    (∀ core minor ra da input, core < 3 → 0x10 ≤ minor → minor ≤ 0x14 → running →
      let b : Ballot := ⟨core, minor, ra, da, input, s.time⟩
      let go := Instr.councilBallot core minor ra da input
      let decided (t : State) : Prop := t.getN R.COUNCIL_DECISIONS = (s.getN R.COUNCIL_DECISIONS + 1) % 2 ^ 64 ∧ t.pair.aliveAt = s.time
      s.pair.results = [] →
      (cfg = 0 → s.coreState core = 0 → s.pair.owes = [] →
        (s.pair.ballots = [] → (∃ k, k < 3 ∧ k ≠ core ∧ s.coreState k = 0) → ∃ t, exec go s = .next t ∧ t.pair = { s.pair with ballots := [b] } ∧
          { t with pair := s.pair } = s) ∧
        (∀ a, s.pair.ballots = [a] → a.same b = true → a.core ≠ core → s.time ≤ a.at_ + s.getF F.COUNCIL_CFG_VOTE_WINDOW_US →
          ∃ t, exec go s = .next t ∧ decided t ∧ t.pair.ballots = [] ∧ t.pair.retried = false)) ∧
      (2 ≤ cfg → s.coreState core ≤ 2 → ∃ t, exec go s = .next t ∧ decided t)) ∧
    (cfg = 0 → running → s.pair.ballots ≠ [] → ∃ t, exec .voteWindowExpiry s = .next t ∧ t.pair.ballots = [] ∧
      plus t F.COUNCIL_DISSENT_DISCARDED ∧ (s.pair.agreed = none → t.mem = s.mem) ∧
      (s.pair.retried = true → t.getF F.COUNCIL_STATE_HALTED = 1) ∧
      (s.pair.retried = false → t.getF F.COUNCIL_STATE_HALTED = 0 ∧ t.pair.retried = true)) ∧
    (∀ k, cfg = 1 → k < 3 → s.coreState k = 2 → (∀ j, j < k → s.coreState j ≠ 2) → s.getF F.COUNCIL_STATE_ACTIVE ≠ k →
      ∃ t, exec .activeCoreTimeout s = .next t ∧ t.getF F.COUNCIL_STATE_ACTIVE = k ∧ t.coreState k = 1 ∧
        t.coreState (s.getF F.COUNCIL_STATE_ACTIVE) = 4 ∧ t.mem = s.mem) ∧
    (∀ core src, core < 3 → s.coreState core = 4 → s.coresLeft.find? (fun k => k ≠ core && decide (s.coreState k < 3)) = some src →
      ∃ t, exec (.coreResyncDone core) s = .next t ∧ t.coreState core ≠ 4 ∧
        ∀ i, i < 64 → t.hands.ctxs.get (1280 + core * 64 + i) = s.hands.ctxs.get (1280 + src * 64 + i)) ∧
    (let k := s.getF F.COUNCIL_CORE_SEL_VAL
     let st := F.COUNCIL_CORE_CTL_STATUS
     k < 3 →
      (s.getF F.COUNCIL_CORE_CTL_BUSY = 1 → ∀ c ∈ [Instr.councilCoreTest, .councilCoreRetire, .councilCoreRestore],
        ∃ t, exec c s = .next t ∧ completed t st 0x8130 ∧ t.coreState k = s.coreState k ∧ t.warden = s.warden) ∧
      (s.getF F.COUNCIL_CORE_CTL_BUSY ≠ 1 →
        (cfg ≠ 2 → ∃ t, exec .councilCoreTest s = .next t ∧ testAsked s t st F.COUNCIL_CORE_CTL_BUSY kCouncil k false) ∧
        (cfg = 2 → ∃ t, exec .councilCoreTest s = .next t ∧ completed t st 0x7130 ∧ t.warden = s.warden) ∧
        (s.mode = .service → s.coreState k = 5 → ∃ t, exec .councilCoreRestore s = .next t ∧
          testAsked s t st F.COUNCIL_CORE_CTL_BUSY kCouncil k true) ∧
        (s.coreState k ≠ 5 → 2 ≤ s.coresLeft.length → ∃ t, exec .councilCoreRetire s = .next t ∧ completed t st 0 ∧ t.coreState k = 5 ∧
          t.getF (F.COUNCIL_CORE_RETIRE_CAUSE.at k) = 1) ∧
        (s.coreState k ≠ 5 → s.coresLeft.length ≤ 1 → ∃ t, exec .councilCoreRetire s = .next t ∧ completed t st 0x7130 ∧
          t.coreState k = s.coreState k))) ∧
    (∀ body, body.length ≤ 16777216 → running →
      (s.getF F.REEVE_REEL_CTL_FREEZE ≠ 1 → s.mode ≠ .replay → ∃ t, exec (.councilCheckpoint body) s = .next t ∧
        t.getN R.REEVE_REEL_SEQ = (s.getN R.REEVE_REEL_SEQ + 1) % 2 ^ 64 ∧
        t.obs.reel = reelRoom (32 + body.length) s.obs.reel ++ [⟨3, s.getN R.REEVE_REEL_SEQ, s.now,
          (match s.obs.reel.getLast? with | none => 0 | some r => (r.off + r.len) % 2 ^ 32), 32 + body.length⟩]) ∧
      (s.getF F.REEVE_REEL_CTL_FREEZE = 1 → exec (.councilCheckpoint body) s = .next s))

/-- FLUSH_MS programs the page being filled of a commons under the next PAGE_SEQ. When the oldest page in flight is on flash,
the commons's FLASH_LSN is the LSN of its last record. CHECKPOINT_S and CHECKPOINT_MIB start a checkpoint of an owned
commons, as does GO, which completes with 0: it replays from the oldest group whose pages are not yet written, else from the
LSN after the last, and the commons is BUSY and CHECKPOINTING shown. GO while BUSY completes with 0x80E0; during recovery or
for a commons not owned with 0x70E0. (R281, R285, R291, R292) -/
def Obligations.DaybooksAndCheckpoints : Prop :=
  ∀ (s : State) (c : Nat),
    let busy := F.STEWARD_CKPT_CTL_BUSY.at c
    let starts (i : Instr) (st : Option Fld) : Prop := ∃ t, exec i s = .next t ∧ t.getF busy = 1 ∧ t.getF F.STEWARD_MAP_STATE_CHECKPOINTING = 1 ∧
      (t.dbOf c).ckptReplay = s.replayLsn c ∧ ∀ f, st = some f → completed t f 0
    ((s.dbOf c).buf ≠ [] → ∃ t, exec (.daybookFlushTimer c) s = .next t ∧ (t.dbOf c).buf = [] ∧ (t.dbOf c).firstAt = 0 ∧
      (t.dbOf c).pageSeq = (s.dbOf c).pageSeq + 1 ∧ (t.dbOf c).flying.length = (s.dbOf c).flying.length + 1 ∧
      (∀ k, k ≠ c → t.dbOf k = s.dbOf k) ∧ t.regs = s.regs ∧ t.mem = s.mem) ∧
    (∀ failed p r, (s.dbOf c).flying = p :: r → ∃ t, exec (.daybookPageDurable c failed) s = .next t ∧
      t.getF (F.STEWARD_DB_FLASH_LSN_ALL.at c) = p.last % 2 ^ 64) ∧
    (s.owns c = true → s.getF busy ≠ 1 → starts (.checkpointTimer c) none ∧
      (s.getF F.STEWARD_MAP_CFG_CHECKPOINT_MIB * 1048576 < s.getF (F.STEWARD_DB_SINCE_ALL.at c) → starts (.checkpointSize c) none) ∧
      (c = s.getF F.STEWARD_CMN_SEL_VAL → s.getF F.STEWARD_MAP_STATE_RECOVERING ≠ 1 →
        starts .stewardCkptGo (some (F.STEWARD_CKPT_CTL_STATUS.at c)))) ∧
    (c = s.getF F.STEWARD_CMN_SEL_VAL →
      (s.getF busy = 1 → ∃ t, exec .stewardCkptGo s = .next t ∧ completed t (F.STEWARD_CKPT_CTL_STATUS.at c) 0x80E0 ∧ t.stew = s.stew) ∧
      (s.getF busy ≠ 1 → s.getF F.STEWARD_MAP_STATE_RECOVERING = 1 ∨ s.owns c = false → ∃ t, exec .stewardCkptGo s = .next t ∧
        completed t (F.STEWARD_CKPT_CTL_STATUS.at c) 0x70E0 ∧ t.stew = s.stew))

namespace Sys2Proof.Claims

/-- A sled's port shows a state, and a failed one its cause. -/
def portShows (t : State) (k st : Nat) : Prop := t.getF (F.SLED_STATE_STATE.at k) = st

end Sys2Proof.Claims

/-- A sled that appears is powered under reset; after 100 ms it trains; one that has trained is READY with the pool's label,
BLANK with none or with failed members, FOREIGN with another, FAILED with cause 2 on a geometry that is not the pool's. A
training that fails, a lane fault without DEGRADED, a removal and a second timeout within the hour make it FAILED with their
cause; the first timeout resets it and it trains again. POWER_OFF and RESET of a sled holding members are refused with
0x70F0; POWER_OFF, POWER_ON, RESET and RETRAIN leave what R326 says, each refused with 0x80E0 while BUSY. (R293, R295, R296,
R304, R326, R343) -/
def Obligations.SledPortsFollowTheirEvents : Prop :=
  ∀ (s : State),
    (∀ k, k < s.sledPorts → let now := s.getF (F.SLED_STATE_STATE.at k)
      let fails (c : Instr) (cause : Nat) : Prop := ∃ t, exec c s = .next t ∧ portShows t k 5 ∧ t.getF (F.SLED_STATE_FAIL_CAUSE.at k) = cause
      (now = 0 → ∃ t, exec (.sledPresence k) s = .next t ∧ portShows t k 1 ∧ t.getF (F.SLED_STATE_FAIL_CAUSE.at k) = 0 ∧
        (t.getF F.SLED_FAILED_PRESENT).testBit k = true ∧ t.pins.pwren.testBit k = true ∧ t.pins.perst.testBit k = true ∧ t.mem = s.mem) ∧
      (s.pins.perst.testBit k = true → s.pins.pwren.testBit k = true → ∃ t, exec (.sledPowerTimer k) s = .next t ∧ portShows t k 2 ∧
        t.pins.perst.testBit k = false ∧ t.pins.pwren = s.pins.pwren ∧ t.mem = s.mem) ∧
      (now = 2 → (∀ width label dies blocks cycles ecc, dies ≤ 2048 → blocks ≤ 65535 → label < 2 ^ 64 →
          ∃ t, exec (.sledTrained k width label dies blocks cycles ecc true) s = .next t ∧ t.media.labels.get k = label ∧
            portShows t k (if label = 0 then 7 else if label ≠ s.getN R.IDENT_POOL then 6
              else if (s.hold.formed.flatMap (fun c => s.diesOn c k)).any (fun d => (s.dieOf d).state ≠ 0) then 7 else 3)) ∧
        (∀ width label dies blocks cycles ecc, fails (.sledTrained k width label dies blocks cycles ecc false) 2) ∧
        fails (.sledTrainFail k false) 1 ∧ fails (.sledTrainFail k true) 2) ∧
      (now = 3 → s.getF (F.SLED_STATE_WIDTH.at k) = 2 → s.feat 133 = true → ∃ t, exec (.sledLaneFault k) s = .next t ∧ portShows t k 4 ∧
        t.getF (F.SLED_STATE_WIDTH.at k) = 1) ∧
      (now = 4 ∨ (now = 3 ∧ s.feat 133 = false) → fails (.sledLaneFault k) 1) ∧
      (now ≠ 0 → fails (.sledRemoved k) 4 ∧ ∃ t, exec (.sledRemoved k) s = .next t ∧ (t.getF F.SLED_FAILED_PRESENT).testBit k = false ∧
        t.pins.ledAlarm = true) ∧
      (now = 3 ∨ now = 4 → let recent := (s.media.timeouts.get k).filter (fun t => decide (s.opsec < t + 3600))
        (recent = [] → ∃ t, exec (.sledCmdTimeout k) s = .next t ∧ portShows t k 2 ∧ t.pins.perst.testBit k = true ∧
          t.media.timeouts.get k = [s.opsec]) ∧
        (recent ≠ [] → fails (.sledCmdTimeout k) 3))) ∧
    (let k := s.getF F.SLED_SEL_VAL
     let st := F.SLED_CTL_STATUS.at k
     let busy := F.SLED_CTL_BUSY.at k
     k < s.sledPorts →
      (s.getF busy = 1 → ∀ c ∈ [Instr.sledPowerOff, .sledPowerOn, .sledReset, .sledRetrain], ∃ t, exec c s = .next t ∧
        completed t st 0x80E0 ∧ t.pins = s.pins) ∧
      (s.getF busy ≠ 1 →
        (s.holdsMembers k = true → ∀ c ∈ [Instr.sledPowerOff, .sledReset], ∃ t, exec c s = .next t ∧ completed t st 0x70F0 ∧ t.pins = s.pins) ∧
        (s.holdsMembers k = false →
          (∃ t, exec .sledPowerOff s = .next t ∧ completed t st 0 ∧ portShows t k 0 ∧ t.pins.pwren.testBit k = false ∧ t.mem = s.mem) ∧
          (∃ t, exec .sledReset s = .next t ∧ completed t st 0 ∧ portShows t k 2 ∧ t.pins.perst.testBit k = true ∧
            t.getF busy = 1 ∧ t.mem = s.mem)) ∧
        (∃ t, exec .sledPowerOn s = .next t ∧ completed t st 0 ∧ t.pins.pwren.testBit k = true ∧ t.mem = s.mem ∧
          (s.getF (F.SLED_STATE_STATE.at k) = 0 → (s.getF F.SLED_FAILED_PRESENT).testBit k = true → portShows t k 1 ∧
            t.pins.perst.testBit k = true)) ∧
        (∃ t, exec .sledRetrain s = .next t ∧ completed t st 0 ∧ portShows t k 2 ∧ t.getF busy = 1 ∧ t.pins = s.pins ∧
          t.mem = s.mem)))

/-- SLC_SIZE and SLC_USED are recomputed by R305. Where a die may fold, a FOLD of its four oldest full SLC blocks to an erased
block starts; one that ends well is counted, its bytes taken into the window, whose end shows the rate. Gleaning with tokens
at hand a block without live chunks has it erased once the records so far are on flash. A sheaf below THIN_PM with nothing
to move shows what indexed grains keep. A calibration takes the group to its next level set. At the bound a condemned sheaf
is emptied, and is no longer condemned once its blocks are erased or retired. SECURE is set on a raw-only volume with
feature 42, and otherwise refused with 0x70E8. (R299, R305, R308, R310, R311, R312, R315, R317, R318) -/
def Obligations.FoldingGleaningAndSecureDiscard : Prop :=
  ∀ (s : State),
    (∃ t, exec .slcRecompute s = .next t ∧ t.getN R.STEWARD_SLC_USED = s.slcUsed % 2 ^ 64 ∧
      t.getN R.STEWARD_SLC_SIZE = slcSize (s.rawOf (s.hold.formed.filter (fun c => s.owns c))) s.poolCap s.liveBytes % 2 ^ 64) ∧
    (∀ d b c, s.foldDie = some d → s.erasedBlock d = some b → s.dieCommons d = some c →
      let src := ((s.fullSlc.filter (fun x => x.1 = d)).take 4).map (fun x => x.2.1)
      ∃ t, exec .foldStart s = .next t ∧ t.media.folds = s.media.folds ++ [(Fold.mk d b src)] ∧
        Out.sled (d / 2048) 4 [d % 2048, b, foldAux src] ∈ t.outbox ∧ t.mem = s.mem) ∧
    (∀ die failing f c, s.media.folds.find? (fun f => f.die = die) = some f → s.dieCommons die = some c →
      ∃ t, exec (.foldComplete die 0 failing) s = .next t ∧ t.media.folds = s.media.folds.filter (fun x => x.die ≠ die) ∧
        t.media.foldBytes = s.media.foldBytes + 50331648 ∧ t.getN R.STEWARD_FOLDS = (s.getN R.STEWARD_FOLDS + 1) % 2 ^ 64) ∧
    (∃ t, exec .foldRateWindow s = .next t ∧ t.getN R.STEWARD_FOLD_RATE = s.media.foldBytes / 10 % 2 ^ 64 ∧ t.media.foldBytes = 0 ∧
      { t.rest with media := s.media } = s.rest) ∧
    (∀ c die b n e, s.victim c = some (die, b, n, e) → s.owns c = true → s.liveIn die b = [] → s.tollWork 3 (some false) 0 0 ≠ none →
      ((s.dieOf die).blocks.get b).suspect = false → ∃ t, exec (.gleanBlock c 0) s = .next t ∧ t.stew.map = s.stew.map ∧ t.mem = s.mem ∧
        t.media.erases = s.media.erases.filter (fun x => !(x.2.2.1 = die && x.2.2.2 = b)) ++
          [(c, s.getF (F.STEWARD_DB_LSN_ALL.at c), die, b)]) ∧
    (∀ c sheaf data, s.owns c = true → (s.sheafOf (c * 2 ^ 33 + sheaf)).state = 3 →
      s.heldSlots c sheaf * 1000 < 1024 * s.getF F.STEWARD_MEDIA_CFG_THIN_PM → thinnable c sheaf s.stew.map = [] →
      ∃ t, exec (.thinSheaf c sheaf data) s = .next t ∧ t.getF (F.STEWARD_CMN_THIN_ALL.at c) = s.thinKept c % 2 ^ 64 ∧
        t.stew.map = s.stew.map) ∧
    (∀ die group, s.sledIn (die / 2048) = true → let g := die * 1024 + group % 1024
      let set := (s.media.levels.get g + 1) % 16
      ∃ t, exec (.calibrationDue die group) s = .next t ∧ t.media.levels.get g = set ∧ t.media.calAt.get g = s.opsec ∧
        t.outbox = s.outbox ++ [.sled (die / 2048) 6 [die % 2048, group % 1024 * 64, set]] ∧ t.regs = s.regs ∧ t.mem = s.mem) ∧
    (∀ c sheaf data, let k := c * 2 ^ 33 + sheaf
      (s.stew.condemned.get k).1 ≠ 0 → s.owns c = true → (∀ w ∈ s.media.secure, w.sheaf ≠ k) →
        ∃ t, exec (.secureBoundExpiry c sheaf data) s = .next t ∧ (t.sheafOf k).state = 4 ∧
          ((s.thin c sheaf data).sheafBlocks k = [] → t.stew.condemned.get k = (0, 0)) ∧
          ((s.thin c sheaf data).sheafBlocks k ≠ [] → ∃ w ∈ t.media.secure, w.sheaf = k)) ∧
    (∀ (v : Word), let vol := s.getF F.STEWARD_VOL_SEL_VAL
      let st := F.STEWARD_VOL_MEDIA_STATUS.at vol
      let allowed := s.feat 42 = true ∧ s.getF (F.PRESS_STREAM_CFG_RAW_ONLY.at vol) ≠ 0
      (v.toNat % 2 = 0 ∨ allowed → ∃ t, exec (.stewardSecureWrite v) s = .next t ∧ completed t st 0 ∧
        t.getF (F.STEWARD_VOL_MEDIA_SECURE.at vol) = v.toNat % 2 ∧ t.rest = { s with reply := 0 }.rest) ∧
      (v.toNat % 2 = 1 → ¬ allowed → ∃ t, exec (.stewardSecureWrite v) s = .next t ∧ completed t st 0x70E8 ∧
        t.getF (F.STEWARD_VOL_MEDIA_SECURE.at vol) = s.getF (F.STEWARD_VOL_MEDIA_SECURE.at vol)))

/-- A HOLD_CTL request completes with 0x8100 while BUSY and with 0x7101 in a mode that does not permit it. Else: FORM of a legal
range on enough dies forms the commons, owned where it is homed here; DISSOLVE of an owned one without volumes ends it;
TAKE_IN of a BLANK sled makes it READY with the pool's label; FAIL makes the member FAILED, with an ALARM; RESYNC and
WATCH_NOW of an owned commons put it under check and at the head of the Watch. A changed ledger is written under the next
number with its copies. With tokens at hand a rebuilt chunk counts; without a place the rebuild is STALLED. The Watch and a
resynchronisation check a sheaf, and end after the last; a late pass is OVERDUE. (R330, R340, R341, R342, R343, R344, R351,
R353) -/
def Obligations.HoldingsAreFormedRebuiltAndWatched : Prop :=
  ∀ (s : State),
    let st := F.HOLD_CTL_STATUS
    let free := s.getF F.HOLD_CTL_BUSY ≠ 1 ∧ poolMode s.mode = true
    let all := [Instr.holdForm, .holdDissolve, .holdTakeIn, .holdFail, .holdResync, .holdWatchNow]
    (s.getF F.HOLD_CTL_BUSY = 1 → ∀ c ∈ all, ∃ t, exec c s = .next t ∧ completed t st 0x8100 ∧ t.hold = s.hold) ∧
    (s.getF F.HOLD_CTL_BUSY ≠ 1 → poolMode s.mode = false → ∀ c ∈ all, ∃ t, exec c s = .next t ∧ completed t st 0x7101 ∧ t.hold = s.hold) ∧
    (let c := s.getF F.HOLD_CTL_ARG_COMMONS
     let home := s.getF F.HOLD_CTL_ARG_HOME
     let first := s.getF F.HOLD_CTL_ARG_FIRST_DIE
     let dies := s.getF F.HOLD_CTL_ARG_DIES
     let ready := s.poolSleds.filter (fun k => s.getF (F.SLED_STATE_STATE.at k) = 3)
     free →
      (dies = 0 → ∃ t, exec .holdForm s = .next t ∧ completed t st 0x5100 ∧ t.hold = s.hold) ∧
      (dies ≠ 0 → ready.length < 20 → ∃ t, exec .holdForm s = .next t ∧ completed t st 0x5101 ∧ t.hold = s.hold) ∧
      (dies ≠ 0 → 20 ≤ ready.length → (∀ k ∈ ready, first + dies ≤ s.getF (F.SLED_GEOM_DIES.at k)) →
        (∀ x ∈ s.hold.formed, x ≠ c ∧ dieOverlap first dies (s.getF (F.HOLD_CMN_FIRST_DIE.at x)) (s.getF (F.HOLD_CMN_DIES.at x)) = false) →
        ∃ t, exec .holdForm s = .next t ∧ completed t st 0 ∧ (∀ x, x ∈ t.hold.formed ↔ x = c ∨ x ∈ s.hold.formed) ∧
          t.getF (F.HOLD_CMN_FIRST_DIE.at c) = first ∧ t.getF (F.HOLD_CMN_DIES.at c) = dies ∧ t.getF (F.HOLD_CMN_HOME.at c) = home ∧
          (home = s.slotNo → t.owns c = true)) ∧
      (c ∈ s.hold.formed → s.owns c = true → (∀ p ∈ s.docket.vols, p.2.size ≠ 0 → p.2.commons ≠ c) →
        ∃ t, exec .holdDissolve s = .next t ∧ completed t st 0 ∧ t.hold.formed = s.hold.formed.filter (fun x => x ≠ c)) ∧
      (c ∉ s.hold.formed → ∃ t, exec .holdDissolve s = .next t ∧ completed t st 0x5100 ∧ t.hold = s.hold)) ∧
    (let k := s.getF F.HOLD_CTL_ARG_VAL
     free → k < s.sledPorts → (s.getF (F.SLED_STATE_STATE.at k) = 7 → ∃ t, exec .holdTakeIn s = .next t ∧ completed t st 0 ∧ portShows t k 3 ∧
        t.media.labels.get k = s.getN R.IDENT_POOL) ∧
      (s.getF (F.SLED_STATE_STATE.at k) ≠ 7 → ∃ t, exec .holdTakeIn s = .next t ∧ completed t st 0x7102 ∧ t.hold = s.hold)) ∧
    (let d := s.getF F.HOLD_CTL_ARG_MEMBER
     ∀ c, free → s.dieCommons d = some c → d < 49152 →
      (s.owns c = true → (s.dieOf d).state = 0 → ∃ t, exec .holdFail s = .next t ∧ completed t st 0 ∧ (t.dieOf d).state = 1 ∧
        (t.dieOf d).cause = 3 ∧ t.pins.ledAlarm = true) ∧
      (s.owns c = false → ∃ t, exec .holdFail s = .next t ∧ completed t st 0x7101 ∧ t.hold = s.hold)) ∧
    (let c := s.getF F.HOLD_CMN_SEL_VAL
     free → (s.owns c = true → (∃ t, exec .holdResync s = .next t ∧ completed t st 0 ∧ c ∈ t.hold.resync) ∧
        (∃ t, exec .holdWatchNow s = .next t ∧ completed t st 0 ∧ t.hold.watchNow.head? = some c ∧ t.hold.watchAt.get c = 0 ∧ t.mem = s.mem)) ∧
      (s.owns c = false → ∀ i ∈ [Instr.holdResync, .holdWatchNow], ∃ t, exec i s = .next t ∧ completed t st 0x7101 ∧ t.hold = s.hold)) ∧
    (∀ c copies, c ∈ s.hold.ledgerDirty → s.owns c = true → ∃ t, exec (.ledgerWriteTick c copies) s = .next t ∧ c ∉ t.hold.ledgerDirty ∧
      t.getF (F.HOLD_CMN_LEDGER_LEDGER_SEQ.at c) = (s.getF (F.HOLD_CMN_LEDGER_LEDGER_SEQ.at c) + 1) % 2 ^ F.HOLD_CMN_LEDGER_LEDGER_SEQ.w ∧
      t.getF (F.HOLD_CMN_LEDGER_COPIES.at c) = min copies 2 ∧ (copies = 0 → t.pins.ledAlarm = true) ∧ t.mem = s.mem) ∧
    (∀ c, s.owns c = true → s.rebuildList c ≠ [] →
      let place := (s.rebuildList c).findSome? (fun p => (s.rebuildDie c p.2 (p.2.work.getD 0 0)).map (fun d => (p.1, p.2.work.getD 0 0, d)))
      (∀ k pos d u, place = some (k, pos, d) → s.rebuildRoom c = true → s.tollWork 2 (some true) 262144 (16 * 262144) = some u →
        (u.scarRows k).qlcAlloc c d (k * 32 + pos) ≠ none →
        ∃ t, exec (.rebuildChunk c 0) s = .next t ∧ t.getN R.HOLD_REBUILD_DONE = (s.getN R.HOLD_REBUILD_DONE + 1) % 2 ^ 64) ∧
      (∀ x, place = none → s.getF (F.HOLD_CMN_STALLED.at c) ≠ 1 → ∃ t, exec (.rebuildChunk c x) s = .next t ∧
        t.getF (F.HOLD_CMN_STALLED.at c) = 1 ∧ t.pins.ledAlarm = true ∧ t.mem = s.mem)) ∧
    (∀ c data decodes, s.hold.watchNow = [] → s.owns c = true →
      (s.watchNext c = none → ∃ t, exec (.watchSheaf c data decodes) s = .next t ∧ t.getF (F.HOLD_CMN_WATCH_OVERDUE.at c) = 0 ∧
        t.getF (F.HOLD_CMN_WATCH_PROGRESS.at c) = 0 ∧ t.hold.watchAt.get c = 0 ∧ t.mem = s.mem) ∧
      (∀ k, s.watchNext c = some k → s.tollWork 3 none 0 (18 * 262144) ≠ none → ∃ t, exec (.watchSheaf c data decodes) s = .next t ∧ (t.sheafOf k).checked = true ∧
        t.getN R.HOLD_WATCH_SHEAVES = (s.getN R.HOLD_WATCH_SHEAVES + 1) % 2 ^ 64)) ∧
    (∀ c, s.owns c = true → ∃ t, exec (.watchOverdue c) s = .next t ∧ t.getF (F.HOLD_CMN_WATCH_OVERDUE.at c) = 1 ∧
      t.pins.ledAlarm = true ∧ t.mem = s.mem) ∧
    (∀ c data decodes, c ∈ s.hold.resync → s.owns c = true →
      let left := (s.cmnSheaves c).filter (fun p => p.2.state = 3 && !p.2.checked)
      (left = [] → ∃ t, exec (.resyncPass c data decodes) s = .next t ∧ c ∉ t.hold.resync ∧ t.mem = s.mem) ∧
      (∀ p, left = [p] → s.tollWork 2 (some true) 0 (18 * 262144) ≠ none → ∃ t, exec (.resyncPass c data decodes) s = .next t ∧ c ∉ t.hold.resync ∧ (t.sheafOf p.1).checked = true))

namespace Sys2Proof.Claims

/-- A folio of a type arrives whole and in its place at a port, and acknowledges nothing (R381, R383, R384). -/
def folioArrives (s : State) (p err : Nat) (f : List Byte) (type : Nat) : Prop :=
  let h := parseFolio f
  p < 4 ∧ s.deaf = false ∧ err = 0 ∧ h.headOk = true ∧ h.wellFormed = true ∧ h.dataOk = true ∧ h.type = type ∧
    h.seq = (s.magPort p).rxNext ∧ h.ack = 0xFFFFFFFF ∧ (s.magPort p).out = [] ∧
    (if type = 1 ∨ type = 2 then s.magState p = 3 else s.magUp p = true)

/-- It has been taken in its place and answered by a folio. -/
def folioTaken (s t : State) (p : Nat) : Prop :=
  (t.magPort p).rxNext = (s.magPort p).rxNext + 1 ∧ s.foliosOut p < t.foliosOut p

/-- A folio of a type, a register and a payload is kept at a port until it is acknowledged. -/
def folioKept (t : State) (p type task : Nat) (data : List Byte) : Prop :=
  ∃ m ∈ (t.magPort p).out, m.type = type ∧ m.task = task ∧ m.data = data

/-- A task of an opcode reaches an EMPTY register of a keeper port that may run it (R387, R388, R391, R392). -/
def taskArrives (s : State) (p err : Nat) (f : List Byte) (op : Nat) : Prop :=
  let h := parseFolio f
  let b := parseTask h.data
  folioArrives s p err f 0x10 ∧ s.magRole p = 1 ∧ senderMay 1 h.type = true ∧ b.op = op ∧ b.malformed = false ∧
    (b.flags = 0 ∨ s.feat 70 = true) ∧ (s.magTwin p = false ∨ s.twinState p = 2) ∧ s.magVolStatus p = 0 ∧
    (s.magTask p h.task).state = 0 ∧ takesOne s (s.magQueue p) kMagazine

/-- Its register is ACTIVE with what the task block says, and a tag of the MAGAZINE queue holds it. -/
def taskRuns (s t : State) (p : Nat) (f : List Byte) (P : Tag → Prop) : Prop :=
  let h := parseFolio f
  let b := parseTask h.data
  let m := t.magTask p h.task
  folioTaken s t p ∧ m.state = 1 ∧ m.op = b.op ∧ m.client = b.client ∧ m.length = b.length ∧ m.tag = freeTag s + 1 ∧
    (t.tagOf (freeTag s)).queue = s.magQueue p ∧ (t.tagOf (freeTag s)).cid = h.task ∧ (t.tagOf (freeTag s)).op = b.op ∧
    (t.tagOf (freeTag s)).vol = s.magVol p ∧ P (t.tagOf (freeTag s))

end Sys2Proof.Claims

/-- For a folio that arrives whole and in its place: an ACK ends what it covers and empties its registers; a RESEND_REQ and the
timer send again, counted; a false mark is counted in HCRC; a type its sender may not send is discarded and counted. A
TASK_WRITE to an EMPTY register of a port that may run it makes it ACTIVE with the block's op, CLIENT and length and a tag
of the MAGAZINE queue with the recipe entry, leaves and state of its kind; IDENTIFY sends the page and completes,
RECORD_STOP ends the take, another opcode completes with 0x5120. DATA counts. TASK_RESET empties latched registers and
aborts the rest with no status; ABORT answers UNKNOWN or marks the tag with a reply that follows. (R125, R141, R382, R383,
R384, R387, R388, R389, R390, R391, R395) -/
def Obligations.MagazineTasksAreAccepted : Prop :=
  ∀ (s : State) (p err : Nat) (f : List Byte),
    let h := parseFolio f
    let b := parseTask h.data
    let x := s.magPort p
    let k := freeTag s
    let n := b.length / 4096
    let busy : Bool := decide ((s.queueOf (s.magQueue p)).state = 1) || s.moving (s.magVol p)
    (p < 4 → s.deaf = false → err = 0 → h.headOk = true → h.wellFormed = true → h.dataOk = true → h.seq = x.rxNext → s.magUp p = true →
      (h.type = 0x03 → h.ack ≠ 0xFFFFFFFF → (∀ m ∈ x.out, m.sent = true ∧ m.seq ≤ h.ack) → ∃ t, exec (.magAck p err f) s = .next t ∧
        t.magPort p = { x with out := [], credit := h.credit } ∧ t.docket = s.docket ∧ t.mem = s.mem ∧
        (∀ r, r < 64 → (s.magTask p r).state = 2 → (s.magTask p r).statSeq ≠ 0 → (s.magTask p r).statSeq ≤ h.ack + 1 →
          t.magTask p r = default) ∧ (∀ r, r < 64 → (s.magTask p r).state ≠ 2 → t.magTask p r = s.magTask p r)) ∧
      (h.type = 0x04 → h.ack = 0xFFFFFFFF → (∀ m ∈ x.out, m.sent = true) → ∃ t, exec (.magResendReq p err f) s = .next t ∧
        t.magPort p = { x with credit := h.credit } ∧ t.docket = s.docket ∧ t.mem = s.mem ∧
        (let l := x.out.filter (fun m => decide (fieldAt h.data 0 4 ≤ m.seq))
         t.foliosOut p = s.foliosOut p + l.length ∧
         t.getF (magF F.MAGPORT_P_RESEND_AGAIN p) =
          (s.getF (magF F.MAGPORT_P_RESEND_AGAIN p) + l.length) % 2 ^ F.MAGPORT_P_RESEND_AGAIN.w))) ∧
    (p < 4 → s.magUp p = true → ∃ t, exec (.magResendTimer p) s = .next t ∧ t.mag = s.mag ∧ t.docket = s.docket ∧
      t.foliosOut p = s.foliosOut p + (x.out.filter (fun m => m.sent)).length) ∧
    (p < 4 → s.magUp p = true ∨ s.magState p = 3 → ∃ t, exec (.falseMark p) s = .next t ∧ t.rest = s.rest ∧
      t.getF (magF F.MAGPORT_P_SYNC_HCRC p) = (s.getF (magF F.MAGPORT_P_SYNC_HCRC p) + 1) % 2 ^ F.MAGPORT_P_SYNC_HCRC.w) ∧
    (∀ type, folioArrives s p err f type → type ≠ 1 → type ≠ 2 → senderMay (s.magRole p) type = false → h.dockRecord (s.magRole p) = false →
      ∃ t, exec (.magReservedFolio p err f) s = .next t ∧ folioTaken s t p ∧ t.docket = s.docket ∧ t.mem = s.mem ∧
        t.getF (magF F.MAGPORT_P_ERR_DISCARDED p) =
          (s.getF (magF F.MAGPORT_P_ERR_DISCARDED p) + 1) % 2 ^ F.MAGPORT_P_ERR_DISCARDED.w) ∧
    (taskArrives s p err f 0x01 → ∃ t, exec (.magIdentify p err f) s = .next t ∧ complete t k (s.magQueue p) h.task 0 0 ∧
      folioTaken s t p ∧ folioKept t p 0x12 h.task (s.magPage p)) ∧
    (taskArrives s p err f 0x02 → hasEntry s (s.magVol p) 0 → s.volStatus (s.magVol p) b.leaf n 0 = 0 → ∃ t, exec (.magRead p err f) s = .next t ∧
      taskRuns s t p f (fun g => g.entry = 0 ∧ g.leaf = b.leaf ∧ g.leaves = n ∧ g.state = if busy then .held else .waiting)) ∧
    (taskArrives s p err f 0x03 →
      (s.magLandOf p b.leaf n = (0, none) → s.volStatus (s.magVol p) b.leaf n 1 = 0 → hasEntry s (s.magVol p) 1 →
        s.overBudget 1 b.length = false → ∃ t, exec (.magWrite p err f) s = .next t ∧
        taskRuns s t p f (fun g => g.entry = 1 ∧ g.leaf = b.leaf ∧ g.leaves = n ∧ g.declared = b.length ∧ g.state = .arriving)) ∧
      (∀ j fr, s.magLandOf p b.leaf n = (0, some (j, fr)) → (s.takeOf j).slotStatus fr = 0 → s.landRace j fr = 0 →
        ∃ t, exec (.magWrite p err f) s = .next t ∧
          taskRuns s t p f (fun g => g.entry = 16 ∧ g.take = j ∧ g.frame = fr ∧ g.declared = b.length ∧ g.state = .arriving))) ∧
    (taskArrives s p err f 0x04 → s.volStatus (s.magVol p) 0 0 4 = 0 → hasEntry s (s.magVol p) 4 → ∃ t, exec (.magFlush p err f) s = .next t ∧
      taskRuns s t p f (fun g => g.entry = 4 ∧ g.state = if busy then .held else .waiting)) ∧
    (taskArrives s p err f 0x05 → let trim := fieldAt b.param 0 4
      s.volStatus (s.magVol p) b.leaf trim 3 = 0 → hasEntry s (s.magVol p) 3 → ∃ t, exec (.magTrim p err f) s = .next t ∧
        taskRuns s t p f (fun g => g.entry = 3 ∧ g.leaf = b.leaf ∧ g.leaves = trim ∧ g.ranges = [(b.leaf, trim)] ∧
          g.state = if busy then .held else .waiting)) ∧
    (taskArrives s p err f 0x06 → ∃ t, exec (.recordArm p err f) s = .next t ∧
      taskRuns s t p f (fun g => g.entry = 16 ∧ g.declared = 4096 ∧ g.state = .arriving) ∧ t.toll.takes = s.toll.takes) ∧
    (taskArrives s p err f 0x07 → let j := fieldAt b.param 0 1
      let y := s.takeOf j
      j < 64 → 1 ≤ y.state → y.state ≤ 3 → y.port = 0x10 + p → y.queue ≠ s.magQueue p → ∃ t, exec (.recordStop p err f) s = .next t ∧
        (t.tagOf k).state = .completing ∧ (t.tagOf k).status = 0 ∧ (t.magTask p h.task).state = 1 ∧
        (s.tagsOfQueue y.queue = [] → y.toGen = [] → t.takeOf j = default) ∧
        (s.tagsOfQueue y.queue ≠ [] ∨ y.toGen ≠ [] → (t.takeOf j).state = 4)) ∧
    (folioArrives s p err f 0x10 → s.magRole p = 1 → b.op = 0 ∨ 7 < b.op → (s.magTask p h.task).state = 0 →
      takesOne s (s.magQueue p) kMagazine → ∃ t, exec (.magUnknownOpcode p err f) s = .next t ∧
        (t.tagOf k).state = .completing ∧ (t.tagOf k).status = 0x5120 ∧ (t.magTask p h.task).state = 1 ∧ t.toll.takes = s.toll.takes) ∧
    (folioArrives s p err f 0x12 → let m := s.magTask p h.task
      let g := s.tagOf (m.tag - 1)
      s.magRole p = 1 → h.len ≠ 0 → h.len % 4096 = 0 → m.state = 1 → m.tag ≠ 0 → g.state = .arriving → h.ofs = g.arrived →
        g.arrived + h.data.length < g.declared → h.flags = 0 → ∃ t, exec (.magData p err f) s = .next t ∧ folioTaken s t p ∧
          (t.tagOf (m.tag - 1)).arrived = g.arrived + h.data.length ∧ (t.tagOf (m.tag - 1)).state = .arriving ∧ t.mag.tasks = s.mag.tasks) ∧
    (folioArrives s p err f 0x13 → s.magRole p = 1 →
      (s.magTags p = [] → ∃ t, exec (.magTaskReset p err f) s = .next t ∧ folioTaken s t p ∧ t.docket = s.docket ∧ t.mem = s.mem ∧
        ∀ r, r < 64 → t.magTask p r = if (s.magTask p r).state = 2 then default else s.magTask p r) ∧
      (∀ j, s.magTags p = [j] → (s.tagOf j).state = .dispatched → (s.tagOf j).catchable = true → (s.tagOf j).aborted = false →
        ∃ t, exec (.magTaskReset p err f) s = .next t ∧ folioTaken s t p ∧
          t.tagOf j = { s.tagOf j with silent := true, aborted := true, status := 0x6062 })) ∧
    (folioArrives s p err f 0x14 → s.magRole p = 1 → s.magFeat p 100 = true → let m := s.magTask p h.task
      (m.tag = 0 → ∃ t, exec (.magAbort p err f) s = .next t ∧ folioTaken s t p ∧ t.docket = s.docket ∧ t.mem = s.mem ∧
        folioKept t p 0x15 h.task (2 :: List.replicate 7 0)) ∧
      (m.tag ≠ 0 → let g := s.tagOf (m.tag - 1)
        g.state = .dispatched → g.catchable = true → g.aborted = false → ∃ t, exec (.magAbort p err f) s = .next t ∧ folioTaken s t p ∧
          t.tagOf (m.tag - 1) = { g with aborted := true, status := 0x6060, late := g.late ++ [[2, p, h.task, 0]] }))

namespace Sys2Proof.Claims

/-- A port has begun to train: SIGNAL, BUSY, a new LINK_EPOCH, its numbering new (R385). -/
def trains (s t : State) (p : Nat) : Prop :=
  t.getF (magF F.MAGPORT_P_LINK_STATE p) = 1 ∧ t.getF (magF F.MAGPORT_P_CTL_BUSY p) = 1 ∧
    t.getF (magF F.MAGPORT_P_LINK_LANES_UP p) = 0 ∧
    t.getF (magF F.MAGPORT_P_LINK_LINK_EPOCH p) =
      (s.getF (magF F.MAGPORT_P_LINK_LINK_EPOCH p) + 1) % 2 ^ F.MAGPORT_P_LINK_LINK_EPOCH.w ∧
    (t.magPort p).txSeq = 0 ∧ (t.magPort p).rxNext = 0 ∧ (t.magPort p).out = []

/-- A port is up on its lanes with the words accepted (R385, R401). -/
def portUp (s t : State) (p w0 w3 : Nat) : Prop :=
  let n := (s.magPort p).lanes
  t.getF (magF F.MAGPORT_P_LINK_STATE p) = (if n = 15 then 4 else 5) ∧
    t.getF (magF F.MAGPORT_P_LINK_LANES_UP p) = n % 2 ^ F.MAGPORT_P_LINK_LANES_UP.w ∧
    t.getF (magF F.MAGPORT_P_FEAT_WORD0 p) = w0 % 2 ^ F.MAGPORT_P_FEAT_WORD0.w ∧
    t.getF (magF F.MAGPORT_P_FEAT_WORD3 p) = w3 % 2 ^ F.MAGPORT_P_FEAT_WORD3.w ∧
    t.getF (magF F.MAGPORT_P_CTL_BUSY p) = 0 ∧ t.getF (magF F.MAGPORT_P_CFG_STATUS p) = 0

end Sys2Proof.Claims

/-- RETRAIN on a port that may train, loss of lock and the retry of a DOWN port start training; RETRAIN while BUSY completes
with 0x8120, where the port may not train with 0x7121; a lane that fails trains the pair that is whole. The markers lead to
NEGOTIATE, where the dock role sends TRAIN. TRAIN and TRAIN_REPLY bring the port up, or leave it DOWN with the status of
R386. The tether's tick shows STANDBY, SERVING or HANDBACK; drained, STANDBY. TWIN, ABORT_REPLY and NOTICE are taken. START
on a dock port that is up begins an ingest, STOP ends it with cause 1; a digest that agrees verifies the clip, one that does
not reads it once more, then MISMATCH; a task that fails is tried again; data collect. (R379, R380, R385, R386, R388, R389,
R392, R394, R396, R397, R399, R401) -/
def Obligations.MagazinePortsTrainAndIngest : Prop :=
  ∀ (s : State) (p : Nat), p < 4 →
    let x := s.magPort p
    let ctl := magF F.MAGPORT_P_CTL_STATUS p
    let ist := magF F.MAGPORT_P_INGEST_CTL_STATUS p
    let free : Prop := s.magRole p = 2 ∨ s.magTags p = []
    (s.magMayTrain p = true → free → s.getF (magF F.MAGPORT_P_CTL_BUSY p) ≠ 1 → ∃ t, exec (.magRetrain p) s = .next t ∧ trains s t p ∧
      completed t ctl 0 ∧ (t.magPort p).lanes = 15) ∧
    (s.getF (magF F.MAGPORT_P_CTL_BUSY p) = 1 → ∃ t, exec (.magRetrain p) s = .next t ∧ completed t ctl 0x8120 ∧ t.mag = s.mag) ∧
    (s.magMayTrain p = false → s.getF (magF F.MAGPORT_P_CTL_BUSY p) ≠ 1 → ∃ t, exec (.magRetrain p) s = .next t ∧
      completed t ctl 0x7121 ∧ t.mag = s.mag) ∧
    (s.magMayTrain p = true → free → s.magState p ≠ 0 → ∃ t, exec (.magLockLoss p) s = .next t ∧ trains s t p) ∧
    (s.magMayTrain p = true → free → s.magState p = 0 → ∃ t, exec (.magTrainRetry p) s = .next t ∧ trains s t p) ∧
    (s.toll.takes = [] → free → 3 ≤ s.magState p → s.magState p ≠ 6 → ∀ lanes, lanes = 12 ∨ lanes = 3 →
      ∃ t, exec (.magLaneFail p lanes) s = .next t ∧ trains s t p ∧ (t.magPort p).lanes = 15 - lanes) ∧
    (s.magState p = 1 ∨ s.magState p = 2 → ∃ t, exec (.laneMarkersFound p) s = .next t ∧ t.magState p = 3 ∧ t.docket = s.docket ∧
      (s.magRole p ≠ 2 → t.mag = s.mag ∧ t.outbox = s.outbox) ∧
      (s.magRole p = 2 → (t.magPort p).txSeq = x.txSeq + 1 ∧
        folioKept t p 0x01 0 ([2, BitVec.ofNat 8 p, if x.lanes = 15 then 4 else 2, 0] ++ leBytes 4 (s.mgmtWord 0) ++
          leBytes 4 (s.mgmtWord 3) ++ leBytes 4 0 ++ s.magSerial p ++ List.replicate 32 0))) ∧
    (∀ err f, let h := parseFolio f
      (folioArrives s p err f 0x01 → let w0 := fieldAt h.data 4 4 &&& s.mgmtWord 0
        let w3 := fieldAt h.data 8 4 &&& s.mgmtWord 3
        s.magRole p = 1 → fieldAt h.data 0 1 ≠ 1 → (w0.testBit 0 = true → w3.testBit 2 = true → w3.testBit 0 = true →
          (∀ r, r < 64 → (s.magTask p r).state ≠ 2) → ∃ t, exec (.magTrain p err f) s = .next t ∧
            folioKept t p 0x02 0 (leBytes 2 0 ++ leBytes 2 0 ++ leBytes 4 w0 ++ leBytes 4 w3 ++ leBytes 4 0) ∧
            (x.queue ≠ 0 → portUp s t p w0 w3 ∧ (t.magPort p).queue = x.queue) ∧
            (x.queue = 0 → s.reservedExt + 64 ≤ 61440 → s.queuesUsed < 4096 → portUp s t p w0 w3 ∧
              (t.magPort p).queue = s.freeQueue + 1 ∧ (t.queueOf s.freeQueue).kind = kMagazine ∧
              (t.queueOf s.freeQueue).depth = 64 ∧ (t.queueOf s.freeQueue).source = p)) ∧
        (w0.testBit 0 = false → ∃ t, exec (.magTrain p err f) s = .next t ∧ t.magState p = 0 ∧
          t.getF (magF F.MAGPORT_P_CFG_STATUS p) = 0x5010) ∧
        (w0.testBit 0 = true → w3.testBit 2 = false ∨ w3.testBit 0 = false → ∃ t, exec (.magTrain p err f) s = .next t ∧
          t.magState p = 0 ∧ t.getF (magF F.MAGPORT_P_CFG_STATUS p) = 0x5123)) ∧
      (folioArrives s p err f 0x01 → s.magRole p = 1 → fieldAt h.data 0 1 = 1 → ∃ t, exec (.magTrain p err f) s = .next t ∧
        t.magState p = 0 ∧ t.getF (magF F.MAGPORT_P_CFG_STATUS p) = 0x5122) ∧
      (folioArrives s p err f 0x02 → s.magRole p = 2 → s.ingRuns p = false →
        let w0 := fieldAt h.data 4 4 &&& s.mgmtWord 0
        let w3 := fieldAt h.data 8 4 &&& s.mgmtWord 3
        (fieldAt h.data 0 2 = 0 → w0.testBit 0 = true → w3.testBit 2 = true → w3.testBit 1 = true →
          ∃ t, exec (.magTrainReply p err f) s = .next t ∧ portUp s t p w0 w3 ∧ folioTaken s t p ∧ t.docket = s.docket) ∧
        (fieldAt h.data 0 2 ≠ 0 → ∃ t, exec (.magTrainReply p err f) s = .next t ∧ t.magState p = 0 ∧
          t.getF (magF F.MAGPORT_P_CFG_STATUS p) = fieldAt h.data 0 2 ∧ t.docket = s.docket)) ∧
      (folioArrives s p err f 0x15 → s.magRole p = 2 → ∃ t, exec (.magAbortReply p err f) s = .next t ∧ folioTaken s t p ∧
        t.docket = s.docket ∧ t.toll = s.toll ∧ t.mem = s.mem ∧ t.ingOf p = s.ingOf p) ∧
      (folioArrives s p err f 0x16 → s.magRole p = 2 → ∃ t, exec (.magNotice p err f) s = .next t ∧ folioTaken s t p ∧
        t.docket = s.docket ∧ t.toll = s.toll ∧ t.mem = s.mem ∧ t.ingOf p = s.ingOf p) ∧
      (folioArrives s p err f 0x17 → s.magRole p = 2 → ∃ t, exec (.magTwin p err f) s = .next t ∧ folioTaken s t p ∧
        t.docket = s.docket ∧ t.mem = s.mem ∧ (t.magPort p).heard = fieldAt h.data 0 1 ∧ (t.magPort p).epoch = fieldAt h.data 4 4) ∧
      (folioArrives s p err f 0x11 → s.magRole p = 2 → s.ingRuns p = true → let y := (s.ingOf p).tasks.get h.task
        (s.ingOf p).tasks.wf (fun _ => default) = true → 3 ≤ y.kind → y.kind ≤ 4 → y.statusIn = false → y.tries = 0 → 2 ≤ classOf (fieldAt h.data 0 2) →
        ∃ t, exec (.magTaskStatus p err f) s = .next t ∧ folioTaken s t p ∧ t.docket = s.docket ∧ t.mem = s.mem ∧
          (t.ingOf p).tasks.get h.task = { (default : IngTask) with kind := y.kind, leaf := y.leaf, len := y.len, tries := 1 }) ∧
      (folioArrives s p err f 0x12 → s.magRole p = 2 → h.len ≠ 0 → h.len % 4096 = 0 → let y := (s.ingOf p).tasks.get h.task
        y.kind ≠ 0 → h.ofs = y.data.length → y.data.length + h.data.length ≤ y.len → ∃ t, exec (.magData p err f) s = .next t ∧
          folioTaken s t p ∧ t.docket = s.docket ∧ t.mem = s.mem ∧ (t.ingOf p).tasks.get h.task =
            { y with data := y.data ++ h.data, closed := y.closed || decide (h.flags / 2 % 2 = 1) })) ∧
    (s.deaf = false → s.magRole p = 1 → s.magUp p = true → s.magTwin p = true → x.out = [] → ∃ t, exec (.twinTick p) s = .next t ∧
      t.twinState p = (if s.twinState p = 3 then 3 else if s.owns (s.volOf (s.magVol p)).commons = true then 2 else 1) ∧
      s.foliosOut p < t.foliosOut p ∧ t.docket = s.docket ∧ t.mem = s.mem ∧ (t.magPort p).txSeq = x.txSeq + 1) ∧
    (s.twinState p = 3 → (∀ r, r < 64 → (s.magTask p r).state ≠ 1) → ∃ t, exec (.handbackDrained p) s = .next t ∧ t.twinState p = 1 ∧
      t.docket = s.docket ∧ t.mem = s.mem) ∧
    (let v := s.volOf (s.getF (magF F.MAGPORT_P_INGEST_TARGET_VOLUME p))
     let able : Prop := s.magUp p = true ∧ s.magRole p = 2 ∧ v.slot ≠ 0 ∧ s.owns v.commons = true ∧ v.readOnly = false
     (s.deaf = false → s.ingRuns p = false → able → ∃ t, exec (.ingestStart p) s = .next t ∧ completed t ist 0 ∧
       t.ingState p = 1 ∧ t.getF (magF F.MAGPORT_P_INGEST_CTL_CAUSE p) = 0 ∧ (t.ingOf p).startReeve = s.now ∧ (t.ingOf p).records = [] ∧
       ((t.ingOf p).tasks.get 0).kind = 1 ∧ ((t.ingOf p).tasks.get 0).len = 4096 ∧ (t.magPort p).txSeq = x.txSeq + 1 ∧ t.mem = s.mem) ∧
     (s.deaf = false → s.ingRuns p = true → ∃ t, exec (.ingestStart p) s = .next t ∧ completed t ist 0x8120 ∧ t.mag = s.mag) ∧
     (s.deaf = false → s.ingRuns p = false → ¬able → ∃ t, exec (.ingestStart p) s = .next t ∧ completed t ist 0x7121 ∧ t.mag = s.mag)) ∧
    (s.ingRuns p = true → (s.ingOf p).sign = false → ∃ t, exec (.ingestStop p) s = .next t ∧ t.ingState p = 5 ∧
      t.getF (magF F.MAGPORT_P_INGEST_CTL_CAUSE p) = 1 ∧ (t.ingOf p).tasks = [] ∧ t.docket = s.docket ∧ t.mem = s.mem) ∧
    (s.deaf = false → s.ingState p = 2 → let i := s.ingOf p
      let c := i.clips.getD (i.cur - 1) []
      let agrees : Bool := decide (i.tree = (c.drop 0x40).take 64)
      1 ≤ i.cur → i.cur < i.clips.length → i.room ≤ i.fed → bitOf (fieldAt c 4 4) 1 = true → bitOf (fieldAt c 4 4) 2 = true →
      (∀ o, (agrees = true ∧ o = 1) ∨ (agrees = false ∧ i.reread = true ∧ o = 2) → ∃ t, exec (.ingestClipVerdict p) s = .next t ∧
        (t.ingOf p).cur = i.cur + 1 ∧ (t.ingOf p).reread = false ∧
        (t.ingOf p).records = i.records ++ [i.record c (s.ingOfs p) o s.now i.tree] ∧ t.docket = s.docket ∧
        (let fl := if o = 1 then F.MAGPORT_P_INGEST_OUTCOMES_VERIFIED else F.MAGPORT_P_INGEST_OUTCOMES_MISMATCH
         t.getF (magF fl p) = (s.getF (magF fl p) + 1) % 2 ^ fl.w)) ∧
      (agrees = false → i.reread = false → ∃ t, exec (.ingestClipVerdict p) s = .next t ∧ (t.ingOf p).cur = i.cur ∧
        (t.ingOf p).reread = true ∧ (t.ingOf p).fed = 0 ∧ (t.ingOf p).records = i.records ∧ t.docket = s.docket))

namespace Sys2Proof.Claims

/-- A way of a bank has begun to be retired: its lines are cleaned and invalidated (R430, R432). -/
def wayRetiring (t : State) (b w : Nat) : Prop :=
  t.larder.job = 3 ∧ t.larder.jobBank = b ∧ t.larder.jobWay = w ∧ t.getF F.LARDER_CTL_BUSY = 1 ∧ t.getF F.LARDER_STATE_CLEANING = 1

/-- No retirement of a way of a bank stands recorded, under way or queued, and no job is under way (R430, R436). -/
def wayIdle (s : State) (b w : Nat) : Prop :=
  s.larder.job = 0 ∧ (s.getF (F.LARDER_BANK_RETIRED.at b)).testBit w = false ∧ s.larder.jobQ.contains (b, w) = false

/-- Every line is invalid but those a fill has taken (R426, R429). -/
def linesGone (s t : State) : Prop :=
  ∀ k, t.larder.lines.get k = if (s.larder.lines.get k).busy then s.larder.lines.get k else default

/-- The lines of the Larder are in canonical form. -/
def linesCanonical (s : State) : Prop := AMap.wf (fun _ => (default : Line)) s.larder.lines = true

end Sys2Proof.Claims

/-- CLEAN makes clean, and INVALIDATE invalidates, exactly the held lines of the range (one being filled when its fill ends),
with BUSY until it is done; a second request completes with 0x8140, a range that breaks R427 with 0x5140. ENABLE 0 makes the
Larder write-through and begins cleaning, and its end leaves it disabled and empty but for ways a fill has taken; ENABLE 1
makes it serve with the other lines invalid. A WAYS count from 8 to 16 is taken at once where it does not fall; one that
falls begins a power-down. RETIRE begins for a fit way where enough stay and the guarantee holds without it, else it is
deferred with 0x2140; its end records the way RETIRED, with the spare in its place where one is free, and begins the next
queued one. RESTORE in SERVICE after a passed march test clears RETIRED. A fill that completes counts a miss and holds the
line. Memory does not change. (R425, R426, R427, R428, R429, R430, R432, R436, R437) -/
def Obligations.LarderIsMaintainedAndManaged : Prop :=
  ∀ (s : State),
    let same (t : State) : Prop := t.mem = s.mem ∧ t.docket = s.docket ∧ t.hands = s.hands
    (let a := s.getF F.LARDER_MAINT_ADDR_VAL
     let n := s.getF F.LARDER_MAINT_LEN_VAL
     let st := F.LARDER_MAINT_CTL_STATUS
     ∀ c inv, (c = .larderClean ∧ inv = false) ∨ (c = .larderInvalidate ∧ inv = true) →
      (s.getF F.LARDER_MAINT_CTL_BUSY ≠ 1 → a % 128 = 0 → n % 128 = 0 → n ≤ 1073741824 →
        linesCanonical s → ∃ t, exec c s = .next t ∧ completed t st 0 ∧
          t.getF F.LARDER_MAINT_CTL_BUSY = 1 ∧ t.getF F.LARDER_MAINT_CTL_DONE = 0 ∧ t.larder.maint = some (a, n, inv) ∧ same t ∧
          ∀ k, let x := s.larder.lines.get k
            let at_ := keyLine k x * 128
            t.larder.lines.get k =
              if x.valid = true ∧ x.busy = false ∧ a ≤ at_ ∧ at_ < a + n then (if inv then default else { x with dirty := false }) else x) ∧
      (s.getF F.LARDER_MAINT_CTL_BUSY = 1 → ∃ t, exec c s = .next t ∧ completed t st 0x8140 ∧ t.larder = s.larder ∧ same t) ∧
      (s.getF F.LARDER_MAINT_CTL_BUSY ≠ 1 → a % 128 ≠ 0 ∨ n % 128 ≠ 0 ∨ 1073741824 < n → ∃ t, exec c s = .next t ∧
        completed t st 0x5140 ∧ t.larder = s.larder ∧ same t)) ∧
    (∀ a n inv, s.larder.maint = some (a, n, inv) → (∀ x ∈ s.larder.fills, ¬(a ≤ x.1 * 128 ∧ x.1 * 128 < a + n)) →
      ∃ t, exec .larderMaintDone s = .next t ∧ t.larder = { s.larder with maint := none } ∧ t.getF F.LARDER_MAINT_CTL_BUSY = 0 ∧
        t.getF F.LARDER_MAINT_CTL_DONE = 1 ∧ t.getF F.LARDER_MAINT_CTL_STATUS = 0 ∧ same t) ∧
    (let st := F.LARDER_CTL_STATUS
     (s.mode = .service ∨ s.mode = .bootstrap →
      (s.larder.job = 0 → ∃ t, exec .larderDisable s = .next t ∧ t.reply = 0 ∧ t.larder.writeThrough = true ∧ t.larder.job = 1 ∧
        t.getF F.LARDER_CTL_ENABLE = 0 ∧ t.getF F.LARDER_STATE_WRITE_THROUGH = 1 ∧ t.getF F.LARDER_STATE_CLEANING = 1 ∧
        t.getF F.LARDER_CTL_BUSY = 1 ∧ t.larder.lines = s.larder.lines ∧ same t) ∧
      (s.larder.job ≠ 0 → ∃ t, exec .larderDisable s = .next t ∧ completed t st 0x8140 ∧ t.larder = s.larder)) ∧
     (s.mode ≠ .service → s.mode ≠ .bootstrap → ∃ t, exec .larderDisable s = .next t ∧ completed t st 0x7140 ∧ t.larder = s.larder) ∧
     (s.larder.job ≠ 0 → ∃ t, exec .larderEnable s = .next t ∧ completed t st 0x8140 ∧ t.larder = s.larder) ∧
     (s.larder.job = 0 → s.getF F.LARDER_STATE_DISABLED ≠ 0 → linesCanonical s → ∃ t, exec .larderEnable s = .next t ∧ completed t st 0 ∧
      t.larder.writeThrough = false ∧ linesGone s t ∧ t.getF F.LARDER_CTL_ENABLE = 1 ∧
      t.getF F.LARDER_STATE_DISABLED = 0 ∧ t.getF F.LARDER_STATE_WRITE_THROUGH = 0 ∧ same t)) ∧
    (let st := F.LARDER_WAYS_STATUS
     let now := s.getF F.LARDER_WAYS_COUNT
     ∀ c, (8 ≤ c → c ≤ 16 → s.larder.job = 0 → now ≤ c → ∃ t, exec (.larderWaysWrite c) s = .next t ∧ completed t st 0 ∧
        t.getF F.LARDER_WAYS_COUNT = c ∧ t.larder = s.larder ∧ same t) ∧
      (8 ≤ c → c < now → s.larder.job = 0 → s.keepsGuarantee (waysCap c s.toll.cap) = true → c ≤ 16 →
        ∃ t, exec (.larderWaysWrite c) s = .next t ∧ completed t st 0 ∧ t.getF F.LARDER_WAYS_COUNT = c ∧ t.larder.job = 2 ∧
          t.getF F.LARDER_CTL_BUSY = 1 ∧ t.getF F.LARDER_STATE_CLEANING = 1 ∧ same t) ∧
      (8 ≤ c → c < now → s.larder.job = 0 → c ≤ 16 → s.keepsGuarantee s.toll.cap = true →
        s.keepsGuarantee (waysCap c s.toll.cap) = false → ∃ t, exec (.larderWaysWrite c) s = .next t ∧ completed t st 0x2140 ∧
          t.getF F.LARDER_WAYS_COUNT = now ∧ t.larder = s.larder) ∧
      (c < 8 ∨ 16 < c → ∃ t, exec (.larderWaysWrite c) s = .next t ∧ completed t st 0x5140 ∧ t.getF F.LARDER_WAYS_COUNT = now)) ∧
    (let b := s.getF F.LARDER_BANK_SEL_VAL
     let st := F.LARDER_BANK_CTL_STATUS.at b
     let ret := F.LARDER_BANK_RETIRED.at b
     ∀ w, w ≤ 16 → s.larder.job = 0 →
      ((s.waysFit b).contains w = true → 13 ≤ (s.waysFit b).length → s.retireDefers kWay (b * 32 + w) = none → ∃ t, exec (.larderWayRetire w) s = .next t ∧
        completed t st 0 ∧ wayRetiring t b w ∧ t.getF F.LARDER_BANK_CTL_WAY = w ∧ t.larder.lines = s.larder.lines ∧ same t) ∧
      (∀ ms, (s.waysFit b).contains w = true → 13 ≤ (s.waysFit b).length → s.retireDefers kWay (b * 32 + w) = some ms →
        ∃ t, exec (.larderWayRetire w) s = .next t ∧ completed t st 0x2140 ∧ t.larder = s.larder ∧ t.warden.deferral = (0x2140, 0x0A, ms)) ∧
      ((s.waysFit b).contains w = false → ∃ t, exec (.larderWayRetire w) s = .next t ∧ completed t st 0x7140 ∧ t.larder = s.larder) ∧
      (s.mode = .service → (s.getF ret).testBit w = true →
        (s.larder.spareFor.get b ≠ w + 1 → ∃ t, exec (.larderWayRestore w true) s = .next t ∧ completed t st 0 ∧
          (t.getF ret).testBit w = false ∧ t.larder = s.larder ∧ same t ∧ t.getF (F.LARDER_BANK_SERVING.at b) = (t.waysServing b).length) ∧
        (s.larder.spareFor.get b = w + 1 → ∃ t, exec (.larderWayRestore w true) s = .next t ∧ completed t st 0 ∧
          (t.getF ret).testBit w = false ∧ t.larder.spareFor.get b = 0 ∧ t.getF (F.LARDER_BANK_SPARE.at b) = 16 ∧ same t) ∧
        (∃ t, exec (.larderWayRestore w false) s = .next t ∧ completed t st 0x4140 ∧ (t.getF ret).testBit w = true ∧ t.larder = s.larder)) ∧
      (s.mode ≠ .service → ∀ pass, ∃ t, exec (.larderWayRestore w pass) s = .next t ∧ completed t st 0x7140 ∧ t.larder = s.larder)) ∧
    (let j := s.larder
     (j.job = 1 → j.jobQ = [] → linesCanonical s → ∃ t, exec .larderDisableDone s = .next t ∧ t.larder.job = 0 ∧ linesGone s t ∧
      t.getF F.LARDER_STATE_DISABLED = 1 ∧ t.getF F.LARDER_STATE_CLEANING = 0 ∧ t.getF F.LARDER_CTL_BUSY = 0 ∧ same t) ∧
     (j.job = 2 → j.jobQ = [] → ∃ t, exec .larderDisableDone s = .next t ∧ t.larder.job = 0 ∧ t.getF F.LARDER_CTL_BUSY = 0 ∧ same t ∧
      (∀ b, b < 32 → t.getF (F.LARDER_BANK_SERVING.at b) = (t.waysServing b).length) ∧
      (∀ x ∈ j.lines, x.2.busy = false → (s.waysServing (x.1 / 32 % 32)).contains (x.1 % 32) = false → (t.larder.lines.get x.1).valid = false)) ∧
     (j.job = 3 → j.jobBank < 32 → j.jobWay < 16 → j.jobQ = [] → ∃ t, exec .larderDisableDone s = .next t ∧ t.larder.job = 0 ∧
      t.getF F.LARDER_CTL_BUSY = 0 ∧ (t.getF (F.LARDER_BANK_RETIRED.at j.jobBank)).testBit j.jobWay = true ∧
      t.getF (F.LARDER_BANK_SPARE.at j.jobBank) = 0x1F ∧
      (j.spareFor.get j.jobBank = 0 → (s.getF (F.LARDER_BANK_RETIRED.at j.jobBank)).testBit 16 = false →
        t.larder.spareFor.get j.jobBank = j.jobWay + 1) ∧ same t) ∧
     (j.job = 1 → linesCanonical s → ∀ b w r, j.jobQ = (b, w) :: r → ∃ t, exec .larderDisableDone s = .next t ∧ wayRetiring t b w ∧ t.larder.jobQ = r ∧
      linesGone s t ∧ same t)) ∧
    (∀ line w, s.larder.fills.get line ≠ 0 → s.hands.ctxs = [] → s.larderOn = true → s.fillWay line = some w →
      ∃ t, exec (.larderFillComplete line) s = .next t ∧ t.larder.fills.get line = 0 ∧
        t.getN R.LARDER_MISSES = (s.getN R.LARDER_MISSES + 1) % 2 ^ 64 ∧ same t ∧
        (s.larder.maint = none → (s.waysServing (lineBank line)).contains w = true →
          (∀ x ∈ s.larder.fills, x.1 = line ∨ (s.fillWay x.1).isSome = true) →
          t.larder.lines.get (wayKey line w) = { valid := true, tag := lineTag line, dirty := decide (s.larder.fills.get line = 2) }))

/-- A corrected error of a held line is counted and shown, and at the 64th of an operating hour the way's retirement begins; an
uncorrectable one is counted, poisons the line where it was dirty, with ALARM and POISON counted, and the way's retirement
begins. An HBM error that is corrected counts on its channel and remaps the row at the 16th; an uncorrectable one poisons
the line the Larder does not hold, and remaps the row while the channel has one left. REMAP of a row by management uses one
of the channel, or completes with 0x7150 where none is left. A scrub begins at the operating second. Memory's bytes do not
change. (R431, R432, R434, R435, R436, R438, R507) -/
def Obligations.LarderAndHbmErrorsAreHandled : Prop :=
  ∀ (s : State),
    (∀ bank set way, let b := bank % 32
      let w := way % 17
      let k := (set % 768 * 32 + b) * 32 + w
      let x := s.larder.lines.get k
      let l := keyLine k x
      x.valid = true →
      (wayIdle s b w → x.dirty = true → ∃ t, exec (.larderEccError bank set way true) s = .next t ∧ wayRetiring t b w ∧ l ∈ t.larder.poison ∧
        t.getF F.LARDER_ECC_UNCORR = (s.getF F.LARDER_ECC_UNCORR + 1) % 2 ^ F.LARDER_ECC_UNCORR.w ∧
        t.getN R.LARDER_POISON = (s.getN R.LARDER_POISON + 1) % 2 ^ 64 ∧ t.getF F.LARDER_LAST_ERR_KIND = 3 ∧ t.pins.ledAlarm = true ∧
        t.mem = s.mem) ∧
      (wayIdle s b w → x.dirty = false → ∃ t, exec (.larderEccError bank set way true) s = .next t ∧ wayRetiring t b w ∧
        t.larder.poison = s.larder.poison ∧ t.getF F.LARDER_ECC_UNCORR = (s.getF F.LARDER_ECC_UNCORR + 1) % 2 ^ F.LARDER_ECC_UNCORR.w ∧
        t.getF F.LARDER_LAST_ERR_KIND = 2 ∧ t.mem = s.mem) ∧
      (let n := (s.recent (s.larder.corr.get (b * 32 + w)) 3600).length
       (n < 64 → ∃ t, exec (.larderEccError bank set way false) s = .next t ∧ t.larder.job = s.larder.job ∧ t.larder.jobQ = s.larder.jobQ ∧
        t.larder.poison = s.larder.poison ∧ t.larder.lines = s.larder.lines ∧
        t.larder.corr.get (b * 32 + w) = s.recent (s.larder.corr.get (b * 32 + w)) 3600 ∧
        t.getF F.LARDER_ECC_CORR = (s.getF F.LARDER_ECC_CORR + 1) % 2 ^ F.LARDER_ECC_CORR.w ∧ t.getF F.LARDER_LAST_ERR_KIND = 1 ∧ t.mem = s.mem) ∧
       (64 ≤ n → wayIdle s b w → ∃ t, exec (.larderEccError bank set way false) s = .next t ∧ wayRetiring t b w ∧
        t.larder.poison = s.larder.poison ∧ t.getF F.LARDER_ECC_CORR = (s.getF F.LARDER_ECC_CORR + 1) % 2 ^ F.LARDER_ECC_CORR.w ∧ t.mem = s.mem))) ∧
    (∀ addr row, let ch := hbmChannel (s.getF F.HBM_STATE_STACKS) addr
      let left := s.getF (F.HBM_CH_LEFT.at ch)
      let remapped (t : State) : Prop := t.larder.rows = s.larder.rows ++ [(ch, row)] ∧ t.getF (F.HBM_CH_LEFT.at ch) = left - 1
      (s.larder.rows.contains (ch, row) = false → left ≠ 0 → ∃ t, exec (.hbmEccError addr row true) s = .next t ∧ remapped t ∧
        t.getF F.HBM_ECC_UNCORR = (s.getF F.HBM_ECC_UNCORR + 1) % 2 ^ F.HBM_ECC_UNCORR.w ∧ t.getF F.HBM_LAST_ERR_KIND = 2 ∧ t.mem = s.mem ∧
        (s.lineWay (lineOf addr) = none → lineOf addr ∈ t.larder.poison ∧ t.pins.ledAlarm = true) ∧
        ((s.lineWay (lineOf addr)).isSome = true → t.larder.poison = s.larder.poison)) ∧
      (s.larder.rows.contains (ch, row) = false → left = 0 → (s.lineWay (lineOf addr)).isSome = true →
        ∃ t, exec (.hbmEccError addr row true) s = .next t ∧ t.larder.rows = s.larder.rows ∧ ch ∈ t.larder.chAlarm ∧
          t.larder.poison = s.larder.poison ∧ t.mem = s.mem) ∧
      (let n := (s.recent (s.larder.rowErr.get (ch * 1048576 + row)) 86400).length
       (n < 16 → ∃ t, exec (.hbmEccError addr row false) s = .next t ∧ t.larder.rows = s.larder.rows ∧ t.larder.poison = s.larder.poison ∧
        t.getF F.HBM_ECC_CORR = (s.getF F.HBM_ECC_CORR + 1) % 2 ^ F.HBM_ECC_CORR.w ∧ t.getF F.HBM_LAST_ERR_KIND = 1 ∧ t.mem = s.mem) ∧
       (16 ≤ n → s.larder.rows.contains (ch, row) = false → left ≠ 0 → ∃ t, exec (.hbmEccError addr row false) s = .next t ∧ remapped t ∧
        t.larder.poison = s.larder.poison ∧ t.mem = s.mem))) ∧
    (∃ t, exec .hbmScrubDue s = .next t ∧ t = { s with larder := { s.larder with scrubAt := s.opsec } }) ∧
    (let ch := s.getF F.HBM_CH_SEL_VAL
     let st := F.HBM_ROW_CTL_STATUS.at ch
     let left := s.getF (F.HBM_CH_LEFT.at ch)
     ∀ row, s.getF (F.HBM_ROW_CTL_BUSY.at ch) ≠ 1 →
      (left ≠ 0 → s.larder.rows.contains (ch, row) = false → ∃ t, exec (.hbmRowRemap row) s = .next t ∧ completed t st 0 ∧
        t.larder.rows = s.larder.rows ++ [(ch, row)] ∧ t.getF (F.HBM_CH_LEFT.at ch) = left - 1 ∧ t.mem = s.mem) ∧
      (left = 0 → ∃ t, exec (.hbmRowRemap row) s = .next t ∧ completed t st 0x7150 ∧ t.larder = s.larder ∧ t.mem = s.mem))

namespace Sys2Proof.Claims

/-- A key operation has taken effect: STATUS, BUSY 0, nothing left of the blob written (R447). -/
def keyDone (t : State) (st : Status) : Prop :=
  completed t F.STRONG_KEY_CTL_STATUS st ∧ t.getF F.STRONG_KEY_CTL_BUSY = 0 ∧ t.strong.keyBuf = []

/-- The next selector record has been written (R455). -/
def selected (s t : State) (active committed secMin : Nat) : Prop :=
  t.strong.selSeq = s.strong.selSeq + 1 ∧ t.strong.active = active ∧ t.getF F.STRONG_STATE_COMMITTED = committed ∧
    t.getF F.STRONG_STATE_SECURITY_MIN = secMin % 2 ^ F.STRONG_STATE_SECURITY_MIN.w ∧
    t.strong.sels.get ((s.strong.selSeq + 1) % 2) = selectorBytes (s.strong.selSeq + 1) active committed secMin

end Sys2Proof.Claims

/-- Where no operation is BUSY: one R447 does not permit completes with 0x7160, a blob whose length is not the one declared with
0x5161. Outside PAIRED, IMPORT_OMK of a blob that unwraps sets the OMK and its identifier; ENROLL_PROGKEY sets the program
key and its digest; VAULT_CREATE draws a set and stores it; VAULT_EXPORT leaves its blob in KEY_OUT; VAULT_IMPORT stores the
blob's set; VAULT_DELETE erases the copy and zeroes the slot, at once or once its operations have drained; SESSION_LOAD
stores the session key. In PAIRED the others wait BUSY for the partner. KEY_DATA and AUTH_DATA take the next 8 bytes, a
grant beyond its length with 0x5161. A request while BUSY completes with 0x8160. (R446, R447, R451, R459, R460) -/
def Obligations.KeysAndGrantsAreHandled : Prop :=
  ∀ (s : State),
    let form (i : Instr) : Option (Nat × Nat) := match i with
      | .keyImportOmk => some (1, 0)
      | .keyEnrollProgkey => some (2, 0)
      | .keyVaultCreate v => some (3, v % 256)
      | .keyVaultExport v => some (4, v % 256)
      | .keyVaultImport v => some (5, v % 256)
      | .keyVaultDelete v => some (6, v % 256)
      | .keySessionLoad v => some (7, v % 256)
      | _ => none
    let b := s.strong.keyBuf
    let whole : Prop := b.length = s.getF F.STRONG_KEY_LEN_VAL
    (∀ i op v, form i = some (op, v) →
      (s.getF F.STRONG_KEY_CTL_BUSY = 1 → ∃ t, exec i s = .next t ∧ completed t F.STRONG_KEY_CTL_STATUS 0x8160 ∧ t.strong = s.strong ∧
        t.mill = s.mill) ∧
      (s.getF F.STRONG_KEY_CTL_BUSY ≠ 1 → s.keyPermits op v = false → ∃ t, exec i s = .next t ∧ keyDone t 0x7160 ∧ t.mill = s.mill ∧
        t.strong = { s.strong with keyBuf := [] }) ∧
      (s.getF F.STRONG_KEY_CTL_BUSY ≠ 1 → s.keyPermits op v = true → op ∈ [1, 2, 5, 7] → ¬whole → ∃ t, exec i s = .next t ∧
        keyDone t 0x5161 ∧ t.mill = s.mill ∧ t.strong = { s.strong with keyBuf := [] }) ∧
      (s.getF F.STRONG_KEY_CTL_BUSY ≠ 1 → s.keyPermits op v = true → (op ∈ [2, 5, 7] → whole) → op ≠ 1 → op ≠ 4 → s.mode = .paired →
        ∃ t, exec i s = .next t ∧ t.reply = 0 ∧ t.getF F.STRONG_KEY_CTL_BUSY = 1 ∧ t.strong.keyBack = v ∧ t.mill = s.mill ∧
          t.strong.vaults = s.strong.vaults ∧ ∃ blob, t.hands.acts = s.hands.acts ++ [⟨true, 8, op, v, 0, blob⟩])) ∧
    (s.getF F.STRONG_KEY_CTL_BUSY ≠ 1 →
      (s.strong.omk = [] → whole → b.length = 512 → ∀ m, Config.oaep b = some m → m.length = 40 → ∃ t, exec .keyImportOmk s = .next t ∧
        keyDone t 0 ∧ t.strong.omk = m.take 32 ∧ t.getN R.STRONG_OMK_ID = fieldAt m 32 8 ∧ t.getF F.STRONG_STATE_OMK = 1 ∧
        (t.mill.slots.get 2).material = m.take 32 ∧ (t.mill.slots.get 2).kind = 1 ∧ t.mem = s.mem) ∧
      (s.strong.omk = [] → whole → b.length = 512 → Config.oaep b = none → ∃ t, exec .keyImportOmk s = .next t ∧ keyDone t 0x4160 ∧
        t.strong.omk = [] ∧ t.mill = s.mill) ∧
      (∀ v, v < 256 → s.keyPermits 4 v = true → ∃ t, exec (.keyVaultExport v) s = .next t ∧ keyDone t 0 ∧
        t.strong.keyOut = s.vaultBlob v ∧ t.strong.vaults = s.strong.vaults ∧ t.mill = s.mill ∧ t.mem = s.mem) ∧
      (s.mode ≠ .paired →
        (s.getN R.HANDS_PROGKEY = 0 → whole → b.length = 516 → ∃ t, exec .keyEnrollProgkey s = .next t ∧ keyDone t 0 ∧
          t.strong.progKey = b ∧ t.getN R.HANDS_PROGKEY = keyIdent b % 2 ^ 64 ∧ t.hold.tableSeq = s.hold.tableSeq + 1 ∧ t.mem = s.mem) ∧
        (∀ v m, v < 256 → s.keyPermits 3 v = true →
          (let x := (s.vaultDraw v 4).1
           x.length = 120 → fieldAt x 8 1 = v → kwUnwrap s.strong.omk (x.drop 16) = some m → halvesEqual 3 m = false →
           ∃ t, exec (.keyVaultCreate v) s = .next t ∧ keyDone t 0 ∧ t.strong.vaults.get v = ⟨fieldAt x 0 8, x.drop 16⟩ ∧
            (t.mill.slots.get (0x100 + v)).kind = 3 ∧ (t.mill.slots.get (0x100 + v)).material = m ∧ t.mem = s.mem)) ∧
        (∀ v m, v < 256 → s.keyPermits 5 v = true → whole → s.strong.omk ≠ [] → b.length = 120 → fieldAt b 8 1 = v →
          kwUnwrap s.strong.omk (b.drop 16) = some m → halvesEqual 3 m = false → ∃ t, exec (.keyVaultImport v) s = .next t ∧ keyDone t 0 ∧
            t.strong.vaults.get v = ⟨fieldAt b 0 8, b.drop 16⟩ ∧ (t.mill.slots.get (0x100 + v)).material = m ∧
            (t.mill.slots.get (0x100 + v)).ident = fieldAt b 0 8 ∧ t.mem = s.mem) ∧
        (∀ v, v < 256 → s.keyPermits 6 v = true → ∃ t, exec (.keyVaultDelete v) s = .next t ∧ keyDone t 0 ∧
          t.strong.vaults.get v = default ∧
          ((s.mill.slots.get (0x100 + v)).state = 1 → s.slotInFlight (0x100 + v) = 0 →
            (t.mill.slots.get (0x100 + v)).state = 0 ∧ (t.mill.slots.get (0x100 + v)).material = []) ∧
          ((s.mill.slots.get (0x100 + v)).state = 1 → s.slotInFlight (0x100 + v) ≠ 0 → (t.mill.slots.get (0x100 + v)).state = 2) ∧
          (∀ u, u ≠ v → t.strong.vaults.get u = s.strong.vaults.get u) ∧ t.mem = s.mem) ∧
        (∀ k m, k < 256 → s.keyPermits 7 k = true → whole → s.strong.omk ≠ [] → b.length = 40 → kwUnwrap s.strong.omk b = some m →
          ∃ t, exec (.keySessionLoad k) s = .next t ∧ keyDone t 0 ∧ t.strong.sessions.get k = b ∧ (t.mill.slots.get k).kind = 1 ∧
            (t.mill.slots.get k).material = m ∧ t.mem = s.mem))) ∧
    (∀ v, ∃ t, exec (.keyData v) s = .next t ∧ t.strong.keyBuf = b ++ leBytes 8 v.toNat ∧ t.reply = 0 ∧
      { t with strong := s.strong, reply := s.reply } = s) ∧
    (∀ v, ∃ t, exec (.authData v) s = .next t ∧ t.obs.grant = s.obs.grant ++ leBytes 8 v.toNat ∧
      t.reply = (if s.getF F.STRONG_AUTH_LEN_VAL < s.obs.grant.length + 8 then 0x5161 else 0) ∧ { t with obs := s.obs, reply := s.reply } = s)

/-- In a mode that takes uploads while no roll is BUSY: BEGIN empties the inactive bank and makes it LOADING, ABORT EMPTY; DATA
takes 8 bytes of a block; END_BLOCK keeps a head block that verifies, or a block whose digest the head block gives, else
completes with 0x5161, 0x4160 or 0x4161; VERIFY of whole blocks makes the bank VALID. ACTIVATE and ROLLBACK select the other
bank in a new selector record, uncommitted, and restart warm; COMMIT of the running bank commits it and raises SECURITY_MIN.
ROLL.GO begins the roll or completes with 0x7160; its steps go on as R458 says. QUOTE.GO signs the quote. A request during a
roll completes with 0x8160. (R450, R452, R453, R454, R455, R456, R457, R458, R460) -/
def Obligations.FirmwareIsUploadedAndRolled : Prop :=
  ∀ (s : State) (env : BootEnv),
    let st := F.STRONG_FW_CTL_STATUS
    let n := 1 - s.runBank
    let rolls : Prop := s.getF F.STRONG_ROLL_CTL_BUSY = 1
    let same (t : State) : Prop := t.mem = s.mem ∧ t.docket = s.docket ∧ t.mode = s.mode
    let uploads := [Instr.fwBegin, .fwEndBlock, .fwVerify, .fwAbort]
    (rolls → ∀ i, i ∈ uploads ++ [.fwActivate env, .fwRollback env, .fwCommit] → ∃ t, exec i s = .next t ∧ completed t st 0x8160 ∧
      t.strong = s.strong ∧ same t) ∧
    (¬rolls → s.mode = .paired ∨ s.mode = .solo ∨ s.mode = .sealedMode ∨ s.mode = .service →
      (∃ t, exec .fwBegin s = .next t ∧ completed t st 0 ∧ t.bankState n = 1 ∧ t.getN R.STRONG_FW_COUNT = 0 ∧ same t ∧
        t.strong = { s.strong with blocks := s.strong.blocks.filter (fun x => x.1 / 512 ≠ n), blockBuf := [] } ∧
        t.bankState (1 - n) = s.bankState (1 - n)) ∧
      (s.bankState n = 1 →
        (∃ t, exec .fwAbort s = .next t ∧ completed t st 0 ∧ t.bankState n = 0 ∧ same t ∧
          t.strong = { s.strong with blocks := s.strong.blocks.filter (fun x => x.1 / 512 ≠ n), blockBuf := [] }) ∧
        (∀ v, ∃ t, exec (.fwData v) s = .next t ∧ t.reply = 0 ∧ same t ∧ t.getN R.STRONG_FW_COUNT = (s.getN R.STRONG_FW_COUNT + 8) % 2 ^ 64 ∧
          t.strong = { s.strong with
            blockBuf := s.strong.blockBuf ++ (leBytes 8 v.toNat).take (65536 - s.strong.blockBuf.length) }) ∧
        (let i := s.getF F.STRONG_FW_BLK_VAL
         let x := s.strong.blockBuf
         let h := s.strong.blocks.get (n * 512)
         let kept (t : State) : Prop := completed t st 0 ∧ same t ∧ t.strong.blockBuf = [] ∧ t.getN R.STRONG_FW_COUNT = 0 ∧
           t.strong.blocks = s.strong.blocks.set (n * 512 + i) x ∧ t.bankState n = 1
         let dropped (t : State) (e : Status) : Prop := completed t st e ∧ same t ∧ t.strong = { s.strong with blockBuf := [] } ∧
           t.getN R.STRONG_FW_COUNT = 0
         (s.getN R.STRONG_FW_COUNT ≠ 65536 → ∃ t, exec .fwEndBlock s = .next t ∧ dropped t 0x5161) ∧
         (s.getN R.STRONG_FW_COUNT = 65536 →
          (i = 0 → s.headOk x = true → ∃ t, exec .fwEndBlock s = .next t ∧ kept t ∧
            t.getF (F.STRONG_FW_BANKA_VERSION.nth n) = fieldAt x 8 4 ∧ t.getF (bankSec n) = fwSec x) ∧
          (i = 0 → s.headOk x = false → ∃ t, exec .fwEndBlock s = .next t ∧ dropped t 0x4160) ∧
          (i ≠ 0 → h ≠ [] → i < fwBlocks h → digest 1 x = (h.drop (0x900 + 32 * i)).take 32 → ∃ t, exec .fwEndBlock s = .next t ∧ kept t) ∧
          (i ≠ 0 → h = [] ∨ fwBlocks h ≤ i ∨ digest 1 x ≠ (h.drop (0x900 + 32 * i)).take 32 → ∃ t, exec .fwEndBlock s = .next t ∧
            dropped t 0x4161)) ∧
         (h ≠ [] → (∀ j, j < fwBlocks h → s.strong.blocks.get (n * 512 + j) ≠ []) → s.partsOk n = true → ∃ t, exec .fwVerify s = .next t ∧
          completed t st 0 ∧ t.bankState n = 2 ∧ t.strong = s.strong ∧ same t) ∧
         (h ≠ [] → (∀ j, j < fwBlocks h → s.strong.blocks.get (n * 512 + j) ≠ []) → s.partsOk n = false → ∃ t, exec .fwVerify s = .next t ∧
          completed t st 0x4161 ∧ t.bankState n = 1 ∧ t.strong = s.strong) ∧
         (h = [] → ∃ t, exec .fwVerify s = .next t ∧ completed t st 0x5160 ∧ t.bankState n = 1 ∧ t.strong = s.strong)))) ∧
    (¬rolls →
      (∀ i, i = .fwActivate env ∨ i = .fwRollback env →
        (s.activateStatus = 0 → s.mode = .service → ∃ t, exec i s = .next t ∧ warmStart s t env 0x13 ∧ t.strong.selSeq = s.strong.selSeq + 1 ∧
          t.strong.active = n ∧ t.strong.sels.get ((s.strong.selSeq + 1) % 2) =
            selectorBytes (s.strong.selSeq + 1) n 0 (s.getF F.STRONG_STATE_SECURITY_MIN)) ∧
        (s.activateStatus ≠ 0 → ∃ t, exec i s = .next t ∧ completed t st s.activateStatus ∧ t.strong = s.strong ∧ same t)) ∧
      (let b := s.runBank
       (s.strong.active = b → ∃ t, exec .fwCommit s = .next t ∧ completed t st 0 ∧ t.bankState b = 4 ∧ same t ∧
        selected s t b 1 (max (s.getF F.STRONG_STATE_SECURITY_MIN) (s.getF (bankSec b))) ∧
        (s.strong.blocks.get (b * 512) = [] → t.strong.revoked = s.strong.revoked)) ∧
       (s.strong.active ≠ b → ∃ t, exec .fwCommit s = .next t ∧ completed t st 0x7160 ∧ t.strong = s.strong))) ∧
    (let rs := F.STRONG_ROLL_CTL_STATUS
     (rolls → ∃ t, exec .rollGo s = .next t ∧ completed t rs 0x8160 ∧ t.strong = s.strong) ∧
     (¬rolls → s.slotNo = 0 → s.rollReady = true → s.partnerHere = true → ∃ t, exec .rollGo s = .next t ∧ completed t rs 0 ∧
      t.getF F.STRONG_ROLL_CTL_BUSY = 1 ∧ t.getF F.STRONG_ROLL_STATE_STEP = 1 ∧ t.getF F.STRONG_ROLL_STATE_FAILED_STEP = 0 ∧
      t.strong = { s.strong with rollPhase := 1 } ∧ t.cf.txSeq = s.cf.txSeq + 1 ∧ same t) ∧
     (¬rolls → s.slotNo ≠ 0 ∨ s.rollReady = false ∨ s.partnerHere = false → ∃ t, exec .rollGo s = .next t ∧ completed t rs 0x7160 ∧
      t.strong = s.strong ∧ same t)) ∧
    (s.getF F.STRONG_ROLL_CTL_BUSY = 0 → s.strong.rollTask = 2 → s.mode = .service → s.activateStatus = 0 →
      ∃ t, exec (.rollStepAdvance env) s = .next t ∧ warmStart s t env 0x13 ∧ t.strong.active = n) ∧
    (s.getF F.STRONG_ROLL_CTL_BUSY ≠ 0 →
      let step := s.getF F.STRONG_ROLL_STATE_STEP
      let ended (t : State) (failed : Nat) : Prop := t.getF F.STRONG_ROLL_CTL_BUSY = 0 ∧ t.getF F.STRONG_ROLL_STATE_STEP = 0 ∧
        t.getF F.STRONG_ROLL_STATE_FAILED_STEP = failed ∧ t.strong.rolling = false ∧ same t
      (step = 2 → s.mode = .solo → s.cf.partnerMode = 7 → s.partnerHere = true → ∃ t, exec (.rollStepAdvance env) s = .next t ∧
        t.getF F.STRONG_ROLL_STATE_STEP = 3 ∧ t.cf.txSeq = s.cf.txSeq + 1 ∧ t.strong = s.strong ∧ same t) ∧
      (step = 2 → s.partnerHere = false → ∃ t, exec (.rollStepAdvance env) s = .next t ∧ ended t 2) ∧
      (step = 3 → s.mode = .paired → s.strong.partnerFw / 2 ^ 32 = s.getF (F.STRONG_FW_BANKA_VERSION.nth n) → s.serviceStatus = 0 →
        s.getF F.IDENT_MODE_REQ_BUSY ≠ 1 → ∃ t, exec (.rollStepAdvance env) s = .next t ∧ t.getF F.STRONG_ROLL_STATE_STEP = 4 ∧
          t.strong.rollPhase = 1 ∧ t.getF F.IDENT_MODE_REQ_BUSY = 1 ∧ same t) ∧
      (step = 3 → s.mode = .paired → s.strong.partnerFw / 2 ^ 32 ≠ s.getF (F.STRONG_FW_BANKA_VERSION.nth n) →
        ∃ t, exec (.rollStepAdvance env) s = .next t ∧ ended t 3) ∧
      (step = 4 → s.strong.rollPhase = 1 → s.mode = .service → s.activateStatus = 0 → ∃ t, exec (.rollStepAdvance env) s = .next t ∧
        warmStart s t env 0x13 ∧ t.strong.active = n) ∧
      (step = 4 → s.strong.rollPhase = 2 → s.mode = .paired → s.runBank = s.strong.active → ∃ t, exec (.rollStepAdvance env) s = .next t ∧
        ended t 0)) ∧
    (∃ t, exec .quoteGo s = .next t ∧ completed t F.STRONG_QUOTE_CTL_STATUS 0 ∧ same t ∧
      t.strong.quote = s.quoteBody ++ s.idSign s.quoteBody)

namespace Sys2Proof.Claims

/-- What an event of the Register or the Crier leaves alone. -/
def unobserved (s t : State) : Prop :=
  t.mem = s.mem ∧ t.docket = s.docket ∧ t.hands = s.hands ∧ t.toll = s.toll ∧ t.mode = s.mode ∧ t.outbox = s.outbox

end Sys2Proof.Claims

/-- A window of 1 ms writes a register event that waits alone to the circulating area, or the founding area for a founding code,
with the next sequence number, and delivers a LOG that waits alone to the ring. After HUSH_S, while no counter runs, a
suppressed source gets a HUSH record of what was suppressed. A snapshot copies the area's records from FROM on for its path.
A clear under a grant removes what lies wholly at or below THROUGH and is itself written; without one it completes with
0x7170. A write of REEVE_WALL with feature 1 sets it, raises WALL_EPOCH for an earlier time and is a register event with the
old and new time; without it, 0x7170. The operating seconds are saved. (R464, R465, R466, R469, R470, R471, R472, R473,
R475, R476) -/
def Obligations.RegisterAndCrierDeliver : Prop :=
  ∀ (s : State),
    (s.power = .on → s.mode ≠ .holdup → s.obs.parish = default → s.obs.push = default → s.obs.ringP = default → ∀ r, s.obs.regQ = [r] →
      r.size ≤ 2 → r.chan = 3 → ∃ t, exec .crierWindow s = .next t ∧ unobserved s t ∧ t.obs.regQ = [] ∧
        (let seq := s.getF F.PARISH_STATE_NEXT_SEQ
         let r2 := { r with seq := seq, founding := foundingCode r.code }
         (foundingCode r.code = false → recsIn (s.obs.circ ++ [r2]) ≤ 65536 → t.obs.circ = s.obs.circ ++ [r2] ∧ t.obs.founding = s.obs.founding) ∧
         (foundingCode r.code = true → s.getF F.PARISH_STATE_FOUNDING_FULL = 0 → recsIn s.obs.founding + r.size ≤ 4096 → t.obs.founding = s.obs.founding ++ [r2] ∧ t.obs.circ = s.obs.circ) ∧
         (foundingCode r.code = false → t.getF F.PARISH_STATE_NEXT_SEQ = (seq + r.size) % 2 ^ F.PARISH_STATE_NEXT_SEQ.w))) ∧
    (s.power = .on → s.mode ≠ .holdup → s.obs.parish = default → s.obs.push = default → s.obs.regQ = [] → ∀ r,
      s.obs.ringP = { (default : CPath) with logs := [r] } → r.size ≤ 10000 → r.isCount = false → r.code ≠ 2 → r.chan = 1 →
      recsIn (s.obs.ring ++ [r]) ≤ 1048576 → ∃ t, exec .crierWindow s = .next t ∧ unobserved s t ∧ t.obs.ring = s.obs.ring ++ [r] ∧
        t.obs.ringP = default ∧ t.getN (R.CRIER_SENT + 8) = (s.getN (R.CRIER_SENT + 8) + 1) % 2 ^ 64) ∧
    (∀ src, let x := s.obs.srcs.get src
      x.suppressing = true → s.getF F.COUNT_RUN_VAL = 0 → ∃ t, exec (.hushPeriod src) s = .next t ∧ unobserved s t ∧
        t.obs.srcs.get src = { x with suppressed := 0, first := 0, last := 0, suppressing := decide (x.suppressed ≠ 0) } ∧
        ∃ r, t.obs.ringP.logs = s.obs.ringP.logs ++ [r] ∧ r.code = 1 ∧ r.source = src ∧ r.detail = x.suppressed % 2 ^ 48 ∧
          r.body = leBytes 8 x.first ++ leBytes 8 x.last ∧ r.seq = s.getN R.CRIER_RING_HEAD % 2 ^ 32) ∧
    (∀ (p : Path) area from_, ∃ t, exec (.parishSnapshot p area from_) s = .next t ∧ completed t F.PARISH_SNAP_CTL_STATUS 0 ∧ unobserved s t ∧
      (let l := (((if area % 2 = 0 then s.obs.founding else s.obs.circ).flatMap Rec.frames).filter
         (fun f => decide (from_ % 2 ^ 32 ≤ fieldAt f 0 4))).take 65536
       t.obs.snaps.get p.num = l ∧ t.getF F.PARISH_SNAP_INFO_COPIED = l.length % 2 ^ F.PARISH_SNAP_INFO_COPIED.w) ∧
      t.getN R.PARISH_SNAP_SEQ = s.now ∧ t.obs.founding = s.obs.founding ∧ t.obs.circ = s.obs.circ) ∧
    (s.grantOk 0x52414C43 568 = false → ∃ t, exec .parishClearGo s = .next t ∧ completed t F.PARISH_CLEAR_STATUS 0x7170 ∧
      t.obs.circ = s.obs.circ ∧ t.obs.grant = [] ∧ t.strong.nonceAt = 0 ∧ t.mem = s.mem) ∧
    (s.grantOk 0x52414C43 568 = true → s.getF F.PARISH_STATE_FOUNDING_FULL = 0 → recsIn s.obs.founding + (1 + contCount (digest 0 s.obs.grant).length) ≤ 4096 → ∃ t, exec .parishClearGo s = .next t ∧
      completed t F.PARISH_CLEAR_STATUS 0 ∧ t.obs.grant = [] ∧ t.strong.nonceAt = 0 ∧ t.getN R.PARISH_CLEARED_SEQ = s.now ∧
      t.obs.circ = s.obs.circ.filter (fun r => decide (fieldAt s.obs.grant 48 4 < r.seq + r.size - 1)) ∧
      (∃ r, t.obs.founding = s.obs.founding ++ [r] ∧ r.code = 0x10D ∧ r.body = digest 0 s.obs.grant) ∧ t.mem = s.mem) ∧
    (∀ sec, let was := s.getF F.REEVE_WALL_VALID = 1
      let old := if was then s.getF F.REEVE_WALL_SECONDS else 0
      let new_ := sec % 2 ^ 40
      (s.feat 1 = false → ∃ t, exec (.wallWrite sec) s = .next t ∧ t.reply = 0x7170 ∧ { t with reply := s.reply } = s) ∧
      (s.feat 1 = true → ∃ t, exec (.wallWrite sec) s = .next t ∧ t.reply = 0 ∧ unobserved s t ∧ t.getF F.REEVE_WALL_VALID = 1 ∧
        t.getF F.REEVE_WALL_SECONDS = new_ ∧ t.getF F.REEVE_WALL_WALL_EPOCH =
          (if was ∧ new_ < old then (s.getF F.REEVE_WALL_WALL_EPOCH + 1) % 2 ^ F.REEVE_WALL_WALL_EPOCH.w else s.getF F.REEVE_WALL_WALL_EPOCH) ∧
        ∃ r, t.obs.regQ = s.obs.regQ ++ [r] ∧ r.code = 0x10C ∧ r.body = leBytes 8 old ++ leBytes 8 new_)) ∧
    (∃ t, exec .opsecSave s = .next t ∧ t = { s with obs := { s.obs with opsecSaved := s.opsec } })

/-- COUNT_LATCH copies every counter's value into its shadow at one Reeve number. A configuration R479 allows is taken and its
sampling begins anew; an event above 0x0E or a chain on an even counter completes with 0x5180 and changes nothing. A running
counter at 2^64 - 1 wraps to 0 and sets its COUNT_OVF bit. A sampling counter that has reached its period makes a record of
64 bytes with its number, the Reeve number and its value, and the head advances. FREEZE puts a MARK on the reel and then
stands, thaw clears it. STOP of a replay, and its end with a result of 1 to 3, lead back to SERVICE with the result in
REEVE_REPLAY; STOP outside a replay completes with 0x7170. (R478, R479, R480, R481, R482, R483, R484, R485) -/
def Obligations.CountersAndReelAreKept : Prop :=
  ∀ (s : State),
    let val (n : Nat) : Fld := F.COUNT_P_VALUE_ALL.win 0x20 n
    (∃ t, exec .countLatchGo s = .next t ∧ completed t F.COUNT_LATCH_STATUS 0 ∧ t.getN R.COUNT_LATCH_SEQ = s.now ∧ unobserved s t ∧
      ∀ n, n < 32 → t.getF (F.COUNT_P_SHADOW_ALL.win 0x20 n) = s.getF (val n)) ∧
    (∀ n (v : Word), n < 32 → let st := F.COUNT_P_CFG_STATUS.win 0x20 n
      let bad : Prop := 0x0E < F.COUNT_P_CFG_EVENT.get v ∨ (F.COUNT_P_CFG_CHAIN.get v = 1 ∧ n % 2 = 0)
      (bad → ∃ t, exec (.countCfgWrite n v) s = .next t ∧ completed t st 0x5180 ∧ t.obs = s.obs ∧ unobserved s t ∧
        t.getF (F.COUNT_P_CFG_EVENT.win 0x20 n) = s.getF (F.COUNT_P_CFG_EVENT.win 0x20 n)) ∧
      (¬bad → ∃ t, exec (.countCfgWrite n v) s = .next t ∧ completed t st 0 ∧ t.obs.counts.get n = 0 ∧ unobserved s t ∧
        (∀ f, f ∈ [F.COUNT_P_CFG_EVENT, F.COUNT_P_CFG_LEVEL, F.COUNT_P_CFG_SAMPLE, F.COUNT_P_CFG_CHAIN, F.COUNT_P_CFG_OVF_LOG,
          F.COUNT_P_CFG_HAND_MASK] → t.getF (f.win 0x20 n) = f.get v) ∧ t.getF (val n) = s.getF (val n))) ∧
    (∀ n, n < 32 → (s.getF F.COUNT_RUN_VAL).testBit n = true → s.getF (val n) = 2 ^ 64 - 1 → ∃ t, exec (.counterWrap n) s = .next t ∧
      t.getF (val n) = 0 ∧ (t.getF F.COUNT_OVF_VAL).testBit n = true ∧ t.obs.counts.get n = s.obs.counts.get n + 1 ∧ unobserved s t) ∧
    (∀ n e insn, n < 32 → let period := s.getF (F.COUNT_P_PERIOD_VAL.win 0x20 n)
      s.getF (F.COUNT_P_CFG_SAMPLE.win 0x20 n) = 1 → s.getF (F.COUNT_P_CFG_LEVEL.win 0x20 n) = 0 → 1000 ≤ period →
      period ≤ s.obs.counts.get n → s.getN R.COUNT_SAMPLE_HEAD < 262143 → ∃ t, exec (.counterSample n e insn) s = .next t ∧
        t.getN R.COUNT_SAMPLE_HEAD = s.getN R.COUNT_SAMPLE_HEAD + 1 ∧ t.docket = s.docket ∧ t.hands = s.hands ∧
        ∃ x, t.obs.samples.getLast? = some x ∧ x.length = 64 ∧ fieldAt x 0 4 = s.getN R.COUNT_SAMPLE_HEAD ∧ fieldAt x 4 1 = n ∧
          fieldAt x 8 8 = s.now ∧ fieldAt x 16 8 = s.getF (val n) ∧ x.drop 60 = leBytes 4 (crc32c (x.take 60))) ∧
    (let st := F.REEVE_REEL_CTL_STATUS
     (∃ t, exec .reelFreeze s = .next t ∧ completed t st 0 ∧ t.getF F.REEVE_REEL_CTL_FREEZE = 1 ∧ t.docket = s.docket ∧
      (s.getF F.REEVE_REEL_CTL_FREEZE ≠ 1 → s.mode ≠ .replay → s.obs.reel = [] → t.obs.reelLostAtFreeze = s.getN R.REEVE_REEL_LOST ∧
        ∃ r, t.obs.reel = [r] ∧ r.kind = 4 ∧ r.rseq = s.getN R.REEVE_REEL_SEQ ∧ r.reeve = s.now)) ∧
     (∃ t, exec .reelThaw s = .next t ∧ completed t st 0 ∧ t.getF F.REEVE_REEL_CTL_FREEZE = 0 ∧ t.docket = s.docket)) ∧
    (s.mode = .replay → ∃ t, exec .replayStop s = .next t ∧ completed t F.REEVE_REPLAY_CTL_STATUS 0 ∧ t.mode = .service ∧
      t.getF F.REEVE_REPLAY_RESULT = 4 ∧ t.getF F.REEVE_REPLAY_STATE = 0 ∧ t.mem = s.mem) ∧
    (s.mode ≠ .replay → ∃ t, exec .replayStop s = .next t ∧ completed t F.REEVE_REPLAY_CTL_STATUS 0x7170 ∧ t.mode = s.mode ∧
      t.obs = s.obs ∧ t.mem = s.mem) ∧
    (s.mode = .replay → ∀ result count at_ ra rb off, 1 ≤ result → result ≤ 3 →
      ∃ t, exec (.replayEnd result count at_ ra rb off) s = .next t ∧ t.mode = .service ∧ t.getF F.REEVE_REPLAY_RESULT = result ∧
        t.getF F.REEVE_REPLAY_COUNT = count % 2 ^ F.REEVE_REPLAY_COUNT.w ∧ t.getN R.REEVE_REPLAY_AT = at_ % 2 ^ 64 ∧ t.mem = s.mem ∧
        (result = 2 → t.getF F.REEVE_REPLAY_DIFF_OFFSET = off % 2 ^ F.REEVE_REPLAY_DIFF_OFFSET.w))

namespace Sys2Proof.Claims

/-- No take, no ingest and no magazine queue stands against a change of capacity or of a port (R163, R391, R397). -/
def unladen (s : State) : Prop :=
  s.toll.takes = [] ∧ ∀ p, p < 4 → s.ingRuns p = false ∧ (s.magPort p).queue = 0

/-- The head shows a grade and its power cap, and its ports stand open or shut accordingly (R490, R491). -/
def graded (t : State) (g : Nat) : Prop :=
  t.getF F.WARDEN_GRADE_GRADE = g ∧ t.getF F.WARDEN_POWER_CAP = t.capWatts ∧ ∀ p, p < 4 → portOpen g (0x10 + p) = false → t.magState p = 6

/-- HOLDUP has begun for a cause: outputs held, the bank discharging into the flush (R266, R497, R514). -/
def holdupBegun (t : State) (cause : Nat) : Prop :=
  t.mode = .holdup ∧ t.getF F.IDENT_MODE_MODE = Mode.holdup.code ∧ t.getF F.IDENT_MODE_CAUSE = cause ∧ t.pins.heldAt ≠ none ∧
    t.getF F.WARDEN_BANK_STATE = 6 ∧ t.getF F.TILL_STATE_FLUSHING = 1

end Sys2Proof.Claims

/-- With no take, ingest or magazine queue: VIN below 10.8 V takes FULL to REDUCED and below 6.0 V to MINIMAL, at or above 6.4 V
and 11.2 V it comes back, each with its cap and ports. The loss of VIN begins HOLDUP, or before t0 bleeds the bank; its
return brings a stopped module up unless it is hot. Power above the cap takes 10 %, below it gives 5 % back. The thermal cap
applies and lifts; +125 C begins HOLDUP with cause 0x0D until +95 C; too cold, VIN above 18.5 V and a lost RTCX write an
ALARM; a hot stack doubles refresh; a PLL at fault is gated; a lost REFCLK B takes the links it clocks down; the converter
stops; line 29 goes dark. (R32, R33, R434, R490, R491, R492, R499, R500, R501, R504, R515, R523) -/
def Obligations.SupplyHeatAndClocksAreObeyed : Prop :=
  ∀ (s : State),
    let vinShown (t : State) (v : Nat) : Prop := t.getF F.WARDEN_VIN_VIN = v % 2 ^ F.WARDEN_VIN_VIN.w
    let caseShown (t : State) (v : Nat) : Prop := t.getF F.WARDEN_TEMP_CASE = v % 2 ^ F.WARDEN_TEMP_CASE.w
    (s.power = .on → unladen s → ∀ v,
      (s.grade = 0 → v < 10800 → ∃ t, exec (.gradeFall v) s = .next t ∧ graded t (if v < 6000 then 2 else 1) ∧ vinShown t v ∧ t.mode = s.mode ∧ t.mem = s.mem) ∧
      (s.grade = 1 → v < 6000 → ∃ t, exec (.gradeFall v) s = .next t ∧ graded t 2 ∧ vinShown t v ∧ t.mode = s.mode ∧ t.mem = s.mem) ∧
      (s.grade = 2 → 6400 ≤ v → ∃ t, exec (.gradeRise v) s = .next t ∧ graded t (if 11200 ≤ v then 0 else 1) ∧ vinShown t v ∧ t.mode = s.mode ∧ t.mem = s.mem) ∧
      (s.grade = 1 → 11200 ≤ v → ∃ t, exec (.gradeRise v) s = .next t ∧ graded t 0 ∧ vinShown t v ∧ t.mode = s.mode ∧ t.mem = s.mem) ∧
      (∃ t, exec (.powerCapExceeded v) s = .next t ∧ t.toll.powerPct = s.toll.powerPct - 10 ∧ t.getF F.WARDEN_POWER_LIMITED = 1 ∧
        t.getF F.WARDEN_POWER_MW = v % 2 ^ F.WARDEN_POWER_MW.w ∧ t.mode = s.mode ∧ t.mem = s.mem) ∧
      (s.toll.powerPct < 100 → ∃ t, exec (.powerCapRelax v) s = .next t ∧ t.toll.powerPct = min 100 (s.toll.powerPct + 5) ∧
        t.getF F.WARDEN_POWER_LIMITED = (if s.toll.powerPct + 5 < 100 then 1 else 0) ∧ t.mode = s.mode ∧ t.mem = s.mem) ∧
      (s.thermal = false → ∃ t, exec (.thermalCapOn v) s = .next t ∧ t.thermal = true ∧ t.getF F.WARDEN_POWER_CAP = t.capWatts ∧
        t.getF F.HBM_STATE_DOUBLED = 1 ∧ caseShown t v ∧ t.mode = s.mode ∧ t.mem = s.mem) ∧
      (s.thermal = true → ∃ t, exec (.thermalCapOff v) s = .next t ∧ t.thermal = false ∧ t.getF F.WARDEN_POWER_CAP = t.capWatts ∧
        t.getF F.HBM_STATE_DOUBLED = (if s.larder.tempHot = 0 then 0 else 1) ∧ caseShown t v ∧ t.mode = s.mode ∧ t.mem = s.mem)) ∧
    (∀ v, s.power = .on → s.mode ≠ .holdup → s.warden.running = none → (∀ p, p < 4 → s.ingRuns p = false) → s.hands.ctxs = [] →
      (∃ t, exec (.vinLoss v) s = .next t ∧ holdupBegun t 0x0C ∧ vinShown t v ∧ t.mem = s.mem ∧ t.docket = s.docket ∧
        t.strong.ledger.vinLost = (s.strong.ledger.vinLost || decide (s.mode = .bootstrap))) ∧
      (∃ t, exec (.overTemp v) s = .next t ∧ holdupBegun t 0x0D ∧ caseShown t v ∧ t.warden.hotStop = true ∧ t.mem = s.mem ∧
        t.docket = s.docket)) ∧
    (∀ v, s.power = .rising → ∃ t, exec (.vinLoss v) s = .next t ∧ t.power = .off ∧ t.getF F.WARDEN_BANK_STATE = 7 ∧ vinShown t v ∧
      t.strong.reset = false ∧ t.mem = s.mem) ∧
    (∀ v, s.power = .off ∨ s.power = .down →
      (s.warden.hotStop = false → ∃ t, exec (.vinReturn v) s = .next t ∧ t.power = .rising ∧ vinShown t v ∧ t.mem = s.mem ∧
        (s.getF F.WARDEN_BANK_STATE = 7 → t.getF F.WARDEN_BANK_STATE = 0)) ∧
      (s.warden.hotStop = true → ∃ t, exec (.vinReturn v) s = .next t ∧ t.power = s.power ∧ vinShown t v ∧ t.mem = s.mem)) ∧
    (∀ v, s.power = .on → (18500 < v → s.warden.overVin = false → ∃ t, exec (.vinAboveRange v) s = .next t ∧ t.warden.overVin = true ∧
        t.pins.ledAlarm = true ∧ vinShown t v ∧ t.mem = s.mem) ∧
      (v ≤ 18500 → ∃ t, exec (.vinAboveRange v) s = .next t ∧ t.warden.overVin = false ∧ t.pins = s.pins ∧ vinShown t v ∧ t.mem = s.mem)) ∧
    (∀ v, s.warden.hotStop = true → s.power = .down ∨ s.power = .off → 4800 ≤ s.getF F.WARDEN_VIN_VIN → ∃ t, exec (.overtempCooled v) s = .next t ∧
      t.power = .rising ∧ t.warden.hotStop = false ∧ caseShown t v ∧ t.mem = s.mem) ∧
    (∀ v, s.power = .on → s.warden.cold = false → ∃ t, exec (.caseTooCold v) s = .next t ∧ t.warden.cold = true ∧ t.pins.ledAlarm = true ∧
      caseShown t v ∧ t.mem = s.mem) ∧
    (∀ v w, let hot (x : Nat) : Nat := if 850 < tempInt x then 1 else 0
      let h := if tempInt v < 800 ∧ tempInt w < 800 then 0 else s.larder.tempHot ||| (hot v + 2 * hot w)
      ∃ t, exec (.hbmStackHot v w) s = .next t ∧ t.larder = { s.larder with tempHot := h } ∧ t.mem = s.mem ∧
        t.getF F.HBM_STATE_DOUBLED = (if s.thermal = true ∨ h ≠ 0 then 1 else 0) ∧
        t.getF F.HBM_TEMP_STACK0 = v % 2 ^ F.HBM_TEMP_STACK0.w ∧ t.getF F.HBM_TEMP_STACK1 = w % 2 ^ F.HBM_TEMP_STACK1.w) ∧
    (∀ p, p < 6 → s.power = .on → ∃ t, exec (.pllFault p) s = .next t ∧ (t.getF F.WARDEN_CLOCKS_LOCKED).testBit p = false ∧
      t.warden.pllAt = s.time + 1 ∧ t.mem = s.mem ∧ ∀ q, q < 6 → q ≠ p →
        (t.getF F.WARDEN_CLOCKS_LOCKED).testBit q = (s.getF F.WARDEN_CLOCKS_LOCKED).testBit q) ∧
    (s.getF F.WARDEN_CLOCKS_RTCX = 1 → ∃ t, exec .rtcxLoss s = .next t ∧ t.getF F.WARDEN_CLOCKS_RTCX = 0 ∧ t.pins.ledAlarm = true ∧
      t.mem = s.mem ∧ t.docket = s.docket) ∧
    ((s.getF F.WARDEN_CLOCKS_REFCLK_C).testBit 1 = true → ∃ t, exec (.refclkLoss 1) s = .next t ∧
      (t.getF F.WARDEN_CLOCKS_REFCLK_C).testBit 1 = false ∧ t.getF F.TILL_CF_STATE_LANES_UP = 0 ∧ t.getF F.TILL_CF_STATE_STATE = 0 ∧
      t.getF F.TILL_CF_CTL_BUSY = 0 ∧ t.rest = s.rest) ∧
    (s.getF F.WARDEN_VIN_VIN < 4800 → ∃ t, exec .converterStop s = .next t ∧ t.power = .off ∧ t.pins.fenceOut = false ∧ t.pins.pwren = 0 ∧
      t.pins.misoAnswers = false ∧ t.pins.ledAlarm = false ∧ t.pins.heldAt = none ∧ t.mem = s.mem ∧ t.regs = s.regs) ∧
    (∃ t, exec .alarmLedExpiry s = .next t ∧ t = { s with pins := { s.pins with ledAlarm := false } })

/-- With no take held: a charge window gives C and the target of R493, or a REFUSED bank and an ALARM out of range; charged, the
bank is READY at its target; a disconnect and a HOLD_SENSE mismatch outside HOLDUP make it LOST with BUDGET 0. MEASURE puts
a step test in the Warden's queue, as does MEAS_H; MEASURE while BUSY completes with 0x8190, where no bank serves with
0x7190. TEST.GO of a unit that exists puts its test in the queue; a periodic test that falls due is queued. The first test
that is ready begins where the guarantee holds: a calibration or a step test beside, a way by itself; where it would not
hold it is deferred with 0x2190, and a forced one begins with the lowered block standing. A test that ends frees its place
and shows its result. (R261, R493, R494, R495, R496, R497, R505, R506, R507, R508, R523) -/
def Obligations.BankAndTestsAreRun : Prop :=
  ∀ (s : State),
    let bank (t : State) (n : Nat) : Prop := t.getF F.WARDEN_BANK_STATE = n
    (s.toll.takes = [] →
      (bank s 2 → ∃ t, exec .bankCharged s = .next t ∧ bank t 3 ∧ t.getF F.WARDEN_BANK_MEAS_V = s.getF F.WARDEN_BANK_MEAS_VTARGET ∧
        t.mode = s.mode) ∧
      (∀ refine dt, bank s 1 ∨ bank s 2 → let c := s.chargeMa * dt / (if refine then 400000 else 300000)
        (200 ≤ c → c ≤ 2000 → ∃ t, exec (.chargeWindow refine dt) s = .next t ∧ t.getF F.WARDEN_BANK_MEAS_C = c ∧
          t.getF F.WARDEN_BANK_MEAS_VTARGET = vTarget c ∧ bank t (if (if refine then 14000 else 6000) < vTarget c then 2 else 3)) ∧
        (c < 200 ∨ 2000 < c → ∃ t, exec (.chargeWindow refine dt) s = .next t ∧ bank t 4 ∧ t.getF F.WARDEN_BANK_MEAS_VTARGET = 0 ∧
          t.pins.ledAlarm = true)) ∧
      (s.mode ≠ .holdup → ¬bank s 0 → ¬bank s 5 →
        (s.warden.side = none → ∃ t, exec .bankDisconnect s = .next t ∧ bank t 5 ∧ t.pins.ledAlarm = true ∧ t.getN R.TILL_BUDGET = 0) ∧
        (∃ t, exec .holdSenseMismatch s = .next t ∧ bank t 5 ∧ t.pins.ledAlarm = true ∧ t.getN R.TILL_BUDGET = 0))) ∧
    (let st := F.WARDEN_BANK_CTL_STATUS
     (s.getF F.WARDEN_BANK_CTL_BUSY ≠ 1 → bank s 1 ∨ bank s 2 ∨ bank s 3 ∨ bank s 4 → ∃ t, exec .bankMeasure s = .next t ∧
      testAsked s t st F.WARDEN_BANK_CTL_BUSY kBank 0 false ∧ t.getF F.WARDEN_BANK_CTL_RETRY_MS = 0) ∧
     (s.getF F.WARDEN_BANK_CTL_BUSY = 1 → ∃ t, exec .bankMeasure s = .next t ∧ completed t st 0x8190 ∧ t.warden = s.warden) ∧
     (s.getF F.WARDEN_BANK_CTL_BUSY ≠ 1 → bank s 0 ∨ bank s 5 ∨ bank s 6 ∨ bank s 7 → ∃ t, exec .bankMeasure s = .next t ∧
      completed t st 0x7190 ∧ t.warden = s.warden)) ∧
    (let queued (t : State) (kind unit source : Nat) (force : Bool) : Prop :=
       t.warden.queue = s.warden.queue ++ [{ ownTest kind unit false with source := source, force := force, due := s.time }] ∧
       t.getF F.WARDEN_TEST_STATE_QUEUED = (s.warden.queue.length + 1) % 2 ^ F.WARDEN_TEST_STATE_QUEUED.w ∧ t.mem = s.mem
     let st := F.WARDEN_TEST_CTL_STATUS
     (s.mode ≠ .holdup → bank s 3 → ∃ t, exec .bankStepTestDue s = .next t ∧ queued t kBank 0 0 false) ∧
     (∀ kind unit force, unitExists kind (testUnit kind unit) = true →
       force = false ∨ s.mode = .paired ∨ s.mode = .solo ∨ s.mode = .sealedMode ∨ s.mode = .service →
       ∃ t, exec (.wardenTestGo kind unit force) s = .next t ∧ completed t st 0 ∧ t.getF F.WARDEN_TEST_CTL_RETRY_MS = 0 ∧
        queued t kind (if kind = kWay then s.getF F.LARDER_BANK_SEL_VAL * 32 + unit % 32 else unit % 256) 1 force) ∧
     (∀ kind unit force, unitExists kind (testUnit kind unit) = false → ∃ t, exec (.wardenTestGo kind unit force) s = .next t ∧ completed t st 0x5190 ∧
       t.warden = s.warden) ∧
     (∀ kind unit, unitExists kind unit = true → kind ≠ kWay → s.mode ≠ .holdup → s.unitRetired kind unit = false →
       (kind = kCouncil → s.getF F.COUNCIL_STATE_CONFIG ≠ 2) → (kind = kSerdes → s.getF (F.WARDEN_SERDES_SPARE_FREE.at unit) ≠ 0) →
       ∃ t, exec (.periodicTestDue kind unit) s = .next t ∧ queued t kind unit 0 false)) ∧
    (∀ r, s.power = .on → s.mode ≠ .holdup → s.warden.queue = [r] → s.testReady r = true → r.force = false → r.source ≤ 2 →
      (s.keepsGuarantee (s.capLess r.kind r.unit) = true →
        (r.kind = kBank → ∃ t, exec .testWithdrawal s = .next t ∧ t.warden = { s.warden with queue := [], side := some r } ∧ bank t 1 ∧
          t.getF F.WARDEN_TEST_STATE_QUEUED = 0 ∧ t.mem = s.mem) ∧
        (r.kind = kSerdes → r.unit < 11 → ∃ t, exec .testWithdrawal s = .next t ∧ t.warden = { s.warden with queue := [], side := some r } ∧
          t.getF (F.WARDEN_SERDES_SPARE_FREE.at r.unit) = 0 ∧
          t.getF (F.WARDEN_SERDES_LANE.at r.unit) = s.getF (F.WARDEN_SERDES_RECALS.at r.unit) % 8 ∧ t.mem = s.mem) ∧
        (r.kind = kWay → ∃ t, exec .testWithdrawal s = .next t ∧ t.warden = { s.warden with queue := [], running := some r } ∧
          t.getF F.WARDEN_TEST_STATE_KIND = kWay ∧ t.getF F.WARDEN_TEST_STATE_UNIT = r.unit % 2 ^ F.WARDEN_TEST_STATE_UNIT.w ∧ t.mem = s.mem)) ∧
      (s.keepsGuarantee s.toll.cap = true → s.keepsGuarantee (s.capLess r.kind r.unit) = false → r.source = 1 →
        ∃ t, exec .testWithdrawal s = .next t ∧
          t.warden = { s.warden with queue := [], deferral := (0x2190, 0x0A, s.retryGuarantee (s.capLess r.kind r.unit)) } ∧
          t.getF F.WARDEN_TEST_CTL_STATUS = 0x2190 ∧
          t.getF F.WARDEN_TEST_CTL_BUSY = 0 ∧ t.mem = s.mem ∧ t.getF F.WARDEN_TEST_STATE_DEFERRED =
            (s.getF F.WARDEN_TEST_STATE_DEFERRED + 1) % 2 ^ F.WARDEN_TEST_STATE_DEFERRED.w)) ∧
    (∀ r, s.power = .on → s.mode ≠ .holdup → s.warden.queue = [r] → s.testReady r = true → r.force = true → r.kind = kWay →
      ∃ t, exec .testWithdrawal s = .next t ∧ t.warden = { s.warden with queue := [], running := some r, full := s.units.list } ∧
        t.toll.cap = s.capLess r.kind r.unit ∧ t.mem = s.mem) ∧
    (∀ r c esr v, s.warden.side = some r → r.kind = kSerdes → r.unit < 11 → ∃ t, exec (.unitTestDone true true c esr v) s = .next t ∧
      t.warden = { s.warden with side := none } ∧ t.getF (F.WARDEN_SERDES_SPARE_FREE.at r.unit) = 1 ∧
      t.getF (F.WARDEN_SERDES_LANE.at r.unit) = 0xFF ∧ t.getF F.WARDEN_LAST_EVENT_KIND = kSerdes ∧ t.getF F.WARDEN_LAST_EVENT_STATUS = 0 ∧
      t.mem = s.mem) ∧
    (∀ r c esr v, s.warden.running = some r → r.kind = kWay → s.warden.queue = [] → s.toll.takes = [] → r.source = 1 →
      (∃ t, exec (.unitTestDone false true c esr v) s = .next t ∧ t.warden.running = none ∧ t.getF F.WARDEN_TEST_STATE_KIND = 0xFF ∧
        t.getF F.WARDEN_TEST_CTL_STATUS = 0 ∧ t.getF F.WARDEN_TEST_CTL_BUSY = 0 ∧ t.larder.job = s.larder.job ∧ t.mem = s.mem) ∧
      (wayIdle s (r.unit / 32) (r.unit % 32) → ∃ t, exec (.unitTestDone false false c esr v) s = .next t ∧ t.warden.running = none ∧
        wayRetiring t (r.unit / 32) (r.unit % 32) ∧ t.getF F.WARDEN_TEST_CTL_STATUS = 0x4140 ∧ t.mem = s.mem))

namespace Sys2Proof.Claims

/-- A step's outcome is a next state with the queue left by the step, and the stores in canonical form where they were. -/
def stepKeeps (s : State) (queue : List Instr) (o : Host.Outcome State Fault Refusal) : Prop :=
  ∀ t, o = .next t → t.pending = queue ∧ (s.canonical → t.canonical)

end Sys2Proof.Claims

/-- For every state, command and rest: where the queue is the command and then the rest, step answers what exec answers for the
command on the state that holds the rest. On an empty queue, by the model's choice of log entry 4: without power only time
advances, by 1; with power, past the start, where no relock, capacity block, LEVEL count, ingest at work or whole second is
due, time advances by 1, COUNT_CYCLES of each domain by its cycles in 1 us, and memory, mode, commands in flight and
contexts stay. (R38, R478, R481, R502, assumption log 4 (the queue, and what a step does on an empty one, are the model's
choice)) -/
def Obligations.AStepRunsTheFrontCommand : Prop :=
  (∀ (s : State) (c : Instr) (rest : List Instr), s.pending = c :: rest → Machine.step s = exec c { s with pending := rest }) ∧
  ∀ (s : State), s.pending = [] →
    (s.power ≠ .on → Machine.step s = .next { s with time := s.time + 1 }) ∧
    (s.power = .on → s.booting = false → s.time + 1 ≠ s.strong.boot.t0 + 1000 → s.time + 1 ≠ s.strong.boot.t0 + 2000 → s.warden.pllAt = 0 →
      s.toll.due = false → s.getF F.COUNT_RUN_VAL = 0 → (∀ p, p < 4 → s.ingState p ≠ 2) → (s.time + 1) % 1000000 ≠ 0 →
      ∃ t, Machine.step s = .next t ∧ t.time = s.time + 1 ∧ t.mem = s.mem ∧ t.mode = s.mode ∧ t.docket = s.docket ∧ t.hands = s.hands ∧
        ∀ k, k < 7 → t.getN (R.COUNT_CYCLES + 8 * k) = (s.getN (R.COUNT_CYCLES + 8 * k) + domainMhz.getD k 0) % 2 ^ 64)

/-- For every command and every state exec answers a next state, and so does every step: the spec answers what it does not allow
by a status, a trap, a count or by ignoring it. (R38, R91, R102) -/
def Obligations.EveryCommandAnswersAState : Prop :=
  (∀ (i : Instr) (s : State), ∃ t, exec i s = .next t) ∧ ∀ s : State, ∃ t, Machine.step s = .next t

/-- State.reset has an empty queue, no context, tag, queue of the Docket, take or byte of memory, is before t0 in BOOTSTRAP, and
IDENT_PART, IDENT_MODE, HANDS_WATCHDOG, HANDS_BIND, DOCKET_LATE, DOCKET_ATOMIC, MILL_LOCK_LIMIT, SLED_TIMEOUT, LARDER_CTL
and LARDER_WAYS hold the values their tables give; its register file and memory are in the canonical form that
EveryStepKeepsTheStores keeps. (R11, R32, R42, R61, R138, R426, R430) -/
def Obligations.ResetLeavesTheTablesValues : Prop :=
  let s := Machine.State.reset
  s.pending = [] ∧ s.mem = [] ∧ s.hands.ctxs = [] ∧ s.docket.tags = [] ∧ s.docket.queues = [] ∧ s.toll.takes = [] ∧ s.power = .off ∧
    s.mode = .bootstrap ∧ s.getN R.IDENT_PART = 0xF1BE6480484D0100 ∧ s.getN R.IDENT_MODE = 1 ∧ s.getN R.HANDS_WATCHDOG = 200000 ∧
    s.getN R.HANDS_BIND = 0xFF ∧ s.getN R.DOCKET_LATE = 10 ∧ s.getN R.DOCKET_ATOMIC = 65536 ∧ s.getN R.MILL_LOCK_LIMIT = 10000 ∧
    s.getN R.SLED_TIMEOUT = 2000 ∧ s.getN R.LARDER_CTL = 0xACE10001 ∧ s.getN R.LARDER_WAYS = 16 ∧ s.canonical

/-- From every state: exec of every command leaves the queue as it is, and a step leaves exactly the queue's rest; where the
register file and memory were in canonical form (keys strictly rising, no entry equal to what an unlisted key reads as) they
are so after it. (R37, R38, R64, assumption log 5 (the canonical form of the stores is the model's)) -/
def Obligations.EveryStepKeepsTheStores : Prop :=
  (∀ (i : Instr) (s : State), stepKeeps s s.pending (exec i s)) ∧ ∀ s : State, stepKeeps s s.pending.tail (Machine.step s)

/-- For every instruction that encodeIxa spells, of any engine, with operands ixaOk admits: decodeIxa of the words is the
instruction, whatever words follow. (R91, R92, R93, R94, R95, R97, R98, R99, R100, R101, R102, R103) -/
def Obligations.DecodingUndoesEncoding : Prop :=
  ∀ (i : Instr) (ws after : List Nat), encodeIxa i = some ws → ixaOk i = true → decodeIxa (ixaEng i) (ws ++ after) = i

/-- The six worked encodings of chapter 04 decode to ANDI, CMPI, BT, SHLI, LI.L and PRESS.C with the operands it gives. For
every engine and word: a major opcode R94 does not list, LONG+ where a first word is due, a LONG word with a reserved fn or
without its second word, a PRED word with one of bits 13 to 0 set, a BR word with one of bits 20 to 16 set, an END or TRAP
word with another field set, and an OP or DESC word with a reserved fn decode to the illegal encoding, which takes the
ILLEGAL_OP trap. (R91, R92, R93, R94, R97, R98, R101, R103) -/
def Obligations.WordsDecodeAsTheirTablesSay : Prop :=
  (∀ e : Eng, decodeIxa e [0x0AD4FFFF] = .andi e 22 20 0xFFFF ∧ decodeIxa e [0x1C9B0000] = .cmpi e 1 1 22 0 ∧
    decodeIxa e [0x4120FFF4] = .bt e 1 0xFFF4 ∧ decodeIxa e [0x01A20D09] = .shli e 13 2 52 ∧
    decodeIxa e [0xF9200000, 0xFC010000] = .liL e 9 65536 ∧ decodeIxa e [0xA1884D00] = .pressC e 12 4 2 13 0) ∧
  ∀ (e : Eng) (w : Nat) (r : List Nat),
    let major := fieldOf w 26 6
    let listed := [0x00, 0x01, 0x02, 0x03, 0x04, 0x06, 0x07, 0x08, 0x10, 0x11, 0x14, 0x15, 0x16, 0x17, 0x18, 0x19, 0x1A, 0x1B, 0x1C, 0x20, 0x21, 0x22,
      0x28, 0x29, 0x2A, 0x2B, 0x2C, 0x2D, 0x2E, 0x2F, 0x30, 0x31, 0x32, 0x33, 0x34, 0x35, 0x36, 0x3E]
    (major ∉ listed ∨
      (major = 0x3E ∧ (r = [] ∨ 4 < fieldOf w 16 5 ∨ ∃ v, r.head? = some v ∧ fieldOf v 26 6 ≠ 0x3F)) ∨
      (major = 0x08 ∧ fieldOf w 0 14 ≠ 0) ∨ (major = 0x10 ∧ fieldOf w 16 5 ≠ 0) ∨ (major = 0x21 ∧ (fieldOf w 21 5 ≠ 0 ∨ fieldOf w 0 16 ≠ 0)) ∨
      (major = 0x22 ∧ fieldOf w 16 10 ≠ 0) ∨ (major = 0x00 ∧ 0x20 < fieldOf w 0 6) ∨ (major = 0x1C ∧ 6 < fieldOf w 0 6)) →
    decodeIxa e (w :: r) = .illegalEncoding e
end

