-- ==== Sys2Proof/Laws/Folio.lean ====
section
/-! SUPPORT. The codes of R9, R219 and R381 read back what they were written from: a little-endian field, a CRC in its width, and
a folio as it is sent and taken. -/
namespace Sys2Proof.Machine

@[simp] theorem leBytes_length (n v : Nat) : (leBytes n v).length = n := by
  induction n generalizing v with
  | zero => rfl
  | succ n ih => simp [leBytes, ih]

/-- A field holds what its width holds of the number written. -/
theorem leNat_leBytes (n v : Nat) : leNat (leBytes n v) = v % 256 ^ n := by
  induction n generalizing v with
  | zero => simp [leBytes, leNat, Nat.mod_one]
  | succ n ih =>
    rw [show 256 ^ (n + 1) = 256 * 256 ^ n from Nat.pow_succ', Nat.mod_mul, leBytes, leNat, ih, BitVec.toNat_ofNat]

/-- A field at the front. -/
theorem fieldAt_leBytes (r : List Byte) (n v : Nat) : fieldAt (leBytes n v ++ r) 0 n = v % 256 ^ n := by
  simp [fieldAt, leNat_leBytes]

/-- A field beyond the bytes at the front. -/
theorem fieldAt_append (a r : List Byte) {m : Nat} (n : Nat) (h : a.length ≤ m) : fieldAt (a ++ r) m n = fieldAt r (m - a.length) n := by
  rw [fieldAt, fieldAt, List.drop_append, List.drop_eq_nil_of_le h, List.nil_append]

theorem crcBitR_lt {poly v w : Nat} (hp : poly < 2 ^ w) (hv : v < 2 ^ w) : crcBitR poly v < 2 ^ w := by
  unfold crcBitR
  split
  · exact Nat.xor_lt_two_pow (by omega) hp
  · omega

theorem crcByteR_lt {poly v w : Nat} (b : Byte) (hw : 8 ≤ w) (hp : poly < 2 ^ w) (hv : v < 2 ^ w) : crcByteR poly v b < 2 ^ w := by
  have hb : b.toNat < 2 ^ w := Nat.lt_of_lt_of_le b.isLt (Nat.pow_le_pow_right (by omega) hw)
  have key : ∀ (l : List Nat) (x : Nat), x < 2 ^ w → l.foldl (fun x _ => crcBitR poly x) x < 2 ^ w := by
    intro l
    induction l with
    | nil => exact fun _ h => h
    | cons _ l ih => exact fun x h => ih _ (crcBitR_lt hp h)
  exact key _ _ (Nat.xor_lt_two_pow hv hb)

/-- CRC-32C is 32 bits wide. -/
theorem crc32c_lt (l : List Byte) : crc32c l < 2 ^ 32 := by
  have key : ∀ (l : List Byte) (x : Nat), x < 2 ^ 32 → l.foldl (crcByteR 0x82F63B78) x < 2 ^ 32 := by
    intro l
    induction l with
    | nil => exact fun _ h => h
    | cons b l ih => exact fun x h => ih _ (crcByteR_lt b (by omega) (by omega) h)
  exact Nat.xor_lt_two_pow (key l _ (by decide)) (by decide)

/-- A folio as it is sent reads back, when taken after its mark, as what was sent (R381). -/
theorem parseFolio_folioBytes (type flags task seq ack ofs credit : Nat) (data : List Byte)
    (h1 : type < 256) (h2 : flags < 256) (h3 : task < 256) (h4 : seq < 2 ^ 32) (h5 : ack < 2 ^ 32) (h6 : ofs < 2 ^ 64)
    (h7 : credit < 2 ^ 32) (h8 : data.length < 2 ^ 32) :
    parseFolio ((folioBytes type flags task seq ack ofs credit data).drop 8) =
      { type := type, flags := flags, task := task, res := 0, len := data.length, seq := seq, ack := ack, ofs := ofs,
        credit := credit, headOk := true, data := data, dataOk := true } := by
  let head := leBytes 1 type ++ (leBytes 1 flags ++ (leBytes 1 task ++ (leBytes 1 0 ++ (leBytes 4 data.length ++
    (leBytes 4 seq ++ (leBytes 4 ack ++ (leBytes 8 ofs ++ leBytes 4 credit)))))))
  let tail : List Byte := if data.isEmpty then [] else leBytes 4 (crc32c data)
  have hd : (folioBytes type flags task seq ack ofs credit data).drop 8 =
      leBytes 1 type ++ (leBytes 1 flags ++ (leBytes 1 task ++ (leBytes 1 0 ++ (leBytes 4 data.length ++ (leBytes 4 seq ++
        (leBytes 4 ack ++ (leBytes 8 ofs ++ (leBytes 4 credit ++ (leBytes 4 (crc32c head) ++ (data ++ tail)))))))))) := by
    simp [folioBytes, head, tail]
  have hh : head.length = 28 := by simp [head]
  have hr : leBytes 1 type ++ (leBytes 1 flags ++ (leBytes 1 task ++ (leBytes 1 0 ++ (leBytes 4 data.length ++ (leBytes 4 seq ++
        (leBytes 4 ack ++ (leBytes 8 ofs ++ (leBytes 4 credit ++ (leBytes 4 (crc32c head) ++ (data ++ tail)))))))))) =
      head ++ (leBytes 4 (crc32c head) ++ (data ++ tail)) := by simp [head]
  have ht := congrArg (List.take 28) hr
  rw [List.take_left' hh] at ht
  have h32 : (head ++ (leBytes 4 (crc32c head) ++ (data ++ tail))).drop 32 = data ++ tail := by
    rw [show 32 = 28 + 4 from rfl, ← List.drop_drop, List.drop_left' hh, List.drop_left' (leBytes_length 4 _)]
  have hb := (congrArg (List.drop 32) hr).trans h32
  have hf : ∀ n, fieldAt (head ++ (leBytes 4 (crc32c head) ++ (data ++ tail))) (32 + n) 4 = fieldAt (data ++ tail) n 4 := by
    intro n
    rw [fieldAt, ← List.drop_drop, h32, fieldAt]
  rw [← hr] at hf
  have hc := crc32c_lt head
  have he := crc32c_lt data
  have hn := (congrArg List.length hr).trans (show (head ++ (leBytes 4 (crc32c head) ++ (data ++ tail))).length =
    32 + (data.length + tail.length) by simp [hh]; omega)
  have hl : data.length % 4294967296 = data.length := Nat.mod_eq_of_lt h8
  have hok : (decide (data.length = 0) || (decide (32 + data.length + 4 ≤ 32 + (data.length + tail.length)) &&
      decide (fieldAt (data ++ tail) data.length 4 = crc32c data))) = true := by
    cases data with
    | nil => rfl
    | cons b r =>
      have htail : tail = leBytes 4 (crc32c (b :: r)) ++ [] := by simp [tail]
      rw [htail, fieldAt_append _ _ _ (Nat.le_refl _), Nat.sub_self, fieldAt_leBytes, show 256 ^ 4 = 2 ^ 32 from rfl, Nat.mod_eq_of_lt he]
      simp; omega
  rw [hd]
  unfold parseFolio
  simp only [hf, hb, ht, hn, hl, fieldAt_leBytes, fieldAt_append, leBytes_length, Nat.reduceLeDiff, Nat.reduceSub, Nat.reducePow,
    Nat.reduceAdd, Nat.mod_eq_of_lt h1, Nat.mod_eq_of_lt h2, Nat.mod_eq_of_lt h3, Nat.mod_eq_of_lt h4, Nat.mod_eq_of_lt h5,
    Nat.mod_eq_of_lt h6, Nat.mod_eq_of_lt h7, Nat.mod_eq_of_lt hc, List.take_left', hok]
  simpa using ⟨h4, h5, h6, h7, hc⟩

end Sys2Proof.Machine
end

