-- ==== Sys2Proof/Laws/Crypto.lean ====
section
/-! SUPPORT. R193 and R195: a block decrypts to what was encrypted, and a key unwraps to what was wrapped. -/
namespace Sys2Proof.Machine

/-! ### The field and the mixing of columns -/

/-- The two substitutions undo each other. -/
theorem aesSubInv_aesSub (a : Byte) : aesSubInv (aesSub a) = a := by
  revert a; decide +kernel

theorem zero_xor8 (x : Byte) : (0 : Byte) ^^^ x = x := BitVec.zero_xor

/-- The product as a sum over the bits of the second factor. -/
theorem gf8mul_eq (a b : Byte) : gf8mul a b =
    (if b.getLsbD 0 then a else 0) ^^^ (if b.getLsbD 1 then gf8x2 a else 0) ^^^ (if b.getLsbD 2 then gf8x2 (gf8x2 a) else 0) ^^^
    (if b.getLsbD 3 then gf8x2 (gf8x2 (gf8x2 a)) else 0) ^^^ (if b.getLsbD 4 then gf8x2 (gf8x2 (gf8x2 (gf8x2 a))) else 0) ^^^
    (if b.getLsbD 5 then gf8x2 (gf8x2 (gf8x2 (gf8x2 (gf8x2 a)))) else 0) ^^^
    (if b.getLsbD 6 then gf8x2 (gf8x2 (gf8x2 (gf8x2 (gf8x2 (gf8x2 a))))) else 0) ^^^
    (if b.getLsbD 7 then gf8x2 (gf8x2 (gf8x2 (gf8x2 (gf8x2 (gf8x2 (gf8x2 a)))))) else 0) := by
  have h : ∀ (c : Bool) (p q : Byte), (if c then p ^^^ q else p) = p ^^^ (if c then q else 0) := by
    intro c p q; cases c <;> simp
  have hu : upto 8 = [0, 1, 2, 3, 4, 5, 6, 7] := rfl
  simp only [gf8mul, hu, List.foldl, h, zero_xor8]

/-- The product is additive. -/
theorem gf8mul_xor (a b c : Byte) : gf8mul a (b ^^^ c) = gf8mul a b ^^^ gf8mul a c := by
  have h : ∀ (x y : Bool) (q : Byte), (if (x ^^ y) then q else 0) = (if x then q else 0) ^^^ (if y then q else 0) := by
    intro x y q; cases x <;> cases y <;> simp
  simp only [gf8mul_eq, BitVec.getLsbD_xor, h]
  ac_rfl

/-- The coefficients of the two mixings undo each other. -/
theorem mix_coeff (x : Byte) :
    gf8mul 14 (gf8mul 2 x) ^^^ gf8mul 11 (gf8mul 1 x) ^^^ gf8mul 13 (gf8mul 1 x) ^^^ gf8mul 9 (gf8mul 3 x) = x ∧
    gf8mul 14 (gf8mul 3 x) ^^^ gf8mul 11 (gf8mul 2 x) ^^^ gf8mul 13 (gf8mul 1 x) ^^^ gf8mul 9 (gf8mul 1 x) = 0 ∧
    gf8mul 14 (gf8mul 1 x) ^^^ gf8mul 11 (gf8mul 3 x) ^^^ gf8mul 13 (gf8mul 2 x) ^^^ gf8mul 9 (gf8mul 1 x) = 0 ∧
    gf8mul 14 (gf8mul 1 x) ^^^ gf8mul 11 (gf8mul 1 x) ^^^ gf8mul 13 (gf8mul 3 x) ^^^ gf8mul 9 (gf8mul 2 x) = 0 := by
  revert x; decide +kernel

theorem mix_column (x y z w : Byte) :
    gf8mul 14 (gf8mul 2 x ^^^ gf8mul 3 y ^^^ gf8mul 1 z ^^^ gf8mul 1 w) ^^^
    gf8mul 11 (gf8mul 1 x ^^^ gf8mul 2 y ^^^ gf8mul 3 z ^^^ gf8mul 1 w) ^^^
    gf8mul 13 (gf8mul 1 x ^^^ gf8mul 1 y ^^^ gf8mul 2 z ^^^ gf8mul 3 w) ^^^
    gf8mul 9 (gf8mul 3 x ^^^ gf8mul 1 y ^^^ gf8mul 1 z ^^^ gf8mul 2 w) = x := by
  obtain ⟨hx, -, -, -⟩ := mix_coeff x
  obtain ⟨-, hy, -, -⟩ := mix_coeff y
  obtain ⟨-, -, hz, -⟩ := mix_coeff z
  obtain ⟨-, -, -, hw⟩ := mix_coeff w
  simp only [gf8mul_xor]
  calc _ = (gf8mul 14 (gf8mul 2 x) ^^^ gf8mul 11 (gf8mul 1 x) ^^^ gf8mul 13 (gf8mul 1 x) ^^^ gf8mul 9 (gf8mul 3 x)) ^^^
      (gf8mul 14 (gf8mul 3 y) ^^^ gf8mul 11 (gf8mul 2 y) ^^^ gf8mul 13 (gf8mul 1 y) ^^^ gf8mul 9 (gf8mul 1 y)) ^^^
      (gf8mul 14 (gf8mul 1 z) ^^^ gf8mul 11 (gf8mul 3 z) ^^^ gf8mul 13 (gf8mul 2 z) ^^^ gf8mul 9 (gf8mul 1 z)) ^^^
      (gf8mul 14 (gf8mul 1 w) ^^^ gf8mul 11 (gf8mul 1 w) ^^^ gf8mul 13 (gf8mul 3 w) ^^^ gf8mul 9 (gf8mul 2 w)) := by ac_rfl
    _ = x := by rw [hx, hy, hz, hw]; simp

/-- Sixteen bytes, one by one. -/
theorem sixteen {l : List Byte} (h : l.length = 16) :
    ∃ a b c d e f g i j k m n o p q r, l = [a, b, c, d, e, f, g, i, j, k, m, n, o, p, q, r] := by
  match l, h with
  | [a, b, c, d, e, f, g, i, j, k, m, n, o, p, q, r], _ => exact ⟨a, b, c, d, e, f, g, i, j, k, m, n, o, p, q, r, rfl⟩

theorem upto_16 : upto 16 = [0, 1, 2, 3, 4, 5, 6, 7, 8, 9, 10, 11, 12, 13, 14, 15] := rfl
theorem upto_4 : upto 4 = [0, 1, 2, 3] := rfl

theorem aesShift_inv {l : List Byte} (h : l.length = 16) : aesShift true (aesShift false l) = l := by
  obtain ⟨a, b, c, d, e, f, g, i, j, k, m, n, o, p, q, r, rfl⟩ := sixteen h
  rfl

/-- One column mixed. -/
def mixed (x y z w : Byte) : List Byte :=
  [gf8mul 2 x ^^^ gf8mul 3 y ^^^ gf8mul 1 z ^^^ gf8mul 1 w, gf8mul 1 x ^^^ gf8mul 2 y ^^^ gf8mul 3 z ^^^ gf8mul 1 w,
   gf8mul 1 x ^^^ gf8mul 1 y ^^^ gf8mul 2 z ^^^ gf8mul 3 w, gf8mul 3 x ^^^ gf8mul 1 y ^^^ gf8mul 1 z ^^^ gf8mul 2 w]

theorem aesMix_inv {l : List Byte} (h : l.length = 16) : aesMix [14, 11, 13, 9] (aesMix [2, 3, 1, 1] l) = l := by
  obtain ⟨a, b, c, d, e, f, g, i, j, k, m, n, o, p, q, r, rfl⟩ := sixteen h
  have hc (x y z w : Byte) : gf8mul 9 (gf8mul 2 x ^^^ gf8mul 3 y ^^^ gf8mul 1 z ^^^ gf8mul 1 w) ^^^ gf8mul 14 (gf8mul 1 x ^^^ gf8mul 2 y ^^^ gf8mul 3 z ^^^ gf8mul 1 w) ^^^
      gf8mul 11 (gf8mul 1 x ^^^ gf8mul 1 y ^^^ gf8mul 2 z ^^^ gf8mul 3 w) ^^^ gf8mul 13 (gf8mul 3 x ^^^ gf8mul 1 y ^^^ gf8mul 1 z ^^^ gf8mul 2 w) = y := by
    have := mix_column y z w x
    refine Eq.trans ?_ this
    simp only [gf8mul_xor]; ac_rfl
  have hd (x y z w : Byte) : gf8mul 13 (gf8mul 2 x ^^^ gf8mul 3 y ^^^ gf8mul 1 z ^^^ gf8mul 1 w) ^^^ gf8mul 9 (gf8mul 1 x ^^^ gf8mul 2 y ^^^ gf8mul 3 z ^^^ gf8mul 1 w) ^^^
      gf8mul 14 (gf8mul 1 x ^^^ gf8mul 1 y ^^^ gf8mul 2 z ^^^ gf8mul 3 w) ^^^ gf8mul 11 (gf8mul 3 x ^^^ gf8mul 1 y ^^^ gf8mul 1 z ^^^ gf8mul 2 w) = z := by
    have := mix_column z w x y
    refine Eq.trans ?_ this
    simp only [gf8mul_xor]; ac_rfl
  have he (x y z w : Byte) : gf8mul 11 (gf8mul 2 x ^^^ gf8mul 3 y ^^^ gf8mul 1 z ^^^ gf8mul 1 w) ^^^ gf8mul 13 (gf8mul 1 x ^^^ gf8mul 2 y ^^^ gf8mul 3 z ^^^ gf8mul 1 w) ^^^
      gf8mul 9 (gf8mul 1 x ^^^ gf8mul 1 y ^^^ gf8mul 2 z ^^^ gf8mul 3 w) ^^^ gf8mul 14 (gf8mul 3 x ^^^ gf8mul 1 y ^^^ gf8mul 1 z ^^^ gf8mul 2 w) = w := by
    have := mix_column w x y z
    refine Eq.trans ?_ this
    simp only [gf8mul_xor]; ac_rfl
  have hm : aesMix [2, 3, 1, 1] [a, b, c, d, e, f, g, i, j, k, m, n, o, p, q, r] =
      mixed a b c d ++ mixed e f g i ++ mixed j k m n ++ mixed o p q r := by
    simp only [aesMix, upto_16, upto_4, List.map, List.foldl, zero_xor8]
    rfl
  rw [hm]
  simp only [aesMix, upto_16, upto_4, List.map, List.foldl, zero_xor8, mixed, List.cons_append, List.nil_append]
  simp only [List.cons.injEq, and_true]
  exact ⟨mix_column a b c d, hc a b c d, hd a b c d, he a b c d, mix_column e f g i, hc e f g i, hd e f g i, he e f g i,
    mix_column j k m n, hc j k m n, hd j k m n, he j k m n, mix_column o p q r, hc o p q r, hd o p q r, he o p q r⟩

/-! ### Rounds and blocks -/

theorem xorBytes_length {a b : List Byte} {n : Nat} (ha : a.length = n) (hb : b.length = n) : (xorBytes a b).length = n := by
  simp [xorBytes, ha, hb]

theorem xorBytes_twice : ∀ {a b : List Byte}, a.length = b.length → xorBytes (xorBytes a b) b = a
  | [], [], _ => rfl
  | x :: a, y :: b, h => by
    have := xorBytes_twice (a := a) (b := b) (by simpa using h)
    simp only [xorBytes, List.zipWith_cons_cons, List.cons.injEq] at this ⊢
    exact ⟨by rw [BitVec.xor_assoc, BitVec.xor_self, BitVec.xor_zero], this⟩

theorem aesShift_length (v : Bool) (l : List Byte) : (aesShift v l).length = 16 := by simp [aesShift, upto]
theorem aesMix_length (k l : List Byte) : (aesMix k l).length = 16 := by simp [aesMix, upto]

theorem map_sub_inv (l : List Byte) : (l.map aesSub).map aesSubInv = l := by
  simp [List.map_map, Function.comp_def, aesSubInv_aesSub]

/-- The rounds back undo the rounds. -/
theorem rounds_inv (ks : List (List Byte)) (hk : ∀ k ∈ ks, k.length = 16) (s : List Byte) (hs : s.length = 16) :
    ks.foldr (fun k b => aesMix [14, 11, 13, 9] (xorBytes ((aesShift true b).map aesSubInv) k))
      (aesShift false ((ks.foldl (fun b k => xorBytes (aesMix [2, 3, 1, 1] (aesShift false (b.map aesSub))) k) s).map aesSub)) =
    aesShift false (s.map aesSub) ∧
    (ks.foldl (fun b k => xorBytes (aesMix [2, 3, 1, 1] (aesShift false (b.map aesSub))) k) s).length = 16 := by
  induction ks generalizing s with
  | nil => exact ⟨rfl, hs⟩
  | cons k ks ih =>
    have hk1 : k.length = 16 := hk k (by simp)
    have hr : (xorBytes (aesMix [2, 3, 1, 1] (aesShift false (s.map aesSub))) k).length = 16 :=
      xorBytes_length (aesMix_length ..) hk1
    obtain ⟨h1, h2⟩ := ih (fun q hq => hk q (by simp [hq])) _ hr
    refine ⟨?_, h2⟩
    rw [List.foldr_cons, List.foldl_cons, h1, aesShift_inv (by rw [List.length_map]; exact hr), map_sub_inv,
      xorBytes_twice (by rw [aesMix_length, hk1]), aesMix_inv (aesShift_length ..)]

theorem pieces_length {α : Type} {k : Nat} : ∀ {n : Nat} {l : List α}, n * k ≤ l.length → ∀ q ∈ pieces k n l, q.length = k
  | 0, _, _, q, hq => by simp [pieces] at hq
  | n + 1, l, h, q, hq => by
    rw [Nat.add_mul, Nat.one_mul] at h
    simp only [pieces, List.mem_cons] at hq
    rcases hq with rfl | hq
    · simp; omega
    · exact pieces_length (by simp; omega) q hq

theorem pieces_count {α : Type} (k : Nat) : ∀ (n : Nat) (l : List α), (pieces k n l).length = n
  | 0, _ => rfl
  | n + 1, l => by simp [pieces, pieces_count k n]

/-- Words of four bytes stay so. -/
theorem aesExpand_words : ∀ (n i : Nat) (rc : Byte) (w : List (List Byte)), 8 ≤ w.length → (∀ q ∈ w, q.length = 4) →
    (aesExpand n i rc w).length = n + w.length ∧ ∀ q ∈ aesExpand n i rc w, q.length = 4
  | 0, _, _, w, _, h => by simpa [aesExpand] using h
  | n + 1, i, rc, w, h8, h => by
    have hp : (w.getD 7 []).length = 4 := by
      rw [List.getD_eq_getElem _ _ (by omega)]; exact h _ (List.getElem_mem _)
    have ht : (w.headD []).length = 4 := by
      cases w with
      | nil => simp at h8
      | cons q w => exact h q (by simp)
    have step (rc' : Byte) (q : List Byte) (hq : q.length = 4) :
        (aesExpand n (i + 1) rc' (q :: w)).length = n + 1 + w.length ∧ ∀ x ∈ aesExpand n (i + 1) rc' (q :: w), x.length = 4 := by
      have := aesExpand_words n (i + 1) rc' (q :: w) (by simp; omega) (by simpa using ⟨hq, h⟩)
      exact ⟨by rw [this.1, List.length_cons]; omega, this.2⟩
    unfold aesExpand
    dsimp only
    split
    · exact step _ _ (xorBytes_length hp (xorBytes_length (by rw [List.length_map, List.length_append, List.length_drop, List.length_take, ht]; rfl) rfl))
    · split
      · exact step _ _ (xorBytes_length hp (by simp only [List.length_map]; exact ht))
      · exact step _ _ (xorBytes_length hp ht)

theorem flatten_length {k : Nat} : ∀ {L : List (List Byte)}, (∀ q ∈ L, q.length = k) → L.flatten.length = L.length * k
  | [], _ => by simp
  | q :: L, h => by
    have := flatten_length (L := L) (fun x hx => h x (by simp [hx]))
    simp [h q (by simp), this, Nat.add_mul]; omega

theorem aesKeys_length {key : List Byte} (h : key.length = 32) : (∀ k ∈ aesKeys key, k.length = 16) ∧ (aesKeys key).length = 15 := by
  have hw : ∀ q ∈ (pieces 4 8 key).reverse, q.length = 4 := fun q hq => pieces_length (n := 8) (by omega) q (List.mem_reverse.mp hq)
  obtain ⟨h1, h2⟩ := aesExpand_words 52 8 1 (pieces 4 8 key).reverse (by simp [pieces_count]) hw
  refine ⟨fun k hk => pieces_length (n := 15) ?_ k hk, pieces_count ..⟩
  rw [flatten_length (k := 4) (fun q hq => h2 q (List.mem_reverse.mp hq))]
  rw [List.length_reverse, h1, List.length_reverse, pieces_count]

/-- R193: decryption of a block undoes its encryption. -/
theorem aesBlockInv_aesBlock {key blk : List Byte} (hk : key.length = 32) (hb : blk.length = 16) :
    aesBlockInv key (aesBlock key blk) = blk := by
  obtain ⟨hl, hn⟩ := aesKeys_length hk
  have hg : ∀ i, i < 15 → ((aesKeys key).getD i []).length = 16 := by
    intro i hi
    rw [List.getD_eq_getElem _ _ (by omega)]; exact hl _ (List.getElem_mem _)
  have hm : ∀ k ∈ ((aesKeys key).drop 1).take 13, k.length = 16 := fun k h => hl k (List.mem_of_mem_drop (List.mem_of_mem_take h))
  have h0 := xorBytes_length hb (hg 0 (by omega))
  obtain ⟨h1, h2⟩ := rounds_inv _ hm _ h0
  have h2' := h0
  unfold aesBlockInv aesBlock
  dsimp only
  rw [xorBytes_twice (by rw [aesShift_length, hg 14 (by omega)]), List.foldl_reverse, h1,
    aesShift_inv (by rw [List.length_map]; exact h2'), map_sub_inv, xorBytes_twice (by rw [hb, hg 0 (by omega)])]

theorem aesBlock_length {key blk : List Byte} (hk : key.length = 32) : (aesBlock key blk).length = 16 := by
  obtain ⟨hl, hn⟩ := aesKeys_length hk
  unfold aesBlock
  refine xorBytes_length (aesShift_length ..) ?_
  rw [List.getD_eq_getElem _ _ (by omega)]; exact hl _ (List.getElem_mem _)

/-! ### Key wrap -/

theorem beBytes_length (n v : Nat) : (beBytes n v).length = n := by
  rw [beBytes, List.length_reverse, leBytes_length]

/-- One step of a pass. -/
theorem kwPass_cons (key : List Byte) (t : Nat) (a r : List Byte) (rs : List (List Byte)) : ∃ x, x = aesBlock key (a ++ r) ∧
    kwPass key t a (r :: rs) = ((kwPass key (t + 1) (xorBytes (x.take 8) (beBytes 8 t)) rs).1,
      x.drop 8 :: (kwPass key (t + 1) (xorBytes (x.take 8) (beBytes 8 t)) rs).2) :=
  ⟨_, rfl, rfl⟩

theorem kwPass_lengths (key : List Byte) (hk : key.length = 32) (rs : List (List Byte)) : ∀ (t : Nat) (a : List Byte), a.length = 8 →
    (∀ r ∈ rs, r.length = 8) → (kwPass key t a rs).1.length = 8 ∧ (kwPass key t a rs).2.length = rs.length ∧
      ∀ r ∈ (kwPass key t a rs).2, r.length = 8 := by
  induction rs with
  | nil => intro t a ha _; exact ⟨ha, rfl, by simp [kwPass]⟩
  | cons r rs ih =>
    intro t a ha hr
    obtain ⟨x, hx, he⟩ := kwPass_cons key t a r rs
    have hb : x.length = 16 := by rw [hx]; exact aesBlock_length hk
    have hy : (xorBytes (x.take 8) (beBytes 8 t)).length = 8 :=
      xorBytes_length (by rw [List.length_take, hb]; rfl) (beBytes_length 8 t)
    obtain ⟨h1, h2, h3⟩ := ih (t + 1) _ hy (fun q hq => hr q (by simp [hq]))
    rw [he]
    refine ⟨h1, by rw [List.length_cons, List.length_cons, h2], fun q hq => ?_⟩
    rcases List.mem_cons.mp hq with rfl | hq
    · rw [List.length_drop, hb]
    · exact h3 q hq

theorem kwBack_append (key : List Byte) : ∀ (l₁ l₂ : List (List Byte)) (t : Nat) (a : List Byte),
    kwBack key t a (l₁ ++ l₂) = ((kwBack key (t - l₁.length) (kwBack key t a l₁).1 l₂).1,
      (kwBack key t a l₁).2 ++ (kwBack key (t - l₁.length) (kwBack key t a l₁).1 l₂).2)
  | [], _, _, _ => rfl
  | r :: l₁, l₂, t, a => by
    simp only [List.cons_append, kwBack, List.length_cons, kwBack_append key l₁ l₂]
    rw [show t - 1 - l₁.length = t - (l₁.length + 1) by omega]

/-- One pass back undoes one pass. -/
theorem kwBack_kwPass (key : List Byte) (hk : key.length = 32) (rs : List (List Byte)) : ∀ (t : Nat) (a : List Byte), a.length = 8 →
    (∀ r ∈ rs, r.length = 8) →
    kwBack key (t + rs.length - 1) (kwPass key t a rs).1 (kwPass key t a rs).2.reverse = (a, rs.reverse) := by
  induction rs with
  | nil => intros; rfl
  | cons r rs ih =>
    intro t a ha hr
    have hr0 : r.length = 8 := hr r (by simp)
    have hrs : ∀ q ∈ rs, q.length = 8 := fun q hq => hr q (by simp [hq])
    obtain ⟨x, hx, he⟩ := kwPass_cons key t a r rs
    have hb : x.length = 16 := by rw [hx]; exact aesBlock_length hk
    have ht : (x.take 8).length = 8 := by rw [List.length_take, hb]; rfl
    have hy : (xorBytes (x.take 8) (beBytes 8 t)).length = 8 := xorBytes_length ht (beBytes_length 8 t)
    have ih' := ih (t + 1) _ hy hrs
    obtain ⟨-, h2, -⟩ := kwPass_lengths key hk rs (t + 1) _ hy hrs
    have hi : aesBlockInv key (xorBytes (xorBytes (x.take 8) (beBytes 8 t)) (beBytes 8 t) ++ x.drop 8) = a ++ r := by
      rw [xorBytes_twice (by rw [ht, beBytes_length]), List.take_append_drop, hx]
      exact aesBlockInv_aesBlock hk (by rw [List.length_append, ha, hr0])
    rw [he]
    simp only [List.reverse_cons, kwBack_append, List.length_cons, List.length_reverse, h2]
    rw [show t + (rs.length + 1) - 1 = t + 1 + rs.length - 1 by omega, ih',
      show t + 1 + rs.length - 1 - rs.length = t by omega]
    simp only [kwBack, hi]
    rw [← ha, List.take_left, List.drop_left]

theorem kwBacks_succ (key : List Byte) : ∀ (n t : Nat) (p : List Byte × List (List Byte)),
    kwBacks key (n + 1) t p = kwBack key (t - n * p.2.length) (kwBacks key n t p).1 (kwBacks key n t p).2 ∧
      (kwBacks key n t p).2.length = p.2.length
  | 0, t, p => by simp [kwBacks]
  | n + 1, t, p => by
    have hl : ∀ (l : List (List Byte)) (u : Nat) (a : List Byte), (kwBack key u a l).2.length = l.length := by
      intro l; induction l with
      | nil => intros; rfl
      | cons r l ih => intros; simp [kwBack, ih]
    obtain ⟨h1, h2⟩ := kwBacks_succ key n (t - p.2.length) (kwBack key t p.1 p.2)
    rw [hl] at h1 h2
    refine ⟨?_, h2⟩
    rw [kwBacks, h1, show t - p.2.length - n * p.2.length = t - (n + 1) * p.2.length by rw [Nat.add_mul]; omega]
    rfl

/-- The passes back undo the passes. -/
theorem kwBacks_kwPasses (key : List Byte) (hk : key.length = 32) : ∀ (n t : Nat) (a : List Byte) (rs : List (List Byte)), a.length = 8 →
    (∀ r ∈ rs, r.length = 8) →
    kwBacks key n (t + n * rs.length - 1) ((kwPasses key n t (a, rs)).1, (kwPasses key n t (a, rs)).2.reverse) = (a, rs.reverse) ∧
      (kwPasses key n t (a, rs)).1.length = 8 ∧ (kwPasses key n t (a, rs)).2.length = rs.length ∧
      ∀ r ∈ (kwPasses key n t (a, rs)).2, r.length = 8
  | 0, _, _, _, ha, hr => ⟨rfl, ha, rfl, hr⟩
  | n + 1, t, a, rs, ha, hr => by
    obtain ⟨p1, p2, p3⟩ := kwPass_lengths key hk rs t a ha hr
    obtain ⟨h1, h2, h3, h4⟩ := kwBacks_kwPasses key hk n (t + rs.length) _ _ p1 p3
    rw [p2] at h1 h3
    refine ⟨?_, h2, h3, h4⟩
    have hb := kwBack_kwPass key hk rs t a ha hr
    rw [(kwBacks_succ key n _ _).1]
    simp only [kwPasses, List.length_reverse]
    rw [show t + (n + 1) * rs.length - 1 = t + rs.length + n * rs.length - 1 by rw [Nat.add_mul]; omega, h1, h3,
      show t + rs.length + n * rs.length - 1 - n * rs.length = t + rs.length - 1 by omega]
    exact hb

theorem pieces_flatten {k : Nat} : ∀ {L : List (List Byte)}, (∀ q ∈ L, q.length = k) → pieces k L.length L.flatten = L
  | [], _ => rfl
  | q :: L, h => by
    have hq : q.length = k := h q (by simp)
    simp only [List.length_cons, List.flatten_cons, pieces]
    rw [← hq, List.take_left, List.drop_left, hq, pieces_flatten (fun x hx => h x (by simp [hx]))]

theorem flatten_pieces {k : Nat} : ∀ (n : Nat) (l : List Byte), l.length = n * k → (pieces k n l).flatten = l
  | 0, l, h => by
    have : l = [] := List.length_eq_zero_iff.mp (by simpa using h)
    simp [pieces, this]
  | n + 1, l, h => by
    rw [Nat.add_mul, Nat.one_mul] at h
    rw [pieces, List.flatten_cons, flatten_pieces n _ (by simp; omega), List.take_append_drop]

/-- R195: unwrapping gives back what was wrapped under the same key. -/
theorem kwUnwrap_kwWrap {key m : List Byte} {n : Nat} (hk : key.length = 32) (hm : m.length = n * 8) :
    kwUnwrap key (kwWrap key m) = some m := by
  have hr : ∀ r ∈ pieces 8 n m, r.length = 8 := pieces_length (by omega)
  have hn : (pieces 8 n m).length = n := pieces_count ..
  obtain ⟨h1, h2, h3, h4⟩ := kwBacks_kwPasses key hk 6 1 kwIv (pieces 8 n m) rfl hr
  rw [hn] at h1 h3
  have hd : m.length / 8 = n := by omega
  have hf := flatten_length h4
  have hl : (kwWrap key m).length / 8 - 1 = n := by
    simp only [kwWrap, hd, List.length_append, h2, hf, h3]; omega
  have ht : (kwWrap key m).take 8 = (kwPasses key 6 1 (kwIv, pieces 8 n m)).1 := by
    simp only [kwWrap, hd]; exact List.take_left' h2
  have hdr : (kwWrap key m).drop 8 = (kwPasses key 6 1 (kwIv, pieces 8 n m)).2.flatten := by
    simp only [kwWrap, hd]; exact List.drop_left' h2
  have hp := pieces_flatten h4
  rw [h3] at hp
  unfold kwUnwrap
  dsimp only
  rw [hl, ht, hdr, hp, show 6 * n = 1 + 6 * n - 1 by omega, h1]
  simp [flatten_pieces n m hm]

end Sys2Proof.Machine
end

