-- ==== Sys2Proof/Laws/State.lean ====
section
/-! SUPPORT. What each update of the state leaves alone, one lemma per field: State.lean's record updates need not be
unfolded. The last section has the updates that count or record something: they touch registers and State.obs only. -/
namespace Sys2Proof.Machine

section
variable (s : State)

/-! State.setR -/
@[simp] theorem State.setR_mem (k : Nat) (v : Word) : (s.setR k v).mem = s.mem := rfl
@[simp] theorem State.setR_pending (k : Nat) (v : Word) : (s.setR k v).pending = s.pending := rfl
@[simp] theorem State.setR_outbox (k : Nat) (v : Word) : (s.setR k v).outbox = s.outbox := rfl
@[simp] theorem State.setR_time (k : Nat) (v : Word) : (s.setR k v).time = s.time := rfl
@[simp] theorem State.setR_freeCtr (k : Nat) (v : Word) : (s.setR k v).freeCtr = s.freeCtr := rfl
@[simp] theorem State.setR_mode (k : Nat) (v : Word) : (s.setR k v).mode = s.mode := rfl
@[simp] theorem State.setR_power (k : Nat) (v : Word) : (s.setR k v).power = s.power := rfl
@[simp] theorem State.setR_reply (k : Nat) (v : Word) : (s.setR k v).reply = s.reply := rfl
@[simp] theorem State.setR_obs (k : Nat) (v : Word) : (s.setR k v).obs = s.obs := rfl
@[simp] theorem State.setR_hands (k : Nat) (v : Word) : (s.setR k v).hands = s.hands := rfl
@[simp] theorem State.setR_docket (k : Nat) (v : Word) : (s.setR k v).docket = s.docket := rfl
@[simp] theorem State.setR_toll (k : Nat) (v : Word) : (s.setR k v).toll = s.toll := rfl
@[simp] theorem State.setR_pins (k : Nat) (v : Word) : (s.setR k v).pins = s.pins := rfl
@[simp] theorem State.setR_larder (k : Nat) (v : Word) : (s.setR k v).larder = s.larder := rfl
@[simp] theorem State.setR_plan (k : Nat) (v : Word) : (s.setR k v).plan = s.plan := rfl
@[simp] theorem State.setR_press (k : Nat) (v : Word) : (s.setR k v).press = s.press := rfl
@[simp] theorem State.setR_mill (k : Nat) (v : Word) : (s.setR k v).mill = s.mill := rfl
@[simp] theorem State.setR_assay (k : Nat) (v : Word) : (s.setR k v).assay = s.assay := rfl
@[simp] theorem State.setR_warden (k : Nat) (v : Word) : (s.setR k v).warden = s.warden := rfl
@[simp] theorem State.setR_hold (k : Nat) (v : Word) : (s.setR k v).hold = s.hold := rfl
@[simp] theorem State.setR_mag (k : Nat) (v : Word) : (s.setR k v).mag = s.mag := rfl
@[simp] theorem State.setR_sieve (k : Nat) (v : Word) : (s.setR k v).sieve = s.sieve := rfl
@[simp] theorem State.setR_cf (k : Nat) (v : Word) : (s.setR k v).cf = s.cf := rfl
@[simp] theorem State.setR_till (k : Nat) (v : Word) : (s.setR k v).till = s.till := rfl
@[simp] theorem State.setR_stew (k : Nat) (v : Word) : (s.setR k v).stew = s.stew := rfl
@[simp] theorem State.setR_media (k : Nat) (v : Word) : (s.setR k v).media = s.media := rfl
@[simp] theorem State.setR_car (k : Nat) (v : Word) : (s.setR k v).car = s.car := rfl
@[simp] theorem State.setR_pair (k : Nat) (v : Word) : (s.setR k v).pair = s.pair := rfl
@[simp] theorem State.setR_strong (k : Nat) (v : Word) : (s.setR k v).strong = s.strong := rfl
@[simp] theorem State.setR_latches (k : Nat) (v : Word) : (s.setR k v).latches = s.latches := rfl

/-! State.setF -/
@[simp] theorem State.setF_mem (f : Fld) (n : Nat) : (s.setF f n).mem = s.mem := rfl
@[simp] theorem State.setF_pending (f : Fld) (n : Nat) : (s.setF f n).pending = s.pending := rfl
@[simp] theorem State.setF_outbox (f : Fld) (n : Nat) : (s.setF f n).outbox = s.outbox := rfl
@[simp] theorem State.setF_time (f : Fld) (n : Nat) : (s.setF f n).time = s.time := rfl
@[simp] theorem State.setF_freeCtr (f : Fld) (n : Nat) : (s.setF f n).freeCtr = s.freeCtr := rfl
@[simp] theorem State.setF_mode (f : Fld) (n : Nat) : (s.setF f n).mode = s.mode := rfl
@[simp] theorem State.setF_power (f : Fld) (n : Nat) : (s.setF f n).power = s.power := rfl
@[simp] theorem State.setF_reply (f : Fld) (n : Nat) : (s.setF f n).reply = s.reply := rfl
@[simp] theorem State.setF_obs (f : Fld) (n : Nat) : (s.setF f n).obs = s.obs := rfl
@[simp] theorem State.setF_hands (f : Fld) (n : Nat) : (s.setF f n).hands = s.hands := rfl
@[simp] theorem State.setF_docket (f : Fld) (n : Nat) : (s.setF f n).docket = s.docket := rfl
@[simp] theorem State.setF_toll (f : Fld) (n : Nat) : (s.setF f n).toll = s.toll := rfl
@[simp] theorem State.setF_pins (f : Fld) (n : Nat) : (s.setF f n).pins = s.pins := rfl
@[simp] theorem State.setF_larder (f : Fld) (n : Nat) : (s.setF f n).larder = s.larder := rfl
@[simp] theorem State.setF_plan (f : Fld) (n : Nat) : (s.setF f n).plan = s.plan := rfl
@[simp] theorem State.setF_press (f : Fld) (n : Nat) : (s.setF f n).press = s.press := rfl
@[simp] theorem State.setF_mill (f : Fld) (n : Nat) : (s.setF f n).mill = s.mill := rfl
@[simp] theorem State.setF_assay (f : Fld) (n : Nat) : (s.setF f n).assay = s.assay := rfl
@[simp] theorem State.setF_warden (f : Fld) (n : Nat) : (s.setF f n).warden = s.warden := rfl
@[simp] theorem State.setF_hold (f : Fld) (n : Nat) : (s.setF f n).hold = s.hold := rfl
@[simp] theorem State.setF_mag (f : Fld) (n : Nat) : (s.setF f n).mag = s.mag := rfl
@[simp] theorem State.setF_sieve (f : Fld) (n : Nat) : (s.setF f n).sieve = s.sieve := rfl
@[simp] theorem State.setF_cf (f : Fld) (n : Nat) : (s.setF f n).cf = s.cf := rfl
@[simp] theorem State.setF_till (f : Fld) (n : Nat) : (s.setF f n).till = s.till := rfl
@[simp] theorem State.setF_stew (f : Fld) (n : Nat) : (s.setF f n).stew = s.stew := rfl
@[simp] theorem State.setF_media (f : Fld) (n : Nat) : (s.setF f n).media = s.media := rfl
@[simp] theorem State.setF_car (f : Fld) (n : Nat) : (s.setF f n).car = s.car := rfl
@[simp] theorem State.setF_pair (f : Fld) (n : Nat) : (s.setF f n).pair = s.pair := rfl
@[simp] theorem State.setF_strong (f : Fld) (n : Nat) : (s.setF f n).strong = s.strong := rfl
@[simp] theorem State.setF_latches (f : Fld) (n : Nat) : (s.setF f n).latches = s.latches := rfl

/-! State.addF -/
@[simp] theorem State.addF_mem (f : Fld) (n : Nat) : (s.addF f n).mem = s.mem := rfl
@[simp] theorem State.addF_pending (f : Fld) (n : Nat) : (s.addF f n).pending = s.pending := rfl
@[simp] theorem State.addF_outbox (f : Fld) (n : Nat) : (s.addF f n).outbox = s.outbox := rfl
@[simp] theorem State.addF_time (f : Fld) (n : Nat) : (s.addF f n).time = s.time := rfl
@[simp] theorem State.addF_freeCtr (f : Fld) (n : Nat) : (s.addF f n).freeCtr = s.freeCtr := rfl
@[simp] theorem State.addF_mode (f : Fld) (n : Nat) : (s.addF f n).mode = s.mode := rfl
@[simp] theorem State.addF_power (f : Fld) (n : Nat) : (s.addF f n).power = s.power := rfl
@[simp] theorem State.addF_reply (f : Fld) (n : Nat) : (s.addF f n).reply = s.reply := rfl
@[simp] theorem State.addF_obs (f : Fld) (n : Nat) : (s.addF f n).obs = s.obs := rfl
@[simp] theorem State.addF_hands (f : Fld) (n : Nat) : (s.addF f n).hands = s.hands := rfl
@[simp] theorem State.addF_docket (f : Fld) (n : Nat) : (s.addF f n).docket = s.docket := rfl
@[simp] theorem State.addF_toll (f : Fld) (n : Nat) : (s.addF f n).toll = s.toll := rfl
@[simp] theorem State.addF_pins (f : Fld) (n : Nat) : (s.addF f n).pins = s.pins := rfl
@[simp] theorem State.addF_larder (f : Fld) (n : Nat) : (s.addF f n).larder = s.larder := rfl
@[simp] theorem State.addF_plan (f : Fld) (n : Nat) : (s.addF f n).plan = s.plan := rfl
@[simp] theorem State.addF_press (f : Fld) (n : Nat) : (s.addF f n).press = s.press := rfl
@[simp] theorem State.addF_mill (f : Fld) (n : Nat) : (s.addF f n).mill = s.mill := rfl
@[simp] theorem State.addF_assay (f : Fld) (n : Nat) : (s.addF f n).assay = s.assay := rfl
@[simp] theorem State.addF_warden (f : Fld) (n : Nat) : (s.addF f n).warden = s.warden := rfl
@[simp] theorem State.addF_hold (f : Fld) (n : Nat) : (s.addF f n).hold = s.hold := rfl
@[simp] theorem State.addF_mag (f : Fld) (n : Nat) : (s.addF f n).mag = s.mag := rfl
@[simp] theorem State.addF_sieve (f : Fld) (n : Nat) : (s.addF f n).sieve = s.sieve := rfl
@[simp] theorem State.addF_cf (f : Fld) (n : Nat) : (s.addF f n).cf = s.cf := rfl
@[simp] theorem State.addF_till (f : Fld) (n : Nat) : (s.addF f n).till = s.till := rfl
@[simp] theorem State.addF_stew (f : Fld) (n : Nat) : (s.addF f n).stew = s.stew := rfl
@[simp] theorem State.addF_media (f : Fld) (n : Nat) : (s.addF f n).media = s.media := rfl
@[simp] theorem State.addF_car (f : Fld) (n : Nat) : (s.addF f n).car = s.car := rfl
@[simp] theorem State.addF_pair (f : Fld) (n : Nat) : (s.addF f n).pair = s.pair := rfl
@[simp] theorem State.addF_strong (f : Fld) (n : Nat) : (s.addF f n).strong = s.strong := rfl
@[simp] theorem State.addF_latches (f : Fld) (n : Nat) : (s.addF f n).latches = s.latches := rfl

/-! State.satF -/
@[simp] theorem State.satF_mem (f : Fld) : (s.satF f).mem = s.mem := rfl
@[simp] theorem State.satF_pending (f : Fld) : (s.satF f).pending = s.pending := rfl
@[simp] theorem State.satF_outbox (f : Fld) : (s.satF f).outbox = s.outbox := rfl
@[simp] theorem State.satF_time (f : Fld) : (s.satF f).time = s.time := rfl
@[simp] theorem State.satF_freeCtr (f : Fld) : (s.satF f).freeCtr = s.freeCtr := rfl
@[simp] theorem State.satF_mode (f : Fld) : (s.satF f).mode = s.mode := rfl
@[simp] theorem State.satF_power (f : Fld) : (s.satF f).power = s.power := rfl
@[simp] theorem State.satF_reply (f : Fld) : (s.satF f).reply = s.reply := rfl
@[simp] theorem State.satF_obs (f : Fld) : (s.satF f).obs = s.obs := rfl
@[simp] theorem State.satF_hands (f : Fld) : (s.satF f).hands = s.hands := rfl
@[simp] theorem State.satF_docket (f : Fld) : (s.satF f).docket = s.docket := rfl
@[simp] theorem State.satF_toll (f : Fld) : (s.satF f).toll = s.toll := rfl
@[simp] theorem State.satF_pins (f : Fld) : (s.satF f).pins = s.pins := rfl
@[simp] theorem State.satF_larder (f : Fld) : (s.satF f).larder = s.larder := rfl
@[simp] theorem State.satF_plan (f : Fld) : (s.satF f).plan = s.plan := rfl
@[simp] theorem State.satF_press (f : Fld) : (s.satF f).press = s.press := rfl
@[simp] theorem State.satF_mill (f : Fld) : (s.satF f).mill = s.mill := rfl
@[simp] theorem State.satF_assay (f : Fld) : (s.satF f).assay = s.assay := rfl
@[simp] theorem State.satF_warden (f : Fld) : (s.satF f).warden = s.warden := rfl
@[simp] theorem State.satF_hold (f : Fld) : (s.satF f).hold = s.hold := rfl
@[simp] theorem State.satF_mag (f : Fld) : (s.satF f).mag = s.mag := rfl
@[simp] theorem State.satF_sieve (f : Fld) : (s.satF f).sieve = s.sieve := rfl
@[simp] theorem State.satF_cf (f : Fld) : (s.satF f).cf = s.cf := rfl
@[simp] theorem State.satF_till (f : Fld) : (s.satF f).till = s.till := rfl
@[simp] theorem State.satF_stew (f : Fld) : (s.satF f).stew = s.stew := rfl
@[simp] theorem State.satF_media (f : Fld) : (s.satF f).media = s.media := rfl
@[simp] theorem State.satF_car (f : Fld) : (s.satF f).car = s.car := rfl
@[simp] theorem State.satF_pair (f : Fld) : (s.satF f).pair = s.pair := rfl
@[simp] theorem State.satF_strong (f : Fld) : (s.satF f).strong = s.strong := rfl
@[simp] theorem State.satF_latches (f : Fld) : (s.satF f).latches = s.latches := rfl

/-! State.setN -/
@[simp] theorem State.setN_mem (k : Nat) (n : Nat) : (s.setN k n).mem = s.mem := rfl
@[simp] theorem State.setN_pending (k : Nat) (n : Nat) : (s.setN k n).pending = s.pending := rfl
@[simp] theorem State.setN_outbox (k : Nat) (n : Nat) : (s.setN k n).outbox = s.outbox := rfl
@[simp] theorem State.setN_time (k : Nat) (n : Nat) : (s.setN k n).time = s.time := rfl
@[simp] theorem State.setN_freeCtr (k : Nat) (n : Nat) : (s.setN k n).freeCtr = s.freeCtr := rfl
@[simp] theorem State.setN_mode (k : Nat) (n : Nat) : (s.setN k n).mode = s.mode := rfl
@[simp] theorem State.setN_power (k : Nat) (n : Nat) : (s.setN k n).power = s.power := rfl
@[simp] theorem State.setN_reply (k : Nat) (n : Nat) : (s.setN k n).reply = s.reply := rfl
@[simp] theorem State.setN_obs (k : Nat) (n : Nat) : (s.setN k n).obs = s.obs := rfl
@[simp] theorem State.setN_hands (k : Nat) (n : Nat) : (s.setN k n).hands = s.hands := rfl
@[simp] theorem State.setN_docket (k : Nat) (n : Nat) : (s.setN k n).docket = s.docket := rfl
@[simp] theorem State.setN_toll (k : Nat) (n : Nat) : (s.setN k n).toll = s.toll := rfl
@[simp] theorem State.setN_pins (k : Nat) (n : Nat) : (s.setN k n).pins = s.pins := rfl
@[simp] theorem State.setN_larder (k : Nat) (n : Nat) : (s.setN k n).larder = s.larder := rfl
@[simp] theorem State.setN_plan (k : Nat) (n : Nat) : (s.setN k n).plan = s.plan := rfl
@[simp] theorem State.setN_press (k : Nat) (n : Nat) : (s.setN k n).press = s.press := rfl
@[simp] theorem State.setN_mill (k : Nat) (n : Nat) : (s.setN k n).mill = s.mill := rfl
@[simp] theorem State.setN_assay (k : Nat) (n : Nat) : (s.setN k n).assay = s.assay := rfl
@[simp] theorem State.setN_warden (k : Nat) (n : Nat) : (s.setN k n).warden = s.warden := rfl
@[simp] theorem State.setN_hold (k : Nat) (n : Nat) : (s.setN k n).hold = s.hold := rfl
@[simp] theorem State.setN_mag (k : Nat) (n : Nat) : (s.setN k n).mag = s.mag := rfl
@[simp] theorem State.setN_sieve (k : Nat) (n : Nat) : (s.setN k n).sieve = s.sieve := rfl
@[simp] theorem State.setN_cf (k : Nat) (n : Nat) : (s.setN k n).cf = s.cf := rfl
@[simp] theorem State.setN_till (k : Nat) (n : Nat) : (s.setN k n).till = s.till := rfl
@[simp] theorem State.setN_stew (k : Nat) (n : Nat) : (s.setN k n).stew = s.stew := rfl
@[simp] theorem State.setN_media (k : Nat) (n : Nat) : (s.setN k n).media = s.media := rfl
@[simp] theorem State.setN_car (k : Nat) (n : Nat) : (s.setN k n).car = s.car := rfl
@[simp] theorem State.setN_pair (k : Nat) (n : Nat) : (s.setN k n).pair = s.pair := rfl
@[simp] theorem State.setN_strong (k : Nat) (n : Nat) : (s.setN k n).strong = s.strong := rfl
@[simp] theorem State.setN_latches (k : Nat) (n : Nat) : (s.setN k n).latches = s.latches := rfl

/-! State.addN -/
@[simp] theorem State.addN_mem (k : Nat) (n : Nat) : (s.addN k n).mem = s.mem := rfl
@[simp] theorem State.addN_pending (k : Nat) (n : Nat) : (s.addN k n).pending = s.pending := rfl
@[simp] theorem State.addN_outbox (k : Nat) (n : Nat) : (s.addN k n).outbox = s.outbox := rfl
@[simp] theorem State.addN_time (k : Nat) (n : Nat) : (s.addN k n).time = s.time := rfl
@[simp] theorem State.addN_freeCtr (k : Nat) (n : Nat) : (s.addN k n).freeCtr = s.freeCtr := rfl
@[simp] theorem State.addN_mode (k : Nat) (n : Nat) : (s.addN k n).mode = s.mode := rfl
@[simp] theorem State.addN_power (k : Nat) (n : Nat) : (s.addN k n).power = s.power := rfl
@[simp] theorem State.addN_reply (k : Nat) (n : Nat) : (s.addN k n).reply = s.reply := rfl
@[simp] theorem State.addN_obs (k : Nat) (n : Nat) : (s.addN k n).obs = s.obs := rfl
@[simp] theorem State.addN_hands (k : Nat) (n : Nat) : (s.addN k n).hands = s.hands := rfl
@[simp] theorem State.addN_docket (k : Nat) (n : Nat) : (s.addN k n).docket = s.docket := rfl
@[simp] theorem State.addN_toll (k : Nat) (n : Nat) : (s.addN k n).toll = s.toll := rfl
@[simp] theorem State.addN_pins (k : Nat) (n : Nat) : (s.addN k n).pins = s.pins := rfl
@[simp] theorem State.addN_larder (k : Nat) (n : Nat) : (s.addN k n).larder = s.larder := rfl
@[simp] theorem State.addN_plan (k : Nat) (n : Nat) : (s.addN k n).plan = s.plan := rfl
@[simp] theorem State.addN_press (k : Nat) (n : Nat) : (s.addN k n).press = s.press := rfl
@[simp] theorem State.addN_mill (k : Nat) (n : Nat) : (s.addN k n).mill = s.mill := rfl
@[simp] theorem State.addN_assay (k : Nat) (n : Nat) : (s.addN k n).assay = s.assay := rfl
@[simp] theorem State.addN_warden (k : Nat) (n : Nat) : (s.addN k n).warden = s.warden := rfl
@[simp] theorem State.addN_hold (k : Nat) (n : Nat) : (s.addN k n).hold = s.hold := rfl
@[simp] theorem State.addN_mag (k : Nat) (n : Nat) : (s.addN k n).mag = s.mag := rfl
@[simp] theorem State.addN_sieve (k : Nat) (n : Nat) : (s.addN k n).sieve = s.sieve := rfl
@[simp] theorem State.addN_cf (k : Nat) (n : Nat) : (s.addN k n).cf = s.cf := rfl
@[simp] theorem State.addN_till (k : Nat) (n : Nat) : (s.addN k n).till = s.till := rfl
@[simp] theorem State.addN_stew (k : Nat) (n : Nat) : (s.addN k n).stew = s.stew := rfl
@[simp] theorem State.addN_media (k : Nat) (n : Nat) : (s.addN k n).media = s.media := rfl
@[simp] theorem State.addN_car (k : Nat) (n : Nat) : (s.addN k n).car = s.car := rfl
@[simp] theorem State.addN_pair (k : Nat) (n : Nat) : (s.addN k n).pair = s.pair := rfl
@[simp] theorem State.addN_strong (k : Nat) (n : Nat) : (s.addN k n).strong = s.strong := rfl
@[simp] theorem State.addN_latches (k : Nat) (n : Nat) : (s.addN k n).latches = s.latches := rfl

/-! State.stat -/
@[simp] theorem State.stat_mem (f : Fld) (st : Status) : (s.stat f st).mem = s.mem := rfl
@[simp] theorem State.stat_pending (f : Fld) (st : Status) : (s.stat f st).pending = s.pending := rfl
@[simp] theorem State.stat_outbox (f : Fld) (st : Status) : (s.stat f st).outbox = s.outbox := rfl
@[simp] theorem State.stat_time (f : Fld) (st : Status) : (s.stat f st).time = s.time := rfl
@[simp] theorem State.stat_freeCtr (f : Fld) (st : Status) : (s.stat f st).freeCtr = s.freeCtr := rfl
@[simp] theorem State.stat_mode (f : Fld) (st : Status) : (s.stat f st).mode = s.mode := rfl
@[simp] theorem State.stat_power (f : Fld) (st : Status) : (s.stat f st).power = s.power := rfl
@[simp] theorem State.stat_obs (f : Fld) (st : Status) : (s.stat f st).obs = s.obs := rfl
@[simp] theorem State.stat_hands (f : Fld) (st : Status) : (s.stat f st).hands = s.hands := rfl
@[simp] theorem State.stat_docket (f : Fld) (st : Status) : (s.stat f st).docket = s.docket := rfl
@[simp] theorem State.stat_toll (f : Fld) (st : Status) : (s.stat f st).toll = s.toll := rfl
@[simp] theorem State.stat_pins (f : Fld) (st : Status) : (s.stat f st).pins = s.pins := rfl
@[simp] theorem State.stat_larder (f : Fld) (st : Status) : (s.stat f st).larder = s.larder := rfl
@[simp] theorem State.stat_plan (f : Fld) (st : Status) : (s.stat f st).plan = s.plan := rfl
@[simp] theorem State.stat_press (f : Fld) (st : Status) : (s.stat f st).press = s.press := rfl
@[simp] theorem State.stat_mill (f : Fld) (st : Status) : (s.stat f st).mill = s.mill := rfl
@[simp] theorem State.stat_assay (f : Fld) (st : Status) : (s.stat f st).assay = s.assay := rfl
@[simp] theorem State.stat_warden (f : Fld) (st : Status) : (s.stat f st).warden = s.warden := rfl
@[simp] theorem State.stat_hold (f : Fld) (st : Status) : (s.stat f st).hold = s.hold := rfl
@[simp] theorem State.stat_mag (f : Fld) (st : Status) : (s.stat f st).mag = s.mag := rfl
@[simp] theorem State.stat_sieve (f : Fld) (st : Status) : (s.stat f st).sieve = s.sieve := rfl
@[simp] theorem State.stat_cf (f : Fld) (st : Status) : (s.stat f st).cf = s.cf := rfl
@[simp] theorem State.stat_till (f : Fld) (st : Status) : (s.stat f st).till = s.till := rfl
@[simp] theorem State.stat_stew (f : Fld) (st : Status) : (s.stat f st).stew = s.stew := rfl
@[simp] theorem State.stat_media (f : Fld) (st : Status) : (s.stat f st).media = s.media := rfl
@[simp] theorem State.stat_car (f : Fld) (st : Status) : (s.stat f st).car = s.car := rfl
@[simp] theorem State.stat_pair (f : Fld) (st : Status) : (s.stat f st).pair = s.pair := rfl
@[simp] theorem State.stat_strong (f : Fld) (st : Status) : (s.stat f st).strong = s.strong := rfl
@[simp] theorem State.stat_latches (f : Fld) (st : Status) : (s.stat f st).latches = s.latches := rfl

/-! State.answer -/
@[simp] theorem State.answer_regs (st : Status) : (s.answer st).regs = s.regs := rfl
@[simp] theorem State.answer_mem (st : Status) : (s.answer st).mem = s.mem := rfl
@[simp] theorem State.answer_pending (st : Status) : (s.answer st).pending = s.pending := rfl
@[simp] theorem State.answer_outbox (st : Status) : (s.answer st).outbox = s.outbox := rfl
@[simp] theorem State.answer_time (st : Status) : (s.answer st).time = s.time := rfl
@[simp] theorem State.answer_freeCtr (st : Status) : (s.answer st).freeCtr = s.freeCtr := rfl
@[simp] theorem State.answer_mode (st : Status) : (s.answer st).mode = s.mode := rfl
@[simp] theorem State.answer_power (st : Status) : (s.answer st).power = s.power := rfl
@[simp] theorem State.answer_obs (st : Status) : (s.answer st).obs = s.obs := rfl
@[simp] theorem State.answer_hands (st : Status) : (s.answer st).hands = s.hands := rfl
@[simp] theorem State.answer_docket (st : Status) : (s.answer st).docket = s.docket := rfl
@[simp] theorem State.answer_toll (st : Status) : (s.answer st).toll = s.toll := rfl
@[simp] theorem State.answer_pins (st : Status) : (s.answer st).pins = s.pins := rfl
@[simp] theorem State.answer_larder (st : Status) : (s.answer st).larder = s.larder := rfl
@[simp] theorem State.answer_plan (st : Status) : (s.answer st).plan = s.plan := rfl
@[simp] theorem State.answer_press (st : Status) : (s.answer st).press = s.press := rfl
@[simp] theorem State.answer_mill (st : Status) : (s.answer st).mill = s.mill := rfl
@[simp] theorem State.answer_assay (st : Status) : (s.answer st).assay = s.assay := rfl
@[simp] theorem State.answer_warden (st : Status) : (s.answer st).warden = s.warden := rfl
@[simp] theorem State.answer_hold (st : Status) : (s.answer st).hold = s.hold := rfl
@[simp] theorem State.answer_mag (st : Status) : (s.answer st).mag = s.mag := rfl
@[simp] theorem State.answer_sieve (st : Status) : (s.answer st).sieve = s.sieve := rfl
@[simp] theorem State.answer_cf (st : Status) : (s.answer st).cf = s.cf := rfl
@[simp] theorem State.answer_till (st : Status) : (s.answer st).till = s.till := rfl
@[simp] theorem State.answer_stew (st : Status) : (s.answer st).stew = s.stew := rfl
@[simp] theorem State.answer_media (st : Status) : (s.answer st).media = s.media := rfl
@[simp] theorem State.answer_car (st : Status) : (s.answer st).car = s.car := rfl
@[simp] theorem State.answer_pair (st : Status) : (s.answer st).pair = s.pair := rfl
@[simp] theorem State.answer_strong (st : Status) : (s.answer st).strong = s.strong := rfl
@[simp] theorem State.answer_latches (st : Status) : (s.answer st).latches = s.latches := rfl

/-! State.wrB -/
@[simp] theorem State.wrB_regs (k : Nat) (b : Byte) : (s.wrB k b).regs = s.regs := rfl
@[simp] theorem State.wrB_pending (k : Nat) (b : Byte) : (s.wrB k b).pending = s.pending := rfl
@[simp] theorem State.wrB_outbox (k : Nat) (b : Byte) : (s.wrB k b).outbox = s.outbox := rfl
@[simp] theorem State.wrB_time (k : Nat) (b : Byte) : (s.wrB k b).time = s.time := rfl
@[simp] theorem State.wrB_freeCtr (k : Nat) (b : Byte) : (s.wrB k b).freeCtr = s.freeCtr := rfl
@[simp] theorem State.wrB_mode (k : Nat) (b : Byte) : (s.wrB k b).mode = s.mode := rfl
@[simp] theorem State.wrB_power (k : Nat) (b : Byte) : (s.wrB k b).power = s.power := rfl
@[simp] theorem State.wrB_reply (k : Nat) (b : Byte) : (s.wrB k b).reply = s.reply := rfl
@[simp] theorem State.wrB_obs (k : Nat) (b : Byte) : (s.wrB k b).obs = s.obs := rfl
@[simp] theorem State.wrB_hands (k : Nat) (b : Byte) : (s.wrB k b).hands = s.hands := rfl
@[simp] theorem State.wrB_docket (k : Nat) (b : Byte) : (s.wrB k b).docket = s.docket := rfl
@[simp] theorem State.wrB_toll (k : Nat) (b : Byte) : (s.wrB k b).toll = s.toll := rfl
@[simp] theorem State.wrB_pins (k : Nat) (b : Byte) : (s.wrB k b).pins = s.pins := rfl
@[simp] theorem State.wrB_larder (k : Nat) (b : Byte) : (s.wrB k b).larder = s.larder := rfl
@[simp] theorem State.wrB_plan (k : Nat) (b : Byte) : (s.wrB k b).plan = s.plan := rfl
@[simp] theorem State.wrB_press (k : Nat) (b : Byte) : (s.wrB k b).press = s.press := rfl
@[simp] theorem State.wrB_mill (k : Nat) (b : Byte) : (s.wrB k b).mill = s.mill := rfl
@[simp] theorem State.wrB_assay (k : Nat) (b : Byte) : (s.wrB k b).assay = s.assay := rfl
@[simp] theorem State.wrB_warden (k : Nat) (b : Byte) : (s.wrB k b).warden = s.warden := rfl
@[simp] theorem State.wrB_hold (k : Nat) (b : Byte) : (s.wrB k b).hold = s.hold := rfl
@[simp] theorem State.wrB_mag (k : Nat) (b : Byte) : (s.wrB k b).mag = s.mag := rfl
@[simp] theorem State.wrB_sieve (k : Nat) (b : Byte) : (s.wrB k b).sieve = s.sieve := rfl
@[simp] theorem State.wrB_cf (k : Nat) (b : Byte) : (s.wrB k b).cf = s.cf := rfl
@[simp] theorem State.wrB_till (k : Nat) (b : Byte) : (s.wrB k b).till = s.till := rfl
@[simp] theorem State.wrB_stew (k : Nat) (b : Byte) : (s.wrB k b).stew = s.stew := rfl
@[simp] theorem State.wrB_media (k : Nat) (b : Byte) : (s.wrB k b).media = s.media := rfl
@[simp] theorem State.wrB_car (k : Nat) (b : Byte) : (s.wrB k b).car = s.car := rfl
@[simp] theorem State.wrB_pair (k : Nat) (b : Byte) : (s.wrB k b).pair = s.pair := rfl
@[simp] theorem State.wrB_strong (k : Nat) (b : Byte) : (s.wrB k b).strong = s.strong := rfl
@[simp] theorem State.wrB_latches (k : Nat) (b : Byte) : (s.wrB k b).latches = s.latches := rfl

/-! State.send -/
@[simp] theorem State.send_regs (x : Out) : (s.send x).regs = s.regs := rfl
@[simp] theorem State.send_mem (x : Out) : (s.send x).mem = s.mem := rfl
@[simp] theorem State.send_pending (x : Out) : (s.send x).pending = s.pending := rfl
@[simp] theorem State.send_time (x : Out) : (s.send x).time = s.time := rfl
@[simp] theorem State.send_freeCtr (x : Out) : (s.send x).freeCtr = s.freeCtr := rfl
@[simp] theorem State.send_mode (x : Out) : (s.send x).mode = s.mode := rfl
@[simp] theorem State.send_power (x : Out) : (s.send x).power = s.power := rfl
@[simp] theorem State.send_reply (x : Out) : (s.send x).reply = s.reply := rfl
@[simp] theorem State.send_obs (x : Out) : (s.send x).obs = s.obs := rfl
@[simp] theorem State.send_hands (x : Out) : (s.send x).hands = s.hands := rfl
@[simp] theorem State.send_docket (x : Out) : (s.send x).docket = s.docket := rfl
@[simp] theorem State.send_toll (x : Out) : (s.send x).toll = s.toll := rfl
@[simp] theorem State.send_pins (x : Out) : (s.send x).pins = s.pins := rfl
@[simp] theorem State.send_larder (x : Out) : (s.send x).larder = s.larder := rfl
@[simp] theorem State.send_plan (x : Out) : (s.send x).plan = s.plan := rfl
@[simp] theorem State.send_press (x : Out) : (s.send x).press = s.press := rfl
@[simp] theorem State.send_mill (x : Out) : (s.send x).mill = s.mill := rfl
@[simp] theorem State.send_assay (x : Out) : (s.send x).assay = s.assay := rfl
@[simp] theorem State.send_warden (x : Out) : (s.send x).warden = s.warden := rfl
@[simp] theorem State.send_hold (x : Out) : (s.send x).hold = s.hold := rfl
@[simp] theorem State.send_mag (x : Out) : (s.send x).mag = s.mag := rfl
@[simp] theorem State.send_sieve (x : Out) : (s.send x).sieve = s.sieve := rfl
@[simp] theorem State.send_cf (x : Out) : (s.send x).cf = s.cf := rfl
@[simp] theorem State.send_till (x : Out) : (s.send x).till = s.till := rfl
@[simp] theorem State.send_stew (x : Out) : (s.send x).stew = s.stew := rfl
@[simp] theorem State.send_media (x : Out) : (s.send x).media = s.media := rfl
@[simp] theorem State.send_car (x : Out) : (s.send x).car = s.car := rfl
@[simp] theorem State.send_pair (x : Out) : (s.send x).pair = s.pair := rfl
@[simp] theorem State.send_strong (x : Out) : (s.send x).strong = s.strong := rfl
@[simp] theorem State.send_latches (x : Out) : (s.send x).latches = s.latches := rfl

/-! State.capTrigger -/
@[simp] theorem State.capTrigger_regs  : (s.capTrigger).regs = s.regs := rfl
@[simp] theorem State.capTrigger_mem  : (s.capTrigger).mem = s.mem := rfl
@[simp] theorem State.capTrigger_pending  : (s.capTrigger).pending = s.pending := rfl
@[simp] theorem State.capTrigger_outbox  : (s.capTrigger).outbox = s.outbox := rfl
@[simp] theorem State.capTrigger_time  : (s.capTrigger).time = s.time := rfl
@[simp] theorem State.capTrigger_freeCtr  : (s.capTrigger).freeCtr = s.freeCtr := rfl
@[simp] theorem State.capTrigger_mode  : (s.capTrigger).mode = s.mode := rfl
@[simp] theorem State.capTrigger_power  : (s.capTrigger).power = s.power := rfl
@[simp] theorem State.capTrigger_reply  : (s.capTrigger).reply = s.reply := rfl
@[simp] theorem State.capTrigger_obs  : (s.capTrigger).obs = s.obs := rfl
@[simp] theorem State.capTrigger_hands  : (s.capTrigger).hands = s.hands := rfl
@[simp] theorem State.capTrigger_docket  : (s.capTrigger).docket = s.docket := rfl
@[simp] theorem State.capTrigger_pins  : (s.capTrigger).pins = s.pins := rfl
@[simp] theorem State.capTrigger_larder  : (s.capTrigger).larder = s.larder := rfl
@[simp] theorem State.capTrigger_plan  : (s.capTrigger).plan = s.plan := rfl
@[simp] theorem State.capTrigger_press  : (s.capTrigger).press = s.press := rfl
@[simp] theorem State.capTrigger_mill  : (s.capTrigger).mill = s.mill := rfl
@[simp] theorem State.capTrigger_assay  : (s.capTrigger).assay = s.assay := rfl
@[simp] theorem State.capTrigger_warden  : (s.capTrigger).warden = s.warden := rfl
@[simp] theorem State.capTrigger_hold  : (s.capTrigger).hold = s.hold := rfl
@[simp] theorem State.capTrigger_mag  : (s.capTrigger).mag = s.mag := rfl
@[simp] theorem State.capTrigger_sieve  : (s.capTrigger).sieve = s.sieve := rfl
@[simp] theorem State.capTrigger_cf  : (s.capTrigger).cf = s.cf := rfl
@[simp] theorem State.capTrigger_till  : (s.capTrigger).till = s.till := rfl
@[simp] theorem State.capTrigger_stew  : (s.capTrigger).stew = s.stew := rfl
@[simp] theorem State.capTrigger_media  : (s.capTrigger).media = s.media := rfl
@[simp] theorem State.capTrigger_car  : (s.capTrigger).car = s.car := rfl
@[simp] theorem State.capTrigger_pair  : (s.capTrigger).pair = s.pair := rfl
@[simp] theorem State.capTrigger_strong  : (s.capTrigger).strong = s.strong := rfl
@[simp] theorem State.capTrigger_latches  : (s.capTrigger).latches = s.latches := rfl

end

end Sys2Proof.Machine
end

