-- ==== Sys2Proof/Laws/Store.lean ====
section
/-! SUPPORT. Sparse stores (Machine/Store.lean): what a read gives after a write, and that every write keeps the canonical
form; then the same of memory. -/
namespace Sys2Proof.Machine
theorem AMap.getD_erase_self {α : Type} (d : Nat → α) (m : AMap α) (k : Nat) : AMap.getD d (AMap.erase m k) k = d k := by
  induction m with
  | nil => rfl
  | cons p m ih =>
    obtain ⟨a, w⟩ := p
    by_cases h : a = k
    · subst h; simpa [AMap.erase, AMap.getD] using ih
    · have h' : ¬ k = a := fun e => h e.symm
      simpa [AMap.erase, AMap.getD, h, h'] using ih
theorem AMap.getD_erase_ne {α : Type} (d : Nat → α) (m : AMap α) {j k : Nat} (h : j ≠ k) :
    AMap.getD d (AMap.erase m k) j = AMap.getD d m j := by
  induction m with
  | nil => rfl
  | cons p m ih =>
    obtain ⟨a, w⟩ := p
    by_cases h1 : a = k
    · subst h1; simpa [AMap.erase, AMap.getD, h] using ih
    · by_cases h2 : j = a
      · subst h2; simp [AMap.erase, AMap.getD, h]
      · simpa [AMap.erase, AMap.getD, h1, h2] using ih
theorem AMap.getD_setD_self {α : Type} [DecidableEq α] (d : Nat → α) (m : AMap α) (k : Nat) (v : α) :
    AMap.getD d (AMap.setD d m k v) k = v := by
  induction m with
  | nil => by_cases h : v = d k <;> simp [AMap.setD, AMap.getD, h]
  | cons p m ih =>
    obtain ⟨a, w⟩ := p
    unfold AMap.setD
    split
    · split
      · rename_i h; rw [AMap.getD_erase_self, h]
      · simp [AMap.getD]
    · split
      · split
        · rename_i h; rw [AMap.getD_erase_self, h]
        · rename_i h _; simp [AMap.getD, h]
      · rename_i h; simpa [AMap.getD, h] using ih
theorem AMap.getD_setD_ne {α : Type} [DecidableEq α] (d : Nat → α) (m : AMap α) {j k : Nat} (v : α) (h : j ≠ k) :
    AMap.getD d (AMap.setD d m k v) j = AMap.getD d m j := by
  induction m with
  | nil => by_cases e : v = d k <;> simp [AMap.setD, AMap.getD, e, h]
  | cons p m ih =>
    obtain ⟨a, w⟩ := p
    unfold AMap.setD
    split
    · split
      · rw [AMap.getD_erase_ne d _ h]
      · rw [AMap.getD, if_neg h, AMap.getD_erase_ne d _ h]
    · split
      · rename_i e
        have h2 : ¬ j = a := fun x => h (x.trans e.symm)
        split
        · rw [AMap.getD_erase_ne d _ h]; simp [AMap.getD, h2]
        · simp [AMap.getD, h2, AMap.getD_erase_ne d _ h]
      · by_cases h2 : j = a
        · simp [AMap.getD, h2]
        · simpa [AMap.getD, h2] using ih
theorem AMap.wfFrom_mono {α : Type} [DecidableEq α] (d : Nat → α) (m : AMap α) {a b : Nat} (h : a ≤ b)
    (hw : AMap.wfFrom d b m = true) : AMap.wfFrom d a m = true := by
  cases m with
  | nil => rfl
  | cons p m =>
    obtain ⟨c, v⟩ := p
    simp only [AMap.wfFrom, Bool.and_eq_true, decide_eq_true_eq] at hw ⊢
    exact ⟨⟨le_trans h hw.1.1, hw.1.2⟩, hw.2⟩
theorem AMap.erase_wfFrom {α : Type} [DecidableEq α] (d : Nat → α) (k : Nat) (m : AMap α) :
    ∀ lo, AMap.wfFrom d lo m = true → AMap.wfFrom d lo (AMap.erase m k) = true := by
  induction m with
  | nil => intro _ _; rfl
  | cons p m ih =>
    obtain ⟨a, v⟩ := p
    intro lo h
    simp only [AMap.wfFrom, Bool.and_eq_true, decide_eq_true_eq] at h
    by_cases e : a = k
    · have : AMap.erase ((a, v) :: m) k = AMap.erase m k := by simp [AMap.erase, e]
      rw [this]
      exact AMap.wfFrom_mono d _ (by omega) (ih _ h.2)
    · have : AMap.erase ((a, v) :: m) k = (a, v) :: AMap.erase m k := by simp [AMap.erase, e]
      rw [this]
      simp only [AMap.wfFrom, Bool.and_eq_true, decide_eq_true_eq]
      exact ⟨h.1, ih _ h.2⟩
theorem AMap.erase_wfFrom_lt {α : Type} [DecidableEq α] (d : Nat → α) (k : Nat) (m : AMap α) {a : Nat} (h : k < a)
    (hw : AMap.wfFrom d a m = true) : AMap.wfFrom d (k + 1) (AMap.erase m k) = true :=
  AMap.wfFrom_mono d _ h (AMap.erase_wfFrom d k m a hw)
theorem AMap.setD_wfFrom {α : Type} [DecidableEq α] (d : Nat → α) (k : Nat) (v : α) (m : AMap α) :
    ∀ lo, lo ≤ k → AMap.wfFrom d lo m = true → AMap.wfFrom d lo (AMap.setD d m k v) = true := by
  induction m with
  | nil => intro lo hk _; by_cases e : v = d k <;> simp [AMap.setD, AMap.wfFrom, e, hk]
  | cons p m ih =>
    obtain ⟨a, w⟩ := p
    intro lo hk h
    have h0 := h
    simp only [AMap.wfFrom, Bool.and_eq_true, decide_eq_true_eq] at h
    unfold AMap.setD
    split
    · rename_i lt
      split
      · exact AMap.erase_wfFrom d k _ lo h0
      · rename_i e
        simp only [AMap.wfFrom, Bool.and_eq_true, decide_eq_true_eq]
        refine ⟨⟨hk, by simpa using e⟩, AMap.erase_wfFrom d k _ (k + 1) ?_⟩
        simp only [AMap.wfFrom, Bool.and_eq_true, decide_eq_true_eq]
        exact ⟨⟨lt, h.1.2⟩, h.2⟩
    · split
      · rename_i e
        subst e
        split
        · exact AMap.wfFrom_mono d _ (by omega) (AMap.erase_wfFrom d k _ _ h.2)
        · rename_i e
          simp only [AMap.wfFrom, Bool.and_eq_true, decide_eq_true_eq]
          exact ⟨⟨hk, by simpa using e⟩, AMap.erase_wfFrom d k _ _ h.2⟩
      · simp only [AMap.wfFrom, Bool.and_eq_true, decide_eq_true_eq]
        exact ⟨h.1, ih (a + 1) (by omega) h.2⟩

/-- A write keeps the canonical form. -/
theorem AMap.setD_wf {α : Type} [DecidableEq α] (d : Nat → α) (m : AMap α) (k : Nat) (v : α)
    (h : AMap.wf d m = true) : AMap.wf d (AMap.setD d m k v) = true := AMap.setD_wfFrom d k v m 0 (Nat.zero_le k) h

/-- Reading the key just set. -/
@[simp] theorem AMap.get_set_self {α : Type} [Inhabited α] [DecidableEq α] (m : AMap α) (k : Nat) (v : α) :
    (m.set k v).get k = v := AMap.getD_setD_self _ m k v

/-- Reading another key. -/
theorem AMap.get_set_ne {α : Type} [Inhabited α] [DecidableEq α] (m : AMap α) {j k : Nat} (v : α) (h : j ≠ k) :
    (m.set k v).get j = m.get j := AMap.getD_setD_ne _ m v h

/-- A change at a key, read there. -/
@[simp] theorem AMap.get_upd_self {α : Type} [Inhabited α] [DecidableEq α] (m : AMap α) (k : Nat) (f : α → α) :
    (m.upd k f).get k = f (m.get k) := AMap.get_set_self m k _

/-- A change at a key, read elsewhere. -/
theorem AMap.get_upd_ne {α : Type} [Inhabited α] [DecidableEq α] (m : AMap α) {j k : Nat} (f : α → α) (h : j ≠ k) :
    (m.upd k f).get j = m.get j := AMap.get_set_ne m _ h

/-! ### Memory -/

/-- A byte just written reads back. -/
@[simp] theorem State.rdB_wrB_self (s : State) (k : Nat) (b : Byte) : (s.wrB k b).rdB k = b :=
  AMap.getD_setD_self _ _ _ _

/-- Every other byte keeps its value. -/
theorem State.rdB_wrB_ne (s : State) {j k : Nat} (b : Byte) (h : j ≠ k) : (s.wrB k b).rdB j = s.rdB j :=
  AMap.getD_setD_ne _ _ _ h

/-- A byte write keeps memory's canonical form. -/
theorem State.wrB_wf (s : State) (k : Nat) (b : Byte) (h : Memory.wf s.mem = true) : Memory.wf (s.wrB k b).mem = true :=
  AMap.setD_wf _ _ _ _ h

/-- Writing bytes keeps memory's canonical form. -/
theorem State.wrBytes_wf (l : List Byte) : ∀ (s : State) (k : Nat), Memory.wf s.mem = true → Memory.wf (s.wrBytes k l).mem = true := by
  induction l with
  | nil => intro s k h; exact h
  | cons b r ih => intro s k h; exact ih _ _ (State.wrB_wf s k b h)

/-- Bytes below or above those written keep their value. -/
theorem State.rdB_wrBytes_out (l : List Byte) : ∀ (s : State) (k j : Nat), j < k ∨ k + l.length ≤ j →
    (s.wrBytes k l).rdB j = s.rdB j := by
  induction l with
  | nil => intro s k j _; rfl
  | cons b r ih =>
    intro s k j h
    have h1 : j < k + 1 ∨ k + 1 + r.length ≤ j := by
      simp only [List.length_cons] at h; omega
    have h2 : j ≠ k := by simp only [List.length_cons] at h; omega
    rw [State.wrBytes, ih _ _ _ h1, State.rdB_wrB_ne s b h2]

/-- The byte at each offset of those written reads back. -/
theorem State.rdB_wrBytes_in (l : List Byte) : ∀ (s : State) (k i : Nat) (h : i < l.length), (s.wrBytes k l).rdB (k + i) = l[i] := by
  induction l with
  | nil => intro s k i h; exact absurd h (Nat.not_lt_zero i)
  | cons b r ih =>
    intro s k i h
    cases i with
    | zero =>
      show (s.wrBytes k (b :: r)).rdB k = b
      rw [State.wrBytes, State.rdB_wrBytes_out r _ _ _ (.inl (Nat.lt_succ_self k)), State.rdB_wrB_self]
    | succ i =>
      rw [State.wrBytes, show k + (i + 1) = k + 1 + i by omega, ih _ _ _ (Nat.lt_of_succ_lt_succ h)]
      simp

end Sys2Proof.Machine
end

