-- ==== Sys2Proof/Laws/Registers.lean ====
section
/-! SUPPORT. Registers and fields: a field just set reads back, every other field keeps its value; and what counting, records
and Reeve numbers leave alone. -/
namespace Sys2Proof.Machine

/-! ### Registers and fields -/

@[simp] theorem State.getR_setR_self (s : State) (k : Nat) (v : Word) : (s.setR k v).getR k = v :=
  AMap.getD_setD_self _ _ _ _

theorem State.getR_setR_ne (s : State) {j k : Nat} (v : Word) (h : j ≠ k) : (s.setR k v).getR j = s.getR j :=
  AMap.getD_setD_ne _ _ _ h

/-- A register write keeps the register file's canonical form. -/
theorem State.setR_wf (s : State) (k : Nat) (v : Word) (h : AMap.wf resetOf s.regs = true) :
    AMap.wf resetOf (s.setR k v).regs = true := AMap.setD_wf _ _ _ _ h

/-- Bit i of the mask of w low bits. -/
theorem getLsbD_lowMask (w i : Nat) : (lowMask w).getLsbD i = (decide (i < 64) && decide (i < w)) := by
  simp [lowMask, BitVec.getLsbD_ofNat, Nat.testBit_two_pow_sub_one]

/-- Whether two fields share no bit. -/
def Fld.apart (f g : Fld) : Bool := f.addr != g.addr || decide (f.lo + f.w ≤ g.lo) || decide (g.lo + g.w ≤ f.lo)

/-- A field just put reads back, cut to its width. -/
theorem Fld.get_put (f : Fld) (v : Word) (n : Nat) (h : f.lo + f.w ≤ 64) : f.get (f.put v n) = n % 2 ^ f.w := by
  have e : ((f.put v n >>> f.lo) &&& lowMask f.w) = BitVec.ofNat 64 n &&& lowMask f.w := by
    ext i hi
    simp only [Fld.put, ← BitVec.getLsbD_eq_getElem, BitVec.getLsbD_and, BitVec.getLsbD_ushiftRight,
      BitVec.getLsbD_or, BitVec.getLsbD_not, BitVec.getLsbD_shiftLeft, getLsbD_lowMask]
    have h3 : f.lo + i - f.lo = i := by omega
    by_cases hw : i < f.w
    · have h1 : f.lo + i < 64 := by omega
      simp [hw, hi, h1, h3]
    · simp [hw]
  rw [Fld.get, e]
  have : (BitVec.ofNat 64 n &&& lowMask f.w).toNat = n % 2 ^ f.w := by
    have hw : f.w ≤ 64 := by omega
    have h1 : 2 ^ f.w - 1 < 2 ^ 64 := by
      have := Nat.pow_le_pow_right (n := 2) (by omega) hw
      have := Nat.one_le_two_pow (n := f.w)
      omega
    rw [lowMask, BitVec.toNat_and, BitVec.toNat_ofNat, BitVec.toNat_ofNat, Nat.mod_eq_of_lt h1, Nat.and_two_pow_sub_one_eq_mod,
      Nat.mod_mod_of_dvd _ (Nat.pow_dvd_pow 2 hw)]
  exact this

/-- Putting one field leaves the bits of another. -/
theorem Fld.get_put_apart (f g : Fld) (v : Word) (n : Nat) (h : f.lo + f.w ≤ g.lo ∨ g.lo + g.w ≤ f.lo) :
    f.get (g.put v n) = f.get v := by
  have e : ((g.put v n >>> f.lo) &&& lowMask f.w) = (v >>> f.lo) &&& lowMask f.w := by
    ext i hi
    simp only [Fld.put, ← BitVec.getLsbD_eq_getElem, BitVec.getLsbD_and, BitVec.getLsbD_ushiftRight,
      BitVec.getLsbD_or, BitVec.getLsbD_not, BitVec.getLsbD_shiftLeft, getLsbD_lowMask]
    by_cases hw : i < f.w
    · by_cases h1 : f.lo + i < 64
      · rcases h with h | h
        · have : f.lo + i < g.lo := by omega
          simp [hw, h1, this]
        · have h2 : ¬ f.lo + i < g.lo := by omega
          have h3 : ¬ f.lo + i - g.lo < g.w := by omega
          simp [hw, h1, h2, h3]
      · have hv : v.getLsbD (f.lo + i) = false := BitVec.getLsbD_of_ge _ _ (by omega)
        simp [h1, hv]
    · simp [hw]
  rw [Fld.get, e, Fld.get]

theorem State.getF_setF_self (s : State) (f : Fld) (n : Nat) (h : f.lo + f.w ≤ 64) : (s.setF f n).getF f = n % 2 ^ f.w := by
  simp [State.getF, State.setF, Fld.get_put f _ n h]

theorem State.getF_setF_ne (s : State) (f g : Fld) (n : Nat) (h : f.apart g = true) : (s.setF g n).getF f = s.getF f := by
  by_cases e : f.addr = g.addr
  · have h2 : f.lo + f.w ≤ g.lo ∨ g.lo + g.w ≤ f.lo := by simpa [Fld.apart, e] using h
    simp [State.getF, State.setF, e, Fld.get_put_apart f g _ n h2]
  · simp [State.getF, State.setF, State.getR_setR_ne _ _ e]

theorem State.getR_setF_ne (s : State) {k : Nat} (f : Fld) (n : Nat) (h : k ≠ f.addr) : (s.setF f n).getR k = s.getR k :=
  State.getR_setR_ne _ _ h

theorem State.getF_setR_ne (s : State) (f : Fld) {k : Nat} (v : Word) (h : f.addr ≠ k) : (s.setR k v).getF f = s.getF f := by
  simp [State.getF, State.getR_setR_ne _ _ h]

theorem State.getF_setN_ne (s : State) (f : Fld) {k : Nat} (n : Nat) (h : f.addr ≠ k) : (s.setN k n).getF f = s.getF f :=
  State.getF_setR_ne _ _ _ h

theorem State.getF_addN_ne (s : State) (f : Fld) {k : Nat} (n : Nat) (h : f.addr ≠ k) : (s.addN k n).getF f = s.getF f :=
  State.getF_setR_ne _ _ _ h

theorem State.getR_setN_ne (s : State) {j k : Nat} (n : Nat) (h : j ≠ k) : (s.setN k n).getR j = s.getR j :=
  State.getR_setR_ne _ _ h

@[simp] theorem State.getR_setN_self (s : State) (k n : Nat) : (s.setN k n).getR k = BitVec.ofNat 64 n :=
  State.getR_setR_self _ _ _

theorem State.getN_setN_self (s : State) (k n : Nat) : (s.setN k n).getN k = n % 2 ^ 64 := by simp [State.getN]

theorem State.getN_setN_ne (s : State) {j k : Nat} (n : Nat) (h : j ≠ k) : (s.setN k n).getN j = s.getN j := by
  simp [State.getN, State.getR_setN_ne _ _ h]

theorem State.getN_setF_ne (s : State) {k : Nat} (f : Fld) (n : Nat) (h : k ≠ f.addr) : (s.setF f n).getN k = s.getN k := by
  simp [State.getN, State.getR_setF_ne _ _ _ h]

/-- A field of the state reads from its registers alone. -/
theorem State.getF_congr {s t : State} (h : s.regs = t.regs) (f : Fld) : s.getF f = t.getF f := by
  simp [State.getF, State.getR, h]

theorem State.getR_congr {s t : State} (h : s.regs = t.regs) (k : Nat) : s.getR k = t.getR k := by
  simp [State.getR, h]

/-! ### Counting, records and Reeve numbers -/

theorem State.crierNumber_rest (s : State) (r : Rec) : (s.crierNumber r).2.rest = s.rest := rfl

theorem State.crierLog_rest (s : State) (r : Rec) : (s.crierLog r).rest = s.rest := by
  unfold State.crierLog; split <;> rfl

theorem State.crierTrace_rest (s : State) (r : Rec) : (s.crierTrace r).rest = s.rest := by
  unfold State.crierTrace; split <;> rfl

theorem State.countOver_rest (s : State) (n : Nat) : (s.countOver n).rest = s.rest := by
  unfold State.countOver
  dsimp only
  split
  · exact State.crierLog_rest _ _
  · rfl

theorem State.countOne_rest (s : State) (n k : Nat) : (s.countOne n k).rest = s.rest := by
  unfold State.countOne
  dsimp only
  split
  · rfl
  · exact State.countOver_rest _ _

theorem State.countAdd_rest (s : State) (n k : Nat) : (s.countAdd n k).rest = s.rest := by
  unfold State.countAdd
  dsimp only
  split
  · exact (State.countOne_rest _ _ _).trans (State.countOne_rest s n k)
  · exact State.countOne_rest s n k

theorem State.countEv_rest (s : State) (a b c : Nat) : (s.countEv a b c).rest = s.rest := by
  unfold State.countEv
  split
  · rfl
  · generalize (upto 32).filter _ = l
    suffices h : ∀ t : State, (List.foldl (fun s n => s.countAdd n b) t l).rest = t.rest from h s
    induction l with
    | nil => intro t; rfl
    | cons m l ih => intro t; exact (ih _).trans (State.countAdd_rest t m b)

theorem State.tick_rest (s : State) : s.tick.rest = s.rest := State.countEv_rest _ _ _ _

theorem State.log_rest (s : State) (i c : Nat) (st : Status) (det : Nat) (b : List Byte) : (s.log i c st det b).rest = s.rest := by
  unfold State.log
  dsimp only
  split
  · exact (State.tick_rest _).trans (State.crierLog_rest _ _)
  · exact ((State.countEv_rest _ _ _ _).trans (State.tick_rest _)).trans (State.crierLog_rest _ _)

theorem State.trace_rest (s : State) (i c : Nat) (st : Status) (det : Nat) (b : List Byte) : (s.trace i c st det b).rest = s.rest :=
  (State.tick_rest _).trans (State.crierTrace_rest _ _)

theorem State.regEvent_rest (s : State) (blk code det : Nat) (b : List Byte) : (s.regEvent blk code det b).rest = s.rest :=
  State.tick_rest _

/-- An alarm also lights LED line 29. -/
theorem State.alarm_rest (s : State) (i c : Nat) (st : Status) (det : Nat) (b : List Byte) :
    (s.alarm i c st det b).rest = { s.rest with pins := { s.pins with ledAlarm := true } } := by
  have h : ∀ r : Rec, (s.crierAlarm r).rest = { s.rest with pins := { s.pins with ledAlarm := true } } := by
    intro r
    have h1 : (s.crierNumber r).2.rest = s.rest := rfl
    rw [← h1]
    show _ = { (s.crierNumber r).2.rest with pins := { (s.crierNumber r).2.pins with ledAlarm := true } }
    unfold State.crierAlarm
    generalize s.crierNumber r = q
    obtain ⟨q1, q2⟩ := q
    dsimp only
    rw [apply_ite State.rest]
    exact (congrArg₂ (ite _) rfl rfl).trans (ite_self _)
  exact (State.tick_rest _).trans (h _)

/-! ### Registers that counting and records leave alone -/

section
variable (s : State) {k : Nat} (h : noisy k = false)
include h

theorem getR_setN_noisy {j : Nat} (n : Nat) (hj : noisy j = true) : (s.setN j n).getR k = s.getR k :=
  State.getR_setN_ne _ _ (fun e => by subst e; simp [h] at hj)

theorem State.getR_crierLog_quiet (r : Rec) : (s.crierLog r).getR k = s.getR k := by
  unfold State.crierLog
  split
  · exact getR_setN_noisy s h _ rfl
  · exact getR_setN_noisy s h _ rfl

theorem State.getR_crierTrace_quiet (r : Rec) : (s.crierTrace r).getR k = s.getR k := by
  unfold State.crierTrace
  split
  · exact getR_setN_noisy s h _ rfl
  · rfl

theorem State.getR_crierAlarm_quiet (r : Rec) : (s.crierAlarm r).getR k = s.getR k := by
  have h1 : (s.crierNumber r).2.getR k = s.getR k := getR_setN_noisy s h _ rfl
  refine Eq.trans ?_ h1
  unfold State.crierAlarm
  generalize s.crierNumber r = q
  obtain ⟨q1, q2⟩ := q
  dsimp only
  rw [apply_ite (fun t : State => t.getR k)]
  exact (congrArg₂ (ite _) (getR_setN_noisy _ h _ rfl) rfl).trans (ite_self _)

theorem getR_setF_noisy (f : Fld) (n : Nat) (hf : noisy f.addr = true) : (s.setF f n).getR k = s.getR k :=
  State.getR_setF_ne _ _ _ (fun e => by subst e; simp [h] at hf)

theorem State.getR_countOver_quiet (n : Nat) : (s.countOver n).getR k = s.getR k := by
  unfold State.countOver
  dsimp only
  split
  · exact (getR_setN_noisy _ h _ rfl).trans ((State.getR_crierLog_quiet _ h _).trans (getR_setF_noisy s h _ _ rfl))
  · exact getR_setF_noisy s h _ _ rfl

theorem State.getR_countOne_quiet (n m : Nat) (hn : n < 33) : (s.countOne n m).getR k = s.getR k := by
  have hf : noisy (F.COUNT_P_VALUE_ALL.win 0x20 n).addr = true := by
    have e : (F.COUNT_P_VALUE_ALL.win 0x20 n).addr = 0x50108 + 0x20 * n := rfl
    rw [e]
    simp only [noisy, Bool.or_eq_true, Bool.and_eq_true, decide_eq_true_eq]
    exact .inr ⟨by omega, by omega⟩
  unfold State.countOne
  dsimp only
  split
  · exact getR_setF_noisy s h _ _ hf
  · exact (State.getR_countOver_quiet _ h _).trans (getR_setF_noisy s h _ _ hf)

theorem State.getR_countAdd_quiet (n m : Nat) (hn : n < 32) : (s.countAdd n m).getR k = s.getR k := by
  have h2 : ({ s.countOne n m with obs := { (s.countOne n m).obs with counts := (s.countOne n m).obs.counts.upd n (fun x => x + m) } } :
      State).getR k = s.getR k := State.getR_countOne_quiet s h n m (by omega)
  unfold State.countAdd
  dsimp only
  split
  · exact (State.getR_countOne_quiet _ h _ _ (by omega)).trans h2
  · exact h2

theorem State.getR_countEv_quiet (a b c : Nat) : (s.countEv a b c).getR k = s.getR k := by
  unfold State.countEv
  split
  · rfl
  · have hl : ∀ n ∈ (upto 32).filter (fun n => s.countTakes n a 0 c), n < 32 := by
      intro n hn; exact List.mem_range.mp (List.mem_filter.mp hn).1
    generalize (upto 32).filter _ = l at hl
    suffices g : ∀ t : State, (List.foldl (fun s n => s.countAdd n b) t l).getR k = t.getR k from g s
    induction l with
    | nil => intro t; rfl
    | cons m l ih =>
      intro t
      exact (ih (fun n hn => hl n (List.mem_cons_of_mem _ hn)) _).trans (State.getR_countAdd_quiet t h m b (hl m List.mem_cons_self))

theorem State.getR_tick_quiet : s.tick.getR k = s.getR k :=
  (State.getR_countEv_quiet _ h _ _ _).trans (getR_setN_noisy s h _ rfl)

theorem State.getR_log_quiet (i c : Nat) (st : Status) (det : Nat) (b : List Byte) : (s.log i c st det b).getR k = s.getR k := by
  unfold State.log
  dsimp only
  split
  · exact (State.getR_tick_quiet _ h).trans (State.getR_crierLog_quiet s h _)
  · exact (State.getR_countEv_quiet _ h _ _ _).trans ((State.getR_tick_quiet _ h).trans (State.getR_crierLog_quiet s h _))

theorem State.getR_trace_quiet (i c : Nat) (st : Status) (det : Nat) (b : List Byte) : (s.trace i c st det b).getR k = s.getR k :=
  (State.getR_tick_quiet _ h).trans (State.getR_crierTrace_quiet s h _)

theorem State.getR_alarm_quiet (i c : Nat) (st : Status) (det : Nat) (b : List Byte) : (s.alarm i c st det b).getR k = s.getR k :=
  (State.getR_tick_quiet _ h).trans (State.getR_crierAlarm_quiet s h _)

theorem State.getR_regEvent_quiet (blk code det : Nat) (b : List Byte) : (s.regEvent blk code det b).getR k = s.getR k :=
  State.getR_tick_quiet _ h

end

section
variable (s : State) {f : Fld} (h : noisy f.addr = false)
include h

theorem State.getF_countEv_quiet (a b c : Nat) : (s.countEv a b c).getF f = s.getF f := by
  simp [State.getF, State.getR_countEv_quiet s h]

theorem State.getF_tick_quiet : s.tick.getF f = s.getF f := by simp [State.getF, State.getR_tick_quiet s h]

theorem State.getF_log_quiet (i c : Nat) (st : Status) (det : Nat) (b : List Byte) : (s.log i c st det b).getF f = s.getF f := by
  simp [State.getF, State.getR_log_quiet s h]

theorem State.getF_trace_quiet (i c : Nat) (st : Status) (det : Nat) (b : List Byte) : (s.trace i c st det b).getF f = s.getF f := by
  simp [State.getF, State.getR_trace_quiet s h]

theorem State.getF_alarm_quiet (i c : Nat) (st : Status) (det : Nat) (b : List Byte) : (s.alarm i c st det b).getF f = s.getF f := by
  simp [State.getF, State.getR_alarm_quiet s h]

theorem State.getF_regEvent_quiet (blk code det : Nat) (b : List Byte) : (s.regEvent blk code det b).getF f = s.getF f := by
  simp [State.getF, State.getR_regEvent_quiet s h]

end

/-! ### Fields that counting and records leave alone -/

section
variable (s : State)

@[simp] theorem State.countEv_mem (a : Nat) (b : Nat) (c : Nat) : (s.countEv a b c).mem = s.mem := by
  change (s.countEv a b c).rest.mem = s.rest.mem; rw [State.countEv_rest]
@[simp] theorem State.countEv_pending (a : Nat) (b : Nat) (c : Nat) : (s.countEv a b c).pending = s.pending := by
  change (s.countEv a b c).rest.pending = s.rest.pending; rw [State.countEv_rest]
@[simp] theorem State.countEv_outbox (a : Nat) (b : Nat) (c : Nat) : (s.countEv a b c).outbox = s.outbox := by
  change (s.countEv a b c).rest.outbox = s.rest.outbox; rw [State.countEv_rest]
@[simp] theorem State.countEv_time (a : Nat) (b : Nat) (c : Nat) : (s.countEv a b c).time = s.time := by
  change (s.countEv a b c).rest.time = s.rest.time; rw [State.countEv_rest]
@[simp] theorem State.countEv_freeCtr (a : Nat) (b : Nat) (c : Nat) : (s.countEv a b c).freeCtr = s.freeCtr := by
  change (s.countEv a b c).rest.freeCtr = s.rest.freeCtr; rw [State.countEv_rest]
@[simp] theorem State.countEv_mode (a : Nat) (b : Nat) (c : Nat) : (s.countEv a b c).mode = s.mode := by
  change (s.countEv a b c).rest.mode = s.rest.mode; rw [State.countEv_rest]
@[simp] theorem State.countEv_power (a : Nat) (b : Nat) (c : Nat) : (s.countEv a b c).power = s.power := by
  change (s.countEv a b c).rest.power = s.rest.power; rw [State.countEv_rest]
@[simp] theorem State.countEv_reply (a : Nat) (b : Nat) (c : Nat) : (s.countEv a b c).reply = s.reply := by
  change (s.countEv a b c).rest.reply = s.rest.reply; rw [State.countEv_rest]
@[simp] theorem State.countEv_hands (a : Nat) (b : Nat) (c : Nat) : (s.countEv a b c).hands = s.hands := by
  change (s.countEv a b c).rest.hands = s.rest.hands; rw [State.countEv_rest]
@[simp] theorem State.countEv_docket (a : Nat) (b : Nat) (c : Nat) : (s.countEv a b c).docket = s.docket := by
  change (s.countEv a b c).rest.docket = s.rest.docket; rw [State.countEv_rest]
@[simp] theorem State.countEv_toll (a : Nat) (b : Nat) (c : Nat) : (s.countEv a b c).toll = s.toll := by
  change (s.countEv a b c).rest.toll = s.rest.toll; rw [State.countEv_rest]
@[simp] theorem State.countEv_pins (a : Nat) (b : Nat) (c : Nat) : (s.countEv a b c).pins = s.pins := by
  change (s.countEv a b c).rest.pins = s.rest.pins; rw [State.countEv_rest]
@[simp] theorem State.countEv_larder (a : Nat) (b : Nat) (c : Nat) : (s.countEv a b c).larder = s.larder := by
  change (s.countEv a b c).rest.larder = s.rest.larder; rw [State.countEv_rest]
@[simp] theorem State.countEv_plan (a : Nat) (b : Nat) (c : Nat) : (s.countEv a b c).plan = s.plan := by
  change (s.countEv a b c).rest.plan = s.rest.plan; rw [State.countEv_rest]
@[simp] theorem State.countEv_press (a : Nat) (b : Nat) (c : Nat) : (s.countEv a b c).press = s.press := by
  change (s.countEv a b c).rest.press = s.rest.press; rw [State.countEv_rest]
@[simp] theorem State.countEv_mill (a : Nat) (b : Nat) (c : Nat) : (s.countEv a b c).mill = s.mill := by
  change (s.countEv a b c).rest.mill = s.rest.mill; rw [State.countEv_rest]
@[simp] theorem State.countEv_assay (a : Nat) (b : Nat) (c : Nat) : (s.countEv a b c).assay = s.assay := by
  change (s.countEv a b c).rest.assay = s.rest.assay; rw [State.countEv_rest]
@[simp] theorem State.countEv_warden (a : Nat) (b : Nat) (c : Nat) : (s.countEv a b c).warden = s.warden := by
  change (s.countEv a b c).rest.warden = s.rest.warden; rw [State.countEv_rest]
@[simp] theorem State.countEv_hold (a : Nat) (b : Nat) (c : Nat) : (s.countEv a b c).hold = s.hold := by
  change (s.countEv a b c).rest.hold = s.rest.hold; rw [State.countEv_rest]
@[simp] theorem State.countEv_mag (a : Nat) (b : Nat) (c : Nat) : (s.countEv a b c).mag = s.mag := by
  change (s.countEv a b c).rest.mag = s.rest.mag; rw [State.countEv_rest]
@[simp] theorem State.countEv_sieve (a : Nat) (b : Nat) (c : Nat) : (s.countEv a b c).sieve = s.sieve := by
  change (s.countEv a b c).rest.sieve = s.rest.sieve; rw [State.countEv_rest]
@[simp] theorem State.countEv_cf (a : Nat) (b : Nat) (c : Nat) : (s.countEv a b c).cf = s.cf := by
  change (s.countEv a b c).rest.cf = s.rest.cf; rw [State.countEv_rest]
@[simp] theorem State.countEv_till (a : Nat) (b : Nat) (c : Nat) : (s.countEv a b c).till = s.till := by
  change (s.countEv a b c).rest.till = s.rest.till; rw [State.countEv_rest]
@[simp] theorem State.countEv_stew (a : Nat) (b : Nat) (c : Nat) : (s.countEv a b c).stew = s.stew := by
  change (s.countEv a b c).rest.stew = s.rest.stew; rw [State.countEv_rest]
@[simp] theorem State.countEv_media (a : Nat) (b : Nat) (c : Nat) : (s.countEv a b c).media = s.media := by
  change (s.countEv a b c).rest.media = s.rest.media; rw [State.countEv_rest]
@[simp] theorem State.countEv_car (a : Nat) (b : Nat) (c : Nat) : (s.countEv a b c).car = s.car := by
  change (s.countEv a b c).rest.car = s.rest.car; rw [State.countEv_rest]
@[simp] theorem State.countEv_pair (a : Nat) (b : Nat) (c : Nat) : (s.countEv a b c).pair = s.pair := by
  change (s.countEv a b c).rest.pair = s.rest.pair; rw [State.countEv_rest]
@[simp] theorem State.countEv_strong (a : Nat) (b : Nat) (c : Nat) : (s.countEv a b c).strong = s.strong := by
  change (s.countEv a b c).rest.strong = s.rest.strong; rw [State.countEv_rest]
@[simp] theorem State.countEv_latches (a : Nat) (b : Nat) (c : Nat) : (s.countEv a b c).latches = s.latches := by
  change (s.countEv a b c).rest.latches = s.rest.latches; rw [State.countEv_rest]

@[simp] theorem State.tick_mem  : (s.tick).mem = s.mem := by
  change (s.tick).rest.mem = s.rest.mem; rw [State.tick_rest]
@[simp] theorem State.tick_pending  : (s.tick).pending = s.pending := by
  change (s.tick).rest.pending = s.rest.pending; rw [State.tick_rest]
@[simp] theorem State.tick_outbox  : (s.tick).outbox = s.outbox := by
  change (s.tick).rest.outbox = s.rest.outbox; rw [State.tick_rest]
@[simp] theorem State.tick_time  : (s.tick).time = s.time := by
  change (s.tick).rest.time = s.rest.time; rw [State.tick_rest]
@[simp] theorem State.tick_freeCtr  : (s.tick).freeCtr = s.freeCtr := by
  change (s.tick).rest.freeCtr = s.rest.freeCtr; rw [State.tick_rest]
@[simp] theorem State.tick_mode  : (s.tick).mode = s.mode := by
  change (s.tick).rest.mode = s.rest.mode; rw [State.tick_rest]
@[simp] theorem State.tick_power  : (s.tick).power = s.power := by
  change (s.tick).rest.power = s.rest.power; rw [State.tick_rest]
@[simp] theorem State.tick_reply  : (s.tick).reply = s.reply := by
  change (s.tick).rest.reply = s.rest.reply; rw [State.tick_rest]
@[simp] theorem State.tick_hands  : (s.tick).hands = s.hands := by
  change (s.tick).rest.hands = s.rest.hands; rw [State.tick_rest]
@[simp] theorem State.tick_docket  : (s.tick).docket = s.docket := by
  change (s.tick).rest.docket = s.rest.docket; rw [State.tick_rest]
@[simp] theorem State.tick_toll  : (s.tick).toll = s.toll := by
  change (s.tick).rest.toll = s.rest.toll; rw [State.tick_rest]
@[simp] theorem State.tick_pins  : (s.tick).pins = s.pins := by
  change (s.tick).rest.pins = s.rest.pins; rw [State.tick_rest]
@[simp] theorem State.tick_larder  : (s.tick).larder = s.larder := by
  change (s.tick).rest.larder = s.rest.larder; rw [State.tick_rest]
@[simp] theorem State.tick_plan  : (s.tick).plan = s.plan := by
  change (s.tick).rest.plan = s.rest.plan; rw [State.tick_rest]
@[simp] theorem State.tick_press  : (s.tick).press = s.press := by
  change (s.tick).rest.press = s.rest.press; rw [State.tick_rest]
@[simp] theorem State.tick_mill  : (s.tick).mill = s.mill := by
  change (s.tick).rest.mill = s.rest.mill; rw [State.tick_rest]
@[simp] theorem State.tick_assay  : (s.tick).assay = s.assay := by
  change (s.tick).rest.assay = s.rest.assay; rw [State.tick_rest]
@[simp] theorem State.tick_warden  : (s.tick).warden = s.warden := by
  change (s.tick).rest.warden = s.rest.warden; rw [State.tick_rest]
@[simp] theorem State.tick_hold  : (s.tick).hold = s.hold := by
  change (s.tick).rest.hold = s.rest.hold; rw [State.tick_rest]
@[simp] theorem State.tick_mag  : (s.tick).mag = s.mag := by
  change (s.tick).rest.mag = s.rest.mag; rw [State.tick_rest]
@[simp] theorem State.tick_sieve  : (s.tick).sieve = s.sieve := by
  change (s.tick).rest.sieve = s.rest.sieve; rw [State.tick_rest]
@[simp] theorem State.tick_cf  : (s.tick).cf = s.cf := by
  change (s.tick).rest.cf = s.rest.cf; rw [State.tick_rest]
@[simp] theorem State.tick_till  : (s.tick).till = s.till := by
  change (s.tick).rest.till = s.rest.till; rw [State.tick_rest]
@[simp] theorem State.tick_stew  : (s.tick).stew = s.stew := by
  change (s.tick).rest.stew = s.rest.stew; rw [State.tick_rest]
@[simp] theorem State.tick_media  : (s.tick).media = s.media := by
  change (s.tick).rest.media = s.rest.media; rw [State.tick_rest]
@[simp] theorem State.tick_car  : (s.tick).car = s.car := by
  change (s.tick).rest.car = s.rest.car; rw [State.tick_rest]
@[simp] theorem State.tick_pair  : (s.tick).pair = s.pair := by
  change (s.tick).rest.pair = s.rest.pair; rw [State.tick_rest]
@[simp] theorem State.tick_strong  : (s.tick).strong = s.strong := by
  change (s.tick).rest.strong = s.rest.strong; rw [State.tick_rest]
@[simp] theorem State.tick_latches  : (s.tick).latches = s.latches := by
  change (s.tick).rest.latches = s.rest.latches; rw [State.tick_rest]

@[simp] theorem State.log_mem (i : Nat) (c : Nat) (st : Status) (det : Nat) (b : List Byte) : (s.log i c st det b).mem = s.mem := by
  change (s.log i c st det b).rest.mem = s.rest.mem; rw [State.log_rest]
@[simp] theorem State.log_pending (i : Nat) (c : Nat) (st : Status) (det : Nat) (b : List Byte) : (s.log i c st det b).pending = s.pending := by
  change (s.log i c st det b).rest.pending = s.rest.pending; rw [State.log_rest]
@[simp] theorem State.log_outbox (i : Nat) (c : Nat) (st : Status) (det : Nat) (b : List Byte) : (s.log i c st det b).outbox = s.outbox := by
  change (s.log i c st det b).rest.outbox = s.rest.outbox; rw [State.log_rest]
@[simp] theorem State.log_time (i : Nat) (c : Nat) (st : Status) (det : Nat) (b : List Byte) : (s.log i c st det b).time = s.time := by
  change (s.log i c st det b).rest.time = s.rest.time; rw [State.log_rest]
@[simp] theorem State.log_freeCtr (i : Nat) (c : Nat) (st : Status) (det : Nat) (b : List Byte) : (s.log i c st det b).freeCtr = s.freeCtr := by
  change (s.log i c st det b).rest.freeCtr = s.rest.freeCtr; rw [State.log_rest]
@[simp] theorem State.log_mode (i : Nat) (c : Nat) (st : Status) (det : Nat) (b : List Byte) : (s.log i c st det b).mode = s.mode := by
  change (s.log i c st det b).rest.mode = s.rest.mode; rw [State.log_rest]
@[simp] theorem State.log_power (i : Nat) (c : Nat) (st : Status) (det : Nat) (b : List Byte) : (s.log i c st det b).power = s.power := by
  change (s.log i c st det b).rest.power = s.rest.power; rw [State.log_rest]
@[simp] theorem State.log_reply (i : Nat) (c : Nat) (st : Status) (det : Nat) (b : List Byte) : (s.log i c st det b).reply = s.reply := by
  change (s.log i c st det b).rest.reply = s.rest.reply; rw [State.log_rest]
@[simp] theorem State.log_hands (i : Nat) (c : Nat) (st : Status) (det : Nat) (b : List Byte) : (s.log i c st det b).hands = s.hands := by
  change (s.log i c st det b).rest.hands = s.rest.hands; rw [State.log_rest]
@[simp] theorem State.log_docket (i : Nat) (c : Nat) (st : Status) (det : Nat) (b : List Byte) : (s.log i c st det b).docket = s.docket := by
  change (s.log i c st det b).rest.docket = s.rest.docket; rw [State.log_rest]
@[simp] theorem State.log_toll (i : Nat) (c : Nat) (st : Status) (det : Nat) (b : List Byte) : (s.log i c st det b).toll = s.toll := by
  change (s.log i c st det b).rest.toll = s.rest.toll; rw [State.log_rest]
@[simp] theorem State.log_pins (i : Nat) (c : Nat) (st : Status) (det : Nat) (b : List Byte) : (s.log i c st det b).pins = s.pins := by
  change (s.log i c st det b).rest.pins = s.rest.pins; rw [State.log_rest]
@[simp] theorem State.log_larder (i : Nat) (c : Nat) (st : Status) (det : Nat) (b : List Byte) : (s.log i c st det b).larder = s.larder := by
  change (s.log i c st det b).rest.larder = s.rest.larder; rw [State.log_rest]
@[simp] theorem State.log_plan (i : Nat) (c : Nat) (st : Status) (det : Nat) (b : List Byte) : (s.log i c st det b).plan = s.plan := by
  change (s.log i c st det b).rest.plan = s.rest.plan; rw [State.log_rest]
@[simp] theorem State.log_press (i : Nat) (c : Nat) (st : Status) (det : Nat) (b : List Byte) : (s.log i c st det b).press = s.press := by
  change (s.log i c st det b).rest.press = s.rest.press; rw [State.log_rest]
@[simp] theorem State.log_mill (i : Nat) (c : Nat) (st : Status) (det : Nat) (b : List Byte) : (s.log i c st det b).mill = s.mill := by
  change (s.log i c st det b).rest.mill = s.rest.mill; rw [State.log_rest]
@[simp] theorem State.log_assay (i : Nat) (c : Nat) (st : Status) (det : Nat) (b : List Byte) : (s.log i c st det b).assay = s.assay := by
  change (s.log i c st det b).rest.assay = s.rest.assay; rw [State.log_rest]
@[simp] theorem State.log_warden (i : Nat) (c : Nat) (st : Status) (det : Nat) (b : List Byte) : (s.log i c st det b).warden = s.warden := by
  change (s.log i c st det b).rest.warden = s.rest.warden; rw [State.log_rest]
@[simp] theorem State.log_hold (i : Nat) (c : Nat) (st : Status) (det : Nat) (b : List Byte) : (s.log i c st det b).hold = s.hold := by
  change (s.log i c st det b).rest.hold = s.rest.hold; rw [State.log_rest]
@[simp] theorem State.log_mag (i : Nat) (c : Nat) (st : Status) (det : Nat) (b : List Byte) : (s.log i c st det b).mag = s.mag := by
  change (s.log i c st det b).rest.mag = s.rest.mag; rw [State.log_rest]
@[simp] theorem State.log_sieve (i : Nat) (c : Nat) (st : Status) (det : Nat) (b : List Byte) : (s.log i c st det b).sieve = s.sieve := by
  change (s.log i c st det b).rest.sieve = s.rest.sieve; rw [State.log_rest]
@[simp] theorem State.log_cf (i : Nat) (c : Nat) (st : Status) (det : Nat) (b : List Byte) : (s.log i c st det b).cf = s.cf := by
  change (s.log i c st det b).rest.cf = s.rest.cf; rw [State.log_rest]
@[simp] theorem State.log_till (i : Nat) (c : Nat) (st : Status) (det : Nat) (b : List Byte) : (s.log i c st det b).till = s.till := by
  change (s.log i c st det b).rest.till = s.rest.till; rw [State.log_rest]
@[simp] theorem State.log_stew (i : Nat) (c : Nat) (st : Status) (det : Nat) (b : List Byte) : (s.log i c st det b).stew = s.stew := by
  change (s.log i c st det b).rest.stew = s.rest.stew; rw [State.log_rest]
@[simp] theorem State.log_media (i : Nat) (c : Nat) (st : Status) (det : Nat) (b : List Byte) : (s.log i c st det b).media = s.media := by
  change (s.log i c st det b).rest.media = s.rest.media; rw [State.log_rest]
@[simp] theorem State.log_car (i : Nat) (c : Nat) (st : Status) (det : Nat) (b : List Byte) : (s.log i c st det b).car = s.car := by
  change (s.log i c st det b).rest.car = s.rest.car; rw [State.log_rest]
@[simp] theorem State.log_pair (i : Nat) (c : Nat) (st : Status) (det : Nat) (b : List Byte) : (s.log i c st det b).pair = s.pair := by
  change (s.log i c st det b).rest.pair = s.rest.pair; rw [State.log_rest]
@[simp] theorem State.log_strong (i : Nat) (c : Nat) (st : Status) (det : Nat) (b : List Byte) : (s.log i c st det b).strong = s.strong := by
  change (s.log i c st det b).rest.strong = s.rest.strong; rw [State.log_rest]
@[simp] theorem State.log_latches (i : Nat) (c : Nat) (st : Status) (det : Nat) (b : List Byte) : (s.log i c st det b).latches = s.latches := by
  change (s.log i c st det b).rest.latches = s.rest.latches; rw [State.log_rest]

@[simp] theorem State.trace_mem (i : Nat) (c : Nat) (st : Status) (det : Nat) (b : List Byte) : (s.trace i c st det b).mem = s.mem := by
  change (s.trace i c st det b).rest.mem = s.rest.mem; rw [State.trace_rest]
@[simp] theorem State.trace_pending (i : Nat) (c : Nat) (st : Status) (det : Nat) (b : List Byte) : (s.trace i c st det b).pending = s.pending := by
  change (s.trace i c st det b).rest.pending = s.rest.pending; rw [State.trace_rest]
@[simp] theorem State.trace_outbox (i : Nat) (c : Nat) (st : Status) (det : Nat) (b : List Byte) : (s.trace i c st det b).outbox = s.outbox := by
  change (s.trace i c st det b).rest.outbox = s.rest.outbox; rw [State.trace_rest]
@[simp] theorem State.trace_time (i : Nat) (c : Nat) (st : Status) (det : Nat) (b : List Byte) : (s.trace i c st det b).time = s.time := by
  change (s.trace i c st det b).rest.time = s.rest.time; rw [State.trace_rest]
@[simp] theorem State.trace_freeCtr (i : Nat) (c : Nat) (st : Status) (det : Nat) (b : List Byte) : (s.trace i c st det b).freeCtr = s.freeCtr := by
  change (s.trace i c st det b).rest.freeCtr = s.rest.freeCtr; rw [State.trace_rest]
@[simp] theorem State.trace_mode (i : Nat) (c : Nat) (st : Status) (det : Nat) (b : List Byte) : (s.trace i c st det b).mode = s.mode := by
  change (s.trace i c st det b).rest.mode = s.rest.mode; rw [State.trace_rest]
@[simp] theorem State.trace_power (i : Nat) (c : Nat) (st : Status) (det : Nat) (b : List Byte) : (s.trace i c st det b).power = s.power := by
  change (s.trace i c st det b).rest.power = s.rest.power; rw [State.trace_rest]
@[simp] theorem State.trace_reply (i : Nat) (c : Nat) (st : Status) (det : Nat) (b : List Byte) : (s.trace i c st det b).reply = s.reply := by
  change (s.trace i c st det b).rest.reply = s.rest.reply; rw [State.trace_rest]
@[simp] theorem State.trace_hands (i : Nat) (c : Nat) (st : Status) (det : Nat) (b : List Byte) : (s.trace i c st det b).hands = s.hands := by
  change (s.trace i c st det b).rest.hands = s.rest.hands; rw [State.trace_rest]
@[simp] theorem State.trace_docket (i : Nat) (c : Nat) (st : Status) (det : Nat) (b : List Byte) : (s.trace i c st det b).docket = s.docket := by
  change (s.trace i c st det b).rest.docket = s.rest.docket; rw [State.trace_rest]
@[simp] theorem State.trace_toll (i : Nat) (c : Nat) (st : Status) (det : Nat) (b : List Byte) : (s.trace i c st det b).toll = s.toll := by
  change (s.trace i c st det b).rest.toll = s.rest.toll; rw [State.trace_rest]
@[simp] theorem State.trace_pins (i : Nat) (c : Nat) (st : Status) (det : Nat) (b : List Byte) : (s.trace i c st det b).pins = s.pins := by
  change (s.trace i c st det b).rest.pins = s.rest.pins; rw [State.trace_rest]
@[simp] theorem State.trace_larder (i : Nat) (c : Nat) (st : Status) (det : Nat) (b : List Byte) : (s.trace i c st det b).larder = s.larder := by
  change (s.trace i c st det b).rest.larder = s.rest.larder; rw [State.trace_rest]
@[simp] theorem State.trace_plan (i : Nat) (c : Nat) (st : Status) (det : Nat) (b : List Byte) : (s.trace i c st det b).plan = s.plan := by
  change (s.trace i c st det b).rest.plan = s.rest.plan; rw [State.trace_rest]
@[simp] theorem State.trace_press (i : Nat) (c : Nat) (st : Status) (det : Nat) (b : List Byte) : (s.trace i c st det b).press = s.press := by
  change (s.trace i c st det b).rest.press = s.rest.press; rw [State.trace_rest]
@[simp] theorem State.trace_mill (i : Nat) (c : Nat) (st : Status) (det : Nat) (b : List Byte) : (s.trace i c st det b).mill = s.mill := by
  change (s.trace i c st det b).rest.mill = s.rest.mill; rw [State.trace_rest]
@[simp] theorem State.trace_assay (i : Nat) (c : Nat) (st : Status) (det : Nat) (b : List Byte) : (s.trace i c st det b).assay = s.assay := by
  change (s.trace i c st det b).rest.assay = s.rest.assay; rw [State.trace_rest]
@[simp] theorem State.trace_warden (i : Nat) (c : Nat) (st : Status) (det : Nat) (b : List Byte) : (s.trace i c st det b).warden = s.warden := by
  change (s.trace i c st det b).rest.warden = s.rest.warden; rw [State.trace_rest]
@[simp] theorem State.trace_hold (i : Nat) (c : Nat) (st : Status) (det : Nat) (b : List Byte) : (s.trace i c st det b).hold = s.hold := by
  change (s.trace i c st det b).rest.hold = s.rest.hold; rw [State.trace_rest]
@[simp] theorem State.trace_mag (i : Nat) (c : Nat) (st : Status) (det : Nat) (b : List Byte) : (s.trace i c st det b).mag = s.mag := by
  change (s.trace i c st det b).rest.mag = s.rest.mag; rw [State.trace_rest]
@[simp] theorem State.trace_sieve (i : Nat) (c : Nat) (st : Status) (det : Nat) (b : List Byte) : (s.trace i c st det b).sieve = s.sieve := by
  change (s.trace i c st det b).rest.sieve = s.rest.sieve; rw [State.trace_rest]
@[simp] theorem State.trace_cf (i : Nat) (c : Nat) (st : Status) (det : Nat) (b : List Byte) : (s.trace i c st det b).cf = s.cf := by
  change (s.trace i c st det b).rest.cf = s.rest.cf; rw [State.trace_rest]
@[simp] theorem State.trace_till (i : Nat) (c : Nat) (st : Status) (det : Nat) (b : List Byte) : (s.trace i c st det b).till = s.till := by
  change (s.trace i c st det b).rest.till = s.rest.till; rw [State.trace_rest]
@[simp] theorem State.trace_stew (i : Nat) (c : Nat) (st : Status) (det : Nat) (b : List Byte) : (s.trace i c st det b).stew = s.stew := by
  change (s.trace i c st det b).rest.stew = s.rest.stew; rw [State.trace_rest]
@[simp] theorem State.trace_media (i : Nat) (c : Nat) (st : Status) (det : Nat) (b : List Byte) : (s.trace i c st det b).media = s.media := by
  change (s.trace i c st det b).rest.media = s.rest.media; rw [State.trace_rest]
@[simp] theorem State.trace_car (i : Nat) (c : Nat) (st : Status) (det : Nat) (b : List Byte) : (s.trace i c st det b).car = s.car := by
  change (s.trace i c st det b).rest.car = s.rest.car; rw [State.trace_rest]
@[simp] theorem State.trace_pair (i : Nat) (c : Nat) (st : Status) (det : Nat) (b : List Byte) : (s.trace i c st det b).pair = s.pair := by
  change (s.trace i c st det b).rest.pair = s.rest.pair; rw [State.trace_rest]
@[simp] theorem State.trace_strong (i : Nat) (c : Nat) (st : Status) (det : Nat) (b : List Byte) : (s.trace i c st det b).strong = s.strong := by
  change (s.trace i c st det b).rest.strong = s.rest.strong; rw [State.trace_rest]
@[simp] theorem State.trace_latches (i : Nat) (c : Nat) (st : Status) (det : Nat) (b : List Byte) : (s.trace i c st det b).latches = s.latches := by
  change (s.trace i c st det b).rest.latches = s.rest.latches; rw [State.trace_rest]

@[simp] theorem State.alarm_mem (i : Nat) (c : Nat) (st : Status) (det : Nat) (b : List Byte) : (s.alarm i c st det b).mem = s.mem := by
  change (s.alarm i c st det b).rest.mem = s.rest.mem; rw [State.alarm_rest]
@[simp] theorem State.alarm_pending (i : Nat) (c : Nat) (st : Status) (det : Nat) (b : List Byte) : (s.alarm i c st det b).pending = s.pending := by
  change (s.alarm i c st det b).rest.pending = s.rest.pending; rw [State.alarm_rest]
@[simp] theorem State.alarm_outbox (i : Nat) (c : Nat) (st : Status) (det : Nat) (b : List Byte) : (s.alarm i c st det b).outbox = s.outbox := by
  change (s.alarm i c st det b).rest.outbox = s.rest.outbox; rw [State.alarm_rest]
@[simp] theorem State.alarm_time (i : Nat) (c : Nat) (st : Status) (det : Nat) (b : List Byte) : (s.alarm i c st det b).time = s.time := by
  change (s.alarm i c st det b).rest.time = s.rest.time; rw [State.alarm_rest]
@[simp] theorem State.alarm_freeCtr (i : Nat) (c : Nat) (st : Status) (det : Nat) (b : List Byte) : (s.alarm i c st det b).freeCtr = s.freeCtr := by
  change (s.alarm i c st det b).rest.freeCtr = s.rest.freeCtr; rw [State.alarm_rest]
@[simp] theorem State.alarm_mode (i : Nat) (c : Nat) (st : Status) (det : Nat) (b : List Byte) : (s.alarm i c st det b).mode = s.mode := by
  change (s.alarm i c st det b).rest.mode = s.rest.mode; rw [State.alarm_rest]
@[simp] theorem State.alarm_power (i : Nat) (c : Nat) (st : Status) (det : Nat) (b : List Byte) : (s.alarm i c st det b).power = s.power := by
  change (s.alarm i c st det b).rest.power = s.rest.power; rw [State.alarm_rest]
@[simp] theorem State.alarm_reply (i : Nat) (c : Nat) (st : Status) (det : Nat) (b : List Byte) : (s.alarm i c st det b).reply = s.reply := by
  change (s.alarm i c st det b).rest.reply = s.rest.reply; rw [State.alarm_rest]
@[simp] theorem State.alarm_hands (i : Nat) (c : Nat) (st : Status) (det : Nat) (b : List Byte) : (s.alarm i c st det b).hands = s.hands := by
  change (s.alarm i c st det b).rest.hands = s.rest.hands; rw [State.alarm_rest]
@[simp] theorem State.alarm_docket (i : Nat) (c : Nat) (st : Status) (det : Nat) (b : List Byte) : (s.alarm i c st det b).docket = s.docket := by
  change (s.alarm i c st det b).rest.docket = s.rest.docket; rw [State.alarm_rest]
@[simp] theorem State.alarm_toll (i : Nat) (c : Nat) (st : Status) (det : Nat) (b : List Byte) : (s.alarm i c st det b).toll = s.toll := by
  change (s.alarm i c st det b).rest.toll = s.rest.toll; rw [State.alarm_rest]
@[simp] theorem State.alarm_larder (i : Nat) (c : Nat) (st : Status) (det : Nat) (b : List Byte) : (s.alarm i c st det b).larder = s.larder := by
  change (s.alarm i c st det b).rest.larder = s.rest.larder; rw [State.alarm_rest]
@[simp] theorem State.alarm_plan (i : Nat) (c : Nat) (st : Status) (det : Nat) (b : List Byte) : (s.alarm i c st det b).plan = s.plan := by
  change (s.alarm i c st det b).rest.plan = s.rest.plan; rw [State.alarm_rest]
@[simp] theorem State.alarm_press (i : Nat) (c : Nat) (st : Status) (det : Nat) (b : List Byte) : (s.alarm i c st det b).press = s.press := by
  change (s.alarm i c st det b).rest.press = s.rest.press; rw [State.alarm_rest]
@[simp] theorem State.alarm_mill (i : Nat) (c : Nat) (st : Status) (det : Nat) (b : List Byte) : (s.alarm i c st det b).mill = s.mill := by
  change (s.alarm i c st det b).rest.mill = s.rest.mill; rw [State.alarm_rest]
@[simp] theorem State.alarm_assay (i : Nat) (c : Nat) (st : Status) (det : Nat) (b : List Byte) : (s.alarm i c st det b).assay = s.assay := by
  change (s.alarm i c st det b).rest.assay = s.rest.assay; rw [State.alarm_rest]
@[simp] theorem State.alarm_warden (i : Nat) (c : Nat) (st : Status) (det : Nat) (b : List Byte) : (s.alarm i c st det b).warden = s.warden := by
  change (s.alarm i c st det b).rest.warden = s.rest.warden; rw [State.alarm_rest]
@[simp] theorem State.alarm_hold (i : Nat) (c : Nat) (st : Status) (det : Nat) (b : List Byte) : (s.alarm i c st det b).hold = s.hold := by
  change (s.alarm i c st det b).rest.hold = s.rest.hold; rw [State.alarm_rest]
@[simp] theorem State.alarm_mag (i : Nat) (c : Nat) (st : Status) (det : Nat) (b : List Byte) : (s.alarm i c st det b).mag = s.mag := by
  change (s.alarm i c st det b).rest.mag = s.rest.mag; rw [State.alarm_rest]
@[simp] theorem State.alarm_sieve (i : Nat) (c : Nat) (st : Status) (det : Nat) (b : List Byte) : (s.alarm i c st det b).sieve = s.sieve := by
  change (s.alarm i c st det b).rest.sieve = s.rest.sieve; rw [State.alarm_rest]
@[simp] theorem State.alarm_cf (i : Nat) (c : Nat) (st : Status) (det : Nat) (b : List Byte) : (s.alarm i c st det b).cf = s.cf := by
  change (s.alarm i c st det b).rest.cf = s.rest.cf; rw [State.alarm_rest]
@[simp] theorem State.alarm_till (i : Nat) (c : Nat) (st : Status) (det : Nat) (b : List Byte) : (s.alarm i c st det b).till = s.till := by
  change (s.alarm i c st det b).rest.till = s.rest.till; rw [State.alarm_rest]
@[simp] theorem State.alarm_stew (i : Nat) (c : Nat) (st : Status) (det : Nat) (b : List Byte) : (s.alarm i c st det b).stew = s.stew := by
  change (s.alarm i c st det b).rest.stew = s.rest.stew; rw [State.alarm_rest]
@[simp] theorem State.alarm_media (i : Nat) (c : Nat) (st : Status) (det : Nat) (b : List Byte) : (s.alarm i c st det b).media = s.media := by
  change (s.alarm i c st det b).rest.media = s.rest.media; rw [State.alarm_rest]
@[simp] theorem State.alarm_car (i : Nat) (c : Nat) (st : Status) (det : Nat) (b : List Byte) : (s.alarm i c st det b).car = s.car := by
  change (s.alarm i c st det b).rest.car = s.rest.car; rw [State.alarm_rest]
@[simp] theorem State.alarm_pair (i : Nat) (c : Nat) (st : Status) (det : Nat) (b : List Byte) : (s.alarm i c st det b).pair = s.pair := by
  change (s.alarm i c st det b).rest.pair = s.rest.pair; rw [State.alarm_rest]
@[simp] theorem State.alarm_strong (i : Nat) (c : Nat) (st : Status) (det : Nat) (b : List Byte) : (s.alarm i c st det b).strong = s.strong := by
  change (s.alarm i c st det b).rest.strong = s.rest.strong; rw [State.alarm_rest]
@[simp] theorem State.alarm_latches (i : Nat) (c : Nat) (st : Status) (det : Nat) (b : List Byte) : (s.alarm i c st det b).latches = s.latches := by
  change (s.alarm i c st det b).rest.latches = s.rest.latches; rw [State.alarm_rest]

@[simp] theorem State.regEvent_mem (blk : Nat) (code : Nat) (det : Nat) (b : List Byte) : (s.regEvent blk code det b).mem = s.mem := by
  change (s.regEvent blk code det b).rest.mem = s.rest.mem; rw [State.regEvent_rest]
@[simp] theorem State.regEvent_pending (blk : Nat) (code : Nat) (det : Nat) (b : List Byte) : (s.regEvent blk code det b).pending = s.pending := by
  change (s.regEvent blk code det b).rest.pending = s.rest.pending; rw [State.regEvent_rest]
@[simp] theorem State.regEvent_outbox (blk : Nat) (code : Nat) (det : Nat) (b : List Byte) : (s.regEvent blk code det b).outbox = s.outbox := by
  change (s.regEvent blk code det b).rest.outbox = s.rest.outbox; rw [State.regEvent_rest]
@[simp] theorem State.regEvent_time (blk : Nat) (code : Nat) (det : Nat) (b : List Byte) : (s.regEvent blk code det b).time = s.time := by
  change (s.regEvent blk code det b).rest.time = s.rest.time; rw [State.regEvent_rest]
@[simp] theorem State.regEvent_freeCtr (blk : Nat) (code : Nat) (det : Nat) (b : List Byte) : (s.regEvent blk code det b).freeCtr = s.freeCtr := by
  change (s.regEvent blk code det b).rest.freeCtr = s.rest.freeCtr; rw [State.regEvent_rest]
@[simp] theorem State.regEvent_mode (blk : Nat) (code : Nat) (det : Nat) (b : List Byte) : (s.regEvent blk code det b).mode = s.mode := by
  change (s.regEvent blk code det b).rest.mode = s.rest.mode; rw [State.regEvent_rest]
@[simp] theorem State.regEvent_power (blk : Nat) (code : Nat) (det : Nat) (b : List Byte) : (s.regEvent blk code det b).power = s.power := by
  change (s.regEvent blk code det b).rest.power = s.rest.power; rw [State.regEvent_rest]
@[simp] theorem State.regEvent_reply (blk : Nat) (code : Nat) (det : Nat) (b : List Byte) : (s.regEvent blk code det b).reply = s.reply := by
  change (s.regEvent blk code det b).rest.reply = s.rest.reply; rw [State.regEvent_rest]
@[simp] theorem State.regEvent_hands (blk : Nat) (code : Nat) (det : Nat) (b : List Byte) : (s.regEvent blk code det b).hands = s.hands := by
  change (s.regEvent blk code det b).rest.hands = s.rest.hands; rw [State.regEvent_rest]
@[simp] theorem State.regEvent_docket (blk : Nat) (code : Nat) (det : Nat) (b : List Byte) : (s.regEvent blk code det b).docket = s.docket := by
  change (s.regEvent blk code det b).rest.docket = s.rest.docket; rw [State.regEvent_rest]
@[simp] theorem State.regEvent_toll (blk : Nat) (code : Nat) (det : Nat) (b : List Byte) : (s.regEvent blk code det b).toll = s.toll := by
  change (s.regEvent blk code det b).rest.toll = s.rest.toll; rw [State.regEvent_rest]
@[simp] theorem State.regEvent_pins (blk : Nat) (code : Nat) (det : Nat) (b : List Byte) : (s.regEvent blk code det b).pins = s.pins := by
  change (s.regEvent blk code det b).rest.pins = s.rest.pins; rw [State.regEvent_rest]
@[simp] theorem State.regEvent_larder (blk : Nat) (code : Nat) (det : Nat) (b : List Byte) : (s.regEvent blk code det b).larder = s.larder := by
  change (s.regEvent blk code det b).rest.larder = s.rest.larder; rw [State.regEvent_rest]
@[simp] theorem State.regEvent_plan (blk : Nat) (code : Nat) (det : Nat) (b : List Byte) : (s.regEvent blk code det b).plan = s.plan := by
  change (s.regEvent blk code det b).rest.plan = s.rest.plan; rw [State.regEvent_rest]
@[simp] theorem State.regEvent_press (blk : Nat) (code : Nat) (det : Nat) (b : List Byte) : (s.regEvent blk code det b).press = s.press := by
  change (s.regEvent blk code det b).rest.press = s.rest.press; rw [State.regEvent_rest]
@[simp] theorem State.regEvent_mill (blk : Nat) (code : Nat) (det : Nat) (b : List Byte) : (s.regEvent blk code det b).mill = s.mill := by
  change (s.regEvent blk code det b).rest.mill = s.rest.mill; rw [State.regEvent_rest]
@[simp] theorem State.regEvent_assay (blk : Nat) (code : Nat) (det : Nat) (b : List Byte) : (s.regEvent blk code det b).assay = s.assay := by
  change (s.regEvent blk code det b).rest.assay = s.rest.assay; rw [State.regEvent_rest]
@[simp] theorem State.regEvent_warden (blk : Nat) (code : Nat) (det : Nat) (b : List Byte) : (s.regEvent blk code det b).warden = s.warden := by
  change (s.regEvent blk code det b).rest.warden = s.rest.warden; rw [State.regEvent_rest]
@[simp] theorem State.regEvent_hold (blk : Nat) (code : Nat) (det : Nat) (b : List Byte) : (s.regEvent blk code det b).hold = s.hold := by
  change (s.regEvent blk code det b).rest.hold = s.rest.hold; rw [State.regEvent_rest]
@[simp] theorem State.regEvent_mag (blk : Nat) (code : Nat) (det : Nat) (b : List Byte) : (s.regEvent blk code det b).mag = s.mag := by
  change (s.regEvent blk code det b).rest.mag = s.rest.mag; rw [State.regEvent_rest]
@[simp] theorem State.regEvent_sieve (blk : Nat) (code : Nat) (det : Nat) (b : List Byte) : (s.regEvent blk code det b).sieve = s.sieve := by
  change (s.regEvent blk code det b).rest.sieve = s.rest.sieve; rw [State.regEvent_rest]
@[simp] theorem State.regEvent_cf (blk : Nat) (code : Nat) (det : Nat) (b : List Byte) : (s.regEvent blk code det b).cf = s.cf := by
  change (s.regEvent blk code det b).rest.cf = s.rest.cf; rw [State.regEvent_rest]
@[simp] theorem State.regEvent_till (blk : Nat) (code : Nat) (det : Nat) (b : List Byte) : (s.regEvent blk code det b).till = s.till := by
  change (s.regEvent blk code det b).rest.till = s.rest.till; rw [State.regEvent_rest]
@[simp] theorem State.regEvent_stew (blk : Nat) (code : Nat) (det : Nat) (b : List Byte) : (s.regEvent blk code det b).stew = s.stew := by
  change (s.regEvent blk code det b).rest.stew = s.rest.stew; rw [State.regEvent_rest]
@[simp] theorem State.regEvent_media (blk : Nat) (code : Nat) (det : Nat) (b : List Byte) : (s.regEvent blk code det b).media = s.media := by
  change (s.regEvent blk code det b).rest.media = s.rest.media; rw [State.regEvent_rest]
@[simp] theorem State.regEvent_car (blk : Nat) (code : Nat) (det : Nat) (b : List Byte) : (s.regEvent blk code det b).car = s.car := by
  change (s.regEvent blk code det b).rest.car = s.rest.car; rw [State.regEvent_rest]
@[simp] theorem State.regEvent_pair (blk : Nat) (code : Nat) (det : Nat) (b : List Byte) : (s.regEvent blk code det b).pair = s.pair := by
  change (s.regEvent blk code det b).rest.pair = s.rest.pair; rw [State.regEvent_rest]
@[simp] theorem State.regEvent_strong (blk : Nat) (code : Nat) (det : Nat) (b : List Byte) : (s.regEvent blk code det b).strong = s.strong := by
  change (s.regEvent blk code det b).rest.strong = s.rest.strong; rw [State.regEvent_rest]
@[simp] theorem State.regEvent_latches (blk : Nat) (code : Nat) (det : Nat) (b : List Byte) : (s.regEvent blk code det b).latches = s.latches := by
  change (s.regEvent blk code det b).rest.latches = s.rest.latches; rw [State.regEvent_rest]

end

end Sys2Proof.Machine
end

