-- ==== Sys2Proof/Machine/Pinout.lean ====
section
/-! DEFINITION. The module's lands: their names and places (R509 to R512), direction and level (R513), what each output shows (R514),
and the limits and operating ranges (R516 to R518, R520, R521). No command reads these but through the signals. -/
namespace Sys2Proof.Machine

/-! ### Names and places (R509 to R512) -/

/-- The letters of a row's name, in order (R509). -/
def rowLetters : List Char := "ABCDEFGHJKLMNPTUVWY".toList

/-- The name of the row of index r, 1 to 63 (R509). -/
def rowName (r : Nat) : String :=
  let c (k : Nat) : Char := rowLetters.getD k '?'
  if r ≤ 19 then String.ofList [c (r - 1)] else String.ofList [c ((r - 20) / 19), c ((r - 20) % 19)]

/-- The low-speed row that holds site k, counted from 58, and the first site of that row (R512). -/
def lowFirst (r : Nat) : Nat := [0, 32, 63, 95, 126, 158].getD (r - 58) 0

/-- What a land is (R510): a leg of a pair site, a low-speed site, or supply. -/
inductive LandClass where
  | pair (site : Nat) (neg : Bool)
  | low (site : Nat)
  | vin | hold | gnd
  deriving DecidableEq, Repr

/-- The class of the land in row r and column c, each 1 to 63 (R510 to R512). -/
def landClass (r c : Nat) : LandClass :=
  if r ≤ 18 then
    if r % 2 = 1 ∧ c % 3 ≠ 0 then .pair (21 * (r / 2) + (c - 1) / 3) (c % 3 = 2) else .gnd
  else if r ≤ 57 then
    if 47 ≤ r ∧ r ≤ 50 ∧ c ≤ 8 then .vin
    else if 47 ≤ r ∧ r ≤ 49 ∧ 56 ≤ c then .hold
    else .gnd
  else if (r + c) % 2 = 1 then .low (lowFirst r + (c - 1) / 2)
  else .gnd

/-- The signals of the lands (R511 to R513). A pair is named by its lane; a sled, a magazine port or a bus by its number. -/
inductive Signal where
  | sledTx (lane : Nat) | sledRx (lane : Nat) | fabTx (lane : Nat) | fabRx (lane : Nat) | cfTx (lane : Nat) | cfRx (lane : Nat)
  | magTx (lane : Nat) | magRx (lane : Nat) | cmTx | cmRx | refclkA | refclkB | refclkC
  | sledPwren (n : Nat) | sledPerst (n : Nat) | led (n : Nat) | smbScl (n : Nat) | smbSda (n : Nat) | smbAlert (n : Nat)
  | fenceOut | fenceIn | spiSck | spiCs | spiMosi | spiMiso | modReset | pgOut | headSlot
  | xtalIn | xtalOut | rtcxIn | rtcxOut | vref33 | vref18 | holdSense | test (n : Nat) | reserved
  deriving DecidableEq, Repr

/-- The signal of a pair site (R511). -/
def pairSignal (s : Nat) : Signal :=
  let two (base : Nat) (tx rx : Nat → Signal) : Signal := if (s - base) % 2 = 0 then tx ((s - base) / 2) else rx ((s - base) / 2)
  if s < 96 then two 0 .sledTx .sledRx
  else if s < 128 then two 96 .fabTx .fabRx
  else if s < 144 then two 128 .cfTx .cfRx
  else if s < 176 then two 144 .magTx .magRx
  else match s with
    | 176 => .cmTx | 177 => .cmRx | 178 => .refclkA | 179 => .refclkB | 180 => .refclkC
    | _ => .reserved

/-- The signal of a low-speed site (R512). -/
def lowSignal (k : Nat) : Signal :=
  if k < 24 then .sledPwren k
  else if k < 48 then .sledPerst (k - 24)
  else if k < 80 then .led (k - 48)
  else if k < 84 then .smbScl (k - 80)
  else if k < 88 then .smbSda (k - 84)
  else if k < 92 then .smbAlert (k - 88)
  else match k with
    | 92 => .fenceOut | 93 => .fenceIn | 94 => .spiSck | 95 => .spiCs | 96 => .spiMosi | 97 => .spiMiso
    | 98 => .modReset | 99 => .pgOut | 100 => .headSlot | 101 => .xtalIn | 102 => .xtalOut | 103 => .rtcxIn | 104 => .rtcxOut
    | 105 => .vref33 | 106 => .vref18 | 107 => .holdSense | 108 => .test 0 | 109 => .test 1 | 110 => .test 2 | 111 => .test 3
    | _ => .reserved

/-- The signal of a land that carries one. -/
def landSignal (r c : Nat) : Option Signal :=
  match landClass r c with
  | .pair s _ => some (pairSignal s)
  | .low k => some (lowSignal k)
  | _ => none

/-! ### Direction and level (R513), and what each output shows (R514) -/

/-- The bank, and so the level, of a signal (R513): a serial pair or clock, 3.3 V, 1.8 V, a crystal, analog, or none. -/
inductive Bank where
  | serdes | v33 | v18 | crystal | analog | none
  deriving DecidableEq, Repr

/-- The direction of a signal as the module sees it (R513). -/
inductive Dir where
  | out | inp | both | none
  deriving DecidableEq, Repr

/-- Direction, level and whether the input is fail-safe (R513). -/
def Signal.kind : Signal → Dir × Bank × Bool
  | .sledTx _ | .fabTx _ | .cfTx _ | .magTx _ | .cmTx => (.out, .serdes, false)
  | .sledRx _ | .fabRx _ | .cfRx _ | .magRx _ | .cmRx | .refclkA | .refclkB | .refclkC => (.inp, .serdes, false)
  | .sledPwren _ | .sledPerst _ | .led _ | .fenceOut | .vref33 => (.out, .v33, false)
  | .smbScl _ | .smbSda _ => (.both, .v33, true)
  | .smbAlert _ | .fenceIn => (.inp, .v33, true)
  | .spiSck | .spiCs | .spiMosi | .modReset | .headSlot => (.inp, .v18, true)
  | .spiMiso | .pgOut | .vref18 => (.out, .v18, false)
  | .xtalIn | .rtcxIn => (.inp, .crystal, false)
  | .xtalOut | .rtcxOut => (.out, .crystal, false)
  | .holdSense => (.inp, .analog, false)
  | .test _ | .reserved => (.none, .none, false)

/-- What an output land shows: a level, high impedance, or an answer bit by bit. A blinking LED line is named by its Led. -/
inductive Shows where
  | low | high | highZ | answers | absent
  | led (l : Led)
  deriving DecidableEq, Repr

/-- Whether the two reference outputs are present (R514): from tv + 2 ms while VIN is in range, and until the converter stops. -/
def State.vrefPresent (s : State) : Bool := s.power ≠ .off

/-- What a board-facing output shows now (R514, R515). -/
def State.landShows (s : State) (x : Signal) : Option Shows :=
  let lvl (b : Bool) : Option Shows := some (if b then .high else .low)
  let l := s.landsShown
  match x with
  | .sledPwren n => lvl (l.pwren.testBit n)
  | .sledPerst n => lvl (!l.perst.testBit n)
  | .fenceOut => lvl s.pins.fenceOut
  | .led n => some (match l.leds.getD n .dark with | .dark => .highZ | x => .led x)
  | .spiMiso => some (if s.pins.misoAnswers then .answers else .highZ)
  | .pgOut => lvl s.pins.pgOut
  | .vref33 | .vref18 => some (if s.vrefPresent then .high else .absent)
  | _ => none

/-! ### Ratings and ranges (R516 to R521): minimum and maximum, in mV, mA, mJ, tenths of a degree, ns and so on -/

/-- One limit: what it bounds, its unit, and its bounds where it has them. -/
structure Limit where
  item : String
  unit : String
  lo : Option Int
  hi : Option Int
  deriving DecidableEq, Repr

/-- Absolute maximum ratings (R516). -/
def absoluteMaximum : List Limit :=
  [⟨"VIN to GND", "mV", some (-300), some 22000⟩, ⟨"HOLD and HOLD_SENSE to GND", "mV", some (-300), some 17000⟩,
   ⟨"3.3 V bank lands", "mV", some (-300), some 3600⟩, ⟨"1.8 V bank lands, XTAL_IN, RTCX_IN", "mV", some (-300), some 2000⟩,
   ⟨"serdes and REFCLK lands", "mV", some (-300), some 1200⟩, ⟨"serdes and REFCLK lands, differential peak to peak", "mV", none, some 1600⟩,
   ⟨"current per VIN or HOLD land", "mA", none, some 1000⟩, ⟨"energy of the bank at connection", "mJ", none, some 1000⟩,
   ⟨"storage temperature", "0.1 C", some (-650), some 1500⟩, ⟨"ESD human body, serdes and REFCLK", "V", none, some 1000⟩,
   ⟨"ESD human body, others", "V", none, some 2000⟩, ⟨"ESD charged device", "V", none, some 250⟩]

/-- Operating conditions (R517). -/
def operatingRange : List Limit :=
  [⟨"VIN", "mV", some 4500, some 18000⟩, ⟨"VIN ripple", "0.1 %", none, some 20⟩, ⟨"VIN slew", "V/ms", none, some 10⟩,
   ⟨"VIN source at 10.8 V", "mA", some 16000, none⟩, ⟨"VIN source below 10.8 V", "mA", some 11000, none⟩,
   ⟨"bank capacitance", "0.1 mF", some 200, some 2000⟩, ⟨"bank rated voltage", "mV", some 16800, none⟩,
   ⟨"bank leakage at 16.0 V", "uA", none, some 1000⟩, ⟨"case temperature", "0.1 C", some (-550), some 1250⟩]

/-- DC characteristics of a low-speed bank (R518): VIH and VOH least, VIL and VOL most, hysteresis least, in mV. -/
structure DcBank where
  vih : Nat
  vil : Nat
  hysteresis : Nat
  voh : Nat
  vol : Nat
  leakUa : Nat
  inputPf : Nat
  deriving DecidableEq, Repr

/-- The two banks (R518). -/
def dcBank : Bank → Option DcBank
  | .v33 => some ⟨2000, 800, 150, 2900, 400, 10, 5⟩
  | .v18 => some ⟨1200, 600, 100, 1400, 400, 10, 5⟩
  | _ => none

/-- A logic level at an input of a bank (R518): low, high, or neither is promised. -/
def inputLevel (b : Bank) (mv : Nat) : Option Bool :=
  match dcBank b with
  | some d => if d.vih ≤ mv then some true else if mv ≤ d.vil then some false else none
  | none => none

/-- Reference clocks: nominal frequency in tenths of a Hz and tolerance in ppm (R520). -/
def refClock : Signal → Option (Nat × Nat)
  | .refclkA => some (1000000000, 300)
  | .refclkB => some (1562500000, 50)
  | .refclkC => some (1611328125, 50)
  | .xtalIn => some (250000000, 50)
  | .rtcxIn => some (327680, 20)
  | _ => none

/-- Timing of the SPI target (R521), in ns but for the clock's frequency. -/
def spiTiming : List Limit :=
  [⟨"SPI_SCK frequency", "MHz", none, some 50⟩, ⟨"SPI_SCK high and low", "ns", some 9, none⟩,
   ⟨"SPI_CS_N low to first rising SPI_SCK", "ns", some 10, none⟩, ⟨"last falling SPI_SCK to SPI_CS_N high", "ns", some 10, none⟩,
   ⟨"SPI_CS_N high between transactions", "ns", some 40, none⟩, ⟨"SPI_MOSI setup", "ns", some 3, none⟩,
   ⟨"SPI_MOSI hold", "ns", some 3, none⟩, ⟨"SPI_MISO valid after falling SPI_SCK", "ns", none, some 7⟩,
   ⟨"SPI_MISO high impedance after SPI_CS_N high", "ns", none, some 10⟩]

/-- Whether a value lies within a limit. -/
def Limit.holds (l : Limit) (x : Int) : Bool :=
  (match l.lo with | some a => decide (a ≤ x) | none => true) && (match l.hi with | some b => decide (x ≤ b) | none => true)

end Sys2Proof.Machine
end

