-- ==== Sys2Proof/WellFormed.lean ====
section
/-! DEFINITION. Well-formed commands: every number that names an engine, a context or a unit is in the range
the spec gives it. A command outside is no command of the head; its meaning takes the number modulo its
width or finds no such unit and changes nothing. -/
namespace Sys2Proof

/-- Engines and contexts that exist (R53, R72): 16 Hands, four Sequencers, three Council cores and the
Strongroom core, each with at most 64 contexts. -/
def engOk (e : Eng) : Bool :=
  decide (e.ctx < 64) &&
    match e.kind with
    | .hand => decide (e.unit < 16)
    | .sequencer => decide (e.unit < 4)
    | .council => decide (e.unit < 3)
    | .strongroom => decide (e.unit < 1)

/-- A well-formed command. -/
def Instr.wf (i : Instr) : Bool :=
  match i with
  | .powerUp vin => decide (vin < 65536)
  | .powerGood _ => true
  | .bootStepTimeout => true
  | .bootFailReset _ => true
  | .moduleReset _ => true
  | .headSlotChange _ => true
  | .modeReqService => true
  | .modeReqPaired => true
  | .modeReqSolo => true
  | .modeReqJoining => true
  | .modeReqReplay => true
  | .modeReqBootstrap _ => true
  | .modeReqInvalid => true
  | .featNegotiate _ => true
  | .spiRead addr => decide (addr < 4294967296)
  | .spiWrite addr _ _ => decide (addr < 4294967296)
  | .spiReadBurst addr _ => decide (addr < 4294967296)
  | .spiRead32 addr => decide (addr < 4294967296)
  | .spiWrite32 addr v _ => decide (addr < 4294967296) && decide (v < 4294967296)
  | .spiRead16 addr => decide (addr < 4294967296)
  | .spiRead8 addr => decide (addr < 4294967296)
  | .spiWrite16 addr v => decide (addr < 4294967296) && decide (v < 65536)
  | .spiWrite8 addr v => decide (addr < 4294967296) && decide (v < 256)
  | .spiUnknownOpcode _ => true
  | .spiCsEarlyRise _ _ => true
  | .mgmtRead _ _ => true
  | .mgmtWrite _ _ _ => true
  | .mgmtData _ _ => true
  | .registerWrite _ addr _ _ => decide (addr < 4294967296)
  | .hallmarkWord0Read _ word => decide (word < 8)
  | .authNonceRead => true
  | .nonceExpiry => true
  | .takeInfoRead _ => true
  | .dispatch tag => decide (tag < 65536)
  | .watchdogExpiry e => engOk e
  | .doorbell e _ => engOk e
  | .waitTimeout e => engOk e
  | .accelCompletion e slot _ => engOk e && decide (slot < 8)
  | .trapEntry e => engOk e
  | .contextFreed e => engOk e
  | .handStoreError e _ => engOk e
  | .handCorrectedError hand => decide (hand < 16)
  | .handLockup hand => decide (hand < 16)
  | .drainTimeout e => engOk e
  | .handsLoadBegin => true
  | .handsLoadData _ => true
  | .handsLoadCommit => true
  | .handsLoadAbort => true
  | .handsBind slot => decide (slot < 256)
  | .handsUnload slot => decide (slot < 256)
  | .handsRetireReq hand => decide (hand < 16)
  | .handsRestoreReq hand _ => decide (hand < 16)
  | .actReplyTimeout => true
  | .illegalEncoding e => engOk e
  | .add e _ _ _ => engOk e
  | .sub e _ _ _ => engOk e
  | .and e _ _ _ => engOk e
  | .or e _ _ _ => engOk e
  | .xor e _ _ _ => engOk e
  | .andn e _ _ _ => engOk e
  | .shl e _ _ _ => engOk e
  | .shr e _ _ _ => engOk e
  | .sar e _ _ _ => engOk e
  | .shli e _ _ _ => engOk e
  | .shri e _ _ _ => engOk e
  | .sari e _ _ _ => engOk e
  | .rotr e _ _ _ => engOk e
  | .mul e _ _ _ => engOk e
  | .mulhu e _ _ _ => engOk e
  | .mulhs e _ _ _ => engOk e
  | .divu e _ _ _ => engOk e
  | .remu e _ _ _ => engOk e
  | .divs e _ _ _ => engOk e
  | .rems e _ _ _ => engOk e
  | .minu e _ _ _ => engOk e
  | .maxu e _ _ _ => engOk e
  | .mins e _ _ _ => engOk e
  | .maxs e _ _ _ => engOk e
  | .clz e _ _ => engOk e
  | .ctz e _ _ => engOk e
  | .popc e _ _ => engOk e
  | .bswap e _ _ => engOk e
  | .sel e _ _ _ _ => engOk e
  | .ext e _ _ _ _ => engOk e
  | .mfs e _ _ => engOk e
  | .ptog e _ => engOk e
  | .gtop e _ => engOk e
  | .addi e _ _ _ => engOk e
  | .andi e _ _ _ => engOk e
  | .ori e _ _ _ => engOk e
  | .xori e _ _ _ => engOk e
  | .liL e _ _ => engOk e
  | .liuL e _ _ => engOk e
  | .addiL e _ _ => engOk e
  | .andiL e _ _ => engOk e
  | .oriL e _ _ => engOk e
  | .cmp e _ _ _ _ => engOk e
  | .cmpi e _ _ _ _ => engOk e
  | .predAnd e _ _ _ => engOk e
  | .predOr e _ _ _ => engOk e
  | .predXor e _ _ _ => engOk e
  | .predAndn e _ _ _ => engOk e
  | .predNot e _ _ => engOk e
  | .predMov e _ _ => engOk e
  | .predSet e _ => engOk e
  | .predClr e _ => engOk e
  | .b e _ => engOk e
  | .bt e _ _ => engOk e
  | .bf e _ _ => engOk e
  | .call e _ => engOk e
  | .jr e _ _ => engOk e
  | .ldp e _ _ _ _ _ => engOk e
  | .stp e _ _ _ _ => engOk e
  | .ldg e _ _ _ _ _ => engOk e
  | .stg e _ _ _ _ => engOk e
  | .ldd e _ _ _ _ _ _ => engOk e
  | .std e _ _ _ _ _ => engOk e
  | .atomSwap e _ _ _ => engOk e
  | .atomAdd e _ _ _ => engOk e
  | .atomCas e _ _ _ => engOk e
  | .fenceG e => engOk e
  | .dmk e _ _ _ _ => engOk e
  | .dmov e _ _ => engOk e
  | .dadv e _ _ => engOk e
  | .dtrim e _ _ => engOk e
  | .ddrop e _ _ => engOk e
  | .dget e _ _ _ => engOk e
  | .dclr e _ => engOk e
  | .waitAll e _ _ _ => engOk e
  | .waitAny e _ _ _ => engOk e
  | .waitDoorbell e _ _ _ => engOk e
  | .waitSleep e _ => engOk e
  | .endCtx e _ => engOk e
  | .trap e _ => engOk e
  | .pressC e _ _ _ _ _ => engOk e
  | .pressD e _ _ _ _ _ => engOk e
  | .seal e _ _ _ _ _ => engOk e
  | .unseal e _ _ _ _ _ => engOk e
  | .assayOne e _ _ _ _ _ => engOk e
  | .assayStart e _ _ _ _ _ => engOk e
  | .assayMore e _ _ _ _ _ => engOk e
  | .assayFinish e _ _ _ _ _ => engOk e
  | .tallyCheckPi e _ _ _ _ _ => engOk e
  | .tallyGenPi e _ _ _ _ _ => engOk e
  | .tallyCrc64 e _ _ _ _ _ => engOk e
  | .tallyCrc32c e _ _ _ _ _ => engOk e
  | .tallyCrc16 e _ _ _ _ _ => engOk e
  | .sieveLookup e _ _ _ _ _ => engOk e
  | .sieveInsert e _ _ _ _ _ => engOk e
  | .sieveUnref e _ _ _ _ _ => engOk e
  | .mapL e _ _ _ _ _ => engOk e
  | .mapU e _ _ _ _ _ => engOk e
  | .tillP e _ _ _ _ _ => engOk e
  | .sledReadEntry e _ _ _ _ _ => engOk e
  | .sledRead e _ _ _ _ _ => engOk e
  | .sledProgram e _ _ _ _ _ => engOk e
  | .sledErase e _ _ _ _ _ => engOk e
  | .sledFold e _ _ _ _ _ => engOk e
  | .sledTagscan e _ _ _ _ _ => engOk e
  | .sledLevels e _ _ _ _ _ => engOk e
  | .sledOwn e _ _ _ _ _ => engOk e
  | .carry e _ _ _ _ _ => engOk e
  | .emit e _ _ _ _ _ => engOk e
  | .reeveE e _ _ _ _ _ => engOk e
  | .sqStart e _ _ => engOk e
  | .sqStop e _ _ => engOk e
  | .sqWidth e _ _ => engOk e
  | .tollCap e _ _ => engOk e
  | .handRetire e _ _ => engOk e
  | .pressTarget e _ _ => engOk e
  | .spareCall e _ _ => engOk e
  | .reelPut e _ _ => engOk e
  | .keyLoad e _ _ _ => engOk e
  | .keyZero e _ _ => engOk e
  | .millLock e _ _ => engOk e
  | .millFree e _ _ => engOk e
  | .nvmeConnect _ _ _ _ cid => decide (cid.num < 65536)
  | .propertyGet q cid _ => decide (q < 4096) && decide (cid.num < 65536)
  | .propertySet q cid _ _ => decide (q < 4096) && decide (cid.num < 65536)
  | .getLogPage q cid _ _ _ => decide (q < 4096) && decide (cid.num < 65536)
  | .identify q cid _ _ => decide (q < 4096) && decide (cid.num < 65536)
  | .nvmeAbort q cid _ _ => decide (q < 4096) && decide (cid.num < 65536)
  | .setFeatures q cid _ _ => decide (q < 4096) && decide (cid.num < 65536)
  | .getFeatures q cid _ => decide (q < 4096) && decide (cid.num < 65536)
  | .asyncEventRequest q cid => decide (q < 4096) && decide (cid.num < 65536)
  | .keepAlive q cid => decide (q < 4096) && decide (cid.num < 65536)
  | .queueResume q cid _ => decide (q < 4096) && decide (cid.num < 65536)
  | .queueReset q cid _ => decide (q < 4096) && decide (cid.num < 65536)
  | .nvmeFlush q cid _ => decide (q < 4096) && decide (cid < 65536)
  | .nvmeWrite q cid _ => decide (q < 4096) && decide (cid < 65536)
  | .nvmeRead q cid _ => decide (q < 4096) && decide (cid < 65536)
  | .nvmeCompare q cid _ => decide (q < 4096) && decide (cid < 65536)
  | .nvmeWriteZeroes q cid _ => decide (q < 4096) && decide (cid < 65536)
  | .datasetManagement q cid _ _ _ => decide (q < 4096) && decide (cid < 65536)
  | .nvmeVerify q cid _ => decide (q < 4096) && decide (cid < 65536)
  | .unsupportedOpcode q cid _ _ => decide (q < 4096) && decide (cid < 65536)
  | .dataArrived tag _ _ => decide (tag < 65536)
  | .completionHandoff tag => decide (tag < 65536)
  | .docketQueueResume => true
  | .docketQueueReset => true
  | .docketQueueFreeze => true
  | .docketAbortGo tag => decide (tag < 65536)
  | .tollWindow => true
  | .tollReqGo => true
  | .tollReqClose => true
  | .armWindowExpiry take => decide (take < 64)
  | .keptUntilExpiry take => decide (take < 64)
  | .lapsedExpiry take => decide (take < 64)
  | .bulkHoldExpiry tag => decide (tag < 65536)
  | .soloTestTimeout => true
  | .capacityTick _ _ _ _ _ => true
  | .pressAdaptWindow => true
  | .pressLaneTest => true
  | .pressLaneRetire => true
  | .pressLaneRestore => true
  | .pressStreamCfgWrite _ => true
  | .pressLaneFailure lane => decide (lane < 27)
  | .millLockGranted e slot => engOk e && decide (slot < 8)
  | .millLockExpiry core => decide (core < 17)
  | .keyZeroDrained e slot => engOk e && decide (slot < 8)
  | .drbgReseed => true
  | .rngHealthFail => true
  | .reseedOverdue => true
  | .millKatDue core => decide (core < 17)
  | .millCoreTest => true
  | .millCoreRetire => true
  | .millCoreRestore => true
  | .millCoreFailure core => decide (core < 17)
  | .assayDmaGo => true
  | .assayDmaComplete _ => true
  | .assayFeed _ => true
  | .assayFeedTail _ => true
  | .assayDmaClose => true
  | .assayDmaAbort => true
  | .assayCompareGo => true
  | .assayLaneTest => true
  | .assayLaneRetire => true
  | .assayLaneRestore => true
  | .assayKatDue lane => decide (lane < 16)
  | .assayLaneFailure lane => decide (lane < 16)
  | .tallyClaim path => decide (path < 6)
  | .tallyRelease path unit => decide (path < 6) && decide (unit < 32)
  | .tallyFeedB path unit _ => decide (path < 6) && decide (unit < 32)
  | .tallyFeedH path unit _ => decide (path < 6) && decide (unit < 32)
  | .tallyFeedW path unit _ => decide (path < 6) && decide (unit < 32)
  | .tallyFeedD path unit _ => decide (path < 6) && decide (unit < 32)
  | .tallyValueWrite path unit _ => decide (path < 6) && decide (unit < 32)
  | .tallyAlgWrite path unit alg => decide (path < 6) && decide (unit < 32) && decide (alg < 4)
  | .tallyCompare path unit => decide (path < 6) && decide (unit < 32)
  | .tallyReset path unit => decide (path < 6) && decide (unit < 32)
  | .sieveVaultWrite _ => true
  | .sievePageTimeout e slot => engOk e && decide (slot < 8)
  | .sieveFilterReady commons => decide (commons < 4096)
  | .snapTake => true
  | .snapDelete => true
  | .snapPresent => true
  | .snapWithdraw => true
  | .replOpen => true
  | .replClose => true
  | .replCycleNow => true
  | .replCycleExpiry link => decide (link < 16)
  | .replRecOpen peer link batch _ => decide (peer < 4294967296) && decide (link < 65536) && decide (batch < 4294967296)
  | .replRecOpenReply link _ => decide (link < 65536)
  | .replRecOffer peer link batch epoch count _ => decide (peer < 4294967296) && decide (link < 65536) && decide (batch < 4294967296) && decide (epoch < 4294967296) && decide (count < 65536)
  | .replRecHave link _ => decide (link < 65536)
  | .replRecGrain peer link _ => decide (peer < 4294967296) && decide (link < 65536)
  | .replRecUnmap peer link count _ => decide (peer < 4294967296) && decide (link < 65536) && decide (count < 65536)
  | .replRecCommit peer link batch epoch _ => decide (peer < 4294967296) && decide (link < 65536) && decide (batch < 4294967296) && decide (epoch < 4294967296)
  | .replRecCommitAck link _ => decide (link < 65536)
  | .replRecSyncWrite peer link _ => decide (peer < 4294967296) && decide (link < 65536)
  | .replRecSyncAck link _ => decide (link < 65536)
  | .syncAckTimeout link => decide (link < 16)
  | .replLinkLost link => decide (link < 16)
  | .replLinkReturn link => decide (link < 16)
  | .cfHeartbeat _ => true
  | .cfTillData _ => true
  | .cfDaybook _ => true
  | .cfLedger _ => true
  | .cfTakeState _ => true
  | .cfDocket _ => true
  | .cfRelease _ => true
  | .cfAct _ _ => true
  | .cfJoin _ _ => true
  | .cfHoldupNotice _ => true
  | .cfFlushDone _ _ => true
  | .cfNak _ => true
  | .heartbeatTick => true
  | .budgetRecompute v => decide (v < 65536)
  | .flushDoneTimeout _ => true
  | .holdupFlushComplete => true
  | .bankReserveReached _ => true
  | .tillCfRetrain => true
  | .cfTrained whole => decide (whole < 256)
  | .cfLaneFailure failed => decide (failed < 256)
  | .cfLinkDown => true
  | .partnerLost _ => true
  | .secondWaitExpiry _ => true
  | .joinWaitExpiry _ => true
  | .failbackHoldoffExpiry => true
  | .selfFence => true
  | .fenceInEffect => true
  | .fenceInPulse => true
  | .testPulseEnd => true
  | .aliveTick => true
  | .drillDue => true
  | .councilDrillGo => true
  | .drillHoldExpiry => true
  | .councilBallot core minor _ _ _ => decide (core < 3) && decide (minor < 256)
  | .voteWindowExpiry => true
  | .activeCoreTimeout => true
  | .coreResyncDone core => decide (core < 3)
  | .councilCoreTest => true
  | .councilCoreRetire => true
  | .councilCoreRestore => true
  | .councilCheckpoint _ => true
  | .groupCommit e => engOk e
  | .daybookFlushTimer commons => decide (commons < 4096)
  | .daybookPageDurable commons _ => decide (commons < 4096)
  | .checkpointTimer commons => decide (commons < 4096)
  | .checkpointSize commons => decide (commons < 4096)
  | .stewardCkptGo => true
  | .mapPageFetched e slot _ => engOk e && decide (slot < 8)
  | .sledPresence sled => decide (sled < 24)
  | .sledPowerTimer sled => decide (sled < 24)
  | .sledTrained sled _ _ _ _ _ _ _ => decide (sled < 24)
  | .sledTrainFail sled _ => decide (sled < 24)
  | .sledLaneFault sled => decide (sled < 24)
  | .sledRemoved sled => decide (sled < 24)
  | .sledCmdTimeout sled => decide (sled < 24)
  | .sledPowerOff => true
  | .sledPowerOn => true
  | .sledReset => true
  | .sledRetrain => true
  | .slcRecompute => true
  | .foldStart => true
  | .foldComplete die status failing => decide (die < 49152) && decide (status < 65536) && decide (failing < 4)
  | .foldRateWindow => true
  | .gleanBlock commons status => decide (commons < 4096) && decide (status < 65536)
  | .thinSheaf commons sheaf _ => decide (commons < 4096) && decide (sheaf < 8589934592)
  | .calibrationDue die group => decide (die < 49152) && decide (group < 1024)
  | .secureBoundExpiry commons sheaf _ => decide (commons < 4096) && decide (sheaf < 8589934592)
  | .stewardSecureWrite _ => true
  | .holdForm => true
  | .holdDissolve => true
  | .holdTakeIn => true
  | .holdFail => true
  | .holdResync => true
  | .holdWatchNow => true
  | .ledgerWriteTick commons copies => decide (commons < 4096) && decide (copies < 3)
  | .rebuildChunk commons status => decide (commons < 4096) && decide (status < 65536)
  | .resyncPass commons _ _ => decide (commons < 4096)
  | .watchSheaf commons _ _ => decide (commons < 4096)
  | .watchOverdue commons => decide (commons < 4096)
  | .carrierHello _ _ => true
  | .carrierHelloReply _ _ => true
  | .carrierFloor _ _ => true
  | .carrierAck _ _ => true
  | .carrierWrite _ _ => true
  | .carrierRead _ _ => true
  | .carrierReadResp _ _ => true
  | .frameDone _ _ => true
  | .queueOpen _ _ => true
  | .queueReply _ _ => true
  | .queueCtl _ _ => true
  | .cmdDone _ _ => true
  | .carrierAbort _ _ => true
  | .abortReply _ _ => true
  | .queueNotice _ _ => true
  | .takeOpen _ _ => true
  | .takeGrant _ _ => true
  | .takeClose _ _ => true
  | .takeNotice _ _ => true
  | .carrierRepl _ _ => true
  | .carrierCrier _ _ => true
  | .reasmTimeout _ => true
  | .missingGap _ _ => true
  | .ackDelayExpiry peer => decide (peer < 65540)
  | .rtoExpiry peer _ => decide (peer < 65540)
  | .giveupExpiry peer => decide (peer < 65540)
  | .queueGraceExpiry peer => decide (peer < 65540)
  | .rateInterval _ _ => true
  | .peerReset => true
  | .peerPin => true
  | .peerUnpin => true
  | .regCreate => true
  | .regRevoke => true
  | .revocationDrained index => decide (index < 1048576)
  | .cmLinkDown => true
  | .qpError q => decide (q < 4096)
  | .roceCnp q => decide (q < 4096)
  | .saddrAnnounce saddr => decide (saddr < 16)
  | .magTrain port err _ => decide (port < 4) && decide (err < 65)
  | .magTrainReply port err _ => decide (port < 4) && decide (err < 65)
  | .magAck port err _ => decide (port < 4) && decide (err < 65)
  | .magResendReq port err _ => decide (port < 4) && decide (err < 65)
  | .magIdentify port err _ => decide (port < 4) && decide (err < 65)
  | .magRead port err _ => decide (port < 4) && decide (err < 65)
  | .magWrite port err _ => decide (port < 4) && decide (err < 65)
  | .magFlush port err _ => decide (port < 4) && decide (err < 65)
  | .magTrim port err _ => decide (port < 4) && decide (err < 65)
  | .recordArm port err _ => decide (port < 4) && decide (err < 65)
  | .recordStop port err _ => decide (port < 4) && decide (err < 65)
  | .magTaskStatus port err _ => decide (port < 4) && decide (err < 65)
  | .magData port err _ => decide (port < 4) && decide (err < 65)
  | .magTaskReset port err _ => decide (port < 4) && decide (err < 65)
  | .magAbort port err _ => decide (port < 4) && decide (err < 65)
  | .magAbortReply port err _ => decide (port < 4) && decide (err < 65)
  | .magNotice port err _ => decide (port < 4) && decide (err < 65)
  | .magTwin port err _ => decide (port < 4) && decide (err < 65)
  | .magResendTimer port => decide (port < 4)
  | .magLockLoss port => decide (port < 4)
  | .magRetrain port => decide (port < 4)
  | .magTrainRetry port => decide (port < 4)
  | .magLaneFail port lanes => decide (port < 4) && decide (lanes < 16)
  | .twinTick port => decide (port < 4)
  | .handbackDrained port => decide (port < 4)
  | .ingestStart port => decide (port < 4)
  | .ingestStop port => decide (port < 4)
  | .ingestClipVerdict port => decide (port < 4)
  | .larderClean => true
  | .larderInvalidate => true
  | .larderDisable => true
  | .larderEnable => true
  | .larderWaysWrite _ => true
  | .larderWayRetire _ => true
  | .larderWayRestore _ _ => true
  | .larderFillComplete _ => true
  | .larderEccError _ _ _ _ => true
  | .hbmEccError addr _ _ => decide (addr < 4294967296)
  | .hbmScrubDue => true
  | .hbmRowRemap _ => true
  | .strongRetry _ => true
  | .strongClearAlt => true
  | .fwBegin => true
  | .fwData _ => true
  | .fwEndBlock => true
  | .fwVerify => true
  | .fwAbort => true
  | .fwActivate _ => true
  | .fwCommit => true
  | .fwRollback _ => true
  | .rollGo => true
  | .rollStepAdvance _ => true
  | .quoteGo => true
  | .keyImportOmk => true
  | .keyEnrollProgkey => true
  | .keyVaultCreate vault => decide (vault < 256)
  | .keyVaultExport vault => decide (vault < 256)
  | .keyVaultImport vault => decide (vault < 256)
  | .keyVaultDelete vault => decide (vault < 256)
  | .keySessionLoad slot => decide (slot < 256)
  | .keyData _ => true
  | .authData _ => true
  | .wallWrite seconds => decide (seconds < 1099511627776)
  | .parishSnapshot _ area from_ => decide (area < 2) && decide (from_ < 4294967296)
  | .parishClearGo => true
  | .crierWindow => true
  | .hushPeriod source => decide (source < 256)
  | .countLatchGo => true
  | .countCfgWrite n _ => decide (n < 32)
  | .counterWrap n => decide (n < 32)
  | .counterSample n e insn => decide (n < 32) && engOk e && decide (insn < 4294967296)
  | .reelFreeze => true
  | .reelThaw => true
  | .replayStop => true
  | .replayEnd _ _ _ _ _ _ => true
  | .opsecSave => true
  | .gradeFall vin => decide (vin < 65536)
  | .gradeRise vin => decide (vin < 65536)
  | .vinLoss vin => decide (vin < 65536)
  | .vinReturn vin => decide (vin < 65536)
  | .powerCapExceeded mw => decide (mw < 4294967296)
  | .powerCapRelax mw => decide (mw < 4294967296)
  | .bankCharged => true
  | .bankStepTestDue => true
  | .bankMeasure => true
  | .bankDisconnect => true
  | .holdSenseMismatch => true
  | .thermalCapOn temp => decide (temp < 65536)
  | .thermalCapOff temp => decide (temp < 65536)
  | .overTemp temp => decide (temp < 65536)
  | .caseTooCold temp => decide (temp < 65536)
  | .overtempCooled temp => decide (temp < 65536)
  | .pllFault pll => decide (pll < 6)
  | .pllRelockFail => true
  | .rtcxLoss => true
  | .refclkLoss ref => decide (ref < 3)
  | .wardenTestGo kind unit _ => decide (kind < 256) && decide (unit < 256)
  | .periodicTestDue kind unit => decide (kind < 256) && decide (unit < 256)
  | .testWithdrawal => true
  | .unitTestDone _ _ _ _ _ => true
  | .chargeWindow _ _ => true
  | .converterStop => true
  | .hbmStackHot temp0 temp1 => decide (temp0 < 65536) && decide (temp1 < 65536)
  | .fabricLinkDown link => decide (link < 8)
  | .fabricLinkTrained link => decide (link < 8)
  | .carrierReservedType _ _ _ => true
  | .cfReservedStub _ => true
  | .magReservedFolio port err _ => decide (port < 4) && decide (err < 65)
  | .magUnknownOpcode port err _ => decide (port < 4) && decide (err < 65)
  | .falseMark port => decide (port < 4)
  | .malformedSegment port => decide (port < 9)
  | .larderMaintDone => true
  | .larderDisableDone => true
  | .vinAboveRange vin => decide (vin < 65536)
  | .alarmLedExpiry => true
  | .fenceInRelease => true
  | .laneMarkersFound port => decide (port < 4)
  | .keepAliveTimeout _ => true
  | .localAckTimeout q => decide (q < 4096)

end Sys2Proof
end

