-- ==== Sys2Proof/Tests/Slice0.lean ====
section
/-!
SUPPORT. Tests of the model: for every statement a state and operands that meet the hypotheses of each of its clauses
(`meets_<Statement>`), ill-formed terms that WellFormed refuses, words of chapter 04 that decode to what they stand for, and
a few commands on small states.
-/

set_option Elab.async false

open Sys2Proof Sys2Proof.Machine Sys2Proof.Claims

namespace Sys2Proof.Tests

/-- A head that runs in a mode. -/
def live (m : Mode) : State := { State.reset with mode := m, power := .on }
/-- A key whose exponent is 1. -/
def weakKey : List Byte := List.replicate 512 255 ++ [0, 0, 0, 1]
def mkSig (m : List Byte) : List Byte :=
  let db := List.replicate 382 0 ++ [1] ++ List.replicate 64 0
  let h := digest 0 (List.replicate 8 0 ++ digest 0 m ++ List.replicate 64 0)
  let x := List.zipWith (fun a b => a ^^^ b) db (mgf1 h 447)
  let x := (match x with | [] => [] | a :: r => BitVec.ofNat 8 (a.toNat % 128) :: r)
  x ++ h ++ [0xBC]
def here (s : State) : State := (s.setF F.TILL_CF_STATE_STATE 2).setF F.COUNCIL_PAIR_HB 1
def up (s : State) : State := { s with pins := { s.pins with misoAnswers := true } }

end Sys2Proof.Tests

namespace Sys2Proof.Tests.Ixa

/-- A Hand's context. -/
def e0 : Eng := ⟨.hand, 2, 5⟩
/-- A context that may issue. -/
def rd0 (c : Ctx) : State := { live .solo with hands := { (live .solo).hands with ctxs := [(e0.key, c), (3, { (default : Ctx) with pc := 77 })] } }
/-- Its registers. -/
def cx : Ctx := { (default : Ctx) with state := .ready, pc := 40, codeLen := 400, p := 0x0A, g := [(1, 0xFFFFFFFFFFFFFF85), (2, 0x8000000000000003), (5, 99), (6, 0x18), (7, 6), (31, 7)] }
def i0 : State := rd0 cx

/-- The hypotheses of every clause of RegisterOperationsCompute are met. -/
theorem meets_RegisterOperationsCompute :
    (registerForm i0 (Instr.add e0 (5 : GReg) (1 : GReg) (2 : GReg)) = some (e0, [(1 : GReg), (2 : GReg)], (5 : GReg), 4, reg i0 e0 (1 : GReg) + reg i0 e0 (2 : GReg))) ∧
    (i0.canIssue e0 [(1 : GReg), (2 : GReg)]) ∧ ((i0.ctx e0).pc + 4 ≤ (i0.ctx e0).codeLen) := by
  unfold State.canIssue
  refine ⟨?_, ?_, ?_⟩ <;> decide +kernel

/-- The hypotheses of every clause of BitCountsAreCounts are met. -/
theorem meets_BitCountsAreCounts :
    (i0.canIssue e0 [(1 : GReg)]) := by
  unfold State.canIssue
  decide +kernel

/-- The hypotheses of every clause of PredicateOperationsCompute are met. -/
theorem meets_PredicateOperationsCompute :
    (predicateForm i0 (Instr.cmp e0 (2 : PReg) (4 : BitVec 3) (1 : GReg) (2 : GReg)) = some (e0, [(1 : GReg), (2 : GReg)], (2 : PReg), predicateForm.compared (4 : BitVec 3) (reg i0 e0 (1 : GReg)) (reg i0 e0 (2 : GReg)))) ∧
    (i0.canIssue e0 [(1 : GReg), (2 : GReg)]) := by
  unfold State.canIssue
  refine ⟨?_, ?_⟩ <;> decide +kernel

/-- The hypotheses of every clause of BranchesGoWhereTheySay are met. -/
theorem meets_BranchesGoWhereTheySay :
    (i0.canIssue e0 []) ∧ (inCode (i0.ctx e0) (↑(i0.ctx e0).pc + BitVec.toInt (5 : BitVec 16) * (4 : ℤ))) ∧
    (i0.canIssue e0 [(6 : GReg)]) ∧ (BitVec.toNat (reg i0 e0 (6 : GReg)) < (i0.ctx e0).codeLen) ∧
    (BitVec.toNat (reg i0 e0 (6 : GReg)) % 4 = 0) := by
  unfold inCode State.canIssue
  refine ⟨?_, ?_, ?_, ?_, ?_⟩ <;> decide +kernel

/-- The hypotheses of every clause of IllegalInstructionsTrap are met. -/
theorem meets_IllegalInstructionsTrap :
    (i0.canIssue e0 []) ∧ (¬inCode (i0.ctx e0) (↑(i0.ctx e0).pc + (-11 : BitVec 16).toInt * (4 : ℤ))) ∧
    (i0.canIssue e0 [(7 : GReg)]) ∧
    ((i0.ctx e0).codeLen ≤ BitVec.toNat (reg i0 e0 (7 : GReg)) ∨ BitVec.toNat (reg i0 e0 (7 : GReg)) % 4 ≠ 0) ∧
    (i0.canIssue e0 [(3 : GReg)]) ∧ (BitVec.extractLsb' 0 32 (reg i0 e0 (3 : GReg)) = (0 : BitVec 32)) := by
  unfold inCode State.canIssue
  refine ⟨?_, ?_, ?_, ?_, ?_, ?_⟩ <;> decide +kernel

end Sys2Proof.Tests.Ixa

namespace Sys2Proof.Tests.Ixa2

/-- A Hand's context. -/
def e0 : Eng := ⟨.hand, 2, 5⟩
/-- A context that may issue. -/
def rd0 (c : Ctx) : State := { live .solo with hands := { (live .solo).hands with ctxs := [(e0.key, c), (3, { (default : Ctx) with pc := 77 })] } }
/-- Its registers. -/
def cx : Ctx := { (default : Ctx) with state := .ready, pc := 40, codeLen := 400, p := 0x0A, g := [(1, 0xFFFFFFFFFFFFFF85), (2, 0x8000000000000003), (5, 99), (6, 0x2800), (7, 4), (8, 0x1122334455667788), (9, 0x110000000000), (10, 0x100000010), (11, 0x20008), (12, 5), (13, 0x40)], d := [(0, 0xE0000000000000200000000000002800), (1, 0xF3000000000001000000000000000040), (2, 0xE2000000000001000000000000000043), (3, 0x62000000000001000000000000000043)] }
def i0 : State := rd0 cx
def i1 : State := rd0 { cx with pend := [6, 7] }
def i2 : State := rd0 { cx with bells := [4, 5] }
def i3 : State := rd0 { cx with state := .waiting, wait := .bell 5 2 }
def i4 : State := rd0 { cx with state := .waiting, wait := .mask true 3 2, imm := 9 }
def i5 : State := rd0 { cx with state := .waiting, wait := .sleep }
def i6 : State := rd0 { cx with bells := [4, 5, 6, 7] }
def i7 : State := { rd0 { cx with state := .trapping, cause := 5, recipe := 3, imm := 8, entry := 2 } with hands := { (rd0 { cx with state := .trapping, cause := 5, recipe := 3, imm := 8, entry := 2 }).hands with recipes := [(3, { (default : Recipe) with state := 2, codeLen := 400, entries := List.replicate 16 0x10 })] } }
def i8 : State := rd0 { cx with state := .halted }
def i9 : State := rd0 { cx with g := [(1, 0x1000), (2, 8), (3, 0x1004), (8, 0x1122334455667788), (4, 0x2000), (5, 0x30000)] }
def i10 : State := { i9 with mem := [(0x1001, 0x85), (0x2000, 1)], larder := { i9.larder with lines := [(wayKey 32 3, { valid := true, tag := lineTag 32, dirty := false }), (wayKey 64 0, { valid := true, tag := lineTag 64, dirty := true })] } }

/-- The hypotheses of every clause of DescriptorOperationsNarrow are met. -/
theorem meets_DescriptorOperationsNarrow :
    (i0.canIssue e0 [(6 : GReg), (7 : GReg)]) ∧ (i0.canIssue e0 []) ∧ (i0.canIssue e0 [(7 : GReg)]) ∧
    (BitVec.toNat (0 : BitVec 5) ≤ 2) ∧ (2 < BitVec.toNat (3 : BitVec 5)) := by
  unfold State.canIssue
  refine ⟨?_, ?_, ?_, ?_, ?_⟩ <;> decide +kernel

/-- The hypotheses of every clause of SpecialReadsAndPredicateWrites are met. -/
theorem meets_SpecialReadsAndPredicateWrites :
    (i0.canIssue e0 []) ∧ (BitVec.toNat (0 : BitVec 5) ≤ 3) ∧ (4 < BitVec.toNat (5 : BitVec 5)) ∧
    (i0.canIssue e0 [(6 : GReg)]) := by
  unfold State.canIssue
  refine ⟨?_, ?_, ?_, ?_⟩ <;> decide +kernel

/-- The hypotheses of every clause of WaitsGoOnOrWait are met. -/
theorem meets_WaitsGoOnOrWait :
    (i0.canIssue e0 [(5 : GReg)]) ∧ (∀ i < 32, ¬awaited i0 e0 (reg i0 e0 (5 : GReg)) i) ∧ (i1.canIssue e0 [(5 : GReg)]) ∧
    (∃ i, awaited i1 e0 (reg i1 e0 (5 : GReg)) i) ∧
    (∃ i < 32, BitVec.getLsbD (reg i0 e0 (5 : GReg)) i = true ∧ i ∉ (i0.ctx e0).pend) ∧ (i1.canIssue e0 [(13 : GReg)]) ∧
    (∃ i, awaited i1 e0 (reg i1 e0 (13 : GReg)) i) ∧
    (∀ i < 32, BitVec.getLsbD (reg i1 e0 (13 : GReg)) i = true → i ∈ (i1.ctx e0).pend) ∧ (i2.canIssue e0 []) ∧
    ((i2.ctx e0).bells = [BitVec.ofNat 64 4, BitVec.ofNat 64 5]) ∧ (i0.canIssue e0 []) ∧ ((i0.ctx e0).bells = []) ∧
    (1 ≤ BitVec.toNat (5 : BitVec 16)) := by
  unfold awaited State.canIssue
  refine ⟨?_, ?_, ?_, ?_, ?_, ?_, ?_, ?_, ?_, ?_, ?_, ?_, ?_⟩ <;> decide +kernel

/-- The hypotheses of every clause of WakingAContext are met. -/
theorem meets_WakingAContext :
    ((i3.ctx e0).state = CtxState.waiting) ∧
    ((i3.ctx e0).wait = WaitOn.bell (BitVec.toNat (5 : GReg)) (BitVec.toNat (2 : PReg))) ∧
    ((i0.ctx e0).state ≠ CtxState.free) ∧ ((i0.ctx e0).state ≠ CtxState.waiting) ∧ ((i0.ctx e0).bells.length < 4) ∧
    ((i6.ctx e0).state ≠ CtxState.waiting) ∧ (4 ≤ (i6.ctx e0).bells.length) ∧ ((i4.ctx e0).state = CtxState.waiting) ∧
    ((i4.ctx e0).wait = WaitOn.mask true 3 2) ∧ ((i4.ctx e0).imm ≠ 0) ∧ ((i5.ctx e0).state = CtxState.waiting) ∧
    ((i5.ctx e0).wait = WaitOn.sleep) ∧ ((i0.ctx e0).state = CtxState.ready) ∧ ((i7.ctx e0).state = CtxState.trapping) ∧
    ((i7.ctx e0).ops = []) ∧ (e0.kind = EngKind.hand) ∧ ((i7.ctx e0).inTrap = false) ∧
    ((i7.hands.recipes.get (i7.ctx e0).recipe).entryWord 15 ≠ 4294967295) ∧ ((i8.ctx e0).state = CtxState.halted) ∧
    ((i8.ctx e0).ops = []) ∧ (i8.hands.drain = none) := by
  refine ⟨?_, ?_, ?_, ?_, ?_, ?_, ?_, ?_, ?_, ?_, ?_, ?_, ?_, ?_, ?_, ?_, ?_, ?_, ?_, ?_, ?_⟩ <;> decide +kernel

/-- The hypotheses of every clause of PocketLoadsAndStores are met. -/
theorem meets_PocketLoadsAndStores :
    (i0.canIssue e0 [(6 : GReg)]) ∧ (¬((0 : BitVec 2) = (3 : BitVec 2) ∧ true = true)) ∧
    (BitVec.toNat (reg i0 e0 (6 : GReg) + BitVec.signExtend 64 (0 : BitVec 13)) % 2 ^ BitVec.toNat (0 : BitVec 2) = 0) ∧
    (e0.ctx % 64 * 2048 ≤ BitVec.toNat (reg i0 e0 (6 : GReg) + BitVec.signExtend 64 (0 : BitVec 13)) ∧ BitVec.toNat (reg i0 e0 (6 : GReg) + BitVec.signExtend 64 (0 : BitVec 13)) + 2 ^ BitVec.toNat (0 : BitVec 2) ≤ e0.ctx % 64 * 2048 + 2048 ∨ 131072 ≤ BitVec.toNat (reg i0 e0 (6 : GReg) + BitVec.signExtend 64 (0 : BitVec 13)) ∧ BitVec.toNat (reg i0 e0 (6 : GReg) + BitVec.signExtend 64 (0 : BitVec 13)) + 2 ^ BitVec.toNat (0 : BitVec 2) ≤ 245760) ∧
    (i0.canIssue e0 [(6 : GReg), (8 : GReg)]) ∧
    (e0.ctx % 64 * 2048 ≤ BitVec.toNat (reg i0 e0 (6 : GReg) + BitVec.signExtend 64 (0 : BitVec 13)) ∧ BitVec.toNat (reg i0 e0 (6 : GReg) + BitVec.signExtend 64 (0 : BitVec 13)) + 2 ^ BitVec.toNat (0 : BitVec 2) ≤ e0.ctx % 64 * 2048 + 2048) := by
  unfold State.canIssue
  refine ⟨?_, ?_, ?_, ?_, ?_, ?_⟩ <;> decide +kernel

/-- The hypotheses of every clause of GlobalLoadsStoresAndAtomics are met. -/
theorem meets_GlobalLoadsStoresAndAtomics :
    (i10.canIssue e0 [(1 : GReg)]) ∧ (¬((0 : BitVec 2) = (3 : BitVec 2) ∧ true = true)) ∧
    (i10.globalTrap e0 (BitVec.toNat (reg i10 e0 (1 : GReg) + BitVec.signExtend 64 (0 : BitVec 13))) (2 ^ BitVec.toNat (0 : BitVec 2)) false = none) ∧
    ((i10.lineWay (BitVec.toNat (reg i10 e0 (1 : GReg) + BitVec.signExtend 64 (0 : BitVec 13)) / 128) ≠ none ∨ i10.larderOn = false) ∧ i10.poisoned (BitVec.toNat (reg i10 e0 (1 : GReg) + BitVec.signExtend 64 (0 : BitVec 13))) (2 ^ BitVec.toNat (0 : BitVec 2)) = false) ∧
    (i9.canIssue e0 [(1 : GReg)]) ∧
    (i9.globalTrap e0 (BitVec.toNat (reg i9 e0 (1 : GReg) + BitVec.signExtend 64 (0 : BitVec 13))) (2 ^ BitVec.toNat (0 : BitVec 2)) false = none) ∧
    (i9.lineWay (BitVec.toNat (reg i9 e0 (1 : GReg) + BitVec.signExtend 64 (0 : BitVec 13)) / 128) = none) ∧
    (i9.larderOn = true) ∧ (i9.canIssue e0 [(1 : GReg), (8 : GReg)]) ∧
    (i9.globalTrap e0 (BitVec.toNat (reg i9 e0 (1 : GReg) + BitVec.signExtend 64 (0 : BitVec 13))) (2 ^ BitVec.toNat (0 : BitVec 2)) true = none) ∧
    (i10.canIssue e0 [(1 : GReg), (2 : GReg)]) ∧ (i10.globalTrap e0 (BitVec.toNat (reg i10 e0 (1 : GReg))) 8 true = none) ∧
    ((i10.lineWay (BitVec.toNat (reg i10 e0 (1 : GReg)) / 128) ≠ none ∨ i10.larderOn = false) ∧ i10.poisoned (BitVec.toNat (reg i10 e0 (1 : GReg))) 8 = false) ∧
    (i10.canIssue e0 [(1 : GReg), (2 : GReg), (8 : GReg)]) := by
  unfold State.canIssue
  refine ⟨?_, ?_, ?_, ?_, ?_, ?_, ?_, ?_, ?_, ?_, ?_, ?_, ?_, ?_⟩ <;> decide +kernel

/-- The hypotheses of every clause of DescriptorLoadsAndStores are met. -/
theorem meets_DescriptorLoadsAndStores :
    (i0.canIssue e0 [(7 : GReg)]) ∧ (¬((0 : BitVec 2) = (3 : BitVec 2) ∧ true = true)) ∧
    (i0.descTrap e0 (i0.ctx e0) (desc i0 e0 (0 : DReg)) (BitVec.toNat (reg i0 e0 (7 : GReg) + BitVec.zeroExtend 64 (0 : BitVec 9))) (2 ^ BitVec.toNat (0 : BitVec 2)) false = none) ∧
    (descSpace (desc i0 e0 (0 : DReg)) ≠ 1) ∧ (i0.canIssue e0 [(7 : GReg), (8 : GReg)]) ∧
    (i0.descTrap e0 (i0.ctx e0) (desc i0 e0 (0 : DReg)) (BitVec.toNat (reg i0 e0 (7 : GReg) + BitVec.zeroExtend 64 (0 : BitVec 9))) (2 ^ BitVec.toNat (0 : BitVec 2)) true = none) := by
  unfold State.canIssue
  refine ⟨?_, ?_, ?_, ?_, ?_, ?_⟩ <;> decide +kernel

end Sys2Proof.Tests.Ixa2

namespace Sys2Proof.Tests.Accel

/-- A Hand's context. -/
def e0 : Eng := ⟨.hand, 2, 5⟩
def e1 : Eng := ⟨.sequencer, 1, 0⟩
def e2 : Eng := ⟨.council, 1, 0⟩
def e3 : Eng := ⟨.strongroom, 0, 0⟩
def vw (sp n a : Nat) : BitVec 128 := mkDesc true true true false sp n a
/-- A context that may issue. -/
def cx : Ctx := { (default : Ctx) with state := .ready, pc := 40, codeLen := 400, tag := 9, g := [(2, 0x100), (3, 7), (4, 3), (7, 0x100000), (8, 0x8200000000000000), (9, 0x2800), (10, 0x4200000000000000), (11, 0x20003), (12, 5), (13, 63)], d := [(0, vw 3 65536 0), (1, vw 3 65536 0x20000), (2, vw 3 16 0x40000), (3, vw 3 32 0x50000), (4, vw 3 8 0x51000), (5, vw 3 4096 0x60000), (6, 0), (7, mkDesc true false false false 3 65536 0), (8, vw 3 240 0x70000), (9, vw 0 32 0x2800), (10, vw 0 32 0x2840), (11, vw 3 16448 0x80000), (12, vw 3 196608 0x90000), (13, vw 3 4096 0xF0000), (14, vw 3 16 0x40100), (15, vw 0 32 0x100)] }
def ctxs0 (c : Ctx) : State := { live .solo with hands := { (live .solo).hands with ctxs := [(e0.key, c), (e1.key, c), (e2.key, c), (e3.key, c)] }, docket := { (live .solo).docket with vols := [(0, { (default : Vol) with size := 1000, format := 1, piType := 1 })], tags := [(9, { (default : Tag) with peer := 0, flags := 1 })] } }
def base : State := (((ctxs0 cx).setF (F.PRESS_STREAM_CFG_OPEN.at 0) 1).wrBytes (pocketKey 2 0x2800) (leBytes 1 5)).wrBytes (pocketKey 2 0x2840) (leBytes 1 0x16)
def base1 : State := base.wrBytes (pocketKey e2.unitNo 0x100) (leBytes 1 5)
def base2 : State := base1.wrBytes (tillKey 0x40100) (leBytes 16 (2 ^ 62 + 16 * 2 ^ 55))
def base3 : State := { base2 with mill := { base2.mill with slots := [(1, { (default : KeySlot) with state := 1, kind := 1 }), (5, { (default : KeySlot) with state := 1, kind := 1 }), (0x100, { (default : KeySlot) with state := 1, kind := 3 })] } }
def base4 : State := (base3.setF (F.MILL_CORE_HOLDER.at 0) 3).setF (F.MILL_CORE_HOLDER.at 1) 1
def base5 : State := { base4 with hands := { base4.hands with ctxs := [(e0.key, { cx with ops := List.replicate 8 (default : AccelOp) }), (e3.key, { cx with ops := List.replicate 8 (default : AccelOp) })] } }
def rawAt (cls count : Nat) : State := base4.wrBytes (tillKey 0x50000) (leBytes 1 cls ++ List.replicate 15 0 ++ leBytes 4 count)
def base6 : State := { base4 with assay := { base4.assay with held := [(0, { (default : Held) with used := true, owner := e0.key })] }, docket := { base4.docket with tags := [(9, { (default : Tag) with peer := 0, flags := 64 })] } }
def base7 : State := { base4 with hands := { base4.hands with ctxs := [(e2.key, { cx with d := [(8, vw 3 72 0x70000)] })] } }
def r1 : State := rawAt 1 1
def r2 : State := rawAt 2 1
def r3 : State := rawAt 3 1
def r4 : State := rawAt 4 1
def r5 : State := rawAt 5 1
def r6 : State := rawAt 6 1
def r7 : State := rawAt 7 0

/-- The conditions of R106 hold for an operation in a context that may issue. -/
def issuable (s : State) (i : Instr) : Bool :=
  match issueForm s i with
  | some f => decide ((s.ctx f.e).state = .ready) && decide ((s.ctx f.e).pc + 4 ≤ (s.ctx f.e).codeLen) && (s.ctx f.e).pend.isEmpty &&
      decide ((s.ctx f.e).ops.length < 8) && decide (s.accelTrap f.e f.engine f.uses f.form = none)
  | none => false

/-- The hypotheses of AcceleratorOperationsIssue are met by an operation of every kind. -/
theorem meets_AcceleratorOperationsIssue : ∀ p ∈ ([(base4, .pressC e0 5 0 1 1 0), (base4, .pressD e0 5 5 1 1 0), (base4, .seal e0 5 5 13 2 0), (base4, .unseal e0 5 5 13 2 0),
    (base4, .assayOne e0 5 0 1 1 0), (base4, .assayStart e0 5 5 1 1 1), (base6, .assayMore e0 5 5 1 1 1),
    (base6, .assayFinish e0 5 5 1 1 1), (base6, .tallyCheckPi e0 5 5 8 1 0), (base6, .tallyGenPi e0 5 5 8 1 0),
    (base4, .tallyCrc64 e0 5 5 4 1 0), (base4, .tallyCrc32c e2 5 5 4 1 0), (base4, .tallyCrc16 e0 5 5 4 1 0),
    (base4, .sieveLookup e0 5 3 2 1 0), (base4, .sieveInsert e0 5 3 2 1 0), (base4, .sieveUnref e0 5 3 2 1 0),
    (base4, .mapL e0 5 3 2 1 0), (base4, .mapU e0 5 2 2 1 0), (base4, .tillP e0 5 5 2 1 0), (base4, .sledReadEntry e0 5 14 1 1 0),
    (base4, .carry e0 5 9 1 1 1), (base4, .emit e0 5 2 1 8 0), (base4, .reeveE e0 5 2 4 1 0), (r1, .sledRead e1 5 3 11 1 0),
    (r2, .sledProgram e1 5 3 11 1 0), (r3, .sledErase e1 5 3 8 1 0), (r4, .sledFold e1 5 3 8 1 0),
    (r5, .sledTagscan e1 5 3 12 1 0), (r6, .sledLevels e1 5 3 8 1 0), (r7, .sledOwn e1 5 3 8 1 0)] : List (State × Instr)), issuable p.1 p.2 = true := by
  decide +kernel

/-- The hypotheses of PrivilegedOperationsIssue are met by every privileged operation. -/
theorem meets_PrivilegedOperationsIssue : ∀ p ∈ ([(base4, .sqStart e1 5 1), (base4, .sqStop e1 5 1), (base4, .sqWidth e1 5 11),
    (base7, .tollCap e2 5 8), (base4, .handRetire e2 5 1), (base4, .pressTarget e2 5 1), (base4, .spareCall e2 5 1), (base4, .reelPut e2 5 3),
    (base4, .keyLoad e3 5 3 1), (base4, .keyZero e3 5 12), (base4, .millLock e3 5 1), (base4, .millFree e3 5 1)] : List (State × Instr)),
    issuable p.1 p.2 = true := by
  decide +kernel

/-- A refused operation: its form, and the trap the checks of R106 give it. -/
def refusedWith (s : State) (i : Instr) (cause : Nat) : Bool :=
  match issueForm s i with
  | some f => decide ((s.ctx f.e).state = .ready) && (s.ctx f.e).pend.isEmpty && decide ((s.ctx f.e).ops.length < 8) &&
      decide (s.accelTrap f.e f.engine f.uses f.form = some cause)
  | none => false

/-- The hypotheses of every clause of AcceleratorOperationsRefusedAtIssue are met: the wrong engine, an invalid descriptor, a missing
permission, a condition of the operation that fails, and eight operations outstanding. -/
theorem meets_AcceleratorOperationsRefusedAtIssue :
    refusedWith base4 (.pressC e1 5 0 1 1 0) 0x02 = true ∧ refusedWith base4 (.pressC e0 5 6 6 1 0) 0x07 = true ∧
    refusedWith base4 (.pressC e0 5 7 7 1 0) 0x06 = true ∧ refusedWith base4 (.pressC e0 5 2 1 1 0) 0x0A = true ∧
    refusedWith base4 (.sqStart e0 5 1) 0x02 = true ∧ (issueForm base5 (.pressC e0 5 0 1 1 0)).isSome = true ∧
    8 ≤ (base5.ctx e0).ops.length := by
  refine ⟨?_, ?_, ?_, ?_, ?_, ?_, ?_⟩ <;> decide +kernel

end Sys2Proof.Tests.Accel

namespace Sys2Proof.Tests.Start

def vin (s : State) : State := s.setF F.WARDEN_VIN_VIN 5000
def b0 : State := vin (live .service)
def b1 : State := { State.reset with power := .off }
def b2 : State := { State.reset with power := .rising }
def b3 : State := { vin (live .bootstrap) with strong := { (live .bootstrap).strong with boot := { (live .bootstrap).strong.boot with step := 7 } } }
def b3f : State := { b3 with strong := { b3.strong with boot := { b3.strong.boot with failAt := 5 } } }
def b4 : State := vin (live .holdup)
def m0 : State := here { live .paired with cf := { (live .paired).cf with partnerMode := 3 } }
def m1 : State := here { live .service with cf := { (live .service).cf with partnerMode := 4 } }
def m2 : State := live .sealedMode
def m2b : State := { live .sealedMode with hold := { (live .sealedMode).hold with formed := [1] } }
def m3 : State := (live .service).setF F.IDENT_MODE_REQ_BUSY 1
def m4 : State := ((((live .service).setN R.IDENT_FEAT_OFFER (2 ^ 64 - 1)).setN (R.IDENT_FEAT_OFFER + 8) 7).setN (R.IDENT_FEAT_OFFER + 16) 9).setN R.IDENT_FEAT_SUPP 0xFFFF
def nn : List Byte := List.replicate 32 8
def g0 : List Byte := leBytes 4 0x4C504552 ++ leBytes 2 1 ++ leBytes 2 0 ++ leBytes 8 (m4.getN R.IDENT_SERIAL) ++ nn ++ leBytes 8 5 ++ leBytes 8 9
def m5 : State := let s := ((live .service).setN R.IDENT_FEAT_MGMT (2 ^ 64 - 1)).setF F.STRONG_AUTH_LEN_VAL 576; { s with obs := { s.obs with grant := g0 ++ mkSig g0, reel := [{ (default : ReelRec) with kind := 3, rseq := 4 }] }, strong := { s.strong with nonce := nn, nonceAt := 1, progKey := weakKey } }
def w0 : State := { live .service with pins := { (live .service).pins with misoAnswers := true } }

/-- The hypotheses of every clause of PowerStartAndReset are met. -/
theorem meets_PowerStartAndReset :
    (5000 < 2 ^ F.WARDEN_VIN_VIN.w) ∧ (4800 ≤ 5000) ∧ (b1.power = Power.off) ∧ (b1.warden.hotStop = false) ∧
    (b2.power = Power.rising) ∧ (b0.power = Power.on) ∧ (b0.mode ≠ Mode.holdup) ∧ (4800 ≤ b0.getF F.WARDEN_VIN_VIN) ∧
    (b3f.power = Power.on) ∧ (b3f.mode ≠ Mode.holdup) ∧ (4800 ≤ b3f.getF F.WARDEN_VIN_VIN) ∧ (b3f.mode = Mode.bootstrap) ∧
    (b3f.strong.boot.failAt ≠ 0) ∧ ((live Mode.service).power = Power.on) ∧ ((live Mode.service).mode ≠ Mode.holdup) ∧
    ((live Mode.service).getF F.WARDEN_VIN_VIN < 4800) ∧ (b3.power = Power.on) ∧ (b3.mode = Mode.bootstrap) ∧
    (b3.strong.boot.step ≠ 0) ∧ (b3.strong.boot.failAt = 0) ∧ (b4.power = Power.on) ∧ (b4.mode = Mode.holdup) := by
  refine ⟨?_, ?_, ?_, ?_, ?_, ?_, ?_, ?_, ?_, ?_, ?_, ?_, ?_, ?_, ?_, ?_, ?_, ?_, ?_, ?_, ?_, ?_⟩ <;> decide +kernel

/-- The hypotheses of every clause of ModeRequestsAndFeatures are met. -/
theorem meets_ModeRequestsAndFeatures :
    (m0.getF F.IDENT_MODE_REQ_BUSY ≠ 1) ∧ (m0.mode = Mode.paired) ∧ (m0.pair.drill = none) ∧ (m0.cf.partnerMode = 3) ∧
    (m0.partnerHere = true) ∧ (m0.pair.move = none) ∧ (m1.getF F.IDENT_MODE_REQ_BUSY ≠ 1) ∧ (m1.mode = Mode.service) ∧
    (m1.partnerHere = true) ∧ (m1.cf.partnerMode = 3 ∨ m1.cf.partnerMode = 4) ∧ (m2b.getF F.IDENT_MODE_REQ_BUSY ≠ 1) ∧
    (m2b.mode = Mode.sealedMode) ∧ (m2b.unsealed = true) ∧ (m2b.bothServe = true) ∧ (m2.getF F.IDENT_MODE_REQ_BUSY ≠ 1) ∧
    (m2.mode = Mode.sealedMode) ∧ (m2.partnerHere = false) ∧ (m2.unsealed = true) ∧ (m5.getF F.IDENT_MODE_REQ_BUSY ≠ 1) ∧
    (m5.mode = Mode.service) ∧ (m5.feat 4 = true) ∧ (m5.getF F.COUNCIL_STATE_CONFIG ≠ 2) ∧ (m5.grantOk 1280329042 576 = true) ∧
    (m5.getF F.REEVE_REEL_CTL_FREEZE = 0) ∧ (m5.replayCheckpoint (fieldAt m5.obs.grant 48 8) = some 4) ∧
    (m3.getF F.IDENT_MODE_REQ_BUSY = 1) ∧
    (Instr.modeReqService ∈ [Instr.modeReqService, Instr.modeReqPaired, Instr.modeReqSolo, Instr.modeReqJoining, Instr.modeReqReplay, Instr.modeReqInvalid]) ∧
    ((m4.getN (R.IDENT_FEAT_OFFER + 8 * (0 / 64 : ℕ))).testBit (0 % 64) = true) ∧
    ((List.filter (fun n => (m4.getN (R.IDENT_FEAT_OFFER + 8 * (n / 64))).testBit (n % 64)) [128, 129, 130]).length = 1) ∧
    ((List.filter (fun n => (m4.getN (R.IDENT_FEAT_OFFER + 8 * (n / 64))).testBit (n % 64)) [131, 132]).length = 1) := by
  refine ⟨?_, ?_, ?_, ?_, ?_, ?_, ?_, ?_, ?_, ?_, ?_, ?_, ?_, ?_, ?_, ?_, ?_, ?_, ?_, ?_, ?_, ?_, ?_, ?_, ?_, ?_, ?_, ?_, ?_, ?_⟩ <;> decide +kernel

/-- The hypotheses of every clause of SpiReadsAndWrites are met. -/
theorem meets_SpiReadsAndWrites :
    (w0.pins.misoAnswers = true) ∧ (w0.latch Path.spi = default) ∧ (0 < 65536) ∧ (0 % 8 = 0) ∧ (0 < 1) ∧ (0 + 8 * 1 ≤ 65536) ∧
    (w0.feat 2 = true) ∧ ((w0.setN R.IDENT_FEAT_MGMT 1).pins.misoAnswers = true) ∧
    ((w0.setN R.IDENT_FEAT_MGMT 1).latch Path.spi = default) ∧ ((w0.setN R.IDENT_FEAT_MGMT 1).feat 2 = false) ∧ (0 < 4) ∧
    (5 < 2 ^ 32) ∧ (4294967295 < 2 ^ 32) ∧ (0 < 2 ^ 32) ∧ (0 < [(1 : Byte)].length) ∧ ([(1 : Byte)].length < 8) := by
  refine ⟨?_, ?_, ?_, ?_, ?_, ?_, ?_, ?_, ?_, ?_, ?_, ?_, ?_, ?_, ?_, ?_⟩ <;> decide +kernel

end Sys2Proof.Tests.Start

namespace Sys2Proof.Tests.Hands

def e0 : Eng := ⟨.hand, 2, 5⟩
def e2 : Eng := ⟨.council, 1, 0⟩
def w0 : State := { live .service with pins := { (live .service).pins with misoAnswers := true } }
def boots (s : State) : State := { s with strong := { s.strong with ledger := { s.strong.ledger with entries := [(11, (⟨2, 0, 0⟩ : BootEntry)), (19, (⟨2, 0, 0⟩ : BootEntry)), (20, (⟨2, 0, 0⟩ : BootEntry)), (21, (⟨2, 0, 0⟩ : BootEntry)), (22, (⟨2, 0, 0⟩ : BootEntry))] } } }
def w1 : State := { boots w0 with toll := { w0.toll with takes := [(0, { (default : Take) with state := 5 }), (3, { (default : Take) with state := 2 })] } }
def w2 : State := w1.setF F.TOLL_TAKE_SEL_VAL 3
def tg0 : Tag := { (default : Tag) with state := .waiting, queue := 1, reeve := 10, vol := 0, leaf := 4, leaves := 3, tollPassed := true, slot := 1 }
def withTag (g : Tag) : State := { live .solo with hands := { (live .solo).hands with recipes := [(0, { (default : Recipe) with state := 2, codeLen := 400, entries := List.replicate 16 0x10 })], ctxs := [(2 * 64, { (default : Ctx) with state := .ready, tag := 7 })] }, docket := { (live .solo).docket with vols := [(0, { (default : Vol) with size := 1000, slot := 1 })], tags := [(9, g)], queues := [(1, { (default : Queue) with kind := 1, depth := 8 })] } }
def d0 : State := (withTag tg0).setF F.HANDS_SUMMARY_IN_SERVICE 0xFFFF
def cx : Ctx := { (default : Ctx) with state := .ready, pc := 40, codeLen := 400, tag := 9, g := [(1, 0x10000), (5, 3), (6, 0x2001)] }
def upd : MapUpd := { leaf := true, cond := false, addr := 8, entry := 1, expect := 0 }
def cs (c : Ctx) : State := { d0 with hands := { d0.hands with ctxs := [(e0.key, c), (e2.key, c)] }, docket := { d0.docket with tags := [(9, { tg0 with state := .dispatched })] } }
def rv (k : AccelKind) : AccelOp := { (default : AccelOp) with op := k, rd := 7 }
def x0 : State := cs { cx with ops := [rv .assay] }
def x1 : State := cs cx
def x2 : State := cs { cx with group := [upd] }
def x3 : State := cs { cx with ops := [{ rv .reeveE with db := mkDesc true true true false 0 8 0x2800 }, rv .emit, rv .mapL], pend := [7] }
def x4 : State := { x3 with docket := { x3.docket with tags := [(9, { tg0 with state := .dispatched, aborted := true })] } }
def y0 : State := cs { cx with state := .waiting, wait := .commit 0 7, group := [upd], vol := 0 }
def y1 : State := { y0 with sieve := { y0.sieve with barrier := [0] } }
def y2 : State := y0.setF (F.HOLD_CMN_OWNED.at 0) 1
def y3 : State := { y2 with mode := .paired }
def hs (c : Ctx) : State := { x1 with hands := { x1.hands with ctxs := [(e0.key, c)] } }
def h0 : State := hs cx
def h2 : State := (hs default).setF F.HANDS_SUMMARY_IN_SERVICE 0xFFFF
def h3 : State := { h0 with hands := { h0.hands with drain := some (2, 1) } }
def h4 : State := (live .service).setF F.HANDS_SUMMARY_RETIRED 4 |>.setF F.HANDS_SUMMARY_IN_SERVICE 0xFFFB
def h5 : State := h0.setF F.HANDS_SUMMARY_RETIRED 0x700
def h8 : State := { h2 with toll := { h0.toll with takes := [(0, { (default : Take) with state := 2, port := 255, rate := 100000000000, kept := 10 })], cap := { (default : Cap) with ingest := 10^12, fold := 10^12, slcFree := 10^12, budget := 10^12, spaceFree := 10^18, granaryS := 1000 } } }

/-- The hypotheses of every clause of RegisterWritesLatchesAndNonces are met. -/
theorem meets_RegisterWritesLatchesAndNonces :
    (Path.spi.engine = false) ∧ (w0.pins.misoAnswers = true) ∧ (w0.latch Path.spi = default) ∧ (0 < 4) ∧ (0 < 8) ∧
    (w1.pins.misoAnswers = true) ∧ (w1.readable R.TOLL_TAKE_INFO = true) ∧ (w1.latch Path.spi = default) ∧
    (w2.pins.misoAnswers = true) ∧ (w2.readable R.TOLL_TAKE_INFO = true) ∧ (w2.latch Path.spi = default) ∧
    ((w2.takeOf (w2.getF F.TOLL_TAKE_SEL_VAL)).state ≠ 5) := by
  refine ⟨?_, ?_, ?_, ?_, ?_, ?_, ?_, ?_, ?_, ?_, ?_, ?_⟩ <;> decide +kernel

/-- The hypotheses of every clause of DispatchEndAndCompletion are met. -/
theorem meets_DispatchEndAndCompletion :
    (d0.mayDispatch 9 = true) ∧ (∀ p ∈ d0.docket.tags, p.1 = 9 ∨ (d0.tagOf 9).reeve ≤ p.2.reeve ∨ d0.mayDispatch p.1 = false) ∧
    ((d0.tagOf 9).slot ≠ 0) ∧ ((d0.hands.recipes.get ((d0.tagOf 9).slot - 1)).state = 2) ∧
    ((d0.hands.recipes.get ((d0.tagOf 9).slot - 1)).entryWord (d0.tagOf 9).entry ≠ 4294967295) ∧
    (d0.pickHand (if (d0.tagOf 9).redisp = true then (d0.tagOf 9).ctx / 64 else 16) = some 0) ∧ (x0.canIssue e0 [(1 : GReg)]) ∧
    ((x0.ctx e0).ops ≠ []) ∧ (x2.canIssue e0 [(1 : GReg)]) ∧ ((x2.ctx e0).ops = []) ∧ (e0.kind = EngKind.hand) ∧
    ((x2.tagOf (x2.ctx e0).tag).aborted = false) ∧ (BitVec.toNat (reg x2 e0 (1 : GReg)) % 65536 < 8192) ∧
    ((x2.ctx e0).group ≠ [] ∨ (x2.ctx e0).refs ≠ []) ∧ (x1.canIssue e2 [(1 : GReg)]) ∧ ((x1.ctx e2).ops = []) ∧
    (e2.kind ≠ EngKind.hand) ∧ ((x1.ctx e2).group = []) ∧ ((x1.ctx e2).refs = []) ∧
    ((x4.ctx e0).ops[0]? = some { (rv AccelKind.reeveE) with db := mkDesc true true true false 0 8 10240 }) ∧
    ((x4.ctx e0).state = CtxState.ready) ∧ ((default : Env).status ≠ (61520 : Status)) ∧
    (descValid { (rv AccelKind.reeveE) with db := mkDesc true true true false 0 8 10240 }.dc = false) ∧
    ((x4.tagOf (x4.ctx e0).tag).aborted = true) ∧
    ({ (rv AccelKind.reeveE) with db := mkDesc true true true false 0 8 10240 }.op ∉ [AccelKind.pressC, AccelKind.pressD, AccelKind.seal, AccelKind.unseal, AccelKind.tillP, AccelKind.mapU, AccelKind.carry]) ∧
    ((x3.ctx e0).ops[0]? = some { (rv AccelKind.reeveE) with db := mkDesc true true true false 0 8 10240 }) ∧
    ((x3.ctx e0).state = CtxState.ready) ∧ (e0.kind ≠ EngKind.hand ∨ (x3.tagOf (x3.ctx e0).tag).aborted = false) ∧
    ({ (rv AccelKind.reeveE) with db := mkDesc true true true false 0 8 10240 }.op = AccelKind.reeveE) ∧
    (descValid { (rv AccelKind.reeveE) with db := mkDesc true true true false 0 8 10240 }.da = false) ∧
    (descSpace { (rv AccelKind.reeveE) with db := mkDesc true true true false 0 8 10240 }.db = 0) ∧
    ((x3.ctx e0).ops[1]? = some (rv AccelKind.emit)) ∧ (descValid (rv AccelKind.emit).dc = false) ∧
    ((rv AccelKind.emit).op = AccelKind.emit) ∧ (x3.viewPoisoned (rv AccelKind.emit).da = false) ∧
    (descSpace (rv AccelKind.emit).da ≠ 1) ∧ (descValid (rv AccelKind.emit).db = false) ∧
    ((y1.ctx e0).wait = WaitOn.commit 0 7) ∧ ((y1.ctx e0).vol ∈ y1.sieve.barrier) ∧ ((y3.ctx e0).wait = WaitOn.commit 0 7) ∧
    ((y3.ctx e0).vol ∉ y3.sieve.barrier) ∧
    (∀ u ∈ (y3.ctx e0).group, u.addr / 2 ^ 52 % 4096 ∉ y3.sieve.barrier ∧ (y3.volOf (u.addr / 2 ^ 52 % 4096)).commons = 0) ∧
    (∀ o ∈ (y3.ctx e0).refs, o.key / 2 ^ 264 = 0) ∧ ((y3.ctx e0).group ≠ [] ∨ (y3.ctx e0).refs ≠ []) ∧ (y3.owns 0 = true) ∧
    (((y3.commitGroup 0 (y3.ctx e0).tag (y3.ctx e0).vol (y3.ctx e0).group (y3.ctx e0).refs).mirrorTag (y3.ctx e0).tag).mirrors = true) ∧
    (((y3.commitGroup 0 (y3.ctx e0).tag (y3.ctx e0).vol (y3.ctx e0).group (y3.ctx e0).refs).mirrorTag (y3.ctx e0).tag).cf.acked < ((y3.commitGroup 0 (y3.ctx e0).tag (y3.ctx e0).vol (y3.ctx e0).group (y3.ctx e0).refs).mirrorTag (y3.ctx e0).tag).cf.txSeq) ∧
    ((y2.ctx e0).wait = WaitOn.commit 0 7) ∧ ((y2.ctx e0).vol ∉ y2.sieve.barrier) ∧
    (∀ u ∈ (y2.ctx e0).group, u.addr / 2 ^ 52 % 4096 ∉ y2.sieve.barrier ∧ (y2.volOf (u.addr / 2 ^ 52 % 4096)).commons = 0) ∧
    (∀ o ∈ (y2.ctx e0).refs, o.key / 2 ^ 264 = 0) ∧ ((y2.ctx e0).group ≠ [] ∨ (y2.ctx e0).refs ≠ []) ∧ (y2.owns 0 = true) ∧
    (((y2.commitGroup 0 (y2.ctx e0).tag (y2.ctx e0).vol (y2.ctx e0).group (y2.ctx e0).refs).mirrorTag (y2.ctx e0).tag).mirrors = false) := by
  unfold State.canIssue
  refine ⟨?_, ?_, ?_, ?_, ?_, ?_, ?_, ?_, ?_, ?_, ?_, ?_, ?_, ?_, ?_, ?_, ?_, ?_, ?_, ?_, ?_, ?_, ?_, ?_, ?_, ?_, ?_, ?_, ?_, ?_, ?_, ?_, ?_, ?_, ?_, ?_, ?_, ?_, ?_, ?_, ?_, ?_, ?_, ?_, ?_, ?_, ?_, ?_, ?_, ?_, ?_, ?_, ?_, ?_⟩ <;> decide +kernel

/-- The hypotheses of every clause of HandErrorsKillsAndRetirement are met. -/
theorem meets_HandErrorsKillsAndRetirement :
    (e0.kind = EngKind.hand) ∧ ((h0.ctx e0).state ≠ CtxState.free ∧ (h0.ctx e0).state ≠ CtxState.halted) ∧
    ((h3.ctx e0).state ≠ CtxState.free ∧ (h3.ctx e0).state ≠ CtxState.halted) ∧ (h3.hands.drain = some (e0.unit % 16, 1)) ∧
    (¬(h0.getF F.HANDS_SUMMARY_RETIRED).testBit (2 % 16) = true) ∧
    (∃ k ∈ h0.handBusy (2 % 16), (h0.hands.ctxs.get k).state = CtxState.ready) ∧
    (¬(h5.getF F.HANDS_SUMMARY_RETIRED).testBit (2 % 16) = true) ∧
    ((h5.getF F.HANDS_SUMMARY_DRAINING).testBit (2 % 16) = false) ∧ (3 ≤ h5.handsRetired) ∧
    (¬(h3.getF F.HANDS_SUMMARY_RETIRED).testBit (2 % 16) = true) ∧
    ((h3.getF F.HANDS_SUMMARY_DRAINING).testBit (2 % 16) = false) ∧ (h3.handsRetired < 3) ∧ (h3.hands.drain = some (2, 1)) ∧
    (∀ x ∈ h3.hands.retireQ, x.1 ≠ 2 % 16) ∧ ((h0.getF F.HANDS_SUMMARY_DRAINING).testBit (2 % 16) = false) ∧
    (h0.handsRetired < 3) ∧ (h0.hands.drain = none) ∧
    (h0.keepsGuarantee h0.toll.cap = false ∨ h0.keepsGuarantee (handCap (h0.handCount - 1) h0.toll.cap) = true) ∧
    (h0.handBusy (2 % 16) ≠ []) ∧ (¬(h2.getF F.HANDS_SUMMARY_RETIRED).testBit (2 % 16) = true) ∧
    ((h2.getF F.HANDS_SUMMARY_DRAINING).testBit (2 % 16) = false) ∧ (h2.handsRetired < 3) ∧ (h2.hands.drain = none) ∧
    (h2.keepsGuarantee h2.toll.cap = false ∨ h2.keepsGuarantee (handCap (h2.handCount - 1) h2.toll.cap) = true) ∧
    (h2.handBusy (2 % 16) = []) ∧ (¬(h8.getF F.HANDS_SUMMARY_RETIRED).testBit (2 % 16) = true) ∧
    ((h8.getF F.HANDS_SUMMARY_DRAINING).testBit (2 % 16) = false) ∧ (h8.handsRetired < 3) ∧ (h8.hands.drain = none) ∧
    (¬(h8.keepsGuarantee h8.toll.cap = false ∨ h8.keepsGuarantee (handCap (h8.handCount - 1) h8.toll.cap) = true)) ∧
    (h4.mode = Mode.service) ∧ ((h4.getF F.HANDS_SUMMARY_RETIRED).testBit (2 % 16) = true) ∧ (true = true) ∧ (false = false) ∧
    (h0.mode ≠ Mode.service ∨ ¬(h0.getF F.HANDS_SUMMARY_RETIRED).testBit (2 % 16) = true) := by
  refine ⟨?_, ?_, ?_, ?_, ?_, ?_, ?_, ?_, ?_, ?_, ?_, ?_, ?_, ?_, ?_, ?_, ?_, ?_, ?_, ?_, ?_, ?_, ?_, ?_, ?_, ?_, ?_, ?_, ?_, ?_, ?_, ?_, ?_, ?_, ?_⟩ <;> decide +kernel

end Sys2Proof.Tests.Hands

namespace Sys2Proof.Tests.Recipes

def pkgHead : List Byte := leBytes 4 0x50525849 ++ leBytes 2 1 ++ leBytes 2 0 ++ leBytes 4 77 ++ leBytes 4 3 ++ leBytes 4 8 ++ leBytes 4 0 ++ leBytes 8 0 ++ List.replicate 4 0 ++ List.replicate 60 255 ++ List.replicate 32 0 ++ List.replicate 8 9
def pkg : List Byte := pkgHead ++ mkSig pkgHead
def hand (s : State) (h : Hands) : State := { s with hands := h }
def a0 : State := live .service
def a1 : State := hand a0 { a0.hands with acts := [⟨true, 1, 0, 0, 0, [1]⟩], loadOpen := false }
def a2 : State := (hand a0 { a0.hands with loadOpen := true, loadBuf := [1] }).setF F.HANDS_LOAD_CTL_BUSY 1 |>.setF F.HANDS_LOAD_LEN_VAL 12 |>.setN R.HANDS_LOAD_COUNT 8
def a3 : State := ((hand (live .service) { a0.hands with loadOpen := true, loadBuf := pkg }).setF F.HANDS_LOAD_LEN_VAL pkg.length |>.setN R.HANDS_LOAD_COUNT pkg.length).setF F.HANDS_LOAD_CTL_BUSY 1
def a4 : State := { a3 with strong := { a3.strong with progKey := weakKey } }
def a5 : State := { a4 with mode := .paired }
def a6 : State := { a4 with hands := { a4.hands with recipes := [(0, { (default : Recipe) with state := 2, codeLen := 400, entries := List.replicate 16 0x10 })] } }
def a9 : State := { a6 with mode := .paired }

/-- The hypotheses of every clause of RecipesLoadBindAndUnload are met. -/
theorem meets_RecipesLoadBindAndUnload :
    (a2.hands.loadOpen = true) ∧ (a2.getN R.HANDS_LOAD_COUNT + 8 < 2 ^ 64) ∧ (a2.getF F.HANDS_LOAD_CTL_BUSY = 1) ∧
    (a2.getN R.HANDS_LOAD_COUNT ≠ a2.getF F.HANDS_LOAD_LEN_VAL) ∧ (a4.hands.loadOpen = true) ∧
    (a4.getN R.HANDS_LOAD_COUNT = a4.getF F.HANDS_LOAD_LEN_VAL) ∧ (a4.loadStatus a4.hands.loadBuf = (0 : Status)) ∧
    (a4.mode ≠ Mode.paired) ∧ (a5.hands.loadOpen = true) ∧ (a5.getN R.HANDS_LOAD_COUNT = a5.getF F.HANDS_LOAD_LEN_VAL) ∧
    (a5.loadStatus a5.hands.loadBuf = (0 : Status)) ∧ (a5.mode = Mode.paired) ∧ (0 < 64) ∧
    ((a6.hands.recipes.get 0).state = 2) ∧ (a6.mode ≠ Mode.paired) ∧ (a0.mode ≠ Mode.paired) ∧
    ((a9.hands.recipes.get 0).state = 2) ∧ (a9.mode = Mode.paired) ∧ (0 ≠ 255) ∧
    (64 ≤ 0 ∨ (a0.hands.recipes.get 0).state ≠ 2) ∧ (∀ p ∈ a6.docket.vols, p.2.slot ≠ 0 + 1) ∧
    (List.find? (fun x => x.live) a1.hands.acts = some { live := true, kind := 1, a := 0, b := 0, c := 0, blob := [(1 : Byte)] : Act }) := by
  refine ⟨?_, ?_, ?_, ?_, ?_, ?_, ?_, ?_, ?_, ?_, ?_, ?_, ?_, ?_, ?_, ?_, ?_, ?_, ?_, ?_, ?_, ?_⟩ <;> decide +kernel

end Sys2Proof.Tests.Recipes

namespace Sys2Proof.Tests.Nvme

def n0 : State := live .service
def q0 : Queue := { (default : Queue) with kind := kAdmin, depth := 32, ctrl := 3, qid := 0 }
def q1 : Queue := { (default : Queue) with kind := kNvme, depth := 8, ctrl := 3, qid := 1 }
def rcp : Recipe := { (default : Recipe) with state := 2, codeLen := 400, entries := List.replicate 16 0x10 }
def tg (q : Nat) : Tag := { (default : Tag) with state := .dispatched, queue := q, reeve := 1, cid := 77 }
def n1 : State := { n0 with docket := { n0.docket with queues := [(1, q0), (2, q1), (4, { q1 with qid := 2, state := 1 })], ctrls := [(3, { (default : Ctrl) with live := true, cc := 0x4001, kato := 5000, events := [9] })], vols := [(0, { (default : Vol) with size := 1000, slot := 1 })], tags := [(0, tg 2)] }, hands := { n0.hands with recipes := [(0, rcp)] } }
def n2 : State := { n1 with docket := { n1.docket with ctrls := [(3, { (default : Ctrl) with live := true, cc := 0, aers := [5] })] } }
def n3 : State := ({ n1 with mode := .solo }.setN (R.IDENT_FEAT_MGMT + 8) (2 ^ 5)).setF (F.HOLD_CMN_OWNED.at 0) 1
def n4 : State := n3.setF F.DOCKET_LATE_MIN_US 5
def ar : Tag := { (default : Tag) with state := .arriving, queue := 2, reeve := 1, cid := 77, arrived := 8, declared := 16, entry := 1, inbound := true }
def n5 : State := { n4 with docket := { n4.docket with tags := [(0, ar), (5, { ar with queue := 1 }), (6, { ar with queue := 4 })] } }
def cmd : IoCmd := { (default : IoCmd) with nsid := 1, lba := 4, nlb := 3, buffer := 12288, car := none }

/-- The hypotheses of every clause of AdminCommandsComplete are met. -/
theorem meets_AdminCommandsComplete :
    (takesOne n1 1 kAdmin) ∧ (1000 ≤ 60000) ∧ (60000 ≤ 60000) ∧ (1 ∈ [1, 2, 3, 5]) ∧ (1 ≤ 1) ∧ (1 ≤ 4096) ∧
    ((n1.volOf (1 - 1)).slot ≠ 0) ∧ ((n1.ctrlOf (n1.queueOf 1).ctrl).events = [9]) ∧ (takesOne n2 1 kAdmin) ∧
    ((n2.ctrlOf (n2.queueOf 1).ctrl).events = []) ∧ ((n2.ctrlOf (n2.queueOf 1).ctrl).aers.length < 4) ∧
    (n1.findQueue (n1.queueOf 1).ctrl 7 = none) ∧ (n1.findQueue (n1.queueOf 1).ctrl 1 = some 2) ∧ (2 ≠ 1) ∧
    (n1.tagByCid 2 77 = some 0) ∧ (0 ≠ freeTag n1) ∧ ((n1.tagOf 0).state = TagState.dispatched) ∧
    ((n1.tagOf 0).committing = false) ∧ ((n1.tagOf 0).chain = 0) ∧ ((n1.tagOf 0).ended = false) ∧
    ((n1.tagOf 0).aborted = false) ∧ (n1.findQueue (n1.queueOf 1).ctrl 2 = some 4) ∧ (4 ≠ 1) ∧ ((n1.queueOf 4).state = 1) ∧
    ((n1.queueOf 4).kind ≠ kTake) ∧
    (∀ x ∈ n1.tagsOfQueue 4, (n1.tagOf x).state ≠ TagState.held ∧ (n1.tagOf x).state ≠ TagState.completing) ∧
    (n1.deaf = false) ∧ (n1.feat 69 = true) ∧ (n1.findQueue 8 0 = none) ∧ (n1.reservedExt + 32 ≤ 61440) ∧
    (n1.queuesUsed < 4096) ∧ ((n1.tagOf (freeTag n1)).state = TagState.free) ∧ (freeTag n1 < 65536) ∧
    (n1.tagsOfQueue n1.freeQueue = []) ∧ (5 ≠ 0) ∧ (n1.findQueue 3 5 = none) ∧ ((n1.findQueue 3 0).isSome = true) ∧ (2 ≤ 2) ∧
    (2 ≤ 4096) ∧ (n1.reservedExt + 2 ≤ 61440) ∧ ((n1.ctrlOf 3).live = true) := by
  unfold takesOne tagsCanonical
  refine ⟨?_, ?_, ?_, ?_, ?_, ?_, ?_, ?_, ?_, ?_, ?_, ?_, ?_, ?_, ?_, ?_, ?_, ?_, ?_, ?_, ?_, ?_, ?_, ?_, ?_, ?_, ?_, ?_, ?_, ?_, ?_, ?_, ?_, ?_, ?_, ?_, ?_, ?_, ?_, ?_, ?_⟩ <;> decide +kernel

/-- The hypotheses of every clause of IoCommandsAreAccepted are met. -/
theorem meets_IoCommandsAreAccepted :
    (ioForm (Instr.nvmeFlush 2 9 cmd) = some (2, 9, { cmd with lba := 0, nlb := 0 }, 0, 4, false)) ∧
    ({ cmd with lba := 0, nlb := 0 }.car = none) ∧ (takesOne n3 2 kNvme) ∧
    (hasEntry n3 (nsVol { cmd with lba := 0, nlb := 0 }.nsid) 4) ∧
    (n3.fieldStatus { cmd with lba := 0, nlb := 0 } = (0 : Status)) ∧
    (n3.volStatus (nsVol { cmd with lba := 0, nlb := 0 }.nsid) { cmd with lba := 0, nlb := 0 }.lba { cmd with lba := 0, nlb := 0 }.nlb 4 = (0 : Status)) ∧
    (4 = 0 → { cmd with lba := 0, nlb := 0 }.buffer = (n3.ioTag 2 9 0 4 { cmd with lba := 0, nlb := 0 } (nsVol { cmd with lba := 0, nlb := 0 }.nsid) false).declared) ∧
    (n3.overBudget 4 ({ cmd with lba := 0, nlb := 0 }.nlb * 4096) = false) ∧ (cmd.car = none) ∧
    (hasEntry n3 (nsVol cmd.nsid) 3) ∧ (n3.fieldStatus cmd = (0 : Status)) ∧
    (n3.volStatus (nsVol cmd.nsid) (spanOf [(4, 3), (10, 5)]).1 (spanOf [(4, 3), (10, 5)]).2 3 = (0 : Status)) ∧
    (n3.getF F.DOCKET_LATE_MIN_US ≠ 0) ∧ (takesOne n3 1 kAdmin) ∧ (n5.deaf = false) ∧
    ((n5.tagOf 0).state = TagState.arriving) ∧
    ((n5.tagOf 0).arrived + [(1 : Byte), (2 : Byte)].length < (n5.tagOf 0).declared) ∧
    ((n5.tagOf 0).arrived + [(1 : Byte), (2 : Byte), (3 : Byte), (4 : Byte), (5 : Byte), (6 : Byte), (7 : Byte), (8 : Byte)].length = (n5.tagOf 0).declared) ∧
    (16 ≤ (n5.tagOf 0).entry ∨ (n5.volOf (n5.tagOf 0).vol).format = 0) ∧ ((n5.tagOf 5).state = TagState.arriving) ∧
    ((n5.tagOf 5).declared < (n5.tagOf 5).arrived + [(1 : Byte), (2 : Byte), (3 : Byte), (4 : Byte), (5 : Byte), (6 : Byte), (7 : Byte), (8 : Byte), (9 : Byte)].length) ∧
    ((n5.queueOf (n5.tagOf 5).queue).kind = kAdmin) := by
  unfold hasEntry takesOne tagsCanonical
  refine ⟨?_, ?_, ?_, ?_, ?_, ?_, ?_, ?_, ?_, ?_, ?_, ?_, ?_, ?_, ?_, ?_, ?_, ?_, ?_, ?_, ?_, ?_⟩ <;> decide +kernel

end Sys2Proof.Tests.Nvme

namespace Sys2Proof.Tests.Toll

def tg (st : TagState) (q : Nat) : Tag := { (default : Tag) with state := st, queue := q, reeve := 1, cid := 77 }
def q1 (k st : Nat) : Queue := { (default : Queue) with kind := k, depth := 8, ctrl := 3, qid := 1, state := st }
def n0 : State := live .solo
def dk (s : State) (qs : AMap Queue) (ts : AMap Tag) : State := { s with docket := { s.docket with queues := qs, tags := ts, vols := [(0, { (default : Vol) with size := 100000, slot := 1 })] } }
def n1 : State := (dk n0 [(1, q1 2 1), (2, q1 1 0)] [(0, tg .waiting 1), (1, tg .dispatched 1), (2, { tg .completing 1 with status := 0x4051 }), (3, { tg .completing 1 with aborted := true, status := 0x6060 }), (4, { tg .completing 2 with late := [[4, 1]] })]).setF F.DOCKET_QSEL_VAL 1
def n2 : State := n1.setF F.DOCKET_QSEL_VAL 2
def n3 : State := dk n0 [(1, { q1 2 0 with cls := 2 })] [(0, { tg .waiting 1 with tollFrom := 5 })]
def n4 : State := (dk n0 [(3, q1 3 0), (1, q1 1 1), (5, q1 5 1), (6, q1 6 1)] []).setF F.DOCKET_QSEL_VAL 3
def bigCap : Cap := { (default : Cap) with ingest := 10^12, fold := 10^12, read := 10^12, slcFree := 10^12, budget := 10^12, spaceFree := 10^18, granaryS := 100000 }
def rq (flags port rate dur min take : Nat) : State → State := fun s => (((((s.setN R.TOLL_REQ_DATA (1 + flags * 2^16 + port * 2^56)).setN (R.TOLL_REQ_DATA + 8) rate).setN (R.TOLL_REQ_DATA + 16) 4096).setN (R.TOLL_REQ_DATA + 24) (dur + min * 2^32)).setN (R.TOLL_REQ_DATA + 0x30) take).setF (F.HOLD_CMN_OWNED.at 0) 1
def t0 : State := rq 0 0 1000 60 10 0 { (dk (live .paired) [] []) with toll := { n0.toll with cap := bigCap } }
def t1 : State := rq 0 0 1000 60 10 0 { (dk (live .solo) [] []) with toll := { n0.toll with cap := bigCap } }
def t3 : State := rq 0 0 1000 60 30 0 { (dk (live .solo) [] []) with toll := { n0.toll with cap := { bigCap with ingest := 10 } } }
def t4 : State := { rq 4 0 1000 60 30 5 (dk (live .solo) [] []) with toll := { n0.toll with cap := bigCap, takes := [(5, { (default : Take) with state := 3, rate := 2000, frameBytes := 4096, queue := 1, vol := 0, port := 255 })] } }
def t4b : State := { rq 5 0x10 1000 60 30 5 (dk (live .solo) [] []) with toll := { n0.toll with cap := bigCap, takes := [(5, { (default : Take) with state := 2, rate := 2000, frameBytes := 4096, queue := 1, vol := 0, port := 255 })] } }
def t6 : State := (t4.setF F.TOLL_REQ_CTL_TAKE 5)
def t8 : State := { t6 with toll := { t6.toll with takes := [(2, { (default : Take) with state := 5, rate := 2000 }), (5, { (default : Take) with state := 1, rate := 2000, queue := 1, vol := 0, toGen := [(0, 0, false)] }), (6, { (default : Take) with state := 2, queue := 1 })] } }
def t9 : State := { t0 with toll := { t0.toll with solo := some ⟨[], 0, 0, 0⟩ } }
def t10 : State := t1.setF F.WARDEN_GRADE_GRADE 2

/-- The hypotheses of every clause of QueuesAbortsAndHandoffs are met. -/
theorem meets_QueuesAbortsAndHandoffs :
    ((n1.queueOf (n1.getF F.DOCKET_QSEL_VAL)).kind ≠ 0) ∧ ((n1.queueOf (n1.getF F.DOCKET_QSEL_VAL)).state = 1) ∧
    ((n1.queueOf (n1.getF F.DOCKET_QSEL_VAL)).kind ≠ kTake) ∧ ((n2.queueOf (n2.getF F.DOCKET_QSEL_VAL)).kind ≠ 0) ∧
    ((n2.queueOf (n2.getF F.DOCKET_QSEL_VAL)).state = 0) ∧ ((n2.queueOf (n2.getF F.DOCKET_QSEL_VAL)).state ≠ 1) ∧ (0 < 65536) ∧
    ((n1.tagOf 0).state = TagState.waiting) ∧ ((n1.tagOf 0).chain = 0) ∧
    ((n1.queueOf (n1.tagOf 0).queue).kind = kNvme ∨ (n1.queueOf (n1.tagOf 0).queue).kind = kAdmin) ∧ (1 < 65536) ∧
    ((n1.tagOf 1).state = TagState.dispatched) ∧ ((n1.tagOf 1).committing = false) ∧ ((n1.tagOf 1).chain = 0) ∧
    ((n1.tagOf 1).ended = false) ∧ ((n1.tagOf 1).aborted = false) ∧ (3 < 65536) ∧ ((n1.tagOf 3).state = TagState.completing) ∧
    ((n1.tagOf 3).aborted = true) ∧ (2 < 65536) ∧ ((n1.tagOf 2).state = TagState.completing) ∧ ((n1.tagOf 2).aborted = false) ∧
    (5 < 65536) ∧ ((n1.tagOf 5).state = TagState.free) ∧ (n1.selfFenced = false) ∧ (n1.withheld 2 = false) ∧
    ((n1.queueOf (n1.tagOf 2).queue).kind = kNvme ∨ (n1.queueOf (n1.tagOf 2).queue).kind = kAdmin) ∧
    ((n1.queueOf (n1.tagOf 2).queue).state ≠ 2) ∧ ((n1.tagOf 2).late = [] ∨ (n1.tagOf 2).late = [[4, 1]]) ∧
    ((n1.tagOf 2).entry ≠ 8) ∧ ((n3.tagOf 0).state = TagState.waiting) ∧ ((n3.tagOf 0).tollPassed = false) ∧
    ((n3.tagOf 0).tollFrom ≠ 0) ∧ ((n3.queueOf (n3.tagOf 0).queue).cls = 2) ∧ ((n3.queueOf (n3.tagOf 0).queue).kind = kNvme) ∧
    (∀ p ∈ n4.docket.tags, p.2.state ≠ TagState.waiting ∨ p.2.tollPassed = true) ∧
    (AMap.wf (fun x => default) n4.toll.takes = true) := by
  refine ⟨?_, ?_, ?_, ?_, ?_, ?_, ?_, ?_, ?_, ?_, ?_, ?_, ?_, ?_, ?_, ?_, ?_, ?_, ?_, ?_, ?_, ?_, ?_, ?_, ?_, ?_, ?_, ?_, ?_, ?_, ?_, ?_, ?_, ?_, ?_, ?_, ?_⟩ <;> decide +kernel

/-- The hypotheses of every clause of TakesAreGrantedAndEnd are met. -/
theorem meets_TakesAreGrantedAndEnd :
    (t0.getF F.TOLL_REQ_CTL_BUSY ≠ 1) ∧ (t0.selfFenced = false) ∧ (t0.toll.solo = none) ∧
    (t0.reqStatus (parseReq (List.flatMap (fun k => leBytes 8 (t0.getN (R.TOLL_REQ_DATA + 8 * k))) (upto 8))) = (0 : Status)) ∧
    ((t0.judge (parseReq (List.flatMap (fun k => leBytes 8 (t0.getN (R.TOLL_REQ_DATA + 8 * k))) (upto 8)))).status = (0 : Status) ∨ (t0.judge (parseReq (List.flatMap (fun k => leBytes 8 (t0.getN (R.TOLL_REQ_DATA + 8 * k))) (upto 8)))).status = (112 : Status)) ∧
    (t0.reqSolo (parseReq (List.flatMap (fun k => leBytes 8 (t0.getN (R.TOLL_REQ_DATA + 8 * k))) (upto 8))) = false ∨ t0.mode ≠ Mode.paired) ∧
    ((parseReq (List.flatMap (fun k => leBytes 8 (t0.getN (R.TOLL_REQ_DATA + 8 * k))) (upto 8))).extend = false) ∧
    (t4.getF F.TOLL_REQ_CTL_BUSY ≠ 1) ∧ (t4.selfFenced = false) ∧ (t4.toll.solo = none) ∧
    (t4.reqStatus (parseReq (List.flatMap (fun k => leBytes 8 (t4.getN (R.TOLL_REQ_DATA + 8 * k))) (upto 8))) = (0 : Status)) ∧
    ((t4.judge (parseReq (List.flatMap (fun k => leBytes 8 (t4.getN (R.TOLL_REQ_DATA + 8 * k))) (upto 8)))).status = (0 : Status) ∨ (t4.judge (parseReq (List.flatMap (fun k => leBytes 8 (t4.getN (R.TOLL_REQ_DATA + 8 * k))) (upto 8)))).status = (112 : Status)) ∧
    (t4.reqSolo (parseReq (List.flatMap (fun k => leBytes 8 (t4.getN (R.TOLL_REQ_DATA + 8 * k))) (upto 8))) = false ∨ t4.mode ≠ Mode.paired) ∧
    ((parseReq (List.flatMap (fun k => leBytes 8 (t4.getN (R.TOLL_REQ_DATA + 8 * k))) (upto 8))).extend = true) ∧
    (t3.getF F.TOLL_REQ_CTL_BUSY ≠ 1) ∧ (t3.selfFenced = false) ∧ (t3.toll.solo = none) ∧
    (t3.reqStatus (parseReq (List.flatMap (fun k => leBytes 8 (t3.getN (R.TOLL_REQ_DATA + 8 * k))) (upto 8))) = (0 : Status)) ∧
    ((t3.judge (parseReq (List.flatMap (fun k => leBytes 8 (t3.getN (R.TOLL_REQ_DATA + 8 * k))) (upto 8)))).status = (8305 : Status) ∨ (t3.judge (parseReq (List.flatMap (fun k => leBytes 8 (t3.getN (R.TOLL_REQ_DATA + 8 * k))) (upto 8)))).status = (8306 : Status)) ∧
    (t10.getF F.TOLL_REQ_CTL_BUSY ≠ 1) ∧ (t10.selfFenced = false) ∧ (t10.toll.solo = none) ∧
    (t10.reqStatus (parseReq (List.flatMap (fun k => leBytes 8 (t10.getN (R.TOLL_REQ_DATA + 8 * k))) (upto 8))) = (0 : Status)) ∧
    (t10.grade = 2) ∧ (t6.getF F.TOLL_REQ_CTL_BUSY ≠ 1) ∧ (t6.getF F.TOLL_REQ_CTL_TAKE < 64) ∧
    (1 ≤ (t6.takeOf (t6.getF F.TOLL_REQ_CTL_TAKE)).state) ∧ ((t6.takeOf (t6.getF F.TOLL_REQ_CTL_TAKE)).state ≤ 3) ∧
    ((t8.takeOf 5).state = 1) ∧ ((t4b.takeOf 5).state = 2) ∧ ((t8.takeOf 2).state = 5) ∧
    (t9.toll.solo = some { block := [], route := 0, peer := 0, ref := 0 : TakeReq }) ∧ (t9.toll.waiting = []) ∧
    ({ block := [], route := 0, peer := 0, ref := 0 : TakeReq }.route = 0) ∧ (t0.power = Power.on) := by
  refine ⟨?_, ?_, ?_, ?_, ?_, ?_, ?_, ?_, ?_, ?_, ?_, ?_, ?_, ?_, ?_, ?_, ?_, ?_, ?_, ?_, ?_, ?_, ?_, ?_, ?_, ?_, ?_, ?_, ?_, ?_, ?_, ?_, ?_, ?_, ?_⟩ <;> decide +kernel

end Sys2Proof.Tests.Toll

namespace Sys2Proof.Tests.Units

def e3 : Eng := ⟨.strongroom, 0, 0⟩
def b0 : State := live .service
def b1 : State := (((b0.setF (F.PRESS_LANE_STATE.at 26) 3).setF F.PRESS_LANE_SEL_VAL 26).setF F.MILL_CORE_SEL_VAL 16).setF F.ASSAY_LANE_SEL_VAL 15
def b2 : State := (b1.setF (F.MILL_CORE_STATE.at 16) 3).setF (F.ASSAY_LANE_STATE.at 15) 3
def b3 : State := { (b0.setF (F.MILL_CORE_STATE.at 3) 5).setF (F.MILL_CORE_HOLDER.at 3) 1 with mill := { b0.mill with clear := [(3, { (default : KeySlot) with state := 1 })] } }
def op (imm : Nat) (ra n : Nat) : AccelOp := { (default : AccelOp) with op := .priv, imm := imm, ra := BitVec.ofNat 64 ra, n := n, rd := 7 }
def cx : Ctx := { (default : Ctx) with state := .ready, pc := 40, codeLen := 400, pend := [7] }
def b4 : State := { b0 with hands := { b0.hands with ctxs := [(e3.key, { cx with ops := [op 0x22 0x11F 5, op 0x21 5 5] })] }, mill := { b0.mill with slots := [(4, { (default : KeySlot) with state := 2, kind := 1 }), (5, { (default : KeySlot) with state := 2, kind := 1 })] } }
def c0 : State := ((b0.setF F.PRESS_STREAM_SEL_VAL 3).setF (F.PRESS_STREAM_CFG_OPEN.at 3) 1)
def c1 : State := ((((c0.setF (F.PRESS_STREAM_CFG_TARGET.at 3) 5).setF (F.PRESS_STREAM_CFG_TARGET_MIN.at 3) 1).setF (F.PRESS_STREAM_CFG_TARGET_MAX.at 3) 15).setF F.PRESS_ADAPT_MIN_GRAINS 0).setF F.PRESS_ADAPT_FIT_FLOOR 90
def asy (f : Assay → Assay) : State := { b0 with assay := f b0.assay }
def g0 : State := asy (fun a => { a with busy := true, feed := false, len := 70, addr := 0x1000, alg := 1 })
def g1 : State := (asy (fun a => { a with busy := true, feed := true, len := 12, addr := 0, alg := 0, data := [1,2,3,4,5,6,7,8] })).setN R.ASSAY_DMA_COUNT 8
def g2 : State := (asy (fun a => { a with busy := true, feed := true, len := 8, addr := 0, alg := 2, data := [1,2,3,4,5,6,7,8] })).setN R.ASSAY_DMA_COUNT 8
def g3 : State := b0.setF F.ASSAY_DMA_CTL_ALG 3
def g6 : State := { ((b0.setF F.ASSAY_DMA_CTL_DONE 1).setN R.ASSAY_DIGEST 5).setN R.ASSAY_EXPECT 5 with assay := { b0.assay with alg := 1 } }
def u0 : State := b0
def u1 : State := b0.setF (F.TALLY_U_CFG_OWNER.at 0) 1
def u3 : State := (upto 32).foldl (fun s n => s.setF (F.TALLY_U_CFG_OWNER.at n) 3) b0

/-- The hypotheses of every clause of LanesAndCoresAreTestedAndRetired are met. -/
theorem meets_LanesAndCoresAreTestedAndRetired :
    (b0.getF F.PRESS_LANE_SEL_VAL < 27) ∧ (b0.getF F.PRESS_LANE_CTL_BUSY ≠ 1) ∧ (b1.getF F.PRESS_LANE_SEL_VAL < 27) ∧
    (b1.getF F.PRESS_LANE_CTL_BUSY ≠ 1) ∧ (b1.getF (F.PRESS_LANE_STATE.at (b1.getF F.PRESS_LANE_SEL_VAL)) = 3) ∧
    (b0.getF (F.PRESS_LANE_STATE.at (b0.getF F.PRESS_LANE_SEL_VAL)) ≠ 3) ∧ (4 ≤ b0.pressLeft (b0.getF F.PRESS_LANE_SEL_VAL)) ∧
    (b0.retireDefers kPress (b0.getF F.PRESS_LANE_SEL_VAL) = none) ∧ (b0.pressHeld (b0.getF F.PRESS_LANE_SEL_VAL) = false) ∧
    (b0.getF F.MILL_CORE_SEL_VAL < 17) ∧ (b0.getF F.MILL_CORE_CTL_BUSY ≠ 1) ∧ (b2.getF F.MILL_CORE_SEL_VAL < 17) ∧
    (b2.getF F.MILL_CORE_CTL_BUSY ≠ 1) ∧ (b2.mode = Mode.service) ∧
    (b2.getF (F.MILL_CORE_STATE.at (b2.getF F.MILL_CORE_SEL_VAL)) = 3) ∧
    (b0.getF (F.MILL_CORE_STATE.at (b0.getF F.MILL_CORE_SEL_VAL)) ≠ 3) ∧ (12 ≤ b0.millLeft (b0.getF F.MILL_CORE_SEL_VAL)) ∧
    (b0.retireDefers kMill (b0.getF F.MILL_CORE_SEL_VAL) = none) ∧ (b0.millHeld (b0.getF F.MILL_CORE_SEL_VAL) = false) ∧
    (b0.getF F.ASSAY_LANE_SEL_VAL < 16) ∧ (b0.getF F.ASSAY_LANE_CTL_BUSY ≠ 1) ∧ (b2.getF F.ASSAY_LANE_SEL_VAL < 16) ∧
    (b2.getF F.ASSAY_LANE_CTL_BUSY ≠ 1) ∧ (b2.getF (F.ASSAY_LANE_STATE.at (b2.getF F.ASSAY_LANE_SEL_VAL)) = 3) ∧
    (b0.getF (F.ASSAY_LANE_STATE.at (b0.getF F.ASSAY_LANE_SEL_VAL)) ≠ 3) ∧ (12 < b0.assayLeft) ∧
    (b0.retireDefers kAssay (b0.getF F.ASSAY_LANE_SEL_VAL) = none) ∧ (b0.warden.running = none) ∧ (0 < 27) ∧
    (b0.getF (F.PRESS_LANE_STATE.at 0) < 2) ∧ (0 < 17) ∧ (b0.getF (F.MILL_CORE_STATE.at 0) ≠ 3) ∧ (0 < 16) ∧
    (b0.laneRetired 0 = false) ∧ (b0.getF (F.ASSAY_LANE_STATE.at 0) ≠ 3) ∧ (3 < 17) ∧ (b3.getF (F.MILL_CORE_STATE.at 3) = 5) ∧
    (∀ m ∈ b3.mill.msgs, m.core ≠ 3 + 1) ∧ ((b4.ctx e3).ops[0]? = some (op 34 287 5)) ∧ ((b4.ctx e3).state = CtxState.ready) ∧
    ((op 34 287 5).op = AccelKind.priv) ∧ ((op 34 287 5).imm = 34) ∧ (b4.lockBefore (op 34 287 5).n = false) ∧
    (b4.lockPick (BitVec.toNat (op 34 287 5).ra % 32) = some 16) ∧ (16 < 17) ∧ (b4.millHeld 16 = false) ∧
    ((b4.ctx e3).ops[1]? = some (op 33 5 5)) ∧ ((op 33 5 5).op = AccelKind.priv) ∧ ((op 33 5 5).imm = 33) ∧
    ((op 33 5 5).n < 4096) ∧ ((op 33 5 5).n ≠ 63) ∧ ((b4.mill.slots.get (op 33 5 5).n).state = 2) ∧
    (b4.slotInFlight (op 33 5 5).n = 0) := by
  refine ⟨?_, ?_, ?_, ?_, ?_, ?_, ?_, ?_, ?_, ?_, ?_, ?_, ?_, ?_, ?_, ?_, ?_, ?_, ?_, ?_, ?_, ?_, ?_, ?_, ?_, ?_, ?_, ?_, ?_, ?_, ?_, ?_, ?_, ?_, ?_, ?_, ?_, ?_, ?_, ?_, ?_, ?_, ?_, ?_, ?_, ?_, ?_, ?_, ?_, ?_, ?_, ?_, ?_⟩ <;> decide +kernel

/-- The hypotheses of every clause of StreamsAdaptAndAssayJobs are met. -/
theorem meets_StreamsAdaptAndAssayJobs :
    (streamValid (b0.getF F.PRESS_STREAM_SEL_VAL) = true) ∧
    (b0.getF F.PRESS_STREAM_SEL_VAL < 4096 ∨ b0.streamOpen (b0.getF F.PRESS_STREAM_SEL_VAL) = true) ∧
    (F.PRESS_STREAM_CFG_TARGET_MIN.get (18446744073709551615 : Word) ≠ 0) ∧
    (F.PRESS_STREAM_CFG_TARGET_MIN.get (18446744073709551615 : Word) ≤ F.PRESS_STREAM_CFG_TARGET_MAX.get (18446744073709551615 : Word)) ∧
    (F.PRESS_STREAM_CFG_TARGET_MIN.get (72623859790382856 : Word) = 0 ∨ F.PRESS_STREAM_CFG_TARGET_MAX.get (72623859790382856 : Word) < F.PRESS_STREAM_CFG_TARGET_MIN.get (72623859790382856 : Word)) ∧
    (List.filter (fun k => c1.streamOpen k) (upto 64) = [3]) ∧ (c1.getF (F.PRESS_STREAM_CFG_PIN.at 3) = 0) ∧
    (c1.getF (F.PRESS_STREAM_CFG_RAW_ONLY.at 3) = 0) ∧ (c1.press.closing = []) ∧
    (c1.getF F.PRESS_ADAPT_MIN_GRAINS ≤ fits (c1.histGrowth 3) 16) ∧ (1 ≤ c1.getF (F.PRESS_STREAM_CFG_TARGET_MIN.at 3)) ∧
    (c1.getF (F.PRESS_STREAM_CFG_TARGET_MIN.at 3) ≤ bestTarget (c1.histGrowth 3) (c1.getF F.PRESS_ADAPT_FIT_FLOOR) (c1.getF (F.PRESS_STREAM_CFG_TARGET_MIN.at 3)) (c1.getF (F.PRESS_STREAM_CFG_TARGET_MAX.at 3))) ∧
    (bestTarget (c1.histGrowth 3) (c1.getF F.PRESS_ADAPT_FIT_FLOOR) (c1.getF (F.PRESS_STREAM_CFG_TARGET_MIN.at 3)) (c1.getF (F.PRESS_STREAM_CFG_TARGET_MAX.at 3)) ≤ c1.getF (F.PRESS_STREAM_CFG_TARGET_MAX.at 3)) ∧
    (c1.getF (F.PRESS_STREAM_CFG_TARGET_MIN.at 3) ≤ c1.getF (F.PRESS_STREAM_CFG_TARGET.at 3)) ∧
    (c1.getF (F.PRESS_STREAM_CFG_TARGET.at 3) ≤ c1.getF (F.PRESS_STREAM_CFG_TARGET_MAX.at 3)) ∧ (b0.assay.busy = false) ∧
    (b0.getF F.ASSAY_DMA_CTL_ALG ≠ 3) ∧ (g0.assay.busy = true) ∧ (g3.assay.busy = false) ∧ (g3.getF F.ASSAY_DMA_CTL_ALG = 3) ∧
    (g0.assay.feed = false) ∧ (g0.assay.len < 2 ^ 40) ∧ ((default : Sys2Proof.Env).status = (0 : Status)) ∧
    ({ status := (61520 : Status), n := 0, m := 0, data := [] : Sys2Proof.Env }.status ≠ (0 : Status)) ∧
    (g1.assay.busy = true) ∧ (g1.assay.feed = true) ∧ (g2.assay.busy = true) ∧ (g2.assay.feed = true) ∧
    (g2.getN R.ASSAY_DMA_COUNT = g2.assay.len) ∧ (g1.getN R.ASSAY_DMA_COUNT ≠ g1.assay.len) ∧
    (g6.compareOperand = some (leBytes 32 5)) ∧ (b0.compareOperand = none) := by
  refine ⟨?_, ?_, ?_, ?_, ?_, ?_, ?_, ?_, ?_, ?_, ?_, ?_, ?_, ?_, ?_, ?_, ?_, ?_, ?_, ?_, ?_, ?_, ?_, ?_, ?_, ?_, ?_, ?_, ?_, ?_, ?_, ?_⟩ <;> decide +kernel

/-- The hypotheses of every clause of TallyUnitsCheck are met. -/
theorem meets_TallyUnitsCheck :
    (0 < 32) ∧ (1 ≤ 1) ∧ (1 ≤ 5) ∧ (u0.getF (F.TALLY_U_CFG_OWNER.at 0) = 0) ∧
    (∀ k < 0, u0.getF (F.TALLY_U_CFG_OWNER.at k) ≠ 0) ∧ (∀ k < 32, u3.getF (F.TALLY_U_CFG_OWNER.at k) ≠ 0) ∧
    (u1.getF (F.TALLY_U_CFG_OWNER.at 0) = 1) ∧ (0 < 3) ∧ (1 < 32) ∧ (u0.getF (F.TALLY_U_CFG_OWNER.at 1) ≠ 1) ∧
    (Instr.tallyRelease 1 1 ∈ [Instr.tallyRelease 1 1, Instr.tallyFeedB 1 1 (17375506680932366216 : Word), Instr.tallyFeedH 1 1 (17375506680932366216 : Word), Instr.tallyFeedW 1 1 (17375506680932366216 : Word), Instr.tallyFeedD 1 1 (17375506680932366216 : Word), Instr.tallyValueWrite 1 1 (17375506680932366216 : Word), Instr.tallyCompare 1 1, Instr.tallyReset 1 1]) := by
  refine ⟨?_, ?_, ?_, ?_, ?_, ?_, ?_, ?_, ?_, ?_, ?_⟩ <;> decide +kernel

end Sys2Proof.Tests.Units

namespace Sys2Proof.Tests.Carrier

def pr : Peer := { (default : Peer) with used := true, gen := 3, node := 0xABC, port := 0, state := 1, role := 1, rxEpoch := 7, floor := 10, txEpoch := 2, txSeq := 4 }
def boots (s : State) : State := { s with strong := { s.strong with ledger := { s.strong.ledger with entries := (upto 26).map (fun k => (k + 1, (⟨2, 0, 0⟩ : BootEntry))) } } }
def ps (s : State) (p : Peer) : State := { ((boots (up s)).setN R.FABRIC_LINK 2).setF (F.FABRIC_SADDR_STATE_SERVING.at 0) 1 with car := { s.car with peers := [(5, p), (65536, { p with port := 8 })] } }
def hd : CarHdr := { (default : CarHdr) with node := 0xABC, port := 0, epoch := 7, seq := 10, addr := 0 }
def hm : CarHdr := { hd with port := 8, flags := 16 }
def feats (s : State) : State := s.setN R.IDENT_FEAT_MGMT 0xFFFFFFFF
def p0 : State := feats (ps (live .solo) pr)
def hello : List Byte := leBytes 4 1 ++ leBytes 4 0 ++ leBytes 4 10 ++ leBytes 1 1 ++ leBytes 3 0
def ackB : List Byte := leBytes 4 2 ++ leBytes 4 4 ++ List.replicate 8 0 ++ leBytes 4 6 ++ leBytes 2 0 ++ leBytes 2 0
def mr : List Byte := leBytes 4 R.IDENT_FEAT_OFFER ++ [8, 0, 0, 0]
def mw : List Byte := mr ++ leBytes 8 0x77
def zz (n : Nat) : List Byte := List.replicate n 0
def winAt (s : State) : State := (((((s.setF (F.CARRIER_REG_INFO_STATE.at 4) 1).setF (F.CARRIER_REG_INFO_KIND.at 4) 2).setF (F.CARRIER_REG_INFO_ACCESS.at 4) 3).setF (F.CARRIER_REG_INFO_LENGTH.at 4) 2).setF (F.CARRIER_REG_BASE_ALL.at 4) 0x10000).setF (F.CARRIER_REG_HANDLE_ALL.at 4) 4
def w0 : State := winAt p0
def w1 : State := (winAt p0).setF (F.CARRIER_REG_INFO_KIND.at 4) 1 |>.setF (F.CARRIER_REG_PEER_ALL.at 4) 0xABC
def w2 : State := { w1 with toll := { w1.toll with takes := [(3, { (default : Take) with state := 2, regIdx := 5, frameBytes := 4096, regFrames := 4, rate := 100, slots := [(1, some 1)], covered := [(1, [(0, 4096)])] })] } }
def wr : List Byte := leBytes 8 4 ++ leBytes 8 16 ++ leBytes 8 0 ++ [1, 2, 3]
def rdm : List Byte := leBytes 8 4 ++ leBytes 8 16 ++ leBytes 4 3 ++ leBytes 4 9
def fd : List Byte := leBytes 8 4 ++ leBytes 4 1 ++ leBytes 4 4096
def qo : List Byte := leBytes 2 7 ++ leBytes 2 16 ++ leBytes 2 1 ++ leBytes 2 0
def num : Nat := 3 * 65536 + 5
def qs (st : Nat) : State := { p0 with docket := { p0.docket with queues := [(2, { (default : Queue) with kind := kCarrier, depth := 16, source := num, state := st })], vols := [(0, { (default : Vol) with size := 100000, slot := 1 })] } }
def q0 : State := qs 0
def q1 : State := qs 1
def q2 : State := { q0 with docket := { q0.docket with tags := [(6, { (default : Tag) with state := .dispatched, queue := 2, cid := 9, reeve := 1 })] } }
def bigCap : Cap := { (default : Cap) with ingest := 10^12, fold := 10^12, read := 10^12, slcFree := 10^12, budget := 10^12, spaceFree := 10^18, granaryS := 100000 }
def treq : List Byte := leBytes 2 1 ++ leBytes 2 0 ++ leBytes 2 0 ++ [0, 0] ++ leBytes 8 1000 ++ leBytes 4 4096 ++ leBytes 4 0 ++ leBytes 4 60 ++ leBytes 4 10 ++ leBytes 8 0 ++ leBytes 8 0 ++ zz 16
def q3 : State := { (q0.setF (F.HOLD_CMN_OWNED.at 0) 1) with toll := { q0.toll with cap := bigCap } }

/-- The hypotheses of every clause of CarrierSessionsAndRegisters are met. -/
theorem meets_CarrierSessionsAndRegisters :
    (heard p0 hd 1 hello 5) ∧ ((fieldAt hello 0 4 &&& p0.mgmtWord 0).testBit 0 = true) ∧ (fieldAt hello 12 1 ≠ 5) ∧
    ((p0.peerAt 5).session = 0 ∨ (p0.peerAt 5).rxEpoch < (p0.peerAt 5).session) ∧ (heard p0 hd 3 (zz 8) 5) ∧
    (heard p0 hd 4 ackB 5) ∧ (fieldAt ackB 0 4 = (p0.peerAt 5).txEpoch) ∧ (fieldAt ackB 20 2 = 0) ∧
    (∀ m ∈ (p0.peerAt 5).out, m.sent = true ∧ m.wait = CarWait.nothing ∧ ackCovers ackB m.seq = true) ∧ (hm.port = 8) ∧
    (p0.pins.misoAnswers = true) ∧ (p0.latch Path.carrierM = default) ∧ (0 < 4) ∧
    (fieldAt mr 0 4 = R.IDENT_FEAT_OFFER + 8 * 0) ∧ (fieldAt mr 4 1 = 8) ∧ (heard p0 hm 23 mr 65536) ∧
    (fieldAt mw 0 4 = R.IDENT_FEAT_OFFER + 8 * 0) ∧ (fieldAt mw 4 1 = 8) ∧ (heard p0 hm 25 mw 65536) ∧
    (heard p0 hd 2 (zz 20) 5) ∧ (heard p0 hd 10 (zz 8) 5) ∧ (heard p0 hd 13 ackB 5) ∧ (heard p0 hd 15 (zz 8) 5) ∧
    (heard p0 hd 16 ([(0 : Byte), (0 : Byte), (1 : Byte)] ++ zz 13) 5) ∧ (heard p0 hd 18 (zz 64) 5) ∧
    (heard p0 hd 20 (zz 32) 5) ∧ (heard p0 hm 24 hello 65536) ∧ (heard p0 hm 26 (zz 64) 65536) ∧ (0 = 0 ∨ 0 = 21 ∨ 26 < 0) ∧
    (0 < 256) ∧ (reaches p0 hd hello.length 5) := by
  unfold heard reaches
  refine ⟨?_, ?_, ?_, ?_, ?_, ?_, ?_, ?_, ?_, ?_, ?_, ?_, ?_, ?_, ?_, ?_, ?_, ?_, ?_, ?_, ?_, ?_, ?_, ?_, ?_, ?_, ?_, ?_, ?_, ?_, ?_⟩ <;> decide +kernel

/-- The hypotheses of every clause of CarrierDataQueuesAndTakes are met. -/
theorem meets_CarrierDataQueuesAndTakes :
    (heard w0 hd 5 wr 5) ∧ ((carAt w0 hd wr.length 5).regCheck 5 (fieldAt wr 0 8) w0.now 1 = (0 : Status)) ∧
    (w0.getF (F.CARRIER_REG_INFO_KIND.at (fieldAt wr 0 8 % 1048576)) = 2) ∧
    (fieldAt wr 8 8 + (wr.length - 24) ≤ w0.regLen (fieldAt wr 0 8 % 1048576)) ∧ (heard w0 hd 6 rdm 5) ∧
    ((carAt w0 hd rdm.length 5).regCheck 5 (fieldAt rdm 0 8) w0.now 2 = (0 : Status)) ∧
    (fieldAt rdm 8 8 + fieldAt rdm 16 4 ≤ w0.regLen (fieldAt rdm 0 8 % 1048576)) ∧
    (w0.poisoned (w0.getF (F.CARRIER_REG_BASE_ALL.at (fieldAt rdm 0 8 % 1048576)) + fieldAt rdm 8 8) (fieldAt rdm 16 4) = false) ∧
    (heard w0 hd 7 wr 5) ∧ (w0.car.reads.get (fieldAt wr 0 4) = default) ∧ (heard w2 hd 8 fd 5) ∧
    ((carAt w2 hd fd.length 5).regCheck 5 (fieldAt fd 0 8) w2.now 1 = (0 : Status)) ∧
    (w2.getF (F.CARRIER_REG_INFO_KIND.at (fieldAt fd 0 8 % 1048576)) = 1) ∧
    (w2.takeOfReg (fieldAt fd 0 8 % 1048576) = some 3) ∧
    ((w2.takeOf 3).slots.get ((w2.takeOf 3).slotOf (fieldAt fd 8 4)) = some (fieldAt fd 8 4)) ∧
    ((w2.takeOf 3).slotLanded.get ((w2.takeOf 3).slotOf (fieldAt fd 8 4)) = false) ∧
    (fieldAt fd 12 4 = (w2.takeOf 3).frameBytes) ∧ ((w2.takeOf 3).frameBytes = (w2.takeOf 3).arrivedOf (fieldAt fd 8 4)) ∧
    (heard w0 hd 9 qo 5) ∧ (w0.reservedExt + fieldAt qo 2 2 ≤ 61440) ∧ (w0.queuesUsed < 4096) ∧
    (heard q1 hd 11 [(2 : Byte), (0 : Byte), (1 : Byte), (0 : Byte), (0 : Byte), (0 : Byte), (0 : Byte), (0 : Byte)] 5) ∧
    (q1.ownQueue 5 (fieldAt [(2 : Byte), (0 : Byte), (1 : Byte), (0 : Byte), (0 : Byte), (0 : Byte), (0 : Byte), (0 : Byte)] 0 2) = true) ∧
    (fieldAt [(2 : Byte), (0 : Byte), (1 : Byte), (0 : Byte), (0 : Byte), (0 : Byte), (0 : Byte), (0 : Byte)] 2 1 = 1) ∧
    ((q1.queueOf (fieldAt [(2 : Byte), (0 : Byte), (1 : Byte), (0 : Byte), (0 : Byte), (0 : Byte), (0 : Byte), (0 : Byte)] 0 2)).state = 1) ∧
    (heard q0 hd 11 [(2 : Byte), (0 : Byte), (3 : Byte), (0 : Byte), (0 : Byte), (0 : Byte), (0 : Byte), (0 : Byte)] 5) ∧
    (q0.ownQueue 5 (fieldAt [(2 : Byte), (0 : Byte), (3 : Byte), (0 : Byte), (0 : Byte), (0 : Byte), (0 : Byte), (0 : Byte)] 0 2) = true) ∧
    (fieldAt [(2 : Byte), (0 : Byte), (3 : Byte), (0 : Byte), (0 : Byte), (0 : Byte), (0 : Byte), (0 : Byte)] 2 1 = 3) ∧
    (q0.tagsOfQueue (fieldAt [(2 : Byte), (0 : Byte), (3 : Byte), (0 : Byte), (0 : Byte), (0 : Byte), (0 : Byte), (0 : Byte)] 0 2) = []) ∧
    (heard w0 hd 14 [(2 : Byte), (0 : Byte), (1 : Byte), (0 : Byte), (0 : Byte), (0 : Byte), (0 : Byte), (0 : Byte)] 5) ∧
    (w0.ownQueue 5 (fieldAt [(2 : Byte), (0 : Byte), (1 : Byte), (0 : Byte), (0 : Byte), (0 : Byte), (0 : Byte), (0 : Byte)] 0 2) = false) ∧
    (heard q2 hd 14 [(2 : Byte), (0 : Byte), (9 : Byte), (0 : Byte), (0 : Byte), (0 : Byte), (0 : Byte), (0 : Byte)] 5) ∧
    (q2.ownQueue 5 (fieldAt [(2 : Byte), (0 : Byte), (9 : Byte), (0 : Byte), (0 : Byte), (0 : Byte), (0 : Byte), (0 : Byte)] 0 2) = true) ∧
    (q2.tagByCid (fieldAt [(2 : Byte), (0 : Byte), (9 : Byte), (0 : Byte), (0 : Byte), (0 : Byte), (0 : Byte), (0 : Byte)] 0 2) (fieldAt [(2 : Byte), (0 : Byte), (9 : Byte), (0 : Byte), (0 : Byte), (0 : Byte), (0 : Byte), (0 : Byte)] 2 2) = some 6) ∧
    ((q2.tagOf 6).state = TagState.dispatched) ∧ ((q2.tagOf 6).catchable = true) ∧ ((q2.tagOf 6).aborted = false) ∧
    (heard q3 hd 17 treq 5) ∧ ((carAt q3 hd treq.length 5).reqStatus (parseReq treq) = (0 : Status)) ∧ (q3.toll.solo = none) ∧
    (((carAt q3 hd treq.length 5).judge (parseReq treq)).status = (0 : Status) ∨ ((carAt q3 hd treq.length 5).judge (parseReq treq)).status = (112 : Status)) ∧
    ((carAt q3 hd treq.length 5).reqSolo (parseReq treq) = false ∨ q3.mode ≠ Mode.paired) ∧ ((parseReq treq).extend = false) ∧
    (q3.queuesUsed < 4096) ∧
    (heard w2 hd 19 [(3 : Byte), (0 : Byte), (0 : Byte), (0 : Byte), (0 : Byte), (0 : Byte), (0 : Byte), (0 : Byte)] 5) ∧
    (fieldAt [(3 : Byte), (0 : Byte), (0 : Byte), (0 : Byte), (0 : Byte), (0 : Byte), (0 : Byte), (0 : Byte)] 0 1 < 64) ∧
    (1 ≤ (w2.takeOf (fieldAt [(3 : Byte), (0 : Byte), (0 : Byte), (0 : Byte), (0 : Byte), (0 : Byte), (0 : Byte), (0 : Byte)] 0 1)).state) ∧
    ((w2.takeOf (fieldAt [(3 : Byte), (0 : Byte), (0 : Byte), (0 : Byte), (0 : Byte), (0 : Byte), (0 : Byte), (0 : Byte)] 0 1)).state ≤ 3) ∧
    (heard w0 hd 22 wr 5) := by
  unfold heard reaches
  refine ⟨?_, ?_, ?_, ?_, ?_, ?_, ?_, ?_, ?_, ?_, ?_, ?_, ?_, ?_, ?_, ?_, ?_, ?_, ?_, ?_, ?_, ?_, ?_, ?_, ?_, ?_, ?_, ?_, ?_, ?_, ?_, ?_, ?_, ?_, ?_, ?_, ?_, ?_, ?_, ?_, ?_, ?_, ?_, ?_, ?_, ?_, ?_, ?_, ?_⟩ <;> decide +kernel

end Sys2Proof.Tests.Carrier

namespace Sys2Proof.Tests.Links

def pr : Peer := { (default : Peer) with used := true, gen := 3, node := 0xABC, port := 0, state := 1, role := 1, rxEpoch := 7, floor := 10, txEpoch := 2, txSeq := 4 }
def boots (s : State) : State := { s with strong := { s.strong with ledger := { s.strong.ledger with entries := (upto 26).map (fun k => (k + 1, (⟨2, 0, 0⟩ : BootEntry))) } } }
def ps (s : State) (p : Peer) : State := { ((boots (up s)).setN R.FABRIC_LINK 2).setF (F.FABRIC_SADDR_STATE_SERVING.at 0) 1 with car := { s.car with peers := [(5, p), (65536, { p with port := 8 })] } }
def hd : CarHdr := { (default : CarHdr) with node := 0xABC, port := 0, epoch := 7, seq := 10, addr := 0, declared := 9000 }
def feats (s : State) : State := s.setN R.IDENT_FEAT_MGMT 0xFFFFFFFF |>.setN (R.IDENT_FEAT_MGMT + 8) 0xFF
def msg : CarMsg := { (default : CarMsg) with seq := 3, type := 5, sent := true, wait := .nothing, rto := 900 }
def p0 : State := feats (ps (live .solo) pr)
def p1 : State := feats (ps (live .solo) { pr with out := [msg, { msg with seq := 4 }], got := 3, ce := 2, sentI := 5, ackedI := 4, ceI := 1, rate := 5000, alpha := 100 })
def p2 : State := { feats (ps (live .solo) { pr with state := 2, got := 1, sentI := 5, ackedI := 4, rate := 5000 }) with docket := { (live .solo).docket with queues := [(2, { (default : Queue) with kind := kCarrier, depth := 16, source := 3 * 65536 + 5 }), (3, { (default : Queue) with kind := kNvme, depth := 16, source := 3 * 65536 + 5 })] } }
def p4 : State := { p2 with car := { p2.car with qps := [(3, { (default : Qp) with rate := 4000, alpha := 7, cnp := true, retries := 7 })] } }
def num : Nat := 3 * 65536 + 5
def r0 : State := p1.setF F.CARRIER_PEER_SEL_VAL num
def r1 : State := p1.setF F.CARRIER_PEER_SEL_VAL (num + 65536)
def cr (base pages : Nat) (s : State) : State := ((s.setN R.CARRIER_REG_BASE base).setF F.CARRIER_REG_CTL_LENGTH pages).setF F.CARRIER_REG_CTL_ACCESS 3 |>.setN R.CARRIER_REG_PEER 5
def r2 : State := cr 0x10000 2 p0
def r4 : State := { cr 0x10000 2 p0 with plan := { p0.plan with tillBase := 0x11000, tillLen := 16 } }
def r5 : State := (p0.setF (F.CARRIER_REG_INFO_STATE.at 0) 1).setF (F.CARRIER_REG_INFO_KIND.at 0) 2
def r6 : State := (p0.setF (F.CARRIER_REG_INFO_STATE.at 3) 2).setF (F.CARRIER_REG_INFO_KIND.at 3) 2

/-- The hypotheses of every clause of CarrierTimersAndSegments are met. -/
theorem meets_CarrierTimersAndSegments :
    (0 < 8) ∧ (p0.carrierUp 0 = true) ∧ (p0.carrierUp hd.port = true) ∧ (p0.carAddr hd = true) ∧
    (p0.reasmRoom hd hd.declared = true) ∧ (p0.carFind hd = some 5) ∧ ((p0.peerAt 5).used = true) ∧
    ((p0.peerAt 5).rxEpoch = hd.epoch) ∧ ((p1.peerAt 5).used = true) ∧ (0 < (p1.peerAt 5).got) ∧
    (List.find? (fun m => decide (m.seq = 3) && m.sent) (p1.peerAt 5).out = some msg) ∧ ((p1.peerAt 5).state ≠ 2) ∧
    (∃ m ∈ (p1.peerAt 5).out, m.sent = true) ∧ ((p2.peerAt 5).state = 2) ∧ (p1.feat 67 = true) ∧ ((p1.peerAt 5).sentI ≠ 0) ∧
    ((p1.peerAt 5).ackedI ≠ 0) ∧ (AMap.wf (fun x => default) p0.car.qps = true) ∧
    (AMap.wf (fun x => default) p2.car.qps = true) ∧ (rocePair p2 3) ∧ ((p2.car.qps.get 3).retries < 7) ∧
    (AMap.wf (fun x => default) p4.car.qps = true) ∧ (rocePair p4 3) ∧ (7 ≤ (p4.car.qps.get 3).retries) ∧
    (p0.power = Power.on) ∧ (p0.mode ≠ Mode.holdup) ∧ (portOpen p0.grade (0 / 2 : ℕ) = true) := by
  unfold rocePair
  refine ⟨?_, ?_, ?_, ?_, ?_, ?_, ?_, ?_, ?_, ?_, ?_, ?_, ?_, ?_, ?_, ?_, ?_, ?_, ?_, ?_, ?_, ?_, ?_, ?_, ?_, ?_, ?_⟩ <;> decide +kernel

/-- The hypotheses of every clause of PeersRegistrationsAndAddresses are met. -/
theorem meets_PeersRegistrationsAndAddresses :
    (r0.peerLive (r0.getF F.CARRIER_PEER_SEL_VAL) = true) ∧ ((r0.peerAt (r0.getF F.CARRIER_PEER_SEL_VAL % 65536)).state ≠ 2) ∧
    ((r0.peerAt (r0.getF F.CARRIER_PEER_SEL_VAL % 65536)).pinned = true ∨ (List.filter (fun p => p.2.pinned) r0.car.peers).length < 256) ∧
    (r1.peerLive (r1.getF F.CARRIER_PEER_SEL_VAL) = false) ∧
    (Instr.peerReset ∈ [Instr.peerReset, Instr.peerPin, Instr.peerUnpin]) ∧ (r2.getF F.CARRIER_REG_CTL_BUSY ≠ 1) ∧
    (r2.getF F.CARRIER_REG_CTL_LENGTH * 4096 ≠ 0) ∧ (r2.getN R.CARRIER_REG_BASE % 4096 = 0) ∧
    (r2.getN R.CARRIER_REG_BASE + r2.getF F.CARRIER_REG_CTL_LENGTH * 4096 ≤ r2.globalTop) ∧
    (r2.inTill (r2.getN R.CARRIER_REG_BASE) (r2.getF F.CARRIER_REG_CTL_LENGTH * 4096) = false) ∧
    (r2.inStrong (r2.getN R.CARRIER_REG_BASE) (r2.getF F.CARRIER_REG_CTL_LENGTH * 4096) = false) ∧
    (r2.regFree 1048576 0 < 1048576) ∧ (r0.getF F.CARRIER_REG_CTL_BUSY ≠ 1) ∧
    (r0.getF F.CARRIER_REG_CTL_LENGTH * 4096 = 0 ∨ r0.getN R.CARRIER_REG_BASE % 4096 ≠ 0) ∧
    (r4.getF F.CARRIER_REG_CTL_BUSY ≠ 1) ∧ (r4.getF F.CARRIER_REG_CTL_LENGTH * 4096 ≠ 0) ∧
    (r4.getN R.CARRIER_REG_BASE % 4096 = 0) ∧
    (r4.getN R.CARRIER_REG_BASE + r4.getF F.CARRIER_REG_CTL_LENGTH * 4096 ≤ r4.globalTop) ∧
    (r4.inTill (r4.getN R.CARRIER_REG_BASE) (r4.getF F.CARRIER_REG_CTL_LENGTH * 4096) = true ∨ r4.inStrong (r4.getN R.CARRIER_REG_BASE) (r4.getF F.CARRIER_REG_CTL_LENGTH * 4096) = true) ∧
    (r5.getF F.CARRIER_REG_CTL_BUSY ≠ 1) ∧ (r5.getF (F.CARRIER_REG_INFO_STATE.at (r5.getF F.CARRIER_REG_SEL_VAL)) = 1) ∧
    (r5.getF (F.CARRIER_REG_INFO_KIND.at (r5.getF F.CARRIER_REG_SEL_VAL)) = 2) ∧ (3 < 1048576) ∧
    (r6.getF (F.CARRIER_REG_INFO_STATE.at 3) = 2) ∧ (0 < 16) ∧ (r0.getF (F.FABRIC_SADDR_STATE_SERVING.at 0) ≠ 0) ∧
    (r0.deaf = false) := by
  refine ⟨?_, ?_, ?_, ?_, ?_, ?_, ?_, ?_, ?_, ?_, ?_, ?_, ?_, ?_, ?_, ?_, ?_, ?_, ?_, ?_, ?_, ?_, ?_, ?_, ?_, ?_, ?_⟩ <;> decide +kernel

end Sys2Proof.Tests.Links

namespace Sys2Proof.Tests.Sieve

def e0 : Eng := ⟨.hand, 2, 5⟩
def vol (n : Nat) : Vol := { (default : Vol) with size := n, slot := 1, commons := 0 }
def vols (s : State) : State := ({ s with docket := { s.docket with vols := [(0, vol 1000), (1, { vol 1000 with slot := 0 }), (2, { vol 500 with commons := 3 })] } }.setF (F.HOLD_CMN_OWNED.at 0) 1).setN R.IDENT_FEAT_MGMT (2 ^ 64 - 1)
def a0 : State := vols (live .solo)
def a2 : State := (a0.setF F.SIEVE_VOL_SEL_VAL 1).setF (F.SIEVE_VOL_CFG_DEDUP.at 1) 0
def a3 : State := here { a2 with mode := .paired }
def a4 : State := a0.setF F.SIEVE_SNAP_CTL_BUSY 1
def a5 : State := a0.setF (F.SIEVE_SNAP_SET_ALL.nth 0) (0x8000 + 0x8001 * 2^16)
def a7 : State := here ({ a5 with mode := .paired }.setF (F.SIEVE_SNAP_SET_ALL.nth 0) (0x8000 + 0x8002 * 2^16))
def sn (x : Snap) : State := ((a0.setF F.SIEVE_SNAP_ARG_VOLUME 0).setF F.SIEVE_SNAP_ARG_EPOCH 4).setF F.SIEVE_SNAP_ARG_AT_VOLUME 9
def snp (x : Snap) : State := { sn x with sieve := { (sn x).sieve with snaps := [(4, x)] } }
def a8 : State := snp { (default : Snap) with state := 1 }
def a9 : State := { snp { (default : Snap) with state := 1, presented := 10 } with docket := { a0.docket with vols := [(0, vol 1000), (9, { vol 1000 with presented := 5, presVol := 0 })] } }
def op (k : AccelKind) : AccelOp := { (default : AccelOp) with op := k, rd := 7, da := mkDesc true true true false 0 32 0x2800, db := mkDesc true true true false 0 16 0x2840, ra := 5 }
def cx : Ctx := { (default : Ctx) with state := .ready, pc := 40, codeLen := 400, pend := [7], tag := 9, ops := [op .sieve, op .mapL] }
def tg0 : Tag := { (default : Tag) with state := .dispatched, queue := 1, reeve := 10 }
def a12 : State := ({ a0 with hands := { a0.hands with ctxs := [(e0.key, cx)] }, docket := { a0.docket with tags := [(9, tg0)] }, sieve := { a0.sieve with filters := [(0, [0])] } }).setF (F.SIEVE_VOL_CFG_DEDUP.at 0) 1
def a13 : State := { a12 with docket := { a12.docket with tags := [(9, { tg0 with aborted := true })] } }
def lk (k st mode : Nat) (l : Link) : State := (((a0.setF F.SIEVE_REPL_SEL_VAL k).setF (F.SIEVE_REPL_STATE_STATE.at k) st).setF (F.SIEVE_REPL_CFG_MODE.at k) mode).setF (F.SIEVE_REPL_CFG_SOURCE_VOL.at k) 0
def lks (k st mode : Nat) (l : Link) : State := { lk k st mode l with sieve := { a0.sieve with links := [(k, l)] } }
def pr : Peer := { (default : Peer) with used := true, gen := 0, node := 0xABC, state := 1, txEpoch := 2, txSeq := 4 }
def b0 : State := lks 2 0 1 default
def b1 : State := { lks 2 0 2 default with car := { a0.car with peers := [(5, pr)] } }.setF (F.SIEVE_REPL_PEER_VAL.at 2) 5
def b2 : State := lks 2 4 1 { (default : Link) with base := 3, batch := [4], catchUp := [] }
def b3 : State := lks 2 3 2 { (default : Link) with waits := [⟨5, 9, 0, 0, 0⟩, ⟨6, 10, 0, 0, 0⟩], batch := [1], catchUp := [2] }
def b5 : State := lks 2 6 2 { (default : Link) with batch := [1], catchUp := [2, 5], base := 2 }
def b6 : State := lks 2 1 2 { (default : Link) with batch := [1], catchUp := [2, 5], base := 2 }
def b7 : State := lks 2 3 1 { (default : Link) with batch := [1], todo := [1], toOffer := [2], offered := [3], base := 2, sending := 3 }
def rx (l : Link) : State := { a0 with sieve := { a0.sieve with links := [(rxLink 5 2, l)] } }
def c0 : State := { a0 with mill := { a0.mill with slots := [(0x100, { (default : KeySlot) with state := 1, kind := 3, ident := 77 })] } }
def c1 : State := rx { (default : Link) with target := true, tgtVol := 0 }
def c3 : State := ({ rx { (default : Link) with target := true, tgtVol := 0 } with sieve := { a0.sieve with links := [(rxLink 5 2, { (default : Link) with target := true, tgtVol := 0 })], recs := [(fpKey 0 0 [], { (default : SieveRec) with valid := true, entry := 7, refs := 3 })], filters := [(0, [0])] } }).setF (F.SIEVE_VOL_CFG_DEDUP.at 0) 1
def c4 : State := lks 2 1 1 { (default : Link) with base := 5 }
def c5 : State := lks 2 3 1 { (default : Link) with batch := [1, 2], todo := [1], offered := [1, 2], base := 2, sending := 3 }
def c6 : State := lks 2 3 1 { (default : Link) with batch := [1, 2], base := 2, sending := 3 }
def zz (n : Nat) : List Byte := List.replicate n 0

/-- The hypotheses of every clause of VaultsSnapshotsAndLookups are met. -/
theorem meets_VaultsSnapshotsAndLookups :
    (F.SIEVE_VOL_CFG_VAULT.get (0 : Word) = a0.getF (F.SIEVE_VOL_CFG_VAULT.at (a0.getF F.SIEVE_VOL_SEL_VAL)) ∨ ((a0.volOf (a0.getF F.SIEVE_VOL_SEL_VAL)).slot = 0 ∧ a0.volMapped (a0.getF F.SIEVE_VOL_SEL_VAL) = false) ∧ a0.mode ≠ Mode.paired) ∧
    (F.SIEVE_VOL_CFG_VAULT.get (72340172838076673 : Word) ≠ a3.getF (F.SIEVE_VOL_CFG_VAULT.at (a3.getF F.SIEVE_VOL_SEL_VAL))) ∧
    ((a3.volOf (a3.getF F.SIEVE_VOL_SEL_VAL)).slot = 0 ∧ a3.volMapped (a3.getF F.SIEVE_VOL_SEL_VAL) = false) ∧
    (a3.mode = Mode.paired) ∧
    (F.SIEVE_VOL_CFG_VAULT.get (72340172838076673 : Word) ≠ a0.getF (F.SIEVE_VOL_CFG_VAULT.at (a0.getF F.SIEVE_VOL_SEL_VAL))) ∧
    (¬((a0.volOf (a0.getF F.SIEVE_VOL_SEL_VAL)).slot = 0 ∧ a0.volMapped (a0.getF F.SIEVE_VOL_SEL_VAL) = false)) ∧
    (a4.getF F.SIEVE_SNAP_CTL_BUSY = 1) ∧
    (Instr.snapTake ∈ [Instr.snapTake, Instr.snapDelete, Instr.snapPresent, Instr.snapWithdraw]) ∧
    (a5.getF F.SIEVE_SNAP_CTL_BUSY ≠ 1) ∧ (a5.feat 35 = true) ∧ (a5.snapSet ≠ []) ∧ (∀ v ∈ a5.snapSet, (a5.volOf v).size ≠ 0) ∧
    (a5.snapRoom a5.snapSet = true) ∧ (∀ v ∈ a5.snapSet, a5.owns (a5.volOf v).commons = true) ∧
    (a7.getF F.SIEVE_SNAP_CTL_BUSY ≠ 1) ∧ (a7.feat 35 = true) ∧ (a7.snapSet ≠ []) ∧ (∀ v ∈ a7.snapSet, (a7.volOf v).size ≠ 0) ∧
    (a7.snapRoom a7.snapSet = true) ∧ (∃ v ∈ a7.snapSet, a7.owns (a7.volOf v).commons = false) ∧ (a7.mode = Mode.paired) ∧
    (a8.getF F.SIEVE_SNAP_CTL_BUSY ≠ 1) ∧ (a8.feat 35 = true) ∧
    ((a8.snapOf (a8.getF F.SIEVE_SNAP_ARG_VOLUME) (a8.getF F.SIEVE_SNAP_ARG_EPOCH)).state = 1) ∧
    ((a8.snapOf (a8.getF F.SIEVE_SNAP_ARG_VOLUME) (a8.getF F.SIEVE_SNAP_ARG_EPOCH)).presented = 0) ∧
    (a8.snapHolders (a8.getF F.SIEVE_SNAP_ARG_VOLUME) (a8.getF F.SIEVE_SNAP_ARG_EPOCH) = 0) ∧
    (a9.getF F.SIEVE_SNAP_CTL_BUSY ≠ 1) ∧ (a9.feat 35 = true) ∧
    ((a9.snapOf (a9.getF F.SIEVE_SNAP_ARG_VOLUME) (a9.getF F.SIEVE_SNAP_ARG_EPOCH)).state = 1) ∧
    ((a9.snapOf (a9.getF F.SIEVE_SNAP_ARG_VOLUME) (a9.getF F.SIEVE_SNAP_ARG_EPOCH)).presented ≠ 0 ∨ a9.snapHolders (a9.getF F.SIEVE_SNAP_ARG_VOLUME) (a9.getF F.SIEVE_SNAP_ARG_EPOCH) ≠ 0) ∧
    (a0.getF F.SIEVE_SNAP_CTL_BUSY ≠ 1) ∧ (a0.feat 35 = true) ∧
    ((a0.snapOf (a0.getF F.SIEVE_SNAP_ARG_VOLUME) (a0.getF F.SIEVE_SNAP_ARG_EPOCH)).state ≠ 1) ∧
    (Instr.snapDelete ∈ [Instr.snapDelete, Instr.snapPresent]) ∧ ((a8.volOf (a8.getF F.SIEVE_SNAP_ARG_AT_VOLUME)).size = 0) ∧
    (a8.owns (a8.volOf (a8.getF F.SIEVE_SNAP_ARG_VOLUME)).commons = true) ∧
    ((a9.snapOf (a9.getF F.SIEVE_SNAP_ARG_VOLUME) (a9.getF F.SIEVE_SNAP_ARG_EPOCH)).presented ≠ 0) ∧
    ((a0.snapOf (a0.getF F.SIEVE_SNAP_ARG_VOLUME) (a0.getF F.SIEVE_SNAP_ARG_EPOCH)).presented = 0) ∧
    ((a12.ctx e0).ops[0]? = some (op AccelKind.sieve)) ∧ ((a12.ctx e0).state = CtxState.ready) ∧
    ((op AccelKind.sieve).op = AccelKind.sieve) ∧ ((op AccelKind.sieve).imm % 4 = 0) ∧
    (a12.excludedFor e0 (a12.fpOf e0 (op AccelKind.sieve)) = false) ∧ ((a12.ctx e0).ops[1]? = some (op AccelKind.mapL)) ∧
    ((op AccelKind.mapL).op = AccelKind.mapL) ∧ (e0.kind ≠ EngKind.hand ∨ (a12.tagOf (a12.ctx e0).tag).aborted = false) ∧
    (List.length (seeGroup (grainKey (BitVec.toNat (op AccelKind.mapL).ra)) (a12.ctx e0).group (a12.mapSeen e0 (grainKey (BitVec.toNat (op AccelKind.mapL).ra)))) ≠ 17) ∧
    (a12.scarred (seeGroup (grainKey (BitVec.toNat (op AccelKind.mapL).ra)) (a12.ctx e0).group (a12.mapSeen e0 (grainKey (BitVec.toNat (op AccelKind.mapL).ra)))).whole = false) ∧
    ((a13.ctx e0).ops[1]? = some (op AccelKind.mapL)) ∧ ((a13.ctx e0).state = CtxState.ready) ∧ (e0.kind = EngKind.hand) ∧
    ((a13.tagOf (a13.ctx e0).tag).aborted = true) := by
  refine ⟨?_, ?_, ?_, ?_, ?_, ?_, ?_, ?_, ?_, ?_, ?_, ?_, ?_, ?_, ?_, ?_, ?_, ?_, ?_, ?_, ?_, ?_, ?_, ?_, ?_, ?_, ?_, ?_, ?_, ?_, ?_, ?_, ?_, ?_, ?_, ?_, ?_, ?_, ?_, ?_, ?_, ?_, ?_, ?_, ?_, ?_, ?_, ?_, ?_, ?_, ?_, ?_⟩ <;> decide +kernel

/-- The hypotheses of every clause of ReplicationLinksAreDriven are met. -/
theorem meets_ReplicationLinksAreDriven :
    (b1.linkState (b1.getF F.SIEVE_REPL_SEL_VAL) = 0 ∨ b1.linkState (b1.getF F.SIEVE_REPL_SEL_VAL) = 9) ∧
    (b1.getF (F.SIEVE_REPL_CFG_MODE.at (b1.getF F.SIEVE_REPL_SEL_VAL)) = 1 ∨ b1.getF (F.SIEVE_REPL_CFG_MODE.at (b1.getF F.SIEVE_REPL_SEL_VAL)) = 2) ∧
    ((b1.volOf (b1.linkVol (b1.getF F.SIEVE_REPL_SEL_VAL))).size ≠ 0) ∧
    (b1.feat (35 + b1.getF (F.SIEVE_REPL_CFG_MODE.at (b1.getF F.SIEVE_REPL_SEL_VAL))) = true) ∧
    (b1.owns (b1.volOf (b1.linkVol (b1.getF F.SIEVE_REPL_SEL_VAL))).commons = true) ∧
    (b1.peerLive (b1.getF (F.SIEVE_REPL_PEER_VAL.at (b1.getF F.SIEVE_REPL_SEL_VAL))) = true) ∧
    (b0.linkState (b0.getF F.SIEVE_REPL_SEL_VAL) = 0 ∨ b0.linkState (b0.getF F.SIEVE_REPL_SEL_VAL) = 9) ∧
    (b0.getF (F.SIEVE_REPL_CFG_MODE.at (b0.getF F.SIEVE_REPL_SEL_VAL)) = 1 ∨ b0.getF (F.SIEVE_REPL_CFG_MODE.at (b0.getF F.SIEVE_REPL_SEL_VAL)) = 2) ∧
    ((b0.volOf (b0.linkVol (b0.getF F.SIEVE_REPL_SEL_VAL))).size ≠ 0) ∧
    (b0.feat (35 + b0.getF (F.SIEVE_REPL_CFG_MODE.at (b0.getF F.SIEVE_REPL_SEL_VAL))) = true) ∧
    (b0.owns (b0.volOf (b0.linkVol (b0.getF F.SIEVE_REPL_SEL_VAL))).commons = true) ∧
    (b0.peerLive (b0.getF (F.SIEVE_REPL_PEER_VAL.at (b0.getF F.SIEVE_REPL_SEL_VAL))) = false) ∧
    ((b0.linkOf (b0.getF F.SIEVE_REPL_SEL_VAL)).waits = []) ∧ (b2.linkState (b2.getF F.SIEVE_REPL_SEL_VAL) = 4) ∧
    (b2.snapRoom [b2.linkVol (b2.getF F.SIEVE_REPL_SEL_VAL)] = true) ∧ (b0.linkState (b0.getF F.SIEVE_REPL_SEL_VAL) ≠ 4) ∧
    (2 < 16) ∧ (b2.linkState 2 = 4) ∧ (b2.snapRoom [b2.linkVol 2] = true) ∧ (b3.getF (F.SIEVE_REPL_CFG_MODE.at 2) = 2) ∧
    (b3.linkState 2 = 3 ∨ b3.linkState 2 = 5 ∨ b3.linkState 2 = 7) ∧
    (Instr.replLinkLost 2 = Instr.replLinkLost 2 ∨ (b3.linkOf 2).waits ≠ [] ∧ Instr.replLinkLost 2 = Instr.syncAckTimeout 2) ∧
    (b7.getF (F.SIEVE_REPL_CFG_MODE.at 2) ≠ 2) ∧ (b7.linkState 2 = 2 ∨ b7.linkState 2 = 3) ∧
    (b5.linkState 2 = 6 ∨ b5.linkState 2 = 8) ∧ (b5.snapRoom [b5.linkVol 2] = true) ∧ (b6.linkState 2 = 1) := by
  refine ⟨?_, ?_, ?_, ?_, ?_, ?_, ?_, ?_, ?_, ?_, ?_, ?_, ?_, ?_, ?_, ?_, ?_, ?_, ?_, ?_, ?_, ?_, ?_, ?_, ?_, ?_, ?_⟩ <;> decide +kernel

/-- The hypotheses of every clause of ReplicationRecordsAreTaken are met. -/
theorem meets_ReplicationRecordsAreTaken :
    (fieldAt (zz 3 ++ [(1 : Byte), (0 : Byte)] ++ zz 5 ++ [(0 : Byte), (0 : Byte)] ++ zz 4 ++ leBytes 8 77) 10 2 < 4096) ∧
    ((c0.volOf (fieldAt (zz 3 ++ [(1 : Byte), (0 : Byte)] ++ zz 5 ++ [(0 : Byte), (0 : Byte)] ++ zz 4 ++ leBytes 8 77) 10 2)).size ≠ 0) ∧
    (c0.getF (F.SIEVE_VOL_CFG_VAULT.at (fieldAt (zz 3 ++ [(1 : Byte), (0 : Byte)] ++ zz 5 ++ [(0 : Byte), (0 : Byte)] ++ zz 4 ++ leBytes 8 77) 10 2)) = fieldAt (zz 3 ++ [(1 : Byte), (0 : Byte)] ++ zz 5 ++ [(0 : Byte), (0 : Byte)] ++ zz 4 ++ leBytes 8 77) 4 1) ∧
    (fieldAt (zz 3 ++ [(1 : Byte), (0 : Byte)] ++ zz 5 ++ [(0 : Byte), (0 : Byte)] ++ zz 4 ++ leBytes 8 77) 3 1 = 1 ∨ fieldAt (zz 3 ++ [(1 : Byte), (0 : Byte)] ++ zz 5 ++ [(0 : Byte), (0 : Byte)] ++ zz 4 ++ leBytes 8 77) 3 1 = 2) ∧
    (c0.feat (35 + fieldAt (zz 3 ++ [(1 : Byte), (0 : Byte)] ++ zz 5 ++ [(0 : Byte), (0 : Byte)] ++ zz 4 ++ leBytes 8 77) 3 1) = true) ∧
    (c0.owns (c0.volOf (fieldAt (zz 3 ++ [(1 : Byte), (0 : Byte)] ++ zz 5 ++ [(0 : Byte), (0 : Byte)] ++ zz 4 ++ leBytes 8 77) 10 2)).commons = true) ∧
    ((c0.mill.slots.get (256 + fieldAt (zz 3 ++ [(1 : Byte), (0 : Byte)] ++ zz 5 ++ [(0 : Byte), (0 : Byte)] ++ zz 4 ++ leBytes 8 77) 4 1)).state = 1) ∧
    ((c0.mill.slots.get (256 + fieldAt (zz 3 ++ [(1 : Byte), (0 : Byte)] ++ zz 5 ++ [(0 : Byte), (0 : Byte)] ++ zz 4 ++ leBytes 8 77) 4 1)).ident = fieldAt (zz 3 ++ [(1 : Byte), (0 : Byte)] ++ zz 5 ++ [(0 : Byte), (0 : Byte)] ++ zz 4 ++ leBytes 8 77) 16 8) ∧
    (((c1.setF (F.SIEVE_VOL_CFG_DEDUP.at 0) 0).linkOf (rxLink 5 2)).target = true) ∧
    ((c1.setF (F.SIEVE_VOL_CFG_DEDUP.at 0) 0).excluded ((c1.setF (F.SIEVE_VOL_CFG_DEDUP.at 0) 0).linkOf (rxLink 5 2)).tgtVol = true) ∧
    ((c3.linkOf (rxLink 5 2)).target = true) ∧ (c3.excluded (c3.linkOf (rxLink 5 2)).tgtVol = false) ∧
    (c3.recLive (c3.sieveRec (fpKey (c3.volOf (c3.linkOf (rxLink 5 2)).tgtVol).commons (c3.rxVault (rxLink 5 2)) (List.take 32 (List.drop 8 (zz 40))))) = true) ∧
    (((c1.setF (F.SIEVE_VOL_CFG_DEDUP.at 0) 0).linkOf (rxLink 5 2)).last ≠ (32849 : Status)) ∧
    (fieldAt (zz 40) 0 8 = ((c1.setF (F.SIEVE_VOL_CFG_DEDUP.at 0) 0).linkOf (rxLink 5 2)).stageRecs) ∧
    (fieldAt (zz 40) 8 8 = ((c1.setF (F.SIEVE_VOL_CFG_DEDUP.at 0) 0).linkOf (rxLink 5 2)).stageBytes) ∧
    (fieldAt (zz 3 ++ [(1 : Byte), (0 : Byte)] ++ zz 5 ++ [(0 : Byte), (0 : Byte)] ++ zz 4 ++ leBytes 8 77) 0 8 ≠ ((c1.setF (F.SIEVE_VOL_CFG_DEDUP.at 0) 0).linkOf (rxLink 5 2)).stageRecs ∨ fieldAt (zz 3 ++ [(1 : Byte), (0 : Byte)] ++ zz 5 ++ [(0 : Byte), (0 : Byte)] ++ zz 4 ++ leBytes 8 77) 8 8 ≠ ((c1.setF (F.SIEVE_VOL_CFG_DEDUP.at 0) 0).linkOf (rxLink 5 2)).stageBytes) ∧
    (fieldAt (zz 3 ++ [(1 : Byte), (0 : Byte)] ++ zz 5 ++ [(0 : Byte), (0 : Byte)] ++ zz 4 ++ leBytes 8 77) 10 1 = 0) ∧
    (fieldAt (leBytes 8 5 ++ [(0 : Byte), (0 : Byte), (1 : Byte)] ++ zz 20) 10 1 ≠ 0) ∧ (2 < 16) ∧ (c4.linkState 2 = 1) ∧
    (fieldAt (leBytes 8 5 ++ [(1 : Byte), (0 : Byte)] ++ zz 30) 0 2 ≠ 0) ∧ (fieldAt (leBytes 4 0 ++ leBytes 4 4) 0 2 = 0) ∧
    (c4.getF (F.SIEVE_REPL_CFG_MODE.at 2) = 1) ∧ ((c4.linkOf 2).sending = 0) ∧
    ((c4.linkOf 2).base = fieldAt (leBytes 4 0 ++ leBytes 4 4) 4 4 + 1) ∧ ((c5.linkOf 2).offered ≠ []) ∧
    ((c5.linkOf 2).copying = 0) ∧ ((c5.linkOf 2).toOffer = []) ∧
    (∀ g ∈ (c5.linkOf 2).todo, g ∈ List.map (fun i => (c5.linkOf 2).offered.getD i 0) (List.filter (fun i => (leNat (List.take 128 (leBytes 8 5 ++ [(1 : Byte), (0 : Byte)] ++ zz 30))).testBit i) (upto (c5.linkOf 2).offered.length))) ∧
    (c6.linkState 2 = 3) ∧
    (fieldAt (zz 3 ++ [(1 : Byte), (0 : Byte)] ++ zz 5 ++ [(0 : Byte), (0 : Byte)] ++ zz 4 ++ leBytes 8 77) 0 2 = 0) ∧
    (c6.getF (F.SIEVE_REPL_CFG_MODE.at 2) = 1) ∧ ((c6.linkOf 2).sending ≠ 0) ∧ ((c6.linkOf 2).offered = []) ∧
    ((c6.linkOf 2).toOffer = []) ∧ ((c6.linkOf 2).todo = []) ∧ ((c6.linkOf 2).copying = 0) ∧
    ({ seq := 5, tag := 9, status := (0 : Status), detail := 0, at_ := 0 : SyncWait } ∈ (b3.linkOf 2).waits) ∧
    ({ seq := 5, tag := 9, status := (0 : Status), detail := 0, at_ := 0 : SyncWait }.seq = fieldAt (leBytes 8 5 ++ [(1 : Byte), (0 : Byte)] ++ zz 30) 0 8) := by
  refine ⟨?_, ?_, ?_, ?_, ?_, ?_, ?_, ?_, ?_, ?_, ?_, ?_, ?_, ?_, ?_, ?_, ?_, ?_, ?_, ?_, ?_, ?_, ?_, ?_, ?_, ?_, ?_, ?_, ?_, ?_, ?_, ?_, ?_, ?_, ?_, ?_, ?_, ?_, ?_, ?_⟩ <;> decide +kernel

/-- A state whose commons's presence filter holds the bits of one key. -/
def holding (s : State) (k : Nat) : State := { s with sieve := { s.sieve with filters := [(k / 2 ^ 264, s.filterBits k)] } }

/-- Whatever bits the filter's probes pick (assumption log 26), it lets that key pass. -/
theorem holding_passes (s : State) (k : Nat) : (holding s k).filterPass k = true := by
  have h : (holding s k).sieve.filters.get (k / 2 ^ 264) = s.filterBits k := by
    simp [holding, AMap.get, AMap.getD]
  unfold State.filterPass
  rw [h]
  exact List.all_eq_true.mpr (fun b hb => List.elem_eq_true_of_mem hb)

/-- A LOOKUP that has to read its bucket's pages. -/
def a15 : State := holding a12 (a12.fpOf e0 (op .sieve))

theorem meets_VaultsSnapshotsAndLookups_lookup :
    (a15.ctx e0).ops[0]? = some (op .sieve) ∧ (a15.ctx e0).state = .ready ∧ (op .sieve).op = .sieve ∧ (op .sieve).imm % 4 = 0 ∧
      a15.excludedFor e0 (a15.fpOf e0 (op .sieve)) = false ∧ a15.lookupReads (a15.fpOf e0 (op .sieve)) = true := by
  have hk : a15.fpOf e0 (op .sieve) = a12.fpOf e0 (op .sieve) := rfl
  have hx : a15.excludedFor e0 (a12.fpOf e0 (op .sieve)) = a12.excludedFor e0 (a12.fpOf e0 (op .sieve)) := rfl
  refine ⟨by decide +kernel, by decide +kernel, by decide +kernel, by decide +kernel, ?_, ?_⟩
  · rw [hk, hx]
    decide +kernel
  · rw [hk, State.lookupReads, a15, holding_passes]
    decide +kernel

end Sys2Proof.Tests.Sieve

namespace Sys2Proof.Tests.Pair

def stub (ty : Nat) (p : List Byte) : List Byte := stubBytes ty 0 1 0 0 p
def zz (n : Nat) : List Byte := List.replicate n 0
def a0 : State := here (live .solo)
def a1 : State := here { live .joining with pair := { (live .joining).pair with joined := true } }
def a2 : State := here { live .solo with mode := .paired }
def mi (o : Nat) : MirrorItem := { (default : MirrorItem) with off := o, addr := 5, tag := 1, data := [1, 2, 3, 4] }
def a7 : State := { a2 with cf := { a2.cf with holdup := true, mirror := [mi 4] } }.setF F.IDENT_SLOT_SLOT 1
def led (st : Nat) : List Byte := let e := leBytes 8 7 ++ leBytes 2 0 ++ leBytes 1 st ++ zz (0xBC - 11); leBytes 4 1 ++ zz 4 ++ e ++ leBytes 4 (crc32c e)
def dr : DbRec := { typ := 1, lsn := 5, body := zz 40 }
def alive (s : State) : State := { s.setF F.COUNCIL_STATE_ALIVE 5 with power := .on }
def b0 : State := alive a0
def b1 : State := b0.setF F.TILL_CF_CTL_BUSY 1
def b2 : State := alive a2
def c0 : State := (alive a2).setF F.COUNCIL_PAIR_HB 1
def c1 : State := { alive a1 with pair := { a1.pair with joinMine := true } }
def c2 : State := { alive a7 with cf := { a7.cf with holdup := false } }
def c3 : State := alive a0
def c4 : State := { alive a2 with pair := { a2.pair with second := 5 } }
def c5 : State := { c2 with pair := { a2.pair with second := 5 } }
def c6 : State := alive (live .joining)
def c7 : State := c6.setF F.IDENT_SLOT_SLOT 1
def c8 : State := (alive (here (live .service))).setF F.COUNCIL_FAILBACK_STATE 1
def c9 : State := c8.setN R.IDENT_FEAT_PAIR (2 ^ 6)
def c10 : State := { c3 with pair := { c3.pair with pulseOut := true } }
def c11 : State := { (alive (here (live .paired))) with cf := { (here (live .paired)).cf with partnerMode := 3 } }.setN R.IDENT_FEAT_PAIR (2 ^ 5) |>.setF F.COUNCIL_DRILL_CFG_ENABLE 1
def c13 : State := { c3 with pair := { c3.pair with drill := some { (default : Drill) with slot := 1 } }, hold := { c3.hold with formed := [2] } } |>.setF (F.HOLD_CMN_OWNED.at 2) 1 |>.setF (F.HOLD_CMN_HOME.at 2) 1

/-- The hypotheses of every clause of StubsAreTaken are met. -/
theorem meets_StubsAreTaken :
    (stubArrives a0 (stub 1 (zz 8 ++ [(3 : Byte)] ++ zz 7)) 1) ∧
    ((stubBody (stub 1 (zz 8 ++ [(3 : Byte)] ++ zz 7))).length = 16) ∧
    (fieldAt (stubBody (stub 1 (zz 8 ++ [(3 : Byte)] ++ zz 7))) 8 1 ≠ 2) ∧
    (fieldAt (stubBody (stub 1 (zz 8 ++ [(3 : Byte)] ++ zz 7))) 8 1 ≠ 4) ∧
    (fieldAt (stubBody (stub 1 (zz 8 ++ [(3 : Byte)] ++ zz 7))) 8 1 ≠ 6) ∧ (stubArrives a0 (stub 2 (zz 40)) 2) ∧
    (stubArrives a0 (stub 3 (zz 8 ++ dr.bytes)) 3) ∧ (stubArrives a0 (stub 4 (led 1)) 4) ∧
    (fieldAt (stubBody (stub 4 (led 1))) 0 4 = 1) ∧
    (fieldAt (List.take 192 (List.drop 8 (stubBody (stub 4 (led 1))))) 188 4 = crc32c (List.take 188 (List.take 192 (List.drop 8 (stubBody (stub 4 (led 1))))))) ∧
    (stubArrives a0 (stub 5 (zz 128)) 5) ∧ (stubArrives a0 (stub 6 (zz 72)) 6) ∧
    (stubArrives a0 (stub 7 (leBytes 8 1 ++ leBytes 8 5 ++ leBytes 8 2)) 7) ∧
    (fieldAt (stubBody (stub 7 (leBytes 8 1 ++ leBytes 8 5 ++ leBytes 8 2))) 0 4 = 1) ∧
    (fieldAt (List.take 16 (List.drop 8 (stubBody (stub 7 (leBytes 8 1 ++ leBytes 8 5 ++ leBytes 8 2))))) 0 8 < 2 ^ 63) ∧
    (stubArrives a0 (stub 8 ([(5 : Byte), (0 : Byte)] ++ zz 6 ++ leBytes 8 7 ++ leBytes 8 9)) 8) ∧
    (fieldAt (stubBody (stub 8 ([(5 : Byte), (0 : Byte)] ++ zz 6 ++ leBytes 8 7 ++ leBytes 8 9))) 1 1 = 0) ∧
    (fieldAt (stubBody (stub 8 ([(5 : Byte), (0 : Byte)] ++ zz 6 ++ leBytes 8 7 ++ leBytes 8 9))) 0 1 = 5) ∧
    (stubArrives a0 (stub 8 ([(11 : Byte), (0 : Byte)] ++ zz 30)) 8) ∧
    (fieldAt (stubBody (stub 8 ([(11 : Byte), (0 : Byte)] ++ zz 30))) 1 1 = 0) ∧
    (fieldAt (stubBody (stub 8 ([(11 : Byte), (0 : Byte)] ++ zz 30))) 0 1 = 11) ∧
    (stubArrives a1 (stub 9 ([(2 : Byte)] ++ zz 31)) 9) ∧ (fieldAt (stubBody (stub 9 ([(2 : Byte)] ++ zz 31))) 0 1 = 2) ∧
    (a1.mode = Mode.joining) ∧ (a1.pair.joined = true) ∧ (stubArrives a0 (stub 10 (zz 16)) 10) ∧
    (stubArrives a7 (stub 11 (zz 16)) 11) ∧ (a7.cf.holdup = true) ∧ (a7.lossRole = 2) ∧
    (stubArrives a0 (stub 12 (leBytes 8 1 ++ zz 8)) 12) ∧ (0 = 0 ∨ 12 < 0) ∧ (stubArrives a0 (stub 0 []) 0) := by
  unfold stubArrives
  refine ⟨?_, ?_, ?_, ?_, ?_, ?_, ?_, ?_, ?_, ?_, ?_, ?_, ?_, ?_, ?_, ?_, ?_, ?_, ?_, ?_, ?_, ?_, ?_, ?_, ?_, ?_, ?_, ?_, ?_, ?_, ?_, ?_⟩ <;> decide +kernel

/-- The hypotheses of every clause of HeartbeatsBudgetAndLink are met. -/
theorem meets_HeartbeatsBudgetAndLink :
    (b0.power = Power.on) ∧ (b0.selfFenced = false) ∧ (b0.cfUp = true) ∧ (b0.getF F.COUNCIL_STATE_ALIVE ≠ 0) ∧
    (b0.time ≤ b0.pair.aliveAt + 10000) ∧ (a7.cf.holdup = true) ∧ (a7.lossRole = 2) ∧ (b0.getF F.TILL_CF_CTL_BUSY ≠ 1) ∧
    (b0.mode = Mode.solo ∨ b0.mode = Mode.service ∨ b0.mode = Mode.joining) ∧ (b1.getF F.TILL_CF_CTL_BUSY = 1) ∧
    (b2.getF F.TILL_CF_CTL_BUSY ≠ 1) ∧ (b2.mode = Mode.paired) := by
  refine ⟨?_, ?_, ?_, ?_, ?_, ?_, ?_, ?_, ?_, ?_, ?_, ?_⟩ <;> decide +kernel

/-- The hypotheses of every clause of PartnerLossFencesAndDrills are met. -/
theorem meets_PartnerLossFencesAndDrills :
    (c1.power = Power.on) ∧ (c1.getF F.COUNCIL_PAIR_HB ≠ 0) ∧ (c1.cf.holdup = false ∨ c1.cfUp = false) ∧
    (c1.mode = Mode.joining) ∧ (c2.power = Power.on) ∧ (c2.getF F.COUNCIL_PAIR_HB ≠ 0) ∧
    (c2.cf.holdup = false ∨ c2.cfUp = false) ∧ (c2.mode ≠ Mode.joining) ∧ (c2.lossRole = 2) ∧ (c2.pair.drill = none) ∧
    (c3.power = Power.on) ∧ (c3.getF F.COUNCIL_PAIR_HB ≠ 0) ∧ (c3.cf.holdup = false ∨ c3.cfUp = false) ∧
    (c3.mode ≠ Mode.joining) ∧ (c3.selfFenced = false) ∧ (c3.alone = true) ∧ (c3.pair.drill = none) ∧ (c4.pair.second ≠ 0) ∧
    (c4.lossRole ≠ 2 ∨ c4.fencedIn = true) ∧ (c5.pair.second ≠ 0) ∧ (c5.lossRole = 2) ∧ (c5.fencedIn = false) ∧
    (c5.pair.drill = none) ∧ (c7.mode = Mode.joining) ∧ (c7.partnerHere = false) ∧ (c7.selfFenced = false) ∧ (c7.slotNo = 1) ∧
    (c6.mode = Mode.joining) ∧ (c6.partnerHere = false) ∧ (c6.selfFenced = false) ∧ (c6.slotNo = 0) ∧ (c6.fencedIn = false) ∧
    (c9.mode = Mode.service) ∧ (c9.getF F.COUNCIL_FAILBACK_STATE = 1) ∧ (c9.grade = 0) ∧ (c9.partnerHere = true) ∧
    (c9.pairFeat 6 = true ∨ c9.strong.rolling = true) ∧ (c0.mode ≠ Mode.bootstrap) ∧ (c0.mode ≠ Mode.holdup) ∧
    (c0.selfFenced = false) ∧ (c0.power = Power.on) ∧ (c0.pair.drill = none) ∧ (c10.pair.pulseOut = true) ∧
    (c10.pair.drill = none) ∧ (c10.mode ≠ Mode.holdup) ∧ (c0.getF F.COUNCIL_STATE_HALTED ≠ 1) ∧
    (Instr.councilDrillGo = Instr.councilDrillGo ∧ c11.mode = Mode.paired ∨ Instr.councilDrillGo = Instr.drillDue ∧ c11.power = Power.on ∧ c11.slotNo = 0 ∧ c11.pairFeat 5 = true ∧ c11.getF F.COUNCIL_DRILL_CFG_ENABLE ≠ 0) ∧
    (c11.getF F.COUNCIL_DRILL_CTL_BUSY ≠ 1) ∧ (c11.pair.move = none) ∧ (c11.mode ≠ Mode.holdup) ∧ (c11.pairFull = true) ∧
    (c11.poolQuiet = true) ∧ (c11.drillTakesFit = true) ∧
    (Instr.councilDrillGo = Instr.councilDrillGo ∧ c0.mode = Mode.paired ∨ Instr.councilDrillGo = Instr.drillDue ∧ c0.power = Power.on ∧ c0.slotNo = 0 ∧ c0.pairFeat 5 = true ∧ c0.getF F.COUNCIL_DRILL_CFG_ENABLE ≠ 0) ∧
    (c0.getF F.COUNCIL_DRILL_CTL_BUSY ≠ 1) ∧ (c0.pair.move = none) ∧
    (c0.pairFull = false ∨ c0.poolQuiet = false ∨ c0.drillTakesFit = false) ∧
    (c13.pair.drill = some { (default : Drill) with slot := 1 }) ∧ ({ (default : Drill) with slot := 1 }.slot ≠ c13.slotNo) ∧
    (c13.mode = Mode.solo) ∧ (c13.partnerHere = true) ∧ (c13.pair.move = none) := by
  refine ⟨?_, ?_, ?_, ?_, ?_, ?_, ?_, ?_, ?_, ?_, ?_, ?_, ?_, ?_, ?_, ?_, ?_, ?_, ?_, ?_, ?_, ?_, ?_, ?_, ?_, ?_, ?_, ?_, ?_, ?_, ?_, ?_, ?_, ?_, ?_, ?_, ?_, ?_, ?_, ?_, ?_, ?_, ?_, ?_, ?_, ?_, ?_, ?_, ?_, ?_, ?_, ?_, ?_, ?_, ?_, ?_, ?_, ?_, ?_, ?_, ?_, ?_⟩ <;> decide +kernel

end Sys2Proof.Tests.Pair

namespace Sys2Proof.Tests.Council

def a0 : State := (live .solo).setF F.COUNCIL_STATE_CONFIG 0
def bl (core : Nat) : Ballot := ⟨core, 0x10, 5, [], 0, 0⟩
def a1 : State := { a0 with pair := { a0.pair with ballots := [bl 1] } }
def a2 : State := a0.setF F.COUNCIL_STATE_CONFIG 2
def a3 : State := { a0.setF F.COUNCIL_STATE_CONFIG 1 with mode := .solo } |>.setF (F.COUNCIL_CORE_STATE.at 0) 1 |>.setF (F.COUNCIL_CORE_STATE.at 1) 2 |>.setF (F.COUNCIL_CORE_STATE.at 2) 4
def a6 : State := (live .service).setF (F.COUNCIL_CORE_STATE.at 0) 5
def a7 : State := a6.setF F.COUNCIL_CORE_CTL_BUSY 1
def a8 : State := (a6.setF (F.COUNCIL_CORE_STATE.at 1) 5).setF F.COUNCIL_CORE_SEL_VAL 2
def a9 : State := a0.setF F.REEVE_REEL_CTL_FREEZE 1
def rec1 : DbRec := { typ := 1, lsn := 5, body := List.replicate 40 0 }
def dbk (d : Daybook) : State := ({ live .solo with stew := { (live .solo).stew with db := [(3, d)] } }.setF (F.HOLD_CMN_OWNED.at 3) 1).setF F.STEWARD_CMN_SEL_VAL 3
def d0 : State := dbk { (default : Daybook) with buf := [rec1], firstAt := 4, pageSeq := 7 }
def d1 : State := dbk { (default : Daybook) with buf := [rec1], firstAt := 4, pageSeq := 7, flying := [⟨6, 1, 4, [1]⟩, ⟨7, 5, 8, [2]⟩] }
def d2 : State := d0.setF (F.STEWARD_CKPT_CTL_BUSY.at 3) 1
def d3 : State := d0.setF F.STEWARD_MAP_STATE_RECOVERING 1
def d4 : State := d0.setF (F.STEWARD_DB_SINCE_ALL.at 3) (2 ^ 40)

/-- The hypotheses of every clause of TheCouncilDecidesAndKeepsItsCores are met. -/
theorem meets_TheCouncilDecidesAndKeepsItsCores :
    (0 < 3) ∧ (16 ≤ 16) ∧ (16 ≤ 20) ∧ (a0.getF F.COUNCIL_STATE_HALTED = 0) ∧ (a0.pair.results = []) ∧
    (a0.getF F.COUNCIL_STATE_CONFIG = 0) ∧ (a0.coreState 0 = 0) ∧ (a0.pair.owes = []) ∧ (a0.pair.ballots = []) ∧
    (∃ k < 3, k ≠ 0 ∧ a0.coreState k = 0) ∧ (a1.getF F.COUNCIL_STATE_HALTED = 0) ∧ (a1.pair.results = []) ∧
    (a1.getF F.COUNCIL_STATE_CONFIG = 0) ∧ (a1.coreState 0 = 0) ∧ (a1.pair.owes = []) ∧ (a1.pair.ballots = [bl 1]) ∧
    ((bl 1).same { core := 0, minor := 16, ra := 5, da := [], input := 0, at_ := a1.time : Ballot } = true) ∧
    ((bl 1).core ≠ 0) ∧ (a1.time ≤ (bl 1).at_ + a1.getF F.COUNCIL_CFG_VOTE_WINDOW_US) ∧ (a2.getF F.COUNCIL_STATE_HALTED = 0) ∧
    (a2.pair.results = []) ∧ (2 ≤ a2.getF F.COUNCIL_STATE_CONFIG) ∧ (a2.coreState 0 ≤ 2) ∧ (a1.pair.ballots ≠ []) ∧
    (a3.getF F.COUNCIL_STATE_CONFIG = 1) ∧ (1 < 3) ∧ (a3.coreState 1 = 2) ∧ (∀ j < 1, a3.coreState j ≠ 2) ∧
    (a3.getF F.COUNCIL_STATE_ACTIVE ≠ 1) ∧ (2 < 3) ∧ (a3.coreState 2 = 4) ∧
    (List.find? (fun k => decide (k ≠ 2) && decide (a3.coreState k < 3)) a3.coresLeft = some 0) ∧
    (a7.getF F.COUNCIL_CORE_SEL_VAL < 3) ∧ (a7.getF F.COUNCIL_CORE_CTL_BUSY = 1) ∧
    (Instr.councilCoreTest ∈ [Instr.councilCoreTest, Instr.councilCoreRetire, Instr.councilCoreRestore]) ∧
    (a0.getF F.COUNCIL_CORE_SEL_VAL < 3) ∧ (a0.getF F.COUNCIL_CORE_CTL_BUSY ≠ 1) ∧ (a0.getF F.COUNCIL_STATE_CONFIG ≠ 2) ∧
    (a2.getF F.COUNCIL_CORE_SEL_VAL < 3) ∧ (a2.getF F.COUNCIL_CORE_CTL_BUSY ≠ 1) ∧ (a2.getF F.COUNCIL_STATE_CONFIG = 2) ∧
    (a6.getF F.COUNCIL_CORE_SEL_VAL < 3) ∧ (a6.getF F.COUNCIL_CORE_CTL_BUSY ≠ 1) ∧ (a6.mode = Mode.service) ∧
    (a6.coreState (a6.getF F.COUNCIL_CORE_SEL_VAL) = 5) ∧ (a0.coreState (a0.getF F.COUNCIL_CORE_SEL_VAL) ≠ 5) ∧
    (2 ≤ a0.coresLeft.length) ∧ (a8.getF F.COUNCIL_CORE_SEL_VAL < 3) ∧ (a8.getF F.COUNCIL_CORE_CTL_BUSY ≠ 1) ∧
    (a8.coreState (a8.getF F.COUNCIL_CORE_SEL_VAL) ≠ 5) ∧ (a8.coresLeft.length ≤ 1) ∧
    ([(1 : Byte), (2 : Byte)].length ≤ 16777216) ∧ (a0.getF F.REEVE_REEL_CTL_FREEZE ≠ 1) ∧ (a0.mode ≠ Mode.replay) ∧
    (a9.getF F.COUNCIL_STATE_HALTED = 0) ∧ (a9.getF F.REEVE_REEL_CTL_FREEZE = 1) := by
  refine ⟨?_, ?_, ?_, ?_, ?_, ?_, ?_, ?_, ?_, ?_, ?_, ?_, ?_, ?_, ?_, ?_, ?_, ?_, ?_, ?_, ?_, ?_, ?_, ?_, ?_, ?_, ?_, ?_, ?_, ?_, ?_, ?_, ?_, ?_, ?_, ?_, ?_, ?_, ?_, ?_, ?_, ?_, ?_, ?_, ?_, ?_, ?_, ?_, ?_, ?_, ?_, ?_, ?_, ?_, ?_, ?_⟩ <;> decide +kernel

/-- The hypotheses of every clause of DaybooksAndCheckpoints are met. -/
theorem meets_DaybooksAndCheckpoints :
    ((d0.dbOf 3).buf ≠ []) ∧
    ((d1.dbOf 3).flying = [{ seq := 6, first := 1, last := 4, bytes := [(1 : Byte)] : DbPage }, { seq := 7, first := 5, last := 8, bytes := [(2 : Byte)] : DbPage }]) ∧
    (d0.owns 3 = true) ∧ (d0.getF (F.STEWARD_CKPT_CTL_BUSY.at 3) ≠ 1) ∧ (d4.owns 3 = true) ∧
    (d4.getF (F.STEWARD_CKPT_CTL_BUSY.at 3) ≠ 1) ∧
    (d4.getF F.STEWARD_MAP_CFG_CHECKPOINT_MIB * 1048576 < d4.getF (F.STEWARD_DB_SINCE_ALL.at 3)) ∧
    (3 = d0.getF F.STEWARD_CMN_SEL_VAL) ∧ (d0.getF F.STEWARD_MAP_STATE_RECOVERING ≠ 1) ∧ (3 = d2.getF F.STEWARD_CMN_SEL_VAL) ∧
    (d2.getF (F.STEWARD_CKPT_CTL_BUSY.at 3) = 1) ∧ (3 = d3.getF F.STEWARD_CMN_SEL_VAL) ∧
    (d3.getF (F.STEWARD_CKPT_CTL_BUSY.at 3) ≠ 1) ∧ (d3.getF F.STEWARD_MAP_STATE_RECOVERING = 1 ∨ d3.owns 3 = false) := by
  refine ⟨?_, ?_, ?_, ?_, ?_, ?_, ?_, ?_, ?_, ?_, ?_, ?_, ?_, ?_⟩ <;> decide +kernel

end Sys2Proof.Tests.Council

namespace Sys2Proof.Tests.Media

def z0 : State := (((live .solo).setN R.IDENT_POOL 77).setN R.IDENT_FEAT_MGMT (2 ^ 64 - 1)).setF F.SLED_SEL_VAL 2
def z (st : Nat) : State := (((z0.setF (F.SLED_STATE_STATE.at 2) st).setF (F.SLED_STATE_STATE.at 0) st).setF (F.SLED_STATE_WIDTH.at 2) 2).setF (F.SLED_STATE_WIDTH.at 0) 2
def zp (st p w : Nat) : State := { z st with pins := { (z st).pins with perst := p, pwren := w } }
def a0 : State := z 0
def a1 : State := zp 1 5 5
def a2 : State := z 2
def a3 : State := z 3
def a4 : State := z 4
def a6 : State := { z 3 with media := { (z 3).media with timeouts := [(2, [3])] } }
def a7 : State := (z 3).setF (F.SLED_CTL_BUSY.at 2) 1
def a8 : State := ((({ z 3 with hold := { (z 3).hold with formed := [0] }, media := { (z 3).media with labels := [(2, 77)] } }).setF (F.HOLD_CMN_FIRST_DIE.at 0) 0).setF (F.HOLD_CMN_DIES.at 0) 8).setF (F.HOLD_CMN_OWNED.at 0) 1
def dd (d : Die) : State := { (((z 3).setF (F.HOLD_CMN_FIRST_DIE.at 0) 0).setF (F.HOLD_CMN_DIES.at 0) 8).setF (F.HOLD_CMN_OWNED.at 0) 1 with hold := { (z 3).hold with formed := [0] }, media := { (z 3).media with labels := [(2, 77), (0, 77)], dies := [(2 * 2048 + 3, d)] } }
def slc (o : Nat) : Blk := { (default : Blk) with mode := 1, pages := 768, order := o, chunks := [32 * 5] }
def gm (s : State) : State := (s.setF (F.SLED_GEOM_BLOCKS.at 2) 100).setF (F.SLED_GEOM_DIES.at 2) 8
def d4 : Die := { (default : Die) with blocks := [(0, slc 1), (1, slc 2), (2, slc 3), (3, slc 4)] }
def gl (s : State) : State := { s with toll := { s.toll with gleanTok := 2 ^ 40, rebTok := 2 ^ 40, rdTok := 2 ^ 40, inTok := 2 ^ 40 } }
def b0 : State := gm (dd d4)
def b1 : State := let s := gm (dd { d4 with blocks := d4.blocks ++ [(4, { (default : Blk) with mode := 2, pages := 3072, chunks := [] })] }); { s with media := { s.media with folds := [⟨2 * 2048 + 3, 4, [0, 1, 2, 3]⟩] } }
def b2 : State := gl (gm (dd { (default : Die) with blocks := [(7, { (default : Blk) with mode := 2, pages := 3072, chunks := [32 * 5 + 1] })] }))
def sf (x : Sheaf) : State := let s := gl (gm (dd d4)); { s with hold := { s.hold with sheaves := [(5, x)] } }
def cl : Sheaf := { (default : Sheaf) with state := 3, locs := (upto 18).map (fun i => 0) }
def b3 : State := sf cl
def b4 : State := let s := sf cl; { s with stew := { s.stew with condemned := [(5, (3, 4))] } }
def hs (n : Nat) : State := (upto n).foldl (fun s k => ((s.setF (F.SLED_STATE_STATE.at k) 3).setF (F.SLED_GEOM_DIES.at k) 16).setF (F.SLED_GEOM_BLOCKS.at k) 100) { z0 with media := { z0.media with labels := (upto n).map (fun k => (k, 77)) }, toll := { z0.toll with gleanTok := 2 ^ 40, rebTok := 2 ^ 40, rdTok := 2 ^ 40, inTok := 2 ^ 40 } }
def h0 : State := hs 24
def h1 : State := hs 3
def arg (s : State) (c home first dies : Nat) : State := (((s.setF F.HOLD_CTL_ARG_COMMONS c).setF F.HOLD_CTL_ARG_HOME home).setF F.HOLD_CTL_ARG_FIRST_DIE first).setF F.HOLD_CTL_ARG_DIES dies
def fm (s : State) : State := { ((s.setF (F.HOLD_CMN_FIRST_DIE.at 0) 0).setF (F.HOLD_CMN_DIES.at 0) 8).setF (F.HOLD_CMN_OWNED.at 0) 1 with hold := { s.hold with formed := [0] } }
def c0 : State := h1.setF F.HOLD_CTL_BUSY 1
def c1 : State := { h1 with mode := .replay }
def c2 : State := arg h0 3 (h0.slotNo) 0 8
def c3 : State := arg h1 3 0 0 0
def c4 : State := arg (z 3) 3 0 0 8
def c5 : State := arg (fm h1) 0 0 0 8
def c8 : State := ((fm h1).setF (F.HOLD_CMN_OWNED.at 0) 0).setF F.HOLD_CTL_ARG_MEMBER (2 * 2048 + 3)
def c9 : State := (h1.setF (F.SLED_STATE_STATE.at 5) 7).setF F.HOLD_CTL_ARG_VAL 5
def c10 : State := let s := fm h1; { s with hold := { s.hold with ledgerDirty := [0], resync := [0] } }
def c11 : State := let s := (fm h1).setF (F.HOLD_CMN_SPARE_RESERVE.at 0) 100; { s with hold := { s.hold with sheaves := [(5, { (default : Sheaf) with state := 3, lost := 1, locs := (upto 18).map (fun k => 0) })] } }
def c12 : State := let s := fm h1; { s with hold := { s.hold with sheaves := [(5, { (default : Sheaf) with state := 3, locs := (upto 18).map (fun k => 0) })], resync := [0] } }
def c13 : State := let s := (fm h1).setF (F.HOLD_CMN_SPARE_RESERVE.at 0) 100; { s with media := { s.media with labels := [(0, 77)] }, hold := { s.hold with sheaves := [(5, { (default : Sheaf) with state := 3, lost := 1, locs := (upto 18).map (fun k => 0) })] } }

/-- The hypotheses of every clause of SledPortsFollowTheirEvents are met. -/
theorem meets_SledPortsFollowTheirEvents :
    (2 < a0.sledPorts) ∧ (a0.getF (F.SLED_STATE_STATE.at 2) = 0) ∧ (2 < a1.sledPorts) ∧ (a1.pins.perst.testBit 2 = true) ∧
    (a1.pins.pwren.testBit 2 = true) ∧ (2 < a2.sledPorts) ∧ (a2.getF (F.SLED_STATE_STATE.at 2) = 2) ∧ (8 ≤ 2048) ∧
    (0 ≤ 65535) ∧ (0 < 2 ^ 64) ∧ (2 < a3.sledPorts) ∧ (a3.getF (F.SLED_STATE_STATE.at 2) = 3) ∧
    (a3.getF (F.SLED_STATE_WIDTH.at 2) = 2) ∧ (a3.feat 133 = true) ∧ (2 < a4.sledPorts) ∧
    (a4.getF (F.SLED_STATE_STATE.at 2) = 4 ∨ a4.getF (F.SLED_STATE_STATE.at 2) = 3 ∧ a4.feat 133 = false) ∧
    (a1.getF (F.SLED_STATE_STATE.at 2) ≠ 0) ∧ (a3.getF (F.SLED_STATE_STATE.at 2) = 3 ∨ a3.getF (F.SLED_STATE_STATE.at 2) = 4) ∧
    (List.filter (fun t => decide (a3.opsec < t + 3600)) (a3.media.timeouts.get 2) = []) ∧ (2 < a6.sledPorts) ∧
    (a6.getF (F.SLED_STATE_STATE.at 2) = 3 ∨ a6.getF (F.SLED_STATE_STATE.at 2) = 4) ∧
    (List.filter (fun t => decide (a6.opsec < t + 3600)) (a6.media.timeouts.get 2) ≠ []) ∧
    (a7.getF F.SLED_SEL_VAL < a7.sledPorts) ∧ (a7.getF (F.SLED_CTL_BUSY.at (a7.getF F.SLED_SEL_VAL)) = 1) ∧
    (Instr.sledPowerOff ∈ [Instr.sledPowerOff, Instr.sledPowerOn, Instr.sledReset, Instr.sledRetrain]) ∧
    (a8.getF F.SLED_SEL_VAL < a8.sledPorts) ∧ (a8.getF (F.SLED_CTL_BUSY.at (a8.getF F.SLED_SEL_VAL)) ≠ 1) ∧
    (a8.holdsMembers (a8.getF F.SLED_SEL_VAL) = true) ∧ (Instr.sledPowerOff ∈ [Instr.sledPowerOff, Instr.sledReset]) ∧
    (a0.getF F.SLED_SEL_VAL < a0.sledPorts) ∧ (a0.getF (F.SLED_CTL_BUSY.at (a0.getF F.SLED_SEL_VAL)) ≠ 1) ∧
    (a0.holdsMembers (a0.getF F.SLED_SEL_VAL) = false) := by
  refine ⟨?_, ?_, ?_, ?_, ?_, ?_, ?_, ?_, ?_, ?_, ?_, ?_, ?_, ?_, ?_, ?_, ?_, ?_, ?_, ?_, ?_, ?_, ?_, ?_, ?_, ?_, ?_, ?_, ?_, ?_, ?_, ?_⟩ <;> decide +kernel

/-- The hypotheses of every clause of FoldingGleaningAndSecureDiscard are met. -/
theorem meets_FoldingGleaningAndSecureDiscard :
    (b0.foldDie = some 4099) ∧ (b0.erasedBlock 4099 = some 4) ∧ (b0.dieCommons 4099 = some 0) ∧
    (List.find? (fun f => decide (f.die = 2 * 2048 + 3)) b1.media.folds = some { die := 2 * 2048 + 3, dest := 4, src := [0, 1, 2, 3] : Fold }) ∧
    (b1.dieCommons (2 * 2048 + 3) = some 0) ∧ (b2.victim 0 = some (4099, 7, 1, 0)) ∧ (b2.owns 0 = true) ∧
    (b2.liveIn 4099 7 = []) ∧ (b2.tollWork 3 (some false) 0 0 ≠ none) ∧ (((b2.dieOf 4099).blocks.get 7).suspect = false) ∧
    (b3.owns 0 = true) ∧ ((b3.sheafOf (0 * 2 ^ 33 + 5)).state = 3) ∧
    (b3.heldSlots 0 5 * 1000 < 1024 * b3.getF F.STEWARD_MEDIA_CFG_THIN_PM) ∧ (thinnable 0 5 b3.stew.map = []) ∧
    (b0.sledIn ((2 * 2048 + 3) / 2048) = true) ∧ ((b4.stew.condemned.get (0 * 2 ^ 33 + 5)).1 ≠ 0) ∧ (b4.owns 0 = true) ∧
    (∀ w ∈ b4.media.secure, w.sheaf ≠ 0 * 2 ^ 33 + 5) ∧
    (BitVec.toNat (0 : Word) % 2 = 0 ∨ b0.feat 42 = true ∧ b0.getF (F.PRESS_STREAM_CFG_RAW_ONLY.at (b0.getF F.STEWARD_VOL_SEL_VAL)) ≠ 0) ∧
    (BitVec.toNat (1 : Word) % 2 = 1) ∧
    (¬(b0.feat 42 = true ∧ b0.getF (F.PRESS_STREAM_CFG_RAW_ONLY.at (b0.getF F.STEWARD_VOL_SEL_VAL)) ≠ 0)) := by
  refine ⟨?_, ?_, ?_, ?_, ?_, ?_, ?_, ?_, ?_, ?_, ?_, ?_, ?_, ?_, ?_, ?_, ?_, ?_, ?_, ?_, ?_⟩ <;> decide +kernel

/-- The hypotheses of every clause of HoldingsAreFormedRebuiltAndWatched are met. -/
theorem meets_HoldingsAreFormedRebuiltAndWatched :
    (c0.getF F.HOLD_CTL_BUSY = 1) ∧
    (Instr.holdForm ∈ [Instr.holdForm, Instr.holdDissolve, Instr.holdTakeIn, Instr.holdFail, Instr.holdResync, Instr.holdWatchNow]) ∧
    (c1.getF F.HOLD_CTL_BUSY ≠ 1) ∧ (poolMode c1.mode = false) ∧ (c3.getF F.HOLD_CTL_BUSY ≠ 1 ∧ poolMode c3.mode = true) ∧
    (c3.getF F.HOLD_CTL_ARG_DIES = 0) ∧ (c4.getF F.HOLD_CTL_BUSY ≠ 1 ∧ poolMode c4.mode = true) ∧
    (c4.getF F.HOLD_CTL_ARG_DIES ≠ 0) ∧
    ((List.filter (fun k => decide (c4.getF (F.SLED_STATE_STATE.at k) = 3)) c4.poolSleds).length < 20) ∧
    (c2.getF F.HOLD_CTL_BUSY ≠ 1 ∧ poolMode c2.mode = true) ∧ (c2.getF F.HOLD_CTL_ARG_DIES ≠ 0) ∧
    (20 ≤ (List.filter (fun k => decide (c2.getF (F.SLED_STATE_STATE.at k) = 3)) c2.poolSleds).length) ∧
    (∀ k ∈ List.filter (fun k => decide (c2.getF (F.SLED_STATE_STATE.at k) = 3)) c2.poolSleds, c2.getF F.HOLD_CTL_ARG_FIRST_DIE + c2.getF F.HOLD_CTL_ARG_DIES ≤ c2.getF (F.SLED_GEOM_DIES.at k)) ∧
    (∀ x ∈ c2.hold.formed, x ≠ c2.getF F.HOLD_CTL_ARG_COMMONS ∧ dieOverlap (c2.getF F.HOLD_CTL_ARG_FIRST_DIE) (c2.getF F.HOLD_CTL_ARG_DIES) (c2.getF (F.HOLD_CMN_FIRST_DIE.at x)) (c2.getF (F.HOLD_CMN_DIES.at x)) = false) ∧
    (c5.getF F.HOLD_CTL_BUSY ≠ 1 ∧ poolMode c5.mode = true) ∧ (c5.getF F.HOLD_CTL_ARG_COMMONS ∈ c5.hold.formed) ∧
    (c5.owns (c5.getF F.HOLD_CTL_ARG_COMMONS) = true) ∧
    (∀ p ∈ c5.docket.vols, p.2.size ≠ 0 → p.2.commons ≠ c5.getF F.HOLD_CTL_ARG_COMMONS) ∧
    (c2.getF F.HOLD_CTL_ARG_COMMONS ∉ c2.hold.formed) ∧ (c9.getF F.HOLD_CTL_BUSY ≠ 1 ∧ poolMode c9.mode = true) ∧
    (c9.getF F.HOLD_CTL_ARG_VAL < c9.sledPorts) ∧ (c9.getF (F.SLED_STATE_STATE.at (c9.getF F.HOLD_CTL_ARG_VAL)) = 7) ∧
    (c2.getF F.HOLD_CTL_ARG_VAL < c2.sledPorts) ∧ (c2.getF (F.SLED_STATE_STATE.at (c2.getF F.HOLD_CTL_ARG_VAL)) ≠ 7) ∧
    (c5.dieCommons (c5.getF F.HOLD_CTL_ARG_MEMBER) = some 0) ∧ (c5.getF F.HOLD_CTL_ARG_MEMBER < 49152) ∧ (c5.owns 0 = true) ∧
    ((c5.dieOf (c5.getF F.HOLD_CTL_ARG_MEMBER)).state = 0) ∧ (c8.getF F.HOLD_CTL_BUSY ≠ 1 ∧ poolMode c8.mode = true) ∧
    (c8.dieCommons (c8.getF F.HOLD_CTL_ARG_MEMBER) = some 0) ∧ (c8.getF F.HOLD_CTL_ARG_MEMBER < 49152) ∧ (c8.owns 0 = false) ∧
    (c5.owns (c5.getF F.HOLD_CMN_SEL_VAL) = true) ∧ (c2.owns (c2.getF F.HOLD_CMN_SEL_VAL) = false) ∧
    (Instr.holdResync ∈ [Instr.holdResync, Instr.holdWatchNow]) ∧ (0 ∈ c10.hold.ledgerDirty) ∧ (c10.owns 0 = true) ∧
    (c11.owns 0 = true) ∧ (c11.rebuildList 0 ≠ []) ∧
    (List.findSome? (fun p => Option.map (fun d => (p.1, p.2.work.getD 0 0, d)) (c11.rebuildDie 0 p.2 (p.2.work.getD 0 0))) (c11.rebuildList 0) = some (5, 0, 2048)) ∧
    (c11.rebuildRoom 0 = true) ∧
    ((c11.tollWork 2 (some true) 262144 (16 * 262144)).any (fun u => ((u.scarRows 5).qlcAlloc 0 2048 (5 * 32)).isSome) = true) ∧
    (c13.owns 0 = true) ∧ (c13.rebuildList 0 ≠ []) ∧
    (List.findSome? (fun p => Option.map (fun d => (p.1, p.2.work.getD 0 0, d)) (c13.rebuildDie 0 p.2 (p.2.work.getD 0 0))) (c13.rebuildList 0) = none) ∧
    (c13.getF (F.HOLD_CMN_STALLED.at 0) ≠ 1) ∧ (c5.hold.watchNow = []) ∧ (c5.watchNext 0 = none) ∧ (c11.hold.watchNow = []) ∧
    (c11.watchNext 0 = some 5) ∧ (c11.tollWork 3 none 0 (18 * 262144) ≠ none) ∧ (0 ∈ c10.hold.resync) ∧
    (List.filter (fun p => decide (p.2.state = 3) && !p.2.checked) (c10.cmnSheaves 0) = []) ∧ (0 ∈ c12.hold.resync) ∧
    (c12.owns 0 = true) ∧
    (List.filter (fun p => decide (p.2.state = 3) && !p.2.checked) (c12.cmnSheaves 0) = [(5, { (default : Sheaf) with state := 3, locs := List.map (fun k => 0) (upto 18) })]) ∧
    (c12.tollWork 2 (some true) 0 (18 * 262144) ≠ none) := by
  refine ⟨?_, ?_, ?_, ?_, ?_, ?_, ?_, ?_, ?_, ?_, ?_, ?_, ?_, ?_, ?_, ?_, ?_, ?_, ?_, ?_, ?_, ?_, ?_, ?_, ?_, ?_, ?_, ?_, ?_, ?_, ?_, ?_, ?_, ?_, ?_, ?_, ?_, ?_, ?_, ?_, ?_, ?_, ?_, ?_, ?_, ?_, ?_, ?_, ?_, ?_, ?_, ?_, ?_, ?_, ?_, ?_, ?_⟩ <;> decide +kernel

end Sys2Proof.Tests.Media

namespace Sys2Proof.Tests.Mag

def fo (type flags task seq ackf ofs credit : Nat) (data : List Byte) : List Byte := (folioBytes type flags task seq ackf ofs credit data).drop 8
def F0 : Nat := 0xFFFFFFFF
def blk (op len leaf client : Nat) (param : List Byte) : List Byte := leBytes 1 op ++ leBytes 1 0 ++ leBytes 2 0 ++ leBytes 4 len ++ leBytes 8 leaf ++ leBytes 8 client ++ leBytes 8 0 ++ param ++ List.replicate (32 - param.length) 0
def tw (op len leaf : Nat) (param : List Byte) : List Byte := fo 0x10 0 7 3 F0 0 2 (blk op len leaf 99 param)
def rcp : Recipe := { (default : Recipe) with state := 2, codeLen := 400, entries := List.replicate 16 0x10 }
def mp : MagPort := { (default : MagPort) with rxNext := 3, txSeq := 5, queue := 2, lanes := 15 }
def kb (role st : Nat) : State := (((((((live .solo).setN R.IDENT_FEAT_MGMT (2 ^ 64 - 1)).setF (magF F.MAGPORT_P_CFG_ROLE 1) role).setF (magF F.MAGPORT_P_CFG_ENABLE 1) 1).setF (magF F.MAGPORT_P_LINK_STATE 1) st).setF (magF F.MAGPORT_P_FEAT_WORD0 1) (2 ^ 32 - 1)).setF (magF F.MAGPORT_P_FEAT_WORD3 1) (2 ^ 32 - 1)).setF (F.HOLD_CMN_OWNED.at 0) 1
def k1 (role st : Nat) : State := let s := kb role st; { s with mag := { s.mag with ports := [(1, mp)] }, docket := { s.docket with vols := [(0, { (default : Vol) with size := 1000, slot := 1 })], queues := [(1, { (default : Queue) with kind := kMagazine, depth := 64, source := 1 })] }, hands := { s.hands with recipes := [(0, rcp)] } }
def m0 : State := k1 1 4
def taskK (t : MagTask) (s : State) : State := { s with mag := { s.mag with tasks := [(64 + 7, t)] } }
def m3 : State := (k1 1 5).setN R.TILL_BUDGET 1000000
def m4 : State := let s := m0; { s with toll := { s.toll with takes := [(2, { (default : Take) with state := 2, port := 0x11, queue := 7, vol := 0, firstLeaf := 160, frameRate := 1, largest := 65536, frameBytes := 65536, direct := true })] } }
def tg : Tag := { (default : Tag) with state := .arriving, queue := 1, reeve := 1, cid := 7, op := 3, declared := 8192, arrived := 0, inbound := true }
def m5 : State := taskK { (default : MagTask) with state := 1, op := 3, tag := 6 } { m0 with docket := { m0.docket with tags := [(5, tg)] } }
def m6 : State := taskK { (default : MagTask) with state := 1, op := 3, tag := 6 } { m0 with docket := { m0.docket with tags := [(5, { tg with state := .dispatched })] }, hands := { m0.hands with ctxs := [(128, { (default : Ctx) with state := .ready, tag := 5 })] } }
def ackf (ty a : Nat) (d : List Byte) : List Byte := fo ty 0 7 3 a 0 2 d
def wall (s : State) : State := (((s.setF (magF F.MAGPORT_P_CTL_BUSY 1) 0).setN R.IDENT_FEAT_MGMT (2 ^ 64 - 1)).setN (R.IDENT_FEAT_MGMT + 8) (2 ^ 64 - 1))
def p0 : State := wall (k1 1 0)
def p1 : State := wall (k1 1 1)
def p3 : State := wall (k1 1 3)
def p4 : State := wall (k1 2 3)
def p5 : State := wall (k1 1 4)
def p6 : State := wall (k1 2 4)
def p7 : State := (wall (k1 1 4)).setF (magF F.MAGPORT_P_CTL_BUSY 1) 1
def p8 : State := (wall (k1 1 4)).setF (magF F.MAGPORT_P_CFG_TWIN 1) 1
def p9 : State := p8.setF (magF F.MAGPORT_P_TWIN_STATE 1) 3
def ing (st : Nat) (i : Ingest) : State := let s := (p6.setF (magF F.MAGPORT_P_INGEST_CTL_STATE 1) st); { s with mag := { s.mag with ports := [(1, { mp with ingest := i })] } }
def it : IngTask := { (default : IngTask) with kind := 4, leaf := 3, len := 8192 }
def q1x : State := ing 1 { (default : Ingest) with tasks := [(7, it)] }
def clip (d : List Byte) : List Byte := leBytes 4 1 ++ leBytes 4 6 ++ leBytes 8 0 ++ leBytes 8 0 ++ List.replicate 40 0 ++ d ++ List.replicate 64 0
def q2 : State := ing 2 { (default : Ingest) with cur := 1, clips := [clip (Ingest.tree { (default : Ingest) with cur := 1 }), clip []], digests := [] }
def q3 : State := ing 2 { (default : Ingest) with cur := 1, clips := [clip (List.replicate 64 5), clip []] }
def q6 : State := p5.setF (magF F.MAGPORT_P_CFG_ENABLE 1) 0
def trn (a w0 w3 : Nat) : List Byte := fo 1 0 0 3 F0 0 2 (leBytes 4 a ++ leBytes 4 w0 ++ leBytes 4 w3 ++ List.replicate 52 0)
def rpl (a w0 w3 : Nat) : List Byte := fo 2 0 0 3 F0 0 2 (leBytes 4 a ++ leBytes 4 w0 ++ leBytes 4 w3 ++ List.replicate 4 0)

/-- The hypotheses of every clause of MagazineTasksAreAccepted are met. -/
theorem meets_MagazineTasksAreAccepted :
    (1 < 4) ∧ (m0.deaf = false) ∧ (0 = 0) ∧ ((parseFolio (ackf 3 4 [])).headOk = true) ∧
    ((parseFolio (ackf 3 4 [])).wellFormed = true) ∧ ((parseFolio (ackf 3 4 [])).dataOk = true) ∧
    ((parseFolio (ackf 3 4 [])).seq = (m0.magPort 1).rxNext) ∧ (m0.magUp 1 = true) ∧ ((parseFolio (ackf 3 4 [])).type = 3) ∧
    ((parseFolio (ackf 3 4 [])).ack ≠ 4294967295) ∧
    (∀ m ∈ (m0.magPort 1).out, m.sent = true ∧ m.seq ≤ (parseFolio (ackf 3 4 [])).ack) ∧
    ((parseFolio (ackf 4 F0 (leBytes 4 4))).headOk = true) ∧ ((parseFolio (ackf 4 F0 (leBytes 4 4))).wellFormed = true) ∧
    ((parseFolio (ackf 4 F0 (leBytes 4 4))).dataOk = true) ∧
    ((parseFolio (ackf 4 F0 (leBytes 4 4))).seq = (m0.magPort 1).rxNext) ∧ ((parseFolio (ackf 4 F0 (leBytes 4 4))).type = 4) ∧
    ((parseFolio (ackf 4 F0 (leBytes 4 4))).ack = 4294967295) ∧ (∀ m ∈ (m0.magPort 1).out, m.sent = true) ∧
    (m0.magUp 1 = true ∨ m0.magState 1 = 3) ∧ (folioArrives m0 1 0 (ackf 119 F0 []) 119) ∧ (119 ≠ 1) ∧ (119 ≠ 2) ∧
    (senderMay (m0.magRole 1) 119 = false) ∧ ((parseFolio (ackf 119 F0 [])).dockRecord (m0.magRole 1) = false) ∧
    (taskArrives m0 1 0 (tw 1 4096 0 []) 1) ∧ (taskArrives m0 1 0 (tw 2 8192 3 []) 2) ∧ (hasEntry m0 (m0.magVol 1) 0) ∧
    (m0.volStatus (m0.magVol 1) (parseTask (parseFolio (tw 2 8192 3 [])).data).leaf ((parseTask (parseFolio (tw 2 8192 3 [])).data).length / 4096) 0 = (0 : Status)) ∧
    (taskArrives m3 1 0 (tw 3 8192 3 []) 3) ∧
    (m3.magLandOf 1 (parseTask (parseFolio (tw 3 8192 3 [])).data).leaf ((parseTask (parseFolio (tw 3 8192 3 [])).data).length / 4096) = ((0 : Status), none)) ∧
    (m3.volStatus (m3.magVol 1) (parseTask (parseFolio (tw 3 8192 3 [])).data).leaf ((parseTask (parseFolio (tw 3 8192 3 [])).data).length / 4096) 1 = (0 : Status)) ∧
    (hasEntry m3 (m3.magVol 1) 1) ∧ (m3.overBudget 1 (parseTask (parseFolio (tw 3 8192 3 [])).data).length = false) ∧
    (taskArrives m4 1 0 (tw 3 65536 160 []) 3) ∧
    (m4.magLandOf 1 (parseTask (parseFolio (tw 3 65536 160 [])).data).leaf ((parseTask (parseFolio (tw 3 65536 160 [])).data).length / 4096) = ((0 : Status), some (2, 0))) ∧
    ((m4.takeOf 2).slotStatus 0 = (0 : Status)) ∧ (m4.landRace 2 0 = (0 : Status)) ∧ (taskArrives m0 1 0 (tw 4 0 0 []) 4) ∧
    (m0.volStatus (m0.magVol 1) 0 0 4 = (0 : Status)) ∧ (hasEntry m0 (m0.magVol 1) 4) ∧
    (taskArrives m0 1 0 (tw 5 0 9 (leBytes 4 4)) 5) ∧
    (m0.volStatus (m0.magVol 1) (parseTask (parseFolio (tw 5 0 9 (leBytes 4 4))).data).leaf (fieldAt (parseTask (parseFolio (tw 5 0 9 (leBytes 4 4))).data).param 0 4) 3 = (0 : Status)) ∧
    (hasEntry m0 (m0.magVol 1) 3) ∧ (taskArrives m0 1 0 (tw 6 4096 0 []) 6) ∧ (taskArrives m4 1 0 (tw 7 0 0 [(2 : Byte)]) 7) ∧
    (fieldAt (parseTask (parseFolio (tw 7 0 0 [(2 : Byte)])).data).param 0 1 < 64) ∧
    (1 ≤ (m4.takeOf (fieldAt (parseTask (parseFolio (tw 7 0 0 [(2 : Byte)])).data).param 0 1)).state) ∧
    ((m4.takeOf (fieldAt (parseTask (parseFolio (tw 7 0 0 [(2 : Byte)])).data).param 0 1)).state ≤ 3) ∧
    ((m4.takeOf (fieldAt (parseTask (parseFolio (tw 7 0 0 [(2 : Byte)])).data).param 0 1)).port = 16 + 1) ∧
    ((m4.takeOf (fieldAt (parseTask (parseFolio (tw 7 0 0 [(2 : Byte)])).data).param 0 1)).queue ≠ m4.magQueue 1) ∧
    (folioArrives m0 1 0 (tw 9 0 0 []) 16) ∧ (m0.magRole 1 = 1) ∧
    ((parseTask (parseFolio (tw 9 0 0 [])).data).op = 0 ∨ 7 < (parseTask (parseFolio (tw 9 0 0 [])).data).op) ∧
    ((m0.magTask 1 (parseFolio (tw 9 0 0 [])).task).state = 0) ∧ (takesOne m0 (m0.magQueue 1) kMagazine) ∧ (m5.magRole 1 = 1) ∧
    (folioArrives m0 1 0 (fo 19 0 0 3 F0 0 2 []) 19) ∧ (m0.magTags 1 = []) ∧ (folioArrives m6 1 0 (fo 19 0 0 3 F0 0 2 []) 19) ∧
    (m6.magRole 1 = 1) ∧ (m6.magTags 1 = [5]) ∧ ((m6.tagOf 5).state = TagState.dispatched) ∧ ((m6.tagOf 5).catchable = true) ∧
    ((m6.tagOf 5).aborted = false) ∧ (folioArrives m0 1 0 (fo 20 0 7 3 F0 0 2 []) 20) ∧ (m0.magFeat 1 100 = true) ∧
    ((m0.magTask 1 (parseFolio (fo 20 0 7 3 F0 0 2 [])).task).tag = 0) ∧ (folioArrives m6 1 0 (fo 20 0 7 3 F0 0 2 []) 20) ∧
    (m6.magFeat 1 100 = true) ∧ ((m6.magTask 1 (parseFolio (fo 20 0 7 3 F0 0 2 [])).task).tag ≠ 0) ∧
    ((m6.tagOf ((m6.magTask 1 (parseFolio (fo 20 0 7 3 F0 0 2 [])).task).tag - 1)).state = TagState.dispatched) ∧
    ((m6.tagOf ((m6.magTask 1 (parseFolio (fo 20 0 7 3 F0 0 2 [])).task).tag - 1)).catchable = true) ∧
    ((m6.tagOf ((m6.magTask 1 (parseFolio (fo 20 0 7 3 F0 0 2 [])).task).tag - 1)).aborted = false) := by
  unfold taskArrives folioArrives hasEntry takesOne tagsCanonical
  refine ⟨?_, ?_, ?_, ?_, ?_, ?_, ?_, ?_, ?_, ?_, ?_, ?_, ?_, ?_, ?_, ?_, ?_, ?_, ?_, ?_, ?_, ?_, ?_, ?_, ?_, ?_, ?_, ?_, ?_, ?_, ?_, ?_, ?_, ?_, ?_, ?_, ?_, ?_, ?_, ?_, ?_, ?_, ?_, ?_, ?_, ?_, ?_, ?_, ?_, ?_, ?_, ?_, ?_, ?_, ?_, ?_, ?_, ?_, ?_, ?_, ?_, ?_, ?_, ?_, ?_, ?_, ?_, ?_, ?_, ?_, ?_, ?_, ?_⟩ <;> decide +kernel

/-- The hypotheses of every clause of MagazinePortsTrainAndIngest are met. -/
theorem meets_MagazinePortsTrainAndIngest :
    (1 < 4) ∧ (p0.magMayTrain 1 = true) ∧ (p0.magRole 1 = 2 ∨ p0.magTags 1 = []) ∧
    (p0.getF (magF F.MAGPORT_P_CTL_BUSY 1) ≠ 1) ∧ (p7.getF (magF F.MAGPORT_P_CTL_BUSY 1) = 1) ∧ (q6.magMayTrain 1 = false) ∧
    (q6.getF (magF F.MAGPORT_P_CTL_BUSY 1) ≠ 1) ∧ (p1.magMayTrain 1 = true) ∧ (p1.magRole 1 = 2 ∨ p1.magTags 1 = []) ∧
    (p1.magState 1 ≠ 0) ∧ (p0.magState 1 = 0) ∧ (p3.toll.takes = []) ∧ (p3.magRole 1 = 2 ∨ p3.magTags 1 = []) ∧
    (3 ≤ p3.magState 1) ∧ (p3.magState 1 ≠ 6) ∧ (12 = 12 ∨ 12 = 3) ∧ (p1.magState 1 = 1 ∨ p1.magState 1 = 2) ∧
    (folioArrives p3 1 0 (trn 2 (2 ^ 32 - 1) (2 ^ 32 - 1)) 1) ∧ (p3.magRole 1 = 1) ∧
    (fieldAt (parseFolio (trn 2 (2 ^ 32 - 1) (2 ^ 32 - 1))).data 0 1 ≠ 1) ∧
    ((fieldAt (parseFolio (trn 2 (2 ^ 32 - 1) (2 ^ 32 - 1))).data 4 4 &&& p3.mgmtWord 0).testBit 0 = true) ∧
    ((fieldAt (parseFolio (trn 2 (2 ^ 32 - 1) (2 ^ 32 - 1))).data 8 4 &&& p3.mgmtWord 3).testBit 2 = true) ∧
    ((fieldAt (parseFolio (trn 2 (2 ^ 32 - 1) (2 ^ 32 - 1))).data 8 4 &&& p3.mgmtWord 3).testBit 0 = true) ∧
    (∀ r < 64, (p3.magTask 1 r).state ≠ 2) ∧ (folioArrives p3 1 0 (trn 2 0 5) 1) ∧
    (fieldAt (parseFolio (trn 2 0 5)).data 0 1 ≠ 1) ∧
    ((fieldAt (parseFolio (trn 2 0 5)).data 4 4 &&& p3.mgmtWord 0).testBit 0 = false) ∧ (folioArrives p3 1 0 (trn 2 1 0) 1) ∧
    (fieldAt (parseFolio (trn 2 1 0)).data 0 1 ≠ 1) ∧
    ((fieldAt (parseFolio (trn 2 1 0)).data 4 4 &&& p3.mgmtWord 0).testBit 0 = true) ∧
    ((fieldAt (parseFolio (trn 2 1 0)).data 8 4 &&& p3.mgmtWord 3).testBit 2 = false ∨ (fieldAt (parseFolio (trn 2 1 0)).data 8 4 &&& p3.mgmtWord 3).testBit 0 = false) ∧
    (folioArrives p3 1 0 (trn 1 1 5) 1) ∧ (fieldAt (parseFolio (trn 1 1 5)).data 0 1 = 1) ∧
    (folioArrives p4 1 0 (rpl 0 (2 ^ 32 - 1) (2 ^ 32 - 1)) 2) ∧ (p4.magRole 1 = 2) ∧ (p4.ingRuns 1 = false) ∧
    (fieldAt (parseFolio (rpl 0 (2 ^ 32 - 1) (2 ^ 32 - 1))).data 0 2 = 0) ∧
    ((fieldAt (parseFolio (rpl 0 (2 ^ 32 - 1) (2 ^ 32 - 1))).data 4 4 &&& p4.mgmtWord 0).testBit 0 = true) ∧
    ((fieldAt (parseFolio (rpl 0 (2 ^ 32 - 1) (2 ^ 32 - 1))).data 8 4 &&& p4.mgmtWord 3).testBit 2 = true) ∧
    ((fieldAt (parseFolio (rpl 0 (2 ^ 32 - 1) (2 ^ 32 - 1))).data 8 4 &&& p4.mgmtWord 3).testBit 1 = true) ∧
    (folioArrives p4 1 0 (rpl 20496 1 1) 2) ∧ (fieldAt (parseFolio (rpl 20496 1 1)).data 0 2 ≠ 0) ∧
    (folioArrives p6 1 0 (fo 21 0 7 3 F0 0 2 [(0 : Byte), (0 : Byte), (0 : Byte), (0 : Byte), (0 : Byte), (0 : Byte), (0 : Byte), (0 : Byte)]) 21) ∧
    (p6.magRole 1 = 2) ∧ (folioArrives p6 1 0 (fo 22 0 7 3 F0 0 2 (List.replicate 64 (0 : Byte))) 22) ∧
    (folioArrives p6 1 0 (fo 23 0 0 3 F0 0 2 ([(2 : Byte), (0 : Byte), (0 : Byte), (0 : Byte)] ++ leBytes 4 9)) 23) ∧
    (folioArrives q1x 1 0 (fo 17 0 7 3 F0 0 2 (leBytes 2 16464 ++ List.replicate 62 (0 : Byte))) 17) ∧ (q1x.magRole 1 = 2) ∧
    (q1x.ingRuns 1 = true) ∧ (AMap.wf (fun x => default) (q1x.ingOf 1).tasks = true) ∧
    (3 ≤ ((q1x.ingOf 1).tasks.get (parseFolio (fo 17 0 7 3 F0 0 2 (leBytes 2 16464 ++ List.replicate 62 (0 : Byte)))).task).kind) ∧
    (((q1x.ingOf 1).tasks.get (parseFolio (fo 17 0 7 3 F0 0 2 (leBytes 2 16464 ++ List.replicate 62 (0 : Byte)))).task).kind ≤ 4) ∧
    (((q1x.ingOf 1).tasks.get (parseFolio (fo 17 0 7 3 F0 0 2 (leBytes 2 16464 ++ List.replicate 62 (0 : Byte)))).task).statusIn = false) ∧
    (((q1x.ingOf 1).tasks.get (parseFolio (fo 17 0 7 3 F0 0 2 (leBytes 2 16464 ++ List.replicate 62 (0 : Byte)))).task).tries = 0) ∧
    (2 ≤ classOf (fieldAt (parseFolio (fo 17 0 7 3 F0 0 2 (leBytes 2 16464 ++ List.replicate 62 (0 : Byte)))).data 0 2)) ∧
    (p8.deaf = false) ∧ (p8.magRole 1 = 1) ∧ (p8.magUp 1 = true) ∧ (p8.magTwin 1 = true) ∧ ((p8.magPort 1).out = []) ∧
    (p9.twinState 1 = 3) ∧ (∀ r < 64, (p9.magTask 1 r).state ≠ 1) ∧ (p6.deaf = false) ∧ (p6.ingRuns 1 = false) ∧
    (p6.magUp 1 = true ∧ p6.magRole 1 = 2 ∧ (p6.volOf (p6.getF (magF F.MAGPORT_P_INGEST_TARGET_VOLUME 1))).slot ≠ 0 ∧ p6.owns (p6.volOf (p6.getF (magF F.MAGPORT_P_INGEST_TARGET_VOLUME 1))).commons = true ∧ (p6.volOf (p6.getF (magF F.MAGPORT_P_INGEST_TARGET_VOLUME 1))).readOnly = false) ∧
    (q1x.deaf = false) ∧ (p0.deaf = false) ∧ (p0.ingRuns 1 = false) ∧
    (¬(p0.magUp 1 = true ∧ p0.magRole 1 = 2 ∧ (p0.volOf (p0.getF (magF F.MAGPORT_P_INGEST_TARGET_VOLUME 1))).slot ≠ 0 ∧ p0.owns (p0.volOf (p0.getF (magF F.MAGPORT_P_INGEST_TARGET_VOLUME 1))).commons = true ∧ (p0.volOf (p0.getF (magF F.MAGPORT_P_INGEST_TARGET_VOLUME 1))).readOnly = false)) ∧
    ((q1x.ingOf 1).sign = false) ∧ (q2.deaf = false) ∧ (q2.ingState 1 = 2) ∧ (1 ≤ (q2.ingOf 1).cur) ∧
    ((q2.ingOf 1).cur < (q2.ingOf 1).clips.length) ∧ ((q2.ingOf 1).room ≤ (q2.ingOf 1).fed) ∧
    (Machine.bitOf (fieldAt ((q2.ingOf 1).clips.getD ((q2.ingOf 1).cur - 1) []) 4 4) 1 = true) ∧
    (Machine.bitOf (fieldAt ((q2.ingOf 1).clips.getD ((q2.ingOf 1).cur - 1) []) 4 4) 2 = true) ∧
    (decide ((q2.ingOf 1).tree = List.take 64 (List.drop 64 ((q2.ingOf 1).clips.getD ((q2.ingOf 1).cur - 1) []))) = true ∧ 1 = 1 ∨ decide ((q2.ingOf 1).tree = List.take 64 (List.drop 64 ((q2.ingOf 1).clips.getD ((q2.ingOf 1).cur - 1) []))) = false ∧ (q2.ingOf 1).reread = true ∧ 1 = 2) ∧
    (q3.deaf = false) ∧ (q3.ingState 1 = 2) ∧ (1 ≤ (q3.ingOf 1).cur) ∧ ((q3.ingOf 1).cur < (q3.ingOf 1).clips.length) ∧
    ((q3.ingOf 1).room ≤ (q3.ingOf 1).fed) ∧
    (Machine.bitOf (fieldAt ((q3.ingOf 1).clips.getD ((q3.ingOf 1).cur - 1) []) 4 4) 1 = true) ∧
    (Machine.bitOf (fieldAt ((q3.ingOf 1).clips.getD ((q3.ingOf 1).cur - 1) []) 4 4) 2 = true) ∧
    (decide ((q3.ingOf 1).tree = List.take 64 (List.drop 64 ((q3.ingOf 1).clips.getD ((q3.ingOf 1).cur - 1) []))) = false) ∧
    ((q3.ingOf 1).reread = false) := by
  unfold folioArrives
  refine ⟨?_, ?_, ?_, ?_, ?_, ?_, ?_, ?_, ?_, ?_, ?_, ?_, ?_, ?_, ?_, ?_, ?_, ?_, ?_, ?_, ?_, ?_, ?_, ?_, ?_, ?_, ?_, ?_, ?_, ?_, ?_, ?_, ?_, ?_, ?_, ?_, ?_, ?_, ?_, ?_, ?_, ?_, ?_, ?_, ?_, ?_, ?_, ?_, ?_, ?_, ?_, ?_, ?_, ?_, ?_, ?_, ?_, ?_, ?_, ?_, ?_, ?_, ?_, ?_, ?_, ?_, ?_, ?_, ?_, ?_, ?_, ?_, ?_, ?_, ?_, ?_, ?_, ?_, ?_, ?_, ?_, ?_, ?_, ?_, ?_, ?_, ?_⟩ <;> decide +kernel

/-- A DATA folio of 4,096 bytes for register 7. -/
def dataFolio : List Byte := fo 0x12 0 7 3 F0 0 2 (List.replicate 4096 1)

theorem dataFolio_reads : parseFolio dataFolio = {
    type := 0x12, flags := 0, task := 7, res := 0, len := 4096, seq := 3, ack := F0, ofs := 0, credit := 2, headOk := true
    data := List.replicate 4096 1, dataOk := true } := by
  have hn : (List.replicate 4096 (1 : Byte)).length = 4096 := List.length_replicate
  have h := parseFolio_folioBytes 0x12 0 7 3 F0 0 2 (List.replicate 4096 1) (by decide) (by decide) (by decide) (by decide) (by decide)
    (by decide) (by decide) (by rw [hn]; decide)
  rw [hn] at h
  exact h

/-- Its bytes reach the task in register 7. -/
theorem meets_MagazineTasksAreAccepted_data : let h := parseFolio dataFolio
    let m := m5.magTask 1 h.task
    let g := m5.tagOf (m.tag - 1)
    folioArrives m5 1 0 dataFolio 0x12 ∧ m5.magRole 1 = 1 ∧ h.len ≠ 0 ∧ h.len % 4096 = 0 ∧ m.state = 1 ∧ m.tag ≠ 0 ∧ g.state = .arriving ∧
      h.ofs = g.arrived ∧ g.arrived + h.data.length < g.declared ∧ h.flags = 0 := by
  unfold folioArrives
  simp only [dataFolio_reads, List.length_replicate]
  decide +kernel

/-- In the dock role, the ingest's task. -/
theorem meets_MagazinePortsTrainAndIngest_data : let h := parseFolio dataFolio
    let y := (q1x.ingOf 1).tasks.get h.task
    folioArrives q1x 1 0 dataFolio 0x12 ∧ q1x.magRole 1 = 2 ∧ h.len ≠ 0 ∧ h.len % 4096 = 0 ∧ y.kind ≠ 0 ∧ h.ofs = y.data.length ∧
      y.data.length + h.data.length ≤ y.len := by
  unfold folioArrives
  simp only [dataFolio_reads, List.length_replicate]
  decide +kernel

end Sys2Proof.Tests.Mag

namespace Sys2Proof.Tests.Larder

/-- Its Larder changed. -/
def lard (l : Larder) : State := { live .service with larder := l }
/-- One held line, dirty, of bank 3, set 0, way 0. -/
def oneLine : AMap Line := [(96, { valid := true, tag := 0, dirty := true })]
def la1 : State := ((lard { (default : Larder) with lines := oneLine }).setF F.LARDER_MAINT_ADDR_VAL 384).setF F.LARDER_MAINT_LEN_VAL 128
def la2 : State := (live .service).setF F.LARDER_MAINT_CTL_BUSY 1
def la3 : State := (live .service).setF F.LARDER_MAINT_ADDR_VAL 64
def la4 : State := lard { (default : Larder) with maint := some (384, 128, true), fills := [(5, 1)] }
def la5 : State := lard { (default : Larder) with job := 1, lines := oneLine }
def la6 : State := lard { (default : Larder) with job := 2, lines := oneLine }
def la7 : State := lard { (default : Larder) with job := 3, jobBank := 31, jobWay := 15, lines := oneLine }
def la8 : State := lard { (default : Larder) with job := 1, jobQ := [(4, 3)] }
def la9 : State := (live .service).setF F.LARDER_STATE_DISABLED 1
def la10 : State := ((live .service).setF F.LARDER_BANK_SEL_VAL 31).setF (F.LARDER_BANK_RETIRED.at 31) 9
def la11 : State := { la10 with larder := { (default : Larder) with spareFor := [(31, 4)], lines := [(31 * 32 + 16, { valid := true, tag := 3, dirty := true })] } }
def la20 : State := lard { (default : Larder) with fills := [(7, 2)], lines := [(wayKey 7 3, { valid := false, tag := lineTag 7, dirty := false, busy := true })] }
def la14 : State := lard { (default : Larder) with lines := [(96, { valid := true, tag := 0, dirty := false })] }
def la15 : State := lard { (default : Larder) with lines := oneLine, corr := [(96, List.replicate 63 0)] }
def la16 : State := (lard { (default : Larder) with lines := oneLine }).setF (F.HBM_CH_LEFT.at 1) 0
def la17 : State := { la16 with larder := { (default : Larder) with rowErr := [(0, List.replicate 15 0)] } }
def la18 : State := { live .service with toll := { (default : Toll) with takes := [(0, { (default : Take) with state := 1, rate := 100 })], cap := { (default : Cap) with ingest := 100, fold := 100, slcFree := 1000 } } }
def la19 : State := (live .service).setF F.HBM_CH_SEL_VAL 31 |>.setF (F.HBM_CH_LEFT.at 31) 0

/-- The hypotheses of every clause of LarderIsMaintainedAndManaged are met. -/
theorem meets_LarderIsMaintainedAndManaged :
    (Instr.larderClean = Instr.larderClean ∧ false = false ∨ Instr.larderClean = Instr.larderInvalidate ∧ false = true) ∧
    ((live Mode.service).getF F.LARDER_MAINT_CTL_BUSY ≠ 1) ∧ ((live Mode.service).getF F.LARDER_MAINT_ADDR_VAL % 128 = 0) ∧
    ((live Mode.service).getF F.LARDER_MAINT_LEN_VAL % 128 = 0) ∧
    ((live Mode.service).getF F.LARDER_MAINT_LEN_VAL ≤ 1073741824) ∧ (linesCanonical (live Mode.service)) ∧
    (la2.getF F.LARDER_MAINT_CTL_BUSY = 1) ∧ (la3.getF F.LARDER_MAINT_CTL_BUSY ≠ 1) ∧
    (la3.getF F.LARDER_MAINT_ADDR_VAL % 128 ≠ 0 ∨ la3.getF F.LARDER_MAINT_LEN_VAL % 128 ≠ 0 ∨ 1073741824 < la3.getF F.LARDER_MAINT_LEN_VAL) ∧
    (la4.larder.maint = some (384, 128, true)) ∧ (∀ x ∈ la4.larder.fills, ¬(384 ≤ x.1 * 128 ∧ x.1 * 128 < 384 + 128)) ∧
    ((live Mode.service).mode = Mode.service ∨ (live Mode.service).mode = Mode.bootstrap) ∧
    ((live Mode.service).larder.job = 0) ∧ (la5.mode = Mode.service ∨ la5.mode = Mode.bootstrap) ∧ (la5.larder.job ≠ 0) ∧
    ((live Mode.solo).mode ≠ Mode.service) ∧ ((live Mode.solo).mode ≠ Mode.bootstrap) ∧ (la9.larder.job = 0) ∧
    (la9.getF F.LARDER_STATE_DISABLED ≠ 0) ∧ (linesCanonical la9) ∧ (8 ≤ 16) ∧ (16 ≤ 16) ∧
    ((live Mode.service).getF F.LARDER_WAYS_COUNT ≤ 16) ∧ (8 ≤ 8) ∧ (8 < (live Mode.service).getF F.LARDER_WAYS_COUNT) ∧
    ((live Mode.service).keepsGuarantee (waysCap 8 (live Mode.service).toll.cap) = true) ∧
    (8 < la18.getF F.LARDER_WAYS_COUNT) ∧ (la18.larder.job = 0) ∧ (la18.keepsGuarantee la18.toll.cap = true) ∧
    (la18.keepsGuarantee (waysCap 8 la18.toll.cap) = false) ∧ (7 < 8 ∨ 16 < 7) ∧ (0 ≤ 16) ∧
    (((live Mode.service).waysFit ((live Mode.service).getF F.LARDER_BANK_SEL_VAL)).contains 0 = true) ∧
    (13 ≤ ((live Mode.service).waysFit ((live Mode.service).getF F.LARDER_BANK_SEL_VAL)).length) ∧
    ((live Mode.service).retireDefers kWay ((live Mode.service).getF F.LARDER_BANK_SEL_VAL * 32 + 0) = none) ∧
    ((la18.waysFit (la18.getF F.LARDER_BANK_SEL_VAL)).contains 0 = true) ∧
    (13 ≤ (la18.waysFit (la18.getF F.LARDER_BANK_SEL_VAL)).length) ∧
    (la18.retireDefers kWay (la18.getF F.LARDER_BANK_SEL_VAL * 32 + 0) = some 0) ∧
    (((live Mode.service).waysFit ((live Mode.service).getF F.LARDER_BANK_SEL_VAL)).contains 16 = false) ∧
    (la10.larder.job = 0) ∧ (la10.mode = Mode.service) ∧
    ((la10.getF (F.LARDER_BANK_RETIRED.at (la10.getF F.LARDER_BANK_SEL_VAL))).testBit 0 = true) ∧
    (la10.larder.spareFor.get (la10.getF F.LARDER_BANK_SEL_VAL) ≠ 0 + 1) ∧ (3 ≤ 16) ∧ (la11.larder.job = 0) ∧
    (la11.mode = Mode.service) ∧ ((la11.getF (F.LARDER_BANK_RETIRED.at (la11.getF F.LARDER_BANK_SEL_VAL))).testBit 3 = true) ∧
    (la11.larder.spareFor.get (la11.getF F.LARDER_BANK_SEL_VAL) = 3 + 1) ∧ ((live Mode.solo).larder.job = 0) ∧
    (la5.larder.job = 1) ∧ (la5.larder.jobQ = []) ∧ (linesCanonical la5) ∧ (la6.larder.job = 2) ∧ (la6.larder.jobQ = []) ∧
    (la7.larder.job = 3) ∧ (la7.larder.jobBank < 32) ∧ (la7.larder.jobWay < 16) ∧ (la7.larder.jobQ = []) ∧
    (la8.larder.job = 1) ∧ (linesCanonical la8) ∧ (la8.larder.jobQ = [(4, 3)]) ∧ (la20.larder.fills.get 7 ≠ 0) ∧
    (la20.hands.ctxs = []) ∧ (la20.larderOn = true) ∧ (la20.fillWay 7 = some 3) := by
  unfold linesCanonical
  refine ⟨?_, ?_, ?_, ?_, ?_, ?_, ?_, ?_, ?_, ?_, ?_, ?_, ?_, ?_, ?_, ?_, ?_, ?_, ?_, ?_, ?_, ?_, ?_, ?_, ?_, ?_, ?_, ?_, ?_, ?_, ?_, ?_, ?_, ?_, ?_, ?_, ?_, ?_, ?_, ?_, ?_, ?_, ?_, ?_, ?_, ?_, ?_, ?_, ?_, ?_, ?_, ?_, ?_, ?_, ?_, ?_, ?_, ?_, ?_, ?_, ?_, ?_, ?_, ?_, ?_⟩ <;> decide +kernel

/-- The hypotheses of every clause of LarderAndHbmErrorsAreHandled are met. -/
theorem meets_LarderAndHbmErrorsAreHandled :
    ((la1.larder.lines.get ((0 % 768 * 32 + 3 % 32) * 32 + 0 % 17)).valid = true) ∧ (wayIdle la1 (3 % 32) (0 % 17)) ∧
    ((la1.larder.lines.get ((0 % 768 * 32 + 3 % 32) * 32 + 0 % 17)).dirty = true) ∧
    ((la14.larder.lines.get ((0 % 768 * 32 + 3 % 32) * 32 + 0 % 17)).valid = true) ∧ (wayIdle la14 (3 % 32) (0 % 17)) ∧
    ((la14.larder.lines.get ((0 % 768 * 32 + 3 % 32) * 32 + 0 % 17)).dirty = false) ∧
    ((la1.recent (la1.larder.corr.get (3 % 32 * 32 + 0 % 17)) 3600).length < 64) ∧
    ((la15.larder.lines.get ((0 % 768 * 32 + 3 % 32) * 32 + 0 % 17)).valid = true) ∧
    (64 ≤ (la15.recent (la15.larder.corr.get (3 % 32 * 32 + 0 % 17)) 3600).length) ∧ (wayIdle la15 (3 % 32) (0 % 17)) ∧
    ((live Mode.service).larder.rows.contains (hbmChannel ((live Mode.service).getF F.HBM_STATE_STACKS) 0, 0) = false) ∧
    ((live Mode.service).getF (F.HBM_CH_LEFT.at (hbmChannel ((live Mode.service).getF F.HBM_STATE_STACKS) 0)) ≠ 0) ∧
    (la16.larder.rows.contains (hbmChannel (la16.getF F.HBM_STATE_STACKS) 384, 0) = false) ∧
    (la16.getF (F.HBM_CH_LEFT.at (hbmChannel (la16.getF F.HBM_STATE_STACKS) 384)) = 0) ∧
    ((la16.lineWay (lineOf 384)).isSome = true) ∧
    (((live Mode.service).recent ((live Mode.service).larder.rowErr.get (hbmChannel ((live Mode.service).getF F.HBM_STATE_STACKS) 0 * 1048576 + 0)) 86400).length < 16) ∧
    (16 ≤ (la17.recent (la17.larder.rowErr.get (hbmChannel (la17.getF F.HBM_STATE_STACKS) 0 * 1048576 + 0)) 86400).length) ∧
    (la17.larder.rows.contains (hbmChannel (la17.getF F.HBM_STATE_STACKS) 0, 0) = false) ∧
    (la17.getF (F.HBM_CH_LEFT.at (hbmChannel (la17.getF F.HBM_STATE_STACKS) 0)) ≠ 0) ∧
    ((live Mode.service).getF (F.HBM_ROW_CTL_BUSY.at ((live Mode.service).getF F.HBM_CH_SEL_VAL)) ≠ 1) ∧
    ((live Mode.service).getF (F.HBM_CH_LEFT.at ((live Mode.service).getF F.HBM_CH_SEL_VAL)) ≠ 0) ∧
    ((live Mode.service).larder.rows.contains ((live Mode.service).getF F.HBM_CH_SEL_VAL, 0) = false) ∧
    (la19.getF (F.HBM_ROW_CTL_BUSY.at (la19.getF F.HBM_CH_SEL_VAL)) ≠ 1) ∧
    (la19.getF (F.HBM_CH_LEFT.at (la19.getF F.HBM_CH_SEL_VAL)) = 0) := by
  unfold wayIdle
  refine ⟨?_, ?_, ?_, ?_, ?_, ?_, ?_, ?_, ?_, ?_, ?_, ?_, ?_, ?_, ?_, ?_, ?_, ?_, ?_, ?_, ?_, ?_, ?_, ?_⟩ <;> decide +kernel

end Sys2Proof.Tests.Larder

namespace Sys2Proof.Tests.Strong

/-- Its Strongroom changed. -/
def stro (x : Strong) : State := { live .service with strong := x }
/-- Thirty-two bytes of a key. -/
def omk32 : List Byte := List.replicate 32 7
/-- Ninety-six bytes of a vault's set, its halves different. -/
def set96 : List Byte := List.replicate 32 1 ++ List.replicate 32 2 ++ List.replicate 32 3
/-- An export blob of vault 5. -/
def blob5 : List Byte := leBytes 8 0x1234 ++ [5] ++ List.replicate 7 0 ++ kwWrap omk32 set96
/-- A wrapped session key. -/
def sess40 : List Byte := kwWrap omk32 (List.replicate 32 9)
def st1 : State := (live .service).setF F.STRONG_KEY_CTL_BUSY 1
def st2 : State := stro { (default : Strong) with vaults := [(0, ⟨77, [1, 2, 3]⟩), (255, ⟨77, [1, 2, 3]⟩)], omk := omk32 }
def st3 : State := (stro { (default : Strong) with omk := omk32, keyBuf := blob5 }).setF F.STRONG_KEY_LEN_VAL 120
def st4 : State := (stro { (default : Strong) with omk := omk32, keyBuf := sess40 }).setF F.STRONG_KEY_LEN_VAL 40
def st5 : State := (stro { (default : Strong) with keyBuf := List.replicate 516 3 }).setF F.STRONG_KEY_LEN_VAL 516
def st7 : State := { st2 with mode := .paired }
def st10 : State := stro { (default : Strong) with keyBuf := [1], omk := [] }
def st11 : State := (live .service).setF F.STRONG_ROLL_CTL_BUSY 1
def st12 : State := (live .service).setF (F.STRONG_FW_BANKA_STATE.nth 1) 1
def st13 : State := ((stro { (default : Strong) with blockBuf := [1, 2] }).setF (F.STRONG_FW_BANKA_STATE.nth 1) 1).setN R.STRONG_FW_COUNT 65536
def st14 : State := st13.setF F.STRONG_FW_BLK_VAL 1
def st15 : State := (live .service).setF (F.STRONG_FW_BANKA_STATE.nth 1) 2
def st16 : State := stro { (default : Strong) with active := 1 }
def st17 : State := here ((live .paired).setF (F.STRONG_FW_BANKA_STATE.nth 1) 2)
def st18 : State := (({ st15 with strong := { (default : Strong) with rollTask := 2 } }))
def st19 : State := { ((live .solo).setF F.STRONG_ROLL_CTL_BUSY 1).setF F.STRONG_ROLL_STATE_STEP 2 with cf := { (default : Cf) with partnerMode := 7 } }
def st19b : State := here st19
def st20 : State := { ((live .paired).setF F.STRONG_ROLL_CTL_BUSY 1).setF F.STRONG_ROLL_STATE_STEP 3 with cf := { (default : Cf) with partnerMode := 3 } }
def st20b : State := here st20
def st21 : State := { st20 with strong := { (default : Strong) with partnerFw := 2 ^ 32 } }
def st22 : State := { (st15.setF F.STRONG_ROLL_CTL_BUSY 1).setF F.STRONG_ROLL_STATE_STEP 4 with strong := { (default : Strong) with rollPhase := 1 } }
def st23 : State := { (st17.setF F.STRONG_ROLL_CTL_BUSY 1).setF F.STRONG_ROLL_STATE_STEP 4 with strong := { (default : Strong) with rollPhase := 2 } }
/-- A head block of two blocks whose second hashes as it says. -/
def hb : List Byte := List.replicate 6 0 ++ leBytes 2 1 ++ List.replicate 8 0 ++ leBytes 4 2 ++ List.replicate 0x90C 0 ++ digest 1 [1, 2] ++ [1]
def st24 : State := { st14 with strong := { st14.strong with blocks := [(512, hb)] } }
def st25 : State := { st12 with strong := { (default : Strong) with blocks := [(512, [0])] } }
def st26 : State := { st12 with strong := { (default : Strong) with blocks := [(512, hb), (513, [1])] } }

/-- The hypotheses of every clause of KeysAndGrantsAreHandled are met. -/
theorem meets_KeysAndGrantsAreHandled :
    (st1.getF F.STRONG_KEY_CTL_BUSY = 1) ∧ ((live Mode.service).getF F.STRONG_KEY_CTL_BUSY ≠ 1) ∧
    ((live Mode.service).keyPermits 3 255 = false) ∧ (st10.getF F.STRONG_KEY_CTL_BUSY ≠ 1) ∧ (st10.keyPermits 1 0 = true) ∧
    (1 ∈ [1, 2, 5, 7]) ∧ (¬st10.strong.keyBuf.length = st10.getF F.STRONG_KEY_LEN_VAL) ∧ (st7.getF F.STRONG_KEY_CTL_BUSY ≠ 1) ∧
    (st7.keyPermits 2 0 = true) ∧ (2 ∈ [2, 5, 7] → st7.strong.keyBuf.length = st7.getF F.STRONG_KEY_LEN_VAL) ∧ (2 ≠ 1) ∧
    (2 ≠ 4) ∧ (st7.mode = Mode.paired) ∧ (st2.getF F.STRONG_KEY_CTL_BUSY ≠ 1) ∧ (0 < 256) ∧ (st2.keyPermits 4 0 = true) ∧
    (st5.getF F.STRONG_KEY_CTL_BUSY ≠ 1) ∧ (st5.mode ≠ Mode.paired) ∧ (st5.getN R.HANDS_PROGKEY = 0) ∧
    (st5.strong.keyBuf.length = st5.getF F.STRONG_KEY_LEN_VAL) ∧ (st5.strong.keyBuf.length = 516) ∧
    (st3.getF F.STRONG_KEY_CTL_BUSY ≠ 1) ∧ (st3.mode ≠ Mode.paired) ∧ (5 < 256) ∧ (st3.keyPermits 5 5 = true) ∧
    (st3.strong.keyBuf.length = st3.getF F.STRONG_KEY_LEN_VAL) ∧ (st3.strong.omk ≠ []) ∧ (st3.strong.keyBuf.length = 120) ∧
    (fieldAt st3.strong.keyBuf 8 1 = 5) ∧ (halvesEqual 3 set96 = false) ∧ (st2.mode ≠ Mode.paired) ∧
    (st2.keyPermits 6 0 = true) ∧ (st4.getF F.STRONG_KEY_CTL_BUSY ≠ 1) ∧ (st4.mode ≠ Mode.paired) ∧ (3 < 256) ∧
    (st4.keyPermits 7 3 = true) ∧ (st4.strong.keyBuf.length = st4.getF F.STRONG_KEY_LEN_VAL) ∧ (st4.strong.omk ≠ []) ∧
    (st4.strong.keyBuf.length = 40) := by
  refine ⟨?_, ?_, ?_, ?_, ?_, ?_, ?_, ?_, ?_, ?_, ?_, ?_, ?_, ?_, ?_, ?_, ?_, ?_, ?_, ?_, ?_, ?_, ?_, ?_, ?_, ?_, ?_, ?_, ?_, ?_, ?_, ?_, ?_, ?_, ?_, ?_, ?_, ?_, ?_⟩ <;> decide +kernel

/-- The hypotheses of every clause of FirmwareIsUploadedAndRolled are met. -/
theorem meets_FirmwareIsUploadedAndRolled :
    (st11.getF F.STRONG_ROLL_CTL_BUSY = 1) ∧
    (Instr.fwBegin ∈ [Instr.fwBegin, Instr.fwEndBlock, Instr.fwVerify, Instr.fwAbort] ++ [Instr.fwActivate default, Instr.fwRollback default, Instr.fwCommit]) ∧
    (¬(live Mode.service).getF F.STRONG_ROLL_CTL_BUSY = 1) ∧
    ((live Mode.service).mode = Mode.paired ∨ (live Mode.service).mode = Mode.solo ∨ (live Mode.service).mode = Mode.sealedMode ∨ (live Mode.service).mode = Mode.service) ∧
    (¬st12.getF F.STRONG_ROLL_CTL_BUSY = 1) ∧
    (st12.mode = Mode.paired ∨ st12.mode = Mode.solo ∨ st12.mode = Mode.sealedMode ∨ st12.mode = Mode.service) ∧
    (st12.bankState (1 - st12.runBank) = 1) ∧ (st12.getN R.STRONG_FW_COUNT ≠ 65536) ∧ (¬st13.getF F.STRONG_ROLL_CTL_BUSY = 1) ∧
    (st13.mode = Mode.paired ∨ st13.mode = Mode.solo ∨ st13.mode = Mode.sealedMode ∨ st13.mode = Mode.service) ∧
    (st13.bankState (1 - st13.runBank) = 1) ∧ (st13.getN R.STRONG_FW_COUNT = 65536) ∧ (st13.getF F.STRONG_FW_BLK_VAL = 0) ∧
    (st13.headOk st13.strong.blockBuf = false) ∧ (¬st24.getF F.STRONG_ROLL_CTL_BUSY = 1) ∧
    (st24.mode = Mode.paired ∨ st24.mode = Mode.solo ∨ st24.mode = Mode.sealedMode ∨ st24.mode = Mode.service) ∧
    (st24.bankState (1 - st24.runBank) = 1) ∧ (st24.getN R.STRONG_FW_COUNT = 65536) ∧ (st24.getF F.STRONG_FW_BLK_VAL ≠ 0) ∧
    (st24.strong.blocks.get ((1 - st24.runBank) * 512) ≠ []) ∧
    (st24.getF F.STRONG_FW_BLK_VAL < fwBlocks (st24.strong.blocks.get ((1 - st24.runBank) * 512))) ∧
    (digest 1 st24.strong.blockBuf = List.take 32 (List.drop (2304 + 32 * st24.getF F.STRONG_FW_BLK_VAL) (st24.strong.blocks.get ((1 - st24.runBank) * 512)))) ∧
    (¬st14.getF F.STRONG_ROLL_CTL_BUSY = 1) ∧
    (st14.mode = Mode.paired ∨ st14.mode = Mode.solo ∨ st14.mode = Mode.sealedMode ∨ st14.mode = Mode.service) ∧
    (st14.bankState (1 - st14.runBank) = 1) ∧ (st14.getN R.STRONG_FW_COUNT = 65536) ∧ (st14.getF F.STRONG_FW_BLK_VAL ≠ 0) ∧
    (st14.strong.blocks.get ((1 - st14.runBank) * 512) = [] ∨ fwBlocks (st14.strong.blocks.get ((1 - st14.runBank) * 512)) ≤ st14.getF F.STRONG_FW_BLK_VAL ∨ digest 1 st14.strong.blockBuf ≠ List.take 32 (List.drop (2304 + 32 * st14.getF F.STRONG_FW_BLK_VAL) (st14.strong.blocks.get ((1 - st14.runBank) * 512)))) ∧
    (¬st25.getF F.STRONG_ROLL_CTL_BUSY = 1) ∧
    (st25.mode = Mode.paired ∨ st25.mode = Mode.solo ∨ st25.mode = Mode.sealedMode ∨ st25.mode = Mode.service) ∧
    (st25.bankState (1 - st25.runBank) = 1) ∧ (st25.strong.blocks.get ((1 - st25.runBank) * 512) ≠ []) ∧
    (∀ j < fwBlocks (st25.strong.blocks.get ((1 - st25.runBank) * 512)), st25.strong.blocks.get ((1 - st25.runBank) * 512 + j) ≠ []) ∧
    (st25.partsOk (1 - st25.runBank) = true) ∧ (¬st26.getF F.STRONG_ROLL_CTL_BUSY = 1) ∧
    (st26.mode = Mode.paired ∨ st26.mode = Mode.solo ∨ st26.mode = Mode.sealedMode ∨ st26.mode = Mode.service) ∧
    (st26.bankState (1 - st26.runBank) = 1) ∧ (st26.strong.blocks.get ((1 - st26.runBank) * 512) ≠ []) ∧
    (∀ j < fwBlocks (st26.strong.blocks.get ((1 - st26.runBank) * 512)), st26.strong.blocks.get ((1 - st26.runBank) * 512 + j) ≠ []) ∧
    (st26.partsOk (1 - st26.runBank) = false) ∧ (st12.strong.blocks.get ((1 - st12.runBank) * 512) = []) ∧
    (¬st15.getF F.STRONG_ROLL_CTL_BUSY = 1) ∧
    (Instr.fwActivate default = Instr.fwActivate default ∨ Instr.fwActivate default = Instr.fwRollback default) ∧
    (st15.activateStatus = (0 : Status)) ∧ (st15.mode = Mode.service) ∧ ((live Mode.service).activateStatus ≠ (0 : Status)) ∧
    ((live Mode.service).strong.active = (live Mode.service).runBank) ∧ (¬st16.getF F.STRONG_ROLL_CTL_BUSY = 1) ∧
    (st16.strong.active ≠ st16.runBank) ∧ (¬st17.getF F.STRONG_ROLL_CTL_BUSY = 1) ∧ (st17.slotNo = 0) ∧
    (st17.rollReady = true) ∧ (st17.partnerHere = true) ∧
    ((live Mode.service).slotNo ≠ 0 ∨ (live Mode.service).rollReady = false ∨ (live Mode.service).partnerHere = false) ∧
    (st18.getF F.STRONG_ROLL_CTL_BUSY = 0) ∧ (st18.strong.rollTask = 2) ∧ (st18.mode = Mode.service) ∧
    (st18.activateStatus = (0 : Status)) ∧ (st19b.getF F.STRONG_ROLL_CTL_BUSY ≠ 0) ∧
    (st19b.getF F.STRONG_ROLL_STATE_STEP = 2) ∧ (st19b.mode = Mode.solo) ∧ (st19b.cf.partnerMode = 7) ∧
    (st19b.partnerHere = true) ∧ (st19.getF F.STRONG_ROLL_CTL_BUSY ≠ 0) ∧ (st19.getF F.STRONG_ROLL_STATE_STEP = 2) ∧
    (st19.partnerHere = false) ∧ (st20b.getF F.STRONG_ROLL_CTL_BUSY ≠ 0) ∧ (st20b.getF F.STRONG_ROLL_STATE_STEP = 3) ∧
    (st20b.mode = Mode.paired) ∧
    (st20b.strong.partnerFw / 2 ^ 32 = st20b.getF (F.STRONG_FW_BANKA_VERSION.nth (1 - st20b.runBank))) ∧
    (st20b.serviceStatus = (0 : Status)) ∧ (st20b.getF F.IDENT_MODE_REQ_BUSY ≠ 1) ∧ (st21.getF F.STRONG_ROLL_CTL_BUSY ≠ 0) ∧
    (st21.getF F.STRONG_ROLL_STATE_STEP = 3) ∧ (st21.mode = Mode.paired) ∧
    (st21.strong.partnerFw / 2 ^ 32 ≠ st21.getF (F.STRONG_FW_BANKA_VERSION.nth (1 - st21.runBank))) ∧
    (st22.getF F.STRONG_ROLL_CTL_BUSY ≠ 0) ∧ (st22.getF F.STRONG_ROLL_STATE_STEP = 4) ∧ (st22.strong.rollPhase = 1) ∧
    (st22.mode = Mode.service) ∧ (st22.activateStatus = (0 : Status)) ∧ (st23.getF F.STRONG_ROLL_CTL_BUSY ≠ 0) ∧
    (st23.getF F.STRONG_ROLL_STATE_STEP = 4) ∧ (st23.strong.rollPhase = 2) ∧ (st23.mode = Mode.paired) ∧
    (st23.runBank = st23.strong.active) := by
  refine ⟨?_, ?_, ?_, ?_, ?_, ?_, ?_, ?_, ?_, ?_, ?_, ?_, ?_, ?_, ?_, ?_, ?_, ?_, ?_, ?_, ?_, ?_, ?_, ?_, ?_, ?_, ?_, ?_, ?_, ?_, ?_, ?_, ?_, ?_, ?_, ?_, ?_, ?_, ?_, ?_, ?_, ?_, ?_, ?_, ?_, ?_, ?_, ?_, ?_, ?_, ?_, ?_, ?_, ?_, ?_, ?_, ?_, ?_, ?_, ?_, ?_, ?_, ?_, ?_, ?_, ?_, ?_, ?_, ?_, ?_, ?_, ?_, ?_, ?_, ?_, ?_, ?_, ?_, ?_, ?_, ?_, ?_, ?_, ?_, ?_, ?_⟩ <;> decide +kernel

/-- What the two wrapped blobs hold. -/
theorem meets_KeysAndGrantsAreHandled_unwrapped : kwUnwrap st3.strong.omk (st3.strong.keyBuf.drop 16) = some set96 ∧
    kwUnwrap st4.strong.omk st4.strong.keyBuf = some (List.replicate 32 9) :=
  ⟨kwUnwrap_kwWrap (key := omk32) (m := set96) (n := 12) rfl rfl, kwUnwrap_kwWrap (key := omk32) (n := 4) rfl rfl⟩

end Sys2Proof.Tests.Strong

namespace Sys2Proof.Tests.Crier

def rc (code chan n : Nat) : Rec := { (default : Rec) with code := code, source := 4, chan := chan, body := List.replicate n 1 }
def ob (o : Obs) : State := { live .solo with obs := o }
def d0 : Obs := State.reset.obs
def a0 : State := ob d0
def a1 : State := ob { d0 with regQ := [rc 0x10A 3 0], parish := default, push := default, ringP := default }
def a3 : State := ob { d0 with regQ := [], ringP := { (default : CPath) with logs := [rc 0x201 1 60] } }
def a4 : State := ob { d0 with srcs := [(4, { (default : LogSrc) with suppressing := true, suppressed := 3, first := 10, last := 40 }), (0, { (default : LogSrc) with suppressing := true })] }
def a5 : State := ob { d0 with founding := [rc 0x10A 3 0], circ := [{ rc 0x101 3 60 with seq := 3 }, { rc 0x101 3 0 with seq := 9 }] }
def nn : List Byte := List.replicate 32 8
def g0 : List Byte := leBytes 4 0x52414C43 ++ leBytes 2 1 ++ leBytes 2 0 ++ leBytes 8 (a5.getN R.IDENT_SERIAL) ++ nn ++ leBytes 4 5 ++ leBytes 4 0
def a6 : State := let s := a5.setF F.STRONG_AUTH_LEN_VAL 568; { s with obs := { s.obs with grant := g0 ++ mkSig g0 }, strong := { s.strong with nonce := nn, nonceAt := 1, progKey := weakKey } }
def a7 : State := a0.setN R.IDENT_FEAT_MGMT (2 ^ 64 - 1)
def a9 : State := (a7.setN R.IDENT_FEAT_MGMT 0)
def b0 : State := (a0.setF F.COUNT_RUN_VAL 7).setF (F.COUNT_P_VALUE_ALL.win 0x20 1) (2 ^ 64 - 1)
def b1 : State := let s := (((a0.setF (F.COUNT_P_CFG_SAMPLE.win 0x20 1) 1).setF (F.COUNT_P_PERIOD_VAL.win 0x20 1) 2000).setF F.COUNT_RUN_VAL 2); { s with obs := { s.obs with counts := [(1, 2500)] } }
def b3 : State := { a0 with mode := .replay }

/-- The hypotheses of every clause of RegisterAndCrierDeliver are met. -/
theorem meets_RegisterAndCrierDeliver :
    (a1.power = Power.on) ∧ (a1.mode ≠ Mode.holdup) ∧ (a1.obs.parish = default) ∧ (a1.obs.push = default) ∧
    (a1.obs.ringP = default) ∧ (a1.obs.regQ = [rc 266 3 0]) ∧ ((rc 266 3 0).size ≤ 2) ∧ ((rc 266 3 0).chan = 3) ∧
    (a3.power = Power.on) ∧ (a3.mode ≠ Mode.holdup) ∧ (a3.obs.parish = default) ∧ (a3.obs.push = default) ∧
    (a3.obs.regQ = []) ∧ (a3.obs.ringP = { (default : CPath) with logs := [rc 513 1 60] }) ∧ ((rc 513 1 60).size ≤ 10000) ∧
    ((rc 513 1 60).isCount = false) ∧ ((rc 513 1 60).code ≠ 2) ∧ ((rc 513 1 60).chan = 1) ∧
    (recsIn (a3.obs.ring ++ [rc 513 1 60]) ≤ 1048576) ∧ ((a4.obs.srcs.get 0).suppressing = true) ∧
    (a4.getF F.COUNT_RUN_VAL = 0) ∧ (a0.grantOk 1380011075 568 = false) ∧ (a6.grantOk 1380011075 568 = true) ∧
    (a6.getF F.PARISH_STATE_FOUNDING_FULL = 0) ∧
    (recsIn a6.obs.founding + (1 + contCount (digest 0 a6.obs.grant).length) ≤ 4096) ∧ (a9.feat 1 = false) ∧
    (a0.feat 1 = true) := by
  refine ⟨?_, ?_, ?_, ?_, ?_, ?_, ?_, ?_, ?_, ?_, ?_, ?_, ?_, ?_, ?_, ?_, ?_, ?_, ?_, ?_, ?_, ?_, ?_, ?_, ?_, ?_, ?_⟩ <;> decide +kernel

/-- The hypotheses of every clause of CountersAndReelAreKept are met. -/
theorem meets_CountersAndReelAreKept :
    (0 < 32) ∧ (14 < F.COUNT_P_CFG_EVENT.get (15 : Word) ∨ F.COUNT_P_CFG_CHAIN.get (15 : Word) = 1 ∧ 0 % 2 = 0) ∧
    (¬(14 < F.COUNT_P_CFG_EVENT.get (0 : Word) ∨ F.COUNT_P_CFG_CHAIN.get (0 : Word) = 1 ∧ 0 % 2 = 0)) ∧ (1 < 32) ∧
    ((b0.getF F.COUNT_RUN_VAL).testBit 1 = true) ∧ (b0.getF (F.COUNT_P_VALUE_ALL.win 32 1) = 2 ^ 64 - 1) ∧
    (b1.getF (F.COUNT_P_CFG_SAMPLE.win 32 1) = 1) ∧ (b1.getF (F.COUNT_P_CFG_LEVEL.win 32 1) = 0) ∧
    (1000 ≤ b1.getF (F.COUNT_P_PERIOD_VAL.win 32 1)) ∧ (b1.getF (F.COUNT_P_PERIOD_VAL.win 32 1) ≤ b1.obs.counts.get 1) ∧
    (b1.getN R.COUNT_SAMPLE_HEAD < 262143) ∧ (b3.mode = Mode.replay) ∧ (b0.mode ≠ Mode.replay) ∧ (1 ≤ 1) ∧ (1 ≤ 3) := by
  refine ⟨?_, ?_, ?_, ?_, ?_, ?_, ?_, ?_, ?_, ?_, ?_, ?_, ?_, ?_, ?_⟩ <;> decide +kernel

end Sys2Proof.Tests.Crier

namespace Sys2Proof.Tests.Warden

def on (m : Mode) : State := live m
def a0 : State := on .solo
def a1 : State := a0.setF F.WARDEN_GRADE_GRADE 1
def a2 : State := a0.setF F.WARDEN_GRADE_GRADE 2
def a3 : State := { a0 with toll := { a0.toll with powerPct := 60 } }
def a4 : State := a0.setF F.WARDEN_GRADE_THERMAL 1
def a5 : State := { State.reset with power := .rising }
def a6 : State := { State.reset with power := .down }
def a7 : State := { a6 with warden := { a6.warden with hotStop := true } }
def a8 : State := (a7).setF F.WARDEN_VIN_VIN 9000
def a10 : State := a0.setF F.WARDEN_CLOCKS_RTCX 1
def a11 : State := a0.setF F.WARDEN_CLOCKS_REFCLK_C 3
def tq (k u src : Nat) (force : Bool) : TestReq := { ownTest k u false with source := src, force := force }
def b0 : State := a0.setF F.WARDEN_BANK_STATE 2
def b2 : State := a0.setF F.WARDEN_BANK_STATE 3
def b3 : State := a0.setF F.WARDEN_BANK_CTL_BUSY 1
def b4 : State := a0.setF F.WARDEN_BANK_STATE 0
def qd (r : TestReq) (s : State) : State := { s with warden := { s.warden with queue := [r] } }
def b5 : State := qd (tq kBank 0 1 false) b2
def b6 : State := qd (tq kSerdes 3 1 false) b2
def b7 : State := qd (tq kWay 3 1 false) b2
def big : Cap := { (default : Cap) with ingest := 96 * 10^9, read := 10^12, slcSize := 10^18, fold := 10^12, slcFree := 10^18, spaceFree := 10^18, budget := 10^12, residence := 1, granaryS := 10^9 }
def b8a : State := { b2 with toll := { b2.toll with cap := big, takes := [(0, { (default : Take) with state := 2, rate := 100000, port := 1, kept := 10, frameBytes := 65536, frameRate := 1 })] } }
def b8 : State := qd (tq kMill 3 1 false) { b8a with warden := { b8a.warden with gcm := (b8a.unitsLess 99 0).cores * 16000000000 - 96 * 10^9 } }
def b9 : State := qd (tq kWay 3 1 true) b2
def b10 : State := { b2 with warden := { b2.warden with side := some (tq kSerdes 3 1 false) } }
def b11 : State := { b2 with warden := { b2.warden with running := some (tq kWay 3 1 false) } }

/-- The hypotheses of every clause of SupplyHeatAndClocksAreObeyed are met. -/
theorem meets_SupplyHeatAndClocksAreObeyed :
    (a0.power = Power.on) ∧ (unladen a0) ∧ (a0.grade = 0) ∧ (3000 < 10800) ∧ (a1.power = Power.on) ∧ (unladen a1) ∧
    (a1.grade = 1) ∧ (3000 < 6000) ∧ (a2.power = Power.on) ∧ (unladen a2) ∧ (a2.grade = 2) ∧ (6400 ≤ 7000) ∧ (11200 ≤ 11500) ∧
    (a3.power = Power.on) ∧ (unladen a3) ∧ (a3.toll.powerPct < 100) ∧ (a0.thermal = false) ∧ (a4.power = Power.on) ∧
    (unladen a4) ∧ (a4.thermal = true) ∧ (a0.mode ≠ Mode.holdup) ∧ (a0.warden.running = none) ∧
    (∀ p < 4, a0.ingRuns p = false) ∧ (a0.hands.ctxs = []) ∧ (a5.power = Power.rising) ∧
    (a6.power = Power.off ∨ a6.power = Power.down) ∧ (a6.warden.hotStop = false) ∧
    (a7.power = Power.off ∨ a7.power = Power.down) ∧ (a7.warden.hotStop = true) ∧ (18500 < 19000) ∧
    (a0.warden.overVin = false) ∧ (3000 ≤ 18500) ∧ (a8.warden.hotStop = true) ∧
    (a8.power = Power.down ∨ a8.power = Power.off) ∧ (4800 ≤ a8.getF F.WARDEN_VIN_VIN) ∧ (a0.warden.cold = false) ∧ (0 < 6) ∧
    (a10.getF F.WARDEN_CLOCKS_RTCX = 1) ∧ ((a11.getF F.WARDEN_CLOCKS_REFCLK_C).testBit 1 = true) ∧
    (a0.getF F.WARDEN_VIN_VIN < 4800) := by
  unfold unladen
  refine ⟨?_, ?_, ?_, ?_, ?_, ?_, ?_, ?_, ?_, ?_, ?_, ?_, ?_, ?_, ?_, ?_, ?_, ?_, ?_, ?_, ?_, ?_, ?_, ?_, ?_, ?_, ?_, ?_, ?_, ?_, ?_, ?_, ?_, ?_, ?_, ?_, ?_, ?_, ?_, ?_⟩ <;> decide +kernel

/-- The hypotheses of every clause of BankAndTestsAreRun are met. -/
theorem meets_BankAndTestsAreRun :
    (b0.toll.takes = []) ∧ (b0.getF F.WARDEN_BANK_STATE = 2) ∧
    (b0.getF F.WARDEN_BANK_STATE = 1 ∨ b0.getF F.WARDEN_BANK_STATE = 2) ∧
    (200 ≤ b0.chargeMa * 900000 / if true = true then 400000 else 300000) ∧
    ((b0.chargeMa * 900000 / if true = true then 400000 else 300000) ≤ 2000) ∧
    ((b0.chargeMa * 0 / if true = true then 400000 else 300000) < 200 ∨ 2000 < b0.chargeMa * 0 / if true = true then 400000 else 300000) ∧
    (b0.mode ≠ Mode.holdup) ∧ (¬b0.getF F.WARDEN_BANK_STATE = 0) ∧ (¬b0.getF F.WARDEN_BANK_STATE = 5) ∧
    (b0.warden.side = none) ∧ (b0.getF F.WARDEN_BANK_CTL_BUSY ≠ 1) ∧
    (b0.getF F.WARDEN_BANK_STATE = 1 ∨ b0.getF F.WARDEN_BANK_STATE = 2 ∨ b0.getF F.WARDEN_BANK_STATE = 3 ∨ b0.getF F.WARDEN_BANK_STATE = 4) ∧
    (b3.getF F.WARDEN_BANK_CTL_BUSY = 1) ∧ (b4.getF F.WARDEN_BANK_CTL_BUSY ≠ 1) ∧
    (b4.getF F.WARDEN_BANK_STATE = 0 ∨ b4.getF F.WARDEN_BANK_STATE = 5 ∨ b4.getF F.WARDEN_BANK_STATE = 6 ∨ b4.getF F.WARDEN_BANK_STATE = 7) ∧
    (b2.mode ≠ Mode.holdup) ∧ (b2.getF F.WARDEN_BANK_STATE = 3) ∧ (unitExists 5 (testUnit 5 3) = true) ∧
    (true = false ∨ b0.mode = Mode.paired ∨ b0.mode = Mode.solo ∨ b0.mode = Mode.sealedMode ∨ b0.mode = Mode.service) ∧
    (unitExists 2 (testUnit 2 200) = false) ∧ (unitExists 2 3 = true) ∧ (2 ≠ kWay) ∧ (b0.unitRetired 2 3 = false) ∧
    (2 = kCouncil → b0.getF F.COUNCIL_STATE_CONFIG ≠ 2) ∧ (2 = kSerdes → b0.getF (F.WARDEN_SERDES_SPARE_FREE.at 3) ≠ 0) ∧
    (b5.power = Power.on) ∧ (b5.mode ≠ Mode.holdup) ∧ (b5.warden.queue = [tq kBank 0 1 false]) ∧
    (b5.testReady (tq kBank 0 1 false) = true) ∧ ((tq kBank 0 1 false).force = false) ∧ ((tq kBank 0 1 false).source ≤ 2) ∧
    (b5.keepsGuarantee (b5.capLess (tq kBank 0 1 false).kind (tq kBank 0 1 false).unit) = true) ∧
    ((tq kBank 0 1 false).kind = kBank) ∧ (b6.power = Power.on) ∧ (b6.mode ≠ Mode.holdup) ∧
    (b6.warden.queue = [tq kSerdes 3 1 false]) ∧ (b6.testReady (tq kSerdes 3 1 false) = true) ∧
    ((tq kSerdes 3 1 false).force = false) ∧ ((tq kSerdes 3 1 false).source ≤ 2) ∧
    (b6.keepsGuarantee (b6.capLess (tq kSerdes 3 1 false).kind (tq kSerdes 3 1 false).unit) = true) ∧
    ((tq kSerdes 3 1 false).kind = kSerdes) ∧ ((tq kSerdes 3 1 false).unit < 11) ∧ (b7.power = Power.on) ∧
    (b7.mode ≠ Mode.holdup) ∧ (b7.warden.queue = [tq kWay 3 1 false]) ∧ (b7.testReady (tq kWay 3 1 false) = true) ∧
    ((tq kWay 3 1 false).force = false) ∧ ((tq kWay 3 1 false).source ≤ 2) ∧
    (b7.keepsGuarantee (b7.capLess (tq kWay 3 1 false).kind (tq kWay 3 1 false).unit) = true) ∧
    ((tq kWay 3 1 false).kind = kWay) ∧ (b8.power = Power.on) ∧ (b8.mode ≠ Mode.holdup) ∧
    (b8.warden.queue = [tq kMill 3 1 false]) ∧ (b8.testReady (tq kMill 3 1 false) = true) ∧
    ((tq kMill 3 1 false).force = false) ∧ ((tq kMill 3 1 false).source ≤ 2) ∧ (b8.keepsGuarantee b8.toll.cap = true) ∧
    (b8.keepsGuarantee (b8.capLess (tq kMill 3 1 false).kind (tq kMill 3 1 false).unit) = false) ∧
    ((tq kMill 3 1 false).source = 1) ∧ (b9.power = Power.on) ∧ (b9.mode ≠ Mode.holdup) ∧
    (b9.warden.queue = [tq kWay 3 1 true]) ∧ (b9.testReady (tq kWay 3 1 true) = true) ∧ ((tq kWay 3 1 true).force = true) ∧
    ((tq kWay 3 1 true).kind = kWay) ∧ (b10.warden.side = some (tq kSerdes 3 1 false)) ∧
    (b11.warden.running = some (tq kWay 3 1 false)) ∧ (b11.warden.queue = []) ∧ (b11.toll.takes = []) ∧
    ((tq kWay 3 1 false).source = 1) ∧ (wayIdle b11 ((tq kWay 3 1 false).unit / 32) ((tq kWay 3 1 false).unit % 32)) := by
  unfold wayIdle
  refine ⟨?_, ?_, ?_, ?_, ?_, ?_, ?_, ?_, ?_, ?_, ?_, ?_, ?_, ?_, ?_, ?_, ?_, ?_, ?_, ?_, ?_, ?_, ?_, ?_, ?_, ?_, ?_, ?_, ?_, ?_, ?_, ?_, ?_, ?_, ?_, ?_, ?_, ?_, ?_, ?_, ?_, ?_, ?_, ?_, ?_, ?_, ?_, ?_, ?_, ?_, ?_, ?_, ?_, ?_, ?_, ?_, ?_, ?_, ?_, ?_, ?_, ?_, ?_, ?_, ?_, ?_, ?_, ?_, ?_, ?_, ?_⟩ <;> decide +kernel

end Sys2Proof.Tests.Warden

namespace Sys2Proof.Tests.General

def a0 : State := live .solo
def a1 : State := State.reset

/-- The hypotheses of every clause of AStepRunsTheFrontCommand are met. -/
theorem meets_AStepRunsTheFrontCommand :
    (a1.pending = []) ∧ (a1.power ≠ Power.on) ∧ (a0.pending = []) ∧ (a0.power = Power.on) ∧ (a0.booting = false) ∧
    (a0.time + 1 ≠ a0.strong.boot.t0 + 1000) ∧ (a0.time + 1 ≠ a0.strong.boot.t0 + 2000) ∧ (a0.warden.pllAt = 0) ∧
    (a0.toll.due = false) ∧ (a0.getF F.COUNT_RUN_VAL = 0) ∧ (∀ p < 4, a0.ingState p ≠ 2) ∧ ((a0.time + 1) % 1000000 ≠ 0) := by
  refine ⟨?_, ?_, ?_, ?_, ?_, ?_, ?_, ?_, ?_, ?_, ?_, ?_⟩ <;> decide +kernel

end Sys2Proof.Tests.General

namespace Sys2Proof.Tests

/-! ### Ill-formed commands (WellFormed.lean) -/

/-- A context of a Hand. -/
def aHand : Eng := ⟨.hand, 15, 63⟩
/-- A Hand that is none of the sixteen. -/
def noEng : Eng := ⟨.hand, 16, 0⟩

theorem test_engines : engOk aHand = true ∧ engOk noEng = false ∧ engOk ⟨.hand, 0, 64⟩ = false ∧ engOk ⟨.sequencer, 4, 0⟩ = false ∧
    engOk ⟨.council, 3, 0⟩ = false ∧ engOk ⟨.strongroom, 1, 0⟩ = false ∧ engOk ⟨.strongroom, 0, 63⟩ = true := by
  decide

/-- Each with one engine out of range. -/
theorem test_illformed_engine : ([
    .watchdogExpiry noEng, .doorbell noEng default, .waitTimeout noEng, .accelCompletion noEng 0 default, .trapEntry noEng,
    .contextFreed noEng, .handStoreError noEng default, .drainTimeout noEng, .illegalEncoding noEng,
    .add noEng default default default, .sub noEng default default default, .and noEng default default default,
    .or noEng default default default, .xor noEng default default default, .andn noEng default default default,
    .shl noEng default default default, .shr noEng default default default, .sar noEng default default default,
    .shli noEng default default default, .shri noEng default default default, .sari noEng default default default,
    .rotr noEng default default default, .mul noEng default default default, .mulhu noEng default default default,
    .mulhs noEng default default default, .divu noEng default default default, .remu noEng default default default,
    .divs noEng default default default, .rems noEng default default default, .minu noEng default default default,
    .maxu noEng default default default, .mins noEng default default default, .maxs noEng default default default,
    .clz noEng default default, .ctz noEng default default, .popc noEng default default, .bswap noEng default default,
    .sel noEng default default default default, .ext noEng default default default default, .mfs noEng default default,
    .ptog noEng default, .gtop noEng default, .addi noEng default default default, .andi noEng default default default,
    .ori noEng default default default, .xori noEng default default default, .liL noEng default default,
    .liuL noEng default default, .addiL noEng default default, .andiL noEng default default, .oriL noEng default default,
    .cmp noEng default default default default, .cmpi noEng default default default default,
    .predAnd noEng default default default, .predOr noEng default default default, .predXor noEng default default default,
    .predAndn noEng default default default, .predNot noEng default default, .predMov noEng default default,
    .predSet noEng default, .predClr noEng default, .b noEng default, .bt noEng default default, .bf noEng default default,
    .call noEng default, .jr noEng default default, .ldp noEng default default default default default,
    .stp noEng default default default default, .ldg noEng default default default default default,
    .stg noEng default default default default, .ldd noEng default default default default default default,
    .std noEng default default default default default, .atomSwap noEng default default default,
    .atomAdd noEng default default default, .atomCas noEng default default default, .fenceG noEng,
    .dmk noEng default default default default, .dmov noEng default default, .dadv noEng default default,
    .dtrim noEng default default, .ddrop noEng default default, .dget noEng default default default, .dclr noEng default,
    .waitAll noEng default default default, .waitAny noEng default default default,
    .waitDoorbell noEng default default default, .waitSleep noEng default, .endCtx noEng default, .trap noEng default,
    .pressC noEng default default default default default, .pressD noEng default default default default default,
    .seal noEng default default default default default, .unseal noEng default default default default default,
    .assayOne noEng default default default default default, .assayStart noEng default default default default default,
    .assayMore noEng default default default default default, .assayFinish noEng default default default default default,
    .tallyCheckPi noEng default default default default default, .tallyGenPi noEng default default default default default,
    .tallyCrc64 noEng default default default default default, .tallyCrc32c noEng default default default default default,
    .tallyCrc16 noEng default default default default default, .sieveLookup noEng default default default default default,
    .sieveInsert noEng default default default default default, .sieveUnref noEng default default default default default,
    .mapL noEng default default default default default, .mapU noEng default default default default default,
    .tillP noEng default default default default default, .sledReadEntry noEng default default default default default,
    .sledRead noEng default default default default default, .sledProgram noEng default default default default default,
    .sledErase noEng default default default default default, .sledFold noEng default default default default default,
    .sledTagscan noEng default default default default default, .sledLevels noEng default default default default default,
    .sledOwn noEng default default default default default, .carry noEng default default default default default,
    .emit noEng default default default default default, .reeveE noEng default default default default default,
    .sqStart noEng default default] : List Instr).all (fun i => !i.wf) = true := by
  decide +kernel

/-- Each with one engine out of range. -/
theorem test_illformed_engine2 : ([
    .sqStop noEng default default, .sqWidth noEng default default, .tollCap noEng default default,
    .handRetire noEng default default, .pressTarget noEng default default, .spareCall noEng default default,
    .reelPut noEng default default, .keyLoad noEng default default default, .keyZero noEng default default,
    .millLock noEng default default, .millFree noEng default default, .millLockGranted noEng 0, .keyZeroDrained noEng 0,
    .sievePageTimeout noEng 0, .groupCommit noEng, .mapPageFetched noEng 0 default, .counterSample 0 noEng 0] : List Instr).all (fun i => !i.wf) = true := by
  decide +kernel

/-- Each with one number out of range. -/
theorem test_illformed_number : ([
    .powerUp 65536, .spiRead 4294967296, .spiWrite 4294967296 default default, .spiReadBurst 4294967296 0,
    .spiRead32 4294967296, .spiWrite32 4294967296 0 default, .spiWrite32 0 4294967296 default, .spiRead16 4294967296,
    .spiRead8 4294967296, .spiWrite16 4294967296 0, .spiWrite16 0 65536, .spiWrite8 4294967296 0, .spiWrite8 0 256,
    .registerWrite default 4294967296 default default, .hallmarkWord0Read default 8, .dispatch 65536,
    .accelCompletion aHand 8 default, .handCorrectedError 16, .handLockup 16, .handsBind 256, .handsUnload 256,
    .handsRetireReq 16, .handsRestoreReq 16 default, .nvmeConnect 0 0 0 0 { (default : AdminCid) with num := 65536 },
    .propertyGet 4096 default 0, .propertyGet 0 { (default : AdminCid) with num := 65536 } 0, .propertySet 4096 default 0 0,
    .propertySet 0 { (default : AdminCid) with num := 65536 } 0 0, .getLogPage 4096 default 0 0 0,
    .getLogPage 0 { (default : AdminCid) with num := 65536 } 0 0 0, .identify 4096 default 0 0,
    .identify 0 { (default : AdminCid) with num := 65536 } 0 0, .nvmeAbort 4096 default 0 0,
    .nvmeAbort 0 { (default : AdminCid) with num := 65536 } 0 0, .setFeatures 4096 default 0 0,
    .setFeatures 0 { (default : AdminCid) with num := 65536 } 0 0, .getFeatures 4096 default 0,
    .getFeatures 0 { (default : AdminCid) with num := 65536 } 0, .asyncEventRequest 4096 default,
    .asyncEventRequest 0 { (default : AdminCid) with num := 65536 }, .keepAlive 4096 default,
    .keepAlive 0 { (default : AdminCid) with num := 65536 }, .queueResume 4096 default 0,
    .queueResume 0 { (default : AdminCid) with num := 65536 } 0, .queueReset 4096 default 0,
    .queueReset 0 { (default : AdminCid) with num := 65536 } 0, .nvmeFlush 4096 0 default, .nvmeFlush 0 65536 default,
    .nvmeWrite 4096 0 default, .nvmeWrite 0 65536 default, .nvmeRead 4096 0 default, .nvmeRead 0 65536 default,
    .nvmeCompare 4096 0 default, .nvmeCompare 0 65536 default, .nvmeWriteZeroes 4096 0 default,
    .nvmeWriteZeroes 0 65536 default, .datasetManagement 4096 0 default default default,
    .datasetManagement 0 65536 default default default, .nvmeVerify 4096 0 default, .nvmeVerify 0 65536 default,
    .unsupportedOpcode 4096 0 0 default, .unsupportedOpcode 0 65536 0 default, .dataArrived 65536 default default,
    .completionHandoff 65536, .docketAbortGo 65536, .armWindowExpiry 64, .keptUntilExpiry 64, .lapsedExpiry 64,
    .bulkHoldExpiry 65536, .pressLaneFailure 27, .millLockGranted aHand 8, .millLockExpiry 17, .keyZeroDrained aHand 8,
    .millKatDue 17, .millCoreFailure 17, .assayKatDue 16, .assayLaneFailure 16, .tallyClaim 6, .tallyRelease 6 0,
    .tallyRelease 0 32, .tallyFeedB 6 0 default, .tallyFeedB 0 32 default, .tallyFeedH 6 0 default, .tallyFeedH 0 32 default,
    .tallyFeedW 6 0 default, .tallyFeedW 0 32 default, .tallyFeedD 6 0 default, .tallyFeedD 0 32 default,
    .tallyValueWrite 6 0 default, .tallyValueWrite 0 32 default, .tallyAlgWrite 6 0 0, .tallyAlgWrite 0 32 0,
    .tallyAlgWrite 0 0 4, .tallyCompare 6 0, .tallyCompare 0 32, .tallyReset 6 0, .tallyReset 0 32, .sievePageTimeout aHand 8,
    .sieveFilterReady 4096, .replCycleExpiry 16, .replRecOpen 4294967296 0 0 default, .replRecOpen 0 65536 0 default,
    .replRecOpen 0 0 4294967296 default, .replRecOpenReply 65536 default, .replRecOffer 4294967296 0 0 0 0 default,
    .replRecOffer 0 65536 0 0 0 default, .replRecOffer 0 0 4294967296 0 0 default, .replRecOffer 0 0 0 4294967296 0 default,
    .replRecOffer 0 0 0 0 65536 default, .replRecHave 65536 default, .replRecGrain 4294967296 0 default,
    .replRecGrain 0 65536 default, .replRecUnmap 4294967296 0 0 default, .replRecUnmap 0 65536 0 default,
    .replRecUnmap 0 0 65536 default, .replRecCommit 4294967296 0 0 0 default, .replRecCommit 0 65536 0 0 default,
    .replRecCommit 0 0 4294967296 0 default, .replRecCommit 0 0 0 4294967296 default, .replRecCommitAck 65536 default] : List Instr).all (fun i => !i.wf) = true := by
  decide +kernel

/-- Each with one number out of range. -/
theorem test_illformed_number2 : ([
    .replRecSyncWrite 4294967296 0 default, .replRecSyncWrite 0 65536 default, .replRecSyncAck 65536 default,
    .syncAckTimeout 16, .replLinkLost 16, .replLinkReturn 16, .budgetRecompute 65536, .cfTrained 256, .cfLaneFailure 256,
    .councilBallot 3 0 0 default 0, .councilBallot 0 256 0 default 0, .coreResyncDone 3, .daybookFlushTimer 4096,
    .daybookPageDurable 4096 default, .checkpointTimer 4096, .checkpointSize 4096, .mapPageFetched aHand 8 default,
    .sledPresence 24, .sledPowerTimer 24, .sledTrained 24 0 0 0 0 0 0 default, .sledTrainFail 24 default, .sledLaneFault 24,
    .sledRemoved 24, .sledCmdTimeout 24, .foldComplete 49152 0 0, .foldComplete 0 65536 0, .foldComplete 0 0 4,
    .gleanBlock 4096 0, .gleanBlock 0 65536, .thinSheaf 4096 0 default, .thinSheaf 0 8589934592 default,
    .calibrationDue 49152 0, .calibrationDue 0 1024, .secureBoundExpiry 4096 0 default,
    .secureBoundExpiry 0 8589934592 default, .ledgerWriteTick 4096 0, .ledgerWriteTick 0 3, .rebuildChunk 4096 0,
    .rebuildChunk 0 65536, .resyncPass 4096 default default, .watchSheaf 4096 default default, .watchOverdue 4096,
    .ackDelayExpiry 65540, .rtoExpiry 65540 0, .giveupExpiry 65540, .queueGraceExpiry 65540, .revocationDrained 1048576,
    .qpError 4096, .roceCnp 4096, .saddrAnnounce 16, .magTrain 4 0 default, .magTrain 0 65 default, .magTrainReply 4 0 default,
    .magTrainReply 0 65 default, .magAck 4 0 default, .magAck 0 65 default, .magResendReq 4 0 default,
    .magResendReq 0 65 default, .magIdentify 4 0 default, .magIdentify 0 65 default, .magRead 4 0 default,
    .magRead 0 65 default, .magWrite 4 0 default, .magWrite 0 65 default, .magFlush 4 0 default, .magFlush 0 65 default,
    .magTrim 4 0 default, .magTrim 0 65 default, .recordArm 4 0 default, .recordArm 0 65 default, .recordStop 4 0 default,
    .recordStop 0 65 default, .magTaskStatus 4 0 default, .magTaskStatus 0 65 default, .magData 4 0 default,
    .magData 0 65 default, .magTaskReset 4 0 default, .magTaskReset 0 65 default, .magAbort 4 0 default,
    .magAbort 0 65 default, .magAbortReply 4 0 default, .magAbortReply 0 65 default, .magNotice 4 0 default,
    .magNotice 0 65 default, .magTwin 4 0 default, .magTwin 0 65 default, .magResendTimer 4, .magLockLoss 4, .magRetrain 4,
    .magTrainRetry 4, .magLaneFail 4 0, .magLaneFail 0 16, .twinTick 4, .handbackDrained 4, .ingestStart 4, .ingestStop 4,
    .ingestClipVerdict 4, .hbmEccError 4294967296 0 default, .keyVaultCreate 256, .keyVaultExport 256, .keyVaultImport 256,
    .keyVaultDelete 256, .keySessionLoad 256, .wallWrite 1099511627776, .parishSnapshot default 2 0,
    .parishSnapshot default 0 4294967296, .hushPeriod 256, .countCfgWrite 32 default, .counterWrap 32,
    .counterSample 32 aHand 0, .counterSample 0 aHand 4294967296, .gradeFall 65536, .gradeRise 65536, .vinLoss 65536,
    .vinReturn 65536, .powerCapExceeded 4294967296, .powerCapRelax 4294967296, .thermalCapOn 65536, .thermalCapOff 65536,
    .overTemp 65536] : List Instr).all (fun i => !i.wf) = true := by
  decide +kernel

/-- Each with one number out of range. -/
theorem test_illformed_number3 : ([
    .caseTooCold 65536, .overtempCooled 65536, .pllFault 6, .refclkLoss 3, .wardenTestGo 256 0 default,
    .wardenTestGo 0 256 default, .periodicTestDue 256 0, .periodicTestDue 0 256, .hbmStackHot 65536 0, .hbmStackHot 0 65536,
    .fabricLinkDown 8, .fabricLinkTrained 8, .magReservedFolio 4 0 default, .magReservedFolio 0 65 default,
    .magUnknownOpcode 4 0 default, .magUnknownOpcode 0 65 default, .falseMark 4, .malformedSegment 9, .vinAboveRange 65536,
    .laneMarkersFound 4, .localAckTimeout 4096] : List Instr).all (fun i => !i.wf) = true := by
  decide +kernel

/-- Words of register operations, put together from the formats of R92 and the codes of R94 to R119. -/
theorem test_decode_register_operations (e : Eng) :
    decodeIxa e [0x00221801] = .sub e 1 2 3 ∧
    decodeIxa e [0x03FEE80D] = .mul e 31 30 29 ∧
    decodeIxa e [0x008531DC] = .sel e 4 5 6 7 ∧
    decodeIxa e [0x00E0001F] = .ptog e 7 := by
  refine ⟨rfl, rfl, rfl, rfl⟩

/-- Words of immediates, put together from the formats of R92 and the codes of R94 to R119. -/
theorem test_decode_immediates (e : Eng) :
    decodeIxa e [0x07E18000] = .addi e 31 1 0x8000 ∧
    decodeIxa e [0x0C431234] = .ori e 2 3 0x1234 := by
  refine ⟨rfl, rfl⟩

/-- Words of compares and predicates, put together from the formats of R92 and the codes of R94 to R119. -/
theorem test_decode_compares_predicates (e : Eng) :
    decodeIxa e [0x18A11003] = .cmp e 5 3 1 2 ∧
    decodeIxa e [0x20A60000] = .predAnd e 1 2 3 ∧
    decodeIxa e [0x23E10000] = .predNot e 7 6 := by
  refine ⟨rfl, rfl, rfl⟩

/-- Words of branches, put together from the formats of R92 and the codes of R94 to R119. -/
theorem test_decode_branches (e : Eng) :
    decodeIxa e [0x4300FFFF] = .call e 0xFFFF ∧
    decodeIxa e [0x42A00001] = .bf e 5 1 ∧
    decodeIxa e [0x44220000] = .jr e 1 2 := by
  refine ⟨rfl, rfl, rfl⟩

/-- Words of loads and stores, put together from the formats of R92 and the codes of R94 to R119. -/
theorem test_decode_loads_stores (e : Eng) :
    decodeIxa e [0x5064BFFC] = .ldp e 3 4 2 true 0x1FFC ∧
    decodeIxa e [0x5C64C008] = .stg e 3 4 3 8 ∧
    decodeIxa e [0x6064F3FF] = .ldd e 3 4 15 0 true 0x1FF ∧
    decodeIxa e [0x68221802] = .atomCas e 1 2 3 ∧
    decodeIxa e [0x6C000000] = .fenceG e := by
  refine ⟨rfl, rfl, rfl, rfl, rfl⟩

/-- Words of descriptors and waits, put together from the formats of R92 and the codes of R94 to R119. -/
theorem test_decode_descriptors_waits (e : Eng) :
    decodeIxa e [0x71211140] = .dmk e 9 1 2 5 ∧
    decodeIxa e [0x71201002] = .dadv e 9 2 ∧
    decodeIxa e [0x712A0085] = .dget e 9 10 2 ∧
    decodeIxa e [0x814300F0] = .waitAny e 2 3 0xF0 ∧
    decodeIxa e [0x84070000] = .endCtx e 7 ∧
    decodeIxa e [0x88000042] = .trap e 0x42 := by
  refine ⟨rfl, rfl, rfl, rfl, rfl, rfl⟩

/-- Words of accelerator operations, put together from the formats of R92 and the codes of R94 to R119. -/
theorem test_decode_accelerator_operations (e : Eng) :
    decodeIxa e [0xA8246400] = .seal e 1 2 3 4 0 ∧
    decodeIxa e [0xB0246405] = .assayStart e 1 2 3 4 5 ∧
    decodeIxa e [0xB4246403] = .tallyCrc32c e 1 2 3 4 3 ∧
    decodeIxa e [0xB8246402] = .sieveUnref e 1 2 3 4 2 ∧
    decodeIxa e [0xC8246404] = .sledFold e 1 2 3 4 4 ∧
    decodeIxa e [0xD8200422] = .millLock e 1 4 := by
  refine ⟨rfl, rfl, rfl, rfl, rfl, rfl⟩

/-! ### Values the manual states -/

/-- The bytes of "123456789". -/
def digits : List Byte := (List.range 9).map (fun k => BitVec.ofNat 8 (0x31 + k))

/-- The check values of R217. -/
theorem test_check_values :
    crcMore 0 0 digits = 0xAE8B14860A799888 ∧ crcMore 1 0 digits = 0xE3069283 ∧ crcMore 2 0 digits = 0xD0DB := by
  decide +kernel

/-- A check value carried over two pieces is that of the whole (R219). -/
theorem test_check_resumes : crcMore 1 (crcMore 1 0 (digits.take 4)) (digits.drop 4) = 0xE3069283 := by
  decide +kernel

/-- The worked budgets of chapters 11 and 21: a new bank of 140.6 mF, and one of 118.0 mF, at 16 V with 24 sleds. -/
theorem test_budgets : budgetOf 1406 16000 24 700 = 6442450944 ∧ budgetOf 1180 16000 24 700 = 4831838208 := by
  decide +kernel

/-- The worked lands of chapter 22: C22, N40 and CC61. -/
theorem test_lands :
    landSignal 3 22 = some (.sledTx 14) ∧ landSignal 3 23 = some (.sledTx 14) ∧ landSignal 3 24 = none ∧
    landSignal 13 40 = some (.cfRx 5) ∧ rowName 60 = "CC" ∧ landSignal 60 61 = some .fenceIn ∧ landSignal 60 59 = some .fenceOut ∧
    landSignal 60 60 = none := by
  decide

/-! ### Digests and ciphers (FIPS 180-4 and FIPS 197, which R209 and R193 name) -/

/-- SHA-512 of "abc": its first eight bytes. -/
theorem test_sha512 : (digest 0 [0x61, 0x62, 0x63]).take 8 = [0xDD, 0xAF, 0x35, 0xA1, 0x93, 0x61, 0x7A, 0xBA] := by
  decide +kernel

/-- AES-256, the example vector of FIPS 197. -/
theorem test_aes256 : aesBlock ((List.range 32).map (BitVec.ofNat 8)) ((List.range 16).map (fun k => BitVec.ofNat 8 (0x11 * k))) =
    [0x8E, 0xA2, 0xB7, 0xCA, 0x51, 0x67, 0x45, 0xBF, 0xEA, 0xFC, 0x49, 0x90, 0x4B, 0x49, 0x60, 0x89] := by
  decide +kernel

/-! ### Commands from reset -/

/-- A word that spells no command leaves the queue as it is: the table gives no bits. -/
theorem test_no_words : decodeTableWord 32 0 = none ∧ (State.reset.withFetchWord 32 0).pending = [] := by
  decide +kernel

end Sys2Proof.Tests
end

section
/-! PROOFS. Registers reached from outside (R37 to R40): the reset values; what one access of a path gives and leaves; then SPI
transactions, and the register reads and writes named for their effect. -/

open Sys2Proof Sys2Proof.Claims

namespace Sys2Proof.Machine

/-! ### The reset values -/

/-- A register of the reset state holds its reset value. -/
theorem State.getN_reset (k : Nat) : State.reset.getN k = (resetOf k).toNat := rfl

/-- Settles O57: the parts of the reset state stand in its definition, and each register named has its row of the reset table. -/
theorem resetLeavesTheTablesValues : Obligations.ResetLeavesTheTablesValues := by
  refine ⟨rfl, rfl, rfl, rfl, rfl, rfl, rfl, rfl, ?_, ?_, ?_, ?_, ?_, ?_, ?_, ?_, ?_, ?_, rfl, rfl⟩ <;>
    (rw [State.getN_reset]; decide)

/-! ### What putting a path's latch, answering and sending leave alone -/

section
variable (s : State) (p : Path) (l : Latch)

@[simp] theorem State.putLatch_pins : (s.putLatch p l).pins = s.pins := rfl
@[simp] theorem State.putLatch_getR (k : Nat) : (s.putLatch p l).getR k = s.getR k := rfl
@[simp] theorem State.putLatch_regKey (a : Nat) : (s.putLatch p l).regKey a = s.regKey a := rfl
@[simp] theorem State.putLatch_accessBad (w a : Nat) : (s.putLatch p l).accessBad w a = s.accessBad w a := rfl
@[simp] theorem State.latch_putLatch : (s.putLatch p l).latch p = l := AMap.get_set_self _ _ _

variable (st : Status) (x : Out)
@[simp] theorem State.answer_reply : (s.answer st).reply = st := rfl
@[simp] theorem State.answer_getR (k : Nat) : (s.answer st).getR k = s.getR k := rfl
@[simp] theorem State.answer_regKey (a : Nat) : (s.answer st).regKey a = s.regKey a := rfl
@[simp] theorem State.answer_latch : (s.answer st).latch p = s.latch p := rfl
@[simp] theorem State.send_getR (k : Nat) : (s.send x).getR k = s.getR k := rfl
@[simp] theorem State.send_outbox : (s.send x).outbox = s.outbox ++ [x] := rfl
@[simp] theorem State.send_latch : (s.send x).latch p = s.latch p := rfl

end

/-! ### One access of a path (R37 to R39) -/

theorem homeReg_of_lt {a : Nat} (h : a < 0x210000) : homeReg a = a := if_neg (by omega)

/-- The early blocks are readable as soon as the target answers (R37). -/
theorem State.readable_early {s : State} {a : Nat} (hm : s.pins.misoAnswers = true) (ha : a < 0x50000) :
    s.readable a = true := by
  simp [State.readable, earlyBlock, hm, ha]

/-- An access that is wide enough, aligned, inside the map and readable passes the checks of R38. -/
theorem State.accessBad_none {s : State} {w a : Nat} (hw : 32 ≤ w) (h8 : a % (w / 8) = 0) (ha : a < 0x700000)
    (hr : s.readable a = true) : s.accessBad w a = none := by
  simp [State.accessBad, h8, hr, not_lt.2 hw, not_le.2 ha]

theorem State.accessBad_early {s : State} {w a : Nat} (hm : s.pins.misoAnswers = true) (hw : 32 ≤ w) (ha : a < 0x50000)
    (h8 : a % (w / 8) = 0) : s.accessBad w a = none :=
  State.accessBad_none hw h8 (by omega) (State.readable_early hm ha)

/-- Whether an access leaves no half of its path torn: none is held, or this access completes it (R39). -/
def State.untorn (s : State) (p : Path) (w a : Nat) (v : Option Nat) : Prop :=
  (s.latch p).held = none ∨ (s.latch p).commits w a v = true

theorem State.untorn_of_default {s : State} {p : Path} (hl : s.latch p = default) (w a : Nat) (v : Option Nat) :
    s.untorn p w a v := .inl (by rw [hl]; rfl)

/-- Such an access only empties what its path holds. -/
theorem State.latchSettle_of_untorn {s : State} {p : Path} {w a : Nat} {v : Option Nat} (h : s.untorn p w a v) :
    s.latchSettle p w a v = s.putLatch p default := by
  unfold State.latchSettle
  rcases h with h | h
  · simp [h]
  · cases hh : (s.latch p).held <;> simp [h, hh]

/-- A read that tears nothing and passes the checks. -/
theorem State.access_read {s : State} {p : Path} {w a : Nat} (o : Outside) (hl : s.untorn p w a none) (ha : a < 0x210000)
    (hok : s.accessBad w a = none) :
    s.access p o w a none = (s.putLatch p default).readHalf p (s.latch p) w a := by
  simp [State.access, homeReg_of_lt ha, State.latchSettle_of_untorn hl, hok]

/-- A write that tears nothing and passes the checks. -/
theorem State.access_write {s : State} {p : Path} {w a n : Nat} (o : Outside) (hl : s.untorn p w a (some n)) (ha : a < 0x210000)
    (hok : s.accessBad w a = none) :
    s.access p o w a (some n) = (0, (s.putLatch p default).writeHalf p o (s.latch p) w a n) := by
  have ht : ((s.latch p).held.isSome && !(s.latch p).commits w a (some n)) = false := by
    rcases hl with h | h <;> simp [h]
  simp [State.access, homeReg_of_lt ha, State.latchSettle_of_untorn hl, hok, ht]

/-- An access below 32 bits is refused with 0x5002, WIDTH and its address, before any other check (R38, R39). -/
theorem State.access_narrow {s : State} {p : Path} {w : Nat} (o : Outside) (a : Nat) (v : Option Nat) (hl : s.latch p = default)
    (hw : w < 32) :
    s.access p o w a v = (0, ((s.putLatch p default).mapErr p F.IDENT_MAP_ERR_WIDTH a).answer 0x5002) := by
  simp [State.access, State.latchSettle_of_untorn (State.untorn_of_default hl _ _ _), State.accessBad, hw]

/-! ### The registers of the IDENT block (R42) -/

/-- The IDENT block keeps its words, and no read of it changes anything. -/
theorem State.regRead_ident {s : State} {a : Nat} (p : Path) (ha : a < 0x10000) :
    s.regRead p a = (s.getR (s.regKey a), s.answer 0) := by
  have h1 : ¬ R.ASSAY_HM ≤ a := by unfold R.ASSAY_HM; omega
  have h2 : a ≠ R.STRONG_AUTH_NONCE := by unfold R.STRONG_AUTH_NONCE; omega
  have h3 : a ≠ R.TOLL_TAKE_INFO := by unfold R.TOLL_TAKE_INFO; omega
  have h4 : ¬ R.CRIER_RING_DATA ≤ a := by unfold R.CRIER_RING_DATA; omega
  simp [State.regRead, State.regGet, State.viewOf, h1, h2, h3, h4, ha]

theorem State.identWord_congr {s t : State} (h : t.regs = s.regs) (a : Nat) : identWord t a = identWord s a := by
  have hr : t.getR = s.getR := funext (State.getR_congr h)
  rw [identWord, identWord, State.regKey, State.regKey, hr]

/-- The key of an IDENT_FEAT_OFFER register is its address, and all its bits are written as they come. -/
theorem mapRow_offer {k : Nat} (hk : k < 4) :
    mapRow (R.IDENT_FEAT_OFFER + 8 * k) = some ⟨R.IDENT_FEAT_OFFER, 4, 8, 0, 0, 0, false, 0xFFFFFFFFFFFFFFFF, 0⟩ := by
  interval_cases k <;> rfl

theorem State.regSet_offer (s : State) {k : Nat} (v : Word) (hk : k < 4) :
    s.regSet (R.IDENT_FEAT_OFFER + 8 * k) v = s.setR (R.IDENT_FEAT_OFFER + 8 * k) v := by
  have ones (x : Word) : x &&& 0xFFFFFFFFFFFFFFFF#64 = x := BitVec.and_allOnes
  simp [State.regSet, State.regKey, mapRow_offer hk, ones]

theorem State.regWrite_offer (s : State) (p : Path) (o : Outside) {k : Nat} (v : Word) (hk : k < 4) :
    s.regWrite p o (R.IDENT_FEAT_OFFER + 8 * k) v = (s.answer 0).setR (R.IDENT_FEAT_OFFER + 8 * k) v := by
  have hR : R.IDENT_FEAT_OFFER = 0x120 := rfl
  have h0 : R.IDENT_FEAT_OFFER + 8 * k < 0x10000 := by omega
  have h1 : R.IDENT_FEAT_OFFER + 8 * k ≠ R.IDENT_MODE_REQ := by unfold R.IDENT_MODE_REQ; omega
  have h2 : R.IDENT_FEAT_OFFER + 8 * k ≠ R.IDENT_FEAT_CTL := by unfold R.IDENT_FEAT_CTL; omega
  simp [State.regWrite, State.writeIdent, h0, h1, h2, State.regSet_offer _ _ hk]

/-! ### SPI transactions (R40, R526) -/

theorem statusBytes_zero : statusBytes 0 = [0, 0] := rfl

/-- A transaction drives what its access answers: data where it reads, then the status. -/
theorem State.spi_of_access {s t : State} {o : Outside} {w a d st : Nat} {v : Option Nat} (hm : s.pins.misoAnswers = true)
    (h : s.access .spi o w a v = (d, t)) (ht : t.reply = st) :
    s.spi o w a v = t.send (.miso ((if v.isSome then [] else leBytes (w / 8) d) ++ statusBytes st)) := by
  simp [State.spi, hm, State.spiAccess, h, State.drive, statusBytes, beBytes, leBytes, ht]

theorem State.spi_read {s t : State} {o : Outside} {w a d : Nat} (hm : s.pins.misoAnswers = true)
    (h : s.access .spi o w a none = (d, t)) (ht : t.reply = 0) :
    s.spi o w a none = t.send (.miso (leBytes (w / 8) d ++ [0, 0])) := State.spi_of_access hm h ht

theorem State.spi_write {s t : State} {o : Outside} {w a n d : Nat} (hm : s.pins.misoAnswers = true)
    (h : s.access .spi o w a (some n) = (d, t)) (ht : t.reply = 0) : s.spi o w a (some n) = t.send (.miso [0, 0]) :=
  State.spi_of_access hm h ht

/-- A command answers bytes on SPI_MISO and changes no register and no byte of memory. -/
def State.drives (s : State) (i : Instr) (l : List Byte) : Prop :=
  ∃ t, exec i s = .next t ∧ t.outbox = s.outbox ++ [.miso l] ∧ (∀ k, t.getR k = s.getR k) ∧ t.mem = s.mem

theorem State.drives_of_drive {s t : State} {i : Instr} {l : List Byte} (hi : exec i s = .next (t.drive l)) (hl : l ≠ [])
    (ho : t.outbox = s.outbox) (hr : t.regs = s.regs) (hm : t.mem = s.mem) : s.drives i l := by
  have hd : t.drive l = t.send (.miso l) := by simp [State.drive, hl]
  rw [hd] at hi
  exact ⟨_, hi, by simp [ho], State.getR_congr hr, hm⟩

theorem unknownBytes_ne_nil {n : Nat} (hn : 0 < n) : unknownBytes n ≠ [] := by
  simp [unknownBytes, statusBytes, beBytes, leBytes]; omega

/-- An unknown opcode answers 0x5005 and zeros. -/
theorem State.drives_spiUnknownOpcode {s : State} {n : Nat} (hm : s.pins.misoAnswers = true) (hn : 0 < n) :
    s.drives (.spiUnknownOpcode n) (unknownBytes n) := by
  refine State.drives_of_drive (t := s) ?_ (unknownBytes_ne_nil hn) rfl rfl rfl
  show execSpiUnknownOpcode n s = _
  simp [execSpiUnknownOpcode, hm]

/-- Without feature 2 the burst's opcode is unknown. -/
theorem State.drives_spiReadBurst_unknown {s : State} (a n : Nat) (hm : s.pins.misoAnswers = true) (hf : s.feat 2 = false) :
    s.drives (.spiReadBurst a n) (unknownBytes (5 + 10 * n)) := by
  refine State.drives_of_drive (t := s) ?_ (unknownBytes_ne_nil (by omega)) rfl rfl rfl
  show execSpiReadBurst a n s = _
  simp [execSpiReadBurst, hm, hf]

/-! #### Reads of the IDENT block, where no half is held -/

section
variable {s : State} {a : Nat} (hm : s.pins.misoAnswers = true) (hl : s.latch .spi = default)
include hm hl

theorem State.access_ident64 (o : Outside) (ha : a < 0x10000) (h8 : a % 8 = 0) :
    s.access .spi o 64 a none = (identWord s a, (s.putLatch .spi default).answer 0) := by
  have hok : s.accessBad 64 a = none := State.accessBad_early hm (by decide) (by omega) (by omega)
  have hreg : a / 8 * 8 = a := by omega
  rw [State.access_read o (State.untorn_of_default hl _ _ _) (by omega) hok]
  simp [State.readHalf, hreg, State.regRead_ident _ ha, identWord]

theorem State.spiAccess_ident64 (o : Outside) (ha : a < 0x10000) (h8 : a % 8 = 0) :
    s.spiAccess o 64 a none = (leBytes 8 (identWord s a) ++ [0, 0], (s.putLatch .spi default).answer 0) := by
  simp [State.spiAccess, State.access_ident64 hm hl o ha h8, statusBytes_zero]

/-- A 32-bit read of the low half answers it and latches the high half (R39). -/
theorem State.access_ident32_low (o : Outside) (ha : a < 0x10000) (h8 : a % 8 = 0) :
    s.access .spi o 32 a none = (identWord s a % 2 ^ 32,
      ((s.putLatch .spi default).answer 0).putLatch .spi { held := none, low := some (a, identWord s a / 2 ^ 32) }) := by
  have hok : s.accessBad 32 a = none := State.accessBad_early hm (by decide) (by omega) (by omega)
  have hreg : a / 8 * 8 = a := by omega
  rw [State.access_read o (State.untorn_of_default hl _ _ _) (by omega) hok]
  simp [State.readHalf, hreg, h8, State.regRead_ident _ ha, identWord]
  rfl

theorem State.drives_spiRead (ha : a < 0x10000) (h8 : a % 8 = 0) :
    s.drives (.spiRead a) (leBytes 8 (identWord s a) ++ [0, 0]) :=
  ⟨_, congrArg Host.Outcome.next (State.spi_read hm (State.access_ident64 hm hl default ha h8) rfl), rfl, fun _ => rfl, rfl⟩

end

/-- A 32-bit read of a latched high half answers it (R39). -/
theorem State.access_ident32_high {s : State} {a h : Nat} (o : Outside) (hm : s.pins.misoAnswers = true)
    (hl : s.latch .spi = { held := none, low := some (a, h) }) (ha : a < 0x10000) (h8 : a % 8 = 0) :
    s.access .spi o 32 (a + 4) none = (h, (s.putLatch .spi default).answer 0) := by
  have hok : s.accessBad 32 (a + 4) = none := State.accessBad_early hm (by decide) (by omega) (by omega)
  have hreg : (a + 4) / 8 * 8 = a := by omega
  have h4 : (a + 4) % 8 ≠ 0 := by omega
  rw [State.access_read o (.inl (by rw [hl])) (by omega) hok]
  simp [State.readHalf, hreg, h4, hl]

/-- READ32 of the low half, then of reg + 4: the two halves of one value (R39, R40). -/
theorem State.spiRead32_both {s : State} {a : Nat} (hm : s.pins.misoAnswers = true) (hl : s.latch .spi = default)
    (ha : a < 0x10000) (h8 : a % 8 = 0) :
    ∃ t, exec (.spiRead32 a) s = .next t ∧ t.outbox = s.outbox ++ [.miso (leBytes 4 (identWord s a % 2 ^ 32) ++ [0, 0])] ∧
      (∀ k, t.getR k = s.getR k) ∧
      ∃ u, exec (.spiRead32 (a + 4)) t = .next u ∧ u.outbox = t.outbox ++ [.miso (leBytes 4 (identWord s a / 2 ^ 32) ++ [0, 0])] ∧
        ∀ k, u.getR k = s.getR k := by
  refine ⟨_, congrArg Host.Outcome.next (State.spi_read hm (State.access_ident32_low hm hl default ha h8) rfl), rfl,
    fun k => by simp, _, congrArg Host.Outcome.next (State.spi_read ?_ (State.access_ident32_high default ?_ ?_ ha h8) rfl), rfl,
    fun k => by simp⟩
  · simpa using hm
  · simpa using hm
  · simp

/-! #### A burst -/

/-- What whole reads of the IDENT block keep: registers, memory, what was driven, the pins, and a path that holds nothing. -/
def State.readsKeep (s t : State) : Prop :=
  t.regs = s.regs ∧ t.mem = s.mem ∧ t.outbox = s.outbox ∧ t.pins = s.pins ∧ t.latch .spi = default

theorem State.spiBurst_ident {s : State} {a : Nat} (hm : s.pins.misoAnswers = true) (hl : s.latch .spi = default) (h8 : a % 8 = 0)
    (n : Nat) (ha : a + 8 * n ≤ 0x10000) :
    (s.spiBurst a n).1 = (List.range n).flatMap (fun i => leBytes 8 (identWord s (a + 8 * i)) ++ [0, 0]) ∧
      s.readsKeep (s.spiBurst a n).2 := by
  induction n with
  | zero => exact ⟨rfl, rfl, rfl, rfl, rfl, hl⟩
  | succ n ih =>
    obtain ⟨hb, hregs, hmem, hout, hpins, hlat⟩ := ih (by omega)
    have hread := State.spiAccess_ident64 (s := (s.spiBurst a n).2) (by rw [hpins]; exact hm) hlat default
      (a := a + 8 * n) (by omega) (by omega)
    have hw := State.identWord_congr hregs (a + 8 * n)
    simp only [State.spiBurst, hread, hw, hb, List.range_succ, List.flatMap_append]
    exact ⟨by simp, hregs, hmem, hout, hpins, by simp⟩

theorem State.drives_spiReadBurst {s : State} {a n : Nat} (hm : s.pins.misoAnswers = true) (hl : s.latch .spi = default)
    (h8 : a % 8 = 0) (hn : 0 < n) (ha : a + 8 * n ≤ 0x10000) (hf : s.feat 2 = true) :
    s.drives (.spiReadBurst a n) ((List.range n).flatMap (fun i => leBytes 8 (identWord s (a + 8 * i)) ++ [0, 0])) := by
  obtain ⟨hb, hregs, hmem, hout, -, -⟩ := State.spiBurst_ident hm hl h8 n ha
  refine State.drives_of_drive (t := (s.spiBurst a n).2) ?_ ?_ hout hregs hmem
  · show execSpiReadBurst a n s = _
    simp [execSpiReadBurst, hm, hf, hb]
  · obtain ⟨m, rfl⟩ : ∃ m, n = m + 1 := ⟨n - 1, by omega⟩
    simp [List.range_succ]

/-! #### Writes of IDENT_FEAT_OFFER -/

section
variable {s : State} {k : Nat}

/-- A 64-bit write by a path that holds no half. -/
theorem State.access_write_offer {p : Path} (o : Outside) (v : Word) (hm : s.pins.misoAnswers = true) (hl : s.latch p = default)
    (hk : k < 4) : s.access p o 64 (R.IDENT_FEAT_OFFER + 8 * k) (some v.toNat) =
      (0, ((s.putLatch p default).answer 0).setR (R.IDENT_FEAT_OFFER + 8 * k) v) := by
  have hR : R.IDENT_FEAT_OFFER = 0x120 := rfl
  have hok : s.accessBad 64 (R.IDENT_FEAT_OFFER + 8 * k) = none := State.accessBad_early hm (by decide) (by omega) (by omega)
  have hreg : (R.IDENT_FEAT_OFFER + 8 * k) / 8 * 8 = R.IDENT_FEAT_OFFER + 8 * k := by omega
  rw [State.access_write o (State.untorn_of_default hl _ _ _) (by omega) hok]
  simp [State.writeHalf, hreg, State.regWrite_offer _ _ _ _ hk]

/-- A 32-bit write of the low half is held (R39). -/
theorem State.access_write32_offer_low {p : Path} (o : Outside) {lo : Nat} (hm : s.pins.misoAnswers = true) (hl : s.latch p = default)
    (hk : k < 4) (hlo : lo < 2 ^ 32) : s.access p o 32 (R.IDENT_FEAT_OFFER + 8 * k) (some lo) =
      (0, ((s.putLatch p default).putLatch p { held := some (R.IDENT_FEAT_OFFER + 8 * k, lo), low := none }).answer 0) := by
  have hR : R.IDENT_FEAT_OFFER = 0x120 := rfl
  have hok : s.accessBad 32 (R.IDENT_FEAT_OFFER + 8 * k) = none := State.accessBad_early hm (by decide) (by omega) (by omega)
  have hreg : (R.IDENT_FEAT_OFFER + 8 * k) / 8 * 8 = R.IDENT_FEAT_OFFER + 8 * k := by omega
  have h8 : (R.IDENT_FEAT_OFFER + 8 * k) % 8 = 0 := by omega
  rw [State.access_write o (State.untorn_of_default hl _ _ _) (by omega) hok]
  simp only [Nat.reducePow] at hlo
  simp [State.writeHalf, hreg, h8, Nat.mod_eq_of_lt hlo]
  rfl

/-- A 32-bit write of the high half completes the held low half (R39). -/
theorem State.access_write32_offer_high {p : Path} (o : Outside) {lo hi : Nat} (hm : s.pins.misoAnswers = true)
    (hl : s.latch p = { held := some (R.IDENT_FEAT_OFFER + 8 * k, lo), low := none }) (hk : k < 4) (hhi : hi < 2 ^ 32) :
    s.access p o 32 (R.IDENT_FEAT_OFFER + 8 * k + 4) (some hi) =
      (0, ((s.putLatch p default).answer 0).setR (R.IDENT_FEAT_OFFER + 8 * k) (BitVec.ofNat 64 (hi * 2 ^ 32 + lo))) := by
  have hR : R.IDENT_FEAT_OFFER = 0x120 := rfl
  have hok : s.accessBad 32 (R.IDENT_FEAT_OFFER + 8 * k + 4) = none :=
    State.accessBad_early hm (by decide) (by omega) (by omega)
  have hreg : (R.IDENT_FEAT_OFFER + 8 * k + 4) / 8 * 8 = R.IDENT_FEAT_OFFER + 8 * k := by omega
  have h8 : (R.IDENT_FEAT_OFFER + 8 * k + 4) % 8 ≠ 0 := by omega
  rw [State.access_write o (.inr (by simp [hl, Latch.commits])) (by omega) hok]
  simp only [Nat.reducePow] at hhi
  simp [State.writeHalf, hreg, h8, hl, Nat.mod_eq_of_lt hhi, State.regWrite_offer _ _ _ _ hk]

end

/-- WRITE of an IDENT_FEAT_OFFER register sets it and no other. -/
theorem State.spiWrite_offer {s : State} {k : Nat} (o : Outside) (v : Word) (hm : s.pins.misoAnswers = true)
    (hl : s.latch .spi = default) (hk : k < 4) :
    ∃ t, exec (.spiWrite (R.IDENT_FEAT_OFFER + 8 * k) v o) s = .next t ∧ t.outbox = s.outbox ++ [.miso [0, 0]] ∧
      t.getR (R.IDENT_FEAT_OFFER + 8 * k) = v ∧ (∀ r, r ≠ R.IDENT_FEAT_OFFER + 8 * k → t.getR r = s.getR r) ∧ t.mem = s.mem := by
  refine ⟨_, congrArg Host.Outcome.next (State.spi_write hm (State.access_write_offer o v hm hl hk) rfl), rfl, ?_, ?_, rfl⟩
  · simp
  · intro r hr
    simp [State.getR_setR_ne _ _ hr]

/-- WRITE32 of the low half changes no register; of the high half, it writes both. -/
theorem State.spiWrite32_offer {s : State} {k lo hi : Nat} (o : Outside) (hm : s.pins.misoAnswers = true)
    (hl : s.latch .spi = default) (hk : k < 4) (hlo : lo < 2 ^ 32) (hhi : hi < 2 ^ 32) :
    ∃ t, exec (.spiWrite32 (R.IDENT_FEAT_OFFER + 8 * k) lo o) s = .next t ∧ t.outbox = s.outbox ++ [.miso [0, 0]] ∧
      (∀ r, t.getR r = s.getR r) ∧
      ∃ u, exec (.spiWrite32 (R.IDENT_FEAT_OFFER + 8 * k + 4) hi o) t = .next u ∧ u.outbox = t.outbox ++ [.miso [0, 0]] ∧
        u.getN (R.IDENT_FEAT_OFFER + 8 * k) = hi * 2 ^ 32 + lo := by
  have hlt : hi * 2 ^ 32 + lo < 2 ^ 64 := by omega
  refine ⟨_, congrArg Host.Outcome.next (State.spi_write hm (State.access_write32_offer_low o hm hl hk hlo) rfl), rfl,
    fun r => by simp, _, congrArg Host.Outcome.next (State.spi_write ?_ (State.access_write32_offer_high (lo := lo) o ?_ ?_ hk hhi) rfl),
    rfl, ?_⟩
  · simpa using hm
  · simpa using hm
  · simp
  · simp only [State.getN, State.send_getR, State.getR_setR_self, BitVec.toNat_ofNat, Nat.mod_eq_of_lt hlt]

/-! #### Accesses of 8 and 16 bits -/

/-- The error of a narrow access sets WIDTH, and ADDR to the address (R42). -/
theorem State.getF_mapErr_width (s : State) (p : Path) (b : Nat) :
    (s.mapErr p F.IDENT_MAP_ERR_WIDTH b).getF F.IDENT_MAP_ERR_WIDTH = 1 := by
  rw [State.mapErr, State.getF_setF_ne _ _ _ _ (by decide), State.getF_setF_ne _ _ _ _ (by decide),
    State.getF_setF_self _ _ _ (by decide)]
  rfl

theorem State.getF_mapErr_addr (s : State) (p : Path) (f : Fld) (b : Nat) :
    (s.mapErr p f b).getF F.IDENT_MAP_ERR_ADDR = b % 2 ^ 32 := by
  rw [State.mapErr, State.getF_setF_ne _ _ _ _ (by decide), State.getF_setF_self _ _ _ (by decide)]
  rfl

/-- A narrow access answers zeros where it reads, and 0x5002, and marks IDENT_MAP_ERR (R39, R40, R42). -/
theorem State.spi_narrow {s : State} {w b : Nat} (v : Option Nat) (hm : s.pins.misoAnswers = true) (hl : s.latch .spi = default)
    (hw : w < 32) (hb : b < 2 ^ 32) :
    (s.spi default w b v).outbox = s.outbox ++ [.miso ((if v.isSome then [] else leBytes (w / 8) 0) ++ [0x50, 0x02])] ∧
      (s.spi default w b v).reply = 0x5002 ∧ (s.spi default w b v).getF F.IDENT_MAP_ERR_WIDTH = 1 ∧
      (s.spi default w b v).getF F.IDENT_MAP_ERR_ADDR = b ∧ (s.spi default w b v).mem = s.mem := by
  rw [State.spi_of_access (st := 0x5002) hm (State.access_narrow default b v hl hw) rfl]
  exact ⟨rfl, rfl, State.getF_mapErr_width _ _ _, (State.getF_mapErr_addr _ _ _ _).trans (Nat.mod_eq_of_lt hb), rfl⟩

/-! #### Transactions that SPI_CS_N cuts off (R526) -/

theorem beNat_beBytes (n v : Nat) : beNat (beBytes n v) = v % 256 ^ n := by
  rw [beNat, beBytes, List.reverse_reverse, leNat_leBytes]

/-- The opcode and the address of a transaction. -/
theorem fieldAt_opcode (op : Byte) (l : List Byte) : fieldAt (op :: l) 0 1 = op.toNat := by
  simp [fieldAt, leNat]

theorem address_of_bytes (op : Byte) {a : Nat} (l : List Byte) (ha : a < 2 ^ 32) :
    beNat (((op :: beBytes 4 a ++ l).drop 1).take 4) = a := by
  have hlen : (beBytes 4 a).length = 4 := beBytes_length 4 a
  have h : ((op :: beBytes 4 a ++ l).drop 1).take 4 = beBytes 4 a := by
    rw [List.cons_append, List.drop_succ_cons, List.drop_zero, List.take_left' hlen]
  rw [h, beNat_beBytes]; exact Nat.mod_eq_of_lt ha

/-- Once its dummy byte has arrived, a READ is made. -/
theorem State.csRise_read {s : State} (o : Outside) {b : List Byte} (hm : s.pins.misoAnswers = true) (hop : fieldAt b 0 1 = 0x03)
    (hlen : 6 ≤ b.length) : s.csRise o b =
      (s.spiAccess default 64 (beNat ((b.drop 1).take 4)) none).2.drive
        ((s.spiAccess default 64 (beNat ((b.drop 1).take 4)) none).1.take (b.length - 6)) := by
  have hne : b ≠ [] := List.ne_nil_of_length_pos (by omega)
  simp [State.csRise, hm, hop, hne, spiOp, not_lt.2 hlen]

/-- Before its last data byte has arrived, a WRITE does nothing. -/
theorem State.csRise_write_short {s : State} (o : Outside) {b : List Byte} (hop : fieldAt b 0 1 = 0x02) (hlen : b.length < 13) :
    s.csRise o b = s := by
  simp [State.csRise, hop, spiOp, hlen]

theorem State.drives_spiCsEarlyRise_read {s : State} {a : Nat} (o : Outside) (hm : s.pins.misoAnswers = true)
    (hl : s.latch .spi = default) (ha : a < 0x10000) (h8 : a % 8 = 0) {l : List Byte} (h0 : 0 < l.length) :
    s.drives (.spiCsEarlyRise (0x03 :: beBytes 4 a ++ 0 :: l) o) ((leBytes 8 (identWord s a) ++ [0, 0]).take l.length) := by
  have haddr := address_of_bytes 0x03 (0 :: l) (show a < 2 ^ 32 by omega)
  have hlen : (0x03 :: beBytes 4 a ++ 0 :: l).length = l.length + 6 := by
    simp only [List.length_append, List.length_cons, beBytes_length]; omega
  refine State.drives_of_drive (t := (s.putLatch .spi default).answer 0) (congrArg Host.Outcome.next ?_) ?_ rfl rfl rfl
  · rw [State.csRise_read o hm (fieldAt_opcode _ _) (by omega), haddr, hlen,
      State.spiAccess_ident64 hm hl default ha h8, Nat.add_sub_cancel]
  · have hl0 : l ≠ [] := List.ne_nil_of_length_pos h0
    simpa [leBytes] using hl0

theorem State.spiCsEarlyRise_write_short {s : State} (a : Nat) (o : Outside) {l : List Byte} (h : l.length < 8) :
    exec (.spiCsEarlyRise (0x02 :: beBytes 4 a ++ l) o) s = .next s := by
  refine congrArg Host.Outcome.next (State.csRise_write_short o (fieldAt_opcode _ _) ?_)
  simp only [List.length_append, List.length_cons, beBytes_length]; omega

/-- Settles O18: each transaction is one access of the idle path, a burst one for each register. -/
theorem spiReadsAndWrites : Obligations.SpiReadsAndWrites := by
  intro s a o hm hl ha h8
  exact ⟨State.drives_spiRead hm hl ha h8,
    State.spiRead32_both hm hl ha h8,
    fun n hn hle hf => State.drives_spiReadBurst hm hl h8 hn hle hf,
    fun n hf => State.drives_spiReadBurst_unknown a n hm hf,
    fun k v hk => State.spiWrite_offer o v hm hl hk,
    fun k lo hi hk hlo hhi => State.spiWrite32_offer o hm hl hk hlo hhi,
    fun b v hb => ⟨⟨_, rfl, State.spi_narrow none hm hl (by decide) hb⟩, ⟨_, rfl, State.spi_narrow none hm hl (by decide) hb⟩,
      ⟨_, rfl, State.spi_narrow (some v) hm hl (by decide) hb⟩, ⟨_, rfl, State.spi_narrow (some v) hm hl (by decide) hb⟩⟩,
    fun n hn => State.drives_spiUnknownOpcode hm hn,
    fun l h0 => State.drives_spiCsEarlyRise_read o hm hl ha h8 h0,
    fun l h => State.spiCsEarlyRise_write_short a o h⟩

/-! ### Hallmarks, nonces and takes (R215, R451, R156) -/

/-- What a path sees of a hallmark it has just latched. -/
theorem State.hallmarkView_latched (s : State) (q i k : Nat) (hk : k < 10) :
    (s.hallmarkLatch q i).hallmarkView q i k =
      if k < 8 then s.getR (R.ASSAY_HM + 0x40 * i + 8 * k)
      else if k = 8 then s.getR (R.ASSAY_HM_COUNT + 8 * i) else s.getR (R.ASSAY_HM_SEQ + 8 * i) := by
  simp only [State.hallmarkView, State.hallmarkLatch, AMap.get_set_self]
  interval_cases k <;> rfl

/-- Another path's view, and that of another hallmark, stay. -/
theorem State.hallmarkView_other (s : State) {q i q' i' : Nat} (k : Nat) (hi : i < 8) (hi' : i' < 8) (h : (q', i') ≠ (q, i)) :
    (s.hallmarkLatch q i).hallmarkView q' i' k = s.hallmarkView q' i' k := by
  have hkey : q' * 8 + i' ≠ q * 8 + i := fun e => h (by
    obtain ⟨rfl, rfl⟩ : q' = q ∧ i' = i := by omega
    rfl)
  simp only [State.hallmarkView, State.hallmarkLatch, AMap.get_set_ne _ _ hkey]
  rfl

/-- n draws take the next n free values, in order. -/
theorem State.drawBytes_eq (n : Nat) (s : State) :
    State.drawBytes n s = ((List.range n).flatMap (fun k => leBytes 8 (Config.freeValue (s.freeCtr + k)).toNat),
      { s with freeCtr := s.freeCtr + n }) := by
  induction n generalizing s with
  | zero => rfl
  | succ n ih =>
    have hk (k : Nat) : s.freeCtr + 1 + k = s.freeCtr + (k + 1) := by omega
    simp [State.drawBytes, State.draw, ih, List.range_succ_eq_map, List.flatMap_map, hk]

/-- Word k of a list of 64-bit words as bytes. -/
theorem fieldAt_words (f : Nat → Word) {n k : Nat} (hk : k < n) :
    fieldAt ((List.range n).flatMap (fun k => leBytes 8 (f k).toNat)) (8 * k) 8 = (f k).toNat := by
  induction n generalizing f k with
  | zero => omega
  | succ n ih =>
    rw [List.range_succ_eq_map, List.flatMap_cons, List.flatMap_map]
    cases k with
    | zero => exact (fieldAt_leBytes _ _ _).trans (Nat.mod_eq_of_lt (f 0).isLt)
    | succ k =>
      rw [fieldAt_append _ _ _ (by rw [leBytes_length]; omega), leBytes_length, Nat.mul_add_one, Nat.add_sub_cancel]
      exact ih (fun k => f (k + 1)) (by omega)

/-- The nonce that a draw makes: four free values as bytes. -/
def State.nextNonce (s : State) : List Byte :=
  (List.range 4).flatMap (fun k => leBytes 8 (Config.freeValue (s.freeCtr + k)).toNat)

/-- A draw: the nonce and its time in the Strongroom, its words in the four registers. -/
theorem State.nonceDraw_eq (s : State) :
    s.nonceDraw = (upto 4).foldl (fun t k => t.setN (R.STRONG_AUTH_NONCE + 8 * k) (fieldAt s.nextNonce (8 * k) 8))
      { s with freeCtr := s.freeCtr + 4, strong := { s.strong with nonce := s.nextNonce, nonceAt := s.time + 1 } } := by
  simp only [State.nonceDraw, State.drawBytes_eq]
  rfl

/-- Writing n registers in turn leaves each at its value. -/
theorem State.getR_foldl_setN (b : Nat) (g : Nat → Nat) (n : Nat) (s : State) {k : Nat} (hk : k < n) :
    ((upto n).foldl (fun t k => t.setN (b + 8 * k) (g k)) s).getR (b + 8 * k) = BitVec.ofNat 64 (g k) := by
  induction n with
  | zero => omega
  | succ n ih =>
    rw [upto, List.range_succ, List.foldl_append]
    by_cases e : k = n
    · subst e; exact State.getR_setN_self _ _ _
    · exact (State.getR_setN_ne _ _ (by omega)).trans (ih (by omega))

theorem State.nonceRead_strong (s : State) :
    s.nonceRead.2.strong = { s.strong with nonce := s.nextNonce, nonceAt := s.time + 1 } := by
  simp only [State.nonceRead, State.nonceDraw_eq]; rfl

theorem State.nonceRead_freeCtr (s : State) : s.nonceRead.2.freeCtr = s.freeCtr + 4 := by
  simp only [State.nonceRead, State.nonceDraw_eq]; rfl

theorem State.getR_nonceRead (s : State) {k : Nat} (h1 : 1 ≤ k) (hk : k < 4) :
    s.nonceRead.2.getR (R.STRONG_AUTH_NONCE + 8 * k) = Config.freeValue (s.freeCtr + k) := by
  rw [State.nonceRead, State.getR_setN_ne _ _ (by omega), State.nonceDraw_eq, State.getR_foldl_setN _ _ _ _ hk, State.nextNonce,
    fieldAt_words (fun k => Config.freeValue (s.freeCtr + k)) hk, BitVec.ofNat_toNat, BitVec.setWidth_eq]

/-- Closing a stream changes no take. -/
@[simp] theorem State.streamClose_toll (s : State) (n : Nat) : (s.streamClose n).toll = s.toll := by
  unfold State.streamClose; split <;> rfl

theorem State.takeOf_takeGone_self (s : State) (k : Nat) : (s.takeGone k).takeOf k = default := by
  simp [State.takeGone, State.takeOf, State.putTake]

theorem State.takeOf_takeGone_ne (s : State) {j k : Nat} (h : j ≠ k) : (s.takeGone k).takeOf j = s.takeOf j := by
  simp [State.takeGone, State.takeOf, State.putTake, AMap.get_set_ne _ _ h]

/-- A read of TOLL_TAKE_INFO by a path that holds no half frees the selected take's number where it is LAPSED. -/
theorem State.access_takeInfo {s : State} {p : Path} (hr : s.readable R.TOLL_TAKE_INFO = true) (hl : s.latch p = default) :
    (s.access p default 64 R.TOLL_TAKE_INFO none).2 =
      (((s.putLatch p default).answer 0).takeInfoRead (s.getF F.TOLL_TAKE_SEL_VAL)).2 := by
  rw [State.access_read _ (State.untorn_of_default hl _ _ _) (by decide)
    (State.accessBad_none (by decide) (by decide) (by decide) hr)]
  rfl

theorem State.execTakeInfoRead_lapsed {s : State} {p : Path} (hm : s.pins.misoAnswers = true)
    (hr : s.readable R.TOLL_TAKE_INFO = true) (hl : s.latch p = default) (h5 : (s.takeOf (s.getF F.TOLL_TAKE_SEL_VAL)).state = 5) :
    exec (.takeInfoRead p) s = .next (((s.putLatch p default).answer 0).takeGone (s.getF F.TOLL_TAKE_SEL_VAL)) := by
  show execTakeInfoRead p s = _
  rw [execTakeInfoRead, if_pos hm, State.access_takeInfo hr hl]
  exact congrArg Host.Outcome.next (if_pos h5)

theorem State.execTakeInfoRead_other {s : State} {p : Path} (hm : s.pins.misoAnswers = true)
    (hr : s.readable R.TOLL_TAKE_INFO = true) (hl : s.latch p = default) (h5 : (s.takeOf (s.getF F.TOLL_TAKE_SEL_VAL)).state ≠ 5) :
    exec (.takeInfoRead p) s = .next ((s.putLatch p default).answer 0) := by
  show execTakeInfoRead p s = _
  rw [execTakeInfoRead, if_pos hm, State.access_takeInfo hr hl]
  exact congrArg Host.Outcome.next (if_neg h5)

/-- A 64-bit write of IDENT_FEAT_OFFER by a management path that holds no half. -/
theorem State.execRegisterWrite_offer {s : State} {p : Path} {k : Nat} (v : Word) (o : Outside) (hp : p.engine = false)
    (hm : s.pins.misoAnswers = true) (hl : s.latch p = default) (hk : k < 4) :
    exec (.registerWrite p (R.IDENT_FEAT_OFFER + 8 * k) v o) s =
      .next (((s.putLatch p default).answer 0).setR (R.IDENT_FEAT_OFFER + 8 * k) v) := by
  show execRegisterWrite p _ v o s = _
  simp [execRegisterWrite, hp, hm, State.access_write_offer o v hm hl hk]

/-- Settles O19: the write is one access of the path; each read changes what its own meaning says. -/
theorem registerWritesLatchesAndNonces : Obligations.RegisterWritesLatchesAndNonces := by
  intro s p
  refine ⟨?write, ?hallmark, ?nonce, ?expiry, ?lapsed, ?other⟩
  case write =>
    intro hp hm hl k v o hk
    exact ⟨_, State.execRegisterWrite_offer v o hp hm hl hk, rfl, State.getR_setR_self _ _ _,
      fun r hr => State.getR_setR_ne _ _ hr, rfl, rfl⟩
  case hallmark =>
    intro i hi
    refine ⟨s.hallmarkLatch p.num i, congrArg Host.Outcome.next (if_pos hi), ?_, ?_, ?_, ?_, rfl, rfl⟩
    · intro k hk
      rw [State.hallmarkView_latched _ _ _ _ (by omega), if_pos hk]
    · exact State.hallmarkView_latched _ _ _ _ (by decide)
    · exact State.hallmarkView_latched _ _ _ _ (by decide)
    · intro q j k hj h
      exact State.hallmarkView_other s k hi hj h
  case nonce =>
    exact ⟨s.nonceRead.2.answer 0, rfl, congrArg Strong.nonce s.nonceRead_strong, congrArg Strong.nonceAt s.nonceRead_strong,
      s.nonceRead_freeCtr, rfl, State.getR_setN_self _ _ _, fun k h1 hk => s.getR_nonceRead h1 hk⟩
  case expiry => exact ⟨_, rfl, rfl, rfl⟩
  case lapsed =>
    intro hm hr hl
    by_cases h5 : (s.takeOf (s.getF F.TOLL_TAKE_SEL_VAL)).state = 5
    · exact ⟨_, State.execTakeInfoRead_lapsed hm hr hl h5, fun _ => ⟨State.takeOf_takeGone_self _ _,
        fun k hk => State.takeOf_takeGone_ne _ hk⟩⟩
    · exact ⟨_, State.execTakeInfoRead_other hm hr hl h5, fun h => absurd h h5⟩
  case other =>
    intro hm hr hl h5
    exact ⟨_, State.execTakeInfoRead_other hm hr hl h5, rfl, rfl⟩

end Sys2Proof.Machine
end

section
/-! PROOFS. What every command and every step keeps: each operation of the model goes on from a state to one with the same queue,
its stores in canonical form where they were; first the rules for what operations are made of, then each operation in the order
of the model, then the commands. -/

open Sys2Proof Sys2Proof.Claims

namespace Sys2Proof.Machine

/-! ### What a command keeps: the queue, and the canonical form of the stores -/

/-- A state has another's queue, and stores in canonical form where the other's are. -/
structure State.Keeps (s t : State) : Prop where
  queue : t.pending = s.pending
  stores : s.canonical → t.canonical

/-- An outcome is a next state that keeps the queue and the canonical form of a state. -/
def State.Goes (s : State) (o : Res) : Prop := ∃ t, o = .next t ∧ s.Keeps t

theorem State.Keeps.refl (s : State) : s.Keeps s := ⟨rfl, id⟩

/-- Leaving entries out keeps the canonical form of a map. -/
theorem AMap.filter_wfFrom {α : Type} [DecidableEq α] (d : Nat → α) (f : Nat × α → Bool) (m : AMap α) :
    ∀ lo, AMap.wfFrom d lo m = true → AMap.wfFrom d lo (m.filter f) = true := by
  induction m with
  | nil => exact fun _ _ => rfl
  | cons p m ih =>
    obtain ⟨a, v⟩ := p
    intro lo h
    simp only [AMap.wfFrom, Bool.and_eq_true, decide_eq_true_eq] at h
    obtain ⟨⟨hlo, hv⟩, hm⟩ := h
    rw [List.filter_cons]
    split
    · simp only [AMap.wfFrom, Bool.and_eq_true, decide_eq_true_eq]
      exact ⟨⟨hlo, hv⟩, ih _ hm⟩
    · exact AMap.wfFrom_mono d _ (by omega) (ih _ hm)

section
variable {s₀ s : State}

/-- A change of any part but the register file, memory and the queue. -/
theorem State.Keeps.upd {outbox time freeCtr mode power reply obs hands docket toll pins larder plan press mill assay warden hold
    mag sieve cf till stew media car pair strong latches} (hs : s₀.Keeps s) :
    s₀.Keeps ⟨s.regs, s.mem, s.pending, outbox, time, freeCtr, mode, power, reply, obs, hands, docket, toll, pins, larder, plan,
      press, mill, assay, warden, hold, mag, sieve, cf, till, stew, media, car, pair, strong, latches⟩ :=
  ⟨hs.queue, hs.stores⟩

theorem State.Keeps.setR {key v} (hs : s₀.Keeps s) : s₀.Keeps (s.setR key v) :=
  ⟨hs.queue, fun hc => ⟨State.setR_wf _ _ _ (hs.stores hc).1, (hs.stores hc).2⟩⟩

theorem State.Keeps.wrB {k b} (hs : s₀.Keeps s) : s₀.Keeps (s.wrB k b) :=
  ⟨hs.queue, fun hc => ⟨(hs.stores hc).1, State.wrB_wf _ _ _ (hs.stores hc).2⟩⟩

theorem State.Goes.next (hs : s₀.Keeps s) : s₀.Goes (.next s) := ⟨s, rfl, hs⟩

/-! #### Conditions, and folds over a list -/

theorem State.Keeps.ite {c : Prop} {_ : Decidable c} {t u : State} (ht : s₀.Keeps t) (hu : s₀.Keeps u) :
    s₀.Keeps (if c then t else u) := by split <;> assumption

theorem State.Keeps.dite {c : Prop} {_ : Decidable c} {f : c → State} {g : ¬c → State} (hf : ∀ h, s₀.Keeps (f h))
    (hg : ∀ h, s₀.Keeps (g h)) : s₀.Keeps (if h : c then f h else g h) := by split <;> apply_assumption

theorem State.Keeps.iteSnd {α : Type} {c : Prop} {_ : Decidable c} {p q : α × State} (hp : s₀.Keeps p.2) (hq : s₀.Keeps q.2) :
    s₀.Keeps (if c then p else q).2 := by split <;> assumption

theorem State.Keeps.iteFst {α : Type} {c : Prop} {_ : Decidable c} {p q : State × α} (hp : s₀.Keeps p.1) (hq : s₀.Keeps q.1) :
    s₀.Keeps (if c then p else q).1 := by split <;> assumption

theorem State.Keeps.iteTrd {α β : Type} {c : Prop} {_ : Decidable c} {p q : α × β × State} (hp : s₀.Keeps p.2.2)
    (hq : s₀.Keeps q.2.2) : s₀.Keeps (if c then p else q).2.2 := by split <;> assumption

theorem State.Goes.ite {c : Prop} {_ : Decidable c} {o p : Res} (ho : s₀.Goes o) (hp : s₀.Goes p) :
    s₀.Goes (if c then o else p) := by split <;> assumption

/-- What every step of a fold keeps, the fold keeps. -/
theorem State.Keeps.foldl {α : Type} {f : State → α → State} {l : List α} (hs : s₀.Keeps s)
    (hf : ∀ u x, s₀.Keeps u → s₀.Keeps (f u x)) : s₀.Keeps (l.foldl f s) :=
  List.foldlRecOn l f hs fun u hu x _ => hf u x hu

theorem State.Keeps.foldlSnd {α β : Type} {f : β × State → α → β × State} {l : List α} {p : β × State} (hp : s₀.Keeps p.2)
    (hf : ∀ u x, s₀.Keeps u.2 → s₀.Keeps (f u x).2) : s₀.Keeps (l.foldl f p).2 :=
  List.foldlRecOn l f (motive := fun u => s₀.Keeps u.2) hp fun u hu x _ => hf u x hu

theorem State.Keeps.foldlFst {α β : Type} {f : State × β → α → State × β} {l : List α} {p : State × β} (hp : s₀.Keeps p.1)
    (hf : ∀ u x, s₀.Keeps u.1 → s₀.Keeps (f u x).1) : s₀.Keeps (l.foldl f p).1 :=
  List.foldlRecOn l f (motive := fun u => s₀.Keeps u.1) hp fun u hu x _ => hf u x hu

/-- The state of a pair known by its parts. -/
theorem State.Keeps.snd {α : Type} {p : α × State} {a : α} {t : State} (hp : s₀.Keeps p.2) (h : p = (a, t)) : s₀.Keeps t := by
  subst h; exact hp

theorem State.Keeps.trd {α β : Type} {p : α × β × State} {a : α} {b : β} {t : State} (hp : s₀.Keeps p.2.2) (h : p = (a, b, t)) :
    s₀.Keeps t := by
  subst h; exact hp

/-! #### The operations of the model, in the order in which they call each other -/

/-! #### Ops -/

theorem State.Keeps.setF {f n} (hs : s₀.Keeps s) : s₀.Keeps (s.setF f n) := hs.setR

theorem State.Keeps.addF {f n} (hs : s₀.Keeps s) : s₀.Keeps (s.addF f n) := hs.setF

theorem State.Keeps.satF {f} (hs : s₀.Keeps s) : s₀.Keeps (s.satF f) := hs.setF

theorem State.Keeps.setN {key n} (hs : s₀.Keeps s) : s₀.Keeps (s.setN key n) := hs.setR

theorem State.Keeps.addN {key n} (hs : s₀.Keeps s) : s₀.Keeps (s.addN key n) := hs.setN

theorem State.Keeps.stat {f st} (hs : s₀.Keeps s) : s₀.Keeps (s.stat f st) := hs.upd.setF

theorem State.Keeps.answer {st} (hs : s₀.Keeps s) : s₀.Keeps (s.answer st) := hs.upd

theorem State.Keeps.wrBytes {k l} (hs : s₀.Keeps s) : s₀.Keeps (s.wrBytes k l) := by
  induction l generalizing s k with
  | nil => exact hs
  | cons b r ih => exact ih hs.wrB

theorem State.Keeps.send {o} (hs : s₀.Keeps s) : s₀.Keeps (s.send o) := hs.upd

theorem State.Keeps.draw (hs : s₀.Keeps s) : s₀.Keeps s.draw.2 := hs.upd

theorem State.Keeps.drawBytes {n} (hs : s₀.Keeps s) : s₀.Keeps (State.drawBytes n s).2 := by
  induction n generalizing s with
  | zero => exact hs
  | succ n ih => exact ih hs.draw

theorem State.Keeps.reqDone {st} (hs : s₀.Keeps s) : s₀.Keeps (s.reqDone st) := .ite hs.upd.setF.setF hs

theorem State.Keeps.crierNumber {r} (hs : s₀.Keeps s) : s₀.Keeps (s.crierNumber r).2 := hs.setN

theorem State.Keeps.crierAlarm {r0} (hs : s₀.Keeps s) : s₀.Keeps (s.crierAlarm r0) :=
  .ite hs.crierNumber.upd.addN hs.crierNumber.upd

theorem State.Keeps.crierLog {r0} (hs : s₀.Keeps s) : s₀.Keeps (s.crierLog r0) := .ite hs.crierNumber.upd hs.addN.upd

theorem State.Keeps.countOver {n} (hs : s₀.Keeps s) : s₀.Keeps (s.countOver n) := .ite hs.setF.crierLog.addN hs.setF

theorem State.Keeps.countOne {n k} (hs : s₀.Keeps s) : s₀.Keeps (s.countOne n k) := .ite hs.setF hs.setF.countOver

theorem State.Keeps.countAdd {n k} (hs : s₀.Keeps s) : s₀.Keeps (s.countAdd n k) :=
  .ite hs.countOne.upd.countOne hs.countOne.upd

theorem State.Keeps.countEv {ev k hand} (hs : s₀.Keeps s) : s₀.Keeps (s.countEv ev k hand) :=
  .ite hs (hs.foldl (fun _ _ hs => hs.countAdd))

theorem State.Keeps.tick (hs : s₀.Keeps s) : s₀.Keeps s.tick := hs.addN.countEv

theorem State.Keeps.crierTrace {r0} (hs : s₀.Keeps s) : s₀.Keeps (s.crierTrace r0) := .ite hs.crierNumber.upd hs

theorem State.Keeps.alarm {i c st det body} (hs : s₀.Keeps s) : s₀.Keeps (s.alarm i c st det body) :=
  hs.crierAlarm.tick

theorem State.Keeps.log {i c st det body} (hs : s₀.Keeps s) : s₀.Keeps (s.log i c st det body) :=
  .ite hs.crierLog.tick hs.crierLog.tick.countEv

theorem State.Keeps.trace {i c st det body} (hs : s₀.Keeps s) : s₀.Keeps (s.trace i c st det body) :=
  hs.crierTrace.tick

theorem State.Keeps.regEvent {blk code det body} (hs : s₀.Keeps s) : s₀.Keeps (s.regEvent blk code det body) :=
  hs.upd.tick

theorem State.Keeps.modeFrom {old m cause} (hs : s₀.Keeps s) : s₀.Keeps (s.modeFrom old m cause) :=
  hs.upd.setN.setF.setF.setF.setF.regEvent

theorem State.Keeps.setMode {m cause} (hs : s₀.Keeps s) : s₀.Keeps (s.setMode m cause) := hs.modeFrom

theorem State.Keeps.capTrigger (hs : s₀.Keeps s) : s₀.Keeps s.capTrigger := hs.upd

theorem State.Keeps.capTriggerIf {b} (hs : s₀.Keeps s) : s₀.Keeps (s.capTriggerIf b) := .ite hs.capTrigger hs

/-! #### Cf -/

theorem State.Keeps.cfPump {l room} (hs : s₀.Keeps s) : s₀.Keeps (State.cfPump l room s) := by
  induction l generalizing room s with
  | nil => exact hs
  | cons x r ih => exact .ite hs (.ite (ih hs) (ih hs.upd.addN.addN.send))

theorem State.Keeps.sendStub {type payload} (hs : s₀.Keeps s) : s₀.Keeps (s.sendStub type payload) :=
  .ite hs.upd.cfPump hs.upd

theorem State.Keeps.mirror {type payload} (hs : s₀.Keeps s) : s₀.Keeps (s.mirror type payload) := .ite hs.sendStub hs

theorem State.Keeps.sendAct {kind dir st a b c blob} (hs : s₀.Keeps s) : s₀.Keeps (s.sendAct kind dir st a b c blob) :=
  hs.sendStub

theorem State.Keeps.askAct {kind a b c blob} (hs : s₀.Keeps s) : s₀.Keeps (s.askAct kind a b c blob) := hs.upd.sendAct

/-! #### Operands -/

theorem State.Keeps.putCtx {e c} (hs : s₀.Keeps s) : s₀.Keeps (s.putCtx e c) := hs.upd

theorem State.Keeps.noteTrap {e c cause} (hs : s₀.Keeps s) : s₀.Keeps (s.noteTrap e c cause) :=
  .ite hs.addN.setN.setN.tick.countEv hs.tick

theorem State.Keeps.trapTake {e cause imm} (hs : s₀.Keeps s) : s₀.Keeps (s.trapTake e cause imm) := hs.noteTrap.putCtx

theorem State.Keeps.yields {e} (hs : s₀.Keeps s) : s₀.Keeps (s.yields e) := .ite hs.countEv hs

theorem State.Keeps.issueLen {e len reads k} (hs : s₀.Keeps s) (hk : ∀ c u, s₀.Keeps u → s₀.Keeps (k c u)) :
    s₀.Keeps (s.issueLen e len reads k) := by
  unfold State.issueLen
  refine .ite hs (.ite hs.trapTake ?_)
  split
  · exact hs.putCtx.yields
  · exact hk _ _ (.ite hs.addN.addN.countEv hs)

theorem State.Keeps.issue {e reads k} (hs : s₀.Keeps s) (hk : ∀ c u, s₀.Keeps u → s₀.Keeps (k c u)) :
    s₀.Keeps (s.issue e reads k) := hs.issueLen hk

theorem State.Keeps.done {e c} (hs : s₀.Keeps s) : s₀.Keeps (s.done e c) := hs.putCtx

theorem State.Keeps.compute {e reads rd len f} (hs : s₀.Keeps s) : s₀.Keeps (s.compute e reads rd len f) :=
  hs.issueLen (fun _ _ hs => hs.putCtx)

theorem State.Keeps.computeP {e reads pd f} (hs : s₀.Keeps s) : s₀.Keeps (s.computeP e reads pd f) :=
  hs.issue (fun _ _ hs => hs.done)

theorem State.Keeps.wrG {a b} (hs : s₀.Keeps s) : s₀.Keeps (s.wrG a b) := by
  unfold State.wrG
  split
  · exact hs.wrB
  · exact hs.upd

theorem State.Keeps.wrSp {unit space a b} (hs : s₀.Keeps s) : s₀.Keeps (s.wrSp unit space a b) := .ite hs.wrG hs.wrB

theorem State.Keeps.wrSpN {unit space a l} (hs : s₀.Keeps s) : s₀.Keeps (s.wrSpN unit space a l) := by
  induction l generalizing s a with
  | nil => exact hs
  | cons b r ih => exact ih hs.wrSp

theorem State.Keeps.wrView {unit d l} (hs : s₀.Keeps s) : s₀.Keeps (s.wrView unit d l) := hs.wrSpN

theorem State.Keeps.accelIssue {e rd ra mk priv uses ok} (hs : s₀.Keeps s) : s₀.Keeps (s.accelIssue e rd ra mk priv uses ok) := by
  unfold State.accelIssue
  refine hs.issue fun c u hu => .ite hs.putCtx.yields ?_
  split
  · exact hu.trapTake
  · exact hu.upd.putCtx

theorem State.Keeps.thenIf {e f} {t : State} (ht : s₀.Keeps t) (hf : ∀ u, s₀.Keeps u → s₀.Keeps (f u)) :
    s₀.Keeps (s.thenIf e t f) := .ite (hf _ ht) ht

/-! #### Spare -/

theorem State.Keeps.holdRestart (hs : s₀.Keeps s) : s₀.Keeps s.holdRestart := .ite hs.satF.setF hs

theorem State.Keeps.queueTest {r} (hs : s₀.Keeps s) : s₀.Keeps (s.queueTest r) := hs.upd.setF

theorem State.Keeps.spareBook {kind unit used} (hs : s₀.Keeps s) : s₀.Keeps (s.spareBook kind unit used) :=
  have h3 := State.Keeps.setN (State.Keeps.setF (State.Keeps.setF (State.Keeps.setF (State.Keeps.log (State.Keeps.satF
    (State.Keeps.ite hs.addF hs))))))
  .ite h3.upd.alarm h3

theorem State.Keeps.spareCall {kind unit} (hs : s₀.Keeps s) : s₀.Keeps (s.spareCall kind unit) := hs.spareBook

/-! #### Mill -/

theorem State.Keeps.millRecount (hs : s₀.Keeps s) : s₀.Keeps s.millRecount := hs.setF.setF.setF.setF

theorem State.Keeps.millStandIn (hs : s₀.Keeps s) : s₀.Keeps s.millStandIn := by
  unfold State.millStandIn
  split
  · exact hs
  · exact hs.setF

theorem State.Keeps.millBack {core} (hs : s₀.Keeps s) : s₀.Keeps (s.millBack core) := hs.setF.setF.setF.millRecount

theorem State.Keeps.millClear {core} (hs : s₀.Keeps s) : s₀.Keeps (s.millClear core) := hs.upd

theorem State.Keeps.millOut {core cause} (hs : s₀.Keeps s) : s₀.Keeps (s.millOut core cause) :=
  have h2 := hs.upd.setF.setF.setF.millClear
  have h3 := State.Keeps.ite h2 h2.satF
  .holdRestart (.spareCall (.millRecount (.ite h3.millStandIn h3)))

theorem State.Keeps.millDraining {core goal} (hs : s₀.Keeps s) : s₀.Keeps (s.millDraining core goal) :=
  .millRecount (.ite hs.upd.setF.setF.millStandIn hs.upd.setF.setF)

theorem State.Keeps.millRetire {core cause} (hs : s₀.Keeps s) : s₀.Keeps (s.millRetire core cause) :=
  .ite hs.millDraining hs.millOut

theorem State.Keeps.millRest {core} (hs : s₀.Keeps s) : s₀.Keeps (s.millRest core) := by
  unfold State.millRest
  split
  · exact hs
  · exact hs.upd.setF.millRecount
  · exact hs.setF.millOut

theorem State.Keeps.millIn (hs : s₀.Keeps s) : s₀.Keeps s.millIn :=
  hs.foldl (fun _ _ hs => .ite hs.millBack (.ite (.ite hs.millOut hs.upd.millBack) hs))

theorem State.Keeps.millRequest {f} (hs : s₀.Keeps s) (hf : ∀ x u, s₀.Keeps u → s₀.Keeps (f x u)) :
    s₀.Keeps (s.millRequest f) := .ite hs (.ite hs.stat (hf _ _ hs))

theorem State.Keeps.millQueue {core restore} (hs : s₀.Keeps s) : s₀.Keeps (s.millQueue core restore) :=
  hs.stat.setF.setF.queueTest

theorem State.Keeps.execMillCoreTest (hs : s₀.Keeps s) : s₀.Goes (execMillCoreTest s) :=
  .next (hs.millRequest (fun _ _ hs => hs.millQueue))

theorem State.Keeps.execMillCoreRestore (hs : s₀.Keeps s) : s₀.Goes (execMillCoreRestore s) :=
  .next (hs.millRequest (fun _ _ hs => .ite hs.millQueue hs.stat))

theorem State.Keeps.millCoreFail {core} (hs : s₀.Keeps s) : s₀.Keeps (s.millCoreFail core) := .ite hs hs.upd.millOut

theorem State.Keeps.execMillKatDue {core} (hs : s₀.Keeps s) : s₀.Goes (execMillKatDue core s) :=
  .next (.ite hs.queueTest hs)

theorem State.Keeps.millWithdraw {core} (hs : s₀.Keeps s) : s₀.Keeps (s.millWithdraw core) :=
  .ite hs.millDraining (.ite hs.setF.setF.millStandIn.millRecount (.ite hs.setF.setF.millRecount hs.setF))

theorem State.Keeps.millTestDone {r pass} (hs : s₀.Keeps s) : s₀.Keeps (s.millTestDone r pass) :=
  have h2 := State.Keeps.ite hs.setF.setN hs.setF
  have h3 := State.Keeps.ite (State.Keeps.ite h2.millBack h2.millRetire) (State.Keeps.ite h2.millBack (State.Keeps.ite h2
    (State.Keeps.ite h2.millRetire h2.satF)))
  .ite h3.setF h3

theorem State.Keeps.drbgReseed (hs : s₀.Keeps s) : s₀.Keeps s.drbgReseed := hs.upd.satF.setF

theorem State.Keeps.execDrbgReseed (hs : s₀.Keeps s) : s₀.Goes (execDrbgReseed s) := .next hs.drbgReseed

theorem State.Keeps.generate {n} (hs : s₀.Keeps s) : s₀.Keeps (s.generate n).2 :=
  .ite hs.drawBytes.upd.drbgReseed hs.drawBytes.upd

theorem State.Keeps.drbgStart (hs : s₀.Keeps s) : s₀.Keeps s.drbgStart := by
  unfold State.drbgStart
  split
  · next h => exact (hs.upd.generate.snd h).upd.setF

theorem State.Keeps.maskSeed {core} (hs : s₀.Keeps s) : s₀.Keeps (s.maskSeed core) := by
  unfold State.maskSeed
  split
  · next h => exact (hs.generate.snd h).upd

theorem State.Keeps.execRngHealthFail (hs : s₀.Keeps s) : s₀.Goes (execRngHealthFail s) := .next hs.setF.alarm

theorem State.Keeps.execReseedOverdue (hs : s₀.Keeps s) : s₀.Goes (execReseedOverdue s) := .next hs.setF.alarm

theorem State.Keeps.lockGrant {core holder} (hs : s₀.Keeps s) : s₀.Keeps (s.lockGrant core holder) :=
  hs.setF.setF.millRecount

theorem State.Keeps.putSlot {h n k} (hs : s₀.Keeps s) : s₀.Keeps (s.putSlot h n k) := by
  unfold State.putSlot
  refine .ite ?_ hs.upd
  split
  · exact hs.upd
  · exact hs

theorem State.Keeps.keyStore {slot kind ident m} (hs : s₀.Keeps s) : s₀.Keeps (s.keyStore slot kind ident m) :=
  hs.generate.putSlot.tick

theorem State.Keeps.keyLoad {blk ra} (hs : s₀.Keeps s) : s₀.Keeps (s.keyLoad blk ra).2 := by
  unfold State.keyLoad
  refine .iteSnd hs (.iteSnd hs (.iteSnd hs (.iteSnd (.iteSnd hs hs.keyStore) (.iteSnd hs ?_))))
  split
  · exact hs.addN
  · exact .iteSnd hs hs.keyStore

theorem State.Keeps.zeroAccept {slot} (hs : s₀.Keeps s) : s₀.Keeps (s.zeroAccept slot).2 :=
  .iteSnd hs (.iteSnd hs hs.putSlot.tick)

theorem State.Keeps.zeroTry {o} (hs : s₀.Keeps s) : s₀.Keeps (s.zeroTry o).2 :=
  .iteSnd hs (.iteSnd hs (.iteSnd hs hs.putSlot.tick))

theorem State.Keeps.zeroSweep (hs : s₀.Keeps s) : s₀.Keeps s.zeroSweep := hs.foldl (fun _ _ hs => hs.putSlot.tick)

theorem State.Keeps.millLastErr {tag st core} (hs : s₀.Keeps s) : s₀.Keeps (s.millLastErr tag st core) :=
  hs.setF.setF.setF.setN.tick

theorem State.Keeps.putMsg {m} (hs : s₀.Keeps s) : s₀.Keeps (s.putMsg m) := hs.upd

theorem State.Keeps.millUnit {m o u} (hs : s₀.Keeps s) : s₀.Keeps (s.millUnit m o u).2 := hs.wrView.addN

theorem State.Keeps.millAll {o l m} (hs : s₀.Keeps s) : s₀.Keeps (State.millAll o l m s).2 := by
  induction l generalizing s m with
  | nil => exact hs
  | cons u r ih => exact ih hs.millUnit

theorem State.Keeps.millWrap {m o} (hs : s₀.Keeps s) : s₀.Keeps (s.millWrap m o).2 := by
  unfold State.millWrap
  refine .iteSnd ?_ hs.addN.wrView
  split
  · exact hs.addN.wrView
  · exact hs.addN

theorem State.Keeps.millWork {m u} (hs : s₀.Keeps s) : s₀.Keeps (s.millWork m u).2 := by
  unfold State.millWork
  split
  · exact hs.addN
  · exact .iteSnd hs.millWrap (.iteSnd hs.millAll hs.millUnit)

theorem State.Keeps.millEnd {b} (hs : s₀.Keeps s) : s₀.Keeps (s.millEnd b) := by
  unfold State.millEnd
  refine
    have h2 : s₀.Keeps _ := ?_
    .millRest (.ite h2.upd.maskSeed h2.upd)
  split
  · exact hs.upd
  · exact .ite hs.upd hs.upd.millWork.putMsg

theorem State.Keeps.millDeal {core} (hs : s₀.Keeps s) : s₀.Keeps (s.millDeal core) := by
  unfold State.millDeal
  split
  · exact hs
  · exact .ite hs.putMsg (.ite hs.upd.maskSeed hs.upd)

theorem State.Keeps.millSuspend {m} (hs : s₀.Keeps s) : s₀.Keeps (s.millSuspend m) :=
  .ite hs.addN (.ite hs.addN.wrBytes.putMsg hs.addN.addN.wrBytes.putMsg)

theorem State.Keeps.millTurn {had} (hs : s₀.Keeps s) : s₀.Keeps (s.millTurn had) :=
  .foldl (hs.foldl (fun _ _ hs => hs.millDeal)) (fun _ _ hs => hs.millSuspend)

theorem State.Keeps.millRound (hs : s₀.Keeps s) : s₀.Keeps s.millRound :=
  .millTurn (hs.foldl (fun _ _ hs => hs.millEnd))

theorem State.Keeps.millRun {id n} (hs : s₀.Keeps s) : s₀.Keeps (State.millRun id n s) := by
  induction n generalizing s with
  | zero => exact hs
  | succ n ih =>
    unfold State.millRun
    split
    · exact hs
    · exact .ite hs (ih hs.millRound)

theorem State.Keeps.millDrop {p} (hs : s₀.Keeps s) : s₀.Keeps (s.millDrop p) :=
  hs.upd.foldl (fun _ _ hs => hs.millRest)

theorem State.Keeps.millKill {key} (hs : s₀.Keeps s) : s₀.Keeps (s.millKill key) := hs.upd

theorem State.Keeps.millJoin {e dec} (hs : s₀.Keeps s) : s₀.Keeps (s.millJoin e dec) := by
  unfold State.millJoin
  split
  · exact hs
  · exact .ite hs hs.upd.millTurn

theorem State.Keeps.sealEnd {e o tag m} (hs : s₀.Keeps s) : s₀.Keeps (s.sealEnd e o tag m).2 := by
  unfold State.sealEnd
  extract_lets
  refine .iteSnd (.iteSnd ?_ (.iteSnd hs ?_)) (.iteSnd ?_ hs) <;> dsimp only
  · exact hs.wrBytes
  · exact hs.wrView.addN.millLastErr
  · exact hs.addN.millLastErr

theorem State.Keeps.sealDone {e o tag} (hs : s₀.Keeps s) : s₀.Keeps (s.sealDone e o tag).2 := by
  unfold State.sealDone
  refine .iteSnd hs.wrView ?_
  dsimp only
  split
  · exact hs.millRun
  · exact .iteSnd hs.millRun (.iteSnd hs.millRun hs.millRun.sealEnd)

theorem State.Keeps.millCarrier {slot dec iv aad text} (hs : s₀.Keeps s) : s₀.Keeps (s.millCarrier slot dec iv aad text) :=
  hs.upd.millTurn.millRun.millDrop

theorem State.Keeps.lockDrain {core} (hs : s₀.Keeps s) : s₀.Keeps (s.lockDrain core) :=
  hs.foldl (fun _ _ hs => hs.millRun)

theorem State.Keeps.lockFree {core} (hs : s₀.Keeps s) : s₀.Keeps (s.lockFree core) := hs.lockDrain.millBack.millClear

theorem State.Keeps.execMillLockExpiry {core} (hs : s₀.Keeps s) : s₀.Goes (execMillLockExpiry core s) :=
  .next (.ite hs.lockFree.alarm hs)

theorem State.Keeps.lockReady {core} (hs : s₀.Keeps s) : s₀.Keeps (s.lockReady core) := .ite hs.setF.millRound hs

theorem State.Keeps.lockTry {o} (hs : s₀.Keeps s) : s₀.Keeps (s.lockTry o).2 := by
  unfold State.lockTry
  refine .iteSnd hs ?_
  split
  · exact hs.lockReady.lockGrant
  · exact hs

theorem State.Keeps.lockRelease {o} (hs : s₀.Keeps s) : s₀.Keeps (s.lockRelease o).2 := .iteSnd hs.lockFree hs

theorem State.Keeps.execSeal {e rd da db ra imm} (hs : s₀.Keeps s) : s₀.Goes (execSeal e rd da db ra imm s) :=
  .next (hs.accelIssue.thenIf (fun _ hs => hs.millJoin))

theorem State.Keeps.execUnseal {e rd da db ra imm} (hs : s₀.Keeps s) : s₀.Goes (execUnseal e rd da db ra imm s) :=
  .next (hs.accelIssue.thenIf (fun _ hs => hs.millJoin))

/-! #### Wire -/

theorem State.Keeps.putPeer {i p} (hs : s₀.Keeps s) : s₀.Keeps (s.putPeer i p) := hs.upd

theorem State.Keeps.ivNext {flags} (hs : s₀.Keeps s) : s₀.Keeps (s.ivNext flags).2 :=
  .iteSnd hs (.iteSnd hs.upd hs.upd)

theorem State.Keeps.carOut {peer type flags epoch seq iv body}
    (hs : s₀.Keeps s) : s₀.Keeps (s.carOut peer type flags epoch seq iv body) :=
  hs.send

theorem State.Keeps.carMill {dec node type flags epoch seq iv body}
    (hs : s₀.Keeps s) : s₀.Keeps (s.carMill dec node type flags epoch seq iv body) :=
  .ite hs hs.millCarrier

theorem State.Keeps.carWire {i m} (hs : s₀.Keeps s) : s₀.Keeps (s.carWire i m) :=
  have h2 := State.Keeps.ite hs.putPeer.addN hs.putPeer
  .carOut (.ite h2.carMill h2)

theorem State.Keeps.carSendAt {i type flags body w} (hs : s₀.Keeps s) : s₀.Keeps (s.carSendAt i type flags body w) :=
  .ite hs (.ite hs.ivNext.putPeer.addN.carWire hs.ivNext.putPeer.addN)

theorem State.Keeps.carSend {num type flags body w} (hs : s₀.Keeps s) : s₀.Keeps (s.carSend num type flags body w) :=
  .ite hs.carSendAt hs

theorem State.Keeps.epochNext (hs : s₀.Keeps s) : s₀.Keeps s.epochNext.2 := hs.upd

theorem State.Keeps.sendSide {i} (hs : s₀.Keeps s) : s₀.Keeps (s.sendSide i) := hs.epochNext.putPeer.carSendAt

/-! #### Ack -/

theorem State.Keeps.carAck {i items} (hs : s₀.Keeps s) : s₀.Keeps (s.carAck i items) :=
  .ite hs.putPeer.carOut.addN hs.putPeer.carOut

theorem State.Keeps.carGot {i} (hs : s₀.Keeps s) : s₀.Keeps (s.carGot i) := .ite hs.putPeer.carAck hs.putPeer

theorem State.Keeps.carAckBare {h st} (hs : s₀.Keeps s) : s₀.Keeps (s.carAckBare h st) := hs.carOut

theorem State.Keeps.carRelease (hs : s₀.Keeps s) : s₀.Keeps s.carRelease :=
  hs.foldl (fun _ _ hs => .ite hs hs.putPeer.carGot)

/-! #### Folio -/

theorem State.Keeps.putMagPort {p x} (hs : s₀.Keeps s) : s₀.Keeps (s.putMagPort p x) := hs.upd

theorem State.Keeps.putMagTask {p r x} (hs : s₀.Keeps s) : s₀.Keeps (s.putMagTask p r x) := hs.upd

theorem State.Keeps.folioWire {p m resend} (hs : s₀.Keeps s) : s₀.Keeps (s.folioWire p m resend) := hs.addF.send

theorem State.Keeps.magPump {p l} (hs : s₀.Keeps s) : s₀.Keeps (State.magPump p l s) := by
  induction l generalizing s with
  | nil => exact hs
  | cons m r ih => exact .ite (ih hs) (.ite (ih hs.putMagPort.folioWire) hs)

theorem State.Keeps.magFlow {p} (hs : s₀.Keeps s) : s₀.Keeps (s.magFlow p) := hs.magPump

theorem State.Keeps.magSend {p type flags task ofs data} (hs : s₀.Keeps s) : s₀.Keeps (s.magSend p type flags task ofs data) :=
  hs.putMagPort.magFlow

theorem State.Keeps.magBare {p type data} (hs : s₀.Keeps s) : s₀.Keeps (s.magBare p type data) := hs.folioWire

theorem State.Keeps.magAck {p} (hs : s₀.Keeps s) : s₀.Keeps (s.magAck p) := hs.magBare

theorem State.Keeps.magData {p task whole data} (hs : s₀.Keeps s) : s₀.Keeps (s.magData p task whole data) :=
  hs.foldlSnd (fun _ _ hs => hs.magSend)

theorem State.Keeps.magStatusSend {p r} (hs : s₀.Keeps s) : s₀.Keeps (s.magStatusSend p r) :=
  .ite hs.putMagTask.magSend hs

theorem State.Keeps.magStatus {p r st block} (hs : s₀.Keeps s) : s₀.Keeps (s.magStatus p r st block) :=
  hs.putMagTask.magStatusSend

/-! #### Press -/

theorem State.Keeps.pressGive {k} (hs : s₀.Keeps s) : s₀.Keeps (s.pressGive k) := hs.upd

theorem State.Keeps.pressServe (hs : s₀.Keeps s) : s₀.Keeps s.pressServe := hs.pressGive.pressGive.pressGive

theorem State.Keeps.pressRecount (hs : s₀.Keeps s) : s₀.Keeps s.pressRecount :=
  hs.setF.setF.setF.setF.setF.setF.pressServe.capTrigger

theorem State.Keeps.pressStandIn {k} (hs : s₀.Keeps s) : s₀.Keeps (s.pressStandIn k) := by
  unfold State.pressStandIn
  split
  · exact hs
  · exact hs.setF

theorem State.Keeps.pressBack {lane} (hs : s₀.Keeps s) : s₀.Keeps (s.pressBack lane) := hs.setF.setF.pressRecount

theorem State.Keeps.pressOut {lane cause} (hs : s₀.Keeps s) : s₀.Keeps (s.pressOut lane cause) :=
  .alarm (.holdRestart (.spareCall (.pressRecount (.ite hs.upd.setF.setF.pressStandIn hs.upd.setF.setF))))

theorem State.Keeps.pressDraining {lane goal} (hs : s₀.Keeps s) : s₀.Keeps (s.pressDraining lane goal) :=
  .pressRecount (.ite hs.upd.setF.setF.pressStandIn hs.upd.setF.setF)

theorem State.Keeps.pressRetire {lane cause} (hs : s₀.Keeps s) : s₀.Keeps (s.pressRetire lane cause) :=
  .ite hs.pressDraining hs.pressOut

theorem State.Keeps.pressRest {lane} (hs : s₀.Keeps s) : s₀.Keeps (s.pressRest lane) := by
  unfold State.pressRest
  refine .ite ?_ hs.pressServe
  split
  · exact hs
  · exact hs.upd.setF.pressRecount
  · exact hs.setF.pressOut

theorem State.Keeps.pressDrop {p} (hs : s₀.Keeps s) : s₀.Keeps (s.pressDrop p) :=
  hs.upd.foldl (fun _ _ hs => hs.pressRest)

theorem State.Keeps.pressIn (hs : s₀.Keeps s) : s₀.Keeps s.pressIn :=
  .foldl (hs.foldl (fun _ _ hs => .ite hs.pressBack (.ite (.ite hs.pressOut hs.upd.pressBack) hs))) (fun _ _ hs => .ite hs.setF
    hs)

theorem State.Keeps.pressRequest {f} (hs : s₀.Keeps s) (hf : ∀ x u, s₀.Keeps u → s₀.Keeps (f x u)) :
    s₀.Keeps (s.pressRequest f) := by
  unfold State.pressRequest
  split
  · exact hs
  · exact .ite hs.stat (hf _ _ hs)

theorem State.Keeps.pressQueue {lane restore} (hs : s₀.Keeps s) : s₀.Keeps (s.pressQueue lane restore) :=
  hs.stat.setF.setF.queueTest

theorem State.Keeps.execPressLaneTest (hs : s₀.Keeps s) : s₀.Goes (execPressLaneTest s) :=
  .next (hs.pressRequest (fun _ _ hs => hs.pressQueue))

theorem State.Keeps.execPressLaneRestore (hs : s₀.Keeps s) : s₀.Goes (execPressLaneRestore s) :=
  .next (hs.pressRequest (fun _ _ hs => .ite hs.pressQueue hs.stat))

theorem State.Keeps.pressLaneFail {lane} (hs : s₀.Keeps s) : s₀.Keeps (s.pressLaneFail lane) :=
  .ite hs (.ite hs.upd.satF.pressOut.upd hs.upd.satF.pressOut)

theorem State.Keeps.pressWithdraw {lane} (hs : s₀.Keeps s) : s₀.Keeps (s.pressWithdraw lane) :=
  .ite hs.pressDraining (.ite hs.setF.setF.pressStandIn.pressRecount (.ite hs.setF.setF.pressRecount hs.setF))

theorem State.Keeps.pressTransient {lane} (hs : s₀.Keeps s) : s₀.Keeps (s.pressTransient lane) :=
  .ite hs.upd.pressRetire hs.upd

theorem State.Keeps.pressTestDone {r pass} (hs : s₀.Keeps s) : s₀.Keeps (s.pressTestDone r pass) :=
  have h2 := State.Keeps.ite (State.Keeps.ite hs.setF.pressBack hs.setF.pressRetire) (State.Keeps.ite hs.setF.pressBack hs.setF)
  have h3 := State.Keeps.ite h2.setF h2
  .ite h3.queueTest (.ite h3.pressTransient h3)

theorem State.Keeps.streamClear {n} (hs : s₀.Keeps s) : s₀.Keeps (s.streamClear n) :=
  hs.setF.setF.setF.foldl (fun _ _ hs => hs.setF.upd)

theorem State.Keeps.streamOpenVol {v} (hs : s₀.Keeps s) : s₀.Keeps (s.streamOpenVol v) :=
  .setF (.streamClear (.upd (.ite hs hs.setF)))

theorem State.Keeps.streamOpenTake {take vol} (hs : s₀.Keeps s) : s₀.Keeps (s.streamOpenTake take vol) :=
  hs.streamClear.setF.setF.setF.setF.upd.setF.setF

theorem State.Keeps.streamClose {n} (hs : s₀.Keeps s) : s₀.Keeps (s.streamClose n) := .ite hs.upd hs.upd.setF

theorem State.Keeps.streamCfgWrite {v} (hs : s₀.Keeps s) : s₀.Keeps (s.streamCfgWrite v) :=
  .ite hs.answer (.ite hs.answer (.ite hs.stat (.ite hs.stat.setF.setF.setF.setF.setF.upd
    hs.stat.setF.setF.setF.setF.setF.upd.setF.tick)))

theorem State.Keeps.execPressStreamCfgWrite {v} (hs : s₀.Keeps s) : s₀.Goes (execPressStreamCfgWrite v s) :=
  .next hs.streamCfgWrite

theorem State.Keeps.streamTarget {n t} (hs : s₀.Keeps s) : s₀.Keeps (s.streamTarget n t).2 :=
  .iteSnd hs (.iteSnd hs (.iteSnd hs hs.setF.setF.tick))

theorem State.Keeps.adaptStream {n} (hs : s₀.Keeps s) : s₀.Keeps (s.adaptStream n) :=
  .ite hs.upd (.ite hs.upd (.ite hs.upd.streamTarget (.ite hs.upd.streamTarget hs.upd)))

theorem State.Keeps.execPressAdaptWindow (hs : s₀.Keeps s) : s₀.Goes (execPressAdaptWindow s) :=
  .next (hs.foldl (fun _ _ hs => hs.adaptStream))

theorem State.Keeps.pressLastFault {tag code lane} (hs : s₀.Keeps s) : s₀.Keeps (s.pressLastFault tag code lane) :=
  hs.setF.setF.setF.setN.tick

theorem State.Keeps.pressMismatch {tag stream coder checker}
    (hs : s₀.Keeps s) : s₀.Keeps (s.pressMismatch tag stream coder checker) :=
  hs.addN.satF.satF.log.pressLastFault.queueTest

theorem State.Keeps.pressCDone {e o tag x mism lanes} (hs : s₀.Keeps s) : s₀.Keeps (s.pressCDone e o tag x mism lanes).2 :=
  have h1 := State.Keeps.ite hs.pressMismatch hs
  have h2 := State.Keeps.ite h1 h1.addF
  .iteSnd h2.addF (.addF (.ite h2.addF.wrView.wrView.addN.countEv.addF h2.addF.wrView.wrView.addN))

theorem State.Keeps.pressCStep {e o tag env} (hs : s₀.Keeps s) : s₀.Keeps (s.pressCStep e o tag env).2 := by
  unfold State.pressCStep
  split
  · exact hs.pressCDone
  · exact .iteSnd hs (.iteSnd hs (.iteSnd (.iteSnd hs.pressCDone hs.upd.pressRest) hs.pressCDone))

theorem State.Keeps.watchEntry {b} (hs : s₀.Keeps s) : s₀.Keeps (s.watchEntry b) := .ite hs hs.upd

theorem State.Keeps.pressDDone {e c o tag lane} (hs : s₀.Keeps s) : s₀.Keeps (s.pressDDone e c o tag lane).2 := by
  unfold State.pressDDone
  dsimp only
  split
  · exact hs.addN.wrView
  · exact hs.addN.wrView.addN.pressLastFault.log.watchEntry

theorem State.Keeps.pressDStep {e c o tag} (hs : s₀.Keeps s) : s₀.Keeps (s.pressDStep e c o tag).2 := by
  unfold State.pressDStep
  split
  · exact hs
  · exact .iteSnd hs (.iteSnd hs hs.pressDDone)

theorem State.Keeps.pressJoin {e kind} (hs : s₀.Keeps s) : s₀.Keeps (s.pressJoin e kind) := hs.upd.pressServe

theorem State.Keeps.execPressC {e rd da db ra imm} (hs : s₀.Keeps s) : s₀.Goes (execPressC e rd da db ra imm s) :=
  .next (hs.accelIssue.thenIf (fun _ hs => .ite hs hs.pressJoin))

theorem State.Keeps.execPressD {e rd da db ra imm} (hs : s₀.Keeps s) : s₀.Goes (execPressD e rd da db ra imm s) :=
  .next (hs.accelIssue.thenIf (fun _ hs => hs.pressJoin))

/-! #### Docket -/

theorem State.Keeps.putTag {t v} (hs : s₀.Keeps s) : s₀.Keeps (s.putTag t v) := hs.upd

theorem State.Keeps.putQueue {q v} (hs : s₀.Keeps s) : s₀.Keeps (s.putQueue q v) := hs.upd

theorem State.Keeps.createQueue {kind depth cls source ctrl qid x} (hs : s₀.Keeps s)
    (h : s.createQueue kind depth cls source ctrl qid = .ok x) : s₀.Keeps x.2 := by
  unfold State.createQueue at h
  split at h
  · cases h
  · split at h
    · cases h
    · cases h; exact hs.putQueue

theorem State.Keeps.putCtrl {c v} (hs : s₀.Keeps s) : s₀.Keeps (s.putCtrl c v) := hs.upd

theorem State.Keeps.putTake {k v} (hs : s₀.Keeps s) : s₀.Keeps (s.putTake k v) := hs.upd

theorem State.Keeps.putVol {v x} (hs : s₀.Keeps s) : s₀.Keeps (s.putVol v x) := hs.upd

theorem State.Keeps.mirrorTag {t} (hs : s₀.Keeps s) : s₀.Keeps (s.mirrorTag t) := hs.mirror

theorem State.Keeps.writeRecord {t} (hs : s₀.Keeps s) : s₀.Keeps (s.writeRecord t) := hs.wrBytes.mirrorTag

theorem State.Keeps.tollPass {t} (hs : s₀.Keeps s) : s₀.Keeps (s.tollPass t) := hs.putTag.addF

theorem State.Keeps.tokensPay {ingest read} (hs : s₀.Keeps s) : s₀.Keeps (s.tokensPay ingest read) := hs.upd

theorem State.Keeps.tollPay {g} (hs : s₀.Keeps s) : s₀.Keeps (s.tollPay g) := by
  unfold State.tollPay
  dsimp only
  split
  · exact .putTake (.ite hs.tokensPay hs.tokensPay)
  · exact .ite hs.tokensPay hs.tokensPay

theorem State.Keeps.tollOne {l t} (hl : s₀.Keeps l.2) : s₀.Keeps (State.tollOne l t).2 :=
  .iteSnd hl.tollPass (.iteSnd hl.tollPay.tollPass hl.putTag)

theorem State.Keeps.tollWork {cls floor wr rd x} (hs : s₀.Keeps s) (h : s.tollWork cls floor wr rd = some x) : s₀.Keeps x := by
  unfold State.tollWork at h
  extract_lets pass onFloor at h
  split at h
  · cases h; exact hs.upd.addF
  · split at h
    · cases h; exact hs.tokensPay.addF
    · cases h

theorem State.Keeps.tollServe (hs : s₀.Keeps s) : s₀.Keeps s.tollServe :=
  .foldlSnd hs fun _ _ hs => .foldlSnd hs fun _ _ hs => .tollOne hs

theorem State.Keeps.execTollWindow (hs : s₀.Keeps s) : s₀.Goes (execTollWindow s) :=
  .next (.tollServe (hs.upd.foldl (fun _ _ hs => hs.putTake)))

theorem State.Keeps.grainRelease {k frame grain} (hs : s₀.Keeps s) : s₀.Keeps (s.grainRelease k frame grain) :=
  hs.putTake.mirror

theorem State.Keeps.mirrorTake {k} (hs : s₀.Keeps s) : s₀.Keeps (s.mirrorTake k) := hs.mirror

theorem State.Keeps.frameWritten {vol leaf n} (hs : s₀.Keeps s) : s₀.Keeps (s.frameWritten vol leaf n) :=
  hs.foldl (fun _ _ hs => .ite hs.putTake hs.putTake.mirrorTake)

theorem State.Keeps.grainFailed {g st det} (hs : s₀.Keeps s) : s₀.Keeps (s.grainFailed g st det) :=
  .ite hs.upd.grainRelease.alarm hs.putTake

theorem State.Keeps.imageEnd {g st det} (hs : s₀.Keeps s) : s₀.Keeps (s.imageEnd g st det) := .ite hs.upd hs.alarm

theorem State.Keeps.logError {t g st det} (hs : s₀.Keeps s) : s₀.Keeps (s.logError t g st det) :=
  .tick (.setN (.upd (.ite hs.putQueue.putCtrl hs.putQueue)))

theorem State.Keeps.freezeNotice {q} (hs : s₀.Keeps s) : s₀.Keeps (s.freezeNotice q) := by
  unfold State.freezeNotice
  refine .ite ?_ (.ite hs.carSend hs)
  dsimp only
  split
  · exact hs.putCtrl
  · exact hs.putCtrl.putTag.send

theorem State.Keeps.tagHold {t} (hs : s₀.Keeps s) : s₀.Keeps (s.tagHold t) := hs.putTag

theorem State.Keeps.freezeQueue {q byError} (hs : s₀.Keeps s) : s₀.Keeps (s.freezeQueue q byError) :=
  .ite hs (.freezeNotice (hs.putQueue.foldl (fun _ _ hs => .ite hs.tagHold hs)))

theorem State.Keeps.offer {t g} (hs : s₀.Keeps s) : s₀.Keeps (s.offer t g) := .ite hs.carSend hs

theorem State.Keeps.moveCheck (hs : s₀.Keeps s) : s₀.Keeps s.moveCheck := by
  unfold State.moveCheck
  split
  · exact hs
  · exact .ite hs.upd.sendAct hs

theorem State.Keeps.aerDrop {t} (hs : s₀.Keeps s) : s₀.Keeps (s.aerDrop t) := .ite hs.putCtrl hs

theorem State.Keeps.docketEnd {t st0 det0} (hs : s₀.Keeps s) : s₀.Keeps (s.docketEnd t st0 det0) :=
  have h1 := hs.aerDrop.putTag.mirrorTag
  have h2 := State.Keeps.ite h1.logError h1
  have h3 := State.Keeps.ite h2.addF (State.Keeps.ite h2.addF (State.Keeps.ite h2.addF h2))
  have h4 := State.Keeps.ite (State.Keeps.ite (State.Keeps.grainRelease (State.Keeps.ite h3.putTake h3)) h3.grainFailed)
    (State.Keeps.ite h3.imageEnd (State.Keeps.ite h3.frameWritten h3))
  have h6 := State.Keeps.ite h4.freezeQueue h4
  .moveCheck (.ite h6.putTag h6.offer.tollServe)

theorem State.Keeps.deleteQueue {q} (hs : s₀.Keeps s) : s₀.Keeps (s.deleteQueue q) :=
  .foldl (hs.putQueue.foldl (fun _ _ hs => hs.putTag)) (fun _ _ hs => .ite hs hs.docketEnd)

theorem State.Keeps.frameAccept {k frame grain second} (hs : s₀.Keeps s) : s₀.Keeps (s.frameAccept k frame grain second) :=
  have h1 := hs.putTag.writeRecord.addN.countEv.tick
  .ite h1.docketEnd h1

theorem State.Keeps.frameGen {k l} (hs : s₀.Keeps s) : s₀.Keeps (s.frameGen k l) := by
  induction l generalizing s with
  | nil => exact hs
  | cons x r ih => exact .ite (ih hs) (.ite (ih hs.putTake.frameAccept) hs)

theorem State.Keeps.frameGenAll {k} (hs : s₀.Keeps s) : s₀.Keeps (s.frameGenAll k) := hs.frameGen.tollServe

theorem State.Keeps.activateQueue {q} (hs : s₀.Keeps s) : s₀.Keeps (s.activateQueue q) := by
  unfold State.activateQueue
  split
  · exact .frameGenAll (.putTake (hs.putQueue.foldl (fun _ _ hs => .ite hs.putTag hs)))
  · exact .tollServe (hs.putQueue.foldl (fun _ _ hs => .ite hs.putTag hs))

theorem State.Keeps.takeEnded {k} (hs : s₀.Keeps s) : s₀.Keeps (s.takeEnded k) :=
  .ite hs.putTake.deleteQueue.streamClose hs

theorem State.Keeps.resetDone {q} (hs : s₀.Keeps s) : s₀.Keeps (s.resetDone q) := .ite hs.activateQueue hs

theorem State.Keeps.lateReplies {l} (hs : s₀.Keeps s) : s₀.Keeps (s.lateReplies l) := by
  unfold State.lateReplies
  refine hs.foldl (fun _ _ hs => ?_)
  split
  · exact hs.carSend
  · exact .ite hs.magSend hs
  · exact hs.putTag
  · exact hs.setF.setF
  · exact hs

theorem State.Keeps.magLatch {port g} (hs : s₀.Keeps s) : s₀.Keeps (s.magLatch port g) :=
  .ite hs.putMagTask hs.magStatus

theorem State.Keeps.qpAcked {q} (hs : s₀.Keeps s) : s₀.Keeps (s.qpAcked q) := .ite hs hs.upd

theorem State.Keeps.handOff {t} (hs : s₀.Keeps s) : s₀.Keeps (s.handOff t) := by
  unfold State.handOff
  refine .ite ?_ hs
  dsimp only
  split
  · exact .takeEnded (.frameGenAll (.resetDone (.lateReplies (.ite hs.putTag.mirrorTag.addN.qpAcked.send (.ite (.ite
    hs.putTag.mirrorTag.addN.magLatch.activateQueue hs.putTag.mirrorTag.addN.magLatch) (.ite
      hs.putTag.mirrorTag.addN.activateQueue hs.putTag.mirrorTag.addN))))))
  · exact .resetDone (.lateReplies (.ite hs.putTag.mirrorTag.addN.qpAcked.send (.ite (.ite
    hs.putTag.mirrorTag.addN.magLatch.activateQueue hs.putTag.mirrorTag.addN.magLatch) (.ite
      hs.putTag.mirrorTag.addN.activateQueue hs.putTag.mirrorTag.addN))))

theorem State.Keeps.overDepth {q g0} (hs : s₀.Keeps s) : s₀.Keeps (s.overDepth q g0) :=
  .ite hs.draw.draw.logError.addN.send (.ite hs.draw.draw.logError.addN.send.freezeQueue (.ite
    hs.draw.draw.logError.addN.carSend.freezeQueue (.ite hs.draw.draw.logError.addN.magStatus
      hs.draw.draw.logError.addN.freezeQueue)))

theorem State.Keeps.accept {q g1 st1 det} (hs : s₀.Keeps s) : s₀.Keeps (s.accept q g1 st1 det).2 := by
  unfold State.accept
  extract_lets _ _ st _ _ t _ s1
  have h1 : s₀.Keeps s1 := hs.putTag.tick.addN.countEv.writeRecord
  clear_value s1 t st
  refine .iteSnd ?_ (.iteSnd ?_ (.iteSnd ?_ ?_)) <;> dsimp only
  · exact hs
  · exact hs.overDepth
  · exact h1.docketEnd
  · exact h1.tollServe

theorem State.Keeps.placeArrived {t mb at_ l} (hs : s₀.Keeps s) : s₀.Keeps (s.placeArrived t mb at_ l) := by
  induction l generalizing s at_ with
  | nil => exact hs
  | cons b r ih => exact ih hs.wrB

theorem State.Keeps.arrivedWhole {t} (hs : s₀.Keeps s) : s₀.Keeps (s.arrivedWhole t) :=
  .tollServe (.putTag (.ite hs (.ite (hs.foldl (fun _ _ hs => hs.wrBytes)) hs)))

theorem State.Keeps.leavesCheck {t n} (hs : s₀.Keeps s) : s₀.Keeps (s.leavesCheck t n) := .ite hs hs.putTag.addN

theorem State.Keeps.dataArrive {t data closed} (hs : s₀.Keeps s) : s₀.Keeps (s.dataArrive t data closed) :=
  .ite (
    have h1 := hs.placeArrived.putTag.writeRecord.leavesCheck
    .ite h1.docketEnd (.ite h1.arrivedWhole h1)) (.ite hs.putTag.writeRecord.docketEnd hs)

theorem State.Keeps.execDataArrived {tag data closed} (hs : s₀.Keeps s) : s₀.Goes (execDataArrived tag data closed s) :=
  .next (.ite hs hs.dataArrive)

theorem State.Keeps.abortTag {t st} (hs : s₀.Keeps s) : s₀.Keeps (s.abortTag t st).2 :=
  .iteSnd hs (.iteSnd (.iteSnd (.ite hs hs.putTag) hs.putTag.docketEnd) (.iteSnd hs hs))

theorem State.Keeps.abortLater {t r} (hs : s₀.Keeps s) : s₀.Keeps (s.abortLater t r) := hs.putTag

theorem State.Keeps.execDocketAbortGo {tag} (hs : s₀.Keeps s) : s₀.Goes (execDocketAbortGo tag s) :=
  .next (.ite hs.setF.abortTag.abortLater.answer hs.setF.abortTag.setF.stat)

theorem State.Keeps.resetQueue {q} (hs : s₀.Keeps s) : s₀.Keeps (s.resetQueue q) :=
  .resetDone (hs.putQueue.foldl (fun _ _ hs => hs.docketEnd))

theorem State.Keeps.execDocketQueueResume (hs : s₀.Keeps s) : s₀.Goes (execDocketQueueResume s) :=
  .next (.ite hs.activateQueue.stat hs.stat)

theorem State.Keeps.execDocketQueueReset (hs : s₀.Keeps s) : s₀.Goes (execDocketQueueReset s) :=
  .next (.ite hs.resetQueue.stat hs.stat)

theorem State.Keeps.execDocketQueueFreeze (hs : s₀.Keeps s) : s₀.Goes (execDocketQueueFreeze s) :=
  .next hs.freezeQueue.stat

theorem State.Keeps.execBulkHoldExpiry {tag} (hs : s₀.Keeps s) : s₀.Goes (execBulkHoldExpiry tag s) :=
  .next (.ite hs.draw.docketEnd hs)

/-! #### Toll -/

theorem State.Keeps.regCreate {kind base bytes access peer}
    (hs : s₀.Keeps s) : s₀.Keeps (s.regCreate kind base bytes access peer).2 :=
  .iteSnd hs hs.draw.setF.setF.setF.setF.setF.setF.setF

theorem State.Keeps.regRevoke {i} (hs : s₀.Keeps s) : s₀.Keeps (s.regRevoke i) := hs.setF.setF.tick

theorem State.Keeps.magClass {code} (hs : s₀.Keeps s) : s₀.Keeps (s.magClass code) := .ite hs hs.putQueue

theorem State.Keeps.grant {block r d route peer ref} (hs : s₀.Keeps s) : s₀.Keeps (s.grant block r d route peer ref).2 := by
  unfold State.grant
  dsimp only
  split
  · exact hs
  · next h =>
    exact
      have h1 := hs.createQueue h
      .tick (.magClass (.mirrorTake (.addF (.addF (.streamOpenTake (.putTake (.iteSnd h1.regCreate h1)))))))

theorem State.Keeps.grantExtend {r d} (hs : s₀.Keeps s) : s₀.Keeps (s.grantExtend r d).2 :=
  hs.putQueue.putTake.mirrorTake.tick

theorem State.Keeps.armAnswer {port reg st g} (hs : s₀.Keeps s) : s₀.Keeps (s.armAnswer port reg st g) :=
  .ite hs.putMagTask.docketEnd hs

theorem State.Keeps.takeReply {route peer ref st g} (hs : s₀.Keeps s) : s₀.Keeps (s.takeReply route peer ref st g) := by
  unfold State.takeReply
  split
  · exact .stat (.setF (hs.foldl (fun _ _ hs => hs.setN)))
  · exact hs.carSend
  · exact hs.armAnswer

theorem State.Keeps.takeCommit {q r d} (hs : s₀.Keeps s) : s₀.Keeps (s.takeCommit q r d) :=
  .ite (.takeReply (.iteSnd hs.grantExtend hs.grant)) hs.takeReply.tick

theorem State.Keeps.takeDecide {q} (hs : s₀.Keeps s) : s₀.Keeps (s.takeDecide q) :=
  .ite hs.takeReply.tick (.ite hs.upd (.ite (.sendAct (.ite hs.upd.setF hs.upd)) hs.takeCommit))

theorem State.Keeps.takeNext (hs : s₀.Keeps s) : s₀.Keeps s.takeNext := hs.upd.foldl (fun _ _ hs => hs.takeDecide)

theorem State.Keeps.soloEnd {ok} (hs : s₀.Keeps s) : s₀.Keeps (s.soloEnd ok) := by
  unfold State.soloEnd
  split
  · exact hs
  · exact .takeNext (.ite hs.upd.takeCommit hs.upd.takeCommit)

theorem State.Keeps.takeRelease {k} (hs : s₀.Keeps s) : s₀.Keeps (s.takeRelease k) :=
  .putTake (.setF (.setF (.ite hs hs.regRevoke)))

theorem State.Keeps.takeGone {k} (hs : s₀.Keeps s) : s₀.Keeps (s.takeGone k) := hs.putTake.streamClose

theorem State.Keeps.takeClose {k} (hs : s₀.Keeps s) : s₀.Keeps (s.takeClose k) :=
  .ite hs.takeRelease.putTake.mirrorTake.magClass.takeEnded.tick (.ite hs.takeGone hs)

theorem State.Keeps.execTollReqGo (hs : s₀.Keeps s) : s₀.Goes (execTollReqGo s) :=
  .next (.ite hs.stat (.ite hs hs.takeDecide))

theorem State.Keeps.execTollReqClose (hs : s₀.Keeps s) : s₀.Goes (execTollReqClose s) :=
  .next (.ite hs.stat (.ite hs.takeClose.stat hs.stat))

theorem State.Keeps.execArmWindowExpiry {take} (hs : s₀.Keeps s) : s₀.Goes (execArmWindowExpiry take s) :=
  .next (.ite hs.takeRelease.deleteQueue.putTake.mirrorTake.magClass hs)

theorem State.Keeps.execKeptUntilExpiry {take} (hs : s₀.Keeps s) : s₀.Goes (execKeptUntilExpiry take s) :=
  .next (.ite hs.putTake.putQueue.mirrorTake hs)

theorem State.Keeps.execLapsedExpiry {take} (hs : s₀.Keeps s) : s₀.Goes (execLapsedExpiry take s) :=
  .next (.ite hs.takeGone hs)

theorem State.Keeps.execSoloTestTimeout (hs : s₀.Keeps s) : s₀.Goes (execSoloTestTimeout s) := .next hs.soloEnd

theorem State.Keeps.takeInfoRead {k} (hs : s₀.Keeps s) : s₀.Keeps (s.takeInfoRead k).2 := .ite hs.takeGone hs

theorem State.Keeps.cutTake {k new mask capSeq imm} (hs : s₀.Keeps s) : s₀.Keeps (s.cutTake k new mask capSeq imm) := by
  unfold State.cutTake
  refine
    have h2 : s₀.Keeps _ := ?_
    .mirrorTake (.ite h2.log.alarm h2.log)
  split
  · exact hs.putTake.satF.carSend
  · exact .ite hs.putTake.satF.magSend hs.putTake.satF
  · exact hs.putTake.satF

theorem State.Keeps.cutWalk {capSeq l kept} (hs : s₀.Keeps s) : s₀.Keeps (State.cutWalk capSeq l kept s) := by
  induction l generalizing s kept with
  | nil => exact hs
  | cons k r ih => exact .ite (ih hs) (ih (.ite hs.cutTake hs))

theorem State.Keeps.retest (hs : s₀.Keeps s) : s₀.Keeps s.retest := .ite hs hs.cutWalk

theorem State.Keeps.cutAll {mask} (hs : s₀.Keeps s) : s₀.Keeps (s.cutAll mask) := hs.foldl (fun _ _ hs => hs.cutTake)

theorem State.Keeps.tollMirror {c} (hs : s₀.Keeps s) : s₀.Keeps (s.tollMirror c) :=
  hs.upd.setN.setN.setN.setN.setN.setN.setF.setF.setF.setF.setN.setN.tick

theorem State.Keeps.tollCap {c} (hs : s₀.Keeps s) : s₀.Keeps (s.tollCap c) :=
  have h2 := State.Keeps.ite hs.tollMirror.sendAct hs.tollMirror
  .ite h2 h2.retest

/-! #### Steward -/

theorem State.Keeps.putExtent {k x} (hs : s₀.Keeps s) : s₀.Keeps (s.putExtent k x) := hs.upd

theorem State.Keeps.condemn {k x} (hs : s₀.Keeps s) : s₀.Keeps (s.condemn k x) := .ite hs.upd hs

theorem State.Keeps.nameAdd {k} (hs : s₀.Keeps s) : s₀.Keeps (s.nameAdd k) := .ite hs hs.putExtent

theorem State.Keeps.nameDrop {k} (hs : s₀.Keeps s) : s₀.Keeps (s.nameDrop k) := .ite hs hs.putExtent.condemn

theorem State.Keeps.filterAdd {k} (hs : s₀.Keeps s) : s₀.Keeps (s.filterAdd k) := hs.upd

theorem State.Keeps.filterBuild {c} (hs : s₀.Keeps s) : s₀.Keeps (s.filterBuild c) :=
  hs.upd.foldl (fun _ _ hs => hs.filterAdd)

theorem State.Keeps.hotTouch {k} (hs : s₀.Keeps s) : s₀.Keeps (s.hotTouch k) := hs.upd

theorem State.Keeps.putRec {k r} (hs : s₀.Keeps s) : s₀.Keeps (s.putRec k r) := .ite hs.upd.filterAdd hs.upd

theorem State.Keeps.slotsFree {sheaf} (hs : s₀.Keeps s) : s₀.Keeps (s.slotsFree sheaf) :=
  .upd (hs.foldl (fun _ _ hs => hs.putRec))

theorem State.Keeps.sieveApply {o} (hs : s₀.Keeps s) : s₀.Keeps (s.sieveApply o) := by
  unfold State.sieveApply
  split
  · exact hs.putRec.putExtent
  · exact .ite hs hs.putRec
  · exact .ite hs hs.putRec.putExtent
  · exact .ite hs (.ite hs.putRec.putExtent hs.putRec)

theorem State.Keeps.sieveUndo {o} (hs : s₀.Keeps s) : s₀.Keeps (s.sieveUndo o) := hs.sieveApply

theorem State.Keeps.putDie {k d} (hs : s₀.Keeps s) : s₀.Keeps (s.putDie k d) := hs.upd

theorem State.Keeps.putDb {c d} (hs : s₀.Keeps s) : s₀.Keeps (s.putDb c d) := hs.upd

theorem State.Keeps.progSend {c kind chunk name loc n data}
    (hs : s₀.Keeps s) : s₀.Keeps (s.progSend c kind chunk name loc n data) :=
  hs.upd.send

theorem State.Keeps.dbFlush {c} (hs : s₀.Keeps s) : s₀.Keeps (s.dbFlush c) := by
  unfold State.dbFlush
  dsimp only
  split
  · exact hs
  · exact hs.putDb.foldl (fun _ _ hs => hs.progSend)

theorem State.Keeps.dbAppend {c typ body} (hs : s₀.Keeps s) : s₀.Keeps (s.dbAppend c typ body) :=
  .addF (.setF (.putDb (.ite hs.dbFlush hs)))

theorem State.Keeps.dbCommit {c l} (hs : s₀.Keeps s) : s₀.Keeps (s.dbCommit c l) :=
  .mirror (hs.foldl (fun _ _ hs => hs.dbAppend))

theorem State.Keeps.putSheaf {k x} (hs : s₀.Keeps s) : s₀.Keeps (s.putSheaf k x) := hs.upd

theorem State.Keeps.ledgerTo {c seq loc} (hs : s₀.Keeps s) : s₀.Keeps (s.ledgerTo c seq loc) := hs.progSend

theorem State.Keeps.ledgerNote {k} (hs : s₀.Keeps s) : s₀.Keeps (s.ledgerNote k) := hs.upd.mirror

theorem State.Keeps.chunkAlloc {c die chunk} (hs : s₀.Keeps s) : s₀.Keeps (s.chunkAlloc c die chunk).2 := by
  unfold State.chunkAlloc
  dsimp only
  refine .iteSnd (.ite hs.putDie.upd hs.putDie) ?_
  split
  · exact hs
  · dsimp only
    exact .ite hs.dbCommit.putDie.upd hs.dbCommit.putDie

theorem State.Keeps.chunkAll {c sheaf l pos} (hs : s₀.Keeps s) : s₀.Keeps (State.chunkAll c sheaf l pos s).2 := by
  induction l generalizing s pos with
  | nil => exact hs
  | cons die r ih => exact ih hs.chunkAlloc

theorem State.Keeps.sheafOpen {c fr x} (hs : s₀.Keeps s) (h : s.sheafOpen c fr = some x) : s₀.Keeps x := by
  unfold State.sheafOpen at h
  split at h
  · cases h
  · split at h
    · cases h
    · cases h; exact hs.chunkAll.upd.putSheaf.ledgerNote

theorem State.Keeps.progAt {k i loc} (hs : s₀.Keeps s) : s₀.Keeps (s.progAt k i loc) := hs.progSend.putSheaf

theorem State.Keeps.progChunk {k i} (hs : s₀.Keeps s) : s₀.Keeps (s.progChunk k i) := hs.progAt

theorem State.Keeps.packTo {k now} (hs : s₀.Keeps s) : s₀.Keeps (s.packTo k now) :=
  .ite (hs.putSheaf.upd.foldl (fun _ _ hs => hs.progChunk)) (.ite hs.putSheaf.upd (hs.putSheaf.foldl
    (fun _ _ hs => hs.progChunk)))

theorem State.Keeps.padSheaf {c fr} (hs : s₀.Keeps s) : s₀.Keeps (s.padSheaf c fr) := by
  unfold State.padSheaf
  split
  · exact hs
  · exact hs.packTo.upd

theorem State.Keeps.slotAlloc {c fr n take kind x} (hs : s₀.Keeps s) (h : s.slotAlloc c fr n take kind = some x) :
    s₀.Keeps x.2 := by
  unfold State.slotAlloc at h
  dsimp only at h
  split at h
  · cases h
  · next t ht =>
    have h1 : s₀.Keeps t := by
      split at ht
      · cases ht; exact hs
      · split at ht
        · cases ht
        · exact hs.padSheaf.sheafOpen ht
    cases h
    exact .ite h1.putSheaf.packTo.upd h1.putSheaf.packTo

theorem State.Keeps.pageExtent {c slot vol epoch} (hs : s₀.Keeps s) : s₀.Keeps (s.pageExtent c slot vol epoch) :=
  hs.putExtent

theorem State.Keeps.pageMoved {p d} (hs : s₀.Keeps s) : s₀.Keeps (s.pageMoved p d) := hs.pageExtent.upd

theorem State.Keeps.pageWrite {p} (hs : s₀.Keeps s) : s₀.Keeps (s.pageWrite p) := by
  unfold State.pageWrite
  dsimp only
  split
  · exact hs
  · next h => exact have h1 := (hs.slotAlloc h).dbCommit.pageMoved.addN; .ite h1.upd h1.upd

theorem State.Keeps.cacheRoom {keep n} (hs : s₀.Keeps s) : s₀.Keeps (State.cacheRoom keep n s) := by
  induction n generalizing s with
  | zero => exact hs
  | succ n ih =>
    unfold State.cacheRoom
    refine .ite hs ?_
    dsimp only
    split
    · exact ih hs.upd
    · exact .ite hs.pageWrite (ih hs.pageWrite.upd)

theorem State.Keeps.pageTouch {p} (hs : s₀.Keeps s) : s₀.Keeps (s.pageTouch p) := hs.upd.cacheRoom

theorem State.Keeps.pageDirty {p} (hs : s₀.Keeps s) : s₀.Keeps (s.pageDirty p) := hs.pageTouch.upd

theorem State.Keeps.mapFetch {g} (hs : s₀.Keeps s) : s₀.Keeps (s.mapFetch g) := by
  unfold State.mapFetch
  split
  · exact hs.pageTouch.pageTouch.pageTouch
  · exact hs.pageTouch.pageTouch

theorem State.Keeps.mapPut {c u} (hs : s₀.Keeps s) : s₀.Keeps (s.mapPut c u).2 :=
  .foldl (.ite hs.upd.addF.setF (.ite hs.upd.setF hs.upd)) (fun _ _ hs => hs.nameAdd)

theorem State.Keeps.mapPutAll {c l} (hs : s₀.Keeps s) : s₀.Keeps (State.mapPutAll c l s).2 := by
  induction l generalizing s with
  | nil => exact hs
  | cons u r ih => exact ih hs.mapPut

theorem State.Keeps.indexAdd {c first stub xs} (hs : s₀.Keeps s) : s₀.Keeps (s.indexAdd c first stub xs) :=
  .ite hs hs.upd

theorem State.Keeps.indexSettle (hs : s₀.Keeps s) : s₀.Keeps s.indexSettle :=
  hs.upd.foldl (fun _ _ hs => hs.foldl (fun _ _ hs => hs.pageDirty))

theorem State.Keeps.namePlaces {entries lsn} (hs : s₀.Keeps s) : s₀.Keeps (s.namePlaces entries lsn) := hs.upd

theorem State.Keeps.putLink {k l} (hs : s₀.Keeps s) : s₀.Keeps (s.putLink k l) := hs.upd

theorem State.Keeps.catchUp {c vol addr} (hs : s₀.Keeps s) : s₀.Keeps (s.catchUp c vol addr) :=
  hs.foldl (fun _ _ hs => .ite hs.putLink.dbCommit hs)

theorem State.Keeps.commitGroup {c tag vol us refs} (hs : s₀.Keeps s) : s₀.Keeps (s.commitGroup c tag vol us refs) :=
  .indexSettle (.foldl (.addN (.namePlaces (.foldl (.foldl (hs.tick.mapPutAll.dbCommit.indexAdd.foldl
    (fun _ _ hs => hs.sieveUndo)) (fun _ _ hs => hs.sieveApply)) (fun _ _ hs => hs.nameDrop)))) (fun _ _ hs => hs.catchUp))

theorem State.Keeps.discardGroup {key} (hs : s₀.Keeps s) : s₀.Keeps (s.discardGroup key) :=
  have h2 := State.Keeps.foldl (hs.foldl (fun _ _ hs => hs.sieveUndo)) (fun _ _ hs => hs.putExtent)
  .ite h2.upd.addN h2.upd

theorem State.Keeps.sweepClean (hs : s₀.Keeps s) : s₀.Keeps s.sweepClean := .ite hs hs.upd.mirror

/-! #### Checkpoint -/

theorem State.Keeps.pagesPut {c kind vol epoch n} (hs : s₀.Keeps s) : s₀.Keeps (State.pagesPut c kind vol epoch n s).2 := by
  induction n generalizing s with
  | zero => exact hs
  | succ n ih =>
    unfold State.pagesPut
    split
    · exact hs
    · next h => exact ih (hs.slotAlloc h).pageExtent

theorem State.Keeps.leave {l} (hs : s₀.Keeps s) : s₀.Keeps (s.leave l) := hs.upd

theorem State.Keeps.rootsWrite {c l} (hs : s₀.Keeps s) : s₀.Keeps (State.rootsWrite c l s).2 := by
  induction l generalizing s with
  | nil => exact hs
  | cons v r ih =>
    unfold State.rootsWrite
    exact ih hs.leave.pagesPut.upd

theorem State.Keeps.snapRoots {c} (hs : s₀.Keeps s) : s₀.Keeps (s.snapRoots c) :=
  hs.foldl (fun _ _ hs => .upd (hs.pagesPut.foldl (fun _ _ hs => hs.putExtent)))

theorem State.Keeps.bucketWrite {b} (hs : s₀.Keeps s) : s₀.Keeps (s.bucketWrite b) :=
  have h2 := hs.pagesPut.foldl (fun _ _ hs => hs.leave.upd)
  .ite h2.upd h2

theorem State.Keeps.pagesWrite {c dirs} (hs : s₀.Keeps s) : s₀.Keeps (s.pagesWrite c dirs) :=
  hs.foldl (fun _ _ hs => hs.pageWrite)

theorem State.Keeps.ckptStart {c} (hs : s₀.Keeps s) : s₀.Keeps (s.ckptStart c) :=
  .ite hs (.setF (.setF (.putDb (.dbCommit (.upd (.rootsWrite (.snapRoots (.pagesWrite (.pagesWrite (hs.foldl
    (fun _ _ hs => hs.bucketWrite)))))))))))

theorem State.Keeps.dbClose {c kind} (hs : s₀.Keeps s) : s₀.Keeps (s.dbClose c kind) := hs.dbCommit.tick

/-! #### Assay -/

theorem State.Keeps.assayRecount (hs : s₀.Keeps s) : s₀.Keeps s.assayRecount :=
  .foldl (.ite hs.setF.setF hs.setF) (fun _ _ hs => hs.setF)

theorem State.Keeps.assayShift {key} (hs : s₀.Keeps s) : s₀.Keeps (s.assayShift key) := by
  unfold State.assayShift
  refine .ite hs ?_
  split
  · exact hs
  · exact hs.upd.assayRecount

theorem State.Keeps.assayMove {lane} (hs : s₀.Keeps s) : s₀.Keeps (s.assayMove lane) :=
  hs.foldl (fun _ _ hs => hs.assayShift)

theorem State.Keeps.assayRetire {lane cause} (hs : s₀.Keeps s) : s₀.Keeps (s.assayRetire lane cause) :=
  have h2 := State.Keeps.ite hs.setF.setF.setF hs.setF
  .holdRestart (.assayRecount (.assayMove (.ite h2.satF h2)))

theorem State.Keeps.assayBack {lane} (hs : s₀.Keeps s) : s₀.Keeps (s.assayBack lane) := hs.setF.setF.setF

theorem State.Keeps.assayRequest {f} (hs : s₀.Keeps s) (hf : ∀ x u, s₀.Keeps u → s₀.Keeps (f x u)) :
    s₀.Keeps (s.assayRequest f) := .ite hs (.ite hs.stat (hf _ _ hs))

theorem State.Keeps.assayQueue {lane restore} (hs : s₀.Keeps s) : s₀.Keeps (s.assayQueue lane restore) :=
  hs.stat.setF.setF.queueTest

theorem State.Keeps.execAssayLaneTest (hs : s₀.Keeps s) : s₀.Goes (execAssayLaneTest s) :=
  .next (hs.assayRequest (fun _ _ hs => hs.assayQueue))

theorem State.Keeps.execAssayLaneRestore (hs : s₀.Keeps s) : s₀.Goes (execAssayLaneRestore s) :=
  .next (hs.assayRequest (fun _ _ hs => .ite hs.assayQueue hs.stat))

theorem State.Keeps.assayLaneFail {lane} (hs : s₀.Keeps s) : s₀.Keeps (s.assayLaneFail lane) := .ite hs.assayRetire hs

theorem State.Keeps.execAssayKatDue {lane} (hs : s₀.Keeps s) : s₀.Goes (execAssayKatDue lane s) :=
  .next (.ite hs.queueTest hs)

theorem State.Keeps.assayWithdraw {lane} (hs : s₀.Keeps s) : s₀.Keeps (s.assayWithdraw lane) :=
  .ite hs.setF.setF hs.setF

theorem State.Keeps.assayTestDone {r pass} (hs : s₀.Keeps s) : s₀.Keeps (s.assayTestDone r pass) :=
  have h2 := State.Keeps.ite (State.Keeps.ite hs.setF.setF hs.setF.assayRetire) (State.Keeps.ite hs.setF.assayBack hs.setF)
  .ite h2.setF h2

theorem State.Keeps.heldFree {key} (hs : s₀.Keeps s) : s₀.Keeps (s.heldFree key) := hs.upd.assayRecount

theorem State.Keeps.heldFreeAll {owner} (hs : s₀.Keeps s) : s₀.Keeps (s.heldFreeAll owner) :=
  hs.foldl (fun _ _ hs => hs.heldFree)

theorem State.Keeps.assayErr {tag st lane} (hs : s₀.Keeps s) : s₀.Keeps (s.assayErr tag st lane) :=
  hs.setF.setF.setF.setN.tick

theorem State.Keeps.assayShort {tag lane} (hs : s₀.Keeps s) : s₀.Keeps (s.assayShort tag lane).2 := hs.addN.assayErr

theorem State.Keeps.hallmarkExtend {i d} (hs : s₀.Keeps s) : s₀.Keeps (s.hallmarkExtend i d) :=
  .ite hs (.tick (.setN (.addN (hs.foldl (fun _ _ hs => hs.setN)))))

theorem State.Keeps.assayDone {e c o env} (hs : s₀.Keeps s) : s₀.Keeps (s.assayDone e c o env).2 := by
  unfold State.assayDone
  refine
    have h1 := State.Keeps.ite hs.assayShift hs
    .iteSnd (.assayErr (.ite h1.heldFree h1)) ?_
  split
  · exact
        .iteSnd h1.assayShort (
          have h2 := State.Keeps.wrView (State.Keeps.ite h1 h1.addN)
          .ite h2.hallmarkExtend h2)
  · split
    · exact h1.addN.assayErr
    · exact .iteSnd h1.upd.assayRecount.assayShort (.ite h1.upd.assayRecount h1.upd.assayRecount.addN)
  · exact .iteSnd h1.assayShort (.iteSnd h1.upd.assayShort (.ite h1.upd h1.upd.addN))
  · exact .iteSnd h1.heldFree.assayShort (.heldFree (.wrView (.ite h1 h1.addN)))

theorem State.Keeps.assayIssue {e rd da db ra imm phase} (hs : s₀.Keeps s) : s₀.Keeps (s.assayIssue e rd da db ra imm phase) :=
  hs.accelIssue

theorem State.Keeps.execAssayOne {e rd da db ra imm} (hs : s₀.Keeps s) : s₀.Goes (execAssayOne e rd da db ra imm s) :=
  .next hs.assayIssue

theorem State.Keeps.execAssayStart {e rd da db ra imm} (hs : s₀.Keeps s) : s₀.Goes (execAssayStart e rd da db ra imm s) :=
  .next hs.assayIssue

theorem State.Keeps.execAssayMore {e rd da db ra imm} (hs : s₀.Keeps s) : s₀.Goes (execAssayMore e rd da db ra imm s) :=
  .next hs.assayIssue

theorem State.Keeps.execAssayFinish {e rd da db ra imm} (hs : s₀.Keeps s) : s₀.Goes (execAssayFinish e rd da db ra imm s) :=
  .next hs.assayIssue

theorem State.Keeps.dmaGo (hs : s₀.Keeps s) : s₀.Keeps s.dmaGo :=
  .ite hs.stat (.ite hs.stat hs.stat.setF.setF.setF.upd.setN)

theorem State.Keeps.execAssayDmaGo (hs : s₀.Keeps s) : s₀.Goes (execAssayDmaGo s) := .next hs.dmaGo

theorem State.Keeps.dmaEnd {st} (hs : s₀.Keeps s) : s₀.Keeps (s.dmaEnd st) :=
  .ite (.ite hs.upd.setF.setF.setF.setF.addN.assayErr (.ite hs.upd.setF.setF.setF.setF.assayErr hs.upd.setF.setF.setF.setF))
    (hs.upd.setF.setF.setF.setF.addN.foldl (fun _ _ hs => hs.setN))

theorem State.Keeps.execAssayDmaComplete {env} (hs : s₀.Keeps s) : s₀.Goes (execAssayDmaComplete env s) :=
  .next (.ite (.ite hs.dmaEnd hs.upd.setN.dmaEnd) hs)

theorem State.Keeps.dmaFeed {l} (hs : s₀.Keeps s) : s₀.Keeps (s.dmaFeed l) := .ite hs.upd.setN hs

theorem State.Keeps.execAssayFeed {v} (hs : s₀.Keeps s) : s₀.Goes (execAssayFeed v s) := .next hs.dmaFeed

theorem State.Keeps.execAssayFeedTail {v} (hs : s₀.Keeps s) : s₀.Goes (execAssayFeedTail v s) := .next hs.dmaFeed

theorem State.Keeps.execAssayDmaClose (hs : s₀.Keeps s) : s₀.Goes (execAssayDmaClose s) := .next (.ite hs.dmaEnd hs)

theorem State.Keeps.execAssayDmaAbort (hs : s₀.Keeps s) : s₀.Goes (execAssayDmaAbort s) := .next (.ite hs.dmaEnd hs)

theorem State.Keeps.hallmarkLatch {path i} (hs : s₀.Keeps s) : s₀.Keeps (s.hallmarkLatch path i) := hs.upd

theorem State.Keeps.execHallmarkWord0Read {p i} (hs : s₀.Keeps s) : s₀.Goes (execHallmarkWord0Read p i s) :=
  .next (.ite hs.hallmarkLatch hs)

theorem State.Keeps.execAssayCompareGo (hs : s₀.Keeps s) : s₀.Goes (execAssayCompareGo s) := by
  unfold Machine.execAssayCompareGo
  refine .next ?_
  split
  · exact hs.stat.setN.addN.assayErr
  · exact hs.stat.setN

/-! #### Till -/

theorem State.Keeps.putPlace {k p} (hs : s₀.Keeps s) : s₀.Keeps (s.putPlace k p) := hs.upd

theorem State.Keeps.placeAdmit {k} (hs : s₀.Keeps s) : s₀.Keeps (s.placeAdmit k) := by
  unfold State.placeAdmit
  dsimp only
  split
  · exact hs
  · next h => exact (hs.slotAlloc h).upd.putExtent.mirror.putPlace.addN

theorem State.Keeps.ctxDrop {k} (hs : s₀.Keeps s) : s₀.Keeps (s.ctxDrop k) :=
  hs.discardGroup.heldFreeAll.pressDrop.millDrop.upd

theorem State.Keeps.placeWalk {l} (hs : s₀.Keeps s) : s₀.Keeps (State.placeWalk l s) := by
  induction l generalizing s with
  | nil => exact hs
  | cons k r ih => exact .ite (.ite hs.placeAdmit (ih hs.placeAdmit)) hs

theorem State.Keeps.tillServe (hs : s₀.Keeps s) : s₀.Keeps s.tillServe := .ite hs hs.placeWalk.placeWalk

theorem State.Keeps.placeNew {e da ra imm} (hs : s₀.Keeps s) : s₀.Keeps (s.placeNew e da ra imm) :=
  .ite hs.upd (
    have h2 := hs.upd.putPlace.tick.tillServe
    .ite h2.putPlace.addN.countEv h2)

theorem State.Keeps.execTillP {e rd da db ra imm} (hs : s₀.Keeps s) : s₀.Goes (execTillP e rd da db ra imm s) :=
  .next (hs.accelIssue.thenIf (fun _ hs => hs.placeNew))

theorem State.Keeps.tillPDone {e o} (hs : s₀.Keeps s) : s₀.Keeps (s.tillPDone e o).2 :=
  .iteSnd hs (.iteSnd (.iteSnd hs.putPlace (.iteSnd hs.putPlace hs)) (.iteSnd hs hs.putPlace.wrView.putTag))

theorem State.Keeps.tillFlags (hs : s₀.Keeps s) : s₀.Keeps s.tillFlags := .ite hs.setF hs.setF.setF

theorem State.Keeps.budgetSet {b} (hs : s₀.Keeps s) : s₀.Keeps (s.budgetSet b) :=
  hs.setN.setN.capTriggerIf.setF.setF.setF.setF.tillFlags.tillServe

theorem State.Keeps.bankVolt {v} (hs : s₀.Keeps s) : s₀.Keeps (s.bankVolt v) := hs.setF.setF

theorem State.Keeps.execBudgetRecompute {v} (hs : s₀.Keeps s) : s₀.Goes (execBudgetRecompute v s) :=
  .next hs.bankVolt.budgetSet

theorem State.Keeps.enterHoldup {cause} (hs : s₀.Keeps s) : s₀.Keeps (s.enterHoldup cause) :=
  .ite hs (
    have h2 := hs.setMode.reqDone.foldl (fun _ _ hs => hs.ctxDrop)
    .ite h2.upd.setF.setN.setF.regEvent.sendStub h2.upd.setF.setN.setF.regEvent)

/-! #### Sieve -/

theorem State.Keeps.sieveVol {e} (hs : s₀.Keeps s) : s₀.Keeps (s.sieveVol e).2 := .iteSnd hs hs.draw

theorem State.Keeps.sieveNote {e o} (hs : s₀.Keeps s) : s₀.Keeps (s.sieveNote e o) := hs.sieveApply.putCtx

theorem State.Keeps.lookupDone {e o} (hs : s₀.Keeps s) : s₀.Keeps (s.lookupDone e o).2 :=
  .iteSnd hs.addN (.iteSnd hs (.iteSnd hs.addN.addN.hotTouch.sieveVol.sieveNote.addN.addN.wrView (.upd (.ite hs.addN.addN.putRec
    hs.addN.addN))))

theorem State.Keeps.insertDone {e o} (hs : s₀.Keeps s) : s₀.Keeps (s.insertDone e o).2 :=
  .iteSnd hs (.iteSnd (.ite hs.upd.addN hs.upd.addN.upd.log) (.iteSnd hs.upd hs.upd.sieveVol.sieveNote.hotTouch))

theorem State.Keeps.unrefDone {e o} (hs : s₀.Keeps s) : s₀.Keeps (s.unrefDone e o).2 := .iteSnd hs hs.sieveNote

theorem State.Keeps.sieveDone {e o} (hs : s₀.Keeps s) : s₀.Keeps (s.sieveDone e o).2 := by
  unfold State.sieveDone
  split
  · exact hs.lookupDone
  · exact hs.insertDone
  · exact hs.unrefDone

theorem State.Keeps.sieveIssue {e rd da db ra imm fn} (hs : s₀.Keeps s) : s₀.Keeps (s.sieveIssue e rd da db ra imm fn) :=
  hs.accelIssue

theorem State.Keeps.execSieveLookup {e rd da db ra imm} (hs : s₀.Keeps s) : s₀.Goes (execSieveLookup e rd da db ra imm s) :=
  .next hs.sieveIssue

theorem State.Keeps.execSieveInsert {e rd da db ra imm} (hs : s₀.Keeps s) : s₀.Goes (execSieveInsert e rd da db ra imm s) :=
  .next hs.sieveIssue

theorem State.Keeps.execSieveUnref {e rd da db ra imm} (hs : s₀.Keeps s) : s₀.Goes (execSieveUnref e rd da db ra imm s) :=
  .next hs.sieveIssue

theorem State.Keeps.execSieveFilterReady {commons} (hs : s₀.Keeps s) : s₀.Goes (execSieveFilterReady commons s) :=
  .next hs.upd.filterBuild.setF

theorem State.Keeps.execMapL {e rd _da db ra imm} (hs : s₀.Keeps s) : s₀.Goes (execMapL e rd _da db ra imm s) :=
  .next hs.accelIssue

theorem State.Keeps.mapAnswer {e o} (hs : s₀.Keeps s) : s₀.Keeps (s.mapAnswer e o).2 :=
  .iteSnd (.iteSnd hs (.iteSnd hs hs.wrView)) (.iteSnd hs hs.wrView)

theorem State.Keeps.mapLDone {e o} (hs : s₀.Keeps s) : s₀.Keeps (s.mapLDone e o).2 := .iteSnd hs hs.addN.mapAnswer

theorem State.Keeps.mapFetched {e o lost} (hs : s₀.Keeps s) : s₀.Keeps (s.mapFetched e o lost).2 :=
  .iteSnd hs.addN hs.addN.mapFetch.mapAnswer

theorem State.Keeps.execMapU {e rd da db ra imm} (hs : s₀.Keeps s) : s₀.Goes (execMapU e rd da db ra imm s) :=
  .next hs.accelIssue

theorem State.Keeps.mapUJudge {e o} (hs : s₀.Keeps s) : s₀.Keeps (s.mapUJudge e o).2 :=
  .iteSnd (.ite hs.wrView hs) (.iteSnd (.iteSnd hs hs.putCtx) hs)

theorem State.Keeps.mapUCommit {e o} (hs : s₀.Keeps s) : s₀.Keeps (s.mapUCommit e o) := by
  unfold State.mapUCommit
  exact hs.commitGroup

/-! #### MediaOps -/

theorem State.Keeps.tableWrite (hs : s₀.Keeps s) : s₀.Keeps s.tableWrite := hs.upd.foldl (fun _ _ hs => hs.send)

theorem State.Keeps.cmnRecount {c} (hs : s₀.Keeps s) : s₀.Keeps (s.cmnRecount c) :=
  hs.setF.setF.setF.setF.setF.setF.setF.setF.setF.setF

theorem State.Keeps.poolRecount (hs : s₀.Keeps s) : s₀.Keeps s.poolRecount := hs.setF.setF.setF.setF.setF.setF

theorem State.Keeps.holdRecount {c} (hs : s₀.Keeps s) : s₀.Keeps (s.holdRecount c) :=
  hs.cmnRecount.poolRecount.capTriggerIf

theorem State.Keeps.sealEnter (hs : s₀.Keeps s) : s₀.Keeps s.sealEnter := .ite hs.setMode.reqDone.cutAll hs

theorem State.Keeps.granaryCheck {c} (hs : s₀.Keeps s) : s₀.Keeps (s.granaryCheck c) :=
  have h1 := State.Keeps.ite hs.setF.upd.alarm hs
  .ite (.ite h1.setF.sealEnter h1.setF.cutAll) h1

theorem State.Keeps.granaryDraw {die} (hs : s₀.Keeps s) : s₀.Keeps (s.granaryDraw die) := by
  unfold State.granaryDraw
  split
  · exact hs
  · split
    · exact hs.putDie
    · exact hs.putDie.setF.spareCall.granaryCheck

theorem State.Keeps.retireBlock {die b cause} (hs : s₀.Keeps s) : s₀.Keeps (s.retireBlock die b cause) := by
  unfold State.retireBlock
  refine .ite hs (.granaryDraw (.log ?_))
  split
  · exact hs.putDie
  · exact hs.putDie.addF.addF

theorem State.Keeps.recordReplace {c die} (hs : s₀.Keeps s) : s₀.Keeps (s.recordReplace c die) := by
  unfold State.recordReplace
  split
  · exact hs
  · exact hs.ledgerTo.setF.setF.tableWrite.ckptStart

theorem State.Keeps.recordLose {c die} (hs : s₀.Keeps s) : s₀.Keeps (s.recordLose c die) :=
  .ite hs (.recordReplace (.ite hs.setF.alarm hs.setF.log))

theorem State.Keeps.recordFix {c} (hs : s₀.Keeps s) : s₀.Keeps (s.recordFix c) :=
  hs.foldl (fun _ _ hs => hs.recordReplace)

theorem State.Keeps.dieLose {die cause} (hs : s₀.Keeps s) : s₀.Keeps (s.dieLose die cause) := by
  unfold State.dieLose
  refine .ite hs ?_
  split
  · exact hs.capTrigger.putDie.upd
  · exact .holdRecount (.regEvent (.tableWrite (.ite hs.capTrigger.putDie.upd.recordLose hs.capTrigger.putDie.upd)))

theorem State.Keeps.memberAlarm {c} (hs : s₀.Keeps s) : s₀.Keeps (s.memberAlarm c) := hs.alarm

theorem State.Keeps.dieFail {die cause} (hs : s₀.Keeps s) : s₀.Keeps (s.dieFail die cause) := by
  unfold State.dieFail
  refine .ite hs ?_
  split
  · exact hs.dieLose
  · exact hs.dieLose.memberAlarm

theorem State.Keeps.sledFail {sled} (hs : s₀.Keeps s) : s₀.Keeps (s.sledFail sled) :=
  .ite (hs.foldl (fun _ _ hs => .ite hs (.memberAlarm (hs.foldl (fun _ _ hs => hs.dieLose))))) hs

theorem State.Keeps.retireCheck {die} (hs : s₀.Keeps s) : s₀.Keeps (s.retireCheck die) := .ite hs.dieFail hs

theorem State.Keeps.retire {die b cause} (hs : s₀.Keeps s) : s₀.Keeps (s.retire die b cause) :=
  hs.retireBlock.retireCheck

theorem State.Keeps.qlcAlloc {c die chunk x} (hs : s₀.Keeps s) (h : s.qlcAlloc c die chunk = some x) : s₀.Keeps x.2 := by
  unfold State.qlcAlloc at h
  dsimp only at h
  split at h
  · cases h; exact hs.putDie
  · split at h
    · cases h
    · cases h; exact hs.dbCommit.putDie

theorem State.Keeps.relocate {k pos dst} (hs : s₀.Keeps s) : s₀.Keeps (s.relocate k pos dst) := hs.dbCommit.putSheaf

theorem State.Keeps.moveChunk {k pos} (hs : s₀.Keeps s) : s₀.Keeps (s.moveChunk k pos) := by
  unfold State.moveChunk
  dsimp only
  split
  · exact hs
  · split
    · exact hs
    · next h => exact (hs.qlcAlloc h).progAt.relocate.addN

theorem State.Keeps.eraseLater {c die b} (hs : s₀.Keeps s) : s₀.Keeps (s.eraseLater c die b) := hs.upd

theorem State.Keeps.blockErased {die b} (hs : s₀.Keeps s) : s₀.Keeps (s.blockErased die b) :=
  .ite hs.putDie.retire hs.putDie

theorem State.Keeps.chunkDone {k pos} (hs : s₀.Keeps s) : s₀.Keeps (s.chunkDone k pos) :=
  .ite hs (.ite hs.dbCommit.putSheaf.ledgerNote.holdRecount hs.putSheaf.ledgerNote)

theorem State.Keeps.retarget {die b} (hs : s₀.Keeps s) : s₀.Keeps (s.retarget die b) :=
  hs.foldl (fun _ _ hs => .ite hs hs.chunkAlloc.putSheaf.ledgerNote.progChunk)

theorem State.Keeps.calibrate {die b} (hs : s₀.Keeps s) : s₀.Keeps (s.calibrate die b) := hs.send.upd

theorem State.Keeps.scarWalk {c} (hs : s₀.Keeps s) : s₀.Keeps (s.scarWalk c) := .ite hs hs.upd.regEvent

theorem State.Keeps.scarRows {k} (hs : s₀.Keeps s) : s₀.Keeps (s.scarRows k) :=
  .ite hs (.ite hs hs.putSheaf.alarm.scarWalk.holdRecount)

theorem State.Keeps.unerased {die b} (hs : s₀.Keeps s) : s₀.Keeps (s.unerased die b) := .ite hs.addF.alarm hs

theorem State.Keeps.secureDone {w} (hs : s₀.Keeps s) : s₀.Keeps (s.secureDone w) :=
  .regEvent (hs.upd.slotsFree.foldl (fun _ _ hs => hs.setN))

theorem State.Keeps.secureSettle {die b} (hs : s₀.Keeps s) : s₀.Keeps (s.secureSettle die b) :=
  hs.upd.foldl (fun _ _ hs => hs.secureDone)

theorem State.Keeps.slcRecompute (hs : s₀.Keeps s) : s₀.Keeps s.slcRecompute :=
  have h3 := hs.setN.setN.setN.setF.setF.setF.foldl (fun _ _ hs => hs.setN)
  .ite h3.setF (h3.setF.upd.foldl (fun _ _ hs => hs.progChunk))

theorem State.Keeps.bridgeSet {sled c epoch ours} (hs : s₀.Keeps s) : s₀.Keeps (s.bridgeSet sled c epoch ours) :=
  hs.upd

theorem State.Keeps.bridgeOwn {sled c epoch} (hs : s₀.Keeps s) : s₀.Keeps (s.bridgeOwn sled c epoch) := hs.bridgeSet

theorem State.Keeps.disown {c theirs} (hs : s₀.Keeps s) : s₀.Keeps (s.disown c theirs) := hs.upd.setF.slcRecompute

theorem State.Keeps.ownRefused {c mine theirs} (hs : s₀.Keeps s) : s₀.Keeps (s.ownRefused c mine theirs) :=
  hs.disown.log

theorem State.Keeps.ownLost {c theirs} (hs : s₀.Keeps s) : s₀.Keeps (s.ownLost c theirs) := hs.disown.alarm

theorem State.Keeps.portState {k st} (hs : s₀.Keeps s) : s₀.Keeps (s.portState k st) :=
  hs.capTriggerIf.setF.setF.setF.setF

/-! #### Fold -/

theorem State.Keeps.execSlcRecompute (hs : s₀.Keeps s) : s₀.Goes (execSlcRecompute s) := .next hs.slcRecompute

theorem State.Keeps.execFoldStart (hs : s₀.Keeps s) : s₀.Goes (execFoldStart s) := by
  unfold Machine.execFoldStart
  split
  · exact .next hs
  · split
    · exact .next hs.dbCommit.putDie.upd.send
    · exact .next hs

theorem State.Keeps.foldRelocate {die dest l i} (hs : s₀.Keeps s) : s₀.Keeps (State.foldRelocate die dest l i s) := by
  induction l generalizing s i with
  | nil => exact hs
  | cons x r ih => exact ih (.ite hs.relocate hs.dbCommit)

theorem State.Keeps.emptyBlock {c die b} (hs : s₀.Keeps s) : s₀.Keeps (s.emptyBlock c die b) :=
  .eraseLater (hs.foldl (fun _ _ hs => hs.moveChunk))

theorem State.Keeps.foldEnd {die status failing} (hs : s₀.Keeps s) : s₀.Keeps (s.foldEnd die status failing) := by
  unfold State.foldEnd
  dsimp only
  split
  · refine .ite (.addN (.upd (hs.upd.countEv.putDie.foldRelocate.foldl (fun _ _ hs => hs.eraseLater)))) (.ite
    hs.upd.countEv.putDie.ownLost (.ite (.retire (hs.upd.countEv.putDie.eraseLater.foldl (fun _ _ hs => hs.emptyBlock))) ?_))
    split
    · exact hs.upd.countEv.putDie.setF.retire
    · exact hs.upd.countEv.putDie.setF.retire.putDie.upd.send
  · exact hs

theorem State.Keeps.execFoldComplete {die status failing} (hs : s₀.Keeps s) : s₀.Goes (execFoldComplete die status failing s) :=
  .next hs.foldEnd

theorem State.Keeps.execFoldRateWindow (hs : s₀.Keeps s) : s₀.Goes (execFoldRateWindow s) := .next hs.setN.setN.upd

theorem State.Keeps.execGleanBlock {commons status} (hs : s₀.Keeps s) : s₀.Goes (execGleanBlock commons status s) := by
  unfold Machine.execGleanBlock
  split
  · exact .next hs
  · refine .ite (.next hs) (.ite (.next hs.ownLost) (.ite (.next hs) ?_))
    split
    · exact .next hs
    · next h =>
      have h1 := hs.tollWork h
      refine
        have h2 : s₀.Keeps _ := .foldl (.foldl (.ite ?_ (.ite h1.putDie.log h1)) fun _ _ hs => hs.slotsFree.putSheaf)
          fun _ _ hs => hs.moveChunk
        .ite (.next h2) (.ite (.next h2.retire) (.next h2.eraseLater))
      split
      · exact .ite h1 h1.setF.retire
      · exact h1

theorem State.Keeps.thinPlace {c fr l data} (hs : s₀.Keeps s) : s₀.Keeps (State.thinPlace c fr l data s).2 := by
  induction l generalizing s data with
  | nil => exact hs
  | cons x r ih =>
    unfold State.thinPlace
    dsimp only
    split
    · exact hs
    · next h => exact ih (hs.slotAlloc h).upd.putPlace.putExtent.mirror.upd

theorem State.Keeps.rejoin {g} (hs : s₀.Keeps s) : s₀.Keeps (s.rejoin g) := by
  unfold State.rejoin
  split
  · exact hs
  · exact .ite hs.accept hs

theorem State.Keeps.thin {c sheaf data} (hs : s₀.Keeps s) : s₀.Keeps (s.thin c sheaf data) :=
  .setN (.foldl (.ite hs.thinPlace hs.thinPlace.commitGroup.addN) (fun _ _ hs => hs.rejoin))

theorem State.Keeps.execThinSheaf {commons sheaf data} (hs : s₀.Keeps s) : s₀.Goes (execThinSheaf commons sheaf data s) :=
  .next (.ite hs.thin hs)

theorem State.Keeps.execCalibrationDue {die group} (hs : s₀.Keeps s) : s₀.Goes (execCalibrationDue die group s) :=
  .next (.ite hs.calibrate hs)

theorem State.Keeps.execStewardSecureWrite {v} (hs : s₀.Keeps s) : s₀.Goes (execStewardSecureWrite v s) :=
  .ite (.next hs.setF.answer) (.next hs.setF.setF.answer)

theorem State.Keeps.execSecureBoundExpiry {commons sheaf data}
    (hs : s₀.Keeps s) : s₀.Goes (execSecureBoundExpiry commons sheaf data s) :=
  .ite (.next hs) (
    have h2 := hs.thin.foldl (fun _ _ hs => State.Keeps.eraseLater (hs.foldl (fun _ _ hs => hs.moveChunk)))
    .next (.ite h2.putSheaf.secureDone h2.putSheaf.upd))

/-! #### Hold -/

theorem State.Keeps.claim {c rival} (hs : s₀.Keeps s) : s₀.Keeps (s.claim c rival) :=
  have h1 := hs.foldl (fun _ _ hs => hs.send)
  .ite (.ownRefused (h1.foldl (fun _ _ hs => hs.bridgeSet))) (.slcRecompute (.setF (.upd (h1.foldl
    (fun _ _ hs => hs.bridgeOwn)))))

theorem State.Keeps.holdRequest {f} (hs : s₀.Keeps s) (hf : ∀ u, s₀.Keeps u → s₀.Keeps (f u)) : s₀.Keeps (s.holdRequest f) :=
  .ite hs.stat (.ite hs.stat (hf _ hs))

theorem State.Keeps.poolRecord {n} (hs : s₀.Keeps s) : s₀.Keeps (s.poolRecord n) := hs.regEvent

theorem State.Keeps.granaryForm {c sleds} (hs : s₀.Keeps s) : s₀.Keeps (s.granaryForm c sleds) :=
  hs.foldl (fun _ _ hs => hs.putDie.addF.addF.setF)

theorem State.Keeps.execHoldForm (hs : s₀.Keeps s) : s₀.Goes (execHoldForm s) :=
  .next (hs.holdRequest (fun _ hs => .ite hs.stat (.ite hs.stat (.ite hs.stat (.stat (.poolRecord (.slcRecompute (.holdRecount
    (.setF (.ite hs.setF.setF.setF.upd.setF.setF.granaryForm.tableWrite.claim
      hs.setF.setF.setF.upd.setF.setF.granaryForm.tableWrite))))))))))

theorem State.Keeps.execHoldDissolve (hs : s₀.Keeps s) : s₀.Goes (execHoldDissolve s) :=
  .next (hs.holdRequest (fun _ hs => .ite hs.stat (.ite hs.stat (.ite hs.stat (.stat (.poolRecord (.slcRecompute (.poolRecount
    (.tableWrite (.foldl (.upd (hs.foldl (fun _ _ hs => hs.putDie))) (fun _ _ hs => hs.setN)))))))))))

theorem State.Keeps.sparesRestored (hs : s₀.Keeps s) : s₀.Keeps s.sparesRestored := .ite hs.setF.setF.upd hs

theorem State.Keeps.execHoldTakeIn (hs : s₀.Keeps s) : s₀.Goes (execHoldTakeIn s) :=
  .next (hs.holdRequest (fun _ hs => .ite hs.stat (.ite hs.stat (.stat (.poolRecord (.slcRecompute (.foldl (.tableWrite
    (.sparesRestored (.foldl (hs.upd.setN.portState.foldl (fun _ _ hs => hs.granaryForm)) (fun _ _ hs => hs.bridgeOwn.send))))
      (fun _ _ hs => hs.recordFix.holdRecount))))))))

theorem State.Keeps.execHoldFail (hs : s₀.Keeps s) : s₀.Goes (execHoldFail s) := by
  unfold Machine.execHoldFail
  refine .next (hs.holdRequest (fun _ hs => ?_))
  dsimp only
  split
  · exact hs.stat
  · exact .ite hs.stat (.ite hs.stat hs.dieFail.slcRecompute.stat)

theorem State.Keeps.resyncStart {c} (hs : s₀.Keeps s) : s₀.Keeps (s.resyncStart c) := hs.upd.upd.setF.setF.holdRecount

theorem State.Keeps.execHoldResync (hs : s₀.Keeps s) : s₀.Goes (execHoldResync s) :=
  .next (hs.holdRequest (fun _ hs => .ite hs.stat hs.resyncStart.stat))

theorem State.Keeps.execHoldWatchNow (hs : s₀.Keeps s) : s₀.Goes (execHoldWatchNow s) :=
  .next (hs.holdRequest (fun _ hs => .ite hs.stat hs.upd.stat))

theorem State.Keeps.ledgerWrite {c copies} (hs : s₀.Keeps s) : s₀.Keeps (s.ledgerWrite c copies) :=
  .setF (.setF (.setF (.upd (hs.foldl (fun _ _ hs => hs.ledgerTo)))))

theorem State.Keeps.execLedgerWriteTick {commons copies} (hs : s₀.Keeps s) : s₀.Goes (execLedgerWriteTick commons copies s) :=
  .ite (.next hs) (.ite (.next hs.ledgerWrite) (.ite (.next hs.ledgerWrite.log) (.next hs.ledgerWrite.alarm)))

theorem State.Keeps.emptied {c} (hs : s₀.Keeps s) : s₀.Keeps (s.emptied c) :=
  hs.foldl (fun _ _ hs => .ite hs.putDie hs)

theorem State.Keeps.execRebuildChunk {commons status} (hs : s₀.Keeps s) : s₀.Goes (execRebuildChunk commons status s) := by
  unfold Machine.execRebuildChunk
  refine .ite (.next hs) ?_
  dsimp only
  split
  · exact .next (.ite hs hs.setF.alarm.poolRecount)
  · refine .ite (.next (.ite hs hs.setF.alarm.poolRecount)) ?_
    split
    · exact .next hs
    · next h =>
      have h1 := hs.tollWork h
      split
      · exact .next h1.scarRows
      · next h =>
        exact
          have h2 := h1.scarRows.qlcAlloc h
          .ite (.next h1.ownLost) (.ite (.next h1) (.ite (.next h2.setF.retire)
            (.next h2.progAt.relocate.upd.setF.addN.setF.emptied.holdRecount)))

theorem State.Keeps.watchRepair {k r pos} (hs : s₀.Keeps s) : s₀.Keeps (s.watchRepair k r pos) := hs.moveChunk.addN.log

theorem State.Keeps.watchRow {k r f decodes} (hs : s₀.Keeps s) : s₀.Keeps (s.watchRow k r f decodes) := by
  unfold State.watchRow
  split
  · exact hs
  · exact hs.watchRepair
  · exact hs.watchRepair
  · exact hs.watchRepair
  · exact .ite hs.watchRepair.watchRepair hs.putSheaf.alarm

theorem State.Keeps.sheafCheck {k data decodes} (hs : s₀.Keeps s) : s₀.Keeps (s.sheafCheck k data decodes) :=
  .holdRecount (.putSheaf (hs.foldl (fun _ _ hs => hs.watchRow)))

theorem State.Keeps.execWatchSheaf {cmn data decodes} (hs : s₀.Keeps s) : s₀.Goes (execWatchSheaf cmn data decodes s) := by
  unfold Machine.execWatchSheaf
  refine .ite (.next hs) ?_
  dsimp only
  split
  · exact .next hs.upd.setF.setF.setF
  · split
    · exact .next hs
    · next h => exact .next (hs.tollWork h).upd.sheafCheck.addN.setF

theorem State.Keeps.execWatchOverdue {commons} (hs : s₀.Keeps s) : s₀.Goes (execWatchOverdue commons s) :=
  .next (.ite hs.setF.alarm hs)

theorem State.Keeps.execResyncPass {commons data decodes}
    (hs : s₀.Keeps s) : s₀.Goes (execResyncPass commons data decodes s) := by
  unfold Machine.execResyncPass
  refine .ite (.next hs) ?_
  split
  · exact .next hs.upd.holdRecount
  · split
    · exact .next hs
    · next h => exact have h1 := (hs.tollWork h).sheafCheck.addF; .next (.ite h1.upd.holdRecount h1)

/-! #### Daybook -/

theorem State.Keeps.execDaybookFlushTimer {commons} (hs : s₀.Keeps s) : s₀.Goes (execDaybookFlushTimer commons s) :=
  .next hs.dbFlush

theorem State.Keeps.eraseDue {c lsn failed} (hs : s₀.Keeps s) : s₀.Keeps (s.eraseDue c lsn failed) :=
  hs.upd.foldl (fun _ _ hs => .ite hs.send.setF.unerased.retire.secureSettle hs.send.blockErased.secureSettle)

theorem State.Keeps.recFlags (hs : s₀.Keeps s) : s₀.Keeps s.recFlags := hs.setF.setF

theorem State.Keeps.recEnd {c} (hs : s₀.Keeps s) : s₀.Keeps (s.recEnd c) :=
  .ite hs (.ite hs.upd.recFlags hs.upd.recFlags.setF.setN.tick)

theorem State.Keeps.anchorWrite {c} (hs : s₀.Keeps s) : s₀.Keeps (s.anchorWrite c) :=
  .recEnd (.mirror (.setF (.putDb (.setF (.tick (.setN (.setN (.setN (.setF (.setF (hs.progSend.upd.foldl
    (fun _ _ hs => hs.nameDrop))))))))))))

theorem State.Keeps.execDaybookPageDurable {commons failed}
    (hs : s₀.Keeps s) : s₀.Goes (execDaybookPageDurable commons failed s) := by
  unfold Machine.execDaybookPageDurable
  dsimp only
  split
  · exact .next hs
  · exact .next (.tillServe (.ite hs.countEv.putDb.setN.eraseDue.sweepClean.anchorWrite
    hs.countEv.putDb.setN.eraseDue.sweepClean))

theorem State.Keeps.execCheckpointTimer {commons} (hs : s₀.Keeps s) : s₀.Goes (execCheckpointTimer commons s) :=
  .next (.ite hs.ckptStart hs)

theorem State.Keeps.execCheckpointSize {commons} (hs : s₀.Keeps s) : s₀.Goes (execCheckpointSize commons s) :=
  .next (.ite hs.ckptStart hs)

theorem State.Keeps.execStewardCkptGo (hs : s₀.Keeps s) : s₀.Goes (execStewardCkptGo s) :=
  .ite (.next hs.stat) (.ite (.next hs.stat) (.next hs.ckptStart.stat))

/-! #### Land -/

theorem State.Keeps.landMirror {a vol leaf tag reeve data}
    (hs : s₀.Keeps s) : s₀.Keeps (s.landMirror a vol leaf tag reeve data) :=
  hs.foldlSnd (fun _ _ hs => hs.mirror)

theorem State.Keeps.landPlace {k f leaf tag reeve data} (hs : s₀.Keeps s) : s₀.Keeps (s.landPlace k f leaf tag reeve data) :=
  hs.wrBytes.putTake.landMirror

theorem State.Keeps.frameLand {k f} (hs : s₀.Keeps s) : s₀.Keeps (s.frameLand k f) :=
  have h2 := State.Keeps.ite hs.putTake.tick.mirrorTake hs.putTake.tick
  .frameGenAll (.ite h2.alarm h2)

theorem State.Keeps.frameDrop {k f} (hs : s₀.Keeps s) : s₀.Keeps (s.frameDrop k f) := hs.putTake

/-! #### Nvme -/

theorem State.Keeps.adminEnd {t st} (hs : s₀.Keeps s) : s₀.Keeps (s.adminEnd t st) := .ite hs.putTag hs.docketEnd

theorem State.Keeps.abortEnd {t dw0} (hs : s₀.Keeps s) : s₀.Keeps (s.abortEnd t dw0) := hs.putTag

theorem State.Keeps.adminGive {q cid t d} (hs : s₀.Keeps s) : s₀.Keeps (s.adminGive q cid t d) := hs.send.adminEnd

theorem State.Keeps.admin {q cid op f} (hs : s₀.Keeps s) (hf : ∀ x u, s₀.Keeps u → s₀.Keeps (f x u)) :
    s₀.Keeps (s.admin q cid op f) := .ite (.ite hs.accept (hf _ _ hs.accept)) hs

theorem State.Keeps.connectRefused {cid st} (hs : s₀.Keeps s) : s₀.Keeps (s.connectRefused cid st) := hs.addN.send

theorem State.Keeps.connect {ctrl qid depth peer adm} (hs : s₀.Keeps s) : s₀.Keeps (s.connect ctrl qid depth peer adm) := by
  unfold State.connect
  refine .ite hs (.ite hs.connectRefused ?_)
  split
  · exact hs.connectRefused
  · next h => exact have h1 := hs.createQueue h; .adminGive (.accept (.ite h1.putCtrl h1))

theorem State.Keeps.execNvmeConnect {ctrl qid depth peer cid}
    (hs : s₀.Keeps s) : s₀.Goes (execNvmeConnect ctrl qid depth peer cid s) :=
  .next hs.connect

theorem State.Keeps.execPropertyGet {q cid ofs} (hs : s₀.Keeps s) : s₀.Goes (execPropertyGet q cid ofs s) :=
  .next (hs.admin (fun _ _ hs => .ite hs.adminGive (.ite hs.adminGive (.ite hs.adminGive hs.adminEnd))))

theorem State.Keeps.execPropertySet {q cid ofs v} (hs : s₀.Keeps s) : s₀.Goes (execPropertySet q cid ofs v s) :=
  .next (hs.admin (fun _ _ hs => .ite hs.putCtrl.adminEnd hs.adminEnd))

theorem State.Keeps.execGetLogPage {q cid page lsi n} (hs : s₀.Keeps s) : s₀.Goes (execGetLogPage q cid page lsi n s) := by
  unfold Machine.execGetLogPage
  refine .next (hs.admin (fun _ _ hs => ?_))
  split
  · exact hs.adminEnd
  · exact hs.upd.adminGive

theorem State.Keeps.execIdentify {q cid cns nsid} (hs : s₀.Keeps s) : s₀.Goes (execIdentify q cid cns nsid s) := by
  unfold Machine.execIdentify
  refine .next (hs.admin (fun _ _ hs => .ite hs.adminEnd ?_))
  split
  · exact hs.adminEnd
  · exact hs.adminGive

theorem State.Keeps.execNvmeAbort {q cid sqid tcid} (hs : s₀.Keeps s) : s₀.Goes (execNvmeAbort q cid sqid tcid s) := by
  unfold Machine.execNvmeAbort
  refine .next (hs.admin (fun _ _ hs => ?_))
  split
  · exact hs.abortEnd
  · exact .ite hs.abortEnd (.ite hs.abortTag.abortEnd (.ite hs.abortTag.abortLater hs.abortTag.abortEnd))

theorem State.Keeps.execSetFeatures {q cid fid v} (hs : s₀.Keeps s) : s₀.Goes (execSetFeatures q cid fid v s) :=
  .next (hs.admin (fun _ _ hs => .ite hs.putCtrl.adminEnd (.ite hs.putCtrl.adminEnd (.ite hs.putCtrl.adminEnd hs.adminEnd))))

theorem State.Keeps.execGetFeatures {q cid fid} (hs : s₀.Keeps s) : s₀.Goes (execGetFeatures q cid fid s) :=
  .next (hs.admin (fun _ _ hs => .ite hs.adminGive (.ite hs.adminGive (.ite hs.adminGive hs.adminEnd))))

theorem State.Keeps.execAsyncEventRequest {q cid} (hs : s₀.Keeps s) : s₀.Goes (execAsyncEventRequest q cid s) := by
  unfold Machine.execAsyncEventRequest
  refine .next (hs.admin (fun _ _ hs => ?_))
  dsimp only
  split
  · exact hs.putCtrl.send.adminEnd
  · exact .ite hs.adminEnd hs.putCtrl

theorem State.Keeps.execKeepAlive {q cid} (hs : s₀.Keeps s) : s₀.Goes (execKeepAlive q cid s) :=
  .next (hs.admin (fun _ _ hs => hs.adminEnd))

theorem State.Keeps.execKeepAliveTimeout {ctrl} (hs : s₀.Keeps s) : s₀.Goes (execKeepAliveTimeout ctrl s) :=
  .next (.ite (.putCtrl (hs.foldl (fun _ _ hs => hs.deleteQueue))) hs)

theorem State.Keeps.execQueueResume {q cid qid} (hs : s₀.Keeps s) : s₀.Goes (execQueueResume q cid qid s) := by
  unfold Machine.execQueueResume
  refine .next (hs.admin (fun _ _ hs => ?_))
  split
  · exact hs.adminEnd
  · exact .ite hs.activateQueue.adminEnd hs.adminEnd

theorem State.Keeps.execQueueReset {q cid qid} (hs : s₀.Keeps s) : s₀.Goes (execQueueReset q cid qid s) := by
  unfold Machine.execQueueReset
  refine .next (hs.admin (fun _ _ hs => ?_))
  split
  · exact hs.adminEnd
  · exact .ite hs.resetQueue.adminEnd hs.adminEnd

theorem State.Keeps.ioAccept {q cid op entry c inbound} (hs : s₀.Keeps s) : s₀.Keeps (s.ioAccept q cid op entry c inbound).2 :=
  .iteSnd hs.accept hs.accept

theorem State.Keeps.dsmAccept {q cid c ranges dealloc} (hs : s₀.Keeps s) : s₀.Keeps (s.dsmAccept q cid c ranges dealloc) :=
  .ite hs.accept (.ite hs.accept.wrBytes hs.accept.docketEnd)

theorem State.Keeps.noOpcode {q cid op} (hs : s₀.Keeps s) : s₀.Keeps (s.noOpcode q cid op) := hs.accept

/-! #### Mag -/

theorem State.Keeps.magAskAgain {p} (hs : s₀.Keeps s) : s₀.Keeps (s.magAskAgain p) :=
  .ite hs.putMagPort.addF.magBare hs

theorem State.Keeps.magAcked {p ack credit} (hs : s₀.Keeps s) : s₀.Keeps (s.magAcked p ack credit) :=
  .magFlow (hs.putMagPort.foldl (fun _ _ hs => .ite hs.putMagTask hs))

theorem State.Keeps.magRecv {p err f want k} (hs : s₀.Keeps s) (hk : ∀ x u, s₀.Keeps u → s₀.Keeps (k x u)) :
    s₀.Keeps (s.magRecv p err f want k) :=
  .ite hs (
    have h1 := State.Keeps.ite hs hs.addF
    .ite h1.addF (.ite hs (.ite h1.magAck (.ite h1.magAskAgain (.ite h1.addF.magAskAgain (
      have h4 := hk _ _ (.magAcked (.addF (.ite h1 h1.putMagPort)))
      .ite h4 h4.magAck))))))

theorem State.Keeps.magDiscard {p} (hs : s₀.Keeps s) : s₀.Keeps (s.magDiscard p) := hs.addF

theorem State.Keeps.execFalseMark {port} (hs : s₀.Keeps s) : s₀.Goes (execFalseMark port s) := .next (.ite hs.addF hs)

theorem State.Keeps.execMagReservedFolio {port err f} (hs : s₀.Keeps s) : s₀.Goes (execMagReservedFolio port err f s) :=
  .next (hs.magRecv (fun _ _ hs => hs.magDiscard))

theorem State.Keeps.execMagAck {port err f} (hs : s₀.Keeps s) : s₀.Goes (execMagAck port err f s) :=
  .next (hs.magRecv (fun _ _ hs => hs))

theorem State.Keeps.magAgain {p seq} (hs : s₀.Keeps s) : s₀.Keeps (s.magAgain p seq) :=
  hs.foldl (fun _ _ hs => hs.addF.folioWire)

theorem State.Keeps.execMagResendReq {port err f} (hs : s₀.Keeps s) : s₀.Goes (execMagResendReq port err f s) :=
  .next (hs.magRecv (fun _ _ hs => hs.magAgain))

theorem State.Keeps.execMagResendTimer {port} (hs : s₀.Keeps s) : s₀.Goes (execMagResendTimer port s) :=
  .next (.ite hs.magAgain hs)

theorem State.Keeps.magAbortAll {p quiet} (hs : s₀.Keeps s) : s₀.Keeps (s.magAbortAll p quiet) :=
  hs.foldl (fun _ _ hs => hs.putTag.abortTag)

theorem State.Keeps.magTrainOn {p lanes} (hs : s₀.Keeps s) : s₀.Keeps (s.magTrainOn p lanes) :=
  .setF (.setF (.setN (.setF (.setF (.addF (.putMagPort (.foldl (.ite hs.magAbortAll hs) (fun _ _ hs => hs.putMagTask))))))))

theorem State.Keeps.magTrain {p} (hs : s₀.Keeps s) : s₀.Keeps (s.magTrain p) := .ite hs.magTrainOn hs

theorem State.Keeps.magDown {p st} (hs : s₀.Keeps s) : s₀.Keeps (s.magDown p st) := hs.setF.setF.setF.setF

theorem State.Keeps.magRetrain {p} (hs : s₀.Keeps s) : s₀.Keeps (s.magRetrain p) :=
  .ite hs.stat (.ite hs.magTrain.stat hs.stat)

theorem State.Keeps.execMagRetrain {port} (hs : s₀.Keeps s) : s₀.Goes (execMagRetrain port s) :=
  .next (.ite hs.magRetrain hs)

theorem State.Keeps.execMagLockLoss {port} (hs : s₀.Keeps s) : s₀.Goes (execMagLockLoss port s) :=
  .next (.ite hs.magTrain hs)

theorem State.Keeps.execMagTrainRetry {port} (hs : s₀.Keeps s) : s₀.Goes (execMagTrainRetry port s) :=
  .next (.ite hs.magTrain hs)

theorem State.Keeps.execLaneMarkersFound {port} (hs : s₀.Keeps s) : s₀.Goes (execLaneMarkersFound port s) :=
  .next (.ite (.ite hs.setF.magSend hs.setF) hs)

theorem State.Keeps.magComeUp {p w0 w3} (hs : s₀.Keeps s) : s₀.Keeps (s.magComeUp p w0 w3) := by
  unfold State.magComeUp
  extract_lets x s1 s2
  have h2 : s₀.Keeps s2 := hs.setF.setF.setF.setF.setF.setF
  refine .ite ?_ h2
  split
  · exact h2.magDown
  · next q s3 h =>
    have h3 : s₀.Keeps s3 := by
      split at h
      · next he =>
        revert h
        unfold Except.map
        split
        · intro h; cases h
        · next h1 => intro h; cases h; exact h2.createQueue h1
      · cases h; exact h2
    exact .foldl (.capTrigger (.magClass h3.putMagPort)) fun _ _ hs => .ite hs.magStatusSend hs

theorem State.Keeps.execMagTrain {port err f} (hs : s₀.Keeps s) : s₀.Goes (execMagTrain port err f s) :=
  .next (hs.magRecv (fun _ _ hs => .ite hs.magSend.magComeUp hs.magSend.magDown))

theorem State.Keeps.magAligns {p} (hs : s₀.Keeps s) : s₀.Keeps (s.magAligns p) := .ite hs.setF hs

theorem State.Keeps.regionFull (hs : s₀.Keeps s) : s₀.Keeps s.regionFull.2 := hs.draw

theorem State.Keeps.magAccept {p r blk} (hs : s₀.Keeps s) : s₀.Keeps (s.magAccept p r blk) := by
  unfold State.magAccept
  refine
    have h1 := State.Keeps.iteSnd hs.regionFull (State.Keeps.iteSnd hs hs)
    .ite h1.putMagTask.accept (.ite h1.putMagTask.accept.putMagTask ?_)
  split
  · exact h1.putMagTask.accept.putMagTask.magData.docketEnd
  · exact h1.putMagTask.accept.putMagTask.wrBytes
  · exact h1.putMagTask.accept.putMagTask.takeClose.docketEnd
  · exact h1.putMagTask.accept.putMagTask

theorem State.Keeps.magWrite {p r blk} (hs : s₀.Keeps s) : s₀.Keeps (s.magWrite p r blk) :=
  .ite hs.magAccept (.ite hs.putMagPort hs.magSend)

theorem State.Keeps.magHeldGo {p l} (hs : s₀.Keeps s) : s₀.Keeps (State.magHeldGo p l s) := by
  induction l generalizing s with
  | nil => exact hs
  | cons x r ih => exact .ite (ih hs.putMagPort.magAccept) (ih hs)

theorem State.Keeps.magTaskRow {p err f op} (hs : s₀.Keeps s) : s₀.Keeps (s.magTaskRow p err f op) :=
  hs.magRecv (fun _ _ hs => .ite hs.magWrite hs.magDiscard.magSend)

theorem State.Keeps.execMagIdentify {port err f} (hs : s₀.Keeps s) : s₀.Goes (execMagIdentify port err f s) :=
  .next hs.magTaskRow

theorem State.Keeps.execMagRead {port err f} (hs : s₀.Keeps s) : s₀.Goes (execMagRead port err f s) :=
  .next hs.magTaskRow

theorem State.Keeps.execMagWrite {port err f} (hs : s₀.Keeps s) : s₀.Goes (execMagWrite port err f s) :=
  .next hs.magTaskRow

theorem State.Keeps.execMagFlush {port err f} (hs : s₀.Keeps s) : s₀.Goes (execMagFlush port err f s) :=
  .next hs.magTaskRow

theorem State.Keeps.execMagTrim {port err f} (hs : s₀.Keeps s) : s₀.Goes (execMagTrim port err f s) :=
  .next hs.magTaskRow

theorem State.Keeps.execRecordArm {port err f} (hs : s₀.Keeps s) : s₀.Goes (execRecordArm port err f s) :=
  .next hs.magTaskRow

theorem State.Keeps.execRecordStop {port err f} (hs : s₀.Keeps s) : s₀.Goes (execRecordStop port err f s) :=
  .next hs.magTaskRow

theorem State.Keeps.execMagUnknownOpcode {port err f} (hs : s₀.Keeps s) : s₀.Goes (execMagUnknownOpcode port err f s) :=
  .next hs.magTaskRow

theorem State.Keeps.landWhole {t} (hs : s₀.Keeps s) : s₀.Keeps (s.landWhole t) :=
  .ite (.docketEnd (.iteSnd hs.regionFull hs)) (.ite hs.landPlace.putTag.mirrorTag.frameLand hs.landPlace.putTag.mirrorTag)

theorem State.Keeps.magRelease (hs : s₀.Keeps s) : s₀.Keeps s.magRelease := hs.foldl (fun _ _ hs => hs.docketEnd)

theorem State.Keeps.armDecide {p r t} (hs : s₀.Keeps s) : s₀.Keeps (s.armDecide p r t) :=
  .ite hs.docketEnd hs.putTag.takeDecide

theorem State.Keeps.magTaskData {p r ofs last data} (hs : s₀.Keeps s) : s₀.Keeps (s.magTaskData p r ofs last data) :=
  .ite hs (
    have h1 := hs.placeArrived.putTag.writeRecord
    .ite h1.addF.docketEnd (.ite h1 (.ite h1.armDecide (.ite h1.landWhole.magRelease h1.arrivedWhole))))

theorem State.Keeps.execMagTaskReset {port err f} (hs : s₀.Keeps s) : s₀.Goes (execMagTaskReset port err f s) :=
  .next (hs.magRecv (fun _ _ hs => hs.magAbortAll.foldl (fun _ _ hs => .ite hs.putMagTask hs)))

theorem State.Keeps.execMagAbort {port err f} (hs : s₀.Keeps s) : s₀.Goes (execMagAbort port err f s) :=
  .next (hs.magRecv (fun _ _ hs => .ite hs.magSend (.ite hs.abortTag.abortLater hs.abortTag.magSend)))

theorem State.Keeps.twinSend {p st} (hs : s₀.Keeps s) : s₀.Keeps (s.twinSend p st) :=
  .ite hs.setF.setF.magSend hs.setF.setF

theorem State.Keeps.twinTell (hs : s₀.Keeps s) : s₀.Keeps s.twinTell := .ite hs.sendAct hs

theorem State.Keeps.twinHear {l} (hs : s₀.Keeps s) : s₀.Keeps (s.twinHear l) := hs.foldl (fun _ _ hs => hs.setF)

theorem State.Keeps.twinServe {cs} (hs : s₀.Keeps s) : s₀.Keeps (s.twinServe cs) :=
  .ite hs (.twinTell (hs.foldl (fun _ _ hs => hs.addF.twinSend)))

theorem State.Keeps.twinHandback {cs} (hs : s₀.Keeps s) : s₀.Keeps (s.twinHandback cs) :=
  hs.foldl (fun _ _ hs => hs.twinSend)

theorem State.Keeps.execTwinTick {port} (hs : s₀.Keeps s) : s₀.Goes (execTwinTick port s) :=
  .next (.ite hs.twinSend hs)

theorem State.Keeps.execHandbackDrained {port} (hs : s₀.Keeps s) : s₀.Goes (execHandbackDrained port s) :=
  .next (.ite hs.twinSend hs)

theorem State.Keeps.execMagTwin {port err f} (hs : s₀.Keeps s) : s₀.Goes (execMagTwin port err f s) :=
  .next (hs.magRecv (fun _ _ hs => hs.putMagPort))

theorem State.Keeps.execMagAbortReply {port err f} (hs : s₀.Keeps s) : s₀.Goes (execMagAbortReply port err f s) :=
  .next (hs.magRecv (fun _ _ hs => hs))

theorem State.Keeps.execMagNotice {port err f} (hs : s₀.Keeps s) : s₀.Goes (execMagNotice port err f s) :=
  .next (hs.magRecv (fun _ _ hs => hs))

theorem State.Keeps.twinStatuses {p} (hs : s₀.Keeps s) : s₀.Keeps (s.twinStatuses p) := by
  unfold State.twinStatuses
  refine .ite (hs.putMagPort.foldl (fun _ _ hs => ?_)) hs
  split
  · exact hs.magSend
  · exact hs

/-! #### Repl -/

theorem State.Keeps.vaultSet {v vault} (hs : s₀.Keeps s) : s₀.Keeps (s.vaultSet v vault).2 := .iteSnd hs hs.setF

theorem State.Keeps.volCfgSet {v vault dedup} (hs : s₀.Keeps s) : s₀.Keeps (s.volCfgSet v vault dedup).2 :=
  .ite hs.vaultSet.setF hs

theorem State.Keeps.volCfgWrite {w} (hs : s₀.Keeps s) : s₀.Keeps (s.volCfgWrite w) :=
  .ite hs.setF.stat (.ite hs.stat (.ite hs.answer.askAct hs.volCfgSet.stat))

theorem State.Keeps.execSieveVaultWrite {v} (hs : s₀.Keeps s) : s₀.Goes (execSieveVaultWrite v s) :=
  .next hs.volCfgWrite

theorem State.Keeps.putSnap {v e x} (hs : s₀.Keeps s) : s₀.Keeps (s.putSnap v e x) := hs.upd.setF

theorem State.Keeps.snapTake {vs e} (hs : s₀.Keeps s) : s₀.Keeps (s.snapTake vs e) :=
  .foldl (.tick (.setF (hs.foldl (fun _ _ hs => hs.putSnap)))) (fun _ _ hs => .ite hs hs.dbCommit)

theorem State.Keeps.snapRequest {f} (hs : s₀.Keeps s) (hf : ∀ u, s₀.Keeps u → s₀.Keeps (f u)) : s₀.Keeps (s.snapRequest f) :=
  .ite hs.answer (hf _ hs)

theorem State.Keeps.execSnapTake (hs : s₀.Keeps s) : s₀.Goes (execSnapTake s) :=
  .next (hs.snapRequest (fun _ hs => .ite hs.stat (.ite hs.stat (.ite hs.stat (.ite hs.snapTake.setF.stat (.ite
    hs.upd.setF.answer.askAct hs.stat))))))

theorem State.Keeps.barrierEnd {epoch} (hs : s₀.Keeps s) : s₀.Keeps (s.barrierEnd epoch) := by
  unfold State.barrierEnd
  split
  · exact hs.upd.setF.setF.setF
  · exact hs.upd.setF.setF

theorem State.Keeps.execSnapDelete (hs : s₀.Keeps s) : s₀.Goes (execSnapDelete s) :=
  .next (hs.snapRequest (fun _ hs => .ite hs.stat (.ite hs.stat hs.putSnap.stat)))

theorem State.Keeps.execSnapPresent (hs : s₀.Keeps s) : s₀.Goes (execSnapPresent s) :=
  .next (hs.snapRequest (fun _ hs => .ite hs.stat (.ite hs.stat (.ite hs.stat hs.putSnap.putVol.setF.setF.streamOpenVol.stat))))

theorem State.Keeps.execSnapWithdraw (hs : s₀.Keeps s) : s₀.Goes (execSnapWithdraw s) :=
  .next (hs.snapRequest (fun _ hs => .ite hs.stat hs.putSnap.putVol.streamClose.setF.stat))

theorem State.Keeps.setLink {k st} (hs : s₀.Keeps s) : s₀.Keeps (s.setLink k st) := hs.setF.setF

theorem State.Keeps.linkStatus {k st} (hs : s₀.Keeps s) : s₀.Keeps (s.linkStatus k st) := hs.setF

theorem State.Keeps.replSend {peer vault rec_ w} (hs : s₀.Keeps s) : s₀.Keeps (s.replSend peer vault rec_ w) :=
  hs.carSend

theorem State.Keeps.linkSend {k type epoch count body} (hs : s₀.Keeps s) : s₀.Keeps (s.linkSend k type epoch count body) :=
  hs.replSend

theorem State.Keeps.snapRelease {v e1} (hs : s₀.Keeps s) : s₀.Keeps (s.snapRelease v e1) :=
  .ite hs (.ite hs.putSnap hs)

theorem State.Keeps.linkGo {k} (hs : s₀.Keeps s) : s₀.Keeps (s.linkGo k) := by
  unfold State.linkGo
  refine .ite hs (.ite hs.putLink.linkSend (.ite ?_ hs.setLink.linkSend))
  split
  · exact hs
  · exact .ite hs hs.putLink.accept

theorem State.Keeps.batchSend {k} (hs : s₀.Keeps s) : s₀.Keeps (s.batchSend k) := hs.putLink.linkGo

theorem State.Keeps.batchNew {k st grains} (hs : s₀.Keeps s) : s₀.Keeps (s.batchNew k st grains) :=
  .ite hs.linkStatus hs.snapTake.setLink.setF.setF.putLink.batchSend

theorem State.Keeps.linkCycle {k} (hs : s₀.Keeps s) : s₀.Keeps (s.linkCycle k) := hs.batchNew

theorem State.Keeps.linkCatchUp {k} (hs : s₀.Keeps s) : s₀.Keeps (s.linkCatchUp k) := by
  unfold State.linkCatchUp
  exact hs.putLink.batchNew

theorem State.Keeps.linkOpen {k} (hs : s₀.Keeps s) : s₀.Keeps (s.linkOpen k) := hs.setLink.linkSend

theorem State.Keeps.execReplOpen (hs : s₀.Keeps s) : s₀.Goes (execReplOpen s) :=
  .next (.ite hs.stat (.ite hs.stat (.ite hs.stat (.ite hs.stat (.ite hs.setLink.linkStatus.stat hs.setF.linkOpen.stat)))))

theorem State.Keeps.waitsEnd {k st} (hs : s₀.Keeps s) : s₀.Keeps (s.waitsEnd k st) :=
  hs.putLink.setF.foldl (fun _ _ hs => .ite hs.docketEnd hs.docketEnd)

theorem State.Keeps.execReplClose (hs : s₀.Keeps s) : s₀.Goes (execReplClose s) :=
  .next hs.waitsEnd.putLink.snapRelease.snapRelease.setLink.stat

theorem State.Keeps.execReplCycleNow (hs : s₀.Keeps s) : s₀.Goes (execReplCycleNow s) :=
  .next (.ite hs.linkCycle.stat hs.stat)

theorem State.Keeps.execReplCycleExpiry {link} (hs : s₀.Keeps s) : s₀.Goes (execReplCycleExpiry link s) :=
  .next (.ite hs.linkCycle hs)

theorem State.Keeps.recOpenReply {k body} (hs : s₀.Keeps s) : s₀.Keeps (s.recOpenReply k body) :=
  .ite hs (.ite hs.setLink.linkStatus (
    have h2 := State.Keeps.ite hs.linkStatus.setF hs.linkStatus.setF.snapRelease.putLink
    .ite (.ite h2.setLink.batchSend h2.setLink) h2.putLink.linkCatchUp))

theorem State.Keeps.recHave {k body} (hs : s₀.Keeps s) : s₀.Keeps (s.recHave k body) := .ite hs hs.putLink.linkGo

theorem State.Keeps.copyEnd {k st} (hs : s₀.Keeps s) : s₀.Keeps (s.copyEnd k st) :=
  .ite hs (.ite hs.putLink.linkGo hs.putLink.linkStatus)

theorem State.Keeps.replCount {rec_} (hs : s₀.Keeps s) : s₀.Keeps (s.replCount rec_) :=
  .ite hs (.ite hs.putLink.addN (.ite hs.putLink hs))

theorem State.Keeps.recCommitAck {k body} (hs : s₀.Keeps s) : s₀.Keeps (s.recCommitAck k body) :=
  .ite hs (.ite hs.linkStatus.setLink.batchSend (
    have h1 := hs.linkStatus.setF.snapRelease
    .ite h1.putLink.setLink (.ite h1.snapRelease.putLink.setLink h1.snapRelease.putLink.linkCatchUp)))

theorem State.Keeps.syncSend {tag vol reeve us last st det}
    (hs : s₀.Keeps s) : s₀.Keeps (s.syncSend tag vol reeve us last st det) :=
  hs.foldl (fun _ _ hs =>
    have h1 := hs.foldl (fun _ _ hs => hs.linkSend)
    .ite h1 h1.putLink.setF)

theorem State.Keeps.recSyncAck {k body} (hs : s₀.Keeps s) : s₀.Keeps (s.recSyncAck k body) := by
  unfold State.recSyncAck
  dsimp only
  split
  · exact hs
  · exact
        have h2 := State.Keeps.ite hs.putLink.setF hs.putLink.setF.linkStatus
        .ite h2 (.ite h2.docketEnd h2.docketEnd)

theorem State.Keeps.linkLost {k} (hs : s₀.Keeps s) : s₀.Keeps (s.linkLost k) :=
  .ite hs (.ite hs.snapRelease.putLink.setLink.waitsEnd (.ite hs.putLink.linkOpen hs))

theorem State.Keeps.execSyncAckTimeout {link} (hs : s₀.Keeps s) : s₀.Goes (execSyncAckTimeout link s) :=
  .next (.ite hs hs.linkLost)

theorem State.Keeps.execReplLinkLost {link} (hs : s₀.Keeps s) : s₀.Goes (execReplLinkLost link s) := .next hs.linkLost

theorem State.Keeps.execReplLinkReturn {link} (hs : s₀.Keeps s) : s₀.Goes (execReplLinkReturn link s) :=
  .next (.ite hs (.ite hs.linkCatchUp (.ite hs.linkOpen hs)))

theorem State.Keeps.rxSend {peer link batch epoch vault type body}
    (hs : s₀.Keeps s) : s₀.Keeps (s.rxSend peer link batch epoch vault type body) :=
  hs.replSend

theorem State.Keeps.stageDrop {k} (hs : s₀.Keeps s) : s₀.Keeps (s.stageDrop k) :=
  .putLink (.foldl (hs.foldl (fun _ _ hs => hs.sieveUndo)) (fun _ _ hs => hs.putExtent))

theorem State.Keeps.recOpen {peer link batch body} (hs : s₀.Keeps s) : s₀.Keeps (s.recOpen peer link batch body) :=
  .rxSend (.ite hs hs.stageDrop.putLink.putVol.setF)

theorem State.Keeps.recOffer {peer link batch epoch count body} (hs : s₀.Keeps s) :
    s₀.Keeps (s.recOffer peer link batch epoch count body) :=
  .ite (.rxSend (.foldlFst hs fun _ _ hs => .iteFst hs.sieveApply.putLink hs)) hs

theorem State.Keeps.replPlace {vol leaf addr tweak data} (hs : s₀.Keeps s) :
    s₀.Keeps (s.replPlace vol leaf addr tweak data).2 := by
  unfold State.replPlace
  refine .iteSnd hs ?_
  split
  · exact hs
  · next h => exact (hs.slotAlloc h).upd.putPlace.putExtent.mirror

theorem State.Keeps.recGrain {peer link body} (hs : s₀.Keeps s) : s₀.Keeps (s.recGrain peer link body) := by
  unfold State.recGrain
  refine .ite hs ?_
  dsimp only
  split
  · exact hs.replPlace.putLink
  · exact hs.replPlace.putLink

theorem State.Keeps.recUnmap {peer link count body} (hs : s₀.Keeps s) : s₀.Keeps (s.recUnmap peer link count body) :=
  .ite hs.putLink hs

theorem State.Keeps.recCommit {peer link batch epoch body}
    (hs : s₀.Keeps s) : s₀.Keeps (s.recCommit peer link batch epoch body) :=
  .ite hs (.ite hs.commitGroup.putLink.rxSend hs.stageDrop.putLink.rxSend)

theorem State.Keeps.syncPlace {vol n l} (hs : s₀.Keeps s) : s₀.Keeps (State.syncPlace vol n l s).2.2 := by
  induction n generalizing s l with
  | zero => exact hs
  | succ n ih =>
    unfold State.syncPlace
    refine .iteTrd hs ?_
    dsimp only
    split
    · exact hs.replPlace
    · exact ih hs.replPlace

theorem State.Keeps.recSyncWrite {peer link body} (hs : s₀.Keeps s) : s₀.Keeps (s.recSyncWrite peer link body) :=
  .ite hs (.ite hs.putLink (.rxSend (.ite hs.putLink.syncPlace.commitGroup hs.putLink.syncPlace)))

theorem State.Keeps.replTake {peer r} (hs : s₀.Keeps s) : s₀.Keeps (s.replTake peer r) := by
  unfold State.replTake
  split
  · exact hs.recOpen
  · exact hs.recOpenReply
  · exact hs.recOffer
  · exact hs.recHave
  · exact hs.recGrain
  · exact hs.recUnmap
  · exact hs.recCommit
  · exact hs.recCommitAck
  · exact hs.recSyncWrite
  · exact hs.recSyncAck
  · exact .ite hs.linkStatus hs.putLink

theorem State.Keeps.execReplRecOpen {peer link batch body} (hs : s₀.Keeps s) : s₀.Goes (execReplRecOpen peer link batch body s) :=
  .next hs.recOpen

theorem State.Keeps.execReplRecOpenReply {link body} (hs : s₀.Keeps s) : s₀.Goes (execReplRecOpenReply link body s) :=
  .next hs.recOpenReply

theorem State.Keeps.execReplRecOffer {peer link batch epoch count body}
    (hs : s₀.Keeps s) : s₀.Goes (execReplRecOffer peer link batch epoch count body s) :=
  .next hs.recOffer

theorem State.Keeps.execReplRecHave {link body} (hs : s₀.Keeps s) : s₀.Goes (execReplRecHave link body s) :=
  .next hs.recHave

theorem State.Keeps.execReplRecGrain {peer link body} (hs : s₀.Keeps s) : s₀.Goes (execReplRecGrain peer link body s) :=
  .next hs.recGrain

theorem State.Keeps.execReplRecUnmap {peer link count body}
    (hs : s₀.Keeps s) : s₀.Goes (execReplRecUnmap peer link count body s) :=
  .next hs.recUnmap

theorem State.Keeps.execReplRecCommit {peer link batch epoch body}
    (hs : s₀.Keeps s) : s₀.Goes (execReplRecCommit peer link batch epoch body s) :=
  .next hs.recCommit

theorem State.Keeps.execReplRecCommitAck {link body} (hs : s₀.Keeps s) : s₀.Goes (execReplRecCommitAck link body s) :=
  .next hs.recCommitAck

theorem State.Keeps.execReplRecSyncWrite {peer link body} (hs : s₀.Keeps s) : s₀.Goes (execReplRecSyncWrite peer link body s) :=
  .next hs.recSyncWrite

theorem State.Keeps.execReplRecSyncAck {link body} (hs : s₀.Keeps s) : s₀.Goes (execReplRecSyncAck link body s) :=
  .next hs.recSyncAck

/-! #### Adopt -/

theorem State.Keeps.extentEnsure {a e} (hs : s₀.Keeps s) : s₀.Keeps (s.extentEnsure a e) := .ite hs.putExtent hs

theorem State.Keeps.grainSet {own g w} (hs : s₀.Keeps s) : s₀.Keeps (s.grainSet own g w) :=
  have h3 := State.Keeps.foldl (State.Keeps.foldl (hs.upd.foldl (fun _ _ hs => hs.extentEnsure)) (fun _ _ hs => hs.nameAdd))
    (fun _ _ hs => hs.nameDrop)
  .ite h3.pageDirty h3.upd

theorem State.Keeps.itemApply {own a e} (hs : s₀.Keeps s) : s₀.Keeps (s.itemApply own a e) := hs.grainSet

theorem State.Keeps.chunkNote {loc id slc} (hs : s₀.Keeps s) : s₀.Keeps (s.chunkNote loc id slc) := .ite hs hs.putDie

theorem State.Keeps.sheafClose {c sheaf lsn locs slc flags}
    (hs : s₀.Keeps s) : s₀.Keeps (s.sheafClose c sheaf lsn locs slc flags) :=
  .upd (hs.putSheaf.foldl (fun _ _ hs => hs.chunkNote))

theorem State.Keeps.recApply {own c r} (hs : s₀.Keeps s) : s₀.Keeps (s.recApply own c r) := by
  unfold State.recApply
  split
  · exact hs.foldl (fun _ _ hs => hs.itemApply)
  · exact hs.foldl (fun _ _ hs => hs.itemApply)
  · exact hs.upd.grainSet
  · exact hs.foldl (fun _ _ hs => hs.sieveApply)
  · exact hs.sheafClose
  · exact hs.putSheaf.chunkNote
  · exact .ite hs.putDie hs
  · exact hs.pageMoved
  · exact
        have h1 := hs.foldl (fun _ _ hs => State.Keeps.ite hs.putSnap hs)
        .ite h1.setF h1
  · exact .ite hs hs.putLink
  · exact hs

theorem State.Keeps.overlayPut {c g} (hs : s₀.Keeps s) : s₀.Keeps (s.overlayPut c g) := hs.upd

theorem State.Keeps.overlayTake {c l} (hs : s₀.Keeps s) : s₀.Keeps (s.overlayTake c l) :=
  .upd (hs.foldl (fun _ _ hs => hs.overlayPut))

theorem State.Keeps.overlayApply {own c below} (hs : s₀.Keeps s) : s₀.Keeps (s.overlayApply own c below) :=
  .upd (hs.foldl (fun _ _ hs => hs.recApply))

theorem State.Keeps.volFound {c x} (hs : s₀.Keeps s) : s₀.Keeps (s.volFound c x) := .ite hs hs.putVol

theorem State.Keeps.flashLoad {f} (hs : s₀.Keeps s) : s₀.Keeps (s.flashLoad f) :=
  .foldl (.upd (.foldl (.foldl (.foldl (.foldl (.upd (.foldl (hs.foldl (fun _ _ hs => hs.volFound)) (fun _ _ hs => hs.putDie)))
    (fun _ _ hs => hs.sheafClose)) (fun _ _ hs => hs.pageMoved)) (fun _ _ hs => hs.grainSet))
      (fun _ _ hs => hs.putRec.extentEnsure.putExtent))) (fun _ _ hs => hs.putSnap)

theorem State.Keeps.settle {c x scan} (hs : s₀.Keeps s) : s₀.Keeps (s.settle c x scan) :=
  .ite hs.upd (
    have h2 := hs.upd.foldl (fun _ _ hs => State.Keeps.ite hs.chunkNote hs)
    .ite (.ite h2.putSheaf.ledgerNote.sheafClose (h2.putSheaf.ledgerNote.foldl (fun _ _ hs => hs.progChunk))) (.ite h2.sheafClose
      h2.putSheaf.ledgerNote))

theorem State.Keeps.lossRecord {blk code n items} (hs : s₀.Keeps s) : s₀.Keeps (s.lossRecord blk code n items) :=
  hs.regEvent

theorem State.Keeps.recBegin {c} (hs : s₀.Keeps s) : s₀.Keeps (s.recBegin c) :=
  .setF (.upd (.ite hs hs.setN.setN.setN))

theorem State.Keeps.cmnRecover {f} (hs : s₀.Keeps s) : s₀.Keeps (s.cmnRecover f) := by
  unfold State.cmnRecover
  extract_lets c _ _ _ s1 _
  have h1 : s₀.Keeps s1 := hs.recBegin.flashLoad
  clear_value s1
  split
  extract_lets _ s2 s3 _ go _ s4 s5 s6 _ s7 s8 s9 s10 _ s11 s12
  have h2 : s₀.Keeps s2 := h1.foldl fun _ _ hs => .ite hs.recApply hs
  have h3 : s₀.Keeps s3 := h2.foldl fun _ _ hs => hs.settle
  have h4 : s₀.Keeps s4 := .foldlSnd h3 fun _ _ hs => .iteSnd hs (hs.foldl fun _ _ hs => hs.recApply)
  clear_value s4
  have h7 : s₀.Keeps s7 := h4.setN.setN.setN.setF.setF.putDb
  clear_value s7
  have h9 : s₀.Keeps s9 := (h7.addF.setF.addF.addF.setF).foldl fun _ _ hs => hs.calibrate
  clear_value s9
  have h10 : s₀.Keeps s10 := .ite h9.addF.addF h9
  clear_value s10
  have h11 : s₀.Keeps s11 := .ite h10 h10.lossRecord.alarm
  clear_value s11
  have h12 : s₀.Keeps s12 := .ite h11.log (.ite h11.alarm h11)
  exact .ite h12.alarm.resyncStart (.ite h12.log h12)

theorem State.Keeps.placeAdopt {c m} (hs : s₀.Keeps s) : s₀.Keeps (s.placeAdopt c m) := .ite hs.upd.putPlace hs

theorem State.Keeps.placeAgain {k} (hs : s₀.Keeps s) : s₀.Keeps (s.placeAgain k) := by
  unfold State.placeAgain
  refine .ite hs ?_
  split
  · exact hs
  · next h =>
    exact
      have h1 := (hs.slotAlloc h).putExtent
      .commitGroup (.putPlace (.mirror (.putExtent (.ite h1 h1.putRec))))

theorem State.Keeps.dataAdopt {c} (hs : s₀.Keeps s) : s₀.Keeps (s.dataAdopt c) :=
  .foldl (hs.foldl (fun _ _ hs => hs.placeAdopt)) (fun _ _ hs => hs.wrBytes)

theorem State.Keeps.regionAdopt {k} (hs : s₀.Keeps s) : s₀.Keeps (s.regionAdopt k) :=
  .frameGenAll (hs.foldl (fun _ _ hs => hs.putTake))

theorem State.Keeps.takeAdopt {k} (hs : s₀.Keeps s) : s₀.Keeps (s.takeAdopt k) := by
  unfold State.takeAdopt
  refine .ite hs.upd ?_
  dsimp only
  split
  · exact hs.upd
  · next h =>
    exact
      have h1 := hs.upd.createQueue h
      have h2 := (State.Keeps.ite h1 h1.setF.setF.setF.setF.setF.setF.setF).putTake.streamOpenTake
      .tick (.magClass (.regionAdopt (.ite h2 h2.addF.addF)))

theorem State.Keeps.cmdAdopt {t} (hs : s₀.Keeps s) : s₀.Keeps (s.cmdAdopt t) :=
  .ite hs.upd.upd.tick (.ite hs.upd.putMagPort.tick hs.upd)

theorem State.Keeps.cmnAdopt {fl c} (hs : s₀.Keeps s) : s₀.Keeps (s.cmnAdopt fl c) := by
  unfold State.cmnAdopt
  refine
    have h1 : s₀.Keeps _ := ?_
    .ite h1.upd.claim (.holdRecount (.upd (.ckptStart (.setF (.upd (.upd (.foldl (.dataAdopt (.upd
      (h1.upd.claim.overlayApply.setN.foldl (fun _ _ hs => hs.settle)))) (fun _ _ hs => hs.placeAgain))))))))
  split
  · exact hs.flashLoad.setN.setF.putDb
  · exact hs

theorem State.Keeps.adopt {fl cs} (hs : s₀.Keeps s) : s₀.Keeps (s.adopt fl cs) :=
  .slcRecompute (.tillFlags (.setF (.upd (.foldl (hs.foldl (fun _ _ hs => hs.cmnAdopt)) (fun _ _ hs => .ite hs.takeAdopt
    hs.cmdAdopt)))))

/-! #### Strong -/

theorem State.Keeps.keyNote {op target ident} (hs : s₀.Keeps s) : s₀.Keeps (s.keyNote op target ident) :=
  hs.hallmarkExtend.regEvent

theorem State.Keeps.vaultStore {v ident wrapped m} (hs : s₀.Keeps s) : s₀.Keeps (s.vaultStore v ident wrapped m) :=
  hs.upd.keyStore

theorem State.Keeps.vaultTake {op v b} (hs : s₀.Keeps s) : s₀.Keeps (s.vaultTake op v b).2 := by
  unfold State.vaultTake
  refine .iteSnd hs ?_
  split
  · exact hs.addN
  · exact .iteSnd hs (.iteSnd hs hs.vaultStore.keyNote)

theorem State.Keeps.vaultErase {v} (hs : s₀.Keeps s) : s₀.Keeps (s.vaultErase v) := hs.zeroAccept.zeroSweep.upd

theorem State.Keeps.keyApply {op target b} (hs : s₀.Keeps s) : s₀.Keeps (s.keyApply op target b).2 := by
  unfold State.keyApply
  refine .iteSnd hs ?_
  split
  · refine .iteSnd hs ?_
    split
    · exact hs
    · exact .iteSnd hs hs.upd.keyStore.setN.setF.keyNote
  · exact .iteSnd hs hs.upd.setN.keyNote
  · exact hs.vaultTake
  · exact hs.upd.keyNote
  · exact hs.vaultTake
  · exact hs.vaultErase.keyNote
  · refine .iteSnd hs ?_
    split
    · exact hs.addN
    · exact .iteSnd hs hs.upd.keyStore.keyNote

theorem State.Keeps.vaultDraw {v n} (hs : s₀.Keeps s) : s₀.Keeps (s.vaultDraw v n).2 := by
  induction n generalizing s with
  | zero => exact hs
  | succ n ih =>
    unfold State.vaultDraw
    split
    next h =>
    split
    next h' =>
    have h2 := (hs.drawBytes.snd h).draw.snd h'
    exact .iteSnd (ih h2) h2

theorem State.Keeps.keyEnd {st} (hs : s₀.Keeps s) : s₀.Keeps (s.keyEnd st) := hs.upd.setF.setF

theorem State.Keeps.keyGo {op target} (hs : s₀.Keeps s) : s₀.Keeps (s.keyGo op target) :=
  .ite hs.stat (.ite hs.setF.keyEnd.answer (.ite hs.setF.keyEnd.answer (
    have h2 := State.Keeps.iteSnd hs.setF.vaultDraw hs.setF
    .ite h2.upd.setF.answer.askAct h2.keyApply.keyEnd.answer)))

theorem State.Keeps.execKeyImportOmk (hs : s₀.Keeps s) : s₀.Goes (execKeyImportOmk s) := .next hs.keyGo

theorem State.Keeps.execKeyEnrollProgkey (hs : s₀.Keeps s) : s₀.Goes (execKeyEnrollProgkey s) := .next hs.keyGo

theorem State.Keeps.execKeyVaultCreate {vault} (hs : s₀.Keeps s) : s₀.Goes (execKeyVaultCreate vault s) :=
  .next hs.keyGo

theorem State.Keeps.execKeyVaultExport {vault} (hs : s₀.Keeps s) : s₀.Goes (execKeyVaultExport vault s) :=
  .next hs.keyGo

theorem State.Keeps.execKeyVaultImport {vault} (hs : s₀.Keeps s) : s₀.Goes (execKeyVaultImport vault s) :=
  .next hs.keyGo

theorem State.Keeps.execKeyVaultDelete {vault} (hs : s₀.Keeps s) : s₀.Goes (execKeyVaultDelete vault s) :=
  .next hs.keyGo

theorem State.Keeps.execKeySessionLoad {slot} (hs : s₀.Keeps s) : s₀.Goes (execKeySessionLoad slot s) := .next hs.keyGo

theorem State.Keeps.execKeyData {v} (hs : s₀.Keeps s) : s₀.Goes (execKeyData v s) := .next hs.upd.answer

theorem State.Keeps.execAuthData {v} (hs : s₀.Keeps s) : s₀.Goes (execAuthData v s) := .next hs.upd.answer

theorem State.Keeps.nonceDraw (hs : s₀.Keeps s) : s₀.Keeps s.nonceDraw := by
  unfold State.nonceDraw
  split
  · next h => exact (hs.drawBytes.snd h).upd.foldl fun _ _ hs => hs.setN

theorem State.Keeps.nonceRead (hs : s₀.Keeps s) : s₀.Keeps s.nonceRead.2 := hs.nonceDraw.setN

theorem State.Keeps.execAuthNonceRead (hs : s₀.Keeps s) : s₀.Goes (execAuthNonceRead s) := .next hs.nonceRead.answer

theorem State.Keeps.execNonceExpiry (hs : s₀.Keeps s) : s₀.Goes (execNonceExpiry s) := .next hs.upd

theorem State.Keeps.grantUsed (hs : s₀.Keeps s) : s₀.Keeps s.grantUsed := hs.upd

theorem State.Keeps.fwUpload {f} (hs : s₀.Keeps s) (hf : ∀ x u, s₀.Keeps u → s₀.Keeps (f x u)) :
    s₀.Keeps (s.fwUpload f) := .ite hs.stat (.ite (hf _ _ hs) hs.stat)

theorem State.Keeps.bankDrop {b state} (hs : s₀.Keeps s) : s₀.Keeps (s.bankDrop b state) := hs.upd.setN.setF.setF.setN

theorem State.Keeps.execFwBegin (hs : s₀.Keeps s) : s₀.Goes (execFwBegin s) :=
  .next (hs.fwUpload (fun _ _ hs => hs.bankDrop.stat))

theorem State.Keeps.execFwData {v} (hs : s₀.Keeps s) : s₀.Goes (execFwData v s) :=
  .next (hs.fwUpload (fun _ _ hs => .ite hs.answer hs.upd.addN.answer))

theorem State.Keeps.execFwEndBlock (hs : s₀.Keeps s) : s₀.Goes (execFwEndBlock s) :=
  .next (hs.fwUpload (fun _ _ hs =>
    have h2 := State.Keeps.ite hs.upd.setN.upd.setF.setF.setF hs.upd.setN.upd.setF
    .ite hs.stat (.ite hs.upd.setN.stat (.ite (.ite h2.stat hs.upd.setN.stat) (.ite h2.stat hs.upd.setN.stat)))))

theorem State.Keeps.execFwVerify (hs : s₀.Keeps s) : s₀.Goes (execFwVerify s) :=
  .next (hs.fwUpload (fun _ _ hs => .ite hs.stat (.ite hs.stat (.ite hs.stat hs.setF.stat))))

theorem State.Keeps.execFwAbort (hs : s₀.Keeps s) : s₀.Goes (execFwAbort s) :=
  .next (hs.fwUpload (fun _ _ hs => .stat (.ite hs.bankDrop hs)))

theorem State.Keeps.selectorWrite {what active committed secMin}
    (hs : s₀.Keeps s) : s₀.Keeps (s.selectorWrite what active committed secMin) :=
  hs.upd.setF.setF.hallmarkExtend.regEvent

theorem State.Keeps.fwCommit (hs : s₀.Keeps s) : s₀.Keeps s.fwCommit := by
  unfold State.fwCommit
  refine .ite ?_ hs.selectorWrite.setF
  split
  · exact hs.selectorWrite.setF.upd.setF
  · exact hs.selectorWrite.setF

theorem State.Keeps.autoCommit (hs : s₀.Keeps s) : s₀.Keeps s.autoCommit := .ite hs.fwCommit hs

theorem State.Keeps.execFwCommit (hs : s₀.Keeps s) : s₀.Goes (execFwCommit s) :=
  .next (.ite hs.stat (.ite hs.stat hs.fwCommit.stat))

theorem State.Keeps.activate {what} (hs : s₀.Keeps s) : s₀.Keeps (s.activate what) :=
  hs.selectorWrite.setF.setF.upd.setN.setN

theorem State.Keeps.featSet {offer persist} (hs : s₀.Keeps s) : s₀.Keeps (s.featSet offer persist).2 :=
  .iteSnd hs (.iteSnd hs (.iteSnd hs (hs.upd.foldl (fun _ _ hs => .ite hs.setN.setN hs.setN))))

theorem State.Keeps.mgmtWords (hs : s₀.Keeps s) : s₀.Keeps s.mgmtWords := hs.foldl (fun _ _ hs => hs.setN)

theorem State.Keeps.rollOffer (hs : s₀.Keeps s) : s₀.Keeps s.rollOffer.2 := .iteSnd hs.featSet.upd hs.featSet

theorem State.Keeps.rollEnd {failed} (hs : s₀.Keeps s) : s₀.Keeps (s.rollEnd failed) := hs.upd.setF.setF.setF

theorem State.Keeps.paired (hs : s₀.Keeps s) : s₀.Keeps s.paired := .ite hs.autoCommit hs.autoCommit.upd

theorem State.Keeps.execQuoteGo (hs : s₀.Keeps s) : s₀.Goes (execQuoteGo s) := .next hs.upd.tick.stat

/-! #### Hands -/

theorem State.Keeps.handSet {h st cause} (hs : s₀.Keeps s) : s₀.Keeps (s.handSet h st cause) :=
  hs.capTriggerIf.setF.setF.setF.setF.setF.setF

theorem State.Keeps.handsIn (hs : s₀.Keeps s) : s₀.Keeps s.handsIn := hs.foldl (fun _ _ hs => .ite hs hs.handSet)

theorem State.Keeps.dispatch {t} (hs : s₀.Keeps s) : s₀.Keeps (s.dispatch t) := by
  unfold State.dispatch
  refine .ite hs (.ite hs.docketEnd ?_)
  split
  · exact hs
  · exact hs.draw.upd.putTag.mirrorTag

theorem State.Keeps.execDispatch {tag} (hs : s₀.Keeps s) : s₀.Goes (execDispatch tag s) := .next hs.dispatch

theorem State.Keeps.recipeSweep (hs : s₀.Keeps s) : s₀.Keeps s.recipeSweep := hs.foldl (fun _ _ hs => hs.upd)

theorem State.Keeps.handOut {h cause} (hs : s₀.Keeps s) : s₀.Keeps (s.handOut h cause) :=
  have h1 := hs.handSet.spareCall.holdRestart
  have h2 := State.Keeps.ite h1 h1.tollCap
  .ite h2.alarm h2

theorem State.Keeps.drainEnd {h cause} (hs : s₀.Keeps s) : s₀.Keeps (s.drainEnd h cause) :=
  .ite hs.upd.setF.handSet hs.upd.setF.handOut

theorem State.Keeps.drainBegin {h cause} (hs : s₀.Keeps s) : s₀.Keeps (s.drainBegin h cause) :=
  .ite hs.handSet.upd.setF.capTrigger.drainEnd hs.handSet.upd.setF.capTrigger

theorem State.Keeps.drainTry {h cause} (hs : s₀.Keeps s) : s₀.Keeps (s.drainTry h cause).2 :=
  .iteSnd hs (.iteSnd hs (.iteSnd hs.setF hs.drainBegin))

theorem State.Keeps.drainNext {l} (hs : s₀.Keeps s) : s₀.Keeps (State.drainNext l s) := by
  induction l generalizing s with
  | nil => exact hs.upd
  | cons x r ih => exact .ite hs.upd.setF (ih hs.drainTry.setF)

theorem State.Keeps.drainSweep (hs : s₀.Keeps s) : s₀.Keeps s.drainSweep := by
  unfold State.drainSweep
  split
  · exact hs
  · exact .ite hs hs.drainEnd.drainNext

theorem State.Keeps.sendRead {t g n} (hs : s₀.Keeps s) : s₀.Keeps (s.sendRead t g n) :=
  .ite hs.send (.ite (hs.foldl (fun _ _ hs => hs.carSend)) (.ite hs.magData hs))

theorem State.Keeps.endPass {t st det0 us reeve} (hs : s₀.Keeps s) : s₀.Keeps (s.endPass t st det0 us reeve) := by
  unfold State.endPass
  refine
    .ite ?_ (
      have h1 := State.Keeps.ite hs.syncSend hs
      .ite h1.putTag.tollServe (.ite h1.putTag.tollServe (.ite h1.docketEnd.copyEnd h1.docketEnd)))
  split
  · exact hs.sendRead.docketEnd
  · exact hs.sendRead.addN.docketEnd

theorem State.Keeps.endFinish {e st det} (hs : s₀.Keeps s) : s₀.Keeps (s.endFinish e st det) :=
  .ite hs.upd.heldFreeAll.putCtx.endPass.recipeSweep.drainSweep hs.upd.heldFreeAll.putCtx

theorem State.Keeps.endGo {e ra} (hs : s₀.Keeps s) : s₀.Keeps (s.endGo e ra) :=
  .ite hs.discardGroup.endFinish (.ite (.yields (.putCtx (.ite hs.putTag hs))) (.ite hs.endFinish hs.discardGroup.endFinish))

theorem State.Keeps.execEndCtx {e ra} (hs : s₀.Keeps s) : s₀.Goes (execEndCtx e ra s) :=
  .next (hs.issue (fun _ _ hs => .ite hs.putCtx.endGo hs.putCtx.yields))

theorem State.Keeps.groupCommit {e} (hs : s₀.Keeps s) : s₀.Keeps (s.groupCommit e) := by
  unfold State.groupCommit
  dsimp only
  split
  · exact
        .ite hs (.ite hs.discardGroup.endFinish (
          have h1 := hs.foldl (fun _ _ hs => hs.commitGroup)
          have h2 := State.Keeps.ite h1.mirrorTag h1
          .ite h2.putCtx h2.putCtx.endFinish))
  · exact hs

theorem State.Keeps.execGroupCommit {e} (hs : s₀.Keeps s) : s₀.Goes (execGroupCommit e s) := .next hs.groupCommit

theorem State.Keeps.ackSweep (hs : s₀.Keeps s) : s₀.Keeps s.ackSweep := by
  unfold State.ackSweep
  refine hs.foldl (fun _ _ hs => ?_)
  split
  · exact .ite hs.endFinish hs
  · exact hs

theorem State.Keeps.kill {e cause by_} (hs : s₀.Keeps s) : s₀.Keeps (s.kill e cause by_) :=
  .ite hs (
    have h2 := State.Keeps.ite hs.log.setN.setN hs.log
    have h4 := State.Keeps.millKill (State.Keeps.heldFreeAll (State.Keeps.ite h2.upd h2.upd.discardGroup))
    .ite h4.putCtx (.ite h4.putCtx.putTag (.ite h4.putCtx.putTag.docketEnd.copyEnd h4.putCtx.putTag.docketEnd)))

theorem State.Keeps.execContextFreed {e} (hs : s₀.Keeps s) : s₀.Goes (execContextFreed e s) :=
  .next (.ite hs.putCtx.recipeSweep.drainSweep hs)

theorem State.Keeps.execTrapEntry {e} (hs : s₀.Keeps s) : s₀.Goes (execTrapEntry e s) :=
  .next (.ite hs (.ite hs.kill hs.putCtx))

theorem State.Keeps.testIdle (hs : s₀.Keeps s) : s₀.Keeps s.testIdle := hs.setF.setF

theorem State.Keeps.testNoted {r pass} (hs : s₀.Keeps s) : s₀.Keeps (s.testNoted r pass) :=
  have h1 := hs.setF.setF.setF.setN.tick
  .ite h1.setF.setF h1

theorem State.Keeps.testLost {r} (hs : s₀.Keeps s) : s₀.Keeps (s.testLost r) :=
  .testNoted (.ite (.ite hs.upd.testIdle.setF.setF hs.upd.testIdle.setF) (.ite (.ite hs.upd.testIdle.setF.setF
    hs.upd.testIdle.setF) (.ite (.ite hs.upd.testIdle.setF.setF hs.upd.testIdle.setF) hs.upd.testIdle)))

theorem State.Keeps.testAbandon (hs : s₀.Keeps s) : s₀.Keeps s.testAbandon := by
  unfold State.testAbandon
  split
  · exact hs
  · exact .ite hs.upd.setF.testIdle.upd.handSet.capTrigger (.ite hs.upd.setF.testIdle.upd.pressBack (.ite
    hs.upd.setF.testIdle.upd.millBack (.ite hs.upd.setF.testIdle.setF hs.upd.setF.testIdle)))

theorem State.Keeps.handKill {h cause} (hs : s₀.Keeps s) : s₀.Keeps (s.handKill h cause) := by
  unfold State.handKill
  refine
    .ite hs (
      have h4 : s₀.Keeps _ := ?_
      .ite h4 h4.drainNext)
  split
  · exact .ite (.testLost (.ite (hs.handOut.foldl (fun _ _ hs => hs.kill)) (.setF (.upd (hs.handOut.foldl
    (fun _ _ hs => hs.kill)))))) (.testAbandon (.ite (hs.handOut.foldl (fun _ _ hs => hs.kill)) (.setF (.upd (hs.handOut.foldl
      (fun _ _ hs => hs.kill))))))
  · exact .ite (hs.handOut.foldl (fun _ _ hs => hs.kill)) (.setF (.upd (hs.handOut.foldl (fun _ _ hs => hs.kill))))

theorem State.Keeps.handRetire {h cause} (hs : s₀.Keeps s) : s₀.Keeps (s.handRetire h cause).2 :=
  .iteSnd hs (.iteSnd hs.handKill (.iteSnd hs (.iteSnd (.ite hs hs.upd.setF) hs.drainTry)))

theorem State.Keeps.execHandsRetireReq {hand} (hs : s₀.Keeps s) : s₀.Goes (execHandsRetireReq hand s) :=
  .next hs.setF.setF.handRetire.stat

theorem State.Keeps.execHandsRestoreReq {hand pass} (hs : s₀.Keeps s) : s₀.Goes (execHandsRestoreReq hand pass s) :=
  .next (.ite hs.setF.stat (.ite hs.setF.stat hs.setF.handSet.capTrigger.stat))

theorem State.Keeps.execDrainTimeout {e} (hs : s₀.Keeps s) : s₀.Goes (execDrainTimeout e s) := by
  unfold Machine.execDrainTimeout
  refine .next ?_
  split
  · exact .ite hs.kill hs
  · exact hs

theorem State.Keeps.execHandStoreError {e parity} (hs : s₀.Keeps s) : s₀.Goes (execHandStoreError e parity s) :=
  .ite (.next hs) (
    have h1 := State.Keeps.satF (State.Keeps.ite hs.noteTrap.kill hs)
    .ite (.next h1) (.next (.ite h1.upd.handKill h1.upd)))

theorem State.Keeps.execHandCorrectedError {hand} (hs : s₀.Keeps s) : s₀.Goes (execHandCorrectedError hand s) :=
  .next (.ite hs.satF.upd.handRetire.setF hs.satF.upd)

theorem State.Keeps.execHandLockup {hand} (hs : s₀.Keeps s) : s₀.Goes (execHandLockup hand s) :=
  .next (.ite hs.handKill hs)

theorem State.Keeps.handWithdraw {h} (hs : s₀.Keeps s) : s₀.Keeps (s.handWithdraw h) := hs.drainBegin

theorem State.Keeps.handTestDone {h pass} (hs : s₀.Keeps s) : s₀.Keeps (s.handTestDone h pass) :=
  .ite hs.handSet.capTrigger hs.handKill

theorem State.Keeps.loadPlace {p} (hs : s₀.Keeps s) : s₀.Keeps (s.loadPlace p).2 :=
  .tick (hs.upd.hallmarkExtend.foldl (fun _ _ hs => hs.wrBytes))

theorem State.Keeps.loadEnd {st} (hs : s₀.Keeps s) : s₀.Keeps (s.loadEnd st) :=
  .ite hs.upd.setF.stat.alarm hs.upd.setF.stat

theorem State.Keeps.loadForget (hs : s₀.Keeps s) : s₀.Keeps s.loadForget := .ite hs.upd.sendAct hs

theorem State.Keeps.execHandsLoadBegin (hs : s₀.Keeps s) : s₀.Goes (execHandsLoadBegin s) :=
  .next hs.loadForget.upd.setN.setF.answer

theorem State.Keeps.execHandsLoadData {v} (hs : s₀.Keeps s) : s₀.Goes (execHandsLoadData v s) :=
  .next (.ite hs.upd.addN hs)

theorem State.Keeps.execHandsLoadCommit (hs : s₀.Keeps s) : s₀.Goes (execHandsLoadCommit s) :=
  .next (.ite hs.answer (.ite hs.loadEnd (.ite hs.loadEnd (.ite hs.upd.answer.askAct hs.loadPlace.setF.loadEnd))))

theorem State.Keeps.execHandsLoadAbort (hs : s₀.Keeps s) : s₀.Goes (execHandsLoadAbort s) :=
  .next (.ite hs.loadForget.upd.setF.answer hs.answer)

theorem State.Keeps.bind {v slot} (hs : s₀.Keeps s) : s₀.Keeps (s.bind v slot) :=
  .ite hs.putVol.streamClose.tick (.tick (.ite hs.putVol.streamOpenVol hs.putVol))

theorem State.Keeps.execHandsBind {slot} (hs : s₀.Keeps s) : s₀.Goes (execHandsBind slot s) :=
  .next (.ite hs.stat (.ite hs.answer.askAct hs.bind.stat))

theorem State.Keeps.slotLeave {slot} (hs : s₀.Keeps s) : s₀.Keeps (s.slotLeave slot) :=
  hs.foldl (fun _ _ hs => hs.putTag)

theorem State.Keeps.execHandsUnload {slot} (hs : s₀.Keeps s) : s₀.Goes (execHandsUnload slot s) :=
  .next (.ite hs.stat (.ite hs.stat (.ite hs.stat hs.upd.slotLeave.recipeSweep.stat)))

theorem State.Keeps.actApply {own x} (hs : s₀.Keeps s) : s₀.Keeps (s.actApply own x).2 := by
  unfold State.actApply
  split
  · dsimp only
    exact .iteSnd (.ite hs.loadPlace.setF hs.loadPlace) (.ite hs.alarm hs)
  · refine .iteSnd ?_ ?_
    · dsimp only
      exact hs.bind
    · split <;> dsimp only
      · exact hs.bind
      · exact hs
  · exact hs.volCfgSet
  · dsimp only
    exact .iteSnd hs.snapTake hs
  · exact hs.keyApply
  · exact hs

theorem State.Keeps.actShow {x st} (hs : s₀.Keeps s) : s₀.Keeps (s.actShow x st) := by
  unfold State.actShow
  split
  · exact hs.loadEnd
  · exact hs.setF
  · exact hs.setF
  · exact hs.barrierEnd
  · exact hs.keyEnd
  · exact hs

theorem State.Keeps.actSettle {x st} (hs : s₀.Keeps s) : s₀.Keeps (s.actSettle x st) :=
  .ite hs.actShow.log (.actShow (.sendAct (.ite hs.actApply hs)))

theorem State.Keeps.actEnd {st} (hs : s₀.Keeps s) : s₀.Keeps (s.actEnd st) := by
  unfold State.actEnd
  split
  · exact hs
  · exact .ite hs.upd.actSettle hs.upd

theorem State.Keeps.actGive {x} (hs : s₀.Keeps s) : s₀.Keeps (s.actGive x) := hs.sendAct.actSettle

theorem State.Keeps.actJudge {x} (hs : s₀.Keeps s) : s₀.Keeps (s.actJudge x).2 :=
  .iteSnd hs (.iteSnd hs (.iteSnd (.ite hs.actApply hs) (.ite hs.upd.upd hs.upd)))

theorem State.Keeps.actCommit {kind st} (hs : s₀.Keeps s) : s₀.Keeps (s.actCommit kind st) := by
  unfold State.actCommit
  split
  · exact hs
  · exact
        have h2 := State.Keeps.ite hs.upd.upd hs.upd
        .ite h2.actApply h2

theorem State.Keeps.actsDrop (hs : s₀.Keeps s) : s₀.Keeps s.actsDrop :=
  .foldl (.upd (hs.foldl (fun _ _ hs => hs.actCommit))) (fun _ _ hs => hs.actSettle)

theorem State.Keeps.execActReplyTimeout (hs : s₀.Keeps s) : s₀.Goes (execActReplyTimeout s) := by
  unfold Machine.execActReplyTimeout
  refine .next ?_
  split
  · exact hs
  · exact hs.upd.actGive

/-! #### Council -/

theorem State.Keeps.reelBytes {off l} (hs : s₀.Keeps s) : s₀.Keeps (s.reelBytes off l) := by
  induction l generalizing s off with
  | nil => exact hs
  | cons b r ih => exact ih hs.wrB

theorem State.Keeps.reelPut {kind reeve body} (hs : s₀.Keeps s) : s₀.Keeps (s.reelPut kind reeve body) :=
  .ite (.ite hs.addN hs) hs.reelBytes.upd.setN.setN

theorem State.Keeps.reelMark {what lost} (hs : s₀.Keeps s) : s₀.Keeps (s.reelMark what lost) := hs.reelPut

theorem State.Keeps.reelReload (hs : s₀.Keeps s) : s₀.Keeps s.reelReload := .ite hs hs.upd.setN.setN

theorem State.Keeps.councilArrange (hs : s₀.Keeps s) : s₀.Keeps s.councilArrange :=
  .setF (.setF (.setF (hs.foldl (fun _ _ hs => hs.setF))))

theorem State.Keeps.coreLoad {x k} (hs : s₀.Keeps s) : s₀.Keeps (s.coreLoad x k) :=
  .foldl (.foldl (hs.foldl (fun _ _ hs => hs.upd)) (fun _ _ hs => hs.wrB)) (fun _ _ hs => hs.wrB)

theorem State.Keeps.coreResults {k l} (hs : s₀.Keeps s) : s₀.Keeps (s.coreResults k l) := hs.upd

theorem State.Keeps.coreCopy {src dst} (hs : s₀.Keeps s) : s₀.Keeps (s.coreCopy src dst) := hs.coreLoad.coreResults

theorem State.Keeps.coreForget {k} (hs : s₀.Keeps s) : s₀.Keeps (s.coreForget k) := hs.upd

theorem State.Keeps.coreRetire {k cause} (hs : s₀.Keeps s) : s₀.Keeps (s.coreRetire k cause) :=
  have h1 := hs.setF.setF.coreForget.councilArrange
  .ite h1.spareCall.holdRestart.alarm h1.spareCall.holdRestart

theorem State.Keeps.councilDecide {b} (hs : s₀.Keeps s) : s₀.Keeps (s.councilDecide b).2 := by
  unfold State.councilDecide
  split
  · exact hs.tollCap
  · exact hs.handRetire
  · exact hs.streamTarget
  · exact hs.spareCall
  · exact hs.reelPut
  · exact hs

theorem State.Keeps.alive (hs : s₀.Keeps s) : s₀.Keeps s.alive := hs.addF.upd

theorem State.Keeps.decision {b} (hs : s₀.Keeps s) : s₀.Keeps (s.decision b).2 :=
  .ite hs.councilDecide.addN.alive.upd.councilArrange hs.councilDecide.addN.alive.upd

theorem State.Keeps.dissent {core d agreed} (hs : s₀.Keeps s) : s₀.Keeps (s.dissent core d agreed) :=
  have h2 := hs.addF.satF.setF.setF.setF.setN
  .ite h2.upd.coreRetire h2.upd.setF.coreForget

theorem State.Keeps.coresRestart (hs : s₀.Keeps s) : s₀.Keeps s.coresRestart := by
  unfold State.coresRestart
  split
  · exact hs
  · exact hs.foldl (fun _ _ hs => hs.coreLoad.coreResults)

theorem State.Keeps.ballotsDiscard (hs : s₀.Keeps s) : s₀.Keeps s.ballotsDiscard :=
  .ite hs.addF.upd.setF hs.addF.upd.coresRestart

theorem State.Keeps.councilAlarm {det} (hs : s₀.Keeps s) : s₀.Keeps (s.councilAlarm det) := hs.alarm.holdRestart

theorem State.Keeps.ballotLate {b d st inTime} (hs : s₀.Keeps s) : s₀.Keeps (s.ballotLate b d st inTime).2 :=
  .iteSnd hs.upd (.ite hs.upd.dissent.councilAlarm hs.upd.dissent)

theorem State.Keeps.ballotsSettle {b st agreed others} (hs : s₀.Keeps s) : s₀.Keeps (s.ballotsSettle b st agreed others) := by
  unfold State.ballotsSettle
  refine hs.foldl (fun _ _ hs => ?_)
  split
  · exact .ite hs.upd (.ite hs.dissent.councilAlarm hs.dissent)
  · exact hs.upd

theorem State.Keeps.castVoting {b} (hs : s₀.Keeps s) : s₀.Keeps (s.castVoting b).2 := by
  unfold State.castVoting
  split
  · exact hs.ballotLate
  · refine .iteSnd (.ite hs.ballotsDiscard hs) ?_
    split
    · exact .upd (.ballotsSettle (.decision (.ite hs.ballotsDiscard hs)))
    · exact .iteSnd (.ballotsDiscard (.upd (.ite hs.ballotsDiscard hs))) (.upd (.ite hs.ballotsDiscard hs))

theorem State.Keeps.castWatch {b} (hs : s₀.Keeps s) : s₀.Keeps (s.castWatch b).2 := by
  unfold State.castWatch
  refine .iteSnd hs.decision.ballotsSettle.upd (.iteSnd ?_ hs)
  split
  · exact hs.ballotLate
  · exact .iteSnd hs hs.upd

theorem State.Keeps.cast {b} (hs : s₀.Keeps s) : s₀.Keeps (s.cast b).2 := by
  unfold State.cast
  split
  · exact hs.upd
  · refine .iteSnd hs ?_
    split
    · exact hs.castVoting
    · exact hs.castWatch
    · exact hs.decision

theorem State.Keeps.execCouncilBallot {core minor ra da input}
    (hs : s₀.Keeps s) : s₀.Goes (execCouncilBallot core minor ra da input s) :=
  .next (.ite hs.cast hs)

theorem State.Keeps.execVoteWindowExpiry (hs : s₀.Keeps s) : s₀.Goes (execVoteWindowExpiry s) :=
  .next (.ite hs.ballotsDiscard hs)

theorem State.Keeps.execActiveCoreTimeout (hs : s₀.Keeps s) : s₀.Goes (execActiveCoreTimeout s) := by
  unfold Machine.execActiveCoreTimeout
  refine .next ?_
  split
  · exact .ite hs.setF.coreForget.setF.setF hs
  · exact hs

theorem State.Keeps.execCoreResyncDone {core} (hs : s₀.Keeps s) : s₀.Goes (execCoreResyncDone core s) := by
  unfold Machine.execCoreResyncDone
  refine .next (.ite ?_ hs)
  split
  · exact hs.coreCopy.setF.councilArrange
  · exact hs.setF.councilArrange

theorem State.Keeps.coreRequest {f} (hs : s₀.Keeps s) (hf : ∀ x u, s₀.Keeps u → s₀.Keeps (f x u)) :
    s₀.Keeps (s.coreRequest f) := .ite hs (.ite hs.stat (hf _ _ hs))

theorem State.Keeps.coreQueue {k restore} (hs : s₀.Keeps s) : s₀.Keeps (s.coreQueue k restore) :=
  hs.stat.setF.queueTest

theorem State.Keeps.execCouncilCoreTest (hs : s₀.Keeps s) : s₀.Goes (execCouncilCoreTest s) :=
  .next (hs.coreRequest (fun _ _ hs => .ite hs.stat hs.coreQueue))

theorem State.Keeps.execCouncilCoreRetire (hs : s₀.Keeps s) : s₀.Goes (execCouncilCoreRetire s) :=
  .next (hs.coreRequest (fun _ _ hs => .ite hs.stat (.ite hs.stat hs.coreRetire.stat)))

theorem State.Keeps.execCouncilCoreRestore (hs : s₀.Keeps s) : s₀.Goes (execCouncilCoreRestore s) :=
  .next (hs.coreRequest (fun _ _ hs => .ite hs.coreQueue hs.stat))

theorem State.Keeps.councilWithdraw {k} (hs : s₀.Keeps s) : s₀.Keeps (s.councilWithdraw k) :=
  .ite hs.setF hs.setF.setF.coreForget.councilArrange

theorem State.Keeps.councilTestDone {r pass} (hs : s₀.Keeps s) : s₀.Keeps (s.councilTestDone r pass) :=
  have h2 := State.Keeps.ite (State.Keeps.ite hs.setF hs.setF.coreRetire) (State.Keeps.ite hs.setF.coreCopy.setF.setF.upd hs.setF)
  .ite h2.setF h2

theorem State.Keeps.execCouncilCheckpoint {body} (hs : s₀.Keeps s) : s₀.Goes (execCouncilCheckpoint body s) :=
  .next (.ite hs.reelPut hs)

/-! #### Dock -/

theorem State.Keeps.putIng {p i} (hs : s₀.Keeps s) : s₀.Keeps (s.putIng p i) := hs.putMagPort

theorem State.Keeps.ingIssue {p r op leaf len} (hs : s₀.Keeps s) : s₀.Keeps (s.ingIssue p r op leaf len) := hs.magSend

theorem State.Keeps.ingTask {p r kind leaf len} (hs : s₀.Keeps s) : s₀.Keeps (s.ingTask p r kind leaf len) :=
  hs.putIng.ingIssue

theorem State.Keeps.ingAsk {p n} (hs : s₀.Keeps s) : s₀.Keeps (State.ingAsk p n s) := by
  induction n generalizing s with
  | zero => exact hs
  | succ n ih => exact .ite hs (ih hs.putIng.ingTask)

theorem State.Keeps.ingFolio {p a d} (hs : s₀.Keeps s) : s₀.Keeps (s.ingFolio p a d) :=
  .ite hs.accept hs.accept.dataArrive

theorem State.Keeps.ingFlow {p l} (hs : s₀.Keeps s) : s₀.Keeps (State.ingFlow p l s) := by
  induction l generalizing s with
  | nil => exact hs
  | cons x r ih => exact .ite (ih hs.putIng.ingFolio) hs

theorem State.Keeps.ingPump {p} (hs : s₀.Keeps s) : s₀.Keeps (s.ingPump p) := .ite hs hs.ingFlow

theorem State.Keeps.partOpen {p} (hs : s₀.Keeps s) : s₀.Keeps (s.partOpen p) := by
  unfold State.partOpen
  refine .ite hs ?_
  split
  · exact hs
  · exact hs.upd.assayRecount.putIng

theorem State.Keeps.partClose {p} (hs : s₀.Keeps s) : s₀.Keeps (s.partClose p) := .ite hs hs.heldFree.putIng

theorem State.Keeps.partFeed {p d} (hs : s₀.Keeps s) : s₀.Keeps (s.partFeed p d) :=
  .ite hs.upd.addN hs.upd.addN.partClose

theorem State.Keeps.ingReport {p incomplete} (hs : s₀.Keeps s) : s₀.Keeps (s.ingReport p incomplete) :=
  .ite hs.setN (
    have h3 := hs.putMagPort.setN.setN.tick.hallmarkExtend.regEvent
    .ite h3 h3.putIng.ingPump)

theorem State.Keeps.ingEnd {p cause} (hs : s₀.Keeps s) : s₀.Keeps (s.ingEnd p cause) :=
  .setF (.setF (.setF (.ite hs.partClose.putIng.setF hs.partClose.putIng.setF.ingReport)))

theorem State.Keeps.ingStop {p cause} (hs : s₀.Keeps s) : s₀.Keeps (s.ingStop p cause) := .ite hs.ingEnd hs

theorem State.Keeps.ingNext {p} (hs : s₀.Keeps s) : s₀.Keeps (s.ingNext p) := .ite hs.putIng.ingEnd hs.putIng.ingAsk

theorem State.Keeps.ingOutcome {p outcome} (hs : s₀.Keeps s) : s₀.Keeps (s.ingOutcome p outcome) :=
  hs.putIng.tick.addF.addF.ingNext

theorem State.Keeps.ingPage {p d} (hs : s₀.Keeps s) : s₀.Keeps (s.ingPage p d) :=
  .ite hs.ingEnd (.ite hs.putIng.setF.setF hs.putIng.ingTask)

theorem State.Keeps.ingTable {p d} (hs : s₀.Keeps s) : s₀.Keeps (s.ingTable p d) := hs.putIng.setF.setF.ingAsk

theorem State.Keeps.ingFeed {p n} (hs : s₀.Keeps s) : s₀.Keeps (State.ingFeed p n s) := by
  induction n generalizing s with
  | zero => exact hs
  | succ n ih =>
    unfold State.ingFeed
    dsimp only
    split
    · exact hs
    · exact
        have h1 := hs.partOpen.assayShift.partFeed
        .ite (ih hs.putIng) (.ite hs.partOpen (ih (.putIng (.ite h1.partClose h1))))

theorem State.Keeps.ingFail {p} (hs : s₀.Keeps s) : s₀.Keeps (s.ingFail p) :=
  .ite hs.partClose.putIng.putIng.ingNext hs.partClose.putIng.ingOutcome

theorem State.Keeps.ingGo {p} (hs : s₀.Keeps s) : s₀.Keeps (s.ingGo p) :=
  .ite hs.ingFeed.ingPump.ingNext hs.ingFeed.ingPump.ingAsk

theorem State.Keeps.ingWake {p} (hs : s₀.Keeps s) : s₀.Keeps (s.ingWake p) := .ite hs.ingGo hs

theorem State.Keeps.magTick (hs : s₀.Keeps s) : s₀.Keeps s.magTick := hs.foldl (fun _ _ hs => hs.magAligns.ingWake)

theorem State.Keeps.ingStatus {p r st} (hs : s₀.Keeps s) : s₀.Keeps (s.ingStatus p r st) :=
  have h1 := State.Keeps.ite hs.addF hs
  .ite h1.putIng.ingAsk (.ite (.ite h1.ingPage (.ite h1.ingTable h1.putIng.ingGo)) (.ite h1.putIng.ingIssue (.ite h1.ingEnd
    h1.putIng.ingFail)))

theorem State.Keeps.execMagTaskStatus {port err f} (hs : s₀.Keeps s) : s₀.Goes (execMagTaskStatus port err f s) :=
  .next (hs.magRecv (fun _ _ hs => .ite hs.ingStatus hs))

theorem State.Keeps.ingData {p r ofs last d} (hs : s₀.Keeps s) : s₀.Keeps (s.ingData p r ofs last d) :=
  .ite hs hs.putIng

theorem State.Keeps.execMagData {port err f} (hs : s₀.Keeps s) : s₀.Goes (execMagData port err f s) :=
  .next (hs.magRecv (fun _ _ hs => .ite hs.magDiscard (.ite hs.magTaskData hs.ingData)))

theorem State.Keeps.execMagTrainReply {port err f} (hs : s₀.Keeps s) : s₀.Goes (execMagTrainReply port err f s) :=
  .next (hs.magRecv (fun _ _ hs => .ite hs.magDown.ingStop (.ite (hs.magComeUp.foldl (fun _ _ hs => .ite hs (.ite hs.putIng
    hs.putIng.ingIssue))) hs.magComeUp)))

theorem State.Keeps.ingStart {p} (hs : s₀.Keeps s) : s₀.Keeps (s.ingStart p) :=
  .ite hs.stat (.ite hs.stat hs.putIng.tick.setF.setF.setN.setN.setN.stat.ingTask)

theorem State.Keeps.execIngestStart {port} (hs : s₀.Keeps s) : s₀.Goes (execIngestStart port s) :=
  .next (.ite hs.ingStart hs)

theorem State.Keeps.execIngestStop {port} (hs : s₀.Keeps s) : s₀.Goes (execIngestStop port s) :=
  .next (.ite hs.ingStop hs)

theorem State.Keeps.ingVerdict {p} (hs : s₀.Keeps s) : s₀.Keeps (s.ingVerdict p) :=
  .ite hs (.ite hs.ingOutcome (.ite hs.ingOutcome (.ite hs.ingOutcome hs.putIng.ingAsk)))

theorem State.Keeps.execIngestClipVerdict {port} (hs : s₀.Keeps s) : s₀.Goes (execIngestClipVerdict port s) :=
  .next (.ite hs.ingVerdict hs)

theorem State.Keeps.execMagLaneFail {port lanes} (hs : s₀.Keeps s) : s₀.Goes (execMagLaneFail port lanes s) :=
  .next (.ite (.ite hs.magTrain.magDown.ingStop.capTrigger (.capTrigger (.retest (.ite hs.putMagPort hs.magTrainOn)))) hs)

/-! #### Lands -/

theorem State.Keeps.landsHold (hs : s₀.Keeps s) : s₀.Keeps s.landsHold := hs.upd

theorem State.Keeps.landsFree (hs : s₀.Keeps s) : s₀.Keeps s.landsFree := .ite hs hs.upd

theorem State.Keeps.gapEnd (hs : s₀.Keeps s) : s₀.Keeps s.gapEnd := hs.upd.landsFree

/-! #### Switch -/

theorem State.Keeps.fenceDrive {v} (hs : s₀.Keeps s) : s₀.Keeps (s.fenceDrive v) := .ite hs hs.upd.setF

theorem State.Keeps.saddrServe (hs : s₀.Keeps s) : s₀.Keeps s.saddrServe := hs.foldl (fun _ _ hs => hs.setF.setF)

theorem State.Keeps.switchRecord {kind cause commons takes since}
    (hs : s₀.Keeps s) : s₀.Keeps (s.switchRecord kind cause commons takes since) :=
  hs.capTrigger.setF.setF.setF.setF.setF.setN.tick

theorem State.Keeps.takeDrop {k} (hs : s₀.Keeps s) : s₀.Keeps (s.takeDrop k) :=
  .ite hs (
    have h1 := hs.foldl (fun _ _ hs => hs.putTag)
    have h2 := State.Keeps.ite h1 h1.setF
    .magClass (.streamClose (.putTake (.deleteQueue (.ite h2.setF.setF h2)))))

theorem State.Keeps.cmnDrop {cs} (hs : s₀.Keeps s) : s₀.Keeps (s.cmnDrop cs) :=
  .slcRecompute (.foldl (.foldl (.recFlags (.upd (hs.foldl (fun _ _ hs => hs.takeDrop)))) (fun _ _ hs => hs.setF.setF))
    (fun _ _ hs => .ite hs.setLink hs))

theorem State.Keeps.mirrorForget (hs : s₀.Keeps s) : s₀.Keeps s.mirrorForget := hs.upd

theorem State.Keeps.serveStop (hs : s₀.Keeps s) : s₀.Keeps s.serveStop :=
  .saddrServe (.upd (.cmnDrop (hs.foldl (fun _ _ hs => hs.ctxDrop))))

theorem State.Keeps.imageGo {im} (hs : s₀.Keeps s) : s₀.Keeps (s.imageGo im) := by
  unfold State.imageGo
  split
  · exact hs
  · exact .ite hs (.upd (.ite hs.accept.putTake.wrBytes hs.accept.putTake.wrBytes.putTag))

theorem State.Keeps.imagesGo (hs : s₀.Keeps s) : s₀.Keeps s.imagesGo := hs.foldl (fun _ _ hs => hs.imageGo)

theorem State.Keeps.internalGo (hs : s₀.Keeps s) : s₀.Keeps s.internalGo :=
  hs.imagesGo.foldl (fun _ _ hs => .ite hs.linkGo hs)

theorem State.Keeps.afterHandoff {g} (hs : s₀.Keeps s) : s₀.Keeps (s.afterHandoff g) := by
  unfold State.afterHandoff
  refine .ite ?_ (.ite hs.internalGo (.ite hs.magHeldGo hs))
  split
  · exact .ingPump (.ite hs.addF hs)
  · exact hs

theorem State.Keeps.execCompletionHandoff {tag} (hs : s₀.Keeps s) : s₀.Goes (execCompletionHandoff tag s) :=
  .next (.ite hs.handOff.afterHandoff hs)

theorem State.Keeps.imagesFound {f} (hs : s₀.Keeps s) : s₀.Keeps (s.imagesFound f) := hs.upd

theorem State.Keeps.cmnOpen {fl c} (hs : s₀.Keeps s) : s₀.Keeps (s.cmnOpen fl c) := by
  unfold State.cmnOpen
  refine
    have h1 : s₀.Keeps _ := ?_
    .ite h1.claim.ckptStart.holdRecount h1.claim
  split
  · exact hs.cmnRecover.imagesFound
  · exact hs

theorem State.Keeps.cmnsTake {fl mirrored cs} (hs : s₀.Keeps s) : s₀.Keeps (s.cmnsTake fl mirrored cs) :=
  .ite (.imagesGo (hs.adopt.foldl (fun _ _ hs => hs.imagesFound))) (.slcRecompute (.imagesGo (hs.foldl
    (fun _ _ hs => hs.cmnOpen))))

theorem State.Keeps.linksReopen {cs} (hs : s₀.Keeps s) : s₀.Keeps (s.linksReopen cs) :=
  hs.foldl (fun _ _ hs => .ite hs.linkOpen hs)

theorem State.Keeps.partnerGone (hs : s₀.Keeps s) : s₀.Keeps s.partnerGone :=
  hs.actsDrop.upd.gapEnd.soloEnd.indexSettle.carRelease.ackSweep.magRelease.tillServe

theorem State.Keeps.serveOn {cs} (hs : s₀.Keeps s) : s₀.Keeps (s.serveOn cs) :=
  .linksReopen (hs.saddrServe.twinServe.foldl (fun _ _ hs => hs.twinStatuses))

theorem State.Keeps.act {fl cause kind} (hs : s₀.Keeps s) : s₀.Keeps (s.act fl cause kind) :=
  .ite hs.fenceDrive.partnerGone (
    have h2 := State.Keeps.reqDone (State.Keeps.ite hs.fenceDrive hs.fenceDrive.setMode)
    .sealEnter (.partnerGone (.switchRecord (.serveOn (.cmnsTake (.ite h2.upd.setF.setF.councilArrange h2.upd.setF))))))

theorem State.Keeps.lossGo {fl} (hs : s₀.Keeps s) : s₀.Keeps (s.lossGo fl) :=
  .ite (.ite hs.setF.act hs.setF) (.ite hs.setF.upd.landsHold hs.setF)

theorem State.Keeps.fencedNow {kind} (hs : s₀.Keeps s) : s₀.Keeps (s.fencedNow kind) :=
  hs.setMode.reqDone.setF.serveStop.mirrorForget.switchRecord

theorem State.Keeps.landSend {k f} (hs : s₀.Keeps s) : s₀.Keeps (s.landSend k f) :=
  hs.foldl (fun _ _ hs => hs.landMirror)

theorem State.Keeps.transferSend {cs} (hs : s₀.Keeps s) : s₀.Keeps (s.transferSend cs) :=
  .upd (.foldl (.foldl (.foldl (.foldl (.foldl (hs.upd.foldl (fun _ _ hs => hs.mirror)) (fun _ _ hs => hs.foldl
    (fun _ _ hs => hs.landSend))) (fun _ _ hs => hs.foldl (fun _ _ hs => hs.mirror))) (fun _ _ hs => hs.mirror))
      (fun _ _ hs => hs.mirrorTake)) (fun _ _ hs => hs.mirrorTag))

theorem State.Keeps.joinGo (hs : s₀.Keeps s) : s₀.Keeps s.joinGo := .ite hs.upd.sendStub hs

theorem State.Keeps.joinBegin {cause} (hs : s₀.Keeps s) : s₀.Keeps (s.joinBegin cause) := hs.setMode.upd.setF.joinGo

theorem State.Keeps.moveStart {kind cs} (hs : s₀.Keeps s) : s₀.Keeps (s.moveStart kind cs) :=
  have h4 := State.Keeps.foldl (State.Keeps.twinHandback (State.Keeps.sendAct (State.Keeps.upd (State.Keeps.ite (hs.foldl
    (fun _ _ hs => hs.ckptStart)) hs)))) (fun _ _ hs => State.Keeps.ite hs.putTag hs)
  .moveCheck (.ite h4 h4.setF)

theorem State.Keeps.moveGiven {cs} (hs : s₀.Keeps s) : s₀.Keeps (s.moveGiven cs) :=
  .cmnDrop (hs.upd.foldl (fun _ _ hs => .ite hs.putTag hs.docketEnd))

theorem State.Keeps.pairUp {cause} (hs : s₀.Keeps s) : s₀.Keeps (s.pairUp cause) :=
  hs.setMode.fenceDrive.upd.gapEnd.setF.setF.saddrServe.paired.sealEnter

theorem State.Keeps.moveTake {fl kind cs} (hs : s₀.Keeps s) : s₀.Keeps (s.moveTake fl kind cs) :=
  .transferSend (.sendAct (.switchRecord (.reqDone (.serveOn (.upd (.ite hs.cmnsTake.setMode.fenceDrive hs.cmnsTake.pairUp))))))

theorem State.Keeps.moveDone {kind n cs} (hs : s₀.Keeps s) : s₀.Keeps (s.moveDone kind n cs) :=
  .reqDone (.switchRecord (.saddrServe (.ite hs.moveGiven.setMode.serveStop.setF hs.moveGiven.pairUp)))

theorem State.Keeps.putDrill {d} (hs : s₀.Keeps s) : s₀.Keeps (s.putDrill d) := hs.upd

theorem State.Keeps.pulse (hs : s₀.Keeps s) : s₀.Keeps s.pulse := hs.fenceDrive.upd

theorem State.Keeps.drillBegin {slot} (hs : s₀.Keeps s) : s₀.Keeps (s.drillBegin slot) :=
  hs.putDrill.setF.regEvent.pulse

theorem State.Keeps.drillEnd {failed gap} (hs : s₀.Keeps s) : s₀.Keeps (s.drillEnd failed gap) := by
  unfold State.drillEnd
  split
  · exact hs
  · exact hs.upd.setF.setF.setF.setN.setF.regEvent.foldl (fun _ _ hs => hs.alarm)

theorem State.Keeps.drillClose (hs : s₀.Keeps s) : s₀.Keeps s.drillClose := by
  unfold State.drillClose
  split
  · exact hs
  · exact hs.sendAct.drillEnd

theorem State.Keeps.drillFence (hs : s₀.Keeps s) : s₀.Keeps s.drillFence := by
  unfold State.drillFence
  split
  · exact hs
  · exact .ite hs.putDrill.fenceDrive hs

theorem State.Keeps.drillTake {fl dirty} (hs : s₀.Keeps s) : s₀.Keeps (s.drillTake fl dirty) := by
  unfold State.drillTake
  split
  · exact hs
  · exact hs.act.putDrill.transferSend.sendAct

theorem State.Keeps.drillProbe {epoch} (hs : s₀.Keeps s) : s₀.Keeps (s.drillProbe epoch) := by
  unfold State.drillProbe
  dsimp only
  split
  · exact hs.sendAct
  · exact hs.send.sendAct

theorem State.Keeps.drillFinish {since} (hs : s₀.Keeps s) : s₀.Keeps (s.drillFinish since) := by
  unfold State.drillFinish
  split
  · exact hs
  · exact hs.putDrill.drillClose

/-! #### Counterfoil -/

theorem State.Keeps.cfNak (hs : s₀.Keeps s) : s₀.Keeps s.cfNak := .ite hs hs.upd.sendStub.countEv

theorem State.Keeps.cfAck {ack} (hs : s₀.Keeps s) : s₀.Keeps (s.cfAck ack) :=
  .ite hs (.moveCheck (.tillServe (.magRelease (.ackSweep (.carRelease (.indexSettle (.ite hs.upd.cfPump.upd hs.upd.cfPump)))))))

theorem State.Keeps.cfReceive {b want k} (hs : s₀.Keeps s) (hk : ∀ x u, s₀.Keeps u → s₀.Keeps (k x u)) :
    s₀.Keeps (s.cfReceive b want k) :=
  .ite hs (.ite hs.addF.cfNak (.ite hs (.ite hs.addF.cfNak (.ite hs.addF.cfNak (.ite hs.cfNak (
    have h2 := hk _ _ hs.upd.addN.tick.cfAck
    .ite h2.sendStub h2))))))

theorem State.Keeps.hbSet {v} (hs : s₀.Keeps s) : s₀.Keeps (s.hbSet v) := hs.setF.setF

theorem State.Keeps.beat {p} (hs : s₀.Keeps s) : s₀.Keeps (s.beat p) :=
  .ite hs (
    have h2 := State.Keeps.ite hs.setF.holdRestart hs.setF
    have h4 := State.Keeps.ite h2.upd.hbSet.setMode.reqDone.cutAll h2.upd.hbSet
    .ite h4.joinGo h4)

theorem State.Keeps.execCfHeartbeat {b} (hs : s₀.Keeps s) : s₀.Goes (execCfHeartbeat b s) :=
  .next (hs.cfReceive (fun _ _ hs => hs.beat))

theorem State.Keeps.mirrorData {p} (hs : s₀.Keeps s) : s₀.Keeps (s.mirrorData p) := hs.upd

theorem State.Keeps.execCfTillData {b} (hs : s₀.Keeps s) : s₀.Goes (execCfTillData b s) :=
  .next (hs.cfReceive (fun _ _ hs => hs.mirrorData))

theorem State.Keeps.execCfDaybook {b} (hs : s₀.Keeps s) : s₀.Goes (execCfDaybook b s) :=
  .next (hs.cfReceive (fun _ _ hs => hs.overlayTake.setF))

theorem State.Keeps.execCfLedger {b} (hs : s₀.Keeps s) : s₀.Goes (execCfLedger b s) :=
  .next (hs.cfReceive (fun _ _ hs => hs.foldl (fun _ _ hs => .ite hs hs.upd)))

theorem State.Keeps.execCfTakeState {b} (hs : s₀.Keeps s) : s₀.Goes (execCfTakeState b s) :=
  .next (hs.cfReceive (fun _ _ hs => hs.upd))

theorem State.Keeps.execCfDocket {b} (hs : s₀.Keeps s) : s₀.Goes (execCfDocket b s) :=
  .next (hs.cfReceive (fun _ _ hs => hs.upd))

theorem State.Keeps.execCfRelease {b} (hs : s₀.Keeps s) : s₀.Goes (execCfRelease b s) :=
  .next (hs.cfReceive (fun _ _ hs => hs.foldl (fun _ _ hs => .ite hs.overlayApply hs.upd)))

theorem State.Keeps.moveAct {fl a kind blob} (hs : s₀.Keeps s) : s₀.Keeps (s.moveAct fl a kind blob) := by
  unfold State.moveAct
  split
  · exact .ite (.moveStart (.ite hs hs.transferSend)) hs.sendAct
  · exact .ite hs.upd.setF hs.upd
  · exact hs.moveTake
  · exact .ite hs.sendAct (.ite hs.sendAct (.sendAct (.ite hs.reqDone hs)))

theorem State.Keeps.moveReply {a st kind n blob} (hs : s₀.Keeps s) : s₀.Keeps (s.moveReply a st kind n blob) := by
  unfold State.moveReply
  split
  · exact hs.reqDone.setF
  · split
    · exact .ite (.ite hs.moveDone.drillFinish hs.moveDone) hs
    · exact hs
  · exact .ite hs.moveStart hs.reqDone

theorem State.Keeps.drillAct {fl a b c blob} (hs : s₀.Keeps s) : s₀.Keeps (s.drillAct fl a b c blob) := by
  unfold State.drillAct
  split
  · exact hs.drillBegin
  · dsimp only
    split
    · exact hs.upd.putDrill.drillFence
    · exact hs.upd
  · split
    · exact .ite hs.drillTake hs
    · exact hs
  · exact .ite hs.drillProbe hs
  · split
    · exact hs.putDrill
    · exact hs
  · exact hs.drillEnd

theorem State.Keeps.modeReq {f} (hs : s₀.Keeps s) (hf : ∀ u, s₀.Keeps u → s₀.Keeps (f u)) : s₀.Keeps (s.modeReq f) :=
  .ite hs.stat (hf _ hs)

theorem State.Keeps.modeAsk {m} (hs : s₀.Keeps s) : s₀.Keeps (s.modeAsk m) := hs.upd.setF.stat

theorem State.Keeps.serviceAsk (hs : s₀.Keeps s) : s₀.Keeps s.serviceAsk := hs.modeAsk.sendAct

theorem State.Keeps.rollAsked {kind blob} (hs : s₀.Keeps s) : s₀.Keeps (s.rollAsked kind blob) := by
  unfold State.rollAsked
  split
  · exact hs.sendAct
  · exact .ite hs.sendAct hs.rollOffer.sendAct.serviceAsk
  · exact hs.upd

theorem State.Keeps.rollAnswer {kind st a} (hs : s₀.Keeps s) : s₀.Keeps (s.rollAnswer kind st a) :=
  .ite hs (.ite (.ite hs.rollEnd.setF (.ite hs.rollEnd.setF.setF (.ite hs.rollEnd hs.rollOffer.upd.setF.sendAct))) (.ite
    hs.rollEnd hs))

theorem State.Keeps.recipesSend (hs : s₀.Keeps s) : s₀.Keeps s.recipesSend := hs.foldl (fun _ _ hs => hs.sendAct)

theorem State.Keeps.recipeJoin {n blob} (hs : s₀.Keeps s) : s₀.Keeps (s.recipeJoin n blob) := by
  unfold State.recipeJoin
  refine .ite hs ?_
  split
  · exact hs.foldl (fun _ _ hs => .ite hs hs.bind)
  · exact .ite (hs.loadPlace.foldl (fun _ _ hs => .ite hs hs.bind)) hs.upd.alarm.setMode

theorem State.Keeps.partnerFree {slc space} (hs : s₀.Keeps s) : s₀.Keeps (s.partnerFree slc space) := hs.upd

theorem State.Keeps.cfAct {fl p} (hs : s₀.Keeps s) : s₀.Keeps (s.cfAct fl p) := by
  unfold State.cfAct
  refine .ite ?_ (.ite hs.actCommit (.ite (.ite hs.twinHear hs.partnerFree) ?_))
  · split
    · exact hs.partnerFree.soloEnd
    · exact hs.moveReply
    · exact hs.rollAnswer
    · exact hs.rollAnswer
    · split
      · exact .ite hs.actEnd hs
      · exact hs
  · split
    · exact hs.partnerFree.sendAct
    · exact hs.moveAct
    · exact hs.drillAct
    · exact hs.rollAsked
    · exact hs.rollAsked
    · exact hs.rollAsked
    · exact hs.recipeJoin
    · exact hs.actJudge.sendAct

theorem State.Keeps.execCfAct {b fl} (hs : s₀.Keeps s) : s₀.Goes (execCfAct b fl s) :=
  .next (hs.cfReceive (fun _ _ hs => hs.cfAct))

theorem State.Keeps.joinFailed {p cause} (hs : s₀.Keeps s) : s₀.Keeps (s.joinFailed p cause) :=
  .ite (hs.foldl (fun _ _ hs => hs.setN)) hs.alarm

theorem State.Keeps.pairWords {p} (hs : s₀.Keeps s) : s₀.Keeps (s.pairWords p) :=
  .councilArrange (hs.foldl (fun _ _ hs => hs.setN))

theorem State.Keeps.joinHere {fl p} (hs : s₀.Keeps s) : s₀.Keeps (s.joinHere fl p) :=
  have h2 := State.Keeps.ite hs.upd hs.upd.sendStub
  .ite (.ite h2.joinFailed.setMode.cmnsTake.serveOn.sealEnter h2.joinFailed.setMode) (.ite h2.pairWords.mirrorForget.upd
    h2.pairWords.mirrorForget.cmnsTake.pairUp.serveOn.transferSend)

theorem State.Keeps.joinServe {p} (hs : s₀.Keeps s) : s₀.Keeps (s.joinServe p) :=
  .ite hs.upd.sendStub.joinFailed hs.upd.sendStub.pairWords.recipesSend.transferSend.twinTell.sendStub

theorem State.Keeps.joinStand (hs : s₀.Keeps s) : s₀.Keeps s.joinStand := hs.upd.recFlags.upd.setMode.setF.setF

theorem State.Keeps.execCfJoin {b fl} (hs : s₀.Keeps s) : s₀.Goes (execCfJoin b fl s) :=
  .next (hs.cfReceive (fun _ _ hs => .ite (.ite hs.joinStand hs) (.ite hs.joinHere (.ite hs.joinServe hs))))

theorem State.Keeps.execCfHoldupNotice {b} (hs : s₀.Keeps s) : s₀.Goes (execCfHoldupNotice b s) :=
  .next (hs.cfReceive (fun _ _ hs => hs.upd))

theorem State.Keeps.execCfFlushDone {b fl} (hs : s₀.Keeps s) : s₀.Goes (execCfFlushDone b fl s) :=
  .next (hs.cfReceive (fun _ _ hs => .ite hs hs.upd.hbSet.lossGo))

theorem State.Keeps.execFlushDoneTimeout {fl} (hs : s₀.Keeps s) : s₀.Goes (execFlushDoneTimeout fl s) :=
  .next (.ite hs.upd.hbSet.lossGo hs)

theorem State.Keeps.execCfNak {b} (hs : s₀.Keeps s) : s₀.Goes (execCfNak b s) :=
  .next (hs.cfReceive (fun _ _ hs => hs.foldl (fun _ _ hs => hs.addN.send)))

theorem State.Keeps.execCfReservedStub {b} (hs : s₀.Keeps s) : s₀.Goes (execCfReservedStub b s) :=
  .next (hs.cfReceive (fun _ _ hs => hs.addF))

theorem State.Keeps.cfLanesSet {m} (hs : s₀.Keeps s) : s₀.Keeps (s.cfLanesSet m) := hs.setF.setF.setF

theorem State.Keeps.execTillCfRetrain (hs : s₀.Keeps s) : s₀.Goes (execTillCfRetrain s) :=
  .next (.ite hs.stat (.ite hs.cfLanesSet.setF.setF.stat hs.stat))

theorem State.Keeps.cfTrained {whole} (hs : s₀.Keeps s) : s₀.Keeps (s.cfTrained whole) :=
  .ite hs.cfLanesSet.setF hs.cfLanesSet.setF.addF.setF.upd.setN.setN.cfPump.joinGo

theorem State.Keeps.execCfTrained {whole} (hs : s₀.Keeps s) : s₀.Goes (execCfTrained whole s) := .next hs.cfTrained

theorem State.Keeps.execCfLaneFailure {failed} (hs : s₀.Keeps s) : s₀.Goes (execCfLaneFailure failed s) :=
  .next (.ite hs.cfLanesSet.holdRestart hs)

theorem State.Keeps.execCfLinkDown (hs : s₀.Keeps s) : s₀.Goes (execCfLinkDown s) := .next hs.cfLanesSet.setF

/-! #### Crier -/

theorem State.Keeps.parishWrite {r0} (hs : s₀.Keeps s) : s₀.Keeps (s.parishWrite r0) :=
  .ite hs.setF.addN.upd.addF (.ite hs.setF.addN.upd.setN.setF.alarm hs.setF.addN.upd.setN)

theorem State.Keeps.madeNumber {r} (hs : s₀.Keeps s) : s₀.Keeps (s.madeNumber r).2 := .iteSnd hs.crierNumber hs

theorem State.Keeps.sentCount {r} (hs : s₀.Keeps s) : s₀.Keeps (s.sentCount r) := .ite hs.addN hs

theorem State.Keeps.pushRefresh (hs : s₀.Keeps s) : s₀.Keeps s.pushRefresh := .ite hs (.ite hs.setF hs.upd.setF)

theorem State.Keeps.ringPut {r0} (hs : s₀.Keeps s) : s₀.Keeps (s.ringPut r0) := hs.madeNumber.upd.sentCount

theorem State.Keeps.pushPut {r0} (hs : s₀.Keeps s) : s₀.Keeps (s.pushPut r0) :=
  .sentCount (hs.madeNumber.foldl (fun _ _ hs => hs.foldl (fun _ _ hs => hs.carSendAt)))

theorem State.Keeps.parishWindow {all} (hs : s₀.Keeps s) : s₀.Keeps (s.parishWindow all) :=
  hs.upd.foldl (fun _ _ hs => hs.parishWrite.sentCount)

theorem State.Keeps.crierWindow (hs : s₀.Keeps s) : s₀.Keeps s.crierWindow :=
  .countEv (.addN (.upd (.foldl (.upd (hs.parishWindow.upd.foldl (fun _ _ hs => hs.pushPut))) (fun _ _ hs => hs.ringPut))))

theorem State.Keeps.execCrierWindow (hs : s₀.Keeps s) : s₀.Goes (execCrierWindow s) := .next (.ite hs.crierWindow hs)

theorem State.Keeps.execHushPeriod {source} (hs : s₀.Keeps s) : s₀.Goes (execHushPeriod source s) :=
  .next (.ite hs hs.crierNumber.upd.tick)

theorem State.Keeps.execParishSnapshot {p area from_} (hs : s₀.Keeps s) : s₀.Goes (execParishSnapshot p area from_ s) :=
  .next hs.setF.setF.upd.setF.setF.setN.tick.stat

theorem State.Keeps.execParishClearGo (hs : s₀.Keeps s) : s₀.Goes (execParishClearGo s) :=
  .next (.ite hs.grantUsed.stat hs.grantUsed.upd.setN.setN.parishWrite.tick.stat)

theorem State.Keeps.execWallWrite {seconds} (hs : s₀.Keeps s) : s₀.Goes (execWallWrite seconds s) :=
  .next (.ite hs.answer (.answer (.regEvent (.setF (.setF (.ite hs.addF hs))))))

theorem State.Keeps.execOpsecSave (hs : s₀.Keeps s) : s₀.Goes (execOpsecSave s) := .next hs.upd

theorem State.Keeps.execCountLatchGo (hs : s₀.Keeps s) : s₀.Goes (execCountLatchGo s) :=
  .next (.stat (.tick (.setN (hs.upd.foldl (fun _ _ hs => hs.setF)))))

theorem State.Keeps.execCountCfgWrite {n v} (hs : s₀.Keeps s) : s₀.Goes (execCountCfgWrite n v s) :=
  .next (.ite hs.stat (.stat (.upd (hs.foldl (fun _ _ hs => hs.setF)))))

theorem State.Keeps.execCounterWrap {n} (hs : s₀.Keeps s) : s₀.Goes (execCounterWrap n s) :=
  .next (.ite hs.countAdd hs)

theorem State.Keeps.execCounterSample {n e insn} (hs : s₀.Keeps s) : s₀.Goes (execCounterSample n e insn s) :=
  .next (.ite (.ite hs.wrBytes.upd.setN.tick.addN hs.wrBytes.upd.setN.tick) hs)

theorem State.Keeps.execReelFreeze (hs : s₀.Keeps s) : s₀.Goes (execReelFreeze s) :=
  .next (.ite hs.stat hs.reelMark.setF.upd.stat)

theorem State.Keeps.execReelThaw (hs : s₀.Keeps s) : s₀.Goes (execReelThaw s) :=
  .next (.ite hs.stat hs.reelReload.setF.reelMark.stat)

theorem State.Keeps.replayEnd {result cause} (hs : s₀.Keeps s) : s₀.Keeps (s.replayEnd result cause) :=
  hs.setF.setF.setMode.councilArrange.regEvent

theorem State.Keeps.execReplayStop (hs : s₀.Keeps s) : s₀.Goes (execReplayStop s) :=
  .next (.ite hs.replayEnd.stat hs.stat)

theorem State.Keeps.execReplayEnd {result count at_ recorded replayed offset}
    (hs : s₀.Keeps s) : s₀.Goes (execReplayEnd result count at_ recorded replayed offset s) :=
  .next (.ite hs (.replayEnd (.ite hs.setF.setN.setF.setF.setF hs.setF.setN)))

/-! #### Larder -/

theorem State.Keeps.putLine {k x} (hs : s₀.Keeps s) : s₀.Keeps (s.putLine k x) := hs.upd

theorem State.Keeps.wayTake {l} (hs : s₀.Keeps s) : s₀.Keeps (s.wayTake l).2 := by
  unfold State.wayTake
  refine .iteSnd hs ?_
  dsimp only
  split
  · exact hs.upd
  · exact .countEv (.ite hs.upd.addN.countEv hs.upd)

theorem State.Keeps.lineFill {l dirty} (hs : s₀.Keeps s) : s₀.Keeps (s.lineFill l dirty) := by
  unfold State.lineFill
  split
  · next h => exact hs.wayTake.snd h
  · next h => exact (hs.wayTake.snd h).putLine

theorem State.Keeps.fillTake {l} (hs : s₀.Keeps s) : s₀.Keeps (s.fillTake l) := by
  unfold State.fillTake
  split
  · next h => exact hs.wayTake.snd h
  · next h => exact (hs.wayTake.snd h).putLine

theorem State.Keeps.fillStart {l kind} (hs : s₀.Keeps s) : s₀.Keeps (s.fillStart l kind) := .ite hs.upd hs.upd.fillTake

theorem State.Keeps.fillsGo {l} (hs : s₀.Keeps s) : s₀.Keeps (s.fillsGo l) :=
  hs.foldl (fun _ _ hs => .ite hs.fillTake hs)

theorem State.Keeps.lineDirty {l w} (hs : s₀.Keeps s) : s₀.Keeps (s.lineDirty l w) := .ite hs hs.putLine

theorem State.Keeps.lineStore {l whole} (hs : s₀.Keeps s) : s₀.Keeps (s.lineStore l whole) := by
  unfold State.lineStore
  dsimp only
  split
  · exact .lineDirty (.addN (.ite hs.upd hs))
  · exact .ite (.ite hs.upd hs) (.ite (.lineFill (.ite hs.upd hs)) (.fillStart (.ite hs.upd hs)))

theorem State.Keeps.lineRead {l} (hs : s₀.Keeps s) : s₀.Keeps (s.lineRead l) := by
  unfold State.lineRead
  split
  · exact hs.addN
  · exact .ite hs.addN.lineFill hs

theorem State.Keeps.spanStore {a n} (hs : s₀.Keeps s) : s₀.Keeps (s.spanStore a n) :=
  hs.foldl (fun _ _ hs => hs.lineStore)

theorem State.Keeps.spanRead {a n} (hs : s₀.Keeps s) : s₀.Keeps (s.spanRead a n) :=
  hs.foldl (fun _ _ hs => hs.lineRead)

theorem State.Keeps.globalServe {e c kind rt a n sx v} (hs : s₀.Keeps s) : s₀.Keeps (s.globalServe e c kind rt a n sx v) := by
  unfold State.globalServe
  refine .ite hs.putCtx.kill ?_
  split
  · exact hs.putCtx
  · exact hs.wrSpN.lineStore.putCtx
  · exact hs.wrSpN.lineStore.putCtx
  · exact .ite hs.wrSpN.lineStore.putCtx hs.putCtx

theorem State.Keeps.globalGet {e c kind rt a n sx v} (hs : s₀.Keeps s) : s₀.Keeps (s.globalGet e c kind rt a n sx v) := by
  unfold State.globalGet
  dsimp only
  split
  · exact hs.addN.globalServe
  · exact .ite hs.globalServe hs.fillStart.putCtx.yields

theorem State.Keeps.execLdp {e rt ra sz sx off} (hs : s₀.Keeps s) : s₀.Goes (execLdp e rt ra sz sx off s) := by
  unfold Machine.execLdp
  refine .next (hs.issue (fun _ _ hs => .ite hs.trapTake ?_))
  split
  · exact hs.trapTake
  · exact hs.done

theorem State.Keeps.execStp {e rt ra sz off} (hs : s₀.Keeps s) : s₀.Goes (execStp e rt ra sz off s) := by
  unfold Machine.execStp
  refine .next (hs.issue (fun _ _ hs => ?_))
  dsimp only
  split
  · exact hs.trapTake
  · exact hs.wrSpN.done

theorem State.Keeps.execLdg {e rt ra sz sx off} (hs : s₀.Keeps s) : s₀.Goes (execLdg e rt ra sz sx off s) := by
  unfold Machine.execLdg
  refine .next (hs.issue (fun _ _ hs => .ite hs.trapTake ?_))
  split
  · exact hs.trapTake
  · exact hs.globalGet

theorem State.Keeps.execStg {e rt ra sz off} (hs : s₀.Keeps s) : s₀.Goes (execStg e rt ra sz off s) := by
  unfold Machine.execStg
  refine .next (hs.issue (fun _ _ hs => ?_))
  dsimp only
  split
  · exact hs.trapTake
  · exact hs.done.wrSpN.lineStore

theorem State.Keeps.execLdd {e rt ra dn sz sx off} (hs : s₀.Keeps s) : s₀.Goes (execLdd e rt ra dn sz sx off s) := by
  unfold Machine.execLdd
  refine .next (hs.issue (fun _ _ hs => .ite hs.trapTake ?_))
  split
  · exact hs.trapTake
  · exact .ite hs.globalGet hs.done

theorem State.Keeps.execStd {e rt ra dn sz off} (hs : s₀.Keeps s) : s₀.Goes (execStd e rt ra dn sz off s) := by
  unfold Machine.execStd
  refine .next (hs.issue (fun _ _ hs => ?_))
  dsimp only
  split
  · exact hs.trapTake
  · exact .ite hs.done.wrSpN.lineStore hs.done.wrSpN

theorem State.Keeps.atom {e kind rd ra rb} (hs : s₀.Keeps s) : s₀.Keeps (s.atom e kind rd ra rb) := by
  unfold State.atom
  refine hs.issue (fun _ _ hs => ?_)
  dsimp only
  split
  · exact hs.trapTake
  · exact hs.globalGet

theorem State.Keeps.execAtomSwap {e rd ra rb} (hs : s₀.Keeps s) : s₀.Goes (execAtomSwap e rd ra rb s) := .next hs.atom

theorem State.Keeps.execAtomAdd {e rd ra rb} (hs : s₀.Keeps s) : s₀.Goes (execAtomAdd e rd ra rb s) := .next hs.atom

theorem State.Keeps.execAtomCas {e rd ra rb} (hs : s₀.Keeps s) : s₀.Goes (execAtomCas e rd ra rb s) := .next hs.atom

theorem State.Keeps.execFenceG {e} (hs : s₀.Keeps s) : s₀.Goes (execFenceG e s) :=
  .next (hs.issue (fun _ _ hs => hs.done))

theorem State.Keeps.fillServe {l} (hs : s₀.Keeps s) : s₀.Keeps (s.fillServe l) := by
  unfold State.fillServe
  refine hs.foldl (fun _ _ hs => ?_)
  split
  · exact .ite hs.globalServe hs
  · exact hs

theorem State.Keeps.execLarderFillComplete {line} (hs : s₀.Keeps s) : s₀.Goes (execLarderFillComplete line s) := by
  unfold Machine.execLarderFillComplete
  extract_lets f way _ s1 s2 s3 s4
  have h1 : s₀.Keeps s1 := hs.upd.addN
  clear_value s1 way
  have h2 : s₀.Keeps s2 := by
    unfold s2
    split
    · exact h1
    · exact h1.putLine
  clear_value s2
  have h4 : s₀.Keeps s4 := by
    unfold s4 s3
    split
    · exact h2.fillServe.putLine
    · exact h2.fillServe
  exact .ite (.next hs) (.next h4.fillsGo)

theorem State.Keeps.linesClean {inv f} (hs : s₀.Keeps s) : s₀.Keeps (s.linesClean inv f) :=
  hs.foldl (fun _ _ hs => hs.putLine)

theorem State.Keeps.maintGo {inv} (hs : s₀.Keeps s) : s₀.Keeps (s.maintGo inv) :=
  .ite hs.stat (.ite hs.setF.stat hs.setF.upd.linesClean.setF.setF.stat)

theorem State.Keeps.execLarderClean (hs : s₀.Keeps s) : s₀.Goes (execLarderClean s) := .next hs.maintGo

theorem State.Keeps.execLarderInvalidate (hs : s₀.Keeps s) : s₀.Goes (execLarderInvalidate s) := .next hs.maintGo

theorem State.Keeps.execLarderMaintDone (hs : s₀.Keeps s) : s₀.Goes (execLarderMaintDone s) :=
  .next (.ite hs.upd.setF.setF.setF hs)

theorem State.Keeps.jobStart {job bank way} (hs : s₀.Keeps s) : s₀.Keeps (s.jobStart job bank way) := hs.upd.setF

theorem State.Keeps.execLarderDisable (hs : s₀.Keeps s) : s₀.Goes (execLarderDisable s) :=
  .next (.ite hs.stat (.ite hs.stat hs.upd.jobStart.setF.setF.setF.answer))

theorem State.Keeps.execLarderEnable (hs : s₀.Keeps s) : s₀.Goes (execLarderEnable s) :=
  .next (.ite hs.stat (.ite hs.setF.stat hs.upd.linesClean.setF.setF.setF.stat))

theorem State.Keeps.waysCount (hs : s₀.Keeps s) : s₀.Keeps s.waysCount := hs.foldl (fun _ _ hs => hs.setF)

theorem State.Keeps.execLarderWaysWrite {count} (hs : s₀.Keeps s) : s₀.Goes (execLarderWaysWrite count s) :=
  .next (.ite hs.stat (.ite hs.stat (.ite hs.setF.waysCount.stat (.ite hs.setF.stat hs.setF.jobStart.setF.stat))))

theorem State.Keeps.wayRetire {b w} (hs : s₀.Keeps s) : s₀.Keeps (s.wayRetire b w) := hs.jobStart.setF

theorem State.Keeps.wayFail {b w} (hs : s₀.Keeps s) : s₀.Keeps (s.wayFail b w) := .ite hs (.ite hs.upd hs.wayRetire)

theorem State.Keeps.wayOut {b w} (hs : s₀.Keeps s) : s₀.Keeps (s.wayOut b w) :=
  .setF (.spareBook (.setF (.ite hs.setF.upd (.ite hs.setF.upd hs.setF))))

theorem State.Keeps.execLarderDisableDone (hs : s₀.Keeps s) : s₀.Goes (execLarderDisableDone s) := by
  unfold Machine.execLarderDisableDone
  refine .ite (.next hs) (.next ?_)
  split
  · exact .ite hs.upd.setF.setF.linesClean.setF.setF (.ite hs.upd.setF.setF.linesClean.waysCount
    hs.upd.setF.setF.linesClean.wayOut)
  · exact .wayRetire (.upd (.ite hs.upd.setF.setF.linesClean.setF.setF (.ite hs.upd.setF.setF.linesClean.waysCount
    hs.upd.setF.setF.linesClean.wayOut)))

theorem State.Keeps.execLarderWayRestore {way pass} (hs : s₀.Keeps s) : s₀.Goes (execLarderWayRestore way pass s) :=
  .next (.ite hs.stat (.ite hs.setF.stat (.ite hs.setF.stat (.ite hs.setF.stat (.stat (.setF (.ite
    hs.setF.setF.upd.linesClean.setF (.ite hs.setF.setF.setF hs.setF.setF))))))))

theorem State.Keeps.larderErr {kind b w a} (hs : s₀.Keeps s) : s₀.Keeps (s.larderErr kind b w a) :=
  hs.setF.setF.setF.setF.setN.tick

theorem State.Keeps.poisonLine {l b w} (hs : s₀.Keeps s) : s₀.Keeps (s.poisonLine l b w) := hs.upd.addN.larderErr.alarm

theorem State.Keeps.execLarderEccError {bank set way uncorr}
    (hs : s₀.Keeps s) : s₀.Goes (execLarderEccError bank set way uncorr s) :=
  .ite (.next hs) (.ite (.next (.wayFail (.ite hs.addF.larderErr.poisonLine hs.addF.larderErr.putLine.addN.lineFill))) (.next
    (.ite hs.addF.larderErr.upd.setF.wayFail hs.addF.larderErr.upd.setF)))

theorem State.Keeps.rowRemap {ch row} (hs : s₀.Keeps s) : s₀.Keeps (s.rowRemap ch row) :=
  .ite hs (.ite (.ite hs hs.upd.alarm) hs.upd.setF.satF.spareCall)

theorem State.Keeps.execHbmEccError {addr row uncorr} (hs : s₀.Keeps s) : s₀.Goes (execHbmEccError addr row uncorr s) :=
  .ite (
    have h1 := hs.addF.setF.setF.setN.tick
    .next (.rowRemap (.ite h1.poisonLine h1))) (
    have h3 := hs.addF.setF.setF.setN.tick.satF
    .next (.ite h3.upd.rowRemap h3.upd))

theorem State.Keeps.execHbmScrubDue (hs : s₀.Keeps s) : s₀.Goes (execHbmScrubDue s) := .next hs.upd

theorem State.Keeps.execHbmRowRemap {row} (hs : s₀.Keeps s) : s₀.Goes (execHbmRowRemap row s) :=
  .next (.ite hs.setF.stat (.ite hs.setF.stat hs.setF.rowRemap.stat))

/-! #### Sled -/

theorem State.Keeps.rawIssue {e rd da db ra imm cls} (hs : s₀.Keeps s) : s₀.Keeps (s.rawIssue e rd da db ra imm cls) :=
  hs.accelIssue

theorem State.Keeps.execSledReadEntry {e rd da db ra imm} (hs : s₀.Keeps s) : s₀.Goes (execSledReadEntry e rd da db ra imm s) :=
  .next hs.accelIssue

theorem State.Keeps.execSledRead {e rd da db ra imm} (hs : s₀.Keeps s) : s₀.Goes (execSledRead e rd da db ra imm s) :=
  .next hs.rawIssue

theorem State.Keeps.execSledProgram {e rd da db ra imm} (hs : s₀.Keeps s) : s₀.Goes (execSledProgram e rd da db ra imm s) :=
  .next hs.rawIssue

theorem State.Keeps.execSledErase {e rd da db ra imm} (hs : s₀.Keeps s) : s₀.Goes (execSledErase e rd da db ra imm s) :=
  .next hs.rawIssue

theorem State.Keeps.execSledFold {e rd da db ra imm} (hs : s₀.Keeps s) : s₀.Goes (execSledFold e rd da db ra imm s) :=
  .next hs.rawIssue

theorem State.Keeps.execSledTagscan {e rd da db ra imm} (hs : s₀.Keeps s) : s₀.Goes (execSledTagscan e rd da db ra imm s) :=
  .next hs.rawIssue

theorem State.Keeps.execSledLevels {e rd da db ra imm} (hs : s₀.Keeps s) : s₀.Goes (execSledLevels e rd da db ra imm s) :=
  .next hs.rawIssue

theorem State.Keeps.execSledOwn {e rd da db ra imm} (hs : s₀.Keeps s) : s₀.Goes (execSledOwn e rd da db ra imm s) :=
  .next hs.rawIssue

theorem State.Keeps.calTrigger {die b worst} (hs : s₀.Keeps s) : s₀.Keeps (s.calTrigger die b worst) :=
  .ite hs.calibrate hs

theorem State.Keeps.pageDone {tag} (hs : s₀.Keeps s) : s₀.Keeps (s.pageDone tag) := .ite hs.chunkDone hs

theorem State.Keeps.rawFailed {cls r cause} (hs : s₀.Keeps s) : s₀.Keeps (s.rawFailed cls r cause) :=
  .retarget (.retire (.ite hs.setF hs.setF))

theorem State.Keeps.rawDone {e o env} (hs : s₀.Keeps s) : s₀.Keeps (s.rawDone e o env).2 := by
  unfold State.rawDone
  refine .iteSnd hs.addN (.iteSnd hs.addN (.iteSnd (.iteSnd hs.addN.ownRefused (.iteSnd hs.addN.bridgeSet.ownRefused
    hs.addN.bridgeSet)) (.iteSnd hs.addN.ownLost (.iteSnd hs.addN.bridgeSet.ownLost ?_))))
  dsimp only
  split
  · exact .ite hs.addN.wrView.calTrigger.setF.calibrate hs.addN.wrView.calTrigger
  · exact
        have h2 := hs.addN.foldl (fun _ _ hs => hs.pageDone)
        .ite h2.rawFailed h2
  · exact .ite hs.addN.blockErased (.ite hs.addN.unerased.rawFailed hs.addN)
  · exact .ite hs.addN.rawFailed hs.addN
  · exact hs.addN.wrView

theorem State.Keeps.pageBad {k p} (hs : s₀.Keeps s) : s₀.Keeps (s.pageBad k p) :=
  hs.setF.putDie.putSheaf.upd.scarRows.holdRecount

theorem State.Keeps.readEntryDone {e o env} (hs : s₀.Keeps s) : s₀.Keeps (s.readEntryDone e o env).2.2 := by
  unfold State.readEntryDone
  dsimp only
  split
  · exact hs.wrView.putCtx
  · exact .iteTrd hs (.iteTrd hs (.iteTrd hs (.iteTrd (.iteTrd hs.pageBad hs.calibrate) (.iteTrd hs.putSheaf.scarRows (.iteTrd
    hs.wrView.putCtx hs.wrView.putCtx.addN.log.trace)))))

theorem State.Keeps.sledSuspend {o} (hs : s₀.Keeps s) : s₀.Keeps (s.sledSuspend o) := .ite hs.upd hs

theorem State.Keeps.sledDone {e o env} (hs : s₀.Keeps s) : s₀.Keeps (s.sledDone e o env).2.2 :=
  .iteTrd hs (.iteTrd hs.sledSuspend.readEntryDone hs.sledSuspend.rawDone)

theorem State.Keeps.portFail {k cause} (hs : s₀.Keeps s) : s₀.Keeps (s.portFail k cause) :=
  hs.portState.setF.setF.sledFail.slcRecompute

theorem State.Keeps.sledPower {k on} (hs : s₀.Keeps s) : s₀.Keeps (s.sledPower k on) := hs.upd

theorem State.Keeps.sledPerst {k low} (hs : s₀.Keeps s) : s₀.Keeps (s.sledPerst k low) := hs.upd

theorem State.Keeps.execSledPresence {sled} (hs : s₀.Keeps s) : s₀.Goes (execSledPresence sled s) :=
  .next (.ite hs.portState.setF.setF.sledPower.sledPerst hs)

theorem State.Keeps.execSledPowerTimer {sled} (hs : s₀.Keeps s) : s₀.Goes (execSledPowerTimer sled s) :=
  .next (.ite hs.sledPerst.portState hs)

theorem State.Keeps.sledCtlEnd {sled} (hs : s₀.Keeps s) : s₀.Keeps (s.sledCtlEnd sled) := hs.setF

theorem State.Keeps.sledTrained {sled width label dies blocks cycles ecc geometry}
    (hs : s₀.Keeps s) : s₀.Keeps (s.sledTrained sled width label dies blocks cycles ecc geometry) :=
  .ite (
    have h1 := hs.setF.setF.setF.setF.setF
    .ite h1.portFail.sledCtlEnd (.slcRecompute (h1.setN.upd.portState.sledCtlEnd.foldl (fun _ _ hs => hs.holdRecount)))) hs

theorem State.Keeps.execSledTrained {sled width label dies blocks cycles ecc geometry}
    (hs : s₀.Keeps s) : s₀.Goes (execSledTrained sled width label dies blocks cycles ecc geometry s) :=
  .next hs.sledTrained

theorem State.Keeps.execSledTrainFail {sled geometry} (hs : s₀.Keeps s) : s₀.Goes (execSledTrainFail sled geometry s) :=
  .next (.ite hs.portFail.sledCtlEnd hs)

theorem State.Keeps.execSledLaneFault {sled} (hs : s₀.Keeps s) : s₀.Goes (execSledLaneFault sled s) :=
  .next (.ite (.ite hs.setF.portState.spareCall hs.portFail) hs)

theorem State.Keeps.portTimeout {k} (hs : s₀.Keeps s) : s₀.Keeps (s.portTimeout k) := hs.upd

theorem State.Keeps.execSledCmdTimeout {sled} (hs : s₀.Keeps s) : s₀.Goes (execSledCmdTimeout sled s) :=
  .ite (
    have h1 := hs.foldl (fun _ _ hs => hs.rawFailed)
    .next (.foldl (.ite h1.portTimeout.upd.sledPerst.portState h1.portTimeout.upd.portFail) (fun _ _ hs => hs.foldEnd))) (.next
      hs)

theorem State.Keeps.execSledRemoved {sled} (hs : s₀.Keeps s) : s₀.Goes (execSledRemoved sled s) :=
  .next (.ite hs.portTimeout.setF.portFail.alarm hs)

theorem State.Keeps.sledRequest {f} (hs : s₀.Keeps s) (hf : ∀ x u, s₀.Keeps u → s₀.Keeps (f x u)) :
    s₀.Keeps (s.sledRequest f) := .ite hs (.ite hs.stat (hf _ _ hs))

theorem State.Keeps.execSledPowerOff (hs : s₀.Keeps s) : s₀.Goes (execSledPowerOff s) :=
  .next (hs.sledRequest (fun _ _ hs => .ite hs.stat hs.sledPower.portState.stat))

theorem State.Keeps.execSledPowerOn (hs : s₀.Keeps s) : s₀.Goes (execSledPowerOn s) :=
  .next (hs.sledRequest (fun _ _ hs => .ite hs.sledPower.stat.portState.sledPerst.setF hs.sledPower.stat))

theorem State.Keeps.execSledReset (hs : s₀.Keeps s) : s₀.Goes (execSledReset s) :=
  .next (hs.sledRequest (fun _ _ hs => .ite hs.stat hs.sledPerst.portState.setF.stat))

theorem State.Keeps.execSledRetrain (hs : s₀.Keeps s) : s₀.Goes (execSledRetrain s) :=
  .next (hs.sledRequest (fun _ _ hs => hs.portState.setF.stat))

theorem State.Keeps.privIssue {e rd ra minor kind ok} (hs : s₀.Keeps s) : s₀.Keeps (s.privIssue e rd ra minor kind ok) :=
  hs.accelIssue

theorem State.Keeps.execSqStart {e rd ra} (hs : s₀.Keeps s) : s₀.Goes (execSqStart e rd ra s) := .next hs.privIssue

theorem State.Keeps.execSqStop {e rd ra} (hs : s₀.Keeps s) : s₀.Goes (execSqStop e rd ra s) := .next hs.privIssue

theorem State.Keeps.execSqWidth {e rd ra} (hs : s₀.Keeps s) : s₀.Goes (execSqWidth e rd ra s) := .next hs.privIssue

theorem State.Keeps.sqDone {o} (hs : s₀.Keeps s) : s₀.Keeps (s.sqDone o).2 := by
  unfold State.sqDone
  split
  · exact hs.upd
  · exact hs.upd
  · exact hs.setF

/-! #### Warden -/

theorem State.Keeps.capNow (hs : s₀.Keeps s) : s₀.Keeps s.capNow :=
  .ite hs (.ite hs.upd.tollCap hs.upd.tollCap.tollMirror)

theorem State.Keeps.execCapacityTick {granaryS residence glean fp gcm}
    (hs : s₀.Keeps s) : s₀.Goes (execCapacityTick granaryS residence glean fp gcm s) :=
  .next (.ite hs hs.setN.upd.capNow)

theorem State.Keeps.fabricDown {p} (hs : s₀.Keeps s) : s₀.Keeps (s.fabricDown p) := hs.setN

theorem State.Keeps.magShut {p} (hs : s₀.Keeps s) : s₀.Keeps (s.magShut p) := .ite hs hs.ingStop.magAbortAll.setF.setF

theorem State.Keeps.magOpen {p} (hs : s₀.Keeps s) : s₀.Keeps (s.magOpen p) := .ite hs.setF.magTrain hs

theorem State.Keeps.gradeTo {g} (hs : s₀.Keeps s) : s₀.Keeps (s.gradeTo g) :=
  have h4 := State.Keeps.foldl (hs.setF.setF.setF.addF.tick.setF.foldl (fun _ _ hs => hs.fabricDown)) (fun _ _ hs =>
    State.Keeps.ite hs.magOpen hs.magShut)
  have h5 := State.Keeps.ite h4.cfLanesSet.setF h4
  .capNow (.ite h5.holdRestart h5)

theorem State.Keeps.vinSet {vin} (hs : s₀.Keeps s) : s₀.Keeps (s.vinSet vin) := hs.setF.setF

theorem State.Keeps.execGradeFall {vin} (hs : s₀.Keeps s) : s₀.Goes (execGradeFall vin s) :=
  .next (.ite hs (
    have h2 := State.Keeps.ite hs.vinSet.gradeTo hs.vinSet
    .ite h2.gradeTo h2))

theorem State.Keeps.execGradeRise {vin} (hs : s₀.Keeps s) : s₀.Goes (execGradeRise vin s) :=
  .next (.ite hs (
    have h2 := State.Keeps.ite hs.vinSet.gradeTo hs.vinSet
    .ite h2.gradeTo h2))

theorem State.Keeps.holdupGo {cause} (hs : s₀.Keeps s) : s₀.Keeps (s.holdupGo cause) :=
  .ite hs (.foldl (.enterHoldup (.setF (.landsHold (hs.testAbandon.upd.foldl (fun _ _ hs => hs.ingStop)))))
    (fun _ _ hs => hs.fabricDown))

theorem State.Keeps.execVinLoss {vin} (hs : s₀.Keeps s) : s₀.Goes (execVinLoss vin s) := by
  unfold Machine.execVinLoss
  refine .next ?_
  split
  · exact hs.vinSet.holdupGo
  · exact hs.vinSet
  · exact hs.vinSet.upd.setF

theorem State.Keeps.execVinReturn {vin} (hs : s₀.Keeps s) : s₀.Goes (execVinReturn vin s) :=
  .next (
    have h2 := State.Keeps.ite hs.vinSet.setF hs.vinSet
    .ite h2.upd h2)

theorem State.Keeps.execPowerCapExceeded {mw} (hs : s₀.Keeps s) : s₀.Goes (execPowerCapExceeded mw s) :=
  .next (.ite hs hs.upd.setF.setF.capNow)

theorem State.Keeps.execPowerCapRelax {mw} (hs : s₀.Keeps s) : s₀.Goes (execPowerCapRelax mw s) :=
  .next (.ite hs hs.upd.setF.setF.capNow)

theorem State.Keeps.bankBudget (hs : s₀.Keeps s) : s₀.Keeps s.bankBudget := .ite hs hs.budgetSet.capNow

theorem State.Keeps.bankMeasured {c} (hs : s₀.Keeps s) : s₀.Keeps (s.bankMeasured c) :=
  have h1 := hs.setF.setN.tick.bankVolt
  .ite h1.setF.setF.alarm.bankBudget h1.setF.setF.bankBudget

theorem State.Keeps.esrMeasured {esr} (hs : s₀.Keeps s) : s₀.Keeps (s.esrMeasured esr) :=
  .ite hs.setF.setF.alarm hs.setF.setF

theorem State.Keeps.execBankCharged (hs : s₀.Keeps s) : s₀.Goes (execBankCharged s) :=
  .next (.ite hs.setF.bankVolt.bankBudget hs)

theorem State.Keeps.execChargeWindow {refine dt} (hs : s₀.Keeps s) : s₀.Goes (execChargeWindow refine dt s) :=
  .next (.ite hs.bankVolt.bankMeasured hs)

theorem State.Keeps.execBankStepTestDue (hs : s₀.Keeps s) : s₀.Goes (execBankStepTestDue s) :=
  .next (.ite hs.queueTest hs)

theorem State.Keeps.execBankMeasure (hs : s₀.Keeps s) : s₀.Goes (execBankMeasure s) :=
  .next (.ite hs.stat (.ite hs.stat hs.setF.setF.stat.queueTest))

theorem State.Keeps.bankLost {det} (hs : s₀.Keeps s) : s₀.Keeps (s.bankLost det) := .ite hs hs.setF.alarm.bankBudget

theorem State.Keeps.execBankDisconnect (hs : s₀.Keeps s) : s₀.Goes (execBankDisconnect s) :=
  .next (.ite hs hs.bankLost)

theorem State.Keeps.execHoldSenseMismatch (hs : s₀.Keeps s) : s₀.Goes (execHoldSenseMismatch s) :=
  .next (.ite hs hs.bankLost)

theorem State.Keeps.caseTemp {t} (hs : s₀.Keeps s) : s₀.Keeps (s.caseTemp t) := .ite hs.setF.setF hs.setF

theorem State.Keeps.refresh (hs : s₀.Keeps s) : s₀.Keeps s.refresh := hs.setF

theorem State.Keeps.thermalSet {on} (hs : s₀.Keeps s) : s₀.Keeps (s.thermalSet on) := hs.setF.setF.setF.refresh.capNow

theorem State.Keeps.execThermalCapOn {temp} (hs : s₀.Keeps s) : s₀.Goes (execThermalCapOn temp s) :=
  .next (.ite hs.caseTemp.thermalSet hs.caseTemp)

theorem State.Keeps.execThermalCapOff {temp} (hs : s₀.Keeps s) : s₀.Goes (execThermalCapOff temp s) :=
  .next (.ite hs.caseTemp.thermalSet hs.caseTemp)

theorem State.Keeps.execOverTemp {temp} (hs : s₀.Keeps s) : s₀.Goes (execOverTemp temp s) :=
  .next (.ite hs.caseTemp.upd.holdupGo hs.caseTemp)

theorem State.Keeps.execOvertempCooled {temp} (hs : s₀.Keeps s) : s₀.Goes (execOvertempCooled temp s) :=
  .next (.ite hs.caseTemp.upd.upd hs.caseTemp.upd)

theorem State.Keeps.execCaseTooCold {temp} (hs : s₀.Keeps s) : s₀.Goes (execCaseTooCold temp s) :=
  .next (.ite hs.caseTemp hs.caseTemp.upd.alarm)

theorem State.Keeps.execHbmStackHot {temp0 temp1} (hs : s₀.Keeps s) : s₀.Goes (execHbmStackHot temp0 temp1 s) :=
  .next hs.setF.setF.upd.refresh

theorem State.Keeps.execPllFault {pll} (hs : s₀.Keeps s) : s₀.Goes (execPllFault pll s) := .next (.ite hs hs.upd.setF)

theorem State.Keeps.execRtcxLoss (hs : s₀.Keeps s) : s₀.Goes (execRtcxLoss s) := .next (.ite hs.setF.alarm hs)

theorem State.Keeps.execRefclkLoss {ref} (hs : s₀.Keeps s) : s₀.Goes (execRefclkLoss ref s) := by
  unfold Machine.execRefclkLoss
  refine .next (.ite hs ?_)
  split
  · exact hs.setF.foldl (fun _ _ hs => hs.portTimeout.portFail)
  · exact .setF (.cfLanesSet (hs.setF.foldl (fun _ _ hs => hs.fabricDown)))
  · exact hs.setF.foldl (fun _ _ hs => .ite hs.magTrain.magDown.ingStop hs)

theorem State.Keeps.execVinAboveRange {vin} (hs : s₀.Keeps s) : s₀.Goes (execVinAboveRange vin s) :=
  .next (.ite hs.vinSet.upd.alarm hs.vinSet.upd)

theorem State.Keeps.execConverterStop (hs : s₀.Keeps s) : s₀.Goes (execConverterStop s) := .next (.ite hs hs.upd)

theorem State.Keeps.execAlarmLedExpiry (hs : s₀.Keeps s) : s₀.Goes (execAlarmLedExpiry s) := .next hs.upd

theorem State.Keeps.execWardenTestGo {kind unit0 force} (hs : s₀.Keeps s) : s₀.Goes (execWardenTestGo kind unit0 force s) :=
  .next (.ite hs.stat (.ite hs.setF.setF.stat hs.setF.setF.setF.stat.queueTest))

theorem State.Keeps.execPeriodicTestDue {kind unit} (hs : s₀.Keeps s) : s₀.Goes (execPeriodicTestDue kind unit s) :=
  .next (.ite hs hs.queueTest)

theorem State.Keeps.testQueueSet {q} (hs : s₀.Keeps s) : s₀.Keeps (s.testQueueSet q) := hs.upd.setF

theorem State.Keeps.testDefer {r ms} (hs : s₀.Keeps s) : s₀.Keeps (s.testDefer r ms) :=
  have h3 := State.Keeps.ite hs.addF.upd.setF.setF.setF (State.Keeps.ite hs.addF.upd.setF.setF.setF
    (State.Keeps.ite hs.addF.upd.setF.setF (State.Keeps.ite hs.addF.upd (State.Keeps.ite hs.addF.upd.setF.setF.setF
      (State.Keeps.ite hs.addF.upd.setF.setF.setF hs.addF.upd.setF.setF.setF)))))
  .ite h3.testQueueSet (.ite h3.testQueueSet.alarm h3.testQueueSet)

theorem State.Keeps.testBegin {r} (hs : s₀.Keeps s) : s₀.Keeps (s.testBegin r) :=
  have h2 := State.Keeps.ite hs.testQueueSet.setF hs.testQueueSet
  .ite (.ite h2.upd.setF h2.upd.setF.setF) (.ite (.ite h2.upd.setF.setF.handWithdraw h2.upd.setF.setF) (.ite
    h2.upd.setF.setF.pressWithdraw (.ite h2.upd.setF.setF.millWithdraw (.ite h2.upd.setF.setF.assayWithdraw (.ite
      h2.upd.setF.setF.councilWithdraw h2.upd.setF.setF.linesClean)))))

theorem State.Keeps.execTestWithdrawal (hs : s₀.Keeps s) : s₀.Goes (execTestWithdrawal s) := by
  unfold Machine.execTestWithdrawal
  refine .next (.ite hs ?_)
  split
  · exact hs
  · exact .ite hs.tollMirror.upd.testBegin (.ite hs.testDefer hs.testBegin)

theorem State.Keeps.unitDone {r pass} (hs : s₀.Keeps s) : s₀.Keeps (s.unitDone r pass) :=
  .ite (.ite hs hs.handTestDone) (.ite hs.pressTestDone (.ite hs.millTestDone (.ite hs.assayTestDone (.ite hs.councilTestDone
    (.ite hs hs.wayFail)))))

theorem State.Keeps.execUnitTestDone {beside pass c esr v}
    (hs : s₀.Keeps s) : s₀.Goes (execUnitTestDone beside pass c esr v s) := by
  unfold Machine.execUnitTestDone
  refine .next (.ite ?_ ?_)
  · split
    · exact hs
    · exact
          .testNoted (.ite (
            have h3 := hs.upd.bankVolt.esrMeasured.bankMeasured
            .ite h3.setF.setF h3) (.ite hs.upd.addF.setF.setF hs.upd.addF.spareCall.log))
  · split
    · exact hs
    · exact .ite hs (.capNow (hs.upd.testQueueSet.testIdle.unitDone.testNoted.foldl (fun _ _ hs => .ite hs.testNoted (.ite
      hs.unitDone hs))))

theorem State.Keeps.deferred {st ret n ms} (hs : s₀.Keeps s) : s₀.Keeps (s.deferred st ret n ms) := hs.stat.setF.upd

theorem State.Keeps.execPressLaneRetire (hs : s₀.Keeps s) : s₀.Goes (execPressLaneRetire s) := by
  unfold Machine.execPressLaneRetire
  refine .next (hs.pressRequest (fun _ _ hs => .ite hs.stat (.ite hs.stat ?_)))
  split
  · exact hs.deferred
  · exact hs.pressRetire.stat

theorem State.Keeps.execMillCoreRetire (hs : s₀.Keeps s) : s₀.Goes (execMillCoreRetire s) := by
  unfold Machine.execMillCoreRetire
  refine .next (hs.millRequest (fun _ _ hs => .ite hs.stat (.ite hs.stat ?_)))
  split
  · exact hs.deferred
  · exact hs.millRetire.stat

theorem State.Keeps.execAssayLaneRetire (hs : s₀.Keeps s) : s₀.Goes (execAssayLaneRetire s) := by
  unfold Machine.execAssayLaneRetire
  refine .next (hs.assayRequest (fun _ _ hs => .ite hs.stat (.ite hs.stat ?_)))
  split
  · exact hs.deferred
  · exact hs.assayRetire.stat

theorem State.Keeps.execLarderWayRetire {way} (hs : s₀.Keeps s) : s₀.Goes (execLarderWayRetire way s) := by
  unfold Machine.execLarderWayRetire
  refine .next (.ite hs.stat (.ite hs.setF.stat (.ite hs.setF.stat ?_)))
  split
  · exact hs.setF.stat.upd
  · exact hs.setF.wayRetire.stat

theorem State.Keeps.unitFailed {kind unit} (hs : s₀.Keeps s) : s₀.Keeps (s.unitFailed kind unit) := by
  unfold State.unitFailed
  split
  · exact .ite hs.testLost hs.testAbandon
  · exact hs

theorem State.Keeps.execPressLaneFailure {lane} (hs : s₀.Keeps s) : s₀.Goes (execPressLaneFailure lane s) :=
  .next hs.unitFailed.pressLaneFail

theorem State.Keeps.execMillCoreFailure {core} (hs : s₀.Keeps s) : s₀.Goes (execMillCoreFailure core s) :=
  .next hs.unitFailed.millCoreFail

theorem State.Keeps.execAssayLaneFailure {lane} (hs : s₀.Keeps s) : s₀.Goes (execAssayLaneFailure lane s) :=
  .next hs.unitFailed.assayLaneFail

/-! #### Start -/

theorem State.Keeps.restart (hs : s₀.Keeps s) : s₀.Keeps s.restart := by
  have h1 := hs.foldl (l := s.hold.formed) (f := fun s c => s.setF (F.STEWARD_CMN_GROWN_BAD_START.at c) 0) fun _ _ hs => hs.setF
  exact ⟨hs.queue, fun hc => ⟨AMap.filter_wfFrom _ _ _ 0 (h1.stores hc).1, rfl⟩⟩

theorem State.Keeps.warmed (hs : s₀.Keeps s) : s₀.Keeps s.warmed := hs.upd

theorem State.Keeps.bootEntry {n state status} (hs : s₀.Keeps s) : s₀.Keeps (s.bootEntry n state status) := hs.upd

theorem State.Keeps.maskShow (hs : s₀.Keeps s) : s₀.Keeps s.maskShow := hs.setN.upd

theorem State.Keeps.bootChoose {n} (hs : s₀.Keeps s) : s₀.Keeps (s.bootChoose n) :=
  .ite hs (.ite hs.setN (.ite hs.upd.setF.alarm (.ite hs.upd (.ite hs.setF.alarm hs))))

theorem State.Keeps.bootPlan (hs : s₀.Keeps s) : s₀.Keeps s.bootPlan := by
  unfold State.bootPlan
  dsimp only
  split
  · exact .ite (.upd (.maskShow (.setF (.ite (.ite (.ite hs.upd.setN hs) (.foldl (.ite hs.upd.setN hs)
    (fun _ _ hs => hs.bootChoose))) (.setF (.ite (.ite hs.upd.setN hs) (.foldl (.ite hs.upd.setN hs)
      (fun _ _ hs => hs.bootChoose)))))))) (.alarm (.upd (.maskShow (.setF (.ite (.ite (.ite hs.upd.setN hs) (.foldl (.ite
        hs.upd.setN hs) (fun _ _ hs => hs.bootChoose))) (.setF (.ite (.ite hs.upd.setN hs) (.foldl (.ite hs.upd.setN hs)
          (fun _ _ hs => hs.bootChoose)))))))))
  · exact .upd (.maskShow (.setF (.ite (.ite (.ite hs.upd.setN hs) (.foldl (.ite hs.upd.setN hs) (fun _ _ hs => hs.bootChoose)))
    (.setF (.ite (.ite hs.upd.setN hs) (.foldl (.ite hs.upd.setN hs) (fun _ _ hs => hs.bootChoose)))))))

theorem State.Keeps.bootHead (hs : s₀.Keeps s) : s₀.Keeps s.bootHead.2 :=
  .iteSnd hs (.mgmtWords (.ite hs.setN.upd (hs.setN.upd.foldl (fun _ _ hs => hs.setN))))

theorem State.Keeps.bootParts (hs : s₀.Keeps s) : s₀.Keeps s.bootParts.2 := .iteSnd hs hs

theorem State.Keeps.partsExtend {hm} (hs : s₀.Keeps s) : s₀.Keeps (s.partsExtend hm) :=
  hs.foldl (fun _ _ hs => hs.hallmarkExtend)

theorem State.Keeps.enginesLoad {lo units codeLen} (hs : s₀.Keeps s) : s₀.Keeps (s.enginesLoad lo units codeLen) :=
  hs.upd

theorem State.Keeps.bootHbm (hs : s₀.Keeps s) : s₀.Keeps s.bootHbm :=
  .ite hs.setF.setF.setF.setF.setF.upd hs.setF.setF.setF.upd

theorem State.Keeps.bootRepair {ch row} (hs : s₀.Keeps s) : s₀.Keeps (s.bootRepair ch row) :=
  .ite hs.upd.addF.setF.addF hs

theorem State.Keeps.bootRecipes (hs : s₀.Keeps s) : s₀.Keeps s.bootRecipes :=
  hs.foldl (fun _ _ hs => .ite hs (.hallmarkExtend (hs.upd.foldl (fun _ _ hs => hs.wrBytes))))

theorem State.Keeps.bootPackages (hs : s₀.Keeps s) : s₀.Keeps s.bootPackages.2 := .iteSnd hs hs.bootRecipes

theorem State.Keeps.bootKeys (hs : s₀.Keeps s) : s₀.Keeps s.bootKeys := by
  unfold State.bootKeys
  refine
    have h1 : s₀.Keeps _ := hs.foldl (fun _ _ hs => ?_)
    h1.foldl (fun _ _ hs => ?_)
  · dsimp only
    split
    · exact hs.keyStore
    · exact hs.addN
  · dsimp only
    split
    · exact hs.keyStore
    · exact hs.addN

theorem State.Keeps.arrange (hs : s₀.Keeps s) : s₀.Keeps s.arrange := .ite hs hs.upd

theorem State.Keeps.bootSleds (hs : s₀.Keeps s) : s₀.Keeps s.bootSleds :=
  hs.arrange.foldl (fun _ _ hs => .ite hs hs.sledPower.sledPerst.portState)

theorem State.Keeps.tableRead {found} (hs : s₀.Keeps s) : s₀.Keeps (s.tableRead found) :=
  .ite hs (hs.upd.foldl (fun _ _ hs => hs.setF.setF.setF.setF.setF.foldl (fun _ _ hs => .ite hs.putDie hs)))

theorem State.Keeps.bootEnumerate (hs : s₀.Keeps s) : s₀.Keeps s.bootEnumerate :=
  have h2 := hs.setN.tableRead.foldl (fun _ _ hs => hs.sledTrained)
  .ite h2 h2.setN

theorem State.Keeps.bootRecover (hs : s₀.Keeps s) : s₀.Keeps s.bootRecover := by
  unfold State.bootRecover
  refine .ite hs (hs.foldl (fun _ _ hs => ?_))
  split
  · exact hs.cmnRecover.imagesFound
  · exact hs

theorem State.Keeps.regsClear (hs : s₀.Keeps s) : s₀.Keeps s.regsClear := hs.foldl (fun _ _ hs => hs.setF)

theorem State.Keeps.internalQueues (hs : s₀.Keeps s) : s₀.Keeps s.internalQueues := by
  have make {u depth src : _} (hu : s₀.Keeps u) : s₀.Keeps (match u.createQueue kInternal depth 2 src 0 0 with
      | .ok (q, s1) => (q + 1, s1)
      | .error _ => (0, u)).2 := by
    split
    · next h => exact have h1 := hu.createQueue h; h1
    · exact hu
  exact .ite hs (.foldl (make hs) fun _ _ hs => .putIng (make hs))

theorem State.Keeps.bootWork {n} (hs : s₀.Keeps s) : s₀.Keeps (s.bootWork n).2 := by
  unfold State.bootWork
  dsimp only
  split
  · exact hs.bootPlan
  · exact hs.bootHead
  · exact hs.bootParts
  · exact hs.partsExtend.enginesLoad
  · exact hs.drbgStart.keyStore
  · dsimp only
    exact .ite hs.setF hs.setF.keyStore.setF
  · exact hs.bootHbm
  · exact hs.setF.setF
  · exact hs.foldl (fun _ _ hs => .ite hs.millRetire hs.setN)
  · exact hs.foldl (fun _ _ hs => hs.assayRetire)
  · exact hs.foldl (fun _ _ hs => .ite hs hs.pressRetire)
  · exact hs.foldl (fun _ _ hs => hs.wayFail)
  · exact hs.foldl (fun _ _ hs => hs.bootRepair)
  · exact hs.enginesLoad
  · exact hs.bootPackages
  · exact hs.enginesLoad.partsExtend.councilArrange.reelMark
  · exact hs.bootKeys
  · exact hs.bootSleds
  · exact hs.bootEnumerate
  · exact hs.bootRecover
  · exact hs.setN
  · exact hs.upd.foldl (fun _ _ hs => hs.filterBuild)
  · exact hs.foldl (fun _ _ hs => hs.streamOpenVol)
  · exact hs.upd.setN
  · exact hs.foldl (fun _ _ hs => hs.magTrain)
  · exact hs.cfTrained
  · exact hs.regsClear
  · exact hs.upd
  · dsimp only
    exact hs.hallmarkExtend
  · exact hs.regEvent
  · exact hs.internalQueues.slcRecompute.capNow.joinBegin
  · exact hs

theorem State.Keeps.bootBegin {n k} (hs : s₀.Keeps s) : s₀.Keeps (s.bootBegin n k) := by
  induction k generalizing s n with
  | zero => exact hs
  | succ k ih => exact .ite hs.upd.setF (.ite (ih hs.bootEntry.addF) hs.bootEntry.setF.setF.upd)

theorem State.Keeps.bootDone {n} (hs : s₀.Keeps s) : s₀.Keeps (s.bootDone n) :=
  .bootBegin (.ite hs.bootEntry.addF hs.bootEntry)

theorem State.Keeps.bootFail {n st} (hs : s₀.Keeps s) : s₀.Keeps (s.bootFail n st) := hs.bootEntry.setF.upd.regEvent

theorem State.Keeps.bootClock (hs : s₀.Keeps s) : s₀.Keeps s.bootClock :=
  .ite hs (.ite hs.upd (.ite (.ite hs.setF.setF.bankVolt.setF.queueTest hs.setF.setF.bankVolt) hs))

theorem State.Keeps.bootTick (hs : s₀.Keeps s) : s₀.Keeps s.bootTick := by
  unfold State.bootTick
  refine .ite hs ?_
  split
  · exact hs.bootFail
  · exact .ite hs.bootFail (.ite hs.bootWork.bootEntry.upd hs.bootWork.bootDone)

theorem State.Keeps.ledgerShift (hs : s₀.Keeps s) : s₀.Keeps s.ledgerShift := hs.upd

theorem State.Keeps.bootStart {env warm} (hs : s₀.Keeps s) : s₀.Keeps (s.bootStart env warm) :=
  hs.ledgerShift.upd.handsIn.pressIn.millIn.setF.setF.bootBegin

theorem State.Keeps.t0 {env cause} (hs : s₀.Keeps s) : s₀.Keeps (s.t0 env cause) :=
  .bootStart (.modeFrom (.foldl (.foldl (.setF (.mgmtWords (.setF (.setF (.setF (.setF
    (hs.restart.upd.setN.setN.setF.setN.setF.setF.setF.upd.foldl (fun _ _ hs => hs.queueTest)))))))) (fun _ _ hs => hs.setF))
      (fun _ _ hs => hs.setF)))

theorem State.Keeps.moduleReset {env} (hs : s₀.Keeps s) : s₀.Keeps (s.moduleReset env) :=
  .ite hs (.ite hs.upd.t0 hs.restart.upd.setF)

theorem State.Keeps.warmRestart {env cause} (hs : s₀.Keeps s) : s₀.Keeps (s.warmRestart env cause) :=
  .bootStart (.reqDone (.warmed (.setMode (hs.foldl (fun _ _ hs => hs.ckptStart.dbClose)))))

theorem State.Keeps.execPowerUp {vin} (hs : s₀.Keeps s) : s₀.Goes (execPowerUp vin s) :=
  .next (.ite hs.setF.upd hs.setF)

theorem State.Keeps.execPowerGood {env} (hs : s₀.Keeps s) : s₀.Goes (execPowerGood env s) := .next (.ite hs hs.t0)

theorem State.Keeps.execBootStepTimeout (hs : s₀.Keeps s) : s₀.Goes (execBootStepTimeout s) :=
  .next (.ite hs.bootFail hs)

theorem State.Keeps.execBootFailReset {env} (hs : s₀.Keeps s) : s₀.Goes (execBootFailReset env s) :=
  .next (.ite hs.moduleReset hs)

theorem State.Keeps.execModuleReset {env} (hs : s₀.Keeps s) : s₀.Goes (execModuleReset env s) := .next hs.moduleReset

theorem State.Keeps.execPllRelockFail (hs : s₀.Keeps s) : s₀.Goes (execPllRelockFail s) :=
  .next (.ite hs hs.restart.upd)

theorem State.Keeps.execStrongRetry {env} (hs : s₀.Keeps s) : s₀.Goes (execStrongRetry env s) :=
  .next (.ite hs.stat hs.setF.stat.upd.moduleReset)

theorem State.Keeps.execStrongClearAlt (hs : s₀.Keeps s) : s₀.Goes (execStrongClearAlt s) := .next hs.upd.stat

theorem State.Keeps.holdupDone {flushed} (hs : s₀.Keeps s) : s₀.Keeps (s.holdupDone flushed) :=
  have h1 := hs.foldl (fun _ _ hs => hs.dbClose)
  have h4 := State.Keeps.ite h1.setF.setF.setF.regEvent.sendStub h1.setF.setF.setF.regEvent
  have h6 := State.Keeps.ite h4.parishWindow h4.parishWindow.lossRecord.parishWindow
  .ite h6.regEvent.parishWindow.upd.setF.upd (.ite h6.regEvent.parishWindow.upd.setF.upd
    h6.regEvent.parishWindow.upd.setF.upd.setF)

theorem State.Keeps.execHoldupFlushComplete (hs : s₀.Keeps s) : s₀.Goes (execHoldupFlushComplete s) :=
  .next (.ite hs.holdupDone hs)

theorem State.Keeps.execBankReserveReached {flushed} (hs : s₀.Keeps s) : s₀.Goes (execBankReserveReached flushed s) :=
  .next (.ite hs.holdupDone hs)

theorem State.Keeps.execModeReqBootstrap {env} (hs : s₀.Keeps s) : s₀.Goes (execModeReqBootstrap env s) :=
  .next (hs.modeReq (fun _ hs => .ite hs.stat.warmRestart hs.stat))

theorem State.Keeps.execModeReqReplay (hs : s₀.Keeps s) : s₀.Goes (execModeReqReplay s) := by
  unfold Machine.execModeReqReplay
  refine .next (hs.modeReq (fun _ hs => .ite hs.stat (.ite hs.stat (.ite hs.grantUsed.stat ?_))))
  dsimp only
  split
  · exact .stat (.ite hs.grantUsed.reelReload hs.grantUsed)
  · exact .stat (.setN (.setN (.setN (.councilArrange (.setMode (.upd (.ite hs.grantUsed.reelReload hs.grantUsed)))))))

theorem State.Keeps.execFeatNegotiate {persist} (hs : s₀.Keeps s) : s₀.Goes (execFeatNegotiate persist s) :=
  .next hs.featSet.stat.pushRefresh

theorem State.Keeps.activateReq {env what} (hs : s₀.Keeps s) : s₀.Keeps (s.activateReq env what) :=
  .ite hs.stat (.ite hs.stat hs.stat.activate.warmRestart)

theorem State.Keeps.execFwActivate {env} (hs : s₀.Keeps s) : s₀.Goes (execFwActivate env s) := .next hs.activateReq

theorem State.Keeps.execFwRollback {env} (hs : s₀.Keeps s) : s₀.Goes (execFwRollback env s) := .next hs.activateReq

theorem State.Keeps.execRollGo (hs : s₀.Keeps s) : s₀.Goes (execRollGo s) :=
  .next (.ite hs.stat (.ite hs.stat hs.upd.setF.setF.setF.stat.sendAct))

theorem State.Keeps.rollActivate {env step} (hs : s₀.Keeps s) : s₀.Keeps (s.rollActivate env step) :=
  .ite hs.rollEnd hs.activate.upd.warmRestart

theorem State.Keeps.rollStep {env} (hs : s₀.Keeps s) : s₀.Keeps (s.rollStep env) :=
  .ite (.ite hs.rollActivate hs) (.ite hs.setF.sendAct (.ite hs.rollEnd (.ite (.ite hs.rollEnd (.ite hs.rollEnd
    hs.upd.setF.serviceAsk)) (.ite hs.rollActivate (.ite hs.rollEnd (.ite hs.rollEnd hs))))))

theorem State.Keeps.execRollStepAdvance {env} (hs : s₀.Keeps s) : s₀.Goes (execRollStepAdvance env s) :=
  .next hs.rollStep

/-! #### Clock -/

theorem State.Keeps.reserve (hs : s₀.Keeps s) : s₀.Keeps s.reserve := .ite hs.upd hs

theorem State.Keeps.levelsTick (hs : s₀.Keeps s) : s₀.Keeps s.levelsTick :=
  .ite hs (hs.foldl (fun _ _ hs => hs.countAdd))

theorem State.Keeps.cyclesTick (hs : s₀.Keeps s) : s₀.Keeps s.cyclesTick :=
  .levelsTick (hs.foldl (fun _ _ hs => hs.addN))

theorem State.Keeps.secondTick (hs : s₀.Keeps s) : s₀.Keeps s.secondTick :=
  have h2 := State.Keeps.ite hs.upd.setN.setF.addF hs.upd.setN.setF
  .ite h2.setF h2

theorem State.Keeps.clockTick (hs : s₀.Keeps s) : s₀.Keeps (clockTick s) :=
  .ite hs.upd (
    have h2 := hs.upd.bootClock.bootTick.cyclesTick.reserve.magTick
    have h3 := State.Keeps.ite h2.upd.setF h2
    have h4 := State.Keeps.ite h3.capNow h3
    .ite h4.secondTick h4)

/-! #### Ixa -/

theorem State.Keeps.execAdd {e rd ra rb} (hs : s₀.Keeps s) : s₀.Goes (execAdd e rd ra rb s) := .next hs.compute

theorem State.Keeps.execSub {e rd ra rb} (hs : s₀.Keeps s) : s₀.Goes (execSub e rd ra rb s) := .next hs.compute

theorem State.Keeps.execAnd {e rd ra rb} (hs : s₀.Keeps s) : s₀.Goes (execAnd e rd ra rb s) := .next hs.compute

theorem State.Keeps.execOr {e rd ra rb} (hs : s₀.Keeps s) : s₀.Goes (execOr e rd ra rb s) := .next hs.compute

theorem State.Keeps.execXor {e rd ra rb} (hs : s₀.Keeps s) : s₀.Goes (execXor e rd ra rb s) := .next hs.compute

theorem State.Keeps.execAndn {e rd ra rb} (hs : s₀.Keeps s) : s₀.Goes (execAndn e rd ra rb s) := .next hs.compute

theorem State.Keeps.execShl {e rd ra rb} (hs : s₀.Keeps s) : s₀.Goes (execShl e rd ra rb s) := .next hs.compute

theorem State.Keeps.execShr {e rd ra rb} (hs : s₀.Keeps s) : s₀.Goes (execShr e rd ra rb s) := .next hs.compute

theorem State.Keeps.execSar {e rd ra rb} (hs : s₀.Keeps s) : s₀.Goes (execSar e rd ra rb s) := .next hs.compute

theorem State.Keeps.execRotr {e rd ra rb} (hs : s₀.Keeps s) : s₀.Goes (execRotr e rd ra rb s) := .next hs.compute

theorem State.Keeps.execMul {e rd ra rb} (hs : s₀.Keeps s) : s₀.Goes (execMul e rd ra rb s) := .next hs.compute

theorem State.Keeps.execMulhu {e rd ra rb} (hs : s₀.Keeps s) : s₀.Goes (execMulhu e rd ra rb s) := .next hs.compute

theorem State.Keeps.execMulhs {e rd ra rb} (hs : s₀.Keeps s) : s₀.Goes (execMulhs e rd ra rb s) := .next hs.compute

theorem State.Keeps.execDivu {e rd ra rb} (hs : s₀.Keeps s) : s₀.Goes (execDivu e rd ra rb s) := .next hs.compute

theorem State.Keeps.execRemu {e rd ra rb} (hs : s₀.Keeps s) : s₀.Goes (execRemu e rd ra rb s) := .next hs.compute

theorem State.Keeps.execDivs {e rd ra rb} (hs : s₀.Keeps s) : s₀.Goes (execDivs e rd ra rb s) := .next hs.compute

theorem State.Keeps.execRems {e rd ra rb} (hs : s₀.Keeps s) : s₀.Goes (execRems e rd ra rb s) := .next hs.compute

theorem State.Keeps.execMinu {e rd ra rb} (hs : s₀.Keeps s) : s₀.Goes (execMinu e rd ra rb s) := .next hs.compute

theorem State.Keeps.execMaxu {e rd ra rb} (hs : s₀.Keeps s) : s₀.Goes (execMaxu e rd ra rb s) := .next hs.compute

theorem State.Keeps.execMins {e rd ra rb} (hs : s₀.Keeps s) : s₀.Goes (execMins e rd ra rb s) := .next hs.compute

theorem State.Keeps.execMaxs {e rd ra rb} (hs : s₀.Keeps s) : s₀.Goes (execMaxs e rd ra rb s) := .next hs.compute

theorem State.Keeps.execShli {e rd ra amt} (hs : s₀.Keeps s) : s₀.Goes (execShli e rd ra amt s) := .next hs.compute

theorem State.Keeps.execShri {e rd ra amt} (hs : s₀.Keeps s) : s₀.Goes (execShri e rd ra amt s) := .next hs.compute

theorem State.Keeps.execSari {e rd ra amt} (hs : s₀.Keeps s) : s₀.Goes (execSari e rd ra amt s) := .next hs.compute

theorem State.Keeps.execClz {e rd ra} (hs : s₀.Keeps s) : s₀.Goes (execClz e rd ra s) := .next hs.compute

theorem State.Keeps.execCtz {e rd ra} (hs : s₀.Keeps s) : s₀.Goes (execCtz e rd ra s) := .next hs.compute

theorem State.Keeps.execPopc {e rd ra} (hs : s₀.Keeps s) : s₀.Goes (execPopc e rd ra s) := .next hs.compute

theorem State.Keeps.execBswap {e rd ra} (hs : s₀.Keeps s) : s₀.Goes (execBswap e rd ra s) := .next hs.compute

theorem State.Keeps.execSel {e rd ra rb p} (hs : s₀.Keeps s) : s₀.Goes (execSel e rd ra rb p s) := .next hs.compute

theorem State.Keeps.execExt {e rd ra rb sh} (hs : s₀.Keeps s) : s₀.Goes (execExt e rd ra rb sh s) := .next hs.compute

theorem State.Keeps.execMfs {e rd sh} (hs : s₀.Keeps s) : s₀.Goes (execMfs e rd sh s) := by
  unfold Machine.execMfs
  refine .next (hs.issue (fun _ _ hs => ?_))
  split
  · exact hs.trapTake
  · exact .done (.ite hs.draw hs)

theorem State.Keeps.execPtog {e rd} (hs : s₀.Keeps s) : s₀.Goes (execPtog e rd s) := .next hs.compute

theorem State.Keeps.execGtop {e ra} (hs : s₀.Keeps s) : s₀.Goes (execGtop e ra s) :=
  .next (hs.issue (fun _ _ hs => hs.done))

theorem State.Keeps.execAddi {e rd ra imm} (hs : s₀.Keeps s) : s₀.Goes (execAddi e rd ra imm s) := .next hs.compute

theorem State.Keeps.execAndi {e rd ra imm} (hs : s₀.Keeps s) : s₀.Goes (execAndi e rd ra imm s) := .next hs.compute

theorem State.Keeps.execOri {e rd ra imm} (hs : s₀.Keeps s) : s₀.Goes (execOri e rd ra imm s) := .next hs.compute

theorem State.Keeps.execXori {e rd ra imm} (hs : s₀.Keeps s) : s₀.Goes (execXori e rd ra imm s) := .next hs.compute

theorem State.Keeps.execLiL {e rd imm} (hs : s₀.Keeps s) : s₀.Goes (execLiL e rd imm s) := .next hs.compute

theorem State.Keeps.execLiuL {e rd imm} (hs : s₀.Keeps s) : s₀.Goes (execLiuL e rd imm s) := .next hs.compute

theorem State.Keeps.execAddiL {e rd imm} (hs : s₀.Keeps s) : s₀.Goes (execAddiL e rd imm s) := .next hs.compute

theorem State.Keeps.execAndiL {e rd imm} (hs : s₀.Keeps s) : s₀.Goes (execAndiL e rd imm s) := .next hs.compute

theorem State.Keeps.execOriL {e rd imm} (hs : s₀.Keeps s) : s₀.Goes (execOriL e rd imm s) := .next hs.compute

theorem State.Keeps.execCmp {e pd cond ra rb} (hs : s₀.Keeps s) : s₀.Goes (execCmp e pd cond ra rb s) :=
  .next hs.computeP

theorem State.Keeps.execCmpi {e pd cond ra imm} (hs : s₀.Keeps s) : s₀.Goes (execCmpi e pd cond ra imm s) :=
  .next hs.computeP

theorem State.Keeps.execPredAnd {e pd pa pb} (hs : s₀.Keeps s) : s₀.Goes (execPredAnd e pd pa pb s) :=
  .next hs.computeP

theorem State.Keeps.execPredOr {e pd pa pb} (hs : s₀.Keeps s) : s₀.Goes (execPredOr e pd pa pb s) := .next hs.computeP

theorem State.Keeps.execPredXor {e pd pa pb} (hs : s₀.Keeps s) : s₀.Goes (execPredXor e pd pa pb s) :=
  .next hs.computeP

theorem State.Keeps.execPredAndn {e pd pa pb} (hs : s₀.Keeps s) : s₀.Goes (execPredAndn e pd pa pb s) :=
  .next hs.computeP

theorem State.Keeps.execPredNot {e pd pa} (hs : s₀.Keeps s) : s₀.Goes (execPredNot e pd pa s) := .next hs.computeP

theorem State.Keeps.execPredMov {e pd pa} (hs : s₀.Keeps s) : s₀.Goes (execPredMov e pd pa s) := .next hs.computeP

theorem State.Keeps.execPredSet {e pd} (hs : s₀.Keeps s) : s₀.Goes (execPredSet e pd s) := .next hs.computeP

theorem State.Keeps.execPredClr {e pd} (hs : s₀.Keeps s) : s₀.Goes (execPredClr e pd s) := .next hs.computeP

theorem State.Keeps.branch {e off taken link} (hs : s₀.Keeps s) : s₀.Keeps (s.branch e off taken link) := by
  unfold State.branch
  refine hs.issue (fun _ _ hs => ?_)
  split
  · exact hs.trapTake
  · exact hs.putCtx

theorem State.Keeps.execB {e off} (hs : s₀.Keeps s) : s₀.Goes (execB e off s) := .next hs.branch

theorem State.Keeps.execBt {e p off} (hs : s₀.Keeps s) : s₀.Goes (execBt e p off s) := .next hs.branch

theorem State.Keeps.execBf {e p off} (hs : s₀.Keeps s) : s₀.Goes (execBf e p off s) := .next hs.branch

theorem State.Keeps.execCall {e off} (hs : s₀.Keeps s) : s₀.Goes (execCall e off s) := .next hs.branch

theorem State.Keeps.execJr {e rd ra} (hs : s₀.Keeps s) : s₀.Goes (execJr e rd ra s) :=
  .next (hs.issue (fun _ _ hs => .ite hs.trapTake hs.putCtx))

theorem State.Keeps.execIllegalEncoding {e} (hs : s₀.Keeps s) : s₀.Goes (execIllegalEncoding e s) :=
  .next (hs.issue (fun _ _ hs => hs.trapTake))

theorem State.Keeps.execDmk {e dn ra rb sh} (hs : s₀.Keeps s) : s₀.Goes (execDmk e dn ra rb sh s) :=
  .next (hs.issue (fun _ _ hs => hs.done))

theorem State.Keeps.execDmov {e dn dm} (hs : s₀.Keeps s) : s₀.Goes (execDmov e dn dm s) :=
  .next (hs.issue (fun _ _ hs => hs.done))

theorem State.Keeps.execDadv {e dn rb} (hs : s₀.Keeps s) : s₀.Goes (execDadv e dn rb s) :=
  .next (hs.issue (fun _ _ hs => hs.done))

theorem State.Keeps.execDtrim {e dn rb} (hs : s₀.Keeps s) : s₀.Goes (execDtrim e dn rb s) :=
  .next (hs.issue (fun _ _ hs => hs.done))

theorem State.Keeps.execDdrop {e dn sh} (hs : s₀.Keeps s) : s₀.Goes (execDdrop e dn sh s) :=
  .next (hs.issue (fun _ _ hs => hs.done))

theorem State.Keeps.execDget {e rd dm sh} (hs : s₀.Keeps s) : s₀.Goes (execDget e rd dm sh s) :=
  .next (hs.issue (fun _ _ hs => .ite hs.done (.ite hs.done (.ite hs.done hs.trapTake))))

theorem State.Keeps.execDclr {e dn} (hs : s₀.Keeps s) : s₀.Goes (execDclr e dn s) :=
  .next (hs.issue (fun _ _ hs => hs.done))

theorem State.Keeps.execWaitAll {e pd ra imm} (hs : s₀.Keeps s) : s₀.Goes (execWaitAll e pd ra imm s) :=
  .next (hs.issue (fun _ _ hs => .ite hs.done hs.putCtx.yields))

theorem State.Keeps.execWaitAny {e pd ra imm} (hs : s₀.Keeps s) : s₀.Goes (execWaitAny e pd ra imm s) :=
  .next (hs.issue (fun _ _ hs => .ite hs.trapTake (.ite hs.done hs.putCtx.yields)))

theorem State.Keeps.execWaitDoorbell {e pd ra imm} (hs : s₀.Keeps s) : s₀.Goes (execWaitDoorbell e pd ra imm s) := by
  unfold Machine.execWaitDoorbell
  refine .next (hs.issue (fun _ _ hs => ?_))
  split
  · exact hs.done
  · exact hs.putCtx.yields

theorem State.Keeps.execWaitSleep {e imm} (hs : s₀.Keeps s) : s₀.Goes (execWaitSleep e imm s) :=
  .next (hs.issue (fun _ _ hs => .ite hs.trapTake hs.putCtx.yields))

theorem State.Keeps.execTrap {e imm} (hs : s₀.Keeps s) : s₀.Goes (execTrap e imm s) :=
  .next (hs.issue (fun _ _ hs => hs.trapTake))

theorem State.Keeps.execWaitTimeout {e} (hs : s₀.Keeps s) : s₀.Goes (execWaitTimeout e s) := by
  unfold Machine.execWaitTimeout
  refine .next (.ite hs ?_)
  split
  · exact .ite hs hs.putCtx
  · exact .ite hs hs.putCtx
  · exact hs.putCtx
  · exact hs

theorem State.Keeps.execDoorbell {e word} (hs : s₀.Keeps s) : s₀.Goes (execDoorbell e word s) := by
  unfold Machine.execDoorbell
  refine .next ?_
  split
  · exact hs.putCtx
  · exact .ite hs.send hs.putCtx

theorem State.Keeps.execWatchdogExpiry {e} (hs : s₀.Keeps s) : s₀.Goes (execWatchdogExpiry e s) :=
  .next (.ite hs.trapTake hs)

/-! #### Tally -/

theorem State.Keeps.checkPi {e o} (hs : s₀.Keeps s) : s₀.Keeps (s.checkPi e o).2 := by
  unfold State.checkPi
  dsimp only
  split
  · exact hs
  · exact hs.addN

theorem State.Keeps.genPi {e o} (hs : s₀.Keeps s) : s₀.Keeps (s.genPi e o).2 := hs.wrView

theorem State.Keeps.tallyDone {e o} (hs : s₀.Keeps s) : s₀.Keeps (s.tallyDone e o).2 := by
  unfold State.tallyDone
  split
  · exact hs.checkPi
  · exact hs.genPi
  · exact hs.wrView

theorem State.Keeps.tallyIssue {e rd da db ra imm fn} (hs : s₀.Keeps s) : s₀.Keeps (s.tallyIssue e rd da db ra imm fn) :=
  hs.accelIssue

theorem State.Keeps.execTallyCheckPi {e rd da db ra imm} (hs : s₀.Keeps s) : s₀.Goes (execTallyCheckPi e rd da db ra imm s) :=
  .next hs.tallyIssue

theorem State.Keeps.execTallyGenPi {e rd da db ra imm} (hs : s₀.Keeps s) : s₀.Goes (execTallyGenPi e rd da db ra imm s) :=
  .next hs.tallyIssue

theorem State.Keeps.execTallyCrc64 {e rd da db ra imm} (hs : s₀.Keeps s) : s₀.Goes (execTallyCrc64 e rd da db ra imm s) :=
  .next hs.tallyIssue

theorem State.Keeps.execTallyCrc32c {e rd da db ra imm} (hs : s₀.Keeps s) : s₀.Goes (execTallyCrc32c e rd da db ra imm s) :=
  .next hs.tallyIssue

theorem State.Keeps.execTallyCrc16 {e rd da db ra imm} (hs : s₀.Keeps s) : s₀.Goes (execTallyCrc16 e rd da db ra imm s) :=
  .next hs.tallyIssue

theorem State.Keeps.execTallyClaim {path} (hs : s₀.Keeps s) : s₀.Goes (execTallyClaim path s) := by
  unfold Machine.execTallyClaim
  split
  · exact .next hs.stat
  · exact .next hs.setF.setF.setF.stat

theorem State.Keeps.unitFree {u} (hs : s₀.Keeps s) : s₀.Keeps (s.unitFree u) := hs.setF.setF

theorem State.Keeps.execTallyRelease {path unit} (hs : s₀.Keeps s) : s₀.Goes (execTallyRelease path unit s) :=
  .ite (.next hs.unitFree.stat) (.next hs.stat)

theorem State.Keeps.unitsFree {path} (hs : s₀.Keeps s) : s₀.Keeps (s.unitsFree path) :=
  hs.foldl (fun _ _ hs => .ite hs.unitFree hs)

theorem State.Keeps.unitWrite {path unit f} (hs : s₀.Keeps s) (hf : ∀ x u, s₀.Keeps u → s₀.Keeps (f x u)) :
    s₀.Keeps (s.unitWrite path unit f) := .ite (hf _ _ hs.answer) hs.answer

theorem State.Keeps.unitCompare {u} (hs : s₀.Keeps s) : s₀.Keeps (s.unitCompare u) :=
  .ite hs.setF.setF (.ite hs.setF.setF.setF.log hs.setF.setF.setF)

theorem State.Keeps.unitAuto {u} (hs : s₀.Keeps s) : s₀.Keeps (s.unitAuto u) := .ite hs.unitCompare hs

theorem State.Keeps.unitFeed {u n v} (hs : s₀.Keeps s) : s₀.Keeps (s.unitFeed u n v) := hs.setF.setF.unitAuto

theorem State.Keeps.execTallyFeedB {path unit v} (hs : s₀.Keeps s) : s₀.Goes (execTallyFeedB path unit v s) :=
  .next (hs.unitWrite (fun _ _ hs => hs.unitFeed))

theorem State.Keeps.execTallyFeedH {path unit v} (hs : s₀.Keeps s) : s₀.Goes (execTallyFeedH path unit v s) :=
  .next (hs.unitWrite (fun _ _ hs => hs.unitFeed))

theorem State.Keeps.execTallyFeedW {path unit v} (hs : s₀.Keeps s) : s₀.Goes (execTallyFeedW path unit v s) :=
  .next (hs.unitWrite (fun _ _ hs => hs.unitFeed))

theorem State.Keeps.execTallyFeedD {path unit v} (hs : s₀.Keeps s) : s₀.Goes (execTallyFeedD path unit v s) :=
  .next (hs.unitWrite (fun _ _ hs => hs.unitFeed))

theorem State.Keeps.execTallyValueWrite {path unit v} (hs : s₀.Keeps s) : s₀.Goes (execTallyValueWrite path unit v s) :=
  .next (hs.unitWrite (fun _ _ hs => hs.setF.unitAuto))

theorem State.Keeps.unitReset {u} (hs : s₀.Keeps s) : s₀.Keeps (s.unitReset u) := hs.setF.setF

theorem State.Keeps.execTallyAlgWrite {path unit alg} (hs : s₀.Keeps s) : s₀.Goes (execTallyAlgWrite path unit alg s) :=
  .next (hs.unitWrite (fun _ _ hs => .ite hs.answer hs.setF.unitReset))

theorem State.Keeps.execTallyCompare {path unit} (hs : s₀.Keeps s) : s₀.Goes (execTallyCompare path unit s) :=
  .next (hs.unitWrite (fun _ _ hs => hs.unitCompare))

theorem State.Keeps.execTallyReset {path unit} (hs : s₀.Keeps s) : s₀.Goes (execTallyReset path unit s) :=
  .next (hs.unitWrite (fun _ _ hs => hs.unitReset))

/-! #### Accel -/

theorem State.Keeps.execCarry {e rd da db ra imm} (hs : s₀.Keeps s) : s₀.Goes (execCarry e rd da db ra imm s) :=
  .next hs.accelIssue

theorem State.Keeps.putCarry {n j} (hs : s₀.Keeps s) : s₀.Keeps (s.putCarry n j) := hs.upd

theorem State.Keeps.carrySend {e o} (hs : s₀.Keeps s) : s₀.Keeps (s.carrySend e o).2.2 :=
  have h1 := State.Keeps.ite hs.putPeer.sendSide hs
  .iteTrd h1 (.iteTrd h1 (
    have h4 := State.Keeps.ite h1.upd.carSendAt.replCount h1.upd.carSendAt
    .iteTrd h4.putCarry h4))

theorem State.Keeps.carryEnd {o} (hs : s₀.Keeps s) : s₀.Keeps (s.carryEnd o).2 := .iteSnd hs.putCarry hs

theorem State.Keeps.execEmit {e rd da _db ra imm} (hs : s₀.Keeps s) : s₀.Goes (execEmit e rd da _db ra imm s) :=
  .next hs.accelIssue

theorem State.Keeps.emitDone {e o} (hs : s₀.Keeps s) : s₀.Keeps (s.emitDone e o) := by
  unfold State.emitDone
  dsimp only
  split
  · exact hs.crierAlarm.tick
  · exact hs.crierLog.tick
  · exact hs.crierTrace.tick

theorem State.Keeps.execReeveE {e rd _da db ra imm} (hs : s₀.Keeps s) : s₀.Goes (execReeveE e rd _da db ra imm s) :=
  .next hs.accelIssue

theorem State.Keeps.reeveDone {e o} (hs : s₀.Keeps s) : s₀.Keeps (s.reeveDone e o).2 := hs.wrView.tick

theorem State.Keeps.privIssueD {e rd da ra minor kind ok} (hs : s₀.Keeps s) : s₀.Keeps (s.privIssueD e rd da ra minor kind ok) :=
  hs.accelIssue

theorem State.Keeps.execTollCap {e rd da} (hs : s₀.Keeps s) : s₀.Goes (execTollCap e rd da s) := .next hs.privIssueD

theorem State.Keeps.execHandRetire {e rd ra} (hs : s₀.Keeps s) : s₀.Goes (execHandRetire e rd ra s) :=
  .next hs.privIssue

theorem State.Keeps.execPressTarget {e rd ra} (hs : s₀.Keeps s) : s₀.Goes (execPressTarget e rd ra s) :=
  .next hs.privIssue

theorem State.Keeps.execSpareCall {e rd ra} (hs : s₀.Keeps s) : s₀.Goes (execSpareCall e rd ra s) := .next hs.privIssue

theorem State.Keeps.execReelPut {e rd da} (hs : s₀.Keeps s) : s₀.Goes (execReelPut e rd da s) := .next hs.privIssueD

theorem State.Keeps.execKeyLoad {e rd da ra} (hs : s₀.Keeps s) : s₀.Goes (execKeyLoad e rd da ra s) :=
  .next hs.privIssueD

theorem State.Keeps.execKeyZero {e rd ra} (hs : s₀.Keeps s) : s₀.Goes (execKeyZero e rd ra s) :=
  .next (hs.accelIssue.thenIf (fun _ hs => hs.zeroAccept))

theorem State.Keeps.execMillLock {e rd ra} (hs : s₀.Keeps s) : s₀.Goes (execMillLock e rd ra s) :=
  .next (hs.accelIssue.thenIf (fun _ hs => hs.tick))

theorem State.Keeps.execMillFree {e rd ra} (hs : s₀.Keeps s) : s₀.Goes (execMillFree e rd ra s) := .next hs.privIssue

theorem State.Keeps.privDone {e o input} (hs : s₀.Keeps s) : s₀.Keeps (s.privDone e o input).2 := by
  unfold State.privDone
  split
  · exact hs.keyLoad
  · exact hs.zeroTry
  · exact hs.lockTry
  · exact hs.lockRelease
  · exact .iteSnd hs.sqDone hs.cast

theorem State.Keeps.wake {e} (hs : s₀.Keeps s) : s₀.Keeps (s.wake e) := by
  unfold State.wake
  refine .ite hs ?_
  split
  · exact .ite hs hs.putCtx
  · exact .ite hs.putCtx hs
  · exact .ite hs.putCtx hs
  · exact .ite hs.endGo hs
  · exact hs

theorem State.Keeps.putOp {e i o} (hs : s₀.Keeps s) : s₀.Keeps (s.putOp e i o) := hs.putCtx

theorem State.Keeps.accelEnd {e i w} (hs : s₀.Keeps s) : s₀.Keeps (s.accelEnd e i w) := by
  unfold State.accelEnd
  dsimp only
  split
  · exact hs
  · exact
        have h1 := State.Keeps.ite hs.pressDrop (State.Keeps.ite hs.millDrop hs)
        have h2 := State.Keeps.ite h1.putCtx.streamClose h1.putCtx
        .ite h2.discardGroup.heldFreeAll h2.putCtx.wake

theorem State.Keeps.viewsTouch {o} (hs : s₀.Keeps s) : s₀.Keeps (s.viewsTouch o) :=
  have h1 := State.Keeps.ite hs.spanRead hs
  have h2 := State.Keeps.ite (State.Keeps.ite h1.spanRead h1.spanStore) h1
  .ite h2.spanStore h2

theorem State.Keeps.mapUDone {e o} (hs : s₀.Keeps s) : s₀.Keeps (s.mapUDone e o).2.2 := by
  unfold State.mapUDone
  refine .iteTrd hs ?_
  split
  · next h => exact hs.mapUJudge.snd h
  · next h => exact have h1 := (hs.mapUJudge.snd h).mapUCommit; .iteTrd h1 h1

theorem State.Keeps.accelDone {e o env} (hs : s₀.Keeps s) : s₀.Keeps (s.accelDone e o env).2.2 := by
  unfold State.accelDone
  split
  · exact hs.pressCStep
  · exact hs.pressDStep
  · exact hs.sealDone
  · exact hs.sealDone
  · exact .iteTrd hs hs.assayDone
  · exact hs.tallyDone
  · exact hs.sieveDone
  · exact hs.mapLDone
  · exact hs.mapUDone
  · exact .ite hs.tillPDone.upd hs.tillPDone
  · exact hs.sledDone
  · exact .iteTrd hs.carryEnd hs.carrySend
  · exact hs.emitDone
  · exact hs.reeveDone
  · exact hs.privDone

theorem State.Keeps.execAccelCompletion {e slot env} (hs : s₀.Keeps s) : s₀.Goes (execAccelCompletion e slot env s) := by
  unfold Machine.execAccelCompletion
  refine .next ?_
  split
  · exact hs
  · refine .ite hs (.ite (.accelEnd (.ite hs.putCarry hs)) (.ite hs.accelEnd (.ite (.accelEnd (.ite hs.putPlace hs)) ?_)))
    split
    · next h => exact have h1 := (hs.accelDone.trd h).viewsTouch.accelEnd; .ite h1.zeroSweep h1
    · next h => exact have h1 := hs.accelDone.trd h; .ite h1.putOp h1

theorem State.Keeps.execMillLockGranted {e slot} (hs : s₀.Keeps s) : s₀.Goes (execMillLockGranted e slot s) := by
  unfold Machine.execMillLockGranted
  refine .next ?_
  split
  · refine .ite ?_ hs
    split
    · next h => exact (hs.lockTry.snd h).accelEnd
    · next h => exact hs.lockTry.snd h
  · exact hs

theorem State.Keeps.execKeyZeroDrained {e slot} (hs : s₀.Keeps s) : s₀.Goes (execKeyZeroDrained e slot s) := by
  unfold Machine.execKeyZeroDrained
  refine .next ?_
  split
  · refine .ite ?_ hs
    split
    · next h => exact (hs.zeroTry.snd h).accelEnd
    · next h => exact hs.zeroTry.snd h
  · exact hs

theorem State.Keeps.execSievePageTimeout {e slot} (hs : s₀.Keeps s) : s₀.Goes (execSievePageTimeout e slot s) := by
  unfold Machine.execSievePageTimeout
  refine .next ?_
  split
  · exact .ite hs.addN.accelEnd hs
  · exact hs

theorem State.Keeps.execMapPageFetched {e slot lost} (hs : s₀.Keeps s) : s₀.Goes (execMapPageFetched e slot lost s) := by
  unfold Machine.execMapPageFetched
  refine .next ?_
  split
  · exact .ite hs (.ite hs.accelEnd hs.countEv.mapFetched.accelEnd)
  · exact hs

/-! #### Pair -/

theorem State.Keeps.execHeartbeatTick (hs : s₀.Keeps s) : s₀.Goes (execHeartbeatTick s) := .next (.ite hs.sendStub hs)

theorem State.Keeps.drillWatch (hs : s₀.Keeps s) : s₀.Keeps s.drillWatch := by
  unfold State.drillWatch
  split
  · exact hs
  · exact .ite hs (.ite hs.putDrill (.ite hs.putDrill.fenceDrive.drillClose hs.putDrill.drillClose))

theorem State.Keeps.execAliveTick (hs : s₀.Keeps s) : s₀.Goes (execAliveTick s) := .next (.ite hs hs.alive.drillWatch)

theorem State.Keeps.execSelfFence (hs : s₀.Keeps s) : s₀.Goes (execSelfFence s) :=
  .next (.ite hs (.alarm (.serveStop (.gapEnd (.upd (hs.fenceDrive.setF.foldl (fun _ _ hs => hs.ctxDrop)))))))

theorem State.Keeps.execFenceInEffect (hs : s₀.Keeps s) : s₀.Goes (execFenceInEffect s) := by
  unfold Machine.execFenceInEffect
  refine .next (.ite hs.upd.setF.setF (.ite ?_ (.ite (.ite hs.upd.setF.setF.alarm.fenceDrive.fencedNow hs.upd.setF.setF.alarm)
    hs.upd.setF.setF)))
  split
  · exact .ite hs.upd.setF.setF.sendAct.fencedNow hs.upd.setF.setF.fencedNow
  · exact hs.upd.setF.setF.fencedNow

theorem State.Keeps.execFenceInPulse (hs : s₀.Keeps s) : s₀.Goes (execFenceInPulse s) := by
  unfold Machine.execFenceInPulse
  refine .next (.ite hs ?_)
  dsimp only
  split
  · exact hs.addF.sendAct.putDrill.drillFence
  · exact hs.addF.sendAct

theorem State.Keeps.execFenceInRelease (hs : s₀.Keeps s) : s₀.Goes (execFenceInRelease s) := .next hs.upd.setF.setF

theorem State.Keeps.execTestPulseEnd (hs : s₀.Keeps s) : s₀.Goes (execTestPulseEnd s) :=
  .next (.ite hs (.ite hs.upd hs.upd.fenceDrive))

theorem State.Keeps.drillLost (hs : s₀.Keeps s) : s₀.Keeps s.drillLost := by
  unfold State.drillLost
  split
  · exact hs.drillEnd
  · exact hs

theorem State.Keeps.execPartnerLost {fl} (hs : s₀.Keeps s) : s₀.Goes (execPartnerLost fl s) :=
  .next (.ite hs (.ite (.ite hs.upd.hbSet.upd.log hs.upd.hbSet.upd) hs.upd.hbSet.lossGo.drillLost))

theorem State.Keeps.execSecondWaitExpiry {fl} (hs : s₀.Keeps s) : s₀.Goes (execSecondWaitExpiry fl s) :=
  .next (.ite hs (.ite hs.upd.act.drillLost hs.upd.gapEnd))

theorem State.Keeps.execJoinWaitExpiry {fl} (hs : s₀.Keeps s) : s₀.Goes (execJoinWaitExpiry fl s) :=
  .next (.ite hs.lossGo hs)

theorem State.Keeps.execFailbackHoldoffExpiry (hs : s₀.Keeps s) : s₀.Goes (execFailbackHoldoffExpiry s) :=
  .next (.ite hs.setF.setF.sendAct hs)

theorem State.Keeps.drillTry (hs : s₀.Keeps s) : s₀.Keeps s.drillTry :=
  .ite hs.setF.stat.sendAct.drillBegin hs.setF.stat.upd

theorem State.Keeps.execDrillDue (hs : s₀.Keeps s) : s₀.Goes (execDrillDue s) := .next (.ite hs hs.drillTry)

theorem State.Keeps.execCouncilDrillGo (hs : s₀.Keeps s) : s₀.Goes (execCouncilDrillGo s) :=
  .next (.ite hs.stat (.ite hs.stat hs.drillTry))

theorem State.Keeps.execDrillHoldExpiry (hs : s₀.Keeps s) : s₀.Goes (execDrillHoldExpiry s) := by
  unfold Machine.execDrillHoldExpiry
  refine .next ?_
  split
  · exact .ite hs.moveStart hs
  · exact hs

theorem State.Keeps.execModeReqService (hs : s₀.Keeps s) : s₀.Goes (execModeReqService s) :=
  .next (hs.modeReq (fun _ hs => .ite hs.stat hs.serviceAsk))

theorem State.Keeps.execModeReqPaired (hs : s₀.Keeps s) : s₀.Goes (execModeReqPaired s) :=
  .next (hs.modeReq (fun _ hs => .ite (.ite hs.modeAsk.setF.sendAct hs.stat) (.ite (.ite hs.stat (.ite hs.pairUp.stat (.ite
    hs.modeAsk.moveStart hs.stat))) hs.stat)))

theorem State.Keeps.execModeReqSolo (hs : s₀.Keeps s) : s₀.Goes (execModeReqSolo s) :=
  .next (hs.modeReq (fun _ hs => .ite hs.stat (.ite hs.stat hs.setMode.saddrServe.stat)))

theorem State.Keeps.execModeReqJoining (hs : s₀.Keeps s) : s₀.Goes (execModeReqJoining s) :=
  .next (hs.modeReq (fun _ hs => .ite hs.joinBegin.stat hs.stat))

theorem State.Keeps.execModeReqInvalid (hs : s₀.Keeps s) : s₀.Goes (execModeReqInvalid s) :=
  .next (hs.modeReq (fun _ hs => hs.stat))

theorem State.Keeps.execSaddrAnnounce {saddr} (hs : s₀.Keeps s) : s₀.Goes (execSaddrAnnounce saddr s) :=
  .next (.ite hs (.ite hs.send.addF.send.addF hs.send.addF))

theorem State.Keeps.execHeadSlotChange {level} (hs : s₀.Keeps s) : s₀.Goes (execHeadSlotChange level s) := .next hs.upd

/-! #### Map -/

theorem State.Keeps.regSet {a v} (hs : s₀.Keeps s) : s₀.Keeps (s.regSet a v) := by
  unfold State.regSet
  split
  · exact hs
  · exact hs.setR

/-! #### Peers -/

theorem State.Keeps.carErr {num type st} (hs : s₀.Keeps s) : s₀.Keeps (s.carErr num type st) := hs.setN.setN.tick

theorem State.Keeps.peerNew {i node port epoch} (hs : s₀.Keeps s) : s₀.Keeps (s.peerNew i node port epoch) :=
  hs.putPeer.sendSide

theorem State.Keeps.evict {i} (hs : s₀.Keeps s) : s₀.Keeps (s.evict i) := hs.putPeer.upd.addN

theorem State.Keeps.peerPlace {mgmt} (hs : s₀.Keeps s) : s₀.Keeps (s.peerPlace mgmt).2 := by
  unfold State.peerPlace
  refine .iteSnd hs (.iteSnd hs ?_)
  split
  · exact hs.evict
  · exact hs

theorem State.Keeps.sessionsSettle (hs : s₀.Keeps s) : s₀.Keeps s.sessionsSettle := .pushRefresh (.ite hs.unitsFree hs)

theorem State.Keeps.carWaitEnd {w st} (hs : s₀.Keeps s) : s₀.Keeps (s.carWaitEnd w st) := by
  unfold State.carWaitEnd
  split
  · exact .ite hs.putCarry hs
  · exact hs

theorem State.Keeps.readsEnd {num st} (hs : s₀.Keeps s) : s₀.Keeps (s.readsEnd num st) :=
  hs.foldl (fun _ _ hs => .ite hs.upd.carWaitEnd (.ite hs.upd.docketEnd hs))

theorem State.Keeps.carFail {i first} (hs : s₀.Keeps s) : s₀.Keeps (s.carFail i first) :=
  .ite hs (
    have h2 := hs.putPeer.foldlSnd (fun _ _ hs => hs.carWaitEnd)
    .ite h2.readsEnd.tick.sessionsSettle (h2.readsEnd.tick.foldl (fun _ _ hs => .ite hs.linkLost hs)))

theorem State.Keeps.peerRequest {f} (hs : s₀.Keeps s) (hf : ∀ x u, s₀.Keeps u → s₀.Keeps (f x u)) :
    s₀.Keeps (s.peerRequest f) := .ite (hf _ _ hs.stat) hs.stat

theorem State.Keeps.execPeerReset (hs : s₀.Keeps s) : s₀.Goes (execPeerReset s) :=
  .next (hs.peerRequest (fun _ _ hs => hs.carFail))

theorem State.Keeps.execPeerPin (hs : s₀.Keeps s) : s₀.Goes (execPeerPin s) :=
  .next (hs.peerRequest (fun _ _ hs => .ite hs.stat hs.putPeer))

theorem State.Keeps.execPeerUnpin (hs : s₀.Keeps s) : s₀.Goes (execPeerUnpin s) :=
  .next (hs.peerRequest (fun _ _ hs => hs.putPeer))

theorem State.Keeps.execRegCreate (hs : s₀.Keeps s) : s₀.Goes (execRegCreate s) :=
  .ite (.next hs.stat) (.next (.ite hs.regCreate.stat hs.regCreate.stat.setF))

theorem State.Keeps.execRegRevoke (hs : s₀.Keeps s) : s₀.Goes (execRegRevoke s) :=
  .next (.ite hs.stat (.ite hs.stat (.ite hs.stat hs.regRevoke.stat.setF)))

theorem State.Keeps.execRevocationDrained {index} (hs : s₀.Keeps s) : s₀.Goes (execRevocationDrained index s) :=
  .next (.ite (.ite hs.setF.upd.setF hs.setF.upd) hs)

/-! #### Control -/

theorem State.Keeps.did {r} (h : s₀.Goes r) : s₀.Keeps (s.did r) := by
  obtain ⟨t, rfl, ht⟩ := h
  exact ht

theorem State.Keeps.pick {v f g l} (hg : s₀.Goes (g s)) (hl : s₀.Keeps (s.pick v l)) : s₀.Keeps (s.pick v ((f, g) :: l)) :=
  .ite (.did hg) hl

theorem State.Goes.noCommand : ∀ g ∈ ([] : List (State → Res)), s₀.Goes (g s) := List.forall_mem_nil _

theorem State.Goes.each {g : State → Res} {l} (hg : s₀.Goes (g s)) (hl : ∀ g ∈ l, s₀.Goes (g s)) : ∀ f ∈ g :: l, s₀.Goes (f s) :=
  List.forall_mem_cons.2 ⟨hg, hl⟩

theorem State.Keeps.code {op l bad} (hs : s₀.Keeps s) (hl : ∀ g ∈ l, s₀.Goes (g s)) (hb : s₀.Keeps (bad s)) :
    s₀.Keeps (s.code op l bad) := by
  unfold State.code
  refine .ite hs ?_
  split
  · next h => exact .did (hl _ (List.mem_of_getElem? h))
  · exact hb

theorem State.Keeps.ranged {v l} (hs : s₀.Keeps s) : s₀.Keeps (State.ranged v l s).2 := by
  induction l generalizing s with
  | nil => exact hs
  | cons x r ih => exact .iteSnd (ih hs.setF) (ih hs)

theorem State.Keeps.config {v st fs rel ok} (hs : s₀.Keeps s) : s₀.Keeps (s.config v st fs rel ok) :=
  .ite hs.ranged.answer (.answer (hs.ranged.foldl (fun _ _ hs => hs.setF)))

theorem State.Keeps.configStat {v f st fs rel ok} (hs : s₀.Keeps s) : s₀.Keeps (s.configStat v f st fs rel ok) :=
  hs.config.stat

theorem State.Keeps.writeModeReq {o m} (hs : s₀.Keeps s) : s₀.Keeps (s.writeModeReq o m) := by
  unfold State.writeModeReq
  refine .did ?_
  split
  · exact hs.execModeReqBootstrap
  · exact hs.execModeReqJoining
  · exact hs.execModeReqPaired
  · exact hs.execModeReqSolo
  · exact hs.execModeReqService
  · exact hs.execModeReqReplay
  · exact hs.execModeReqInvalid

theorem State.Keeps.writeIdent {o a v} (hs : s₀.Keeps s) : s₀.Keeps (s.writeIdent o a v) :=
  .ite hs.writeModeReq (.ite (.ite (.did hs.execFeatNegotiate) hs) hs.regSet)

theorem State.Keeps.writeWarden {a v} (hs : s₀.Keeps s) : s₀.Keeps (s.writeWarden a v) :=
  .ite hs.configStat (.ite (.pick hs.execBankMeasure hs) (.ite hs.configStat (.ite (.pick hs.regSet.execWardenTestGo hs.regSet)
    hs.regSet)))

theorem State.Keeps.writeReeve {a v} (hs : s₀.Keeps s) : s₀.Keeps (s.writeReeve a v) :=
  .ite (.did hs.execWallWrite) (.ite (.did (.ite hs.execReelFreeze hs.execReelThaw)) (.ite (.pick hs.execReplayStop hs)
    hs.regSet))

theorem State.Keeps.writeParish {p a v} (hs : s₀.Keeps s) : s₀.Keeps (s.writeParish p a v) :=
  .ite (.pick hs.execParishClearGo hs) (.ite (.pick hs.regSet.execParishSnapshot hs.regSet) hs.regSet)

theorem State.Keeps.ringHeld (hs : s₀.Keeps s) : s₀.Keeps s.ringHeld := hs.setF

theorem State.Keeps.writeCrier {a v} (hs : s₀.Keeps s) : s₀.Keeps (s.writeCrier a v) :=
  .ite hs.configStat (.ite hs.regSet.ringHeld hs.regSet)

theorem State.Keeps.writeCount {a v} (hs : s₀.Keeps s) : s₀.Keeps (s.writeCount a v) :=
  .ite (.pick hs.execCountLatchGo hs) (.ite hs.regSet (.ite (.did hs.execCountCfgWrite) (.ite hs.config hs.regSet)))

theorem State.Keeps.writeStrong {o a v} (hs : s₀.Keeps s) : s₀.Keeps (s.writeStrong o a v) :=
  .ite (.pick hs.execStrongClearAlt (.pick hs.execStrongRetry hs)) (.ite (.pick hs.execFwBegin (.pick hs.execFwAbort (.pick
    hs.execFwEndBlock (.pick hs.execFwVerify (.pick hs.execFwActivate (.pick hs.execFwCommit (.pick hs.execFwRollback hs)))))))
      (.ite (.did hs.execFwData) (.ite (.pick hs.execRollGo hs) (.ite (.pick hs.execQuoteGo hs) (.ite (hs.regSet.code (.each
        hs.regSet.execKeyImportOmk (.each hs.regSet.execKeyEnrollProgkey (.each hs.regSet.execKeyVaultCreate (.each
          hs.regSet.execKeyVaultExport (.each hs.regSet.execKeyVaultImport (.each hs.regSet.execKeyVaultDelete (.each
            hs.regSet.execKeySessionLoad (.noCommand )))))))) hs.regSet) (.ite (.did hs.execKeyData) (.ite (.did hs.execAuthData)
              hs.regSet)))))))

theorem State.Keeps.writeCouncil {a v} (hs : s₀.Keeps s) : s₀.Keeps (s.writeCouncil a v) :=
  .ite hs.configStat (.ite hs.configStat (.ite (.pick hs.execCouncilCoreTest (.pick hs.execCouncilCoreRetire (.pick
    hs.execCouncilCoreRestore hs))) (.ite (.pick hs.execCouncilDrillGo hs) hs.regSet)))

theorem State.Keeps.writeToll {a v} (hs : s₀.Keeps s) : s₀.Keeps (s.writeToll a v) :=
  .ite hs.config (.ite (.pick hs.regSet.execTollReqGo (.pick hs.regSet.execTollReqClose hs.regSet)) hs.regSet)

theorem State.Keeps.writeDocket {a v} (hs : s₀.Keeps s) : s₀.Keeps (s.writeDocket a v) :=
  .ite (hs.code (.each hs.execDocketQueueResume (.each hs.execDocketQueueReset (.each hs.execDocketQueueFreeze (.noCommand ))))
    hs) (.ite (.pick hs.regSet.execDocketAbortGo hs.regSet) hs.regSet)

theorem State.Keeps.writeHands {o a v} (hs : s₀.Keeps s) : s₀.Keeps (s.writeHands o a v) :=
  .ite (.pick hs.regSet.execHandsRetireReq (.pick hs.regSet.execHandsRestoreReq hs.regSet)) (.ite hs.config (.ite (.pick
    hs.execHandsLoadBegin (.pick hs.execHandsLoadCommit (.pick hs.execHandsLoadAbort hs))) (.ite (.did hs.execHandsLoadData)
      (.ite (.did hs.execHandsBind) (.ite (.did hs.execHandsUnload) hs.regSet)))))

theorem State.Keeps.writeCarrier {a v} (hs : s₀.Keeps s) : s₀.Keeps (s.writeCarrier a v) :=
  .ite hs.configStat (.ite (.pick hs.execPeerPin (.pick hs.execPeerUnpin (.pick hs.execPeerReset hs))) (.ite (.pick
    hs.regSet.execRegCreate (.pick hs.regSet.execRegRevoke hs.regSet)) hs.regSet))

theorem State.Keeps.writeSaddr {v} (hs : s₀.Keeps s) : s₀.Keeps (s.writeSaddr v) := .ite hs.stat hs.regSet.stat

theorem State.Keeps.writeFabric {a v} (hs : s₀.Keeps s) : s₀.Keeps (s.writeFabric a v) :=
  .ite hs.regSet.stat (.ite hs.writeSaddr hs.regSet)

theorem State.Keeps.writeMagCfg {p v} (hs : s₀.Keeps s) : s₀.Keeps (s.writeMagCfg p v) :=
  .ite hs.stat (.ite hs.setF.setF.setF.setF.stat.magTrain (.ite hs.setF.setF.setF.setF.stat.magDown.ingStop
    hs.setF.setF.setF.setF.stat))

theorem State.Keeps.writeMagport {a v} (hs : s₀.Keeps s) : s₀.Keeps (s.writeMagport a v) :=
  .ite hs.config (.ite hs.regSet (.ite hs.writeMagCfg (.ite (.pick hs.execMagRetrain hs) (.ite (.pick hs.execIngestStart (.pick
    hs.execIngestStop hs)) hs.regSet))))

theorem State.Keeps.writePress {a v} (hs : s₀.Keeps s) : s₀.Keeps (s.writePress a v) :=
  .ite hs.config (.ite (.pick hs.execPressLaneTest (.pick hs.execPressLaneRetire (.pick hs.execPressLaneRestore hs))) (.ite (.did
    hs.execPressStreamCfgWrite) hs.regSet))

theorem State.Keeps.writeMill {a v} (hs : s₀.Keeps s) : s₀.Keeps (s.writeMill a v) :=
  .ite hs.config (.ite hs.config (.ite (.pick hs.execMillCoreTest (.pick hs.execMillCoreRetire (.pick hs.execMillCoreRestore
    hs))) hs.regSet))

theorem State.Keeps.writeAssay {a v} (hs : s₀.Keeps s) : s₀.Keeps (s.writeAssay a v) :=
  .ite hs.config (.ite (.pick hs.execAssayLaneTest (.pick hs.execAssayLaneRetire (.pick hs.execAssayLaneRestore hs))) (.ite
    (.pick (State.Keeps.execAssayDmaGo (.ite hs hs.regSet)) (.pick (State.Keeps.execAssayDmaClose (.ite hs hs.regSet)) (.pick
      (State.Keeps.execAssayDmaAbort (.ite hs hs.regSet)) (.ite hs hs.regSet)))) (.ite (.did hs.execAssayFeed) (.ite (.did
        hs.execAssayFeedTail) (.ite (.pick hs.regSet.execAssayCompareGo hs.regSet) hs.regSet)))))

theorem State.Keeps.writeUnit {path u o a v} (hs : s₀.Keeps s) : s₀.Keeps (s.writeUnit path u o a v) := by
  unfold State.writeUnit
  split
  · exact .did hs.execTallyAlgWrite
  · exact .did hs.execTallyValueWrite
  · exact hs.unitWrite (fun _ _ hs => hs.regSet)
  · exact .did hs.execTallyFeedB
  · exact .did hs.execTallyFeedH
  · exact .did hs.execTallyFeedW
  · exact .did hs.execTallyFeedD
  · exact .pick (State.Keeps.execTallyReset (hs.unitWrite (fun _ _ hs => hs.regSet))) (.pick (State.Keeps.execTallyCompare
    (hs.unitWrite (fun _ _ hs => hs.regSet))) (hs.unitWrite (fun _ _ hs => hs.regSet)))

theorem State.Keeps.writeTally {p a v} (hs : s₀.Keeps s) : s₀.Keeps (s.writeTally p a v) :=
  .ite hs.writeUnit (.ite (.pick hs.regSet.execTallyClaim (.pick hs.regSet.execTallyRelease hs.regSet)) hs.regSet)

theorem State.Keeps.writeSieve {a v} (hs : s₀.Keeps s) : s₀.Keeps (s.writeSieve a v) :=
  .ite hs.config (.ite (.did hs.execSieveVaultWrite) (.ite (hs.code (.each hs.execSnapTake (.each hs.execSnapDelete (.each
    hs.execSnapPresent (.each hs.execSnapWithdraw (.noCommand ))))) hs.stat) (.ite (.ite hs.answer (.ite hs.regSet.setF
      hs.regSet)) (.ite (.ite hs.answer hs.regSet) (.ite (hs.code (.each hs.execReplOpen (.each hs.execReplClose (.each
        hs.execReplCycleNow (.noCommand )))) hs) hs.regSet)))))

theorem State.Keeps.writeTill {a v} (hs : s₀.Keeps s) : s₀.Keeps (s.writeTill a v) :=
  .ite hs.configStat (.ite (.pick hs.execTillCfRetrain hs) hs.regSet)

theorem State.Keeps.writeLarderCtl {v} (hs : s₀.Keeps s) : s₀.Keeps (s.writeLarderCtl v) :=
  .ite hs.setF (.did (.ite hs.setF.execLarderEnable hs.setF.execLarderDisable))

theorem State.Keeps.writeLarder {o a v} (hs : s₀.Keeps s) : s₀.Keeps (s.writeLarder o a v) := by
  unfold State.writeLarder
  refine
    .ite hs.writeLarderCtl (.ite (.pick ?_ hs.regSet) (.ite (.did hs.execLarderWaysWrite) (.ite (.pick
      hs.regSet.execLarderWayRetire (.pick hs.regSet.execLarderWayRestore hs.regSet))
      hs.regSet)))
  split
  · exact hs.regSet.execLarderInvalidate
  · exact hs.regSet.execLarderClean

theorem State.Keeps.writeHbm {a v} (hs : s₀.Keeps s) : s₀.Keeps (s.writeHbm a v) :=
  .ite hs.configStat (.ite (.pick hs.regSet.execHbmRowRemap hs.regSet) hs.regSet)

theorem State.Keeps.writeSteward {a v} (hs : s₀.Keeps s) : s₀.Keeps (s.writeSteward a v) :=
  .ite hs.configStat (.ite (.pick hs.execStewardCkptGo hs) (.ite hs.configStat (.ite hs.configStat (.ite hs.config (.ite (.did
    hs.execStewardSecureWrite) hs.regSet)))))

theorem State.Keeps.writeSled {a v} (hs : s₀.Keeps s) : s₀.Keeps (s.writeSled a v) :=
  .ite hs.config (.ite (.pick hs.execSledPowerOff (.pick hs.execSledPowerOn (.pick hs.execSledReset (.pick hs.execSledRetrain
    hs)))) hs.regSet)

theorem State.Keeps.writeHold {a v} (hs : s₀.Keeps s) : s₀.Keeps (s.writeHold a v) :=
  .ite hs.configStat (.ite (hs.code (.each hs.execHoldForm (.each hs.execHoldDissolve (.each hs.execHoldTakeIn (.each
    hs.execHoldFail (.each hs.execHoldResync (.each hs.execHoldWatchNow (.noCommand ))))))) hs.stat) hs.regSet)

theorem State.Keeps.regWrite {p o a v} (hs : s₀.Keeps s) : s₀.Keeps (s.regWrite p o a v) :=
  .ite hs.answer.writeIdent (.ite hs.answer.writeWarden (.ite hs.answer.writeReeve (.ite hs.answer.writeParish (.ite
    hs.answer.writeCrier (.ite hs.answer.writeCount (.ite hs.answer.writeStrong (.ite hs.answer.writeCouncil (.ite
      hs.answer.writeToll (.ite hs.answer.writeDocket (.ite hs.answer.writeCarrier (.ite hs.answer.writeFabric (.ite
        hs.answer.writeMagport (.ite hs.answer.writeHands (.ite hs.answer.writePress (.ite hs.answer.writeMill (.ite
          hs.answer.writeAssay (.ite hs.answer.writeTally (.ite hs.answer.writeSieve (.ite hs.answer.writeTill (.ite
            hs.answer.writeLarder (.ite hs.answer.writeHbm (.ite hs.answer.writeSteward (.ite hs.answer.writeSled
              hs.answer.writeHold)))))))))))))))))))))))

theorem State.Keeps.regRead {p a} (hs : s₀.Keeps s) : s₀.Keeps (s.regRead p a).2 := by
  unfold State.regRead
  extract_lets t u
  have h1 : s₀.Keeps t := hs.answer
  have h2 : s₀.Keeps u := .did h1.execHallmarkWord0Read
  exact .iteSnd h2 (.iteSnd h1.nonceRead (.iteSnd h1.takeInfoRead (.iteSnd h1.ringHeld h1)))

/-! #### Access -/

theorem State.Keeps.mapErr {p f a} (hs : s₀.Keeps s) : s₀.Keeps (s.mapErr p f a) := hs.setF.setF.setF

theorem State.Keeps.putLatch {p l} (hs : s₀.Keeps s) : s₀.Keeps (s.putLatch p l) := hs.upd

theorem State.Keeps.latchSettle {p width a v} (hs : s₀.Keeps s) : s₀.Keeps (s.latchSettle p width a v) := by
  unfold State.latchSettle
  refine .putLatch ?_
  split
  · exact .ite hs hs.mapErr
  · exact hs

theorem State.Keeps.readHalf {p l width a} (hs : s₀.Keeps s) : s₀.Keeps (s.readHalf p l width a).2 := by
  unfold State.readHalf
  refine .iteSnd hs.regRead (.iteSnd hs.regRead.putLatch ?_)
  split
  · exact .iteSnd hs.answer hs.regRead
  · exact hs.regRead

theorem State.Keeps.writeHalf {p o l width a n} (hs : s₀.Keeps s) : s₀.Keeps (s.writeHalf p o l width a n) := by
  unfold State.writeHalf
  refine .ite hs.regWrite (.ite hs.putLatch.answer ?_)
  split
  · exact .ite hs.regWrite hs.mapErr.answer
  · exact hs.mapErr.answer

theorem State.Keeps.access {p o width a0 v} (hs : s₀.Keeps s) : s₀.Keeps (s.access p o width a0 v).2 := by
  unfold State.access
  extract_lets a l s1
  have h1 : s₀.Keeps s1 := hs.latchSettle
  split
  · exact h1.mapErr.answer
  · split
    · exact h1.readHalf
    · exact .ite h1.writeHalf.setF h1.writeHalf

theorem State.Keeps.drive {l} (hs : s₀.Keeps s) : s₀.Keeps (s.drive l) := .ite hs hs.send

theorem State.Keeps.spiAccess {o width a v} (hs : s₀.Keeps s) : s₀.Keeps (s.spiAccess o width a v).2 := hs.access

theorem State.Keeps.spi {o width a v} (hs : s₀.Keeps s) : s₀.Keeps (s.spi o width a v) := .ite hs.spiAccess.drive hs

theorem State.Keeps.spiBurst {a n} (hs : s₀.Keeps s) : s₀.Keeps (s.spiBurst a n).2 := by
  induction n with
  | zero => exact hs
  | succ n ih =>
    unfold State.spiBurst
    split
    next h =>
    split
    next h' => exact (ih.snd h).spiAccess.snd h'

theorem State.Keeps.execSpiRead {addr} (hs : s₀.Keeps s) : s₀.Goes (execSpiRead addr s) := .next hs.spi

theorem State.Keeps.execSpiWrite {addr v o} (hs : s₀.Keeps s) : s₀.Goes (execSpiWrite addr v o s) := .next hs.spi

theorem State.Keeps.execSpiReadBurst {addr count} (hs : s₀.Keeps s) : s₀.Goes (execSpiReadBurst addr count s) :=
  .next (.ite hs (.ite hs.spiBurst.drive hs.drive))

theorem State.Keeps.execSpiRead32 {addr} (hs : s₀.Keeps s) : s₀.Goes (execSpiRead32 addr s) := .next hs.spi

theorem State.Keeps.execSpiWrite32 {addr v o} (hs : s₀.Keeps s) : s₀.Goes (execSpiWrite32 addr v o s) := .next hs.spi

theorem State.Keeps.execSpiRead16 {addr} (hs : s₀.Keeps s) : s₀.Goes (execSpiRead16 addr s) := .next hs.spi

theorem State.Keeps.execSpiRead8 {addr} (hs : s₀.Keeps s) : s₀.Goes (execSpiRead8 addr s) := .next hs.spi

theorem State.Keeps.execSpiWrite16 {addr v} (hs : s₀.Keeps s) : s₀.Goes (execSpiWrite16 addr v s) := .next hs.spi

theorem State.Keeps.execSpiWrite8 {addr v} (hs : s₀.Keeps s) : s₀.Goes (execSpiWrite8 addr v s) := .next hs.spi

theorem State.Keeps.execSpiUnknownOpcode {count} (hs : s₀.Keeps s) : s₀.Goes (execSpiUnknownOpcode count s) :=
  .next (.ite hs.drive hs)

theorem State.Keeps.csRise {o b} (hs : s₀.Keeps s) : s₀.Keeps (s.csRise o b) := by
  unfold State.csRise
  refine .ite hs ?_
  split
  · exact hs.drive
  · exact .ite hs hs.spiAccess.drive
  · exact .ite hs (.drive (.iteSnd hs.spiBurst hs.spiAccess))

theorem State.Keeps.execSpiCsEarlyRise {bytes o} (hs : s₀.Keeps s) : s₀.Goes (execSpiCsEarlyRise bytes o s) :=
  .next hs.csRise

theorem State.Keeps.execRegisterWrite {p addr v o} (hs : s₀.Keeps s) : s₀.Goes (execRegisterWrite p addr v o s) :=
  .next (.ite (.ite hs.regWrite hs) (.ite hs.access hs))

theorem State.Keeps.execTakeInfoRead {p} (hs : s₀.Keeps s) : s₀.Goes (execTakeInfoRead p s) :=
  .next (.ite hs.access hs)

/-! #### Carrier -/

theorem State.Keeps.carCount {h len} (hs : s₀.Keeps s) : s₀.Keeps (s.carCount h len) :=
  .ite hs (.ite hs.addN.addN hs.addN)

theorem State.Keeps.reasmDrop {h} (hs : s₀.Keeps s) : s₀.Keeps (s.reasmDrop h) := hs.upd

theorem State.Keeps.carMoved {i} (hs : s₀.Keeps s) : s₀.Keeps (s.carMoved i) :=
  .ite hs (.foldl (hs.upd.foldl (fun _ _ hs => hs.putQueue)) (fun _ _ hs => hs.putTake))

theorem State.Keeps.carEntry {h type} (hs : s₀.Keeps s) : s₀.Keeps (s.carEntry h type).2 := by
  unfold State.carEntry
  split
  · exact hs.putPeer
  · split
    · next h => exact (hs.peerPlace.snd h).carAckBare.carErr
    · next h => exact (hs.peerPlace.snd h).peerNew.carMoved

theorem State.Keeps.carTagFail {h} (hs : s₀.Keeps s) : s₀.Keeps (s.carTagFail h) := by
  unfold State.carTagFail
  refine .ite ?_ (.ite hs hs.addF)
  dsimp only
  split
  · exact hs.addN
  · exact .ite hs.addN.putPeer.carFail hs.addN.putPeer

theorem State.Keeps.carEpoch {i epoch} (hs : s₀.Keeps s) : s₀.Keeps (s.carEpoch i epoch) := .ite hs.putPeer hs

theorem State.Keeps.carSlide {i seq} (hs : s₀.Keeps s) : s₀.Keeps (s.carSlide i seq) := .ite hs.putPeer hs

theorem State.Keeps.carMark {i seq} (hs : s₀.Keeps s) : s₀.Keeps (s.carMark i seq) := .ite hs.putPeer hs

theorem State.Keeps.carRefuse {i type seq st det} (hs : s₀.Keeps s) : s₀.Keeps (s.carRefuse i type seq st det) :=
  hs.carAck.carErr

theorem State.Keeps.carOld {i h type} (hs : s₀.Keeps s) : s₀.Keeps (s.carOld i h type) := hs.carOut.addF.carErr

theorem State.Keeps.carFloor {i floor} (hs : s₀.Keeps s) : s₀.Keeps (s.carFloor i floor) := hs.putPeer

theorem State.Keeps.reoffer {num} (hs : s₀.Keeps s) : s₀.Keeps (s.reoffer num) := hs.foldl (fun _ _ hs => hs.offer)

theorem State.Keeps.sessionStart {i} (hs : s₀.Keeps s) : s₀.Keeps (s.sessionStart i) := hs.putPeer.pushRefresh

theorem State.Keeps.sessionOver {i} (hs : s₀.Keeps s) : s₀.Keeps (s.sessionOver i) := .ite hs.putPeer.sessionsSettle hs

theorem State.Keeps.carHello {i b} (hs : s₀.Keeps s) : s₀.Keeps (s.carHello i b).2 :=
  .iteSnd hs.sessionOver.carSendAt (
    have h4 := State.Keeps.ite hs.sessionOver.carFloor.putPeer.sendSide hs.sessionOver.carFloor.putPeer
    have h6 := State.Keeps.ite h4.carSendAt.reoffer h4.carSendAt
    .ite h6.sessionStart h6)

theorem State.Keeps.carWaitDone {w st} (hs : s₀.Keeps s) : s₀.Keeps (s.carWaitDone w st) := by
  unfold State.carWaitDone
  split
  · exact hs
  · exact hs.handOff
  · exact .ite hs hs.putCarry
  · exact .ite hs hs.linkStatus.linkLost
  · exact .ite hs hs.upd.dataArrive

theorem State.Keeps.carPump {i} (hs : s₀.Keeps s) : s₀.Keeps (s.carPump i) :=
  hs.foldl (fun _ _ hs => hs.putPeer.carWire)

theorem State.Keeps.carAcked {i b m} (hs : s₀.Keeps s) : s₀.Keeps (s.carAcked i b m) := hs.putPeer.carWaitDone

theorem State.Keeps.carMissing {i seq map} (hs : s₀.Keeps s) : s₀.Keeps (s.carMissing i seq map) := by
  unfold State.carMissing
  split
  · exact hs
  · exact .ite hs hs.addN.countEv.carOut

theorem State.Keeps.carAckTake {i b} (hs : s₀.Keeps s) : s₀.Keeps (s.carAckTake i b) :=
  .ite hs (.carPump (.foldl (hs.putPeer.foldl (fun _ _ hs => hs.carAcked)) (fun _ _ hs => .ite hs.carMissing hs)))

theorem State.Keeps.carPull {t} (hs : s₀.Keeps s) : s₀.Keeps (s.carPull t) := .ite hs.upd.carSend hs

theorem State.Keeps.pullTake {r st pos d} (hs : s₀.Keeps s) : s₀.Keeps (s.pullTake r st pos d) :=
  .ite hs.upd.dataArrive (.ite hs.upd.dataArrive (.ite hs.upd (.ite hs.upd.dataArrive.carPull hs.upd.dataArrive)))

theorem State.Keeps.carryTake {r st pos d} (hs : s₀.Keeps s) : s₀.Keeps (s.carryTake r st pos d) :=
  have h1 := State.Keeps.ite hs.wrSpN hs
  .ite (.ite h1.upd.putCarry h1.upd) h1.upd

theorem State.Keeps.readResp {i b} (hs : s₀.Keeps s) : s₀.Keeps (s.readResp i b) :=
  .ite (.ite hs.carryTake hs) (.ite hs.pullTake hs)

theorem State.Keeps.takeWrite {k ofs frame n data} (hs : s₀.Keeps s) : s₀.Keeps (s.takeWrite k ofs frame n data).2.2 := by
  unfold State.takeWrite
  refine .iteTrd hs ?_
  split
  · exact hs.landPlace
  · exact hs.regionFull
  · exact hs

theorem State.Keeps.carWrite {i n b} (hs : s₀.Keeps s) : s₀.Keeps (s.carWrite i n b).2.2 := by
  unfold State.carWrite
  refine .iteTrd hs (.iteTrd hs (.iteTrd ?_ hs.wrSpN.spanStore))
  split
  · exact hs.takeWrite
  · exact hs

theorem State.Keeps.carRead {i n b} (hs : s₀.Keeps s) : s₀.Keeps (s.carRead i n b).2.2 :=
  .iteTrd hs (.iteTrd hs hs.spanRead.carSendAt)

theorem State.Keeps.frameDone {i n b} (hs : s₀.Keeps s) : s₀.Keeps (s.frameDone i n b).2.2 := by
  unfold State.frameDone
  extract_lets
  refine .iteTrd hs ?_
  split
  · exact hs
  · refine .iteTrd hs (.iteTrd ?_ ?_) <;> dsimp only
    · exact hs.frameLand
    · exact .ite hs.frameDrop hs

theorem State.Keeps.queueOpen {i b} (hs : s₀.Keeps s) : s₀.Keeps (s.queueOpen i b) := by
  unfold State.queueOpen
  dsimp only
  split
  · exact hs.carSendAt
  · next h => exact (hs.createQueue h).carSendAt

theorem State.Keeps.queueCtl {i b} (hs : s₀.Keeps s) : s₀.Keeps (s.queueCtl i b).2 := by
  unfold State.queueCtl
  refine .iteSnd hs ?_
  split
  · exact .iteSnd hs.activateQueue hs
  · exact .iteSnd hs.resetQueue hs
  · exact hs.deleteQueue.carSendAt

theorem State.Keeps.cmdRun {m} (hs : s₀.Keeps s) : s₀.Keeps (s.cmdRun m).2 :=
  .iteSnd hs.noOpcode (.iteSnd hs.dsmAccept hs.ioAccept)

theorem State.Keeps.carCmd {i m} (hs : s₀.Keeps s) : s₀.Keeps (s.carCmd i m).2 := by
  unfold State.carCmd
  split
  · exact hs.upd.carSendAt
  · exact .iteSnd hs (.ite hs.cmdRun.carPull hs.cmdRun)

theorem State.Keeps.carAbort {i b} (hs : s₀.Keeps s) : s₀.Keeps (s.carAbort i b) := by
  unfold State.carAbort
  dsimp only
  split
  · exact hs.carSendAt
  · split
    · next h => exact (hs.abortTag.snd h).abortLater
    · next h => exact (hs.abortTag.snd h).abortLater
    · next h => exact (hs.abortTag.snd h).carSendAt

theorem State.Keeps.carTakeClose {b} (hs : s₀.Keeps s) : s₀.Keeps (s.carTakeClose b).2 := .iteSnd hs.takeClose hs

theorem State.Keeps.mgmtRead {i b} (hs : s₀.Keeps s) : s₀.Keeps (s.mgmtRead i b) := by
  unfold State.mgmtRead
  extract_lets
  split
  next h => exact (hs.access.snd h).carSendAt

theorem State.Keeps.mgmtWrite {b o} (hs : s₀.Keeps s) : s₀.Keeps (s.mgmtWrite b o).2 := hs.access

theorem State.Keeps.carEffect {i n m} (hs : s₀.Keeps s) : s₀.Keeps (s.carEffect i n m).2.2 := by
  unfold State.carEffect
  split
  · exact hs.carHello
  · exact hs.carFloor
  · exact hs.carWrite
  · exact hs.carRead
  · exact hs.readResp
  · exact hs.frameDone
  · exact hs.queueOpen
  · exact hs.queueCtl
  · split
    · exact hs.carCmd
    · exact hs
  · exact hs.carAbort
  · exact hs.takeDecide
  · exact hs.carTakeClose
  · exact hs.replTake
  · exact hs.mgmtRead
  · exact hs.mgmtWrite
  · exact hs

theorem State.Keeps.carApply {i m} (hs : s₀.Keeps s) : s₀.Keeps (s.carApply i m) :=
  have h1 := State.Keeps.carEffect (State.Keeps.ite hs hs.tick)
  .ite h1 (.ite (.ite h1.carMark.addN.carAck h1.carMark.addN.carRefuse) (.ite h1.carMark.addN.putPeer h1.carMark.addN.carGot))

theorem State.Keeps.carHeld {i n} (hs : s₀.Keeps s) : s₀.Keeps (s.carHeld i n) := by
  induction n generalizing s with
  | zero => exact hs
  | succ n ih =>
    unfold State.carHeld
    split
    · exact hs
    · exact ih hs.putPeer.carApply

theorem State.Keeps.carNew {i h m} (hs : s₀.Keeps s) : s₀.Keeps (s.carNew i h m) :=
  .ite (
    have h2 := hs.carSlide.carMark.addN.carRefuse.carHeld
    .ite h2.carAck h2) (.ite (
    have h3 := hs.carSlide.carMark.addN.carRefuse.carHeld
    .ite h3.carAck h3) (.ite (.ite hs.carSlide.carApply.carHeld.carAck hs.carSlide.carApply.carHeld) (.ite (
    have h5 := hs.carSlide.carMark.addN.carRefuse.carHeld
    .ite h5.carAck h5) (.ite (.ite hs.carSlide.carApply.carHeld.carAck hs.carSlide.carApply.carHeld)
      hs.carSlide.putPeer.carAck))))

theorem State.Keeps.carArrive {i h m} (hs : s₀.Keeps s) : s₀.Keeps (s.carArrive i h m) :=
  .ite hs.carRefuse (.ite hs.carOld (.ite (.ite hs.carEpoch.carRefuse hs.carEpoch.tick.carAckTake) (.ite
    hs.carEpoch.addF.carRefuse (.ite hs.carEpoch.addF.carAck (.ite hs.carEpoch hs.carEpoch.carNew)))))

theorem State.Keeps.carReceive {h m} (hs : s₀.Keeps s) : s₀.Keeps (s.carReceive h m) := by
  unfold State.carReceive
  split
  · exact hs
  · extract_lets s1 s2
    have h1 : s₀.Keeps s1 := hs.carCount
    have h2 : s₀.Keeps s2 := h1.reasmDrop
    refine .ite h1 (.ite h2.carTagFail ?_)
    split
    · next h => exact h2.carMill.carEntry.snd h
    · next h => exact
        have h3 := h2.carMill.carEntry.snd h
        .carArrive (.ite h3.putPeer h3)

theorem State.Keeps.carCommand {h c} (hs : s₀.Keeps s) : s₀.Keeps (s.carCommand h c) := hs.carReceive

/-! #### Io -/

theorem State.Keeps.execMgmtRead {h body} (hs : s₀.Keeps s) : s₀.Goes (execMgmtRead h body s) := .next hs.carReceive

theorem State.Keeps.execMgmtWrite {h body o} (hs : s₀.Keeps s) : s₀.Goes (execMgmtWrite h body o s) :=
  .next hs.carReceive

theorem State.Keeps.execMgmtData {h body} (hs : s₀.Keeps s) : s₀.Goes (execMgmtData h body s) := .next hs.carReceive

theorem State.Keeps.execCarrierHello {h body} (hs : s₀.Keeps s) : s₀.Goes (execCarrierHello h body s) :=
  .next hs.carReceive

theorem State.Keeps.execCarrierHelloReply {h body} (hs : s₀.Keeps s) : s₀.Goes (execCarrierHelloReply h body s) :=
  .next hs.carReceive

theorem State.Keeps.execCarrierFloor {h body} (hs : s₀.Keeps s) : s₀.Goes (execCarrierFloor h body s) :=
  .next hs.carReceive

theorem State.Keeps.execCarrierAck {h body} (hs : s₀.Keeps s) : s₀.Goes (execCarrierAck h body s) :=
  .next hs.carReceive

theorem State.Keeps.execCarrierWrite {h body} (hs : s₀.Keeps s) : s₀.Goes (execCarrierWrite h body s) :=
  .next hs.carReceive

theorem State.Keeps.execCarrierRead {h body} (hs : s₀.Keeps s) : s₀.Goes (execCarrierRead h body s) :=
  .next hs.carReceive

theorem State.Keeps.execCarrierReadResp {h body} (hs : s₀.Keeps s) : s₀.Goes (execCarrierReadResp h body s) :=
  .next hs.carReceive

theorem State.Keeps.execFrameDone {h body} (hs : s₀.Keeps s) : s₀.Goes (execFrameDone h body s) := .next hs.carReceive

theorem State.Keeps.execQueueOpen {h body} (hs : s₀.Keeps s) : s₀.Goes (execQueueOpen h body s) := .next hs.carReceive

theorem State.Keeps.execQueueReply {h body} (hs : s₀.Keeps s) : s₀.Goes (execQueueReply h body s) :=
  .next hs.carReceive

theorem State.Keeps.execQueueCtl {h body} (hs : s₀.Keeps s) : s₀.Goes (execQueueCtl h body s) := .next hs.carReceive

theorem State.Keeps.execCmdDone {h body} (hs : s₀.Keeps s) : s₀.Goes (execCmdDone h body s) := .next hs.carReceive

theorem State.Keeps.execCarrierAbort {h body} (hs : s₀.Keeps s) : s₀.Goes (execCarrierAbort h body s) :=
  .next hs.carReceive

theorem State.Keeps.execAbortReply {h body} (hs : s₀.Keeps s) : s₀.Goes (execAbortReply h body s) :=
  .next hs.carReceive

theorem State.Keeps.execQueueNotice {h body} (hs : s₀.Keeps s) : s₀.Goes (execQueueNotice h body s) :=
  .next hs.carReceive

theorem State.Keeps.execTakeOpen {h body} (hs : s₀.Keeps s) : s₀.Goes (execTakeOpen h body s) := .next hs.carReceive

theorem State.Keeps.execTakeGrant {h body} (hs : s₀.Keeps s) : s₀.Goes (execTakeGrant h body s) := .next hs.carReceive

theorem State.Keeps.execTakeClose {h body} (hs : s₀.Keeps s) : s₀.Goes (execTakeClose h body s) := .next hs.carReceive

theorem State.Keeps.execTakeNotice {h body} (hs : s₀.Keeps s) : s₀.Goes (execTakeNotice h body s) :=
  .next hs.carReceive

theorem State.Keeps.execCarrierRepl {h body} (hs : s₀.Keeps s) : s₀.Goes (execCarrierRepl h body s) :=
  .next hs.carReceive

theorem State.Keeps.execCarrierCrier {h body} (hs : s₀.Keeps s) : s₀.Goes (execCarrierCrier h body s) :=
  .next hs.carReceive

theorem State.Keeps.execCarrierReservedType {h type body} (hs : s₀.Keeps s) : s₀.Goes (execCarrierReservedType h type body s) :=
  .next (.ite hs.carReceive hs)

theorem State.Keeps.execMalformedSegment {port} (hs : s₀.Keeps s) : s₀.Goes (execMalformedSegment port s) :=
  .next (.ite hs hs.addF)

theorem State.Keeps.execReasmTimeout {h} (hs : s₀.Keeps s) : s₀.Goes (execReasmTimeout h s) := .next hs.reasmDrop

theorem State.Keeps.execMissingGap {h map} (hs : s₀.Keeps s) : s₀.Goes (execMissingGap h map s) := by
  unfold Machine.execMissingGap
  refine .next (.ite hs ?_)
  dsimp only
  split
  · next h => exact hs.reasmDrop.upd.carEntry.snd h
  · next h => exact have h1 := hs.reasmDrop.upd.carEntry.snd h; .ite h1.carEpoch.carAck h1

theorem State.Keeps.execAckDelayExpiry {peer} (hs : s₀.Keeps s) : s₀.Goes (execAckDelayExpiry peer s) :=
  .next (.ite hs.carAck hs)

theorem State.Keeps.execRtoExpiry {peer seq} (hs : s₀.Keeps s) : s₀.Goes (execRtoExpiry peer seq s) := by
  unfold Machine.execRtoExpiry
  refine .next ?_
  split
  · exact hs
  · exact hs.putPeer.addN.countEv.carWire

theorem State.Keeps.execGiveupExpiry {peer} (hs : s₀.Keeps s) : s₀.Goes (execGiveupExpiry peer s) := by
  unfold Machine.execGiveupExpiry
  refine .next ?_
  split
  · exact hs
  · exact hs.carErr.carFail

theorem State.Keeps.queueDrop {q st} (hs : s₀.Keeps s) : s₀.Keeps (s.queueDrop q st) :=
  .deleteQueue (hs.foldl (fun _ _ hs => .ite hs hs.docketEnd))

theorem State.Keeps.execQueueGraceExpiry {peer} (hs : s₀.Keeps s) : s₀.Goes (execQueueGraceExpiry peer s) :=
  .next (.ite (.ite hs (.log (hs.foldl (fun _ _ hs => hs.queueDrop)))) hs)

theorem State.Keeps.execRateInterval {qp n} (hs : s₀.Keeps s) : s₀.Goes (execRateInterval qp n s) :=
  .next (.ite hs.upd (.ite hs (.putPeer (.iteSnd hs.draw hs))))

theorem State.Keeps.execCmLinkDown (hs : s₀.Keeps s) : s₀.Goes (execCmLinkDown s) :=
  .next (.sessionsSettle (hs.foldl (fun _ _ hs => hs.putPeer)))

theorem State.Keeps.qpError {q} (hs : s₀.Keeps s) : s₀.Keeps (s.qpError q) :=
  .ite (.upd (.queueDrop (hs.foldl (fun _ _ hs => .ite hs.logError hs)))) hs

theorem State.Keeps.execQpError {q} (hs : s₀.Keeps s) : s₀.Goes (execQpError q s) := .next hs.qpError

theorem State.Keeps.execRoceCnp {q} (hs : s₀.Keeps s) : s₀.Goes (execRoceCnp q s) := .next (.ite hs.draw.upd hs)

theorem State.Keeps.execLocalAckTimeout {q} (hs : s₀.Keeps s) : s₀.Goes (execLocalAckTimeout q s) :=
  .next (.ite (.ite hs.qpError hs.upd.send) hs)

theorem State.Keeps.linkSet {link v} (hs : s₀.Keeps s) : s₀.Keeps (s.linkSet link v) := hs.setN

theorem State.Keeps.execFabricLinkDown {link} (hs : s₀.Keeps s) : s₀.Goes (execFabricLinkDown link s) :=
  .next (.ite hs.linkSet hs)

theorem State.Keeps.execFabricLinkTrained {link} (hs : s₀.Keeps s) : s₀.Goes (execFabricLinkTrained link s) :=
  .next (.ite hs (.ite hs.upd.linkSet hs.upd.linkSet))

theorem State.Keeps.cnpSend {q ce} (hs : s₀.Keeps s) : s₀.Keeps (s.cnpSend q ce) := .ite hs.upd.send hs

theorem State.Keeps.ioCommand {m car} (hs : s₀.Keeps s) : s₀.Keeps (s.ioCommand m car) := by
  unfold State.ioCommand
  split
  · exact hs.carCommand
  · exact .ite hs.cnpSend.cmdRun hs

theorem State.Keeps.execNvmeFlush {q cid c} (hs : s₀.Keeps s) : s₀.Goes (execNvmeFlush q cid c s) := .next hs.ioCommand

theorem State.Keeps.execNvmeWrite {q cid c} (hs : s₀.Keeps s) : s₀.Goes (execNvmeWrite q cid c s) := .next hs.ioCommand

theorem State.Keeps.execNvmeRead {q cid c} (hs : s₀.Keeps s) : s₀.Goes (execNvmeRead q cid c s) := .next hs.ioCommand

theorem State.Keeps.execNvmeCompare {q cid c} (hs : s₀.Keeps s) : s₀.Goes (execNvmeCompare q cid c s) :=
  .next hs.ioCommand

theorem State.Keeps.execNvmeWriteZeroes {q cid c} (hs : s₀.Keeps s) : s₀.Goes (execNvmeWriteZeroes q cid c s) :=
  .next hs.ioCommand

theorem State.Keeps.execNvmeVerify {q cid c} (hs : s₀.Keeps s) : s₀.Goes (execNvmeVerify q cid c s) :=
  .next hs.ioCommand

theorem State.Keeps.execDatasetManagement {q cid c ranges dealloc}
    (hs : s₀.Keeps s) : s₀.Goes (execDatasetManagement q cid c ranges dealloc s) :=
  .next hs.ioCommand

theorem State.Keeps.execUnsupportedOpcode {q cid op car} (hs : s₀.Keeps s) : s₀.Goes (execUnsupportedOpcode q cid op car s) := by
  unfold Machine.execUnsupportedOpcode
  refine .next ?_
  split
  · exact hs.carCommand
  · exact .ite hs.noOpcode hs

/-! #### Every command, and every step -/

/-- Every command goes on, and keeps the queue and the canonical form. -/
theorem State.Keeps.exec (hs : s₀.Keeps s) (i : Instr) : s₀.Goes (exec i s) :=
  match i with
  | .powerUp .. => hs.execPowerUp
  | .powerGood .. => hs.execPowerGood
  | .bootStepTimeout => hs.execBootStepTimeout
  | .bootFailReset .. => hs.execBootFailReset
  | .moduleReset .. => hs.execModuleReset
  | .headSlotChange .. => hs.execHeadSlotChange
  | .modeReqService => hs.execModeReqService
  | .modeReqPaired => hs.execModeReqPaired
  | .modeReqSolo => hs.execModeReqSolo
  | .modeReqJoining => hs.execModeReqJoining
  | .modeReqReplay => hs.execModeReqReplay
  | .modeReqBootstrap .. => hs.execModeReqBootstrap
  | .modeReqInvalid => hs.execModeReqInvalid
  | .featNegotiate .. => hs.execFeatNegotiate
  | .spiRead .. => hs.execSpiRead
  | .spiWrite .. => hs.execSpiWrite
  | .spiReadBurst .. => hs.execSpiReadBurst
  | .spiRead32 .. => hs.execSpiRead32
  | .spiWrite32 .. => hs.execSpiWrite32
  | .spiRead16 .. => hs.execSpiRead16
  | .spiRead8 .. => hs.execSpiRead8
  | .spiWrite16 .. => hs.execSpiWrite16
  | .spiWrite8 .. => hs.execSpiWrite8
  | .spiUnknownOpcode .. => hs.execSpiUnknownOpcode
  | .spiCsEarlyRise .. => hs.execSpiCsEarlyRise
  | .mgmtRead .. => hs.execMgmtRead
  | .mgmtWrite .. => hs.execMgmtWrite
  | .mgmtData .. => hs.execMgmtData
  | .registerWrite .. => hs.execRegisterWrite
  | .hallmarkWord0Read .. => hs.execHallmarkWord0Read
  | .authNonceRead => hs.execAuthNonceRead
  | .nonceExpiry => hs.execNonceExpiry
  | .takeInfoRead .. => hs.execTakeInfoRead
  | .dispatch .. => hs.execDispatch
  | .watchdogExpiry .. => hs.execWatchdogExpiry
  | .doorbell .. => hs.execDoorbell
  | .waitTimeout .. => hs.execWaitTimeout
  | .accelCompletion .. => hs.execAccelCompletion
  | .trapEntry .. => hs.execTrapEntry
  | .contextFreed .. => hs.execContextFreed
  | .handStoreError .. => hs.execHandStoreError
  | .handCorrectedError .. => hs.execHandCorrectedError
  | .handLockup .. => hs.execHandLockup
  | .drainTimeout .. => hs.execDrainTimeout
  | .handsLoadBegin => hs.execHandsLoadBegin
  | .handsLoadData .. => hs.execHandsLoadData
  | .handsLoadCommit => hs.execHandsLoadCommit
  | .handsLoadAbort => hs.execHandsLoadAbort
  | .handsBind .. => hs.execHandsBind
  | .handsUnload .. => hs.execHandsUnload
  | .handsRetireReq .. => hs.execHandsRetireReq
  | .handsRestoreReq .. => hs.execHandsRestoreReq
  | .actReplyTimeout => hs.execActReplyTimeout
  | .illegalEncoding .. => hs.execIllegalEncoding
  | .add .. => hs.execAdd
  | .sub .. => hs.execSub
  | .and .. => hs.execAnd
  | .or .. => hs.execOr
  | .xor .. => hs.execXor
  | .andn .. => hs.execAndn
  | .shl .. => hs.execShl
  | .shr .. => hs.execShr
  | .sar .. => hs.execSar
  | .shli .. => hs.execShli
  | .shri .. => hs.execShri
  | .sari .. => hs.execSari
  | .rotr .. => hs.execRotr
  | .mul .. => hs.execMul
  | .mulhu .. => hs.execMulhu
  | .mulhs .. => hs.execMulhs
  | .divu .. => hs.execDivu
  | .remu .. => hs.execRemu
  | .divs .. => hs.execDivs
  | .rems .. => hs.execRems
  | .minu .. => hs.execMinu
  | .maxu .. => hs.execMaxu
  | .mins .. => hs.execMins
  | .maxs .. => hs.execMaxs
  | .clz .. => hs.execClz
  | .ctz .. => hs.execCtz
  | .popc .. => hs.execPopc
  | .bswap .. => hs.execBswap
  | .sel .. => hs.execSel
  | .ext .. => hs.execExt
  | .mfs .. => hs.execMfs
  | .ptog .. => hs.execPtog
  | .gtop .. => hs.execGtop
  | .addi .. => hs.execAddi
  | .andi .. => hs.execAndi
  | .ori .. => hs.execOri
  | .xori .. => hs.execXori
  | .liL .. => hs.execLiL
  | .liuL .. => hs.execLiuL
  | .addiL .. => hs.execAddiL
  | .andiL .. => hs.execAndiL
  | .oriL .. => hs.execOriL
  | .cmp .. => hs.execCmp
  | .cmpi .. => hs.execCmpi
  | .predAnd .. => hs.execPredAnd
  | .predOr .. => hs.execPredOr
  | .predXor .. => hs.execPredXor
  | .predAndn .. => hs.execPredAndn
  | .predNot .. => hs.execPredNot
  | .predMov .. => hs.execPredMov
  | .predSet .. => hs.execPredSet
  | .predClr .. => hs.execPredClr
  | .b .. => hs.execB
  | .bt .. => hs.execBt
  | .bf .. => hs.execBf
  | .call .. => hs.execCall
  | .jr .. => hs.execJr
  | .ldp .. => hs.execLdp
  | .stp .. => hs.execStp
  | .ldg .. => hs.execLdg
  | .stg .. => hs.execStg
  | .ldd .. => hs.execLdd
  | .std .. => hs.execStd
  | .atomSwap .. => hs.execAtomSwap
  | .atomAdd .. => hs.execAtomAdd
  | .atomCas .. => hs.execAtomCas
  | .fenceG .. => hs.execFenceG
  | .dmk .. => hs.execDmk
  | .dmov .. => hs.execDmov
  | .dadv .. => hs.execDadv
  | .dtrim .. => hs.execDtrim
  | .ddrop .. => hs.execDdrop
  | .dget .. => hs.execDget
  | .dclr .. => hs.execDclr
  | .waitAll .. => hs.execWaitAll
  | .waitAny .. => hs.execWaitAny
  | .waitDoorbell .. => hs.execWaitDoorbell
  | .waitSleep .. => hs.execWaitSleep
  | .endCtx .. => hs.execEndCtx
  | .trap .. => hs.execTrap
  | .pressC .. => hs.execPressC
  | .pressD .. => hs.execPressD
  | .seal .. => hs.execSeal
  | .unseal .. => hs.execUnseal
  | .assayOne .. => hs.execAssayOne
  | .assayStart .. => hs.execAssayStart
  | .assayMore .. => hs.execAssayMore
  | .assayFinish .. => hs.execAssayFinish
  | .tallyCheckPi .. => hs.execTallyCheckPi
  | .tallyGenPi .. => hs.execTallyGenPi
  | .tallyCrc64 .. => hs.execTallyCrc64
  | .tallyCrc32c .. => hs.execTallyCrc32c
  | .tallyCrc16 .. => hs.execTallyCrc16
  | .sieveLookup .. => hs.execSieveLookup
  | .sieveInsert .. => hs.execSieveInsert
  | .sieveUnref .. => hs.execSieveUnref
  | .mapL _ _ da .. => hs.execMapL (_da := da)
  | .mapU .. => hs.execMapU
  | .tillP .. => hs.execTillP
  | .sledReadEntry .. => hs.execSledReadEntry
  | .sledRead .. => hs.execSledRead
  | .sledProgram .. => hs.execSledProgram
  | .sledErase .. => hs.execSledErase
  | .sledFold .. => hs.execSledFold
  | .sledTagscan .. => hs.execSledTagscan
  | .sledLevels .. => hs.execSledLevels
  | .sledOwn .. => hs.execSledOwn
  | .carry .. => hs.execCarry
  | .emit _ _ _ db .. => hs.execEmit (_db := db)
  | .reeveE _ _ da .. => hs.execReeveE (_da := da)
  | .sqStart .. => hs.execSqStart
  | .sqStop .. => hs.execSqStop
  | .sqWidth .. => hs.execSqWidth
  | .tollCap .. => hs.execTollCap
  | .handRetire .. => hs.execHandRetire
  | .pressTarget .. => hs.execPressTarget
  | .spareCall .. => hs.execSpareCall
  | .reelPut .. => hs.execReelPut
  | .keyLoad .. => hs.execKeyLoad
  | .keyZero .. => hs.execKeyZero
  | .millLock .. => hs.execMillLock
  | .millFree .. => hs.execMillFree
  | .nvmeConnect .. => hs.execNvmeConnect
  | .propertyGet .. => hs.execPropertyGet
  | .propertySet .. => hs.execPropertySet
  | .getLogPage .. => hs.execGetLogPage
  | .identify .. => hs.execIdentify
  | .nvmeAbort .. => hs.execNvmeAbort
  | .setFeatures .. => hs.execSetFeatures
  | .getFeatures .. => hs.execGetFeatures
  | .asyncEventRequest .. => hs.execAsyncEventRequest
  | .keepAlive .. => hs.execKeepAlive
  | .queueResume .. => hs.execQueueResume
  | .queueReset .. => hs.execQueueReset
  | .nvmeFlush .. => hs.execNvmeFlush
  | .nvmeWrite .. => hs.execNvmeWrite
  | .nvmeRead .. => hs.execNvmeRead
  | .nvmeCompare .. => hs.execNvmeCompare
  | .nvmeWriteZeroes .. => hs.execNvmeWriteZeroes
  | .datasetManagement .. => hs.execDatasetManagement
  | .nvmeVerify .. => hs.execNvmeVerify
  | .unsupportedOpcode .. => hs.execUnsupportedOpcode
  | .dataArrived .. => hs.execDataArrived
  | .completionHandoff .. => hs.execCompletionHandoff
  | .docketQueueResume => hs.execDocketQueueResume
  | .docketQueueReset => hs.execDocketQueueReset
  | .docketQueueFreeze => hs.execDocketQueueFreeze
  | .docketAbortGo .. => hs.execDocketAbortGo
  | .tollWindow => hs.execTollWindow
  | .tollReqGo => hs.execTollReqGo
  | .tollReqClose => hs.execTollReqClose
  | .armWindowExpiry .. => hs.execArmWindowExpiry
  | .keptUntilExpiry .. => hs.execKeptUntilExpiry
  | .lapsedExpiry .. => hs.execLapsedExpiry
  | .bulkHoldExpiry .. => hs.execBulkHoldExpiry
  | .soloTestTimeout => hs.execSoloTestTimeout
  | .capacityTick .. => hs.execCapacityTick
  | .pressAdaptWindow => hs.execPressAdaptWindow
  | .pressLaneTest => hs.execPressLaneTest
  | .pressLaneRetire => hs.execPressLaneRetire
  | .pressLaneRestore => hs.execPressLaneRestore
  | .pressStreamCfgWrite .. => hs.execPressStreamCfgWrite
  | .pressLaneFailure .. => hs.execPressLaneFailure
  | .millLockGranted .. => hs.execMillLockGranted
  | .millLockExpiry .. => hs.execMillLockExpiry
  | .keyZeroDrained .. => hs.execKeyZeroDrained
  | .drbgReseed => hs.execDrbgReseed
  | .rngHealthFail => hs.execRngHealthFail
  | .reseedOverdue => hs.execReseedOverdue
  | .millKatDue .. => hs.execMillKatDue
  | .millCoreTest => hs.execMillCoreTest
  | .millCoreRetire => hs.execMillCoreRetire
  | .millCoreRestore => hs.execMillCoreRestore
  | .millCoreFailure .. => hs.execMillCoreFailure
  | .assayDmaGo => hs.execAssayDmaGo
  | .assayDmaComplete .. => hs.execAssayDmaComplete
  | .assayFeed .. => hs.execAssayFeed
  | .assayFeedTail .. => hs.execAssayFeedTail
  | .assayDmaClose => hs.execAssayDmaClose
  | .assayDmaAbort => hs.execAssayDmaAbort
  | .assayCompareGo => hs.execAssayCompareGo
  | .assayLaneTest => hs.execAssayLaneTest
  | .assayLaneRetire => hs.execAssayLaneRetire
  | .assayLaneRestore => hs.execAssayLaneRestore
  | .assayKatDue .. => hs.execAssayKatDue
  | .assayLaneFailure .. => hs.execAssayLaneFailure
  | .tallyClaim .. => hs.execTallyClaim
  | .tallyRelease .. => hs.execTallyRelease
  | .tallyFeedB .. => hs.execTallyFeedB
  | .tallyFeedH .. => hs.execTallyFeedH
  | .tallyFeedW .. => hs.execTallyFeedW
  | .tallyFeedD .. => hs.execTallyFeedD
  | .tallyValueWrite .. => hs.execTallyValueWrite
  | .tallyAlgWrite .. => hs.execTallyAlgWrite
  | .tallyCompare .. => hs.execTallyCompare
  | .tallyReset .. => hs.execTallyReset
  | .sieveVaultWrite .. => hs.execSieveVaultWrite
  | .sievePageTimeout .. => hs.execSievePageTimeout
  | .sieveFilterReady .. => hs.execSieveFilterReady
  | .snapTake => hs.execSnapTake
  | .snapDelete => hs.execSnapDelete
  | .snapPresent => hs.execSnapPresent
  | .snapWithdraw => hs.execSnapWithdraw
  | .replOpen => hs.execReplOpen
  | .replClose => hs.execReplClose
  | .replCycleNow => hs.execReplCycleNow
  | .replCycleExpiry .. => hs.execReplCycleExpiry
  | .replRecOpen .. => hs.execReplRecOpen
  | .replRecOpenReply .. => hs.execReplRecOpenReply
  | .replRecOffer .. => hs.execReplRecOffer
  | .replRecHave .. => hs.execReplRecHave
  | .replRecGrain .. => hs.execReplRecGrain
  | .replRecUnmap .. => hs.execReplRecUnmap
  | .replRecCommit .. => hs.execReplRecCommit
  | .replRecCommitAck .. => hs.execReplRecCommitAck
  | .replRecSyncWrite .. => hs.execReplRecSyncWrite
  | .replRecSyncAck .. => hs.execReplRecSyncAck
  | .syncAckTimeout .. => hs.execSyncAckTimeout
  | .replLinkLost .. => hs.execReplLinkLost
  | .replLinkReturn .. => hs.execReplLinkReturn
  | .cfHeartbeat .. => hs.execCfHeartbeat
  | .cfTillData .. => hs.execCfTillData
  | .cfDaybook .. => hs.execCfDaybook
  | .cfLedger .. => hs.execCfLedger
  | .cfTakeState .. => hs.execCfTakeState
  | .cfDocket .. => hs.execCfDocket
  | .cfRelease .. => hs.execCfRelease
  | .cfAct .. => hs.execCfAct
  | .cfJoin .. => hs.execCfJoin
  | .cfHoldupNotice .. => hs.execCfHoldupNotice
  | .cfFlushDone .. => hs.execCfFlushDone
  | .cfNak .. => hs.execCfNak
  | .heartbeatTick => hs.execHeartbeatTick
  | .budgetRecompute .. => hs.execBudgetRecompute
  | .flushDoneTimeout .. => hs.execFlushDoneTimeout
  | .holdupFlushComplete => hs.execHoldupFlushComplete
  | .bankReserveReached .. => hs.execBankReserveReached
  | .tillCfRetrain => hs.execTillCfRetrain
  | .cfTrained .. => hs.execCfTrained
  | .cfLaneFailure .. => hs.execCfLaneFailure
  | .cfLinkDown => hs.execCfLinkDown
  | .partnerLost .. => hs.execPartnerLost
  | .secondWaitExpiry .. => hs.execSecondWaitExpiry
  | .joinWaitExpiry .. => hs.execJoinWaitExpiry
  | .failbackHoldoffExpiry => hs.execFailbackHoldoffExpiry
  | .selfFence => hs.execSelfFence
  | .fenceInEffect => hs.execFenceInEffect
  | .fenceInPulse => hs.execFenceInPulse
  | .testPulseEnd => hs.execTestPulseEnd
  | .aliveTick => hs.execAliveTick
  | .drillDue => hs.execDrillDue
  | .councilDrillGo => hs.execCouncilDrillGo
  | .drillHoldExpiry => hs.execDrillHoldExpiry
  | .councilBallot .. => hs.execCouncilBallot
  | .voteWindowExpiry => hs.execVoteWindowExpiry
  | .activeCoreTimeout => hs.execActiveCoreTimeout
  | .coreResyncDone .. => hs.execCoreResyncDone
  | .councilCoreTest => hs.execCouncilCoreTest
  | .councilCoreRetire => hs.execCouncilCoreRetire
  | .councilCoreRestore => hs.execCouncilCoreRestore
  | .councilCheckpoint .. => hs.execCouncilCheckpoint
  | .groupCommit .. => hs.execGroupCommit
  | .daybookFlushTimer .. => hs.execDaybookFlushTimer
  | .daybookPageDurable .. => hs.execDaybookPageDurable
  | .checkpointTimer .. => hs.execCheckpointTimer
  | .checkpointSize .. => hs.execCheckpointSize
  | .stewardCkptGo => hs.execStewardCkptGo
  | .mapPageFetched .. => hs.execMapPageFetched
  | .sledPresence .. => hs.execSledPresence
  | .sledPowerTimer .. => hs.execSledPowerTimer
  | .sledTrained .. => hs.execSledTrained
  | .sledTrainFail .. => hs.execSledTrainFail
  | .sledLaneFault .. => hs.execSledLaneFault
  | .sledRemoved .. => hs.execSledRemoved
  | .sledCmdTimeout .. => hs.execSledCmdTimeout
  | .sledPowerOff => hs.execSledPowerOff
  | .sledPowerOn => hs.execSledPowerOn
  | .sledReset => hs.execSledReset
  | .sledRetrain => hs.execSledRetrain
  | .slcRecompute => hs.execSlcRecompute
  | .foldStart => hs.execFoldStart
  | .foldComplete .. => hs.execFoldComplete
  | .foldRateWindow => hs.execFoldRateWindow
  | .gleanBlock .. => hs.execGleanBlock
  | .thinSheaf .. => hs.execThinSheaf
  | .calibrationDue .. => hs.execCalibrationDue
  | .secureBoundExpiry .. => hs.execSecureBoundExpiry
  | .stewardSecureWrite .. => hs.execStewardSecureWrite
  | .holdForm => hs.execHoldForm
  | .holdDissolve => hs.execHoldDissolve
  | .holdTakeIn => hs.execHoldTakeIn
  | .holdFail => hs.execHoldFail
  | .holdResync => hs.execHoldResync
  | .holdWatchNow => hs.execHoldWatchNow
  | .ledgerWriteTick .. => hs.execLedgerWriteTick
  | .rebuildChunk .. => hs.execRebuildChunk
  | .resyncPass .. => hs.execResyncPass
  | .watchSheaf .. => hs.execWatchSheaf
  | .watchOverdue .. => hs.execWatchOverdue
  | .carrierHello .. => hs.execCarrierHello
  | .carrierHelloReply .. => hs.execCarrierHelloReply
  | .carrierFloor .. => hs.execCarrierFloor
  | .carrierAck .. => hs.execCarrierAck
  | .carrierWrite .. => hs.execCarrierWrite
  | .carrierRead .. => hs.execCarrierRead
  | .carrierReadResp .. => hs.execCarrierReadResp
  | .frameDone .. => hs.execFrameDone
  | .queueOpen .. => hs.execQueueOpen
  | .queueReply .. => hs.execQueueReply
  | .queueCtl .. => hs.execQueueCtl
  | .cmdDone .. => hs.execCmdDone
  | .carrierAbort .. => hs.execCarrierAbort
  | .abortReply .. => hs.execAbortReply
  | .queueNotice .. => hs.execQueueNotice
  | .takeOpen .. => hs.execTakeOpen
  | .takeGrant .. => hs.execTakeGrant
  | .takeClose .. => hs.execTakeClose
  | .takeNotice .. => hs.execTakeNotice
  | .carrierRepl .. => hs.execCarrierRepl
  | .carrierCrier .. => hs.execCarrierCrier
  | .reasmTimeout .. => hs.execReasmTimeout
  | .missingGap .. => hs.execMissingGap
  | .ackDelayExpiry .. => hs.execAckDelayExpiry
  | .rtoExpiry .. => hs.execRtoExpiry
  | .giveupExpiry .. => hs.execGiveupExpiry
  | .queueGraceExpiry .. => hs.execQueueGraceExpiry
  | .rateInterval .. => hs.execRateInterval
  | .peerReset => hs.execPeerReset
  | .peerPin => hs.execPeerPin
  | .peerUnpin => hs.execPeerUnpin
  | .regCreate => hs.execRegCreate
  | .regRevoke => hs.execRegRevoke
  | .revocationDrained .. => hs.execRevocationDrained
  | .cmLinkDown => hs.execCmLinkDown
  | .qpError .. => hs.execQpError
  | .roceCnp .. => hs.execRoceCnp
  | .saddrAnnounce .. => hs.execSaddrAnnounce
  | .magTrain .. => hs.execMagTrain
  | .magTrainReply .. => hs.execMagTrainReply
  | .magAck .. => hs.execMagAck
  | .magResendReq .. => hs.execMagResendReq
  | .magIdentify .. => hs.execMagIdentify
  | .magRead .. => hs.execMagRead
  | .magWrite .. => hs.execMagWrite
  | .magFlush .. => hs.execMagFlush
  | .magTrim .. => hs.execMagTrim
  | .recordArm .. => hs.execRecordArm
  | .recordStop .. => hs.execRecordStop
  | .magTaskStatus .. => hs.execMagTaskStatus
  | .magData .. => hs.execMagData
  | .magTaskReset .. => hs.execMagTaskReset
  | .magAbort .. => hs.execMagAbort
  | .magAbortReply .. => hs.execMagAbortReply
  | .magNotice .. => hs.execMagNotice
  | .magTwin .. => hs.execMagTwin
  | .magResendTimer .. => hs.execMagResendTimer
  | .magLockLoss .. => hs.execMagLockLoss
  | .magRetrain .. => hs.execMagRetrain
  | .magTrainRetry .. => hs.execMagTrainRetry
  | .magLaneFail .. => hs.execMagLaneFail
  | .twinTick .. => hs.execTwinTick
  | .handbackDrained .. => hs.execHandbackDrained
  | .ingestStart .. => hs.execIngestStart
  | .ingestStop .. => hs.execIngestStop
  | .ingestClipVerdict .. => hs.execIngestClipVerdict
  | .larderClean => hs.execLarderClean
  | .larderInvalidate => hs.execLarderInvalidate
  | .larderDisable => hs.execLarderDisable
  | .larderEnable => hs.execLarderEnable
  | .larderWaysWrite .. => hs.execLarderWaysWrite
  | .larderWayRetire .. => hs.execLarderWayRetire
  | .larderWayRestore .. => hs.execLarderWayRestore
  | .larderFillComplete .. => hs.execLarderFillComplete
  | .larderEccError .. => hs.execLarderEccError
  | .hbmEccError .. => hs.execHbmEccError
  | .hbmScrubDue => hs.execHbmScrubDue
  | .hbmRowRemap .. => hs.execHbmRowRemap
  | .strongRetry .. => hs.execStrongRetry
  | .strongClearAlt => hs.execStrongClearAlt
  | .fwBegin => hs.execFwBegin
  | .fwData .. => hs.execFwData
  | .fwEndBlock => hs.execFwEndBlock
  | .fwVerify => hs.execFwVerify
  | .fwAbort => hs.execFwAbort
  | .fwActivate .. => hs.execFwActivate
  | .fwCommit => hs.execFwCommit
  | .fwRollback .. => hs.execFwRollback
  | .rollGo => hs.execRollGo
  | .rollStepAdvance .. => hs.execRollStepAdvance
  | .quoteGo => hs.execQuoteGo
  | .keyImportOmk => hs.execKeyImportOmk
  | .keyEnrollProgkey => hs.execKeyEnrollProgkey
  | .keyVaultCreate .. => hs.execKeyVaultCreate
  | .keyVaultExport .. => hs.execKeyVaultExport
  | .keyVaultImport .. => hs.execKeyVaultImport
  | .keyVaultDelete .. => hs.execKeyVaultDelete
  | .keySessionLoad .. => hs.execKeySessionLoad
  | .keyData .. => hs.execKeyData
  | .authData .. => hs.execAuthData
  | .wallWrite .. => hs.execWallWrite
  | .parishSnapshot .. => hs.execParishSnapshot
  | .parishClearGo => hs.execParishClearGo
  | .crierWindow => hs.execCrierWindow
  | .hushPeriod .. => hs.execHushPeriod
  | .countLatchGo => hs.execCountLatchGo
  | .countCfgWrite .. => hs.execCountCfgWrite
  | .counterWrap .. => hs.execCounterWrap
  | .counterSample .. => hs.execCounterSample
  | .reelFreeze => hs.execReelFreeze
  | .reelThaw => hs.execReelThaw
  | .replayStop => hs.execReplayStop
  | .replayEnd .. => hs.execReplayEnd
  | .opsecSave => hs.execOpsecSave
  | .gradeFall .. => hs.execGradeFall
  | .gradeRise .. => hs.execGradeRise
  | .vinLoss .. => hs.execVinLoss
  | .vinReturn .. => hs.execVinReturn
  | .powerCapExceeded .. => hs.execPowerCapExceeded
  | .powerCapRelax .. => hs.execPowerCapRelax
  | .bankCharged => hs.execBankCharged
  | .bankStepTestDue => hs.execBankStepTestDue
  | .bankMeasure => hs.execBankMeasure
  | .bankDisconnect => hs.execBankDisconnect
  | .holdSenseMismatch => hs.execHoldSenseMismatch
  | .thermalCapOn .. => hs.execThermalCapOn
  | .thermalCapOff .. => hs.execThermalCapOff
  | .overTemp .. => hs.execOverTemp
  | .caseTooCold .. => hs.execCaseTooCold
  | .overtempCooled .. => hs.execOvertempCooled
  | .pllFault .. => hs.execPllFault
  | .pllRelockFail => hs.execPllRelockFail
  | .rtcxLoss => hs.execRtcxLoss
  | .refclkLoss .. => hs.execRefclkLoss
  | .wardenTestGo .. => hs.execWardenTestGo
  | .periodicTestDue .. => hs.execPeriodicTestDue
  | .testWithdrawal => hs.execTestWithdrawal
  | .unitTestDone .. => hs.execUnitTestDone
  | .chargeWindow .. => hs.execChargeWindow
  | .converterStop => hs.execConverterStop
  | .hbmStackHot .. => hs.execHbmStackHot
  | .fabricLinkDown .. => hs.execFabricLinkDown
  | .fabricLinkTrained .. => hs.execFabricLinkTrained
  | .carrierReservedType .. => hs.execCarrierReservedType
  | .cfReservedStub .. => hs.execCfReservedStub
  | .magReservedFolio .. => hs.execMagReservedFolio
  | .magUnknownOpcode .. => hs.execMagUnknownOpcode
  | .falseMark .. => hs.execFalseMark
  | .malformedSegment .. => hs.execMalformedSegment
  | .larderMaintDone => hs.execLarderMaintDone
  | .larderDisableDone => hs.execLarderDisableDone
  | .vinAboveRange .. => hs.execVinAboveRange
  | .alarmLedExpiry => hs.execAlarmLedExpiry
  | .fenceInRelease => hs.execFenceInRelease
  | .laneMarkersFound .. => hs.execLaneMarkersFound
  | .keepAliveTimeout .. => hs.execKeepAliveTimeout
  | .localAckTimeout .. => hs.execLocalAckTimeout

end

/-- A step goes on to a state with the rest of the queue, and keeps the canonical form. -/
theorem step_goes (s : State) : ∃ t, step s = .next t ∧ t.pending = s.pending.tail ∧ (s.canonical → t.canonical) := by
  unfold step
  split
  · next h =>
    have hk := (State.Keeps.refl s).clockTick
    exact ⟨_, rfl, hk.queue.trans (by rw [h, List.tail_nil]), hk.stores⟩
  · next c rest h =>
    obtain ⟨t, ht, hk⟩ := (State.Keeps.refl { s with pending := rest }).exec c
    exact ⟨t, ht, hk.queue.trans (by rw [h, List.tail_cons]), hk.stores⟩

/-- Settles O58: each operation of the model keeps the queue and the stores' form, and so what a command is made of does. -/
theorem everyStepKeepsTheStores : Obligations.EveryStepKeepsTheStores := by
  constructor
  · intro i s t ht
    obtain ⟨u, hu, hk⟩ := (State.Keeps.refl s).exec i
    cases hu.symm.trans ht
    exact ⟨hk.queue, hk.stores⟩
  · intro s t ht
    obtain ⟨u, hu, hk⟩ := step_goes s
    cases hu.symm.trans ht
    exact hk

/-- Settles O56: each command's meaning, and the clock's on an empty queue, ends in a next state. -/
theorem everyCommandAnswersAState : Obligations.EveryCommandAnswersAState := by
  constructor
  · intro i s
    obtain ⟨t, ht, _⟩ := (State.Keeps.refl s).exec i
    exact ⟨t, ht⟩
  · intro s
    obtain ⟨t, ht, _⟩ := step_goes s
    exact ⟨t, ht⟩

end Sys2Proof.Machine
end

section
/-! PROOFS. One step: the front command, or on an empty queue a microsecond of the clock (assumption log 4). -/

open Sys2Proof Sys2Proof.Claims

namespace Sys2Proof.Machine

/-! ### A microsecond without a command -/

theorem State.addN_rest (s : State) (k n : Nat) : (s.addN k n).rest = s.rest := rfl

theorem State.getN_addN_self (s : State) (k n : Nat) : (s.addN k n).getN k = (s.getN k + n) % 2 ^ 64 := s.getN_setN_self k _

theorem State.getN_addN_ne (s : State) {j k : Nat} (n : Nat) (h : j ≠ k) : (s.addN k n).getN j = s.getN j := s.getN_setN_ne _ h

/-- With power, neither of the two instants after t0 is at hand. -/
theorem State.bootClock_quiet {s : State} (h1 : s.time ≠ s.strong.boot.t0 + 1000) (h2 : s.time ≠ s.strong.boot.t0 + 2000) :
    s.bootClock = s := by
  unfold State.bootClock
  split
  · rfl
  · exact (if_neg h1).trans (if_neg fun h => h2 h.1)

/-- Past the start no boot step runs. -/
theorem State.bootTick_quiet {s : State} (h : s.booting = false) : s.bootTick = s := if_pos (.inl h)

/-- COUNT_CYCLES of the first n domains have counted a microsecond. -/
def State.cyclesCount (s : State) (n : Nat) : State :=
  (upto n).foldl (fun s k => s.addN (R.COUNT_CYCLES + 8 * k) (domainMhz.getD k 0)) s

theorem State.cyclesCount_succ (s : State) (n : Nat) :
    s.cyclesCount (n + 1) = (s.cyclesCount n).addN (R.COUNT_CYCLES + 8 * n) (domainMhz.getD n 0) := by
  simp [State.cyclesCount, upto, List.range_succ]

theorem State.cyclesCount_rest (s : State) (n : Nat) : (s.cyclesCount n).rest = s.rest := by
  induction n with
  | zero => rfl
  | succ n ih => rw [State.cyclesCount_succ, State.addN_rest, ih]

/-- A register that is none of the cycle counters stays. -/
theorem State.getR_cyclesCount (s : State) {j : Nat} (n : Nat) (h : ∀ k, k < n → j ≠ R.COUNT_CYCLES + 8 * k) :
    (s.cyclesCount n).getR j = s.getR j := by
  induction n with
  | zero => rfl
  | succ n ih =>
    rw [State.cyclesCount_succ, State.addN, State.getR_setN_ne _ _ (h n (by omega)), ih fun k hk => h k (by omega)]

/-- A domain's counter has counted its cycles. -/
theorem State.getN_cyclesCount (s : State) {n k : Nat} (h : k < n) :
    (s.cyclesCount n).getN (R.COUNT_CYCLES + 8 * k) = (s.getN (R.COUNT_CYCLES + 8 * k) + domainMhz.getD k 0) % 2 ^ 64 := by
  induction n with
  | zero => exact absurd h (Nat.not_lt_zero k)
  | succ n ih =>
    rw [State.cyclesCount_succ]
    obtain hk | rfl := Nat.lt_succ_iff_lt_or_eq.1 h
    · rw [State.getN_addN_ne _ _ (by omega), ih hk]
    · rw [State.getN_addN_self, State.getN, State.getR_cyclesCount _ _ (by omega), ← State.getN]

/-- Where no counter runs, only COUNT_CYCLES counts. -/
theorem State.cyclesTick_quiet {s : State} (h : s.getF F.COUNT_RUN_VAL = 0) : s.cyclesTick = s.cyclesCount 7 := by
  have hrun : (s.cyclesCount 7).getF F.COUNT_RUN_VAL = 0 := by
    rw [← h, State.getF, State.getR_cyclesCount _ _ (fun k hk => by
      show 0x50508 ≠ 0x50000 + 8 * k
      omega), ← State.getF]
  exact if_pos hrun

theorem State.reserve_rest (s : State) : s.reserve.rest = s.rest := by unfold State.reserve; split <;> rfl

theorem State.reserve_regs (s : State) : s.reserve.regs = s.regs := by unfold State.reserve; split <;> rfl

theorem State.magAligns_rest (s : State) (p : Nat) : (s.magAligns p).rest = s.rest := by
  unfold State.magAligns; split <;> rfl

theorem State.getR_magAligns (s : State) {k p : Nat} (h : k ≠ R.MAGPORT_P_LINK + 0x100 * p) : (s.magAligns p).getR k = s.getR k := by
  unfold State.magAligns
  split
  · exact State.getR_setF_ne _ _ _ h
  · rfl

theorem State.ingState_magAligns (s : State) (p q : Nat) : (s.magAligns p).ingState q = s.ingState q := by
  have h : (s.magAligns p).getR (R.MAGPORT_P_INGEST_CTL + 0x100 * q) = s.getR (R.MAGPORT_P_INGEST_CTL + 0x100 * q) :=
    s.getR_magAligns (by
      show 0x1C0180 + 0x100 * q ≠ 0x1C0108 + 0x100 * p
      omega)
  exact congrArg F.MAGPORT_P_INGEST_CTL_STATE.get h

/-- Ports none of which has an ingest at work change in their link state alone. -/
theorem State.magTick_quiet {l : List Nat} {s : State} (h : ∀ p ∈ l, s.ingState p ≠ 2) :
    (l.foldl (fun s p => (s.magAligns p).ingWake p) s).rest = s.rest ∧
      ∀ k, k < R.MAGPORT_P_LINK → (l.foldl (fun s p => (s.magAligns p).ingWake p) s).getR k = s.getR k := by
  induction l generalizing s with
  | nil => exact ⟨rfl, fun _ _ => rfl⟩
  | cons p l ih =>
    obtain ⟨hp, hl⟩ := List.forall_mem_cons.1 h
    have hw : (s.magAligns p).ingWake p = s.magAligns p :=
      if_neg fun hg => hp ((s.ingState_magAligns p p).symm.trans hg.1)
    rw [List.foldl_cons, hw]
    obtain ⟨hr, hk⟩ := ih (s := s.magAligns p) fun q hq => (s.ingState_magAligns p q).symm ▸ hl q hq
    exact ⟨hr.trans (s.magAligns_rest p), fun k h => (hk k h).trans (s.getR_magAligns (by omega))⟩

/-- The state a microsecond on, its cycles counted and its Reeve numbers reserved. -/
def State.microsecond (s : State) : State := (({ s with time := s.time + 1 } : State).cyclesCount 7).reserve

theorem State.microsecond_rest (s : State) : s.microsecond.rest = { s.rest with time := s.time + 1 } :=
  (State.reserve_rest _).trans (State.cyclesCount_rest _ _)

theorem State.getR_microsecond (s : State) {j : Nat} (h : ∀ k, k < 7 → j ≠ R.COUNT_CYCLES + 8 * k) :
    s.microsecond.getR j = s.getR j :=
  (State.getR_congr (State.reserve_regs _) j).trans (State.getR_cyclesCount _ _ h)

theorem State.getN_microsecond (s : State) {k : Nat} (h : k < 7) : s.microsecond.getN (R.COUNT_CYCLES + 8 * k) =
    (s.getN (R.COUNT_CYCLES + 8 * k) + domainMhz.getD k 0) % 2 ^ 64 :=
  (congrArg BitVec.toNat (State.getR_congr (State.reserve_regs _) _)).trans (State.getN_cyclesCount _ h)

theorem State.ingState_microsecond (s : State) (p : Nat) : s.microsecond.ingState p = s.ingState p :=
  congrArg F.MAGPORT_P_INGEST_CTL_STATE.get (s.getR_microsecond fun k hk => by
    show 0x1C0180 + 0x100 * p ≠ 0x50000 + 8 * k
    omega)

/-- The clock with power, where nothing is due. -/
theorem clockTick_quiet {s : State} (hon : s.power = .on) (hboot : s.booting = false) (h1 : s.time + 1 ≠ s.strong.boot.t0 + 1000)
    (h2 : s.time + 1 ≠ s.strong.boot.t0 + 2000) (hpll : s.warden.pllAt = 0) (hdue : s.toll.due = false)
    (hrun : s.getF F.COUNT_RUN_VAL = 0) (hing : ∀ p ∈ upto 4, s.ingState p ≠ 2) (hsec : (s.time + 1) % 1000000 ≠ 0) :
    clockTick s = s.microsecond.magTick := by
  have hrest : s.microsecond.magTick.rest = { s.rest with time := s.time + 1 } :=
    (State.magTick_quiet fun p hp => (s.ingState_microsecond p).symm ▸ hing p hp).1.trans s.microsecond_rest
  have hpll' : s.microsecond.magTick.warden.pllAt = 0 := (congrArg (fun t => t.warden.pllAt) hrest).trans hpll
  have hdue' : s.microsecond.magTick.toll.due = false := (congrArg (fun t => t.toll.due) hrest).trans hdue
  have htime : s.microsecond.magTick.time = s.time + 1 := congrArg State.time hrest
  have hstart : (({ s with time := s.time + 1 } : State).bootClock.bootTick).cyclesTick.reserve = s.microsecond := by
    rw [State.bootClock_quiet h1 h2, State.bootTick_quiet (s := { s with time := s.time + 1 }) hboot,
      State.cyclesTick_quiet (s := { s with time := s.time + 1 }) hrun, State.microsecond]
  unfold clockTick
  dsimp only
  rw [if_neg (not_not.2 hon), hstart]
  simp [hpll', hdue', htime, hsec]

/-- Settles O55: the queue's front decides a step; on an empty queue with nothing due only time and COUNT_CYCLES advance. -/
theorem aStepRunsTheFrontCommand : Obligations.AStepRunsTheFrontCommand := by
  refine ⟨fun s c rest h => ?front, fun s h => ?empty⟩
  case front =>
    unfold step
    rw [h]
  case empty =>
    have hstep : step s = .next (clockTick s) := by
      unfold step
      rw [h]
    refine ⟨fun hoff => hstep.trans (congrArg Host.Outcome.next (if_pos hoff)), ?_⟩
    intro hon hboot h1 h2 hpll hdue hrun hing hsec
    have hing' : ∀ p ∈ upto 4, s.ingState p ≠ 2 := fun p hp => hing p (List.mem_range.1 hp)
    obtain ⟨hmag, hreg⟩ := State.magTick_quiet fun p hp => (s.ingState_microsecond p).symm ▸ hing' p hp
    have hrest : s.microsecond.magTick.rest = { s.rest with time := s.time + 1 } := hmag.trans s.microsecond_rest
    refine ⟨s.microsecond.magTick, hstep.trans (congrArg _ (clockTick_quiet hon hboot h1 h2 hpll hdue hrun hing' hsec)),
      (congrArg State.time hrest :), (congrArg State.mem hrest :), (congrArg State.mode hrest :), (congrArg State.docket hrest :),
      (congrArg State.hands hrest :), fun k hk => ?_⟩
    have hlt : R.COUNT_CYCLES + 8 * k < R.MAGPORT_P_LINK := by
      show 0x50000 + 8 * k < 0x1C0108
      omega
    exact (congrArg BitVec.toNat (hreg _ hlt)).trans (s.getN_microsecond hk)

end Sys2Proof.Machine
end

section
/-! PROOFS. Power, start and restart (R49, R443, R497): what engines that return to service leave alone, what a mode change and a new
ledger leave, then t0, module reset and the end of HOLDUP. -/

open Sys2Proof Sys2Proof.Claims

namespace Sys2Proof.Machine

/-! ### What engines that return to service leave alone -/

/-- What a head serves with: a state but for its registers, its records and their paths, the outputs, the engines' own books, the
pool's and the sessions'. -/
def State.core (s : State) : State :=
  { s with regs := [], outbox := [], freeCtr := 0, pins := default, press := default, mill := default, warden := default
           hold := default, mag := default, sieve := default, cf := default, till := default, stew := default, media := default
           car := default, latches := default, toll := { s.toll with due := false }
           obs := { (default : Obs) with reserved := s.obs.reserved, replayFirst := s.obs.replayFirst, replayLast := s.obs.replayLast } }

/-- The IDENT block's registers, and the core, are those of another state. -/
structure State.Steady (s t : State) : Prop where
  low : ∀ k, k < 0x1000 → t.getR k = s.getR k
  core : t.core = s.core

theorem State.Steady.refl (s : State) : s.Steady s := ⟨fun _ _ => rfl, rfl⟩

section
variable {s₀ s : State}

theorem State.Steady.mode {t : State} (h : s.Steady t) : t.mode = s.mode := (congrArg State.mode h.core :)

theorem State.Steady.mem {t : State} (h : s.Steady t) : t.mem = s.mem := (congrArg State.mem h.core :)

theorem State.Steady.power {t : State} (h : s.Steady t) : t.power = s.power := (congrArg State.power h.core :)

theorem State.Steady.docket {t : State} (h : s.Steady t) : t.docket = s.docket := (congrArg State.docket h.core :)

theorem State.Steady.hands {t : State} (h : s.Steady t) : t.hands = s.hands := (congrArg State.hands h.core :)

theorem State.Steady.pair {t : State} (h : s.Steady t) : t.pair = s.pair := (congrArg State.pair h.core :)

theorem State.Steady.reply {t : State} (h : s.Steady t) : t.reply = s.reply := (congrArg State.reply h.core :)

/-- A field of the IDENT block. -/
theorem State.Steady.getF {t : State} (h : s.Steady t) {f : Fld} (hf : f.addr < 0x1000 := by decide) : t.getF f = s.getF f :=
  congrArg f.get (h.low _ hf)

theorem State.Steady.upd {t : State} (hs : s₀.Steady s) (hr : t.regs = s.regs := by rfl) (hc : t.core = s.core := by rfl) :
    s₀.Steady t :=
  ⟨fun k hk => (State.getR_congr hr k).trans (hs.low k hk), hc.trans hs.core⟩

theorem State.Steady.setR {a v} (hs : s₀.Steady s) (h : 0x1000 ≤ a) : s₀.Steady (s.setR a v) :=
  ⟨fun k hk => (State.getR_setR_ne _ _ (by omega)).trans (hs.low k hk), hs.core⟩

theorem State.Steady.setF {f n} (hs : s₀.Steady s) (h : 0x1000 ≤ f.addr := by decide) : s₀.Steady (s.setF f n) := hs.setR h

theorem State.Steady.setAt {f : Fld} {n v} (hs : s₀.Steady s) (h : 0x1000 ≤ f.addr := by decide) : s₀.Steady (s.setF (f.at n) v) :=
  hs.setF (Nat.le_add_right_of_le h)

theorem State.Steady.setWin {f : Fld} {w n v} (hs : s₀.Steady s) (h : 0x1000 ≤ f.addr := by decide) : s₀.Steady (s.setF (f.win w n) v) :=
  hs.setF (Nat.le_add_right_of_le h)

theorem State.Steady.setN {a n} (hs : s₀.Steady s) (h : 0x1000 ≤ a := by decide) : s₀.Steady (s.setN a n) := hs.setR h

theorem State.Steady.ite {c : Prop} {_ : Decidable c} {t u : State} (ht : s₀.Steady t) (hu : s₀.Steady u) :
    s₀.Steady (if c then t else u) := by split <;> assumption

theorem State.Steady.foldl {α : Type} {f : State → α → State} {l : List α} (hs : s₀.Steady s)
    (hf : ∀ u x, s₀.Steady u → s₀.Steady (f u x)) : s₀.Steady (l.foldl f s) :=
  List.foldlRecOn l f hs fun u hu x _ => hf u x hu

theorem State.Steady.crierLog {r} (hs : s₀.Steady s) : s₀.Steady (s.crierLog r) :=
  .ite (hs.setN (a := R.CRIER_RING_HEAD)).upd (hs.setN (a := R.CRIER_HUSHED)).upd

theorem State.Steady.crierAlarm {r} (hs : s₀.Steady s) : s₀.Steady (s.crierAlarm r) :=
  .ite (.setN (.upd (hs.setN (a := R.CRIER_RING_HEAD)))) (.upd (hs.setN (a := R.CRIER_RING_HEAD)))

theorem State.Steady.countOver {n} (hs : s₀.Steady s) : s₀.Steady (s.countOver n) := .ite (.setN (.crierLog hs.setF)) hs.setF

theorem State.Steady.countOne {n k} (hs : s₀.Steady s) : s₀.Steady (s.countOne n k) := .ite hs.setWin hs.setWin.countOver

theorem State.Steady.countAdd {n k} (hs : s₀.Steady s) : s₀.Steady (s.countAdd n k) :=
  .ite (.countOne (.upd hs.countOne)) (.upd hs.countOne)

theorem State.Steady.countEv {ev k hand} (hs : s₀.Steady s) : s₀.Steady (s.countEv ev k hand) :=
  .ite hs (hs.foldl fun _ _ hs => hs.countAdd)

theorem State.Steady.tick (hs : s₀.Steady s) : s₀.Steady s.tick := .countEv hs.setN

theorem State.Steady.alarm {i c st det body} (hs : s₀.Steady s) : s₀.Steady (s.alarm i c st det body) := hs.crierAlarm.tick

theorem State.Steady.log {i c st det body} (hs : s₀.Steady s) : s₀.Steady (s.log i c st det body) :=
  .ite hs.crierLog.tick hs.crierLog.tick.countEv

theorem State.Steady.regEvent {blk code det body} (hs : s₀.Steady s) : s₀.Steady (s.regEvent blk code det body) :=
  .tick (.upd hs)

theorem State.Steady.holdRestart (hs : s₀.Steady s) : s₀.Steady s.holdRestart := .ite (.setF (.setF hs)) hs

theorem State.Steady.spareBook {kind unit used} (hs : s₀.Steady s) : s₀.Steady (s.spareBook kind unit used) := by
  unfold State.spareBook
  extract_lets f s1 s2 s3
  have h1 : s₀.Steady s1 := .ite hs.setAt hs
  have h3 : s₀.Steady s3 := .setN (.setF (.setF (.setF (.log h1.setAt))))
  exact .ite (.alarm (.upd h3)) h3

theorem State.Steady.capTrigger (hs : s₀.Steady s) : s₀.Steady s.capTrigger := hs.upd

theorem State.Steady.handSet {h st cause} (hs : s₀.Steady s) : s₀.Steady (s.handSet h st cause) :=
  .setWin (.setWin (.setF (.setF (.setF (.setF (.ite hs.upd hs))))))

theorem State.Steady.handsIn (hs : s₀.Steady s) : s₀.Steady s.handsIn := hs.foldl fun _ _ hs => .ite hs hs.handSet

theorem State.Steady.pressServe (hs : s₀.Steady s) : s₀.Steady s.pressServe := hs.upd

theorem State.Steady.pressRecount (hs : s₀.Steady s) : s₀.Steady s.pressRecount :=
  .capTrigger (.pressServe (.setF (.setF (.setF (.setF (.setF (.setF hs)))))))

theorem State.Steady.pressStandIn {k} (hs : s₀.Steady s) : s₀.Steady (s.pressStandIn k) := by
  unfold State.pressStandIn
  split
  · exact hs
  · exact hs.setAt

theorem State.Steady.pressBack {lane} (hs : s₀.Steady s) : s₀.Steady (s.pressBack lane) := .pressRecount (.setAt hs.setAt)

theorem State.Steady.pressOut {lane cause} (hs : s₀.Steady s) : s₀.Steady (s.pressOut lane cause) := by
  have h1 : s₀.Steady (({ s with press := { s.press with drain := s.press.drain.set lane 0 } }.setF (F.PRESS_LANE_STATE.at lane) 3).setF
    (F.PRESS_LANE_RETIRE_CAUSE.at lane) cause) := .setAt (.setAt hs.upd)
  exact .alarm (.holdRestart (.spareBook (.pressRecount (.ite h1.pressStandIn h1))))

theorem State.Steady.pressIn (hs : s₀.Steady s) : s₀.Steady s.pressIn :=
  .foldl (hs.foldl fun _ _ hs => .ite hs.pressBack (.ite (.ite hs.pressOut (.pressBack hs.upd)) hs)) fun _ _ hs => .ite hs.setAt hs

theorem State.Steady.millRecount (hs : s₀.Steady s) : s₀.Steady s.millRecount := .setF (.setF (.setF hs.setF))

theorem State.Steady.millBack {core} (hs : s₀.Steady s) : s₀.Steady (s.millBack core) := .millRecount (.setAt (.setAt hs.setAt))

theorem State.Steady.millClear {core} (hs : s₀.Steady s) : s₀.Steady (s.millClear core) := hs.upd

theorem State.Steady.millStandIn (hs : s₀.Steady s) : s₀.Steady s.millStandIn := by
  unfold State.millStandIn
  split
  · exact hs
  · exact hs.setAt

theorem State.Steady.millOut {core cause} (hs : s₀.Steady s) : s₀.Steady (s.millOut core cause) := by
  unfold State.millOut
  extract_lets _ _ s0 s1 s2
  have h0 : s₀.Steady s0 := hs.upd
  have h1 : s₀.Steady s1 := .millClear (.setAt (.setAt h0.setAt))
  have h2 : s₀.Steady s2 := .ite h1 h1.setAt
  exact .holdRestart (.spareBook (.millRecount (.ite h2.millStandIn h2)))

theorem State.Steady.millIn (hs : s₀.Steady s) : s₀.Steady s.millIn :=
  hs.foldl fun _ _ hs => .ite hs.millBack (.ite (.ite hs.millOut (.millBack hs.upd)) hs)

end

/-! ### A mode entered, and the ledger of a new start -/

section
variable (s : State) (old : Nat) (m : Mode) (cause : Nat)

theorem State.modeFrom_core : (s.modeFrom old m cause).core = { s.core with mode := m } :=
  (State.Steady.regEvent (.refl _)).core

/-- A field of IDENT_MODE after a mode change reads as it was put there. -/
theorem State.getF_modeFrom {f : Fld} (hf : f.addr < 0x1000) : (s.modeFrom old m cause).getF f =
    ((((({ s with mode := m }.setN R.IDENT_MODE_SEQ s.now).setF F.IDENT_MODE_SINCE s.opsec).setF F.IDENT_MODE_CAUSE cause).setF
      F.IDENT_MODE_PREV old).setF F.IDENT_MODE_MODE m.code).getF f :=
  congrArg f.get ((State.Steady.regEvent (.refl _)).low _ hf)

theorem Mode.code_lt (m : Mode) : m.code < 16 := by cases m <;> decide

theorem State.getF_modeFrom_mode : (s.modeFrom old m cause).getF F.IDENT_MODE_MODE = m.code := by
  rw [State.getF_modeFrom _ _ _ _ (by decide), State.getF_setF_self _ _ _ (by decide)]
  exact Nat.mod_eq_of_lt m.code_lt

theorem State.getF_modeFrom_cause (h : cause < 256) : (s.modeFrom old m cause).getF F.IDENT_MODE_CAUSE = cause := by
  rw [State.getF_modeFrom _ _ _ _ (by decide), State.getF_setF_ne _ _ _ _ (by decide), State.getF_setF_ne _ _ _ _ (by decide),
    State.getF_setF_self _ _ _ (by decide)]
  exact Nat.mod_eq_of_lt h

end

/-- BL-01 has begun: the ledger of a state's start is the previous one, and what stood below the Reeve's registers stays but
IDENT_START. -/
structure State.Begun (s t : State) (env : BootEnv) (warm : Bool) : Prop where
  core : { t.core with strong := s.strong } = s.core
  low : ∀ k, k < 0x1000 → k ≠ R.IDENT_START → t.getR k = s.getR k
  shown : t.getF F.IDENT_START_STEP = 1
  env : t.strong.boot.env = env
  warm : t.strong.boot.warm = warm
  step : t.strong.boot.step = 1
  entry : (t.strong.ledger.entries.get 1).state = 1
  prev : t.strong.prev = s.strong.ledger

/-- Step 1 begins: it is not an optional one. -/
theorem State.bootBegin_first (s : State) (k : Nat) : s.bootBegin 1 (k + 1) =
    (let t := ((s.bootEntry 1 1 0).setF F.IDENT_START_STEP 1).setF F.IDENT_START_STATE 0
     { t with strong := { t.strong with boot := { t.strong.boot with step := 1 } } }) := rfl

theorem State.bootStart_begun (s : State) (env : BootEnv) (warm : Bool) : s.Begun (s.bootStart env warm) env warm := by
  let u : State := { s.ledgerShift with strong := { s.ledgerShift.strong with
    boot := { env := env, step := 0, t0 := s.ledgerShift.time, warm := warm, failAt := 0 } } }
  have hu : u.Steady u.handsIn.pressIn.millIn := (State.Steady.refl u).handsIn.pressIn.millIn
  let v : State := (u.handsIn.pressIn.millIn.setF F.IDENT_START_ALTERNATES 0).setF F.IDENT_START_SKIPPED 0
  have hv : v.core = u.core := hu.core
  have hstrong : v.strong = u.strong := (congrArg State.strong hv :)
  have ht : s.bootStart env warm = v.bootBegin 1 41 := rfl
  rw [ht, State.bootBegin_first]
  refine ⟨?_, ?_, ?_, ?_, ?_, rfl, ?_, ?_⟩
  case refine_1 => exact (congrArg (fun c : State => { c with strong := s.strong }) hv :)
  case refine_2 =>
    intro k hk h
    refine Eq.trans ?_ (hu.low k hk)
    refine (State.getR_setF_ne _ _ _ h).trans ((State.getR_setF_ne _ _ _ h).trans ?_)
    exact (State.getR_setF_ne _ _ _ h).trans (State.getR_setF_ne _ _ _ h)
  case refine_3 =>
    refine (State.getF_setF_ne _ F.IDENT_START_STEP F.IDENT_START_STATE _ (by decide)).trans ?_
    rw [State.getF_setF_self _ _ _ (by decide)]
    rfl
  case refine_4 => exact (congrArg (fun x : Strong => x.boot.env) hstrong :)
  case refine_5 => exact (congrArg (fun x : Strong => x.boot.warm) hstrong :)
  case refine_6 => exact congrArg BootEntry.state (AMap.get_set_self _ _ _)
  case refine_7 => exact (congrArg Strong.prev hstrong :)

theorem State.queueTest_core (s : State) (r : TestReq) : (s.queueTest r).core = s.core := rfl

/-- Steps that keep the core keep it together. -/
theorem State.foldl_core {α : Type} {f : State → α → State} (hf : ∀ s x, (f s x).core = s.core) (l : List α) (s : State) :
    (l.foldl f s).core = s.core := by
  induction l generalizing s with
  | nil => rfl
  | cons x l ih => exact (ih _).trans (hf s x)

theorem State.mgmtWords_core (s : State) : s.mgmtWords.core = s.core := by
  unfold State.mgmtWords
  exact State.foldl_core (by intros; rfl) _ _

/-- t0 is a mode change, and a ledger begun, of a state of a restarted head's core with its Reeve numbers reserved. -/
theorem State.t0_eq (s : State) (env : BootEnv) (cause : Nat) : ∃ u : State,
    u.core = { s.restart.core with power := .on, strong := { s.restart.strong with reset := false }
                                   obs := { (default : Obs) with reserved := s.obs.reserved + 2 ^ 36 } } ∧
      s.t0 env cause = (u.modeFrom s.warden.startFrom .bootstrap cause).bootStart env false := by
  refine ⟨_, ?_, rfl⟩
  refine (State.foldl_core (by intros; rfl) _ _).trans ((State.foldl_core (by intros; rfl) _ _).trans ?_)
  exact (State.mgmtWords_core _).trans (State.foldl_core State.queueTest_core _ _)

/-- What t0 leaves (R49). -/
theorem State.t0_fresh (s : State) (env : BootEnv) {cause : Nat} (h : cause < 256) :
    freshStart s (s.t0 env cause) env cause ∧ (s.t0 env cause).strong.prev = s.strong.ledger := by
  obtain ⟨u, hu, ht⟩ := s.t0_eq env cause
  let v := u.modeFrom s.warden.startFrom .bootstrap cause
  have hv : v.core = { u.core with mode := .bootstrap } := u.modeFrom_core _ _ _
  have hb : v.Begun (s.t0 env cause) env false := ht ▸ v.bootStart_begun env false
  have hc := hb.core.trans (hv.trans (congrArg (fun c : State => { c with mode := .bootstrap }) hu))
  have hmode {f : Fld} (hf : f.addr = R.IDENT_MODE) : (s.t0 env cause).getF f = v.getF f :=
    congrArg f.get (hb.low _ (hf ▸ by decide) (hf ▸ by decide))
  refine ⟨⟨(congrArg State.power hc :), (congrArg State.mode hc :), (hmode rfl).trans (u.getF_modeFrom_mode _ _ _),
    (hmode rfl).trans (u.getF_modeFrom_cause _ _ _ h), hb.env, hb.warm, hb.step, hb.entry, hb.shown,
    (congrArg (fun c : State => c.obs.reserved) hc :), (congrArg (fun c : State => c.hands.ctxs) hc :),
    (congrArg (fun c : State => c.docket.tags) hc :), (congrArg (fun c : State => c.docket.queues) hc :),
    (congrArg (fun c : State => c.toll.takes) hc :), (congrArg State.mem hc :), (congrArg State.pending hc :)⟩, ?_⟩
  refine hb.prev.trans ?_
  exact (congrArg (fun c : State => c.strong.ledger) (hv.trans (congrArg (fun c : State => { c with mode := .bootstrap }) hu)) :)

/-- A start depends on the Reeve numbers reserved before it and the queue alone. -/
theorem freshStart_congr {s u t : State} {env : BootEnv} {cause : Nat} (hr : u.obs.reserved = s.obs.reserved)
    (hq : u.pending = s.pending) (h : freshStart u t env cause) : freshStart s t env cause := by
  unfold freshStart at h ⊢
  rwa [hr, hq] at h

theorem State.moduleReset_fresh {s : State} (env : BootEnv) (hon : s.power = .on) (hmode : s.mode ≠ .holdup)
    (hvin : 4800 ≤ s.getF F.WARDEN_VIN_VIN) :
    freshStart s (s.moduleReset env) env 0x12 ∧ (s.moduleReset env).strong.prev = s.strong.ledger := by
  have h : s.moduleReset env = ({ s with warden := { s.warden with startFrom := s.mode.code } } : State).t0 env 0x12 :=
    (if_neg (by simp [hon, hmode])).trans (if_pos hvin)
  obtain ⟨hf, hp⟩ := State.t0_fresh { s with warden := { s.warden with startFrom := s.mode.code } } env (cause := 0x12) (by decide)
  rw [h]
  exact ⟨freshStart_congr rfl rfl hf, hp⟩

theorem State.moduleReset_low {s : State} (env : BootEnv) (hon : s.power = .on) (hmode : s.mode ≠ .holdup)
    (hvin : s.getF F.WARDEN_VIN_VIN < 4800) :
    s.moduleReset env = { s.restart with power := .off }.setF F.WARDEN_BANK_STATE 7 :=
  (if_neg (by simp [hon, hmode])).trans (if_neg (by omega))

/-- A failed boot step's record leaves the core but its ledger (R443). -/
theorem State.bootFail_core (s : State) (n st : Nat) : ∃ m, (s.bootFail n st).core = { s.core with strong := { s.strong with
    ledger := { s.strong.ledger with entries := s.strong.ledger.entries.set n ⟨3, st, m⟩ }
    boot := { s.strong.boot with failAt := s.time + 1 } } } :=
  ⟨_, (State.Steady.regEvent (.refl _)).core⟩

theorem State.getF_bootFail (s : State) (n st : Nat) : (s.bootFail n st).getF F.IDENT_START_STATE = 2 := by
  refine (congrArg F.IDENT_START_STATE.get ((State.Steady.regEvent (.refl _)).low _ (by decide))).trans ?_
  exact State.getF_setF_self _ F.IDENT_START_STATE 2 (by decide)

/-- The last of a HOLDUP flush, its records written: the boards undriven, and the power on its way (R497, R514). -/
def State.flushEnd (u : State) : State :=
  let v := { u with obs := { u.obs with opsecSaved := u.opsec }, pins := { u.pins.resting with misoAnswers := true } }.setF
    F.TILL_STATE_FLUSHING 0
  if 4800 ≤ v.getF F.WARDEN_VIN_VIN ∧ v.warden.hotStop = false then
    { v with power := .rising, warden := { v.warden with startFrom := Mode.holdup.code } }
  else
    let w : State := { v with power := .down }
    if 4800 ≤ w.getF F.WARDEN_VIN_VIN then w else w.setF F.WARDEN_BANK_STATE 7

theorem State.holdupDone_eq (s : State) (n : Nat) : ∃ u : State, s.holdupDone n = u.flushEnd := ⟨_, rfl⟩

theorem State.flushEnd_end (u : State) : (u.flushEnd.power = .rising ∨ u.flushEnd.power = .down) ∧
    u.flushEnd.getF F.TILL_STATE_FLUSHING = 0 ∧ u.flushEnd.pins.fenceOut = false ∧ u.flushEnd.pins.pgOut = false := by
  have hflush (w : State) : (w.setF F.TILL_STATE_FLUSHING 0).getF F.TILL_STATE_FLUSHING = 0 :=
    State.getF_setF_self _ F.TILL_STATE_FLUSHING 0 (by decide)
  unfold State.flushEnd
  dsimp only
  split
  · exact ⟨.inl rfl, hflush _, rfl, rfl⟩
  · split
    · exact ⟨.inr rfl, hflush _, rfl, rfl⟩
    · exact ⟨.inr rfl, (State.getF_setF_ne _ F.TILL_STATE_FLUSHING F.WARDEN_BANK_STATE _ (by decide)).trans (hflush _), rfl, rfl⟩

theorem State.holdupDone_end (s : State) (n : Nat) : ((s.holdupDone n).power = .rising ∨ (s.holdupDone n).power = .down) ∧
    (s.holdupDone n).getF F.TILL_STATE_FLUSHING = 0 ∧ (s.holdupDone n).pins.fenceOut = false ∧ (s.holdupDone n).pins.pgOut = false := by
  obtain ⟨u, hu⟩ := s.holdupDone_eq n
  rw [hu]
  exact u.flushEnd_end

theorem execPowerUp_start {s : State} {vin : Nat} (h : 4800 ≤ vin) (hoff : s.power = .off) (hhot : s.warden.hotStop = false) :
    execPowerUp vin s = .next { s.setF F.WARDEN_VIN_VIN vin with power := .rising } :=
  congrArg Host.Outcome.next (if_pos ⟨hoff, hhot, h⟩)

/-- Settles O16: t0 and module reset from what a restart keeps; the other starts and ends by their own equations. -/
theorem powerStartAndReset : Obligations.PowerStartAndReset := by
  intro s env
  refine ⟨?up, ?good, ?reset, ?low, ?stall, ?clear, ?relock, ?flushed⟩
  case up =>
    intro vin hw hv hoff hhot
    refine ⟨_, execPowerUp_start hv hoff hhot, rfl, ?_, ?_⟩
    · exact (State.getF_setF_self s F.WARDEN_VIN_VIN vin (by decide)).trans (Nat.mod_eq_of_lt hw)
    · rw [← hoff]
      rfl
  case good =>
    intro hrise
    refine ⟨_, congrArg Host.Outcome.next (if_neg (not_not.2 hrise)), (s.t0_fresh env ?_).1⟩
    split <;> decide
  case reset =>
    intro hon hmode hvin
    refine ⟨⟨_, rfl, (State.moduleReset_fresh env hon hmode hvin).1⟩, ?_, ?_⟩
    · let u : State := (s.setF F.STRONG_STATE_HALTED 0).stat F.STRONG_BOOT_CTL_STATUS 0
      have hvin' : u.getF F.WARDEN_VIN_VIN = s.getF F.WARDEN_VIN_VIN :=
        (State.getF_setF_ne _ F.WARDEN_VIN_VIN F.STRONG_BOOT_CTL_STATUS _ (by decide)).trans
          (State.getF_setF_ne s F.WARDEN_VIN_VIN F.STRONG_STATE_HALTED _ (by decide))
      let v : State := { u with strong := { u.strong with ledger := default, prev := default, older := default } }
      obtain ⟨hf, hp⟩ := State.moduleReset_fresh (s := v) env hon hmode (hvin'.symm ▸ hvin)
      exact ⟨_, congrArg Host.Outcome.next (if_neg hmode), freshStart_congr rfl rfl hf, hp⟩
    · intro hb hf
      exact ⟨_, congrArg Host.Outcome.next (if_pos ⟨hb, hf⟩), (State.moduleReset_fresh env hon hmode hvin).1⟩
  case low =>
    intro hon hmode hvin
    refine ⟨_, rfl, ?_⟩
    rw [State.moduleReset_low env hon hmode hvin]
    exact ⟨rfl, State.getF_setF_self _ F.WARDEN_BANK_STATE 7 (by decide), rfl, rfl⟩
  case stall =>
    intro hon hb hstep hfail
    obtain ⟨m, hc⟩ := s.bootFail_core s.strong.boot.step 0
    refine ⟨s.bootFail s.strong.boot.step 0, congrArg Host.Outcome.next (if_pos ?_), ?_, s.getF_bootFail _ _, ?_, ?_, ?_⟩
    · simp [State.booting, hon, hb, hstep, hfail]
    · refine (congrArg (fun c : State => (c.strong.ledger.entries.get s.strong.boot.step).state) hc :).trans ?_
      exact congrArg BootEntry.state (AMap.get_set_self _ _ _)
    · exact (congrArg (fun c : State => c.strong.boot.failAt) hc :)
    · exact (congrArg State.mode hc :).trans hb
    · exact (congrArg State.mem hc :)
  case clear =>
    exact ⟨_, rfl, rfl, ⟨State.getF_setF_self _ F.STRONG_BOOT_CTL_STATUS 0 (by decide), rfl⟩, rfl⟩
  case relock =>
    intro hon hmode
    exact ⟨_, congrArg Host.Outcome.next (if_neg (by simp [hon, hmode])), rfl, rfl, rfl, rfl, rfl⟩
  case flushed =>
    intro hon hmode
    exact ⟨⟨_, congrArg Host.Outcome.next (if_pos ⟨hmode, hon⟩), s.holdupDone_end _⟩,
      fun n => ⟨_, congrArg Host.Outcome.next (if_pos ⟨hmode, hon⟩), s.holdupDone_end n⟩⟩

end Sys2Proof.Machine
end

section
/-! PROOFS. Mode requests and features (R34, R35, R45). -/

open Sys2Proof Sys2Proof.Claims

namespace Sys2Proof.Machine

/-! ### What stubs, the Daybook's groups and a checkpoint leave alone -/

section
variable {s₀ s : State}

/-- A change of the outputs or of the books of an engine, the pool or a session. -/
theorem State.Steady.part {outbox freeCtr pins press mill warden hold mag sieve cf till stew media car latches} (hs : s₀.Steady s) :
    s₀.Steady ⟨s.regs, s.mem, s.pending, outbox, s.time, freeCtr, s.mode, s.power, s.reply, s.obs, s.hands, s.docket, s.toll, pins,
      s.larder, s.plan, press, mill, s.assay, warden, hold, mag, sieve, cf, till, stew, media, car, s.pair, s.strong, latches⟩ :=
  hs.upd

theorem State.Steady.iteSnd {α : Type} {c : Prop} {_ : Decidable c} {p q : α × State} (hp : s₀.Steady p.2) (hq : s₀.Steady q.2) :
    s₀.Steady (if c then p else q).2 := by split <;> assumption

theorem State.Steady.cfPump {l room} (hs : s₀.Steady s) : s₀.Steady (State.cfPump l room s) := by
  induction l generalizing room s with
  | nil => exact hs
  | cons x r ih => exact .ite hs (.ite (ih hs) (ih (.part (.setN (.setN hs.part)))))

theorem State.Steady.sendStub {type payload} (hs : s₀.Steady s) : s₀.Steady (s.sendStub type payload) :=
  .ite (.cfPump hs.part) hs.part

theorem State.Steady.mirror {type payload} (hs : s₀.Steady s) : s₀.Steady (s.mirror type payload) := .ite hs.sendStub hs

theorem State.Steady.putDb {c d} (hs : s₀.Steady s) : s₀.Steady (s.putDb c d) := hs.part

theorem State.Steady.progSend {c kind chunk name loc n data} (hs : s₀.Steady s) :
    s₀.Steady (s.progSend c kind chunk name loc n data) := hs.part

theorem State.Steady.dbFlush {c} (hs : s₀.Steady s) : s₀.Steady (s.dbFlush c) := by
  unfold State.dbFlush
  dsimp only
  split
  · exact hs
  · exact hs.putDb.foldl fun _ _ hs => hs.progSend

theorem State.Steady.dbAppend {c typ body} (hs : s₀.Steady s) : s₀.Steady (s.dbAppend c typ body) :=
  .setAt (.setAt (.putDb (.ite hs.dbFlush hs)))

theorem State.Steady.dbCommit {c l} (hs : s₀.Steady s) : s₀.Steady (s.dbCommit c l) :=
  .mirror (hs.foldl fun _ _ hs => hs.dbAppend)

theorem State.Steady.putSheaf {k x} (hs : s₀.Steady s) : s₀.Steady (s.putSheaf k x) := hs.part

theorem State.Steady.progChunk {k i} (hs : s₀.Steady s) : s₀.Steady (s.progChunk k i) := hs.progSend.putSheaf

theorem State.Steady.packTo {k now} (hs : s₀.Steady s) : s₀.Steady (s.packTo k now) :=
  .ite (hs.putSheaf.part.foldl fun _ _ hs => hs.progChunk) (.ite hs.putSheaf.part (hs.putSheaf.foldl fun _ _ hs => hs.progChunk))

theorem State.Steady.padSheaf {c fr} (hs : s₀.Steady s) : s₀.Steady (s.padSheaf c fr) := by
  unfold State.padSheaf
  split
  · exact hs
  · exact hs.packTo.part

theorem State.Steady.putDie {k d} (hs : s₀.Steady s) : s₀.Steady (s.putDie k d) := hs.part

theorem State.Steady.chunkAlloc {c die chunk} (hs : s₀.Steady s) : s₀.Steady (s.chunkAlloc c die chunk).2 := by
  unfold State.chunkAlloc
  dsimp only
  refine .iteSnd (.ite hs.putDie.part hs.putDie) ?_
  split
  · exact hs
  · dsimp only
    exact .ite hs.dbCommit.putDie.part hs.dbCommit.putDie

theorem State.Steady.chunkAll {c sheaf l pos} (hs : s₀.Steady s) : s₀.Steady (State.chunkAll c sheaf l pos s).2 := by
  induction l generalizing s pos with
  | nil => exact hs
  | cons die r ih => exact ih hs.chunkAlloc

theorem State.Steady.ledgerNote {k} (hs : s₀.Steady s) : s₀.Steady (s.ledgerNote k) := .mirror hs.part

theorem State.Steady.sheafOpen {c fr x} (hs : s₀.Steady s) (h : s.sheafOpen c fr = some x) : s₀.Steady x := by
  unfold State.sheafOpen at h
  split at h
  · cases h
  · split at h
    · cases h
    · cases h; exact hs.chunkAll.part.putSheaf.ledgerNote

theorem State.Steady.slotAlloc {c fr n take kind x} (hs : s₀.Steady s) (h : s.slotAlloc c fr n take kind = some x) :
    s₀.Steady x.2 := by
  unfold State.slotAlloc at h
  dsimp only at h
  split at h
  · cases h
  · next t ht =>
    have h1 : s₀.Steady t := by
      split at ht
      · cases ht; exact hs
      · split at ht
        · cases ht
        · exact hs.padSheaf.sheafOpen ht
    cases h
    exact .ite h1.putSheaf.packTo.part h1.putSheaf.packTo

theorem State.Steady.pageExtent {c slot vol epoch} (hs : s₀.Steady s) : s₀.Steady (s.pageExtent c slot vol epoch) := hs.part

theorem State.Steady.pagesPut {c kind vol epoch n} (hs : s₀.Steady s) : s₀.Steady (State.pagesPut c kind vol epoch n s).2 := by
  induction n generalizing s with
  | zero => exact hs
  | succ n ih =>
    unfold State.pagesPut
    split
    · exact hs
    · next h => exact ih (hs.slotAlloc h).pageExtent

theorem State.Steady.leave {l} (hs : s₀.Steady s) : s₀.Steady (s.leave l) := hs.part

theorem State.Steady.rootsWrite {c l} (hs : s₀.Steady s) : s₀.Steady (State.rootsWrite c l s).2 := by
  induction l generalizing s with
  | nil => exact hs
  | cons v r ih =>
    unfold State.rootsWrite
    exact ih hs.leave.pagesPut.part

theorem State.Steady.snapRoots {c} (hs : s₀.Steady s) : s₀.Steady (s.snapRoots c) :=
  hs.foldl fun _ _ hs => .part (hs.pagesPut.foldl fun _ _ hs => hs.part)

theorem State.Steady.pageWrite {p} (hs : s₀.Steady s) : s₀.Steady (s.pageWrite p) := by
  unfold State.pageWrite
  dsimp only
  split
  · exact hs
  · next h =>
    exact .ite (.part (.setN (.part (hs.slotAlloc h).dbCommit.pageExtent))) (.part (.setN (.part (hs.slotAlloc h).dbCommit.pageExtent)))

theorem State.Steady.pagesWrite {c dirs} (hs : s₀.Steady s) : s₀.Steady (s.pagesWrite c dirs) :=
  hs.foldl fun _ _ hs => hs.pageWrite

theorem State.Steady.bucketWrite {b} (hs : s₀.Steady s) : s₀.Steady (s.bucketWrite b) :=
  have h := hs.pagesPut.foldl fun _ _ hs => hs.leave.part
  .ite h.part h

theorem State.Steady.ckptStart {c} (hs : s₀.Steady s) : s₀.Steady (s.ckptStart c) :=
  .ite hs (.setF (.setAt (.putDb (.dbCommit (.part (.rootsWrite (.snapRoots (.pagesWrite (.pagesWrite (hs.foldl
    fun _ _ hs => hs.bucketWrite))))))))))

theorem State.Steady.dbClose {c kind} (hs : s₀.Steady s) : s₀.Steady (s.dbClose c kind) := hs.dbCommit.tick

end

/-! ### A head that enters PAIRED and is not sealed -/

/-- The mode, and the pool's sealing as the Steward shows it, are those of another state. -/
structure State.Sealing (s t : State) : Prop where
  mode : t.mode = s.mode
  shown : t.getR R.STEWARD_MEDIA_STATE = s.getR R.STEWARD_MEDIA_STATE

section
variable {s₀ s : State}

theorem State.Sealing.upd {t : State} (hs : s₀.Sealing s) (hm : t.mode = s.mode := by rfl) (hr : t.regs = s.regs := by rfl) :
    s₀.Sealing t := ⟨hm.trans hs.mode, (State.getR_congr hr _).trans hs.shown⟩

theorem State.Sealing.setR {a v} (hs : s₀.Sealing s) (h : a ≠ R.STEWARD_MEDIA_STATE) : s₀.Sealing (s.setR a v) :=
  ⟨hs.mode, (State.getR_setR_ne _ _ h.symm).trans hs.shown⟩

theorem State.Sealing.setF {f n} (hs : s₀.Sealing s) (h : f.addr ≠ R.STEWARD_MEDIA_STATE := by decide) : s₀.Sealing (s.setF f n) :=
  hs.setR h

theorem State.Sealing.ite {c : Prop} {_ : Decidable c} {t u : State} (ht : s₀.Sealing t) (hu : s₀.Sealing u) :
    s₀.Sealing (if c then t else u) := by split <;> assumption

theorem State.Sealing.foldl {α : Type} {f : State → α → State} {l : List α} (hs : s₀.Sealing s)
    (hf : ∀ u x, s₀.Sealing u → s₀.Sealing (f u x)) : s₀.Sealing (l.foldl f s) :=
  List.foldlRecOn l f hs fun u hu x _ => hf u x hu

theorem State.Sealing.tick (hs : s₀.Sealing s) : s₀.Sealing s.tick :=
  ⟨(congrArg State.mode s.tick_rest :).trans hs.mode, (s.getR_tick_quiet (by decide)).trans hs.shown⟩

theorem State.Sealing.regEvent {blk code det body} (hs : s₀.Sealing s) : s₀.Sealing (s.regEvent blk code det body) :=
  .tick hs.upd

theorem State.Sealing.hallmarkExtend {d} (hs : s₀.Sealing s) : s₀.Sealing (s.hallmarkExtend 6 d) := by
  refine .tick (.setR (.setR ?_ (by decide)) (by decide))
  refine List.foldlRecOn _ _ hs fun u hu k hk => hu.setR ?_
  have h := List.mem_range.1 hk
  show 0x340100 + 0x40 * 6 + 8 * k ≠ 0x501000
  omega

theorem State.Sealing.selectorWrite {what active committed secMin} (hs : s₀.Sealing s) :
    s₀.Sealing (s.selectorWrite what active committed secMin) :=
  .regEvent (.hallmarkExtend (.setF (.setF hs.upd)))

theorem State.Sealing.fwCommit (hs : s₀.Sealing s) : s₀.Sealing s.fwCommit := by
  unfold State.fwCommit
  extract_lets b h secMin s1
  have h1 : s₀.Sealing s1 := .setF hs.selectorWrite (by
    show 0x60050 + 8 * (s.getN R.IDENT_FW % 2) ≠ 0x501000
    omega)
  refine .ite ?_ h1
  split
  · exact .setF h1.upd
  · exact h1

theorem State.Sealing.paired (hs : s₀.Sealing s) : s₀.Sealing s.paired := by
  have h1 : s₀.Sealing s.autoCommit := .ite hs.fwCommit hs
  exact .ite h1 h1.upd

theorem State.Sealing.fenceDrive {v} (hs : s₀.Sealing s) : s₀.Sealing (s.fenceDrive v) := .ite hs (.setF hs.upd)

theorem State.Sealing.gapEnd (hs : s₀.Sealing s) : s₀.Sealing s.gapEnd := .ite hs.upd hs.upd

theorem State.Sealing.saddrServe (hs : s₀.Sealing s) : s₀.Sealing s.saddrServe := by
  refine hs.foldl fun u i hu => .setF (.setF hu ?_) ?_
  all_goals
    show 0x180420 + i * 4294967296 ≠ 0x501000
    omega


end

/-- A head that enters PAIRED is PAIRED, unless its Steward holds the pool sealed. -/
theorem State.pairUp_mode {s : State} (h : s.getF F.STEWARD_MEDIA_STATE_SEALING = 0) (cause : Nat) : (s.pairUp cause).mode = .paired := by
  have hm : (s.setMode .paired cause).mode = .paired := (congrArg State.mode (s.modeFrom_core _ _ _) :)
  have hr : (s.setMode .paired cause).getR R.STEWARD_MEDIA_STATE = s.getR R.STEWARD_MEDIA_STATE := by
    refine (State.getR_regEvent_quiet _ (by decide) _ _ _ _).trans ?_
    rw [State.getR_setF_ne _ _ _ (by decide), State.getR_setF_ne _ _ _ (by decide), State.getR_setF_ne _ _ _ (by decide),
      State.getR_setF_ne _ _ _ (by decide), State.getR_setN_ne _ _ (by decide)]
    rfl
  let t : State := (((((({ (s.setMode .paired cause).fenceDrive false with
    cf := { ((s.setMode .paired cause).fenceDrive false).cf with standby := false }
    pair := { ((s.setMode .paired cause).fenceDrive false).pair with transfer := 0 } } : State).gapEnd).setF F.COUNCIL_FAILBACK_STATE 0).setF
      F.COUNCIL_FAILBACK_LEFT 0).saddrServe).paired)
  have ht : (s.setMode .paired cause).Sealing t := .paired (.saddrServe (.setF (.setF (.gapEnd
    (State.Sealing.upd (State.Sealing.fenceDrive ⟨rfl, rfl⟩))))))
  have hseal : t.getF F.STEWARD_MEDIA_STATE_SEALING = 0 :=
    (congrArg F.STEWARD_MEDIA_STATE_SEALING.get (ht.shown.trans hr)).trans h
  have he : s.pairUp cause = t := if_neg fun hg => by
    rw [hseal] at hg
    exact absurd hg.1 (by decide)
  rw [he]
  exact ht.mode.trans hm

/-! ### Requests -/

section
variable (s : State)

theorem State.modeReq_busy {s : State} (h : s.getF F.IDENT_MODE_REQ_BUSY = 1) (f : State → State) :
    s.modeReq f = s.stat F.IDENT_MODE_REQ_STATUS 0x8020 := if_pos h

theorem State.modeReq_free {s : State} (h : s.getF F.IDENT_MODE_REQ_BUSY ≠ 1) (f : State → State) : s.modeReq f = f s := if_neg h

/-- A status just set shows, and answers the access. -/
theorem State.stat_completed {f : Fld} (hf : f.lo + f.w ≤ 64) {st : Status} (hst : st < 2 ^ f.w) : completed (s.stat f st) f st :=
  ⟨(State.getF_setF_self _ f st hf).trans (Nat.mod_eq_of_lt hst), rfl⟩

/-- A request for a mode that is under way. -/
theorem State.modeAsk_underWay {s t : State} {m : Nat} (h : (s.modeAsk m).Steady t) :
    completed t F.IDENT_MODE_REQ_STATUS 0 ∧ t.getF F.IDENT_MODE_REQ_BUSY = 1 ∧ t.pair.asked = m ∧ t.mode = s.mode ∧ t.mem = s.mem := by
  have hR {f : Fld} (hf : f.addr = R.IDENT_MODE_REQ) : t.getF f = (s.modeAsk m).getF f :=
    congrArg f.get (h.low _ (hf ▸ by decide))
  refine ⟨⟨(hR rfl).trans (State.stat_completed _ (by decide) (by decide)).1, (congrArg State.reply h.core :)⟩, ?_,
    (congrArg (fun c : State => c.pair.asked) h.core :), (congrArg State.mode h.core :), (congrArg State.mem h.core :)⟩
  refine (hR rfl).trans ((State.getF_setF_ne _ F.IDENT_MODE_REQ_BUSY F.IDENT_MODE_REQ_STATUS _ (by decide)).trans ?_)
  exact State.getF_setF_self _ F.IDENT_MODE_REQ_BUSY 1 (by decide)

theorem State.setMode_mode (m : Mode) (cause : Nat) : (s.setMode m cause).mode = m :=
  (congrArg State.mode (s.modeFrom_core _ _ _) :)

theorem State.joinGo_mode : s.joinGo.mode = s.mode := by
  unfold State.joinGo
  split
  · exact (State.Steady.refl { s with pair := { s.pair with joinMine := true } }).sendStub.mode
  · rfl

theorem State.joinBegin_mode (cause : Nat) : (s.joinBegin cause).mode = .joining :=
  (State.joinGo_mode _).trans (s.setMode_mode _ _)

end

section
variable {s₀ s : State}

theorem State.Steady.saddrServe (hs : s₀.Steady s) : s₀.Steady s.saddrServe := hs.foldl fun _ _ hs => .setAt hs.setAt

theorem State.Steady.councilArrange (hs : s₀.Steady s) : s₀.Steady s.councilArrange :=
  .setF (.setF (.setF (hs.foldl fun _ _ hs => hs.setAt)))

theorem State.Steady.pushRefresh (hs : s₀.Steady s) : s₀.Steady s.pushRefresh :=
  .ite hs (.ite hs.setF (.setF hs.upd))

end

/-- What a warm restart leaves (R35, R456). -/
theorem State.warmRestart_warm (s : State) (env : BootEnv) {cause : Nat} (h : cause < 256) :
    warmStart s (s.warmRestart env cause) env cause := by
  let u := (s.hold.formed.filter (fun c => s.owns c)).foldl (fun s c => (s.ckptStart c).dbClose c 1) s
  have hu : s.Steady u := (State.Steady.refl s).foldl fun _ _ hs => hs.ckptStart.dbClose
  let v := u.setMode .bootstrap cause
  have hv : v.core = { u.core with mode := .bootstrap } := u.modeFrom_core _ _ _
  have hmem : v.mem = s.mem := (congrArg State.mem hv :).trans hu.mem
  have hpow : v.power = s.power := (congrArg State.power hv :).trans hu.power
  let w := v.warmed.reqDone 0
  have hreq : w = v.warmed ∨ w = (({ v.warmed with pair := { v.warmed.pair with asked := 0 } } : State).setF F.IDENT_MODE_REQ_BUSY
      0).setF F.IDENT_MODE_REQ_STATUS 0 := by
    by_cases hq : v.warmed.getF F.IDENT_MODE_REQ_BUSY = 1
    · exact .inr (if_pos hq)
    · exact .inl (if_neg hq)
  have hw : w.core.mode = .bootstrap ∧ w.core.hands.ctxs = [] ∧ w.core.docket.tags = [] ∧ w.core.docket.queues = [] ∧
      w.core.toll.takes = [] ∧ w.core.mem = s.mem ∧ w.core.power = s.power ∧ w.getR R.IDENT_MODE = v.getR R.IDENT_MODE := by
    obtain hw | hw := hreq <;> rw [hw]
    · exact ⟨u.setMode_mode .bootstrap cause, rfl, rfl, rfl, rfl, hmem, hpow, rfl⟩
    · refine ⟨u.setMode_mode .bootstrap cause, rfl, rfl, rfl, rfl, hmem, hpow, ?_⟩
      exact (State.getR_setF_ne _ _ _ (by decide)).trans (State.getR_setF_ne _ _ _ (by decide))
  have hb : w.Begun (s.warmRestart env cause) env true := w.bootStart_begun env true
  obtain ⟨hm, hctx, htags, hqueues, htakes, hwmem, hwpow, hreg⟩ := hw
  have hc {α : Type} (g : State → α) (hg : ∀ x y, g { x with strong := y } = g x) :
      g (s.warmRestart env cause).core = g w.core := (hg _ _).symm.trans (congrArg g hb.core)
  have hmode {f : Fld} (hf : f.addr = R.IDENT_MODE) : (s.warmRestart env cause).getF f = v.getF f := by
    unfold State.getF
    rw [hf]
    exact congrArg f.get ((hb.low _ (by decide) (by decide)).trans hreg)
  exact ⟨(hc State.mode fun _ _ => rfl).trans hm, (hmode rfl).trans (u.getF_modeFrom_mode _ _ _),
    (hmode rfl).trans (u.getF_modeFrom_cause _ _ _ h), hb.env, hb.warm, hb.step, hb.entry,
    (hc (fun c => c.hands.ctxs) fun _ _ => rfl).trans hctx, (hc (fun c => c.docket.tags) fun _ _ => rfl).trans htags,
    (hc (fun c => c.docket.queues) fun _ _ => rfl).trans hqueues, (hc (fun c => c.toll.takes) fun _ _ => rfl).trans htakes,
    (hc State.mem fun _ _ => rfl).trans hwmem, (hc State.power fun _ _ => rfl).trans hwpow⟩

/-! ### Features -/

/-- One word accepted, and with persist standing. -/
def State.featWord (u : State) (persist : Bool) (n w : Nat) : State :=
  if persist then (u.setN (R.IDENT_FEAT_MGMT + 8 * n) w).setN (R.IDENT_FEAT_STAND + 8 * n) w else u.setN (R.IDENT_FEAT_MGMT + 8 * n) w

section
variable (u : State) (persist : Bool) {n w : Nat}

theorem State.getN_featWord_ne {j : Nat} (hm : j ≠ R.IDENT_FEAT_MGMT + 8 * n) (hs : persist = true → j ≠ R.IDENT_FEAT_STAND + 8 * n) :
    (u.featWord persist n w).getN j = u.getN j := by
  unfold State.featWord
  split
  · next h => rw [State.getN_setN_ne _ _ (hs h), State.getN_setN_ne _ _ hm]
  · exact State.getN_setN_ne _ _ hm

theorem State.getN_featWord_mgmt (hw : w < 2 ^ 64) : (u.featWord persist n w).getN (R.IDENT_FEAT_MGMT + 8 * n) = w := by
  have hne : R.IDENT_FEAT_MGMT + 8 * n ≠ R.IDENT_FEAT_STAND + 8 * n := by
    show 0x140 + 8 * n ≠ 0x160 + 8 * n
    omega
  unfold State.featWord
  split
  · rw [State.getN_setN_ne _ _ hne, State.getN_setN_self, Nat.mod_eq_of_lt hw]
  · rw [State.getN_setN_self, Nat.mod_eq_of_lt hw]

theorem State.getN_featWord_stand (hw : w < 2 ^ 64) : (u.featWord true n w).getN (R.IDENT_FEAT_STAND + 8 * n) = w :=
  (State.getN_setN_self _ _ _).trans (Nat.mod_eq_of_lt hw)

end

/-- The offer of the first n words accepted as far as it is supported. -/
def State.featTake (s : State) (offer : Nat → Nat) (persist : Bool) (n : Nat) : State :=
  (upto n).foldl (fun s k => s.featWord persist k (offer k &&& s.getN (R.IDENT_FEAT_SUPP + 8 * k))) s

theorem State.featTake_succ (s : State) (offer : Nat → Nat) (persist : Bool) (n : Nat) : s.featTake offer persist (n + 1) =
    (s.featTake offer persist n).featWord persist n (offer n &&& (s.featTake offer persist n).getN (R.IDENT_FEAT_SUPP + 8 * n)) := by
  simp [State.featTake, upto, List.range_succ]

/-- The supported words are left by what accepts an offer. -/
theorem State.getN_featTake_supp (s : State) (offer : Nat → Nat) (persist : Bool) {n k : Nat} (hk : k < 4) :
    (s.featTake offer persist n).getN (R.IDENT_FEAT_SUPP + 8 * k) = s.getN (R.IDENT_FEAT_SUPP + 8 * k) := by
  induction n with
  | zero => rfl
  | succ n ih =>
    rw [State.featTake_succ]
    refine (State.getN_featWord_ne _ _ ?_ fun _ => ?_).trans ih
    · show 0x100 + 8 * k ≠ 0x140 + 8 * n
      omega
    · show 0x100 + 8 * k ≠ 0x160 + 8 * n
      omega

/-- The words accepted of an offer, and those standing. -/
theorem State.getN_featTake (s : State) {offer : Nat → Nat} (ho : ∀ k, offer k < 2 ^ 64) (persist : Bool) {n : Nat} (hn : n ≤ 4) :
    ∀ k, k < 4 →
      (s.featTake offer persist n).getN (R.IDENT_FEAT_MGMT + 8 * k) =
        (if k < n then offer k &&& s.getN (R.IDENT_FEAT_SUPP + 8 * k) else s.getN (R.IDENT_FEAT_MGMT + 8 * k)) ∧
      (s.featTake offer persist n).getN (R.IDENT_FEAT_STAND + 8 * k) =
        if persist = true ∧ k < n then offer k &&& s.getN (R.IDENT_FEAT_SUPP + 8 * k) else s.getN (R.IDENT_FEAT_STAND + 8 * k) := by
  induction n with
  | zero => exact fun k _ => ⟨rfl, by simp [State.featTake, upto]⟩
  | succ n ih =>
    intro k hk
    obtain ⟨hm, hs⟩ := ih (by omega) k hk
    have hw : offer n &&& s.getN (R.IDENT_FEAT_SUPP + 8 * n) < 2 ^ 64 := Nat.lt_of_le_of_lt Nat.and_le_left (ho n)
    have hstep : s.featTake offer persist (n + 1) =
        (s.featTake offer persist n).featWord persist n (offer n &&& s.getN (R.IDENT_FEAT_SUPP + 8 * n)) := by
      rw [State.featTake_succ, State.getN_featTake_supp _ _ _ (by omega)]
    rw [hstep]
    by_cases hkn : k = n
    · subst hkn
      refine ⟨?_, ?_⟩
      · rw [State.getN_featWord_mgmt _ _ hw, if_pos (Nat.lt_succ_self k)]
      · cases persist with
        | true => rw [State.getN_featWord_stand _ hw, if_pos ⟨rfl, Nat.lt_succ_self k⟩]
        | false =>
          refine (State.getN_featWord_ne _ _ ?_ fun h => absurd h (by decide)).trans (hs.trans ?_)
          · show 0x160 + 8 * k ≠ 0x140 + 8 * k
            omega
          · simp
    · have hlt : k < n + 1 ↔ k < n := by omega
      refine ⟨(State.getN_featWord_ne _ _ ?_ fun _ => ?_).trans ?_, (State.getN_featWord_ne _ _ ?_ fun _ => ?_).trans ?_⟩
      · show 0x140 + 8 * k ≠ 0x140 + 8 * n
        omega
      · show 0x140 + 8 * k ≠ 0x160 + 8 * n
        omega
      · rw [hm, if_congr hlt rfl rfl]
      · show 0x160 + 8 * k ≠ 0x140 + 8 * n
        omega
      · show 0x160 + 8 * k ≠ 0x160 + 8 * n
        omega
      · rw [hs, if_congr (and_congr_right fun _ => hlt) rfl rfl]

/-- An offer that R45 admits is accepted. -/
theorem State.featSet_ok (s : State) {offer : Nat → Nat} (persist : Bool)
    (h0 : (offer 0).testBit 0 = true)
    (h1 : ([128, 129, 130].filter fun n => (offer (n / 64)).testBit (n % 64)).length = 1)
    (h2 : ([131, 132].filter fun n => (offer (n / 64)).testBit (n % 64)).length = 1) :
    s.featSet offer persist = (0, { s with strong := { s.strong with negotiated := true } }.featTake offer persist 4) := by
  have h0' : ¬ (offer (0 / 64)).testBit (0 % 64) = false := by simpa using h0
  exact (if_neg h0').trans ((if_neg (not_not.2 h1)).trans (if_neg (not_not.2 h2)))

/-- A replay that is asked for with all R35 requires. -/
theorem State.replay_go {s : State} {c : Nat} (hfree : s.getF F.IDENT_MODE_REQ_BUSY ≠ 1) (hm : s.mode = .service)
    (hf : s.feat 4 = true) (hc : s.getF F.COUNCIL_STATE_CONFIG ≠ 2) (hg : s.grantOk 0x4C504552 576 = true)
    (hz : s.getF F.REEVE_REEL_CTL_FREEZE = 0) (hck : s.replayCheckpoint (fieldAt s.obs.grant 48 8) = some c) :
    execModeReqReplay s = .next
      (((((({ s.grantUsed with obs := { s.grantUsed.obs with replayFirst := c, replayLast := fieldAt s.obs.grant 56 8 } }.setMode
        .replay 0x0A).councilArrange).setN R.REEVE_REPLAY 1).setN R.REEVE_REPLAY_AT c).setN R.REEVE_REPLAY_DIFF 0).stat
          F.IDENT_MODE_REQ_STATUS 0) := by
  have hck' : s.grantUsed.replayCheckpoint (fieldAt s.obs.grant 48 8) = some c := hck
  unfold execModeReqReplay
  rw [State.modeReq_free hfree]
  dsimp only
  rw [if_neg (not_not.2 hm), if_neg (by simp [hf, hc]), if_neg (by simp [hg]), if_neg (by simp [hz]), hck']

/-- Settles O17: each request by its own equation; what the partner's answer or a restart leaves by the frames above. -/
theorem modeRequestsAndFeatures : Obligations.ModeRequestsAndFeatures := by
  intro s
  refine ⟨fun hfree => ⟨?service, ?paired, ?pairedSealed, ?solo, ?joining, ?bootstrap, ?replay, ?invalid⟩, ?busy, ?features,
    fun level => rfl⟩
  case service =>
    intro hm hd hp hh hmv
    have h0 : s.serviceStatus = 0 := by simp [State.serviceStatus, hm, hd, hp, hh, hmv]
    have he : s.modeReq (fun s => if s.serviceStatus ≠ 0 then s.stat F.IDENT_MODE_REQ_STATUS s.serviceStatus else s.serviceAsk) =
        s.serviceAsk := (State.modeReq_free hfree _).trans (if_neg (not_not.2 h0))
    exact ⟨_, congrArg Host.Outcome.next he, State.modeAsk_underWay (State.Steady.refl _).sendStub⟩
  case paired =>
    intro hm hh hp
    refine ⟨_, congrArg Host.Outcome.next ((State.modeReq_free hfree _).trans ((if_pos hm).trans (if_pos ⟨hh, hp⟩))),
      State.modeAsk_underWay ?_⟩
    exact .sendStub (.setF (.refl _))
  case pairedSealed =>
    intro hm hu hb
    have hseal : s.getF F.STEWARD_MEDIA_STATE_SEALING = 0 := by
      simp only [State.unsealed, Bool.and_eq_true, decide_eq_true_eq] at hu
      exact hu.1
    refine ⟨_, congrArg Host.Outcome.next ((State.modeReq_free hfree _).trans ((if_neg (by simp [hm])).trans ((if_pos hm).trans
      ((if_neg (by simp [hu])).trans (if_pos hb))))), State.stat_completed _ (by decide) (by decide), State.pairUp_mode hseal _⟩
  case solo =>
    intro hm hh hu
    refine ⟨_, congrArg Host.Outcome.next ((State.modeReq_free hfree _).trans ((if_neg (not_not.2 hm)).trans (if_neg (by
      simp [hh, hu])))), State.stat_completed _ (by decide) (by decide), ?_⟩
    rw [State.stat_mode, (State.Steady.refl (s.setMode .solo 0x0F)).saddrServe.mode, State.setMode_mode]
  case joining =>
    intro hm
    exact ⟨_, congrArg Host.Outcome.next ((State.modeReq_free hfree _).trans (if_pos hm)),
      State.stat_completed _ (by decide) (by decide), s.joinBegin_mode _⟩
  case bootstrap =>
    intro hm env
    refine ⟨_, congrArg Host.Outcome.next ((State.modeReq_free hfree _).trans (if_pos hm)), ?_⟩
    exact State.warmRestart_warm (s.stat F.IDENT_MODE_REQ_STATUS 0) env (by decide)
  case replay =>
    intro hm hf hc hg hz c hck
    let u := { s.grantUsed with obs := { s.grantUsed.obs with replayFirst := c, replayLast := fieldAt s.obs.grant 56 8 } }.setMode
      .replay 0x0A
    have hu := (State.Steady.refl u).councilArrange.core.trans (State.modeFrom_core _ _ _ _)
    exact ⟨_, State.replay_go hfree hm hf hc hg hz hck, State.stat_completed _ (by decide) (by decide), (congrArg State.mode hu :),
      (congrArg (fun x : State => x.obs.replayFirst) hu :), (congrArg (fun x : State => x.obs.replayLast) hu :)⟩
  case invalid =>
    exact ⟨_, congrArg Host.Outcome.next (State.modeReq_free hfree _), State.stat_completed _ (by decide) (by decide), rfl⟩
  case busy =>
    intro hbusy i hi
    have hdone {f : State → State} {o : Res} (ho : o = .next (s.modeReq f)) : ∃ t, o = .next t ∧
        completed t F.IDENT_MODE_REQ_STATUS 0x8020 ∧ t.rest = { s with reply := 0x8020 }.rest :=
      ⟨_, ho.trans (congrArg Host.Outcome.next (State.modeReq_busy hbusy f)), State.stat_completed _ (by decide) (by decide), rfl⟩
    simp only [List.mem_cons, List.not_mem_nil, or_false] at hi
    obtain rfl | rfl | rfl | rfl | rfl | rfl := hi <;> exact hdone rfl
  case features =>
    intro offer bit persist h0 h1 h2
    have hset : s.featSet offer persist = (0, { s with strong := { s.strong with negotiated := true } }.featTake offer persist 4) :=
      State.featSet_ok s persist h0 h1 h2
    let u : State := { s with strong := { s.strong with negotiated := true } }.featTake offer persist 4
    let v := u.stat F.IDENT_FEAT_CTL_STATUS 0
    have ht : v.Steady v.pushRefresh := (State.Steady.refl v).pushRefresh
    have hv : completed v F.IDENT_FEAT_CTL_STATUS 0 := State.stat_completed _ (by decide) (by decide)
    refine ⟨v.pushRefresh, ?_, ⟨ht.getF.trans hv.1, ht.reply.trans hv.2⟩, fun k hk => ?_⟩
    · show Host.Outcome.next ((s.featSet offer persist).2.stat F.IDENT_FEAT_CTL_STATUS (s.featSet offer persist).1).pushRefresh = _
      rw [hset]
    · have ho : ∀ k, offer k < 2 ^ 64 := fun k => BitVec.isLt _
      obtain ⟨hmgmt, hstand⟩ := State.getN_featTake { s with strong := { s.strong with negotiated := true } } ho persist
        (le_refl 4) k hk
      have hlow {j : Nat} (hj : j < 0x1000) (hne : j ≠ R.IDENT_FEAT_CTL) : v.pushRefresh.getN j = u.getN j :=
        congrArg BitVec.toNat ((ht.low j hj).trans (State.getR_setF_ne _ _ _ hne))
      refine ⟨(hlow ?_ ?_).trans (hmgmt.trans (if_pos hk)), (hlow ?_ ?_).trans (hstand.trans (if_congr ?_ rfl rfl))⟩
      · show 0x140 + 8 * k < 0x1000
        omega
      · show 0x140 + 8 * k ≠ 0x60
        omega
      · show 0x160 + 8 * k < 0x1000
        omega
      · show 0x160 + 8 * k ≠ 0x60
        omega
      · simp [hk]

end Sys2Proof.Machine
end

section
/-! PROOFS. Carrier sessions (R357 to R362). -/

open Sys2Proof Sys2Proof.Claims

namespace Sys2Proof.Machine

/-! ### What receiving and acknowledging leave alone -/

/-- A state but for its registers, records, output and the Carrier. -/
def State.inner (s : State) : State := { s with regs := [], obs := default, outbox := [], car := default }

/-- The IDENT block's registers, and all but the other registers, the records, the output and the Carrier, are those of another
state. -/
structure State.Near (s t : State) : Prop where
  low : ∀ k, k < 0x1000 → t.getR k = s.getR k
  inner : t.inner = s.inner

/-- A peer entry but for its window and what it has to acknowledge. -/
def Peer.plain (p : Peer) : Peer := { p with taken := [], unacked := [], got := 0, ce := 0 }

theorem State.Near.refl (s : State) : s.Near s := ⟨fun _ _ => rfl, rfl⟩

theorem State.Near.trans {s t u : State} (h : s.Near t) (g : t.Near u) : s.Near u :=
  ⟨fun k hk => (g.low k hk).trans (h.low k hk), g.inner.trans h.inner⟩

section
variable {s₀ s : State}

theorem State.Near.part {obs outbox car} (hs : s₀.Near s) : s₀.Near { s with obs := obs, outbox := outbox, car := car } :=
  ⟨hs.low, hs.inner⟩

theorem State.Near.setN {a n} (hs : s₀.Near s) (h : 0x1000 ≤ a := by decide) : s₀.Near (s.setN a n) :=
  ⟨fun k hk => (State.getR_setN_ne _ _ (by omega)).trans (hs.low k hk), hs.inner⟩

theorem State.Near.ite {c : Prop} {_ : Decidable c} {t u : State} (ht : s₀.Near t) (hu : s₀.Near u) :
    s₀.Near (if c then t else u) := by split <;> assumption

theorem State.Near.tick (hs : s₀.Near s) : s₀.Near s.tick :=
  ⟨fun k hk => (s.getR_tick_quiet (by
      have h1 : k ≠ 0x20000 := by omega
      have h2 : ¬ 0x40000 ≤ k := by omega
      simp [noisy, h1, h2])).trans (hs.low k hk),
    (congrArg (fun x : State => { x with outbox := [], car := default }) s.tick_rest :).trans hs.inner⟩

theorem State.Near.putPeer {i p} (hs : s₀.Near s) : s₀.Near (s.putPeer i p) := hs.part

theorem State.Near.carCount {h len} (hs : s₀.Near s) : s₀.Near (s.carCount h len) :=
  .ite hs (.ite (.setN (hs.setN (Nat.le_add_right_of_le (by decide))) (Nat.le_add_right_of_le (by decide)))
    (hs.setN (Nat.le_add_right_of_le (by decide))))

theorem State.Near.carMark {i seq} (hs : s₀.Near s) : s₀.Near (s.carMark i seq) := .ite hs.putPeer hs

theorem State.Near.carAck {i items} (hs : s₀.Near s) : s₀.Near (s.carAck i items) :=
  .ite (State.Near.setN (.part hs.putPeer) (Nat.le_add_right_of_le (by decide))) (.part hs.putPeer)

theorem State.Near.carGot {i} (hs : s₀.Near s) : s₀.Near (s.carGot i) := .ite hs.putPeer.carAck hs.putPeer

theorem State.Near.carErr {num type st} (hs : s₀.Near s) : s₀.Near (s.carErr num type st) := .tick (.setN hs.setN)

/-- A message that is not sealed does not pass through the Mill. -/
theorem State.carMill_plain {dec node type flags epoch seq iv body} (h : flags.testBit 0 = false) :
    s.carMill dec node type flags epoch seq iv body = s := if_pos (.inl h)

theorem State.Near.carWire {i m} (hs : s₀.Near s) (hm : m.flags.testBit 0 = false) : s₀.Near (s.carWire i m) := by
  unfold State.carWire
  extract_lets p s1 s2 s3
  have h2 : s₀.Near s2 := .ite (hs.putPeer.setN (Nat.le_add_right_of_le (by decide))) hs.putPeer
  have h3 : s3 = s2 := (if_congr Iff.rfl (State.carMill_plain hm) rfl).trans (ite_self _)
  rw [h3]
  exact h2.part

end

section
variable (s : State) (i : Nat)

@[simp] theorem State.peerAt_putPeer_self (p : Peer) : (s.putPeer i p).peerAt i = p := AMap.get_set_self _ _ _

@[simp] theorem State.peerAt_tick : s.tick.peerAt i = s.peerAt i := congrArg (fun c : Car => c.peers.get i) s.tick_car

@[simp] theorem State.peerAt_addN (k n : Nat) : (s.addN k n).peerAt i = s.peerAt i := rfl

/-- An ACK that goes out leaves nothing to acknowledge. -/
theorem State.peerAt_carAck (items : List AckItem) : (s.carAck i items).peerAt i = { s.peerAt i with got := 0, ce := 0 } := by
  have h (t : State) (c : Prop) [Decidable c] (k n : Nat) : (if c then t.addN k n else t).peerAt i = t.peerAt i := by split <;> rfl
  exact (h _ _ _ _).trans (s.peerAt_putPeer_self i _)

theorem State.peerAt_carGot : ((s.carGot i).peerAt i).plain = (s.peerAt i).plain ∧ ((s.carGot i).peerAt i).taken = (s.peerAt i).taken := by
  unfold State.carGot
  dsimp only
  split
  · rw [State.peerAt_carAck, State.peerAt_putPeer_self]
    exact ⟨rfl, rfl⟩
  · rw [State.peerAt_putPeer_self]
    exact ⟨rfl, rfl⟩

theorem mem_insertRising (n : Nat) (l : List Nat) : n ∈ insertRising n l := by
  induction l with
  | nil => simp [insertRising]
  | cons a l ih =>
    unfold insertRising
    split
    · exact List.mem_cons_self
    · split
      · next h => rw [h]; exact List.mem_cons_self
      · exact List.mem_cons_of_mem _ ih

theorem State.peerAt_carMark (seq : Nat) : ((s.carMark i seq).peerAt i).plain = (s.peerAt i).plain := by
  unfold State.carMark
  dsimp only
  split
  · rw [State.peerAt_putPeer_self]
    rfl
  · rfl

theorem State.carMark_taken {seq : Nat} (hu : (s.peerAt i).used = true) (hf : (s.peerAt i).floor ≤ seq) :
    seqTaken (s.carMark i seq) i seq := by
  unfold State.carMark seqTaken
  dsimp only
  rw [if_pos ⟨hu, hf⟩, State.peerAt_putPeer_self]
  exact List.contains_iff_mem.2 (mem_insertRising _ _)

/-- A message on the wire counts its datagrams at its entry. -/
theorem State.peerAt_carWire (m : CarMsg) (hm : m.flags.testBit 0 = false) :
    (s.carWire i m).peerAt i = { s.peerAt i with sentI := (s.peerAt i).sentI + segsOf m.body.length } := by
  unfold State.carWire
  extract_lets p s1 s2 s3
  have h2 : s2.peerAt i = s1.peerAt i := by
    unfold s2
    split <;> rfl
  have h3 : s3 = s2 := (if_congr Iff.rfl (State.carMill_plain hm) rfl).trans (ite_self _)
  rw [h3]
  exact h2.trans (s.peerAt_putPeer_self i _)

theorem carFlags_plain : (carFlags i).testBit 0 = false ∧ (carFlags i).testBit 1 = false := by
  unfold carFlags
  split <;> decide

end

/-- The message that goes to an entry, not sealed, and the state that keeps it until its acknowledgement. -/
def State.plainMsg (s : State) (i type flags : Nat) (body : List Byte) (w : CarWait) : CarMsg :=
  { seq := (s.peerAt i).txSeq, type := type, flags := flags, iv := 0, body := body, first := s.time, at_ := s.time, tries := 0,
    sent := decide ((s.peerAt i).txSeq < (s.peerAt i).oldest + 1024), wait := w, rto := s.rtoFirst i }

/-- That state. -/
def State.keepMsg (s : State) (i : Nat) (m : CarMsg) : State :=
  (s.putPeer i { s.peerAt i with txSeq := (s.peerAt i).txSeq + 1, out := (s.peerAt i).out ++ [m] }).addN R.CARRIER_TX_MSGS 1

section
variable {s : State} {i type flags : Nat} {body : List Byte} {w : CarWait}

theorem State.carSendAt_unsealed (hu : (s.peerAt i).used = true) (hs : (s.peerAt i).state ≠ 2) (h0 : flags.testBit 0 = false)
    (h1 : flags.testBit 1 = false) : s.carSendAt i type flags body w =
      let m := s.plainMsg i type flags body w
      if m.sent then (s.keepMsg i m).carWire i m else s.keepMsg i m := by
  have hiv : s.ivNext flags = (0, s) := if_pos ⟨h0, h1⟩
  unfold State.carSendAt
  extract_lets p
  rw [if_neg (by simp [p, hu, hs]), hiv]
  rfl

/-- What an unsealed message sent to a serving entry leaves there: it waits for its acknowledgement behind what waited before. -/
theorem State.carSendAt_plain (hu : (s.peerAt i).used = true) (hs : (s.peerAt i).state ≠ 2) (h0 : flags.testBit 0 = false)
    (h1 : flags.testBit 1 = false) : s.Near (s.carSendAt i type flags body w) ∧ ∃ (m : CarMsg) (sent : Nat), m.type = type ∧
      m.body = body ∧ (s.carSendAt i type flags body w).peerAt i = { s.peerAt i with
        txSeq := (s.peerAt i).txSeq + 1, out := (s.peerAt i).out ++ [m], sentI := sent } := by
  rw [State.carSendAt_unsealed hu hs h0 h1]
  generalize hm : s.plainMsg i type flags body w = m
  have hmt : m.type = type := by rw [← hm]; rfl
  have hmb : m.body = body := by rw [← hm]; rfl
  have hmf : m.flags.testBit 0 = false := by rw [← hm]; exact h0
  have hk : (s.keepMsg i m).peerAt i = { s.peerAt i with txSeq := (s.peerAt i).txSeq + 1, out := (s.peerAt i).out ++ [m] } :=
    s.peerAt_putPeer_self i _
  have hn : s.Near (s.keepMsg i m) := .setN (.putPeer (.refl s))
  dsimp only
  split
  · exact ⟨hn.carWire hmf, m, _, hmt, hmb, (State.peerAt_carWire _ i m hmf).trans (by rw [hk])⟩
  · exact ⟨hn, m, _, hmt, hmb, hk⟩

end

/-! ### A message that reaches its entry -/

/-- The state in which a message that reaches an entry is judged: counted, and its sender seen. -/
def State.seen (s : State) (h : CarHdr) (len i : Nat) : State :=
  let s1 := (s.carCount h len).reasmDrop h
  s1.putPeer i { s1.peerAt i with port := h.port, lastRx := s1.time }

theorem carAt_eq (s : State) (h : CarHdr) (len i : Nat) : carAt s h len i = (s.seen h len i).tick := rfl

section
variable (s : State) (h : CarHdr) (len i : Nat)

theorem State.seen_near : s.Near (s.seen h len i) := .putPeer (.part (State.Near.refl s).carCount)

theorem State.carCount_car : (s.carCount h len).car = s.car := by
  unfold State.carCount
  split
  · rfl
  · dsimp only
    split <;> rfl

theorem State.peerAt_seen : (s.seen h len i).peerAt i = { s.peerAt i with port := h.port, lastRx := (s.carCount h len).time } := by
  have hp : (s.carCount h len).peerAt i = s.peerAt i := congrArg (fun c : Car => c.peers.get i) (s.carCount_car h len)
  rw [← hp]
  exact State.peerAt_putPeer_self _ _ _

end

section
variable {s : State} {h : CarHdr} {m : CarIn} {i : Nat}

/-- A message that reaches its entry is judged there (R357, R363). -/
theorem State.carReceive_reaches (hr : reaches s h m.body.length i) :
    s.carReceive h m = (s.seen h m.body.length i).carArrive i h m := by
  obtain ⟨hup, haddr, hfault, hce, hflags, hroom, hfind, hp⟩ := hr
  have h0 : h.flags.testBit 0 = false := by
    rw [hflags]
    split <;> decide
  have h0' : (h.flags % 256 + 256 * h.key).testBit 0 = false := by
    rw [hflags, Nat.testBit_zero]
    split <;> simp <;> omega
  have hroom' : (s.carCount h m.body.length).reasmRoom h m.body.length = true := by
    unfold State.reasmRoom State.reasmBytes
    rw [State.carCount_car]
    exact hroom
  have hkey (x : State) : x.carKey h = true := by
    unfold State.carKey
    rw [h0]
    rfl
  have hfind' : ((s.carCount h m.body.length).reasmDrop h).carFind h = some i := by
    have hc := congrArg Car.peers (s.carCount_car h m.body.length)
    unfold State.carFind State.reasmDrop
    dsimp only
    rw [hc]
    exact hfind
  unfold State.carReceive
  rw [if_neg (by simp [hup, haddr])]
  extract_lets s1 s2
  rw [if_neg (by simp [s1, hroom']), if_neg (by simp [hfault, hkey]), State.carMill_plain h0']
  have he : s2.carEntry h m.type = (some i, s.seen h m.body.length i) := by
    unfold State.carEntry
    rw [hfind']
    rfl
  rw [he]
  dsimp only
  rw [if_neg (by simp [hce])]

end

/-- What follows a message taken: held ones that now may run, and an ACK where one is due (R357, R360). -/
def State.carSettle (s : State) (i : Nat) (h : CarHdr) (seq : Nat) : State :=
  let t := s.carHeld i (s.peerAt i).held.length
  if (t.peerAt i).used = true ∧ (h.flags.testBit 2 = true ∨ (t.peerAt i).lowerTaken seq = false) then t.carAck i [] else t

/-- A message refused: marked, counted, and answered with its status. -/
def State.carReject (s : State) (i : Nat) (m : CarIn) (st : Status) : State :=
  ((s.carMark i m.seq).addN R.CARRIER_RX_MSGS 1).carRefuse i m.type m.seq st 0

section
variable {s : State} {h : CarHdr} {m : CarIn} {i seq : Nat}

/-- With nothing held only an ACK may follow. -/
theorem State.carSettle_plain (hh : (s.peerAt i).held = []) : s.Near (s.carSettle i h seq) ∧
    ((s.carSettle i h seq).peerAt i).plain = (s.peerAt i).plain ∧ ((s.carSettle i h seq).peerAt i).taken = (s.peerAt i).taken := by
  unfold State.carSettle
  rw [hh]
  dsimp only [List.length_nil, State.carHeld]
  split
  · rw [State.peerAt_carAck]
    exact ⟨.carAck (.refl s), rfl, rfl⟩
  · exact ⟨.refl s, rfl, rfl⟩

theorem State.carSlide_in (hw : m.seq < (s.peerAt i).floor + 1024) : s.carSlide i m.seq = s := if_neg (by omega)

/-- A new message whose turn has come takes effect. -/
theorem State.carNew_turn (hw : m.seq < (s.peerAt i).floor + 1024) (hfault : h.fault = 0) (hf : carFlagsOk h m.type = true)
    (hb : carBodyOk m.type m.body = true) (hst : (s.peerAt i).state ≠ 0) (hl : (s.peerAt i).lowerTaken m.seq = true) :
    s.carNew i h m = (s.carApply i m).carSettle i h m.seq := by
  unfold State.carNew
  rw [State.carSlide_in hw]
  extract_lets s1 p refuse done
  rw [if_neg (by omega), if_neg (by simp [hfault, hf, hb])]
  by_cases hi : carIdem m.type
  · rw [if_pos hi]
    rfl
  · rw [if_neg hi, if_neg (show ¬ p.state = 0 from hst), if_pos (show p.lowerTaken m.seq = true from hl)]
    rfl

/-- A new message not in the form of its type is refused. -/
theorem State.carNew_malformed (hw : m.seq < (s.peerAt i).floor + 1024) (hfault : h.fault = 0) (hb : carBodyOk m.type m.body = false) :
    s.carNew i h m = (s.carReject i m 0x5111).carSettle i h m.seq := by
  unfold State.carNew
  rw [State.carSlide_in hw]
  extract_lets s1 p refuse done
  rw [if_neg (by omega), if_pos (.inr (.inr hb))]
  rfl

/-- A message of the entry's epoch that is no ACK, and of which nothing stands in the window, is a new one. -/
theorem State.carArrive_new (hst : (s.peerAt i).state = 1) (he : h.epoch = (s.peerAt i).rxEpoch) (hty : m.type ≠ 0x04)
    (hf : (s.peerAt i).floor ≤ m.seq) (ht : (s.peerAt i).taken.contains m.seq = false) (hh : (s.peerAt i).held = []) :
    s.carArrive i h m = s.carNew i h m := by
  have hep : s.carEpoch i h.epoch = s := if_neg (by omega)
  unfold State.carArrive
  rw [hep]
  dsimp only
  rw [if_neg (by omega), if_neg (by omega), if_neg hty, if_neg (by omega), if_neg (by rw [ht]; decide),
    if_neg (by simp [hh])]

/-- A message with effect is marked as taken. -/
theorem State.carApply_ok {det : Nat} {v : State} (hn : m.type ≠ 0x0C) (h5 : m.type ≠ 0x05)
    (he : s.tick.carEffect i s.now m = (0, det, v)) (hu : (v.peerAt i).used = true) :
    s.carApply i m = ((v.carMark i m.seq).addN R.CARRIER_RX_MSGS 1).carGot i := by
  unfold State.carApply
  rw [if_neg hn, he]
  dsimp only
  rw [if_neg (by rw [hu]; decide), if_neg (by decide), if_neg (by simp [State.carWithholds, h5])]

/-- FLAGS of a message that reaches its entry have their form where its type travels by its port. -/
theorem carFlagsOk_travels {type : Nat} (hf : h.flags = (if h.port = 8 then 16 else 0)) (ht : carTravels (decide (h.port = 8)) type = true) :
    carFlagsOk h type = true := by
  unfold carFlagsOk
  rw [ht, hf]
  split
  · simp [*, show Nat.testBit 16 4 = true by decide]
  · simp [*]

/-- What a message does that takes effect at its entry: its effect, then it is taken (R357, R360). -/
theorem State.carReceive_takes {type det : Nat} {b : List Byte} {v : State} (hm : m.seq = h.seq ∧ m.type = type ∧ m.body = b)
    (hr : heard s h type b i) (hty : type ≠ 0x04 ∧ type ≠ 0x05 ∧ type ≠ 0x0C)
    (he : ∀ n, (carAt s h b.length i).carEffect i n m = (0, det, v)) (hu : (v.peerAt i).used = true) (hh : (v.peerAt i).held = []) :
    v.Near (s.carReceive h m) ∧ ((s.carReceive h m).peerAt i).plain = (v.peerAt i).plain ∧
      ((v.peerAt i).floor ≤ h.seq → seqTaken (s.carReceive h m) i h.seq) := by
  obtain ⟨hseq, rfl, rfl⟩ := hm
  obtain ⟨hreach, htr, hbody⟩ := hr
  simp only [carAt_eq] at he
  rw [State.carReceive_reaches hreach]
  obtain ⟨-, -, hfault, -, hflags, -, -, hpu, hst, hep, hfl, hw, htk, hlow, hheld⟩ := hreach
  have hp := s.peerAt_seen h m.body.length i
  rw [State.carArrive_new (by rw [hp]; exact hst) (by rw [hp]; exact hep) hty.1 (by rw [hp, hseq]; exact hfl)
      (by rw [hp, hseq]; exact htk) (by rw [hp]; exact hheld),
    State.carNew_turn (by rw [hp, hseq]; exact hw) hfault (carFlagsOk_travels hflags htr) hbody
      (by rw [hp]; simp [hst]) (by rw [hp, hseq]; exact hlow),
    State.carApply_ok hty.2.2 hty.2.1 (he _) hu, hseq]
  have hmark := v.peerAt_carMark i h.seq
  obtain ⟨hg, hgt⟩ := ((v.carMark i h.seq).addN R.CARRIER_RX_MSGS 1).peerAt_carGot i
  rw [State.peerAt_addN] at hg hgt
  have hh' : ((((v.carMark i h.seq).addN R.CARRIER_RX_MSGS 1).carGot i).peerAt i).held = [] :=
    (congrArg Peer.held (hg.trans hmark)).trans hh
  obtain ⟨hn, hpl, htaken⟩ := State.carSettle_plain (h := h) (seq := h.seq) hh'
  refine ⟨.trans (.carGot (.setN (.carMark (.refl v)))) hn, hpl.trans (hg.trans hmark), fun hf => ?_⟩
  unfold seqTaken
  rw [htaken, hgt]
  exact v.carMark_taken i hu hf

end

/-! ### Carrier messages by type -/

theorem leNat_lt (l : List Byte) : leNat l < 256 ^ l.length := by
  induction l with
  | nil => exact Nat.one_pos
  | cons b l ih =>
    have hb := b.isLt
    simp only [leNat, List.length_cons, pow_succ]
    omega

theorem fieldAt_lt (l : List Byte) (ofs n : Nat) : fieldAt l ofs n < 256 ^ n :=
  (leNat_lt _).trans_le (Nat.pow_le_pow_right (by decide) (List.length_take_le _ _))

section
variable {s t : State} (h : s.Near t)
include h

theorem State.Near.mem : t.mem = s.mem := (congrArg State.mem h.inner :)

theorem State.Near.docket : t.docket = s.docket := (congrArg State.docket h.inner :)

theorem State.Near.toll : t.toll = s.toll := (congrArg State.toll h.inner :)

theorem State.Near.hands : t.hands = s.hands := (congrArg State.hands h.inner :)

end

section
variable (s : State) (h : CarHdr) (len i : Nat)

/-- Up to its effect a message touches only registers, records and its entry. -/
theorem carAt_near : s.Near (carAt s h len i) := (s.seen_near h len i).tick

theorem peerAt_carAt : (carAt s h len i).peerAt i = { s.peerAt i with port := h.port, lastRx := (s.carCount h len).time } := by
  rw [carAt_eq, State.peerAt_tick, State.peerAt_seen]

end

section
variable {s : State} {h : CarHdr} {b : List Byte} {i : Nat}

/-- The entry a message reaches serves, and nothing waits there for its turn. -/
theorem peerAt_carAt_serves (hr : reaches s h b.length i) : ((carAt s h b.length i).peerAt i).used = true ∧
    ((carAt s h b.length i).peerAt i).state = 1 ∧ ((carAt s h b.length i).peerAt i).held = [] ∧
    ((carAt s h b.length i).peerAt i).floor ≤ h.seq := by
  obtain ⟨-, -, -, -, -, -, -, hu, hst, -, hf, -, -, -, hh⟩ := hr
  rw [peerAt_carAt]
  exact ⟨hu, hst, hh, hf⟩

/-- A type without effect for a head is taken and changes no command, take or byte (R358). -/
theorem carReceive_idle {type : Nat} (hr : heard s h type b i) (hty : type ≠ 0x04 ∧ type ≠ 0x05 ∧ type ≠ 0x0C)
    (he : ∀ (u : State) n, u.carEffect i n (carMsg h type b) = (0, 0, u)) :
    seqTaken (s.carReceive h (carMsg h type b)) i h.seq ∧ (s.carReceive h (carMsg h type b)).docket = s.docket ∧
      (s.carReceive h (carMsg h type b)).toll = s.toll ∧ (s.carReceive h (carMsg h type b)).hands = s.hands ∧
      (s.carReceive h (carMsg h type b)).mem = s.mem := by
  obtain ⟨hu, -, hh, hf⟩ := peerAt_carAt_serves hr.1
  obtain ⟨hn, -, ht⟩ := State.carReceive_takes ⟨rfl, rfl, rfl⟩ hr hty (he _) hu hh
  have hnear := (carAt_near s h b.length i).trans hn
  exact ⟨ht hf, hnear.docket, hnear.toll, hnear.hands, hnear.mem⟩

/-- FLOOR sets the window's start (R362). -/
theorem carReceive_floor (hr : heard s h 0x03 b i) :
    let t := s.carReceive h (carMsg h 0x03 b)
    (t.peerAt i).state = 1 ∧ (t.peerAt i).floor = fieldAt b 0 4 ∧ (t.peerAt i).held = [] ∧ (t.peerAt i).out = (s.peerAt i).out ∧
      t.docket = s.docket ∧ t.mem = s.mem := by
  obtain ⟨hu, -, -, -⟩ := peerAt_carAt_serves hr.1
  have hv := (carAt s h b.length i).peerAt_putPeer_self i
    { (carAt s h b.length i).peerAt i with floor := fieldAt b 0 4, taken := [], unacked := [], held := [], state := 1, errAt := 0 }
  obtain ⟨hn, hp, -⟩ := State.carReceive_takes (m := carMsg h 0x03 b) ⟨rfl, rfl, rfl⟩ hr (by simp [carMsg])
    (v := (carAt s h b.length i).carFloor i (fieldAt b 0 4)) (fun _ => rfl) ((congrArg Peer.used hv).trans hu) (congrArg Peer.held hv)
  have hnear := ((carAt_near s h b.length i).putPeer (i := i) (p := _)).trans hn
  have hq := hp.trans (congrArg Peer.plain hv)
  rw [peerAt_carAt] at hq
  exact ⟨(congrArg Peer.state hq :), (congrArg Peer.floor hq :), (congrArg Peer.held hq :), (congrArg Peer.out hq :), hnear.docket,
    hnear.mem⟩

end

/-- An entry after the acknowledgement of a message. -/
def Peer.carAcked (p : Peer) (m : CarMsg) (now : Nat) : Peer :=
  { p with
    out := p.out.filter (fun x => x.seq ≠ m.seq)
    srtt := if m.tries = 0 then srttNext p.srtt (now - m.at_) else p.srtt
    ackedI := p.ackedI + segsOf m.body.length }

/-- Messages acknowledged that nothing waits for only leave the entry's list. -/
theorem State.carAcked_foldl {i : Nat} {b : List Byte} {l : List CarMsg} (hl : ∀ m ∈ l, m.wait = .nothing) (s : State) :
    let t := l.foldl (fun s m => s.carAcked i b m) s
    s.Near t ∧ (∀ x ∈ (t.peerAt i).out, x ∈ (s.peerAt i).out ∧ ∀ m ∈ l, x.seq ≠ m.seq) ∧
      (t.peerAt i).txSeq = (s.peerAt i).txSeq ∧ (t.peerAt i).taken = (s.peerAt i).taken ∧ (t.peerAt i).ceI = (s.peerAt i).ceI := by
  induction l generalizing s with
  | nil => exact ⟨.refl s, fun x hx => ⟨hx, by simp⟩, rfl, rfl, rfl⟩
  | cons m l ih =>
    have hm : s.carAcked i b m = s.putPeer i ((s.peerAt i).carAcked m s.time) := by
      unfold State.carAcked
      rw [hl m List.mem_cons_self]
      rfl
    have hp : (s.carAcked i b m).peerAt i = (s.peerAt i).carAcked m s.time := by rw [hm, State.peerAt_putPeer_self]
    obtain ⟨hn, ho, htx, htk, hce⟩ := ih (fun m hm => hl m (List.mem_cons_of_mem _ hm)) (s.carAcked i b m)
    rw [hp] at ho htx htk hce
    have hns : s.Near (s.carAcked i b m) := by
      rw [hm]
      exact .putPeer (.refl s)
    refine ⟨hns.trans hn, fun x hx => ?_, htx, htk, hce⟩
    obtain ⟨hx1, hx2⟩ := ho x hx
    simp only [Peer.carAcked, List.mem_filter, decide_eq_true_eq] at hx1
    refine ⟨hx1.1, fun m' hm' => ?_⟩
    rcases List.mem_cons.1 hm' with rfl | hm'
    · exact hx1.2
    · exact hx2 m' hm'

/-- An ACK of all that is outstanding, without items, leaves nothing to acknowledge (R360). -/
theorem State.carAckTake_all {s : State} {i : Nat} {b : List Byte} (he : fieldAt b 0 4 = (s.peerAt i).txEpoch) (h0 : fieldAt b 0x14 2 = 0)
    (hall : ∀ m ∈ (s.peerAt i).out, m.sent = true ∧ m.wait = .nothing ∧ ackCovers b m.seq = true) :
    s.Near (s.carAckTake i b) ∧ ((s.carAckTake i b).peerAt i).out = [] ∧ ((s.carAckTake i b).peerAt i).txSeq = (s.peerAt i).txSeq ∧
      ((s.carAckTake i b).peerAt i).taken = (s.peerAt i).taken ∧
      ((s.carAckTake i b).peerAt i).ceI = (s.peerAt i).ceI + fieldAt b 0x10 4 := by
  have hfil : (s.peerAt i).out.filter (fun m => m.sent && ackCovers b m.seq) = (s.peerAt i).out :=
    List.filter_eq_self.2 fun m hm => by simp [hall m hm]
  unfold State.carAckTake
  extract_lets p s1 s2 s3
  rw [if_neg (by simpa [p] using he)]
  have h1 : s1.peerAt i = { p with ceI := p.ceI + fieldAt b 0x10 4 } := s.peerAt_putPeer_self i _
  obtain ⟨hn, ho, htx, htk, hce⟩ := State.carAcked_foldl (i := i) (b := b) (l := p.out) (fun m hm => (hall m hm).2.1) s1
  have h2 : s2 = p.out.foldl (fun s m => s.carAcked i b m) s1 := by
    unfold s2 p
    rw [hfil]
  rw [← h2] at hn ho htx htk hce
  rw [h1] at ho htx htk hce
  have hout : (s2.peerAt i).out = [] := List.eq_nil_iff_forall_not_mem.2 fun x hx => (ho x hx).2 x (ho x hx).1 rfl
  have h3 : s3 = s2 := by
    unfold s3
    rw [h0]
    rfl
  have hp : s3.carPump i = s2 := by
    unfold State.carPump
    rw [h3, hout]
    rfl
  rw [hp]
  exact ⟨State.Near.trans (.putPeer (.refl s)) hn, hout, htx, htk, hce⟩

section
variable {s : State} {h : CarHdr} {b : List Byte} {i : Nat}

theorem State.carArrive_ack {s : State} {h : CarHdr} {m : CarIn} {i : Nat} (hst : (s.peerAt i).state = 1)
    (he : h.epoch = (s.peerAt i).rxEpoch) (hty : m.type = 0x04) (hfault : h.fault = 0) (hf : carFlagsOk h m.type = true)
    (hb : carBodyOk m.type m.body = true) : s.carArrive i h m = s.tick.carAckTake i m.body := by
  have hep : s.carEpoch i h.epoch = s := if_neg (by omega)
  unfold State.carArrive
  rw [hep]
  dsimp only
  rw [if_neg (by omega), if_neg (by omega), if_pos hty, if_neg (by simp [hfault, hf, hb])]

/-- An ACK that reaches its entry acts there at once. -/
theorem carReceive_ack (hr : heard s h 0x04 b i) : s.carReceive h (carMsg h 0x04 b) = (carAt s h b.length i).carAckTake i b := by
  obtain ⟨hreach, htr, hbody⟩ := hr
  rw [State.carReceive_reaches (m := carMsg h 0x04 b) hreach]
  obtain ⟨-, -, hfault, -, hflags, -, -, hu, hst, hep, -⟩ := hreach
  have hp := s.peerAt_seen h b.length i
  have hst' : ((s.seen h b.length i).peerAt i).state = 1 := (congrArg Peer.state hp).trans hst
  have hep' : ((s.seen h b.length i).peerAt i).rxEpoch = h.epoch := (congrArg Peer.rxEpoch hp).trans hep.symm
  exact State.carArrive_ack (m := carMsg h 0x04 b) hst' hep'.symm rfl hfault (carFlagsOk_travels hflags htr) hbody

/-- What HELLO with BASE sets in its entry. -/
def State.helloPut (s : State) (i : Nat) (b : List Byte) : State :=
  let s1 := s.carFloor i (fieldAt b 8 4)
  s1.putPeer i { s1.peerAt i with
    role := fieldAt b 12 1, feat0 := fieldAt b 0 4 &&& s.mgmtWord 0, feat2 := fieldAt b 4 4 &&& s.mgmtWord 2 }

theorem State.peerAt_helloPut (s : State) (i : Nat) (b : List Byte) : (s.helloPut i b).peerAt i = { s.peerAt i with
    floor := fieldAt b 8 4, taken := [], unacked := [], held := [], state := 1, errAt := 0,
    role := fieldAt b 12 1, feat0 := fieldAt b 0 4 &&& s.mgmtWord 0, feat2 := fieldAt b 4 4 &&& s.mgmtWord 2 } := by
  unfold State.helloPut State.carFloor
  dsimp only
  rw [State.peerAt_putPeer_self, State.peerAt_putPeer_self]

/-- HELLO with BASE, of a peer that serves and is no service port, is answered as taken. -/
theorem State.carHello_base {s : State} (hso : s.sessionOver i = s) (hst : (s.peerAt i).state ≠ 2) (h5 : fieldAt b 12 1 ≠ 5)
    (hbase : (fieldAt b 0 4 &&& s.mgmtWord 0).testBit 0 = true) :
    s.carHello i b = (0, (s.helloPut i b).carSendAt i 0x02 (carFlags i)
      (helloReply 0 (fieldAt b 0 4 &&& s.mgmtWord 0) (fieldAt b 4 4 &&& s.mgmtWord 2) (s.peerNum i) ((s.helloPut i b).peerAt i).oldest)
      .nothing) := by
  unfold State.carHello
  rw [hso]
  extract_lets s' w0 w2 role was s1 p s2 s3 s4 s5
  have h3 : s3 = s2 := if_neg hst
  have h5' : s5 = s4 := if_neg hst
  rw [if_neg (by rw [hbase]; decide), if_neg (by exact fun hc => h5 hc.2), h5']
  unfold s4
  rw [h3]
  rfl

/-- HELLO with BASE takes what the peer names and is answered (R361, R362). -/
theorem carReceive_hello (hr : heard s h 0x01 b i) (hbase : (fieldAt b 0 4 &&& s.mgmtWord 0).testBit 0 = true) (h5 : fieldAt b 12 1 ≠ 5)
    (hse : (s.peerAt i).session = 0 ∨ (s.peerAt i).rxEpoch < (s.peerAt i).session) :
    let t := s.carReceive h (carMsg h 0x01 b)
    let w0 := fieldAt b 0 4 &&& s.mgmtWord 0
    let w2 := fieldAt b 4 4 &&& s.mgmtWord 2
    (t.peerAt i).state = 1 ∧ (t.peerAt i).floor = fieldAt b 8 4 ∧ (t.peerAt i).role = fieldAt b 12 1 ∧ (t.peerAt i).feat0 = w0 ∧
      (t.peerAt i).feat2 = w2 ∧ awaits t i 0x02 (helloReply 0 w0 w2 (s.peerNum i) (s.peerAt i).oldest) ∧ t.mem = s.mem := by
  obtain ⟨hu, hst, -, -⟩ := peerAt_carAt_serves hr.1
  have hpeer := peerAt_carAt s h b.length i
  have hused : (s.peerAt i).used = true := by
    rw [hpeer] at hu
    exact hu
  have hw {w : Nat} (hwlt : w < 4) : (carAt s h b.length i).mgmtWord w = s.mgmtWord w := by
    unfold State.mgmtWord State.getN
    rw [(carAt_near s h b.length i).low _ (by unfold R.IDENT_FEAT_MGMT; omega)]
  have hso : (carAt s h b.length i).sessionOver i = carAt s h b.length i := by
    refine if_neg ?_
    rw [hpeer]
    dsimp only
    omega
  have hput := (carAt s h b.length i).peerAt_helloPut i b
  rw [hw (by decide), hw (by decide), hpeer] at hput
  have hv := State.carHello_base hso (by omega) h5 (by rw [hw (by decide)]; exact hbase)
  have hnum : (carAt s h b.length i).peerNum i = s.peerNum i := by
    unfold State.peerNum
    rw [hpeer]
  have hold : (((carAt s h b.length i).helloPut i b).peerAt i).oldest = (s.peerAt i).oldest := by
    unfold Peer.oldest
    rw [hput]
  rw [hw (by decide), hw (by decide), hnum, hold] at hv
  obtain ⟨hsn, m, sent, hmt, hmb, hsp⟩ := State.carSendAt_plain (s := (carAt s h b.length i).helloPut i b) (i := i) (type := 0x02)
    (flags := carFlags i) (body := helloReply 0 (fieldAt b 0 4 &&& s.mgmtWord 0) (fieldAt b 4 4 &&& s.mgmtWord 2) (s.peerNum i)
      (s.peerAt i).oldest) (w := .nothing) (by rw [hput]; exact hused) (by simp [hput])
    (carFlags_plain i).1 (carFlags_plain i).2
  rw [hput] at hsp
  have hf : ∀ n, (carAt s h b.length i).carEffect i n (carMsg h 0x01 b) = (0, 0, _) := fun n =>
    congrArg (fun r : Status × State => (r.1, 0, r.2)) hv
  obtain ⟨hn, hp, -⟩ := State.carReceive_takes (m := carMsg h 0x01 b) ⟨rfl, rfl, rfl⟩ hr (by simp [carMsg]) hf
    (by rw [hsp]; exact hused) (by rw [hsp])
  rw [hsp] at hp
  have hout : ((s.carReceive h (carMsg h 0x01 b)).peerAt i).out = (s.peerAt i).out ++ [m] := (congrArg Peer.out hp :)
  have hnear : s.Near _ := (((carAt_near s h b.length i).putPeer.putPeer).trans hsn).trans hn
  exact ⟨(congrArg Peer.state hp :), (congrArg Peer.floor hp :), (congrArg Peer.role hp :), (congrArg Peer.feat0 hp :),
    (congrArg Peer.feat2 hp :), ⟨m, by rw [hout]; exact List.mem_append_right _ (List.mem_singleton_self m), hmt, hmb⟩, hnear.mem⟩

/-! #### Register access -/

/-- A key of IDENT_FEAT_OFFER is its register's address. -/
theorem State.regKey_offer (s : State) {k : Nat} (hk : k < 4) : s.regKey (R.IDENT_FEAT_OFFER + 8 * k) = R.IDENT_FEAT_OFFER + 8 * k := by
  simp [State.regKey, mapRow_offer hk]

/-- A 64-bit read of IDENT_FEAT_OFFER by a path that holds no half. -/
theorem State.access_read_offer {s : State} {p : Path} {k : Nat} (o : Outside) (hm : s.pins.misoAnswers = true) (hl : s.latch p = default)
    (hk : k < 4) : s.access p o 64 (R.IDENT_FEAT_OFFER + 8 * k) none =
      (s.getN (R.IDENT_FEAT_OFFER + 8 * k), (s.putLatch p default).answer 0) := by
  have hR : R.IDENT_FEAT_OFFER = 0x120 := rfl
  have hok : s.accessBad 64 (R.IDENT_FEAT_OFFER + 8 * k) = none := State.accessBad_early hm (by decide) (by omega) (by omega)
  have hreg : (R.IDENT_FEAT_OFFER + 8 * k) / 8 * 8 = R.IDENT_FEAT_OFFER + 8 * k := by omega
  rw [State.access_read o (State.untorn_of_default hl _ _ _) (by omega) hok]
  simp [State.readHalf, hreg, State.regRead_ident _ (show R.IDENT_FEAT_OFFER + 8 * k < 0x10000 by omega), State.regKey_offer _ hk]
  rfl

theorem carAt_pins : (carAt s h b.length i).pins = s.pins := (congrArg State.pins (carAt_near s h b.length i).inner :)

theorem carAt_latch (p : Path) : (carAt s h b.length i).latch p = s.latch p :=
  (congrArg (fun x : State => x.latches.get p.num) (carAt_near s h b.length i).inner :)

theorem low_offer {k : Nat} (hk : k < 4) : R.IDENT_FEAT_OFFER + 8 * k < 0x1000 := by
  unfold R.IDENT_FEAT_OFFER
  omega

/-- MGMT_READ of a word of IDENT_FEAT_OFFER is answered with it (R41, R358). -/
theorem carReceive_mgmtRead (hr : heard s h 0x17 b i) (hm : s.pins.misoAnswers = true) (hl : s.latch .carrierM = default) {k : Nat}
    (hk : k < 4) (ha : fieldAt b 0 4 = R.IDENT_FEAT_OFFER + 8 * k) (h8 : fieldAt b 4 1 = 8) :
    let t := s.carReceive h (carMsg h 0x17 b)
    awaits t i 0x18 (leBytes 4 (R.IDENT_FEAT_OFFER + 8 * k) ++ leBytes 2 0 ++ leBytes 1 8 ++ leBytes 1 0 ++
      leBytes 8 (s.getN (R.IDENT_FEAT_OFFER + 8 * k))) ∧ seqTaken t i h.seq ∧ t.mem = s.mem := by
  obtain ⟨hu, hst, hh, hf⟩ := peerAt_carAt_serves hr.1
  have hacc := State.access_read_offer default (carAt_pins (h := h) (b := b) (i := i) ▸ hm) ((carAt_latch .carrierM).trans hl) hk
  have hval : (carAt s h b.length i).getN (R.IDENT_FEAT_OFFER + 8 * k) % 256 ^ 8 = s.getN (R.IDENT_FEAT_OFFER + 8 * k) := by
    unfold State.getN
    rw [(carAt_near s h b.length i).low _ (low_offer hk)]
    exact Nat.mod_eq_of_lt (s.getR _).isLt
  have hv : (carAt s h b.length i).mgmtRead i b = (((carAt s h b.length i).putLatch .carrierM default).answer 0).carSendAt i 0x18
      (carFlags i) (leBytes 4 (R.IDENT_FEAT_OFFER + 8 * k) ++ leBytes 2 0 ++ leBytes 1 8 ++ leBytes 1 0 ++
        leBytes 8 (s.getN (R.IDENT_FEAT_OFFER + 8 * k))) .nothing := by
    unfold State.mgmtRead
    rw [h8, ha]
    dsimp only
    rw [hacc]
    dsimp only
    rw [hval]
    rfl
  obtain ⟨hsn, m, sent, hmt, hmb, hsp⟩ := State.carSendAt_plain (s := ((carAt s h b.length i).putLatch .carrierM default).answer 0)
    (i := i) (type := 0x18) (flags := carFlags i) (body := leBytes 4 (R.IDENT_FEAT_OFFER + 8 * k) ++ leBytes 2 0 ++ leBytes 1 8 ++
      leBytes 1 0 ++ leBytes 8 (s.getN (R.IDENT_FEAT_OFFER + 8 * k))) (w := .nothing) hu (by
        have := hst
        show ((carAt s h b.length i).peerAt i).state ≠ 2
        omega) (carFlags_plain i).1 (carFlags_plain i).2
  rw [← hv] at hsn hsp
  obtain ⟨hn, hp, ht⟩ := State.carReceive_takes (m := carMsg h 0x17 b) ⟨rfl, rfl, rfl⟩ hr (by simp [carMsg]) (fun _ => rfl)
    (v := (carAt s h b.length i).mgmtRead i b) (by rw [hsp]; exact hu) (by rw [hsp]; exact hh)
  rw [hsp] at hp ht
  have hout : ((s.carReceive h (carMsg h 0x17 b)).peerAt i).out = ((carAt s h b.length i).peerAt i).out ++ [m] :=
    (congrArg Peer.out hp :)
  exact ⟨⟨m, by rw [hout]; exact List.mem_append_right _ (List.mem_singleton_self m), hmt, hmb⟩, ht hf,
    (hsn.trans hn).mem.trans (carAt_near s h b.length i).mem⟩

/-- MGMT_WRITE of a word of IDENT_FEAT_OFFER sets it (R41, R358). -/
theorem carReceive_mgmtWrite (hr : heard s h 0x19 b i) (hm : s.pins.misoAnswers = true) (hl : s.latch .carrierM = default) {k : Nat}
    (hk : k < 4) (ha : fieldAt b 0 4 = R.IDENT_FEAT_OFFER + 8 * k) (h8 : fieldAt b 4 1 = 8) (o : Outside) :
    let t := s.carReceive h { carMsg h 0x19 b with out := o }
    t.getN (R.IDENT_FEAT_OFFER + 8 * k) = fieldAt b 8 8 ∧ seqTaken t i h.seq ∧ t.mem = s.mem := by
  obtain ⟨hu, -, hh, hf⟩ := peerAt_carAt_serves hr.1
  have hlt : fieldAt b 8 8 < 2 ^ 64 := fieldAt_lt b 8 8
  have hword : (BitVec.ofNat 64 (fieldAt b 8 8)).toNat = fieldAt b 8 8 := Nat.mod_eq_of_lt hlt
  have hacc := State.access_write_offer o (BitVec.ofNat 64 (fieldAt b 8 8)) (carAt_pins (h := h) (b := b) (i := i) ▸ hm)
    ((carAt_latch .carrierM).trans hl) hk
  rw [hword] at hacc
  have hv : (carAt s h b.length i).mgmtWrite b o = (0, (((carAt s h b.length i).putLatch .carrierM default).answer 0).setR
      (R.IDENT_FEAT_OFFER + 8 * k) (BitVec.ofNat 64 (fieldAt b 8 8))) := by
    unfold State.mgmtWrite
    dsimp only
    rw [h8, ha, Nat.mod_eq_of_lt (show fieldAt b 8 8 < 256 ^ 8 from hlt), hacc]
    rfl
  have he : ∀ n, (carAt s h b.length i).carEffect i n { carMsg h 0x19 b with out := o } = (0, 0, _) := fun n =>
    congrArg (fun r : Status × State => (r.1, 0, r.2)) hv
  obtain ⟨hn, -, ht⟩ := State.carReceive_takes (m := { carMsg h 0x19 b with out := o }) ⟨rfl, rfl, rfl⟩ hr (by simp [carMsg]) he hu hh
  refine ⟨?_, ht hf, hn.mem.trans (carAt_near s h b.length i).mem⟩
  unfold State.getN
  rw [hn.low _ (low_offer hk), State.getR_setR_self]
  exact hword

/-! #### Reserved types -/

theorem State.getN_carErr (s : State) {num type st : Nat} (hst : st < 2 ^ 16) (hnum : num < 2 ^ 32) (hty : type < 256) :
    (s.carErr num type st).getN R.CARRIER_LAST_ERR = st * 2 ^ 48 + num * 2 ^ 16 + type := by
  unfold State.carErr State.getN
  rw [State.getR_tick_quiet _ rfl, State.getR_setN_ne _ _ (by decide), State.getR_setN_self, BitVec.toNat_ofNat, Nat.mod_eq_of_lt hnum,
    Nat.mod_eq_of_lt hty, Nat.mod_eq_of_lt (by omega)]

theorem State.getN_carAck_lastErr (s : State) (i : Nat) (items : List AckItem) :
    (s.carAck i items).getN R.CARRIER_LAST_ERR = s.getN R.CARRIER_LAST_ERR := by
  have h (t : State) (c : Prop) [Decidable c] (k n : Nat) :
      (if c then t.addN (R.FABRIC_P_TX_BYTES + k) n else t).getN R.CARRIER_LAST_ERR = t.getN R.CARRIER_LAST_ERR := by
    split
    · exact State.getN_setN_ne _ _ (by unfold R.CARRIER_LAST_ERR R.FABRIC_P_TX_BYTES; omega)
    · rfl
  exact h _ _ _ _

/-- What follows a message refused leaves the last error. -/
theorem State.getN_carSettle_lastErr {s : State} {i : Nat} {h : CarHdr} {seq : Nat} (hh : (s.peerAt i).held = []) :
    (s.carSettle i h seq).getN R.CARRIER_LAST_ERR = s.getN R.CARRIER_LAST_ERR := by
  unfold State.carSettle
  rw [hh]
  dsimp only [List.length_nil, State.carHeld]
  split
  · exact State.getN_carAck_lastErr _ _ _
  · rfl

/-- A message refused stands as taken; its entry keeps all but what it has to acknowledge. -/
theorem State.carReject_peer {s : State} {i : Nat} {m : CarIn} {st : Status} (hu : (s.peerAt i).used = true)
    (hf : (s.peerAt i).floor ≤ m.seq) : s.Near (s.carReject i m st) ∧ ((s.carReject i m st).peerAt i).plain = (s.peerAt i).plain ∧
      seqTaken (s.carReject i m st) i m.seq := by
  have hp : (s.carReject i m st).peerAt i = { (s.carMark i m.seq).peerAt i with got := 0, ce := 0 } := by
    unfold State.carReject State.carRefuse State.carErr
    rw [State.peerAt_tick]
    exact State.peerAt_carAck _ _ _
  refine ⟨.carErr (.carAck (.setN (.carMark (.refl s)))), ?_, ?_⟩
  · rw [hp]
    exact s.peerAt_carMark i m.seq
  · unfold seqTaken
    rw [hp]
    exact s.carMark_taken i hu hf

/-- A message of a reserved TYPE has no form, and is refused (R358, R376). -/
theorem carReceive_reserved {type : Nat} (hr : reaches s h b.length i) (hty : type ≠ 0x04) (hb : carBodyOk type b = false)
    (hlt : type < 256) :
    let t := s.carReceive h (carMsg h type b)
    seqTaken t i h.seq ∧ t.getN R.CARRIER_LAST_ERR = 0x5111 * 2 ^ 48 + s.peerNum i * 2 ^ 16 + type ∧ t.docket = s.docket ∧
      t.toll = s.toll ∧ t.mem = s.mem := by
  have hreach := State.carReceive_reaches (m := carMsg h type b) hr
  obtain ⟨-, -, hfault, -, -, -, -, hu, hst, hep, hfl, hw, htk, -, hheld⟩ := hr
  have hp := s.peerAt_seen h b.length i
  have hu' := (congrArg Peer.used hp).trans hu
  have hheld' := (congrArg Peer.held hp).trans hheld
  have hfl' := (congrArg Peer.floor hp).trans_le hfl
  obtain ⟨hn, hpl, ht⟩ := State.carReject_peer (m := carMsg h type b) (st := 0x5111) hu' hfl'
  have hh : (((s.seen h b.length i).carReject i (carMsg h type b) 0x5111).peerAt i).held = [] := (congrArg Peer.held hpl).trans hheld'
  have hnum : ((s.seen h b.length i).carMark i h.seq).peerNum i = s.peerNum i := by
    have hg := (congrArg Peer.gen ((s.seen h b.length i).peerAt_carMark i h.seq) :)
    unfold State.peerNum
    exact congrArg (fun g => g % 65536 * 65536 + i % 65536) (hg.trans (congrArg Peer.gen hp :))
  obtain ⟨hn2, -, ht2⟩ := State.carSettle_plain (h := h) (seq := h.seq) hh
  have he : (s.carReceive h (carMsg h type b)) = ((s.seen h b.length i).carReject i (carMsg h type b) 0x5111).carSettle i h h.seq := by
    have ha := State.carArrive_new (m := carMsg h type b) (by rw [hp]; exact hst) (by rw [hp]; exact hep) hty hfl'
      (by rw [hp]; exact htk) hheld'
    exact hreach.trans (ha.trans (State.carNew_malformed (by rw [hp]; exact hw) hfault hb))
  have hnear := ((s.seen_near h b.length i).trans hn).trans hn2
  rw [← he] at hnear ht2
  refine ⟨?_, ?_, hnear.docket, hnear.toll, hnear.mem⟩
  · unfold seqTaken
    rw [ht2]
    exact ht
  · rw [he, State.getN_carSettle_lastErr hh]
    exact (State.getN_carErr _ (by decide) (by unfold State.peerNum; omega) hlt).trans (by rw [← hnum]; rfl)

end

/-- A command that only receives a message without effect. -/
theorem exec_idle {s : State} {h : CarHdr} {b : List Byte} {i type : Nat} {c : Instr}
    (hc : exec c s = .next (s.carReceive h (carMsg h type b))) (hty : type ≠ 0x04 ∧ type ≠ 0x05 ∧ type ≠ 0x0C)
    (he : ∀ (u : State) n, u.carEffect i n (carMsg h type b) = (0, 0, u)) (hr : heard s h type b i) :
    ∃ t, exec c s = .next t ∧ seqTaken t i h.seq ∧ t.docket = s.docket ∧ t.toll = s.toll ∧ t.hands = s.hands ∧ t.mem = s.mem :=
  ⟨_, hc, carReceive_idle hr hty he⟩

/-- Settles O30: each message is counted and its sender seen, its effect touches its entry and at most IDENT_FEAT_OFFER, and taking
and acknowledging it touch only the entry's window. -/
theorem carrierSessionsAndRegisters : Obligations.CarrierSessionsAndRegisters := by
  intro s h b i
  refine ⟨fun hr hb h5 hse => ⟨_, rfl, carReceive_hello hr hb h5 hse⟩, fun hr => ⟨_, rfl, carReceive_floor hr⟩, ?_, ?_, ?_, ?_⟩
  · intro hr he h0 hall
    have hp := peerAt_carAt s h b.length i
    obtain ⟨hn, ho, htx, htk, hce⟩ := State.carAckTake_all (s := carAt s h b.length i) (i := i) (b := b) (by rw [hp]; exact he) h0
      (by rw [hp]; exact hall)
    rw [← carReceive_ack hr] at hn ho htx htk hce
    rw [hp] at htx htk hce
    have hnear := (carAt_near s h b.length i).trans hn
    exact ⟨s.carReceive h (carMsg h 0x04 b), rfl, ho, htx, htk, hce, hnear.docket, hnear.mem⟩
  · intro _ hm hl k hk a ha h8
    exact ⟨fun hr => ⟨_, rfl, carReceive_mgmtRead hr hm hl hk ha h8⟩,
      fun hr o => ⟨_, rfl, carReceive_mgmtWrite hr hm hl hk ha h8 o⟩⟩
  · exact ⟨exec_idle rfl (by decide) fun _ _ => rfl, exec_idle rfl (by decide) fun _ _ => rfl, exec_idle rfl (by decide) fun _ _ => rfl,
      exec_idle rfl (by decide) fun _ _ => rfl, exec_idle rfl (by decide) fun _ _ => rfl, exec_idle rfl (by decide) fun _ _ => rfl,
      exec_idle rfl (by decide) fun _ _ => rfl, exec_idle rfl (by decide) fun _ _ => rfl, exec_idle rfl (by decide) fun _ _ => rfl⟩
  · intro type hty hlt hr
    refine ⟨s.carReceive h (carMsg h type b), congrArg Host.Outcome.next (if_pos hty), carReceive_reserved hr (by omega) ?_ hlt⟩
    unfold carBodyOk
    split
    case h_26 => rfl
    all_goals omega

end Sys2Proof.Machine
end

section
/-! PROOFS. Counterfoil stubs (R256 to R259). -/

open Sys2Proof Sys2Proof.Claims

namespace Sys2Proof.Machine

/-! ### What the arrival of a stub and its acknowledgement leave alone -/

/-- A state but for its registers, records and output, and the Counterfoil's sequences and resend store. -/
def State.bare (s : State) : State :=
  { s with regs := [], obs := default, outbox := [], cf := { s.cf with rxSeq := 0, txSeq := 0, sent := 0, store := [] } }

/-- The registers that count stubs and the Reeve's and the Crier's. -/
def stubCounts (k : Nat) : Bool := noisy k || [R.TILL_CF_TX_STUBS, R.TILL_CF_RX_STUBS, R.TILL_CF_TX_BYTES].contains k

/-- A state that differs from another only in what stubs that come and go count, keep and send. -/
structure State.Stubbed (s t : State) : Prop where
  regs : ∀ k, stubCounts k = false → t.getR k = s.getR k
  bare : t.bare = s.bare

section
variable {s t u : State}

theorem State.Stubbed.refl (s : State) : s.Stubbed s := ⟨fun _ _ => rfl, rfl⟩

theorem State.Stubbed.trans (h : s.Stubbed t) (g : t.Stubbed u) : s.Stubbed u :=
  ⟨fun k hk => (g.regs k hk).trans (h.regs k hk), g.bare.trans h.bare⟩

theorem State.Stubbed.getR (h : s.Stubbed t) {k : Nat} (hk : stubCounts k = false := by decide) : t.getR k = s.getR k := h.regs k hk

theorem State.Stubbed.getF (h : s.Stubbed t) {f : Fld} (hf : stubCounts f.addr = false := by decide) : t.getF f = s.getF f :=
  congrArg f.get (h.regs _ hf)

theorem State.Stubbed.getN (h : s.Stubbed t) {k : Nat} (hk : stubCounts k = false := by decide) : t.getN k = s.getN k :=
  congrArg BitVec.toNat (h.regs _ hk)

theorem State.Stubbed.cfUp (h : s.Stubbed t) : t.cfUp = s.cfUp := by
  unfold State.cfUp
  rw [h.getF]

theorem State.Stubbed.mode (h : s.Stubbed t) : t.mode = s.mode := (congrArg State.mode h.bare :)

theorem State.Stubbed.mem (h : s.Stubbed t) : t.mem = s.mem := (congrArg State.mem h.bare :)

theorem State.Stubbed.docket (h : s.Stubbed t) : t.docket = s.docket := (congrArg State.docket h.bare :)

theorem State.Stubbed.toll (h : s.Stubbed t) : t.toll = s.toll := (congrArg State.toll h.bare :)

theorem State.Stubbed.pair (h : s.Stubbed t) : t.pair = s.pair := (congrArg State.pair h.bare :)

theorem State.Stubbed.strong (h : s.Stubbed t) : t.strong = s.strong := (congrArg State.strong h.bare :)

theorem State.Stubbed.hold (h : s.Stubbed t) : t.hold = s.hold := (congrArg State.hold h.bare :)

theorem State.Stubbed.time (h : s.Stubbed t) : t.time = s.time := (congrArg State.time h.bare :)

/-- What the head keeps of its partner. -/
theorem State.Stubbed.cf (h : s.Stubbed t) : { t.cf with rxSeq := 0, txSeq := 0, sent := 0, store := [] } =
    { s.cf with rxSeq := 0, txSeq := 0, sent := 0, store := [] } := (congrArg State.cf h.bare :)

theorem State.Stubbed.mirror (h : s.Stubbed t) : t.cf.mirror = s.cf.mirror := (congrArg Cf.mirror h.cf :)

theorem State.Stubbed.ledger (h : s.Stubbed t) : t.cf.ledger = s.cf.ledger := (congrArg Cf.ledger h.cf :)

theorem State.Stubbed.gathering (h : s.Stubbed t) : t.cf.gathering = s.cf.gathering := (congrArg Cf.gathering h.cf :)

theorem State.Stubbed.overlay (h : s.Stubbed t) : t.cf.overlay = s.cf.overlay := (congrArg Cf.overlay h.cf :)

theorem State.Stubbed.takes (h : s.Stubbed t) : t.cf.takes = s.cf.takes := (congrArg Cf.takes h.cf :)

theorem State.Stubbed.cfDocket (h : s.Stubbed t) : t.cf.docket = s.cf.docket := (congrArg Cf.docket h.cf :)

theorem State.Stubbed.holdup (h : s.Stubbed t) : t.cf.holdup = s.cf.holdup := (congrArg Cf.holdup h.cf :)

theorem State.Stubbed.txBase (h : s.Stubbed t) : t.cf.txBase = s.cf.txBase := (congrArg Cf.txBase h.cf :)

theorem State.Stubbed.tick : s.Stubbed s.tick :=
  ⟨fun _ hk => s.getR_tick_quiet (Bool.or_eq_false_iff.1 hk).1,
    (congrArg (fun x : State => { x with outbox := [], cf := { x.cf with rxSeq := 0, txSeq := 0, sent := 0, store := [] } }) s.tick_rest :)⟩

theorem State.Stubbed.send {o : Out} : s.Stubbed (s.send o) := ⟨fun _ _ => rfl, rfl⟩

/-- A count of stubs. -/
theorem State.Stubbed.addN {k n : Nat} (hk : stubCounts k = true := by decide) : s.Stubbed (s.addN k n) :=
  ⟨fun j hj => State.getR_setN_ne _ _ (by rintro rfl; rw [hk] at hj; cases hj), rfl⟩

/-- What goes out of the resend store keeps the sequences. -/
theorem State.cfPump_stubbed (l : List Stub) (room : Nat) (s : State) :
    s.Stubbed (State.cfPump l room s) ∧ (State.cfPump l room s).cf.txSeq = s.cf.txSeq ∧ (State.cfPump l room s).cf.rxSeq = s.cf.rxSeq := by
  induction l generalizing room s with
  | nil => exact ⟨.refl s, rfl, rfl⟩
  | cons x r ih =>
    unfold State.cfPump
    split
    · exact ⟨.refl s, rfl, rfl⟩
    · split
      · exact ih _ s
      · let u : State := { s with cf := { s.cf with sent := x.seq } }
        have hu : s.Stubbed u := ⟨fun _ _ => rfl, rfl⟩
        obtain ⟨hn, htx, hrx⟩ := ih (room - x.bytes.length) (((u.addN R.TILL_CF_TX_STUBS 1).addN R.TILL_CF_TX_BYTES
          (fieldAt x.bytes 4 4)).send (.stub (fieldAt x.bytes 2 1) [x.seq - s.cf.txBase] (s.restamp x 0)))
        have hcount : s.Stubbed ((u.addN R.TILL_CF_TX_STUBS 1).addN R.TILL_CF_TX_BYTES (fieldAt x.bytes 4 4)) :=
          (hu.trans .addN).trans .addN
        exact ⟨(hcount.trans .send).trans hn, htx, hrx⟩

/-- A stub sent takes the next SEQ (R256). -/
theorem State.sendStub_stubbed (s : State) (type : Nat) (p : List Byte) :
    s.Stubbed (s.sendStub type p) ∧ (s.sendStub type p).cf.txSeq = s.cf.txSeq + 1 ∧ (s.sendStub type p).cf.rxSeq = s.cf.rxSeq := by
  unfold State.sendStub
  extract_lets n b c s1
  have h1 : s.Stubbed s1 := ⟨fun _ _ => rfl, rfl⟩
  split
  · obtain ⟨hn, htx, hrx⟩ := State.cfPump_stubbed s1.cf.store stubRoom s1
    exact ⟨h1.trans hn, htx, hrx⟩
  · exact ⟨h1, rfl, rfl⟩

end

/-! ### A stub taken in its place -/

/-- The state in which a stub that has arrived in sequence takes effect (R256, R463). -/
def State.stubAt (s : State) : State := ({ s with cf := { s.cf with rxSeq := s.cf.rxSeq + 1 } }.addN R.TILL_CF_RX_STUBS 1).tick

section
variable (s : State)

theorem State.stubAt_stubbed : s.Stubbed s.stubAt :=
  have h1 : s.Stubbed { s with cf := { s.cf with rxSeq := s.cf.rxSeq + 1 } } := ⟨fun _ _ => rfl, rfl⟩
  (h1.trans .addN).trans .tick

theorem State.stubAt_cf : s.stubAt.cf = { s.cf with rxSeq := s.cf.rxSeq + 1 } := State.tick_cf _

/-- An ACK that covers nothing new does nothing (R258). -/
theorem State.cfAck_old {ack : Nat} (h : s.cf.txBase + ack ≤ s.cf.acked) : s.cfAck ack = s := if_pos ((Nat.min_le_right _ _).trans h)

/-- A head that took a stub acknowledges it: by what it sent, else by an empty HEARTBEAT (R258). -/
def State.stubBack (s : State) (before : Nat) : State :=
  if s.cf.txSeq = before ∧ s.cfUp = true then s.sendStub 0x01 [] else s

end

section
variable {s v : State} {b : List Byte} {type : Nat} {want : Nat → Bool} {k : List Byte → State → State}

theorem State.cfReceive_arrives (h : stubArrives s b type) (hw : want type = true) :
    s.cfReceive b want k = (k (stubBody b) s.stubAt).stubBack s.cf.txSeq := by
  obtain ⟨hup, hfence, hlen, hmagic, hcrc, htype, hmax, hwhole, hpay, hseq, hack⟩ := h
  have hcf := s.stubAt_cf
  have hack' : s.stubAt.cfAck (fieldAt b 0x10 8) = s.stubAt := State.cfAck_old _ (by rw [hcf]; exact hack)
  unfold State.cfReceive
  extract_lets typ len payload c s1 s2
  rw [if_neg (by simp [hup, hfence]), if_neg (by simp [hmagic, hcrc]; omega), if_neg (by simp [typ, htype, hw]),
    if_neg (by simp [len, hwhole]; omega), if_neg (by simpa [len, payload] using hpay), if_neg (by simpa using hseq)]
  have h2 : s2 = k (stubBody b) s.stubAt := congrArg (k (stubBody b)) hack'
  rw [h2, show s1.cf.txSeq = s.cf.txSeq from (congrArg Cf.txSeq hcf :)]
  rfl

/-- A stub in sequence whose effect keeps the link, and the sequences but for what it sends, is taken and acknowledged. -/
theorem State.cfReceive_takes (h : stubArrives s b type) (hw : want type = true) (hv : k (stubBody b) s.stubAt = v)
    (hrx : v.cf.rxSeq = s.cf.rxSeq + 1) (htx : s.cf.txSeq ≤ v.cf.txSeq) (hup : v.getR R.TILL_CF_STATE = s.getR R.TILL_CF_STATE) :
    stubTaken s (s.cfReceive b want k) ∧ v.Stubbed (s.cfReceive b want k) := by
  have hup' : v.cfUp = true := by
    refine Eq.trans ?_ h.1
    unfold State.cfUp State.getF
    rw [show F.TILL_CF_STATE_STATE.addr = R.TILL_CF_STATE from rfl, hup]
  rw [State.cfReceive_arrives h hw, hv]
  unfold State.stubBack stubTaken
  split
  · next hc =>
    obtain ⟨hn, hs, hr⟩ := v.sendStub_stubbed 0x01 []
    exact ⟨⟨hr.trans hrx, by omega⟩, hn⟩
  · next hc => exact ⟨⟨hrx, by simp [hup'] at hc; omega⟩, .refl v⟩

end

/-! ### Stubs by type (R257) -/

section
variable {s : State} {b : List Byte} {type : Nat} {want : Nat → Bool} {k : List Byte → State → State}

/-- A stub that only changes what the head keeps of its partner. -/
theorem State.cfReceive_keeps {i : Instr} {c : Cf} (h : stubArrives s b type) (hx : exec i s = .next (s.cfReceive b want k))
    (hw : want type = true) (hk : k (stubBody b) s.stubAt = { s.stubAt with cf := c }) (hrx : c.rxSeq = s.stubAt.cf.rxSeq)
    (htx : c.txSeq = s.stubAt.cf.txSeq) : ∃ t, exec i s = .next t ∧ stubTaken s t ∧ ({ s.stubAt with cf := c } : State).Stubbed t ∧
      s.stubAt.Stubbed { t with cf := s.stubAt.cf } := by
  have hcf := s.stubAt_cf
  obtain ⟨ht, hn⟩ := State.cfReceive_takes h hw hk (hrx.trans (congrArg Cf.rxSeq hcf :))
    (Nat.le_of_eq (htx.trans (congrArg Cf.txSeq hcf :)).symm) s.stubAt_stubbed.getR
  exact ⟨_, hx, ht, hn, hn.regs, (congrArg (fun x : State => { x with
    cf := { s.stubAt.cf with rxSeq := 0, txSeq := 0, sent := 0, store := [] } }) hn.bare :)⟩

/-- TILL_DATA stands in MIRROR (R257, R259). -/
theorem cfTillData_takes (h : stubArrives s b 0x02) : ∃ t, exec (.cfTillData b) s = .next t ∧ stubTaken s t ∧ t.docket = s.docket ∧
    t.mem = s.mem ∧ t.cf.mirror = s.cf.mirror.filter (fun x => x.off ≠ fieldAt (stubBody b) 0 8) ++
      [{ off := fieldAt (stubBody b) 0 8, addr := fieldAt (stubBody b) 8 8, tag := fieldAt (stubBody b) 0x10 2,
         kind := fieldAt (stubBody b) 0x12 1, reeve := fieldAt (stubBody b) 0x18 8, data := (stubBody b).drop 0x20 }] := by
  obtain ⟨t, hx, ht, hn, hr⟩ := State.cfReceive_keeps (i := .cfTillData b) h rfl rfl rfl rfl rfl
  have hs := s.stubAt_stubbed.trans hr
  refine ⟨t, hx, ht, hs.docket, hs.mem, hn.mirror.trans ?_⟩
  rw [s.stubAt_cf]

/-- TAKE_STATE holds a take's record (R257). -/
theorem cfTakeState_takes (h : stubArrives s b 0x05) : ∃ t, exec (.cfTakeState b) s = .next t ∧ stubTaken s t ∧ t.toll = s.toll ∧
    t.mem = s.mem ∧ t.cf.takes.get (fieldAt (stubBody b) 0x43 1) = if fieldAt (stubBody b) 0x7C 4 = 0 then [] else stubBody b := by
  obtain ⟨t, hx, ht, hn, hr⟩ := State.cfReceive_keeps (i := .cfTakeState b) h rfl rfl rfl rfl rfl
  have hs := s.stubAt_stubbed.trans hr
  refine ⟨t, hx, ht, hs.toll, hs.mem, ?_⟩
  rw [hn.takes]
  exact AMap.get_set_self _ _ _

/-- DOCKET holds an entry in flight (R257). -/
theorem cfDocket_takes (h : stubArrives s b 0x06) : ∃ t, exec (.cfDocket b) s = .next t ∧ stubTaken s t ∧ t.docket = s.docket ∧
    t.mem = s.mem ∧ t.cf.docket.get (fieldAt (stubBody b) 0 2) = if fieldAt (stubBody b) 0x40 1 = 0 then [] else stubBody b := by
  obtain ⟨t, hx, ht, hn, hr⟩ := State.cfReceive_keeps (i := .cfDocket b) h rfl rfl rfl rfl rfl
  have hs := s.stubAt_stubbed.trans hr
  refine ⟨t, hx, ht, hs.docket, hs.mem, ?_⟩
  rw [hn.cfDocket]
  exact AMap.get_set_self _ _ _

/-- HOLDUP_NOTICE holds the switch-over (R269). -/
theorem cfHoldupNotice_takes (h : stubArrives s b 0x0A) : ∃ t, exec (.cfHoldupNotice b) s = .next t ∧ stubTaken s t ∧
    t.cf.holdup = true ∧ t.cf.flushDone = false ∧ t.mode = s.mode ∧ t.mem = s.mem := by
  obtain ⟨t, hx, ht, hn, hr⟩ := State.cfReceive_keeps (i := .cfHoldupNotice b) h rfl rfl rfl rfl rfl
  have hs := s.stubAt_stubbed.trans hr
  exact ⟨t, hx, ht, hn.holdup, (congrArg Cf.flushDone hn.cf :), hs.mode, hs.mem⟩

/-- An entry of the ledger is held until its sheaf closes (R338). -/
theorem cfLedger_takes (h : stubArrives s b 0x04) (h1 : fieldAt (stubBody b) 0 4 = 1)
    (hcrc : fieldAt (((stubBody b).drop 8).take 192) 0xBC 4 = crc32c ((((stubBody b).drop 8).take 192).take 0xBC)) :
    let e := ((stubBody b).drop 8).take 192
    ∃ t, exec (.cfLedger b) s = .next t ∧ stubTaken s t ∧ t.mem = s.mem ∧
      t.cf.ledger.get (fieldAt e 8 2 * 2 ^ 33 + fieldAt e 0 8) = if fieldAt e 10 1 = 3 then [] else e := by
  intro e
  obtain ⟨t, hx, ht, hn, hr⟩ := State.cfReceive_keeps (i := .cfLedger b) (c := { s.stubAt.cf with
      ledger := s.stubAt.cf.ledger.set (fieldAt e 8 2 * 2 ^ 33 + fieldAt e 0 8) (if fieldAt e 10 1 = 3 then [] else e) })
    h rfl rfl (by rw [h1]; exact if_neg (fun hc => hc hcrc)) rfl rfl
  refine ⟨t, hx, ht, (s.stubAt_stubbed.trans hr).mem, ?_⟩
  rw [hn.ledger]
  exact AMap.get_set_self _ _ _

/-- A released range leaves MIRROR (R257). -/
theorem cfRelease_takes (h : stubArrives s b 0x07) (h1 : fieldAt (stubBody b) 0 4 = 1)
    (hlt : fieldAt (((stubBody b).drop 8).take 16) 0 8 < 2 ^ 63) :
    let e := ((stubBody b).drop 8).take 16
    ∃ t, exec (.cfRelease b) s = .next t ∧ stubTaken s t ∧ t.mem = s.mem ∧
      t.cf.mirror = s.cf.mirror.flatMap (fun m => m.trim (fieldAt e 0 8) (fieldAt e 8 8)) := by
  intro e
  obtain ⟨t, hx, ht, hn, hr⟩ := State.cfReceive_keeps (i := .cfRelease b) (c := { s.stubAt.cf with
      mirror := s.stubAt.cf.mirror.flatMap (fun m => m.trim (fieldAt e 0 8) (fieldAt e 8 8)) })
    h rfl rfl (by rw [h1]; exact if_neg (Nat.not_le.2 hlt)) rfl rfl
  refine ⟨t, hx, ht, (s.stubAt_stubbed.trans hr).mem, hn.mirror.trans ?_⟩
  rw [s.stubAt_cf]

end

/-! #### Stubs that also show registers, answer, or change the mode -/

/-- The overlay after whole groups (R287). -/
def overlayGroups (c : Nat) (gs : List (List DbRec)) (m : AMap DbRec) : AMap DbRec :=
  gs.foldl (fun m g => (g.flatMap (DbRec.overlay c)).foldl (fun m x => m.set x.1 x.2) m) m

theorem State.overlayPut_foldl (c : Nat) (gs : List (List DbRec)) (s : State) :
    gs.foldl (fun s g => s.overlayPut c g) s = { s with cf := { s.cf with overlay := overlayGroups c gs s.cf.overlay } } := by
  induction gs generalizing s with
  | nil => rfl
  | cons g gs ih => exact ih (s.overlayPut c g)

theorem State.overlayTake_eq (s : State) (c : Nat) (l : List DbRec) : s.overlayTake c l = { s with cf := { s.cf with
    overlay := overlayGroups c (splitGroups l (s.cf.gathering.get c)).1 s.cf.overlay
    gathering := s.cf.gathering.set c (splitGroups l (s.cf.gathering.get c)).2 } } := by
  unfold State.overlayTake
  dsimp only
  rw [State.overlayPut_foldl]

/-- A HEARTBEAT of a partner that neither serves alone nor seals (R257, R402). -/
theorem State.beat_plain (s : State) {p : List Byte} (hp : p.length = 16) (h2 : fieldAt p 8 1 ≠ 2) (h4 : fieldAt p 8 1 ≠ 4)
    (h6 : fieldAt p 8 1 ≠ 6) : ∃ (w : State) (sb : Bool), w.cf = s.cf ∧ w.mode = s.mode ∧ w.mem = s.mem ∧
      w.getR R.TILL_CF_STATE = s.getR R.TILL_CF_STATE ∧ s.beat p = ({ w with cf := { w.cf with
        lastBeat := s.time, partnerOpsec := fieldAt p 0 8, partnerMode := fieldAt p 8 1, partnerGrade := fieldAt p 9 1
        partnerLimit := fieldAt p 12 4, sealBy := sb } } : State).hbSet 1 := by
  unfold State.beat
  extract_lets gap s1 s2 c s3 s4
  have hs3 : s4 = s3 := if_neg fun hc => h6 hc.1
  rw [if_neg (by omega), if_neg (by simp [h2, h4, h6]), hs3]
  have hhr (x : State) : x.holdRestart.cf = x.cf ∧ x.holdRestart.mode = x.mode ∧ x.holdRestart.mem = x.mem ∧
      x.holdRestart.getR R.TILL_CF_STATE = x.getR R.TILL_CF_STATE := by
    unfold State.holdRestart
    split
    · refine ⟨rfl, rfl, rfl, ?_⟩
      exact (State.getR_setF_ne _ _ _ (by decide)).trans (State.getR_setF_ne _ _ _ (by decide))
    · exact ⟨rfl, rfl, rfl, rfl⟩
  have h1 : s1.getR R.TILL_CF_STATE = s.getR R.TILL_CF_STATE := State.getR_setF_ne _ _ _ (by decide)
  refine ⟨s2, _, ?_, ?_, ?_, ?_, rfl⟩
  all_goals
    unfold s2
    split
  · exact (hhr s1).1
  · rfl
  · exact (hhr s1).2.1
  · rfl
  · exact (hhr s1).2.2.1
  · rfl
  · exact (hhr s1).2.2.2.trans h1
  · exact h1

/-- A stub's sending again (R258). -/
theorem resend_foldl (l : List Stub) (s : State) :
    let t := l.foldl (fun s x =>
      (s.addN R.TILL_CF_RESENDS 1).send (.stub (fieldAt x.bytes 2 1) [x.seq - s.cf.txBase] (s.restamp x 1))) s
    t.cf = s.cf ∧ t.docket = s.docket ∧ t.mem = s.mem ∧ t.getR R.TILL_CF_STATE = s.getR R.TILL_CF_STATE ∧
      t.getN R.TILL_CF_RESENDS = (s.getN R.TILL_CF_RESENDS + l.length) % 2 ^ 64 := by
  induction l generalizing s with
  | nil => exact ⟨rfl, rfl, rfl, rfl, (Nat.mod_eq_of_lt (s.getR _).isLt).symm⟩
  | cons x l ih =>
    obtain ⟨hcf, hd, hm, hst, hn⟩ := ih ((s.addN R.TILL_CF_RESENDS 1).send
      (.stub (fieldAt x.bytes 2 1) [x.seq - s.cf.txBase] (s.restamp x 1)))
    have h1 : ((s.addN R.TILL_CF_RESENDS 1).send (.stub (fieldAt x.bytes 2 1) [x.seq - s.cf.txBase] (s.restamp x 1))).getN
        R.TILL_CF_RESENDS = (s.getN R.TILL_CF_RESENDS + 1) % 2 ^ 64 := State.getN_setN_self _ _ _
    rw [h1] at hn
    refine ⟨hcf, hd, hm, hst.trans (State.getR_setN_ne _ _ (by decide)), hn.trans ?_⟩
    rw [List.length_cons]
    omega

section
variable {s : State} {b : List Byte} {fl : List FlashCmn}

/-- A stub that is taken, of an instruction that receives it. -/
theorem exec_takes {type : Nat} {want : Nat → Bool} {k : List Byte → State → State} {i : Instr} {v : State} (h : stubArrives s b type)
    (hx : exec i s = .next (s.cfReceive b want k)) (hw : want type = true) (hv : k (stubBody b) s.stubAt = v)
    (hrx : v.cf.rxSeq = s.stubAt.cf.rxSeq) (htx : s.stubAt.cf.txSeq ≤ v.cf.txSeq)
    (hup : v.getR R.TILL_CF_STATE = s.stubAt.getR R.TILL_CF_STATE) : ∃ t, exec i s = .next t ∧ stubTaken s t ∧ v.Stubbed t := by
  have hcf := s.stubAt_cf
  obtain ⟨ht, hn⟩ := State.cfReceive_takes h hw hv (hrx.trans (congrArg Cf.rxSeq hcf :)) ((congrArg Cf.txSeq hcf :) ▸ htx)
    (hup.trans s.stubAt_stubbed.getR)
  exact ⟨_, hx, ht, hn⟩

/-- HEARTBEAT (R257, R402). -/
theorem cfHeartbeat_takes (h : stubArrives s b 0x01) (hlen : (stubBody b).length = 16) (h2 : fieldAt (stubBody b) 8 1 ≠ 2)
    (h4 : fieldAt (stubBody b) 8 1 ≠ 4) (h6 : fieldAt (stubBody b) 8 1 ≠ 6) : ∃ t, exec (.cfHeartbeat b) s = .next t ∧
      stubTaken s t ∧ t.cf.lastBeat = s.time ∧ t.cf.partnerOpsec = fieldAt (stubBody b) 0 8 ∧
      t.cf.partnerMode = fieldAt (stubBody b) 8 1 ∧ t.cf.partnerGrade = fieldAt (stubBody b) 9 1 ∧
      t.cf.partnerLimit = fieldAt (stubBody b) 12 4 ∧ t.getF F.COUNCIL_PAIR_HB = 1 ∧ t.getF F.IDENT_MODE_PARTNER = 1 ∧
      t.mode = s.mode ∧ t.mem = s.mem := by
  obtain ⟨w, sb, hcf, hmode, hmem, hst, hv⟩ := s.stubAt.beat_plain hlen h2 h4 h6
  obtain ⟨t, hx, ht, hn⟩ := exec_takes (i := .cfHeartbeat b) h rfl rfl hv (congrArg Cf.rxSeq hcf :) (Nat.le_of_eq (congrArg Cf.txSeq hcf :).symm)
    (((State.getR_setF_ne _ _ _ (by decide)).trans (State.getR_setF_ne _ _ _ (by decide))).trans hst)
  have hu := s.stubAt_stubbed
  refine ⟨t, hx, ht, (congrArg Cf.lastBeat hn.cf :).trans hu.time, (congrArg Cf.partnerOpsec hn.cf :), (congrArg Cf.partnerMode hn.cf :),
    (congrArg Cf.partnerGrade hn.cf :), (congrArg Cf.partnerLimit hn.cf :), ?_, ?_, (hn.mode.trans hmode).trans hu.mode,
    (hn.mem.trans hmem).trans hu.mem⟩
  · rw [hn.getF]
    exact (State.getF_setF_ne _ _ _ _ (by decide)).trans (State.getF_setF_self _ _ _ (by decide))
  · rw [hn.getF]
    exact State.getF_setF_self _ _ _ (by decide)

/-- What a DAYBOOK stub does: its groups enter the overlay, and the epoch counter follows (R237, R287). -/
def State.daybookTake (s : State) (p : List Byte) : State :=
  let rs := parseRecs 1024 (p.drop 8)
  (s.overlayTake (fieldAt p 0 2) rs).setF F.SIEVE_EPOCH_VAL
    ((rs.filter (fun r => r.typ = 0x0B)).foldl (fun n r => max n (fieldAt r.body 0 4 + 1)) s.poolEpoch)

theorem State.daybookTake_eq (s : State) (p : List Byte) : ∃ e, s.daybookTake p = ({ s with cf := { s.cf with
    overlay := overlayGroups (fieldAt p 0 2) (splitGroups (parseRecs 1024 (p.drop 8)) (s.cf.gathering.get (fieldAt p 0 2))).1 s.cf.overlay
    gathering := s.cf.gathering.set (fieldAt p 0 2)
      (splitGroups (parseRecs 1024 (p.drop 8)) (s.cf.gathering.get (fieldAt p 0 2))).2 } } : State).setF F.SIEVE_EPOCH_VAL e := by
  unfold State.daybookTake
  dsimp only
  rw [State.overlayTake_eq]
  exact ⟨_, rfl⟩

/-- DAYBOOK (R287). -/
theorem cfDaybook_takes (h : stubArrives s b 0x03) : ∃ t, exec (.cfDaybook b) s = .next t ∧ stubTaken s t ∧ t.mem = s.mem ∧
    (let c := fieldAt (stubBody b) 0 2
     let g := splitGroups (parseRecs 1024 ((stubBody b).drop 8)) (s.cf.gathering.get c)
     t.cf.gathering.get c = g.2 ∧ (g.1 = [] → t.cf.overlay = s.cf.overlay) ∧
     (∀ l, g.1 = [l] → t.cf.overlay = (l.flatMap (DbRec.overlay c)).foldl (fun m x => m.set x.1 x.2) s.cf.overlay)) := by
  obtain ⟨e, hv⟩ := s.stubAt.daybookTake_eq (stubBody b)
  obtain ⟨t, hx, ht, hn⟩ := exec_takes (i := .cfDaybook b) (k := fun p s => s.daybookTake p) h rfl rfl hv rfl le_rfl
    (State.getR_setF_ne _ _ _ (by decide))
  have hu := s.stubAt_stubbed
  have hover : t.cf.overlay = overlayGroups (fieldAt (stubBody b) 0 2) (splitGroups (parseRecs 1024 ((stubBody b).drop 8))
    (s.stubAt.cf.gathering.get (fieldAt (stubBody b) 0 2))).1 s.stubAt.cf.overlay := hn.overlay
  rw [hu.gathering, hu.overlay] at hover
  refine ⟨t, hx, ht, hn.mem.trans hu.mem, ?_, fun h0 => ?_, fun l hl => ?_⟩
  · rw [hn.gathering, ← hu.gathering]
    exact AMap.get_set_self _ _ _
  · rw [hover, h0]
    rfl
  · rw [hover, hl]
    rfl

/-- The partner's SOLO test leaves its free space, and is answered (R162). -/
theorem State.cfAct_solo (s : State) (fl : List FlashCmn) {p : List Byte} (hk : fieldAt p 0 1 = 5) (hd : fieldAt p 1 1 = 0) :
    ∃ q, s.cfAct fl p = (s.partnerFree (fieldAt p 8 8) (fieldAt p 16 8)).sendStub 0x08 q := by
  unfold State.cfAct
  dsimp only
  rw [if_neg (by omega), if_neg (by omega), if_neg (by omega), hk]
  exact ⟨_, rfl⟩

/-- The roll's activation is kept until the next step of the roll (R458). -/
theorem State.cfAct_activate (s : State) (fl : List FlashCmn) {p : List Byte} (hk : fieldAt p 0 1 = 11) (hd : fieldAt p 1 1 = 0) :
    s.cfAct fl p = { s with strong := { s.strong with rollTask := 2 } } := by
  unfold State.cfAct
  dsimp only
  rw [if_neg (by omega), if_neg (by omega), if_neg (by omega), hk]
  rfl

/-- A SOLO test (R162). -/
theorem cfAct_takes_solo (h : stubArrives s b 0x08) (hk : fieldAt (stubBody b) 0 1 = 5) (hd : fieldAt (stubBody b) 1 1 = 0) :
    ∃ t, exec (.cfAct b fl) s = .next t ∧ stubTaken s t ∧ t.toll.partnerSlcFree = fieldAt (stubBody b) 8 8 ∧
      t.toll.partnerSpaceFree = fieldAt (stubBody b) 16 8 ∧ t.toll.takes = s.toll.takes ∧ t.mem = s.mem := by
  obtain ⟨q, hv⟩ := s.stubAt.cfAct_solo fl hk hd
  obtain ⟨hs, htx, hrx⟩ := (s.stubAt.partnerFree (fieldAt (stubBody b) 8 8) (fieldAt (stubBody b) 16 8)).sendStub_stubbed 0x08 q
  obtain ⟨t, hx, ht, hn⟩ := exec_takes (i := .cfAct b fl) h rfl rfl hv hrx ((Nat.le_succ _).trans_eq htx.symm) hs.getR
  have hu := s.stubAt_stubbed
  have hto := hn.toll.trans hs.toll
  exact ⟨t, hx, ht, (congrArg Toll.partnerSlcFree hto :), (congrArg Toll.partnerSpaceFree hto :),
    (congrArg Toll.takes hto :).trans (congrArg Toll.takes hu.toll :), (hn.mem.trans hs.mem).trans hu.mem⟩

/-- The roll's activation (R458). -/
theorem cfAct_takes_activate (h : stubArrives s b 0x08) (hk : fieldAt (stubBody b) 0 1 = 11) (hd : fieldAt (stubBody b) 1 1 = 0) :
    ∃ t, exec (.cfAct b fl) s = .next t ∧ stubTaken s t ∧ t.strong.rollTask = 2 ∧ t.mem = s.mem := by
  obtain ⟨t, hx, ht, hn⟩ := exec_takes (i := .cfAct b fl) h rfl rfl (s.stubAt.cfAct_activate fl hk hd) rfl le_rfl rfl
  exact ⟨t, hx, ht, (congrArg Strong.rollTask hn.strong :), hn.mem.trans s.stubAt_stubbed.mem⟩

/-- NAK (R258). -/
theorem cfNak_takes (h : stubArrives s b 0x0C) : ∃ t, exec (.cfNak b) s = .next t ∧ stubTaken s t ∧ t.docket = s.docket ∧
    t.mem = s.mem ∧ t.getN R.TILL_CF_RESENDS = (s.getN R.TILL_CF_RESENDS + (s.cf.store.filter (fun x =>
      decide (s.cf.txBase + fieldAt (stubBody b) 0 8 ≤ x.seq) && decide (x.seq ≤ s.cf.sent))).length) % 2 ^ 64 := by
  obtain ⟨hcf, hd, hm, hst, hc⟩ := resend_foldl (s.stubAt.cf.store.filter (fun x =>
    decide (s.stubAt.cf.txBase + fieldAt (stubBody b) 0 8 ≤ x.seq) && decide (x.seq ≤ s.stubAt.cf.sent))) s.stubAt
  obtain ⟨t, hx, ht, hn⟩ := exec_takes (i := .cfNak b) h rfl rfl rfl (congrArg Cf.rxSeq hcf :) (Nat.le_of_eq (congrArg Cf.txSeq hcf :).symm) hst
  have hu := s.stubAt_stubbed
  refine ⟨t, hx, ht, (hn.docket.trans hd).trans hu.docket, (hn.mem.trans hm).trans hu.mem, ?_⟩
  rw [hn.getN]
  refine hc.trans ?_
  rw [hu.getN, s.stubAt_cf]

/-- A stub of a reserved type (R257). -/
theorem cfReserved_takes {type : Nat} (hty : type = 0 ∨ 0x0C < type) (h : stubArrives s b type) : ∃ t,
    exec (.cfReservedStub b) s = .next t ∧ stubTaken s t ∧
      t.getF F.TILL_CF_ERR_LENGTH = (s.getF F.TILL_CF_ERR_LENGTH + 1) % 2 ^ 32 ∧ t.docket = s.docket ∧ t.toll = s.toll ∧ t.mem = s.mem := by
  obtain ⟨t, hx, ht, hn⟩ := exec_takes (i := .cfReservedStub b) h rfl (by simpa using hty) rfl rfl le_rfl
    (State.getR_setF_ne _ _ _ (by decide))
  have hu := s.stubAt_stubbed
  refine ⟨t, hx, ht, ?_, hn.docket.trans hu.docket, hn.toll.trans hu.toll, hn.mem.trans hu.mem⟩
  rw [hn.getF, ← hu.getF]
  exact State.getF_setF_self _ _ _ (by decide)

end

/-! #### The end of the transfer, and the partner's flush done -/

/-- A mode change leaves the Counterfoil. -/
theorem State.setMode_cf (s : State) (m : Mode) (cause : Nat) : (s.setMode m cause).cf = s.cf :=
  (congrArg State.cf (State.regEvent_rest _ _ _ _ _) :)

theorem State.setMode_pair (s : State) (m : Mode) (cause : Nat) : (s.setMode m cause).pair = s.pair :=
  (congrArg State.pair (State.regEvent_rest _ _ _ _ _) :)

theorem State.setMode_mem (s : State) (m : Mode) (cause : Nat) : (s.setMode m cause).mem = s.mem :=
  (congrArg State.mem (State.regEvent_rest _ _ _ _ _) :)

/-- A mode change leaves the registers outside the IDENT block that no record touches. -/
theorem State.getR_setMode (s : State) (m : Mode) (cause : Nat) {k : Nat} (hk : 0x1000 ≤ k) (hq : noisy k = false) :
    (s.setMode m cause).getR k = s.getR k := by
  have h1 : k ≠ R.IDENT_MODE := by unfold R.IDENT_MODE; omega
  have h2 : k ≠ R.IDENT_MODE_SEQ := by unfold R.IDENT_MODE_SEQ; omega
  refine (State.getR_regEvent_quiet _ hq _ _ _ _).trans ?_
  rw [State.getR_setF_ne _ _ _ h1, State.getR_setF_ne _ _ _ h1, State.getR_setF_ne _ _ _ h1, State.getR_setF_ne _ _ _ h1,
    State.getR_setN_ne _ _ h2]
  rfl

/-- A joining head stands by in SERVICE once the transfer has ended (R51, R412). -/
theorem State.joinStand_facts (s : State) : s.joinStand.mode = .service ∧ s.joinStand.getF F.IDENT_MODE_MODE = Mode.service.code ∧
    s.joinStand.pair.joined = false ∧ s.joinStand.getF F.COUNCIL_FAILBACK_STATE =
      (if s.strong.rolling = true ∨ (s.pairFeat 6 = true ∧ s.getF F.IDENT_JOIN_HOLDOFF ≠ 0) then 1 else 2) ∧
    s.joinStand.cf = s.cf ∧ s.joinStand.mem = s.mem ∧ s.joinStand.getR R.TILL_CF_STATE = s.getR R.TILL_CF_STATE := by
  unfold State.joinStand
  extract_lets auto wait s' s0 p s1
  have hlow (k : Nat) (h1 : k ≠ R.COUNCIL_FAILBACK) : ((s1.setF F.COUNCIL_FAILBACK_STATE (if auto = true then 1 else 2)).setF
      F.COUNCIL_FAILBACK_LEFT (if auto = true then wait else 0)).getR k = s1.getR k :=
    (State.getR_setF_ne _ _ _ h1).trans (State.getR_setF_ne _ _ _ h1)
  refine ⟨State.setMode_mode _ _ _, ?_, (congrArg Pair.joined (State.setMode_pair _ _ _) :), ?_, State.setMode_cf _ _ _,
    State.setMode_mem _ _ _, ?_⟩
  · exact (congrArg F.IDENT_MODE_MODE.get (hlow _ (by decide))).trans (State.getF_modeFrom_mode _ _ _ _)
  · refine (State.getF_setF_ne _ _ _ _ (by decide)).trans ((State.getF_setF_self _ _ _ (by decide)).trans ?_)
    simp only [auto, Bool.or_eq_true, Bool.and_eq_true, decide_eq_true_eq]
    split <;> rfl
  · refine (hlow _ (by decide)).trans ((State.getR_setMode _ _ _ (by decide) (by decide)).trans ?_)
    exact (State.getR_setF_ne _ _ _ (by decide)).trans (State.getR_setF_ne _ _ _ (by decide))

/-- Which part a head takes in a loss depends on its mode, its slot, its commons, its fence and its failback (R406). -/
theorem State.lossRole_congr {s t : State} (hm : t.mode = s.mode) (hh : t.hold = s.hold) (ho : ∀ c, t.owns c = s.owns c)
    (hf : t.selfFenced = s.selfFenced) (hs : t.slotNo = s.slotNo) (hb : t.getF F.COUNCIL_FAILBACK_STATE = s.getF F.COUNCIL_FAILBACK_STATE) :
    t.lossRole = s.lossRole := by
  have hall : t.ownsAll = s.ownsAll := by
    unfold State.ownsAll
    rw [hh, funext ho]
  unfold State.lossRole State.alone State.bothServe State.isStandby
  rw [hall, hm, hf, hs, hb]

/-- No count of stubs stands above the Till's block. -/
theorem stubCounts_above {k : Nat} (h : 0x500000 ≤ k) : stubCounts k = false := by
  simp [stubCounts, noisy, R.TILL_CF_TX_STUBS, R.TILL_CF_RX_STUBS, R.TILL_CF_TX_BYTES]
  omega

/-- The second head waits (R406). -/
theorem State.lossGo_second {s : State} (fl : List FlashCmn) (h : s.lossRole = 2) : s.lossGo fl =
    ({ s.setF F.COUNCIL_PAIR_ROLE 2 with pair := { s.pair with second := s.time + 1 } } : State).landsHold := by
  unfold State.lossGo
  rw [h]
  rfl

section
variable {s : State} {b : List Byte} {fl : List FlashCmn}

/-- The end of the transfer (R51). -/
theorem cfJoin_takes (h : stubArrives s b 0x09) (hp : fieldAt (stubBody b) 0 1 = 2) (hm : s.mode = .joining) (hj : s.pair.joined = true) :
    ∃ t, exec (.cfJoin b fl) s = .next t ∧ stubTaken s t ∧ t.mode = .service ∧ t.getF F.IDENT_MODE_MODE = Mode.service.code ∧
      t.pair.joined = false ∧ t.getF F.COUNCIL_FAILBACK_STATE =
        (if s.strong.rolling = true ∨ (s.pairFeat 6 = true ∧ s.getF F.IDENT_JOIN_HOLDOFF ≠ 0) then 1 else 2) ∧ t.mem = s.mem := by
  have hu := s.stubAt_stubbed
  obtain ⟨hmode, hshown, hjoined, hfail, hcf, hmem, hst⟩ := s.stubAt.joinStand_facts
  have hpf : s.stubAt.pairFeat 6 = s.pairFeat 6 := by
    unfold State.pairFeat
    rw [hu.getR]
  rw [hpf, hu.strong, hu.getF] at hfail
  obtain ⟨t, hx, ht, hn⟩ := exec_takes (i := .cfJoin b fl) h rfl rfl
    ((if_pos hp).trans (if_pos ⟨hu.mode.trans hm, (congrArg Pair.joined hu.pair :).trans hj⟩)) (congrArg Cf.rxSeq hcf :)
    (Nat.le_of_eq (congrArg Cf.txSeq hcf :).symm) hst
  exact ⟨t, hx, ht, hn.mode.trans hmode, hn.getF.trans hshown, (congrArg Pair.joined hn.pair :).trans hjoined, hn.getF.trans hfail,
    (hn.mem.trans hmem).trans hu.mem⟩

/-- FLUSH_DONE lets the second head wait (R269, R406). -/
theorem cfFlushDone_takes (h : stubArrives s b 0x0B) (hh : s.cf.holdup = true) (hrole : s.lossRole = 2) :
    ∃ t, exec (.cfFlushDone b fl) s = .next t ∧ stubTaken s t ∧ waitsSecond s t ∧ t.getF F.COUNCIL_PAIR_HB = 0 ∧ t.cf.holdup = false ∧
      t.cf.flushDone = true ∧ (fieldAt (stubBody b) 8 4 = 0 → t.cf.mirror = [] ∧ t.cf.ledger = []) ∧
      (fieldAt (stubBody b) 8 4 ≠ 0 → t.cf.mirror = s.cf.mirror) := by
  have hu := s.stubAt_stubbed
  let c : Cf := { s.stubAt.cf with
    holdup := false, flushDone := true, mirror := if fieldAt (stubBody b) 8 4 = 0 then [] else s.stubAt.cf.mirror
    ledger := if fieldAt (stubBody b) 8 4 = 0 then [] else s.stubAt.cf.ledger }
  let w : State := ({ s.stubAt with cf := c } : State).hbSet 0
  have hw {k : Nat} (h1 : k ≠ R.COUNCIL_PAIR) (h2 : k ≠ R.IDENT_MODE) : w.getR k = s.stubAt.getR k :=
    (State.getR_setF_ne _ _ _ h2).trans (State.getR_setF_ne _ _ _ h1)
  have hpair {f : Fld} (h1 : f.apart F.COUNCIL_PAIR_HB = true) (h2 : f.apart F.IDENT_MODE_PARTNER = true) : w.getF f = s.stubAt.getF f :=
    (State.getF_setF_ne _ _ _ _ h2).trans (State.getF_setF_ne _ _ _ _ h1)
  have hk (k : Nat) : 0x500000 ≤ (F.HOLD_CMN_OWNED.at k).addr := Nat.le_add_right_of_le (by decide)
  have h1 (k : Nat) : (F.HOLD_CMN_OWNED.at k).addr ≠ F.COUNCIL_PAIR_HB.addr := Nat.ne_of_gt (Nat.lt_of_lt_of_le (by decide) (hk k))
  have h2 (k : Nat) : (F.HOLD_CMN_OWNED.at k).addr ≠ F.IDENT_MODE_PARTNER.addr := Nat.ne_of_gt (Nat.lt_of_lt_of_le (by decide) (hk k))
  have hrole' : w.lossRole = 2 := by
    refine Eq.trans (State.lossRole_congr hu.mode hu.hold (fun k => ?_) ?_ ?_ ?_) hrole
    · unfold State.owns
      rw [hpair (by simp [Fld.apart, h1 k]) (by simp [Fld.apart, h2 k]), hu.getF (stubCounts_above (hk k))]
    · unfold State.selfFenced
      rw [hpair (by decide) (by decide), hu.getF]
    · unfold State.slotNo
      rw [hpair (by decide) (by decide), hu.getF]
    · rw [hpair (by decide) (by decide), hu.getF]
  obtain ⟨t, hx, ht, hn⟩ := exec_takes (i := .cfFlushDone b fl) h rfl rfl
    ((if_neg (by rw [hu.holdup, hh]; decide)).trans (State.lossGo_second fl hrole')) rfl le_rfl
    ((State.getR_setF_ne _ _ _ (by decide)).trans (hw (by decide) (by decide)))
  have hmir : t.cf.mirror = if fieldAt (stubBody b) 8 4 = 0 then [] else s.stubAt.cf.mirror := hn.mirror
  have hled : t.cf.ledger = if fieldAt (stubBody b) 8 4 = 0 then [] else s.stubAt.cf.ledger := hn.ledger
  refine ⟨t, hx, ht, ⟨?_, ?_, hn.mode.trans hu.mode, hn.docket.trans hu.docket, hn.mem.trans hu.mem⟩, ?_, hn.holdup,
    (congrArg Cf.flushDone hn.cf :), fun h0 => ⟨hmir.trans (if_pos h0), hled.trans (if_pos h0)⟩,
    fun h0 => (hmir.trans (if_neg h0)).trans hu.mirror⟩
  · rw [hn.getF]
    exact State.getF_setF_self _ _ _ (by decide)
  · refine (congrArg Pair.second hn.pair :).trans ?_
    exact congrArg (· + 1) hu.time
  · rw [hn.getF]
    refine (State.getF_setF_ne _ _ _ _ (by decide)).trans ((State.getF_setF_ne _ _ _ _ (by decide)).trans ?_)
    exact State.getF_setF_self _ _ _ (by decide)

end

/-- Settles O37: each stub's effect changes what the head keeps of its partner and what the type names, keeps the link and the
sequences, and is then acknowledged. -/
theorem stubsAreTaken : Obligations.StubsAreTaken := fun _ _ _ =>
  ⟨cfHeartbeat_takes, cfTillData_takes, cfDaybook_takes, cfLedger_takes, cfTakeState_takes, cfDocket_takes, cfRelease_takes,
    fun h hd => ⟨fun hk => cfAct_takes_solo h hk hd, fun hk => cfAct_takes_activate h hk hd⟩, cfJoin_takes, cfHoldupNotice_takes,
    cfFlushDone_takes, cfNak_takes, fun _ hty => cfReserved_takes hty⟩

end Sys2Proof.Machine
end

section
/-! PROOFS. The keeper's tasks (R387 to R391): a RECORD_ARM that is accepted serves the Toll (R159), so takes other than its own
can change. -/

open Sys2Proof Sys2Proof.Claims

namespace Sys2Proof.Machine

/-- A keeper port that is up with volume 0, and a RECORDING take on it: a landed frame of the take waits for tokens which the
balances by now hold. -/
def frameAtTheToll : State :=
  let port (f : Fld) : Fld := magF f 1
  let s := (((({ State.reset with mode := .solo, power := .on }.setN R.IDENT_FEAT_MGMT (2 ^ 64 - 1)).setF (port F.MAGPORT_P_CFG_ROLE) 1).setF
    (port F.MAGPORT_P_CFG_ENABLE) 1).setF (port F.MAGPORT_P_LINK_STATE) 4).setF (F.HOLD_CMN_OWNED.at 0) 1
  { s with
    mag := { s.mag with ports := [(1, { (default : MagPort) with rxNext := 3, txSeq := 5, queue := 2, lanes := 15 })] }
    docket := { s.docket with
      vols := [(0, { (default : Vol) with size := 1000, slot := 1 })]
      queues := [(1, { (default : Queue) with kind := kMagazine, depth := 64, source := 1 }),
        (7, { (default : Queue) with kind := kTake, depth := 2048 })]
      tags := [(0, { (default : Tag) with
        state := .waiting, queue := 7, entry := 7, reeve := 1, take := 2, leaf := 160, leaves := 16, declared := 65536, arrived := 65536
        tollFrom := 1, slot := 1 })] }
    toll := { s.toll with
      inTok := 65536
      takes := [(2, { (default : Take) with
        state := 2, rate := 65536, frameBytes := 65536, frameRate := 1, firstLeaf := 160, port := 0x11, direct := true, queue := 7
        regFrames := 4, tokens := 65536 })] } }

/-- A TASK_WRITE of RECORD_ARM to register 7 (R387). -/
def armFolio : List Byte :=
  (folioBytes 0x10 0 7 3 0xFFFFFFFF 0 2 (leBytes 1 6 ++ leBytes 3 0 ++ leBytes 4 4096 ++ List.replicate 56 0)).drop 8

theorem armFolio_arrives : taskArrives frameAtTheToll 1 0 armFolio 0x06 := by
  unfold taskArrives folioArrives takesOne tagsCanonical
  refine ⟨?_, ?_⟩ <;> decide +kernel

/-- The frame passes the Toll as the task is accepted, and its take's gate pays for it (R156, R159). -/
theorem armFolio_gate : ((frameAtTheToll.takeOf 2).tokens = 65536) ∧
    ((frameAtTheToll.magTaskRow 1 0 armFolio (fun o => o = 0x06)).takeOf 2).tokens = 0 := by
  constructor <;> decide +kernel

/-- Refutes O45: RECORD_ARM does not always leave the takes alone. Its acceptance serves the Toll, and a frame that waits there passes
with the tokens of its take's gate. -/
theorem not_magazineTasksAreAccepted : ¬ Obligations.MagazineTasksAreAccepted := by
  intro h
  obtain ⟨-, -, -, -, -, -, -, -, -, harm, -⟩ := h frameAtTheToll 1 0 armFolio
  obtain ⟨t, ht, -, htakes⟩ := harm armFolio_arrives
  have hrun : frameAtTheToll.magTaskRow 1 0 armFolio (fun o => o = 0x06) = t := Host.Outcome.next.inj ht
  obtain ⟨hbefore, hafter⟩ := armFolio_gate
  have hsame : (t.takeOf 2).tokens = (frameAtTheToll.takeOf 2).tokens := congrArg (fun m => (AMap.get m 2).tokens) htakes
  rw [hrun, hsame, hbefore] at hafter
  exact absurd hafter (by decide)

end Sys2Proof.Machine
end

section
/-! PROOFS. The Docket's shared rules (R122 to R161): tags and queues read back; what serving the Toll and mirroring leave alone; a
command accepted; queues that resume and reset; an admin command accepted and ended. -/

open Sys2Proof Sys2Proof.Claims

namespace Sys2Proof.Machine

/-! ### Tags, queues and controllers read back -/

section
variable (s : State) (k q : Nat) (g : Tag) (x : Queue) (c : Ctrl)

@[simp] theorem State.tagOf_putTag_self : (s.putTag k g).tagOf k = g := AMap.get_set_self _ _ _

theorem State.tagOf_putTag_ne {j : Nat} (h : j ≠ k) : (s.putTag k g).tagOf j = s.tagOf j := AMap.get_set_ne _ _ h

@[simp] theorem State.queueOf_putQueue_self : (s.putQueue q x).queueOf q = x := AMap.get_set_self _ _ _

@[simp] theorem State.ctrlOf_putCtrl_self (n : Nat) : (s.putCtrl n c).ctrlOf n = c := AMap.get_set_self _ _ _

end

/-! ### What serving the Toll and mirroring leave alone -/

/-- A state but for its registers, records, output, what its partner holds, the Toll's balances, a planned move and its tags. -/
def State.fixed (s : State) : State :=
  { s with regs := [], obs := default, outbox := [], cf := default, toll := default, pair := default, docket := { s.docket with tags := [] } }

/-- A tag but for what the Toll notes on it (R138, R159). -/
def Tag.untolled (g : Tag) : Tag := { g with tollPassed := false, tollFrom := 0, tollUs := 0 }

/-- A state that differs from another in what the Docket does beside a command's own effect: it counts, records, mirrors to the
partner, and serves the Toll, which notes on WAITING tags alone. -/
structure State.Served (s t : State) : Prop where
  fixed : t.fixed = s.fixed
  out : ∃ l, t.outbox = s.outbox ++ l
  tag : ∀ k, (t.tagOf k).untolled = (s.tagOf k).untolled
  still : ∀ k, (s.tagOf k).state ≠ .waiting → t.tagOf k = s.tagOf k
  wf : tagsCanonical s → tagsCanonical t

section
variable {s t u : State}

theorem State.Served.queues (h : s.Served t) : t.docket.queues = s.docket.queues := (congrArg (fun x : State => x.docket.queues) h.fixed :)

theorem State.Served.ctrls (h : s.Served t) : t.docket.ctrls = s.docket.ctrls := (congrArg (fun x : State => x.docket.ctrls) h.fixed :)

theorem State.Served.vols (h : s.Served t) : t.docket.vols = s.docket.vols := (congrArg (fun x : State => x.docket.vols) h.fixed :)

theorem State.Served.mem (h : s.Served t) : t.mem = s.mem := (congrArg State.mem h.fixed :)

theorem State.Served.freeCtr (h : s.Served t) : t.freeCtr = s.freeCtr := (congrArg State.freeCtr h.fixed :)

theorem State.Served.queueOf (h : s.Served t) (q : Nat) : t.queueOf q = s.queueOf q := congrArg (AMap.get · q) h.queues

theorem State.Served.ctrlOf (h : s.Served t) (n : Nat) : t.ctrlOf n = s.ctrlOf n := congrArg (AMap.get · n) h.ctrls

theorem State.Served.volOf (h : s.Served t) (v : Nat) : t.volOf v = s.volOf v := congrArg (AMap.get · v) h.vols

theorem State.Served.state (h : s.Served t) (k : Nat) : (t.tagOf k).state = (s.tagOf k).state := (congrArg Tag.state (h.tag k) :)

theorem State.Served.queue (h : s.Served t) (k : Nat) : (t.tagOf k).queue = (s.tagOf k).queue := (congrArg Tag.queue (h.tag k) :)

theorem State.Served.cid (h : s.Served t) (k : Nat) : (t.tagOf k).cid = (s.tagOf k).cid := (congrArg Tag.cid (h.tag k) :)

theorem State.Served.trans (h : s.Served t) (g : t.Served u) : s.Served u where
  fixed := g.fixed.trans h.fixed
  out := by
    obtain ⟨l, hl⟩ := h.out
    obtain ⟨m, hm⟩ := g.out
    exact ⟨l ++ m, by rw [hm, hl, List.append_assoc]⟩
  tag k := (g.tag k).trans (h.tag k)
  still k hk := (g.still k (by rwa [h.state])).trans (h.still k hk)
  wf hs := g.wf (h.wf hs)

/-- An update that leaves the Docket alone. -/
theorem State.Served.of_docket (hd : t.docket = s.docket) (hf : t.fixed = s.fixed) (ho : ∃ l, t.outbox = s.outbox ++ l) : s.Served t where
  fixed := hf
  out := ho
  tag k := by unfold State.tagOf; rw [hd]
  still k _ := by unfold State.tagOf; rw [hd]
  wf hs := by unfold tagsCanonical; rwa [hd]

/-- Counting and recording. -/
theorem State.Served.of_rest (h : t.rest = s.rest) : s.Served t :=
  .of_docket (congrArg State.docket h :)
    (congrArg State.fixed h :) ⟨[], (congrArg State.outbox h :).trans (List.append_nil _).symm⟩

theorem State.Served.refl (s : State) : s.Served s := .of_rest rfl

/-- The bytes of memory are of no account. -/
theorem State.Served.withMem (h : s.Served t) (m : List Host.Cell) : State.Served { s with mem := m } { t with mem := m } where
  fixed := (congrArg (fun x : State => { x with mem := m }) h.fixed :)
  out := h.out
  tag := h.tag
  still := h.still
  wf := h.wf

/-- What the Toll notes on a WAITING tag. -/
theorem State.Served.putTag {k : Nat} {g : Tag} (hw : (s.tagOf k).state = .waiting) (hg : g.untolled = (s.tagOf k).untolled) :
    s.Served (s.putTag k g) where
  fixed := rfl
  out := ⟨[], (List.append_nil _).symm⟩
  tag j := by
    by_cases hj : j = k
    · rw [hj, State.tagOf_putTag_self, hg]
    · rw [s.tagOf_putTag_ne k g hj]
  still j hj := s.tagOf_putTag_ne k g (by rintro rfl; exact hj hw)
  wf hs := AMap.setD_wf _ _ _ _ hs

/-! #### Mirroring (R257, R259) -/

theorem State.cfPump_outbox (l : List Stub) (room : Nat) (s : State) : ∃ m, (State.cfPump l room s).outbox = s.outbox ++ m := by
  induction l generalizing room s with
  | nil => exact ⟨[], (List.append_nil _).symm⟩
  | cons x r ih =>
    unfold State.cfPump
    split
    · exact ⟨[], (List.append_nil _).symm⟩
    · split
      · exact ih _ s
      · obtain ⟨m, hm⟩ := ih (room - x.bytes.length) ((({ s with cf := { s.cf with sent := x.seq } }.addN R.TILL_CF_TX_STUBS 1).addN
          R.TILL_CF_TX_BYTES (fieldAt x.bytes 4 4)).send (.stub (fieldAt x.bytes 2 1) [x.seq - s.cf.txBase] (s.restamp x 0)))
        exact ⟨_, hm.trans (List.append_assoc _ _ _)⟩

theorem State.sendStub_outbox (s : State) (type : Nat) (p : List Byte) : ∃ m, (s.sendStub type p).outbox = s.outbox ++ m := by
  unfold State.sendStub
  extract_lets n b c s1
  split
  · exact State.cfPump_outbox _ _ s1
  · exact ⟨[], (List.append_nil _).symm⟩

theorem State.sendStub_served (s : State) (type : Nat) (p : List Byte) : s.Served (s.sendStub type p) := by
  obtain ⟨h, -, -⟩ := s.sendStub_stubbed type p
  exact .of_docket h.docket (congrArg State.fixed h.bare :) (s.sendStub_outbox type p)

theorem State.mirrorTag_served (s : State) (k : Nat) : s.Served (s.mirrorTag k) := by
  unfold State.mirrorTag State.mirror
  extract_lets g q
  split
  · exact s.sendStub_served _ _
  · exact .refl s

/-- The giving head of a planned move asks its partner to claim (R413). -/
theorem State.moveCheck_served (s : State) : s.Served s.moveCheck := by
  unfold State.moveCheck
  split
  · exact .refl s
  · next m _ =>
    split
    · have h1 : s.Served { s with pair := { s.pair with move := some { m with handed := true } } } :=
        .of_docket rfl rfl ⟨[], (List.append_nil _).symm⟩
      exact h1.trans (State.sendStub_served _ _ _)
    · exact .refl s

/-! #### The Toll (R159) -/

theorem State.tollPass_served {k : Nat} (hw : (s.tagOf k).state = .waiting) : s.Served (s.tollPass k) :=
  (State.Served.putTag hw (by rfl)).trans (.of_rest rfl)

theorem State.tollPay_docket (s : State) (g : Tag) : (s.tollPay g).docket = s.docket := by
  unfold State.tollPay
  extract_lets s1
  have h1 : s1.docket = s.docket := by unfold s1; split <;> rfl
  split <;> exact h1

theorem State.tollPay_served (s : State) (g : Tag) : s.Served (s.tollPay g) := by
  refine .of_docket (s.tollPay_docket g) ?_ ⟨[], ?_⟩
  all_goals
    unfold State.tollPay
    extract_lets s1
    unfold s1
    split <;> split <;> simp [State.fixed, State.putTake, State.tokensPay]

/-- The Toll passes or holds one WAITING command. -/
theorem State.tollOne_served {b : List Nat × State} {k : Nat} (hw : (b.2.tagOf k).state = .waiting) :
    b.2.Served (State.tollOne b k).2 := by
  unfold State.tollOne
  extract_lets s g short behind
  split
  · exact State.tollPass_served hw
  · split
    · have hp := s.tollPay_served g
      exact hp.trans (State.tollPass_served ((hp.state k).trans hw))
    · exact .putTag hw rfl

theorem State.tollOne_foldl_served (l : List Nat) (b : List Nat × State) (hw : ∀ k ∈ l, (b.2.tagOf k).state = .waiting) :
    b.2.Served (l.foldl State.tollOne b).2 := by
  induction l generalizing b with
  | nil => exact .refl _
  | cons k r ih =>
    have h1 := State.tollOne_served (hw k List.mem_cons_self)
    exact h1.trans (ih _ fun j hj => (h1.state j).trans (hw j (List.mem_cons_of_mem _ hj)))

theorem mem_insertByReeve {s : State} {k j : Nat} {l : List Nat} (h : j ∈ insertByReeve s k l) : j = k ∨ j ∈ l := by
  induction l with
  | nil => simpa [insertByReeve] using h
  | cons a r ih =>
    unfold insertByReeve at h
    split at h
    · simpa using h
    · obtain rfl | h := List.mem_cons.1 h
      · exact .inr List.mem_cons_self
      · exact (ih h).imp_right (List.mem_cons_of_mem a)

theorem State.mem_of_inReeveOrder {s : State} {j : Nat} {l : List Nat} (h : j ∈ s.inReeveOrder l) : j ∈ l := by
  induction l with
  | nil => exact h
  | cons a r ih =>
    obtain rfl | h := mem_insertByReeve h
    · exact List.mem_cons_self
    · exact List.mem_cons_of_mem a (ih h)

/-- What waits for the Toll is WAITING (R132). -/
theorem State.tollWaiting_waiting {s : State} {c k : Nat} (h : k ∈ s.tollWaiting c) : (s.tagOf k).state = .waiting := by
  have hc : s.clearToGo k = true := (List.mem_filter.1 (State.mem_of_inReeveOrder h)).2
  unfold State.clearToGo at hc
  simp only [Bool.and_eq_true, decide_eq_true_eq] at hc
  exact hc.1.1.1

theorem State.tollClasses_served (cs : List Nat) (b : List Nat × State) :
    b.2.Served (cs.foldl (fun b c => (b.2.tollWaiting c).foldl State.tollOne b) b).2 := by
  induction cs generalizing b with
  | nil => exact .refl _
  | cons c cs ih => exact (State.tollOne_foldl_served _ b fun _ hk => State.tollWaiting_waiting hk).trans (ih _)

theorem State.tollServe_served (s : State) : s.Served s.tollServe := State.tollClasses_served [0, 1, 2, 3] ([], s)

/-- With no command that waits for the Toll, nothing is served. -/
theorem State.tollServe_idle {s : State} (h : ∀ p ∈ s.docket.tags, p.2.state ≠ .waiting ∨ p.2.tollPassed = true) : s.tollServe = s := by
  have hw (c : Nat) : s.tollWaiting c = [] := by
    have he : s.tagsBy (fun g => g.state = .waiting && !g.tollPassed && (s.queueOf g.queue).cls = c) = [] := by
      unfold State.tagsBy
      rw [List.map_eq_nil_iff, List.filter_eq_nil_iff]
      intro p hp
      obtain hp | hp := h p hp <;> simp [hp]
    unfold State.tollWaiting
    rw [he]
    rfl
  unfold State.tollServe
  simp [hw]

end

/-! ### Tables in canonical form -/

section
variable {α : Type} [DecidableEq α] {d : Nat → α} {m : AMap α} {k : Nat}

theorem AMap.le_of_mem {lo : Nat} {v : α} (hm : AMap.wfFrom d lo m = true) (hk : (k, v) ∈ m) : lo ≤ k := by
  induction m generalizing lo with
  | nil => cases hk
  | cons p m ih =>
    obtain ⟨a, w⟩ := p
    simp only [AMap.wfFrom, Bool.and_eq_true, decide_eq_true_eq] at hm
    obtain ⟨⟨hlo, -⟩, hr⟩ := hm
    obtain he | hk := List.mem_cons.1 hk
    · cases he; exact hlo
    · exact hlo.trans ((Nat.le_succ a).trans (ih hr hk))

/-- What is listed under a key is what reads there. -/
theorem AMap.getD_of_mem {lo : Nat} {v : α} (hm : AMap.wfFrom d lo m = true) (hk : (k, v) ∈ m) : AMap.getD d m k = v := by
  induction m generalizing lo with
  | nil => cases hk
  | cons p m ih =>
    obtain ⟨a, w⟩ := p
    simp only [AMap.wfFrom, Bool.and_eq_true] at hm
    obtain he | hk := List.mem_cons.1 hk
    · cases he; exact if_pos rfl
    · have hne : k ≠ a := Nat.ne_of_gt (AMap.le_of_mem hm.2 hk)
      exact (if_neg hne).trans (ih hm.2 hk)

omit [DecidableEq α] in
theorem AMap.mem_of_getD (h : AMap.getD d m k ≠ d k) : (k, AMap.getD d m k) ∈ m := by
  induction m with
  | nil => exact absurd rfl h
  | cons p m ih =>
    obtain ⟨a, w⟩ := p
    unfold AMap.getD at h ⊢
    split
    · next he => rw [he]; exact List.mem_cons_self
    · next hne => rw [if_neg hne] at h; exact List.mem_cons_of_mem _ (ih h)

theorem AMap.keys_sorted {lo : Nat} (hm : AMap.wfFrom d lo m = true) : (m.map Prod.fst).SortedLT := by
  induction m generalizing lo with
  | nil => exact List.Pairwise.sortedLT .nil
  | cons p m ih =>
    simp only [AMap.wfFrom, Bool.and_eq_true] at hm
    refine List.Pairwise.sortedLT (List.pairwise_cons.2 ⟨fun j hj => ?_, (ih hm.2).pairwise⟩)
    obtain ⟨x, hx, rfl⟩ := List.mem_map.1 hj
    exact AMap.le_of_mem hm.2 hx

end

section
variable {s t : State} {q : Nat}

theorem State.mem_tagsBy (hs : tagsCanonical s) {f : Tag → Bool} {k : Nat} :
    k ∈ s.tagsBy f ↔ (s.tagOf k).state ≠ .free ∧ f (s.tagOf k) = true := by
  unfold State.tagsBy
  rw [List.mem_map]
  constructor
  · rintro ⟨⟨j, g⟩, hx, rfl⟩
    obtain ⟨hj, hf⟩ := List.mem_filter.1 hx
    have hg : s.tagOf j = g := AMap.getD_of_mem hs hj
    rw [hg]
    simpa using hf
  · rintro ⟨hfree, hf⟩
    have hne : s.tagOf k ≠ default := fun he => hfree (by rw [he]; rfl)
    exact ⟨(k, s.tagOf k), List.mem_filter.2 ⟨AMap.mem_of_getD hne, by simp [hfree, hf]⟩, rfl⟩

theorem State.mem_tagsOfQueue (hs : tagsCanonical s) {k : Nat} :
    k ∈ s.tagsOfQueue q ↔ (s.tagOf k).state ≠ .free ∧ (s.tagOf k).queue = q := by
  unfold State.tagsOfQueue
  rw [State.mem_tagsBy hs, decide_eq_true_iff]

theorem State.tagsOfQueue_sorted (hs : tagsCanonical s) : (s.tagsOfQueue q).SortedLT :=
  ((AMap.keys_sorted hs).pairwise.sublist (List.filter_sublist.map _)).sortedLT

/-- The same commands in a queue are the same list. -/
theorem State.tagsOfQueue_congr (hs : tagsCanonical s) (ht : tagsCanonical t)
    (h : ∀ k, ((t.tagOf k).state ≠ .free ∧ (t.tagOf k).queue = q) ↔ ((s.tagOf k).state ≠ .free ∧ (s.tagOf k).queue = q)) :
    t.tagsOfQueue q = s.tagsOfQueue q :=
  (State.tagsOfQueue_sorted ht).eq_of_mem_iff (State.tagsOfQueue_sorted hs) fun k => by
    rw [State.mem_tagsOfQueue ht, State.mem_tagsOfQueue hs, h k]

end

/-! ### A command is accepted (R126) -/

theorem State.selfFenced_of_deaf {s : State} (h : s.deaf = false) : s.selfFenced = false := by
  unfold State.deaf at h
  exact (Bool.or_eq_false_iff.1 h).2

theorem State.wrBytes_mem (l : List Byte) (s : State) (k : Nat) : ∃ m, s.wrBytes k l = { s with mem := m } := by
  induction l generalizing s k with
  | nil => exact ⟨s.mem, rfl⟩
  | cons b r ih =>
    obtain ⟨m, hm⟩ := ih (s.wrB k b) (k + 1)
    exact ⟨m, hm⟩

theorem State.writeRecord_served (s : State) (k : Nat) : ∃ m, State.Served { s with mem := m } (s.writeRecord k) := by
  unfold State.writeRecord
  obtain ⟨m, hm⟩ := State.wrBytes_mem (s.recordBytes k (s.tagOf k)) s (s.plan.recordBase + 64 * k)
  rw [hm]
  exact ⟨m, State.mirrorTag_served _ k⟩

/-- A command without an entry and without data of its own, on a queue with room: the lowest free tag holds it. -/
theorem State.accept_room {s : State} {q : Nat} {g : Tag} (hf : s.selfFenced = false)
    (hroom : (s.tagsOfQueue q).length < (s.queueOf q).depth) (hk : (s.queueOf q).kind ≠ kInternal) (he : 16 ≤ g.entry)
    (hin : g.inbound = false) : ∃ u m st, s.accept q g 0 0 = (freeTag s, u) ∧ (st = .held ∨ st = .waiting) ∧
      (State.putTag { s with mem := m } (freeTag s) { g with queue := q, reeve := s.now, state := st }).Served u := by
  unfold State.accept
  extract_lets x g0 st0 lo used k ts s1
  have hg : g0 = g := if_neg (Nat.not_lt.2 he)
  have hst : st0 = 0 := if_neg (by simp [hg, State.entryMissing, Nat.not_lt.2 he])
  have hfree : k = freeTag s := by
    have hlo : lo = 0 := if_neg hk
    have hused : used = s.tagsBy (fun _ => true) := by
      exact List.filter_eq_self.2 fun a _ => decide_eq_true (hlo ▸ Nat.zero_le a)
    unfold k freeTag
    rw [hlo, hused]
  have hts : ts = .held ∨ ts = .waiting := by
    unfold ts
    rw [if_neg (by simp [hg, hin])]
    split
    · exact .inl rfl
    · exact .inr rfl
  rw [if_neg (by simp [hf]), if_neg (Nat.not_le.2 hroom), if_neg (by simp [hst])]
  let u0 := s.putTag k { g0 with queue := q, reeve := s.now, state := ts }
  let u1 := (u0.tick.addN R.DOCKET_ACCEPTED 1).countEv 0x06 1 16
  have h1 : u0.Served u1 := .of_rest ((State.countEv_rest _ _ _ _).trans u0.tick_rest)
  obtain ⟨m, hm⟩ := u1.writeRecord_served k
  refine ⟨s1.tollServe, m, ts, by rw [hfree], hts, ?_⟩
  have h2 := ((h1.withMem m).trans hm).trans s1.tollServe_served
  unfold u0 at h2
  rw [hg, hfree] at h2
  exact h2

/-! ### Queues resume and reset (R142) -/

/-- A state with other tags. -/
def State.withTags (s : State) (m : AMap Tag) : State := { s with docket := { s.docket with tags := m } }

/-- A fold that changes tags, and neither their queue nor their identifier. -/
theorem State.foldl_tags {f : State → Nat → State} (hf : ∀ s k, f s k = s ∨ ∃ g : Tag, f s k = s.putTag k g ∧
      g.queue = (s.tagOf k).queue ∧ g.cid = (s.tagOf k).cid) (l : List Nat) (s : State) : ∃ m : AMap Tag,
    l.foldl f s = s.withTags m ∧
      ∀ k, (m.get k).queue = (s.tagOf k).queue ∧ (m.get k).cid = (s.tagOf k).cid := by
  induction l generalizing s with
  | nil => exact ⟨s.docket.tags, rfl, fun _ => ⟨rfl, rfl⟩⟩
  | cons j r ih =>
    obtain ⟨m, hm, hk⟩ := ih (f s j)
    rw [List.foldl_cons, hm]
    obtain he | ⟨g, he, hq, hc⟩ := hf s j
    · rw [he] at hk ⊢
      exact ⟨m, rfl, hk⟩
    · rw [he] at hk ⊢
      refine ⟨m, rfl, fun k => ?_⟩
      obtain ⟨h1, h2⟩ := hk k
      by_cases hkj : k = j
      · subst hkj
        rw [State.tagOf_putTag_self] at h1 h2
        exact ⟨h1.trans hq, h2.trans hc⟩
      · rw [s.tagOf_putTag_ne j g hkj] at h1 h2
        exact ⟨h1, h2⟩

section
variable {s : State} {q : Nat}

/-- A queue that is no TAKE queue returns to ACTIVE: its commands keep their queue and identifier. -/
theorem State.activateQueue_served (hk : (s.queueOf q).kind ≠ kTake) : ∃ m : AMap Tag,
    ((s.putQueue q { s.queueOf q with state := 0, byError := false }).withTags m).Served (s.activateQueue q) ∧
      ∀ k, (m.get k).queue = (s.tagOf k).queue ∧ (m.get k).cid = (s.tagOf k).cid := by
  unfold State.activateQueue
  generalize hs1 : s.putQueue q { s.queueOf q with state := 0, byError := false } = s1
  obtain ⟨m, hm, hkeep⟩ := State.foldl_tags (f := fun s t =>
      if (s.tagOf t).state = .held ∧ s.moveHeld (s.tagOf t) = false then s.putTag t { s.tagOf t with state := .waiting } else s)
    (fun s k => by
      dsimp only
      split
      · exact .inr ⟨_, rfl, rfl, rfl⟩
      · exact .inl rfl) (s1.tagsOfQueue q) s1
  have htag (k : Nat) : s1.tagOf k = s.tagOf k := by rw [← hs1]; rfl
  refine ⟨m, ?_, fun k => htag k ▸ hkeep k⟩
  have h := State.tollServe_served (s1.withTags m)
  nth_rewrite 2 [← hm] at h
  rw [if_neg hk]
  exact h

theorem State.queueOf_activateQueue (hk : (s.queueOf q).kind ≠ kTake) :
    (s.activateQueue q).queueOf q = { s.queueOf q with state := 0, byError := false } := by
  obtain ⟨m, hm, -⟩ := State.activateQueue_served hk
  rw [hm.queueOf]
  exact AMap.get_set_self _ _ _

theorem State.mem_activateQueue (hk : (s.queueOf q).kind ≠ kTake) : (s.activateQueue q).mem = s.mem := by
  obtain ⟨m, hm, -⟩ := State.activateQueue_served hk
  exact hm.mem

theorem State.tagOf_activateQueue (hk : (s.queueOf q).kind ≠ kTake) (k : Nat) :
    ((s.activateQueue q).tagOf k).queue = (s.tagOf k).queue ∧ ((s.activateQueue q).tagOf k).cid = (s.tagOf k).cid := by
  obtain ⟨m, hm, hkeep⟩ := State.activateQueue_served hk
  obtain ⟨hq, hc⟩ := hkeep k
  exact ⟨(hm.queue k).trans hq, (hm.cid k).trans hc⟩

/-- A reset of a queue that holds and completes nothing makes it ACTIVE at once. -/
theorem State.resetQueue_idle (hs : tagsCanonical s)
    (hidle : ∀ k, (s.tagOf k).queue = q → (s.tagOf k).state ≠ .held ∧ (s.tagOf k).state ≠ .completing) :
    s.resetQueue q = (s.putQueue q { s.queueOf q with state := 2 }).activateQueue q := by
  have hheld : (s.tagsOfQueue q).filter (fun t => (s.tagOf t).state = .held) = [] := by
    refine List.filter_eq_nil_iff.2 fun k hk => ?_
    simpa using (hidle k ((State.mem_tagsOfQueue hs).1 hk).2).1
  have hdone : (s.tagsOfQueue q).filter (fun t => (s.tagOf t).state = .completing && (s.tagOf t).status = 0x6061) = [] := by
    refine List.filter_eq_nil_iff.2 fun k hk => ?_
    simp [(hidle k ((State.mem_tagsOfQueue hs).1 hk).2).2]
  unfold State.resetQueue
  rw [hheld]
  exact if_pos ⟨congrArg Queue.state (s.queueOf_putQueue_self q _), List.isEmpty_iff.2 hdone⟩

theorem State.queueOf_resetQueue (hk : (s.queueOf q).kind ≠ kTake) (hs : tagsCanonical s)
    (hidle : ∀ k, (s.tagOf k).queue = q → (s.tagOf k).state ≠ .held ∧ (s.tagOf k).state ≠ .completing) :
    (s.resetQueue q).queueOf q = { s.queueOf q with state := 0, byError := false } := by
  rw [State.resetQueue_idle hs hidle, State.queueOf_activateQueue (by simpa using hk), State.queueOf_putQueue_self]

theorem State.tagOf_resetQueue (hk : (s.queueOf q).kind ≠ kTake) (hs : tagsCanonical s)
    (hidle : ∀ k, (s.tagOf k).queue = q → (s.tagOf k).state ≠ .held ∧ (s.tagOf k).state ≠ .completing) (k : Nat) :
    ((s.resetQueue q).tagOf k).queue = (s.tagOf k).queue ∧ ((s.resetQueue q).tagOf k).cid = (s.tagOf k).cid := by
  rw [State.resetQueue_idle hs hidle]
  exact State.tagOf_activateQueue (by simpa using hk) k

end

/-! ### Admin commands (R128) -/

/-- A command of a queue with an identifier has been accepted under the lowest free tag, and waits. -/
def State.Admitted (s : State) (q a : Nat) (u : State) : Prop :=
  ∃ (m : List Host.Cell) (g : Tag), (State.putTag { s with mem := m } (freeTag s) g).Served u ∧ g.queue = q ∧ g.cid = a ∧
    (g.state = .held ∨ g.state = .waiting)

section
variable {s u : State} {q a : Nat}

theorem State.Admitted.queues (h : s.Admitted q a u) : u.docket.queues = s.docket.queues := by
  obtain ⟨m, g, hs, -⟩ := h
  exact hs.queues

theorem State.Admitted.queueOf (h : s.Admitted q a u) (j : Nat) : u.queueOf j = s.queueOf j := congrArg (AMap.get · j) h.queues

theorem State.Admitted.findQueue (h : s.Admitted q a u) (n qid : Nat) : u.findQueue n qid = s.findQueue n qid := by
  unfold State.findQueue
  rw [h.queues]

theorem State.Admitted.ctrlOf (h : s.Admitted q a u) (n : Nat) : u.ctrlOf n = s.ctrlOf n := by
  obtain ⟨m, g, hs, -⟩ := h
  exact hs.ctrlOf n

theorem State.Admitted.volOf (h : s.Admitted q a u) (v : Nat) : u.volOf v = s.volOf v := by
  obtain ⟨m, g, hs, -⟩ := h
  exact hs.volOf v

theorem State.Admitted.out (h : s.Admitted q a u) : ∃ l, u.outbox = s.outbox ++ l := by
  obtain ⟨m, g, hs, -⟩ := h
  exact hs.out

theorem State.Admitted.wf (h : s.Admitted q a u) (hs : tagsCanonical s) : tagsCanonical u := by
  obtain ⟨m, g, hu, -⟩ := h
  exact hu.wf (AMap.setD_wf _ _ _ _ hs)

theorem State.Admitted.queue (h : s.Admitted q a u) : (u.tagOf (freeTag s)).queue = q := by
  obtain ⟨m, g, hs, hq, -, -⟩ := h
  rw [hs.queue, State.tagOf_putTag_self, hq]

theorem State.Admitted.cid (h : s.Admitted q a u) : (u.tagOf (freeTag s)).cid = a := by
  obtain ⟨m, g, hs, -, hc, -⟩ := h
  rw [hs.cid, State.tagOf_putTag_self, hc]

theorem State.Admitted.live (h : s.Admitted q a u) : (u.tagOf (freeTag s)).state ≠ .free := by
  obtain ⟨m, g, hs, -, -, hst⟩ := h
  rw [hs.state, State.tagOf_putTag_self]
  obtain hst | hst := hst <;> simp [hst]

theorem State.Admitted.other (h : s.Admitted q a u) {k : Nat} (hk : k ≠ freeTag s) :
    (u.tagOf k).untolled = (s.tagOf k).untolled := by
  obtain ⟨m, g, hs, -⟩ := h
  rw [hs.tag, State.tagOf_putTag_ne _ _ _ hk]
  rfl

theorem State.Admitted.otherState (h : s.Admitted q a u) {k : Nat} (hk : k ≠ freeTag s) : (u.tagOf k).state = (s.tagOf k).state :=
  (congrArg Tag.state (h.other hk) :)

theorem State.Admitted.otherQueue (h : s.Admitted q a u) {k : Nat} (hk : k ≠ freeTag s) : (u.tagOf k).queue = (s.tagOf k).queue :=
  (congrArg Tag.queue (h.other hk) :)

theorem State.Admitted.otherCid (h : s.Admitted q a u) {k : Nat} (hk : k ≠ freeTag s) : (u.tagOf k).cid = (s.tagOf k).cid :=
  (congrArg Tag.cid (h.other hk) :)

/-- A tag that does not wait is as it was. -/
theorem State.Admitted.still (h : s.Admitted q a u) {k : Nat} (hk : k ≠ freeTag s) (hw : (s.tagOf k).state ≠ .waiting) :
    u.tagOf k = s.tagOf k := by
  obtain ⟨m, g, hs, -⟩ := h
  have he : (State.putTag { s with mem := m } (freeTag s) g).tagOf k = s.tagOf k := State.tagOf_putTag_ne _ _ _ hk
  exact (hs.still k (by rwa [he])).trans he

/-- Another queue holds the same commands. -/
theorem State.Admitted.tagsOfQueue (h : s.Admitted q a u) (hs : tagsCanonical s) (hfree : (s.tagOf (freeTag s)).state = .free)
    {j : Nat} (hj : j ≠ q) : u.tagsOfQueue j = s.tagsOfQueue j :=
  State.tagsOfQueue_congr hs (h.wf hs) fun k => by
    by_cases hk : k = freeTag s
    · subst hk
      simp [h.queue, hfree, hj.symm]
    · rw [h.otherState hk, h.otherQueue hk]

/-- A command of another queue is found as before. -/
theorem State.Admitted.tagByCid (h : s.Admitted q a u) (hs : tagsCanonical s) (hfree : (s.tagOf (freeTag s)).state = .free)
    {j : Nat} (hj : j ≠ q) (tcid : Nat) : u.tagByCid j tcid = s.tagByCid j tcid := by
  unfold State.tagByCid
  rw [h.tagsOfQueue hs hfree hj]
  refine List.find?_congr fun k hk => ?_
  have hne : k ≠ freeTag s := by
    rintro rfl
    exact ((State.mem_tagsOfQueue hs).1 hk).1 hfree
  rw [h.otherCid hne]

/-- An admin command on a queue with room acts under the lowest free tag. -/
theorem State.admin_runs (h : takesOne s q kAdmin) (op : Nat) (f : Nat → State → State) :
    ∃ u, s.Admitted q a u ∧ s.admin q ⟨a, false⟩ op f = f (freeTag s) u := by
  obtain ⟨hs, ht, hroom, hfree, hk⟩ := h
  have ht' := ht
  unfold State.takes State.deaf at ht'
  simp only [Bool.and_eq_true, decide_eq_true_eq, Bool.not_eq_true', Bool.or_eq_false_iff] at ht'
  obtain ⟨hkind, -, hf⟩ := ht'
  obtain ⟨u, m, st, hu, hst, hv⟩ := State.accept_room (g := adminTag a op) hf hroom (by rw [hkind]; decide) (Nat.le_refl 16) rfl
  refine ⟨u, ⟨m, _, hv, rfl, rfl, hst⟩, ?_⟩
  unfold State.admin
  rw [if_pos ht]
  dsimp only
  rw [if_neg Bool.false_ne_true, hu]
  exact if_neg (by simp [Nat.ne_of_lt hk])

/-- An accepted command that has ended with a value is complete. -/
theorem complete_abortEnd {k v : Nat} (hq : (u.tagOf k).queue = q) (hc : (u.tagOf k).cid = a) : complete (u.abortEnd k v) k q a 0 v := by
  unfold State.abortEnd complete
  dsimp only
  rw [State.tagOf_putTag_self]
  exact ⟨rfl, rfl, rfl, rfl, hq, hc⟩

/-- An accepted admin command ends at once. -/
theorem State.Admitted.ends (h : s.Admitted q a u) (v : Nat) : complete (u.abortEnd (freeTag s) v) (freeTag s) q a 0 v :=
  complete_abortEnd h.queue h.cid

/-- An accepted admin command that gives data sends them to its host; what else it changes first is of no account. -/
theorem State.Admitted.gives (h : s.Admitted q a u) {w : State} (hd : w.docket = u.docket) (ho : w.outbox = u.outbox) (d : List Byte) :
    complete (w.adminGive q a (freeTag s) d) (freeTag s) q a 0 0 ∧
      ∃ l, (w.adminGive q a (freeTag s) d).outbox = s.outbox ++ l ++ [.hostData q a d] := by
  have ht : (w.send (.hostData q a d)).tagOf (freeTag s) = u.tagOf (freeTag s) := congrArg (fun x : Docket => x.tags.get (freeTag s)) hd
  obtain ⟨l, hl⟩ := h.out
  refine ⟨complete_abortEnd (by rw [ht, h.queue]) (by rw [ht, h.cid]), l, ?_⟩
  rw [← hl, ← ho]
  rfl

end

end Sys2Proof.Machine
end

section
/-! PROOFS. The admin commands of R128, Connect and the end of a controller. -/

open Sys2Proof Sys2Proof.Claims

namespace Sys2Proof.Machine

/-! ### Each admin command ends (R128, R129, R130, R141, R142) -/

/-- An instruction completes an admin command of a queue with status 0 and a value, and its effect. -/
def adminEnds (s : State) (q a : Nat) (i : Instr) (v : Nat) (P : State → Prop) : Prop :=
  ∃ t, exec i s = .next t ∧ complete t (freeTag s) q a 0 v ∧ P t

/-- Data of a length leave for the host of a command. -/
def sendsData (s : State) (q a len : Nat) (p : List Byte → Prop) (t : State) : Prop :=
  ∃ l d, t.outbox = s.outbox ++ l ++ [.hostData q a d] ∧ d.length = len ∧ p d

section
variable {s : State} {q a : Nat} {i : Instr} {op v : Nat} {f : Nat → State → State} {P : State → Prop}

/-- An admin command's instruction runs its effect on the accepted command. -/
theorem admin_next (h : takesOne s q kAdmin) (hi : exec i s = .next (s.admin q ⟨a, false⟩ op f)) :
    ∃ u, s.Admitted q a u ∧ exec i s = .next (f (freeTag s) u) := by
  obtain ⟨u, hu, he⟩ := State.admin_runs (a := a) h op f
  exact ⟨u, hu, hi.trans (congrArg _ he)⟩

theorem adminEnds_of (h : takesOne s q kAdmin) (hi : exec i s = .next (s.admin q ⟨a, false⟩ op f))
    (hf : ∀ u, s.Admitted q a u → complete (f (freeTag s) u) (freeTag s) q a 0 v ∧ P (f (freeTag s) u)) : adminEnds s q a i v P := by
  obtain ⟨u, hu, he⟩ := admin_next h hi
  exact ⟨_, he, hf u hu⟩

/-- A command that gives data. -/
theorem adminEnds_sends (h : takesOne s q kAdmin) (hi : exec i s = .next (s.admin q ⟨a, false⟩ op f)) {len : Nat} {p : List Byte → Prop}
    (hf : ∀ u, s.Admitted q a u → ∃ (d : List Byte) (w : State), f (freeTag s) u = w.adminGive q a (freeTag s) d ∧
      w.docket = u.docket ∧ w.outbox = u.outbox ∧ d.length = len ∧ p d) :
    adminEnds s q a i 0 (sendsData s q a len p) :=
  adminEnds_of h hi fun u hu => by
    obtain ⟨d, w, he, hd, ho, hl, hp⟩ := hf u hu
    obtain ⟨hc, l, ho⟩ := hu.gives hd ho d
    rw [he]
    exact ⟨hc, l, d, ho, hl, hp⟩

/-- A command that gives one value of its controller. -/
theorem adminEnds_gives (h : takesOne s q kAdmin) (hi : exec i s = .next (s.admin q ⟨a, false⟩ op f)) {d : Ctrl → List Byte}
    (hf : ∀ u, f (freeTag s) u = u.adminGive q a (freeTag s) (d (u.ctrlOf (u.queueOf q).ctrl))) :
    adminEnds s q a i 0 (sendsData s q a (d (s.ctrlOf (s.queueOf q).ctrl)).length (fun x => x = d (s.ctrlOf (s.queueOf q).ctrl))) :=
  adminEnds_sends h hi fun u hu => ⟨d (s.ctrlOf (s.queueOf q).ctrl), u, by rw [hf u, hu.queueOf, hu.ctrlOf], rfl, rfl, rfl, rfl⟩

/-- A command that sets something of its controller. -/
theorem adminEnds_sets (h : takesOne s q kAdmin) (hi : exec i s = .next (s.admin q ⟨a, false⟩ op f)) {c : Ctrl → Ctrl}
    (hf : ∀ u, f (freeTag s) u =
      (u.putCtrl (u.queueOf q).ctrl (c (u.ctrlOf (u.queueOf q).ctrl))).adminEnd (freeTag s) 0) :
    adminEnds s q a i 0 (fun t => t.ctrlOf (s.queueOf q).ctrl = c (s.ctrlOf (s.queueOf q).ctrl)) :=
  adminEnds_of h hi fun u hu => by
    rw [hf u, hu.queueOf, hu.ctrlOf]
    exact ⟨hu.ends 0, State.ctrlOf_putCtrl_self _ _ _⟩

end

section
variable {s : State} {q : Nat} (a : Nat) (h : takesOne s q kAdmin)
include h

theorem propertyGet_gives (ofs : Nat) (ho : ofs = 0 ∨ ofs = 8) :
    adminEnds s q a (.propertyGet q ⟨a, false⟩ ofs) 0
      (sendsData s q a (leBytes 8 (Config.property ofs).toNat).length (fun x => x = leBytes 8 (Config.property ofs).toNat)) :=
  adminEnds_gives h rfl (d := fun _ => leBytes 8 (Config.property ofs).toNat) fun _ => if_pos ho

theorem propertyGet_cc : adminEnds s q a (.propertyGet q ⟨a, false⟩ 0x14) 0
    (sendsData s q a (leBytes 8 (s.ctrlOf (s.queueOf q).ctrl).cc).length (fun x => x = leBytes 8 (s.ctrlOf (s.queueOf q).ctrl).cc)) :=
  adminEnds_gives h rfl (d := fun c => leBytes 8 c.cc) fun _ => by simp

theorem propertyGet_csts : adminEnds s q a (.propertyGet q ⟨a, false⟩ 0x1C) 0
    (sendsData s q a (leBytes 8 (s.ctrlOf (s.queueOf q).ctrl).csts).length (fun x => x = leBytes 8 (s.ctrlOf (s.queueOf q).ctrl).csts)) :=
  adminEnds_gives h rfl (d := fun c => leBytes 8 c.csts) fun _ => by simp

theorem getFeatures_nqueues : adminEnds s q a (.getFeatures q ⟨a, false⟩ 0x07) 0
    (sendsData s q a (leBytes 4 (s.ctrlOf (s.queueOf q).ctrl).nqueues).length (fun x => x = leBytes 4 (s.ctrlOf (s.queueOf q).ctrl).nqueues)) :=
  adminEnds_gives h rfl (d := fun c => leBytes 4 c.nqueues) fun _ => by simp

theorem getFeatures_aerCfg : adminEnds s q a (.getFeatures q ⟨a, false⟩ 0x0B) 0
    (sendsData s q a (leBytes 4 (s.ctrlOf (s.queueOf q).ctrl).aerCfg).length (fun x => x = leBytes 4 (s.ctrlOf (s.queueOf q).ctrl).aerCfg)) :=
  adminEnds_gives h rfl (d := fun c => leBytes 4 c.aerCfg) fun _ => by simp

theorem getFeatures_kato : adminEnds s q a (.getFeatures q ⟨a, false⟩ 0x0F) 0
    (sendsData s q a (leBytes 4 (s.ctrlOf (s.queueOf q).ctrl).kato).length (fun x => x = leBytes 4 (s.ctrlOf (s.queueOf q).ctrl).kato)) :=
  adminEnds_gives h rfl (d := fun c => leBytes 4 c.kato) fun _ => by simp

theorem propertySet_sets (v : Nat) : adminEnds s q a (.propertySet q ⟨a, false⟩ 0x14 v) 0
    (fun t => t.ctrlOf (s.queueOf q).ctrl = { s.ctrlOf (s.queueOf q).ctrl with cc := v % 2 ^ 32 }) :=
  adminEnds_sets h rfl (c := fun c => { c with cc := v % 2 ^ 32 }) fun _ => if_pos rfl

theorem setFeatures_nqueues (v : Nat) : adminEnds s q a (.setFeatures q ⟨a, false⟩ 0x07 v) 0
    (fun t => t.ctrlOf (s.queueOf q).ctrl = { s.ctrlOf (s.queueOf q).ctrl with nqueues := v }) :=
  adminEnds_sets h rfl (c := fun c => { c with nqueues := v }) fun _ => if_pos rfl

theorem setFeatures_aerCfg (v : Nat) : adminEnds s q a (.setFeatures q ⟨a, false⟩ 0x0B v) 0
    (fun t => t.ctrlOf (s.queueOf q).ctrl = { s.ctrlOf (s.queueOf q).ctrl with aerCfg := v }) :=
  adminEnds_sets h rfl (c := fun c => { c with aerCfg := v }) fun _ => (if_neg (by decide)).trans (if_pos rfl)

theorem setFeatures_kato (v : Nat) (h1 : 1000 ≤ v) (h2 : v ≤ 60000) : adminEnds s q a (.setFeatures q ⟨a, false⟩ 0x0F v) 0
    (fun t => t.ctrlOf (s.queueOf q).ctrl = { s.ctrlOf (s.queueOf q).ctrl with kato := v }) :=
  adminEnds_sets h rfl (c := fun c => { c with kato := v }) fun _ =>
    (if_neg (by decide)).trans ((if_neg (by decide)).trans (if_pos ⟨rfl, h1, h2⟩))

theorem keepAlive_ends : adminEnds s q a (.keepAlive q ⟨a, false⟩) 0 (fun _ => True) :=
  adminEnds_of h rfl fun _ hu => ⟨hu.ends 0, trivial⟩

end

/-! #### Pages -/

/-- A log page has the length asked. -/
theorem State.logPage_length (s : State) (ctrl page lsi n : Nat) (hp : page ∈ [0x01, 0x02, 0x03, 0x05]) :
    ∃ d, s.logPage ctrl page lsi n = some d ∧ d.length = n := by
  have hpad (l : List Byte) : ((l ++ List.replicate n 0).take n).length = n := by simp
  simp only [List.mem_cons, List.not_mem_nil, or_false] at hp
  obtain rfl | rfl | rfl | rfl := hp
  all_goals exact ⟨_, rfl, hpad _⟩

theorem overlay_length {page l : List Byte} {ofs : Nat} (h : ofs + l.length ≤ page.length) : (overlay page ofs l).length = page.length := by
  simp [overlay]
  omega

/-- Before an overlay the page is as it was. -/
theorem overlay_take {page l : List Byte} {ofs k : Nat} (h : k ≤ ofs) (hp : ofs ≤ page.length) : (overlay page ofs l).take k = page.take k := by
  unfold overlay
  rw [List.append_assoc, List.take_append_of_le_length (by simp; omega), List.take_take, Nat.min_eq_left h]

theorem overlay_getElem?_lt {page l : List Byte} {ofs k : Nat} (h : k < ofs) (hp : ofs ≤ page.length) : (overlay page ofs l)[k]? = page[k]? := by
  have ht := congrArg (·[k]?) (overlay_take (l := l) (Nat.succ_le_of_lt h) hp)
  simpa [List.getElem?_take_of_succ] using ht

/-- An overlay of one byte stands at its offset. -/
theorem overlay_getElem? {page : List Byte} {ofs : Nat} (b : Byte) (hp : ofs ≤ page.length) : (overlay page ofs [b])[ofs]? = some b := by
  have hl : (page.take ofs).length = ofs := by simp [hp]
  unfold overlay
  rw [List.append_assoc, List.getElem?_append_right hl.le, hl, Nat.sub_self]
  rfl

/-- A page of free bytes. -/
theorem pageBytes_length (k c n len : Nat) : ((upto len).map (fun i => Config.pageByte k c n i)).length = len := by simp [upto]

/-- Identify CNS 0 is a page of 4,096 bytes that begins with the volume's size. -/
theorem State.identifyPage_volume (s : State) {nsid : Nat} (h1 : 1 ≤ nsid) (h2 : nsid ≤ 4096) (hv : (s.volOf (nsid - 1)).slot ≠ 0) :
    ∃ d, s.identifyPage 0 nsid = some d ∧ d.length = 4096 ∧ d.take 8 = leBytes 8 (s.volOf (nsid - 1)).size := by
  have hc : ¬ (nsid = 0 ∨ 4096 < nsid ∨ (s.volOf (nsid - 1)).slot = 0) := by
    rintro (h0 | h0 | h0)
    · omega
    · omega
    · exact hv h0
  refine ⟨_, if_neg hc, ?_, ?_⟩
  · rw [overlay_length, overlay_length, pageBytes_length]
    all_goals simp [overlay_length, upto]
  · rw [overlay_take (by decide) (by simp [overlay, upto])]
    unfold overlay
    rw [List.take_zero, List.nil_append, List.append_assoc, List.take_left' (leBytes_length _ _)]

/-- Identify CNS 1 is a page of 4,096 bytes with the transfer size and the abort limit. -/
theorem State.identifyPage_controller (s : State) (nsid : Nat) :
    ∃ d, s.identifyPage 1 nsid = some d ∧ d.length = 4096 ∧ d[77]? = some 16 ∧ d[259]? = some 3 := by
  refine ⟨_, rfl, ?_, ?_, ?_⟩
  · rw [overlay_length, overlay_length, pageBytes_length]
    all_goals simp [overlay_length, upto]
  · rw [overlay_getElem?_lt (by decide) (by simp [overlay, upto]), overlay_getElem? _ (by simp [upto])]
  · exact overlay_getElem? _ (by simp [overlay, upto])

section
variable {s : State} {q : Nat} (a : Nat) (h : takesOne s q kAdmin)
include h

theorem getLogPage_sends (page lsi len : Nat) (hp : page ∈ [0x01, 0x02, 0x03, 0x05]) :
    adminEnds s q a (.getLogPage q ⟨a, false⟩ page lsi len) 0 (sendsData s q a len (fun _ => True)) :=
  adminEnds_sends h rfl fun u _ => by
    obtain ⟨d, hd, hl⟩ := u.logPage_length (u.queueOf q).ctrl page lsi len hp
    exact ⟨d, { u with freeCtr := u.freeCtr + 1 }, by rw [hd], rfl, rfl, hl, trivial⟩

theorem identify_volume {nsid : Nat} (h1 : 1 ≤ nsid) (h2 : nsid ≤ 4096) (hv : (s.volOf (nsid - 1)).slot ≠ 0) :
    adminEnds s q a (.identify q ⟨a, false⟩ 0 nsid) 0
      (sendsData s q a 4096 (fun d => d.take 8 = leBytes 8 (s.volOf (nsid - 1)).size)) :=
  adminEnds_sends h rfl fun u hu => by
    rw [← hu.volOf] at hv ⊢
    obtain ⟨d, hd, hl, hp⟩ := u.identifyPage_volume h1 h2 hv
    exact ⟨d, u, by rw [hd]; rfl, rfl, rfl, hl, hp⟩

theorem identify_controller (nsid : Nat) : adminEnds s q a (.identify q ⟨a, false⟩ 1 nsid) 0
    (sendsData s q a 4096 (fun d => d[77]? = some 16 ∧ d[259]? = some 3)) :=
  adminEnds_sends h rfl fun u _ => by
    obtain ⟨d, hd, hl, hp⟩ := u.identifyPage_controller nsid
    exact ⟨d, u, by rw [hd]; rfl, rfl, rfl, hl, hp⟩

end

section
variable {s : State} {q : Nat} (a : Nat) (h : takesOne s q kAdmin)
include h

/-! #### Asynchronous events -/

theorem asyncEventRequest_event {e : Nat} {r : List Nat} (he : (s.ctrlOf (s.queueOf q).ctrl).events = e :: r) :
    adminEnds s q a (.asyncEventRequest q ⟨a, false⟩) 0
      (fun t => t.ctrlOf (s.queueOf q).ctrl = { s.ctrlOf (s.queueOf q).ctrl with events := r }) :=
  adminEnds_of h rfl fun u hu => by
    dsimp only
    rw [hu.queueOf, hu.ctrlOf, he]
    exact ⟨hu.ends 0, State.ctrlOf_putCtrl_self _ _ _⟩

/-- A request without an event holds its tag. -/
theorem asyncEventRequest_held (he : (s.ctrlOf (s.queueOf q).ctrl).events = []) (hl : (s.ctrlOf (s.queueOf q).ctrl).aers.length < 4) :
    ∃ t, exec (.asyncEventRequest q ⟨a, false⟩) s = .next t ∧
      t.ctrlOf (s.queueOf q).ctrl = { s.ctrlOf (s.queueOf q).ctrl with aers := (s.ctrlOf (s.queueOf q).ctrl).aers ++ [freeTag s] } ∧
      (t.tagOf (freeTag s)).state ≠ .free ∧ (t.tagOf (freeTag s)).cid = a := by
  obtain ⟨u, hu, ht⟩ := admin_next (a := a) (i := .asyncEventRequest q ⟨a, false⟩) h rfl
  refine ⟨_, ht, ?_⟩
  dsimp only
  rw [hu.queueOf, hu.ctrlOf, he]
  dsimp only
  rw [if_neg (Nat.not_le.2 hl)]
  exact ⟨State.ctrlOf_putCtrl_self _ _ _, hu.live, hu.cid⟩

/-! #### Abort -/

theorem nvmeAbort_unknown {sqid : Nat} (tcid : Nat) (hq : s.findQueue (s.queueOf q).ctrl sqid = none) :
    adminEnds s q a (.nvmeAbort q ⟨a, false⟩ sqid tcid) 1 (fun _ => True) :=
  adminEnds_of h rfl fun u hu => by
    dsimp only
    rw [hu.queueOf, hu.findQueue, hq]
    exact ⟨hu.ends 1, trivial⟩

/-- An abort of a command in a context that is not committing marks it; the reply follows its completion. -/
theorem nvmeAbort_marks {sqid tcid sq x : Nat} (hq : s.findQueue (s.queueOf q).ctrl sqid = some sq) (hsq : sq ≠ q)
    (hx : s.tagByCid sq tcid = some x) (hxk : x ≠ freeTag s) (hst : (s.tagOf x).state = .dispatched)
    (hcm : (s.tagOf x).committing = false) (hch : (s.tagOf x).chain = 0) (hen : (s.tagOf x).ended = false)
    (hab : (s.tagOf x).aborted = false) :
    ∃ t, exec (.nvmeAbort q ⟨a, false⟩ sqid tcid) s = .next t ∧ (t.tagOf x).aborted = true ∧ (t.tagOf x).status = 0x6060 ∧
      (t.tagOf x).state = .dispatched ∧ [3, freeTag s, 0] ∈ (t.tagOf x).late ∧ (t.tagOf (freeTag s)).cid = a := by
  obtain ⟨u, hu, ht⟩ := admin_next (a := a) (i := .nvmeAbort q ⟨a, false⟩ sqid tcid) h rfl
  obtain ⟨hs, -, -, hfree, -⟩ := h
  have hux : u.tagOf x = s.tagOf x := hu.still hxk (by simp [hst])
  have habort : u.abortTag x 0x6060 = (3, u.putTag x { s.tagOf x with aborted := true, status := 0x6060 }) := by
    simp [State.abortTag, Tag.catchable, hux, hst, hcm, hch, hen, hab]
  refine ⟨_, ht, ?_⟩
  dsimp only
  rw [hu.queueOf, hu.findQueue, hq, Option.bind_some, hu.tagByCid hs hfree hsq, hx]
  dsimp only
  rw [if_neg hxk, habort]
  dsimp only
  rw [if_neg (by decide), if_pos (.inr rfl)]
  unfold State.abortLater
  rw [State.tagOf_putTag_self, State.tagOf_putTag_self, State.tagOf_putTag_ne _ _ _ hxk.symm, State.tagOf_putTag_ne _ _ _ hxk.symm]
  exact ⟨rfl, rfl, hst, by simp, hu.cid⟩

/-! #### Queues resume and reset -/

section
variable {qid kq : Nat} (hq : s.findQueue (s.queueOf q).ctrl qid = some kq) (hst : (s.queueOf kq).state = 1)
  (hkind : (s.queueOf kq).kind ≠ kTake)
include hq hst hkind

theorem queueResume_activates : adminEnds s q a (.queueResume q ⟨a, false⟩ qid) 0
    (fun t => t.queueOf kq = { s.queueOf kq with state := 0, byError := false }) :=
  adminEnds_of h rfl fun u hu => by
    have hk' : (u.queueOf kq).kind ≠ kTake := by rwa [hu.queueOf]
    obtain ⟨hqu, hcid⟩ := State.tagOf_activateQueue hk' (freeTag s)
    dsimp only
    rw [hu.queueOf, hu.findQueue, hq]
    dsimp only
    rw [hu.queueOf, if_pos hst]
    exact ⟨complete_abortEnd (hqu.trans hu.queue) (hcid.trans hu.cid), by rw [← hu.queueOf]; exact State.queueOf_activateQueue hk'⟩

theorem queueReset_activates (hk : kq ≠ q) (hidle : ∀ x, (s.tagOf x).queue = kq → (s.tagOf x).state ≠ .held ∧ (s.tagOf x).state ≠ .completing) :
    adminEnds s q a (.queueReset q ⟨a, false⟩ qid) 0 (fun t => t.queueOf kq = { s.queueOf kq with state := 0, byError := false }) :=
  adminEnds_of h rfl fun u hu => by
    have hk' : (u.queueOf kq).kind ≠ kTake := by rwa [hu.queueOf]
    have hidle' (x : Nat) (hx : (u.tagOf x).queue = kq) : (u.tagOf x).state ≠ .held ∧ (u.tagOf x).state ≠ .completing := by
      have hne : x ≠ freeTag s := by
        rintro rfl
        exact hk (hx.symm.trans hu.queue)
      rw [hu.otherState hne]
      exact hidle x (hu.otherQueue hne ▸ hx)
    have hs := hu.wf h.1
    obtain ⟨hqu, hcid⟩ := State.tagOf_resetQueue hk' hs hidle' (freeTag s)
    dsimp only
    rw [hu.queueOf, hu.findQueue, hq]
    dsimp only
    rw [hu.queueOf, if_pos hst]
    exact ⟨complete_abortEnd (hqu.trans hu.queue) (hcid.trans hu.cid),
      by rw [← hu.queueOf]; exact State.queueOf_resetQueue hk' hs hidle'⟩

end

end

/-! #### Connect and the end of a controller -/

/-- A queue just created takes the Connect itself, which completes on it. -/
theorem State.connect_completes {s w : State} {q a depth : Nat} (d : List Byte) (hf : w.selfFenced = false) (htags : w.docket.tags = s.docket.tags)
    (hempty : s.tagsOfQueue q = []) (hd : (w.queueOf q).depth = depth) (hpos : 0 < depth)
    (hkind : (w.queueOf q).kind ≠ kInternal) :
    ∃ t, (let (k, u) := w.accept q (adminTag a 0x7F) 0 0; u.adminGive q a k d) = t ∧ t.queueOf q = w.queueOf q ∧
      (∀ n, t.ctrlOf n = w.ctrlOf n) ∧ complete t (freeTag s) q a 0 0 := by
  have hfree : freeTag w = freeTag s := by unfold freeTag State.tagsBy; rw [htags]
  have hlist : w.tagsOfQueue q = [] := by
    unfold State.tagsOfQueue State.tagsBy at hempty ⊢
    rwa [htags]
  obtain ⟨u, m, st, hu, hst, hv⟩ := State.accept_room (g := adminTag a 0x7F) hf (by rw [hlist, hd]; exact hpos) hkind (Nat.le_refl 16) rfl
  have hw : w.Admitted q a u := ⟨m, _, hv, rfl, rfl, hst⟩
  rw [hu, hfree]
  refine ⟨_, rfl, hw.queueOf q, hw.ctrlOf, ?_⟩
  rw [← hfree]
  exact (hw.gives rfl rfl d).1

section
variable {s : State} {ctrl : Nat} (peer a : Nat) {depth : Nat} (hdeaf : s.deaf = false) (hfeat : s.feat 69 = true)
  (hused : s.queuesUsed < 4096) (hempty : s.tagsOfQueue s.freeQueue = [])
include hdeaf hfeat hused hempty

/-- Connect of queue 0 makes the controller and its admin queue of 32. -/
theorem nvmeConnect_admin (hq : s.findQueue ctrl 0 = none) (hr : s.reservedExt + 32 ≤ 61440) :
    ∃ t, exec (.nvmeConnect ctrl 0 depth peer ⟨a, false⟩) s = .next t ∧
      (t.queueOf s.freeQueue).kind = kAdmin ∧ (t.queueOf s.freeQueue).depth = 32 ∧ (t.queueOf s.freeQueue).ctrl = ctrl ∧
      (t.ctrlOf ctrl).live = true ∧ complete t (freeTag s) s.freeQueue a 0 0 := by
  let x : Queue := { kind := kAdmin, depth := 32, cls := 1, state := 0, source := peer, ctrl := ctrl, qid := 0, errors := 0, ring := [], byError := false }
  let w := (s.putQueue s.freeQueue x).putCtrl ctrl { (default : Ctrl) with live := true }
  have hx : w.queueOf s.freeQueue = x := State.queueOf_putQueue_self _ _ _
  obtain ⟨t, ht, htq, htc, hc⟩ := State.connect_completes (s := s) (w := w) (q := s.freeQueue) (a := a) (leBytes 2 ctrl)
    (State.selfFenced_of_deaf hdeaf) rfl hempty (congrArg Queue.depth hx) (Nat.zero_lt_succ 31) (by rw [hx]; exact (by decide : kAdmin ≠ kInternal))
  have hcreate : s.createQueue kAdmin 32 1 peer ctrl 0 = .ok (s.freeQueue, s.putQueue s.freeQueue x) :=
    (if_neg fun hn => Nat.not_lt.2 hr hn.2).trans (if_neg (Nat.not_le.2 hused))
  refine ⟨t, congrArg Host.Outcome.next ?_, ?_⟩
  · unfold State.connect
    dsimp only
    rw [if_neg (by simp [hdeaf, hfeat]), if_neg (by simp [hq]), if_pos rfl, if_pos rfl, hcreate]
    exact ht
  · rw [htq, hx, htc, State.ctrlOf_putCtrl_self]
    exact ⟨rfl, rfl, rfl, rfl, hc⟩

/-- Connect of an I/O queue of a connected controller. -/
theorem nvmeConnect_io {qid : Nat} (hqid : qid ≠ 0) (hq : s.findQueue ctrl qid = none) (hadm : (s.findQueue ctrl 0).isSome = true)
    (h2 : 2 ≤ depth) (h4096 : depth ≤ 4096) (hr : s.reservedExt + depth ≤ 61440) :
    ∃ t, exec (.nvmeConnect ctrl qid depth peer ⟨a, false⟩) s = .next t ∧
      (t.queueOf s.freeQueue).kind = kNvme ∧ (t.queueOf s.freeQueue).depth = depth ∧ (t.queueOf s.freeQueue).qid = qid ∧
      complete t (freeTag s) s.freeQueue a 0 0 := by
  let x : Queue := { kind := kNvme, depth := depth, cls := 1, state := 0, source := peer, ctrl := ctrl, qid := qid, errors := 0, ring := [], byError := false }
  let w := s.putQueue s.freeQueue x
  have hx : w.queueOf s.freeQueue = x := State.queueOf_putQueue_self _ _ _
  obtain ⟨t, ht, htq, -, hc⟩ := State.connect_completes (s := s) (w := w) (q := s.freeQueue) (a := a) (leBytes 2 ctrl)
    (State.selfFenced_of_deaf hdeaf) rfl hempty (congrArg Queue.depth hx) (Nat.zero_lt_of_lt h2) (by rw [hx]; exact (by decide : kNvme ≠ kInternal))
  have hcreate : s.createQueue kNvme depth 1 peer ctrl qid = .ok (s.freeQueue, w) :=
    (if_neg fun hn => Nat.not_lt.2 hr hn.2).trans (if_neg (Nat.not_le.2 hused))
  refine ⟨t, congrArg Host.Outcome.next ?_, ?_⟩
  · unfold State.connect
    dsimp only
    rw [if_neg (by simp [hdeaf, hfeat]), if_neg (by simp [hq, ← Option.not_isSome, hadm]; omega), if_neg hqid, if_neg hqid, hcreate]
    dsimp only
    rw [if_neg hqid]
    exact ht
  · rw [htq, hx]
    exact ⟨rfl, rfl, rfl, hc⟩

end

theorem keepAliveTimeout_ends {s : State} {ctrl : Nat} (h : (s.ctrlOf ctrl).live = true) :
    ∃ t, exec (.keepAliveTimeout ctrl) s = .next t ∧ t.ctrlOf ctrl = default :=
  ⟨_, congrArg Host.Outcome.next (if_pos h), State.ctrlOf_putCtrl_self _ _ _⟩

/-- Settles O23: each admin command is accepted under the lowest free tag and then runs its own effect with it; Connect accepts
itself on the queue it has made. -/
theorem adminCommandsComplete : Obligations.AdminCommandsComplete := by
  intro s
  refine ⟨fun q cid h => ?_, fun ctrl peer cid depth hd hf hq hr hu _ _ he => nvmeConnect_admin peer cid hd hf hu he hq hr,
    fun ctrl qid peer cid depth hd hf _ hqid hq hadm h2 h4 hr hu _ he => nvmeConnect_io peer cid hd hf hu he hqid hq hadm h2 h4 hr,
    fun _ hl => keepAliveTimeout_ends hl⟩
  refine ⟨propertyGet_gives cid h 0 (.inl rfl), propertyGet_gives cid h 8 (.inr rfl), propertyGet_cc cid h, ?_, propertySet_sets cid h,
    setFeatures_nqueues cid h, setFeatures_aerCfg cid h, setFeatures_kato cid h, getFeatures_nqueues cid h, getFeatures_aerCfg cid h,
    getFeatures_kato cid h, keepAlive_ends cid h, getLogPage_sends cid h, fun _ => identify_volume cid h, identify_controller cid h,
    fun _ _ => asyncEventRequest_event cid h, asyncEventRequest_held cid h, fun _ tcid => nvmeAbort_unknown cid h tcid,
    fun _ _ _ _ => nvmeAbort_marks cid h, fun _ _ hq hk hst hkind hidle =>
      ⟨queueResume_activates cid h hq hst hkind, queueReset_activates cid h hq hst hkind hk hidle⟩⟩
  rw [← ite_not]
  exact propertyGet_csts cid h

end Sys2Proof.Machine
end

section
/-! PROOFS. DOCKET_QCTL, aborts, hand-offs, late BULK commands and the Toll's window (R125, R138, R141, R142, R146, R153, R159, R161). -/

open Sys2Proof Sys2Proof.Claims

namespace Sys2Proof.Machine

/-! ### A command of an NVMe or admin queue ends without freezing it (R137, R138, R144) -/

/-- A state keeps its tags, its queues' kinds and its free values. -/
structure State.KeepsTags (s t : State) : Prop where
  tags : t.docket.tags = s.docket.tags
  kind : ∀ q, (t.queueOf q).kind = (s.queueOf q).kind
  freeCtr : t.freeCtr = s.freeCtr

section
variable {s t u : State}

theorem State.KeepsTags.trans (h : s.KeepsTags t) (g : t.KeepsTags u) : s.KeepsTags u :=
  ⟨g.tags.trans h.tags, fun q => (g.kind q).trans (h.kind q), g.freeCtr.trans h.freeCtr⟩

theorem State.KeepsTags.refl (s : State) : s.KeepsTags s := ⟨rfl, fun _ => rfl, rfl⟩

/-- Counting and recording. -/
theorem State.KeepsTags.of_rest (h : t.rest = s.rest) : s.KeepsTags t :=
  ⟨(congrArg (fun x : State => x.docket.tags) h :), fun q => (congrArg (fun x : State => (x.queueOf q).kind) h :), (congrArg State.freeCtr h :)⟩

theorem State.KeepsTags.tagOf (h : s.KeepsTags t) (k : Nat) : t.tagOf k = s.tagOf k := congrArg (AMap.get · k) h.tags

/-- The error log keeps the tags. -/
theorem State.logError_keepsTags (s : State) (k : Nat) (g : Tag) (st : Status) (det : Nat) : s.KeepsTags (s.logError k g st det) := by
  have hkind (w : State) (x : Queue) (hw : w = s.putQueue g.queue x) (hx : x.kind = (s.queueOf g.queue).kind) (q : Nat) :
      (w.queueOf q).kind = (s.queueOf q).kind := by
    subst hw
    by_cases hq : q = g.queue
    · rw [hq, State.queueOf_putQueue_self, hx]
    · exact congrArg Queue.kind (AMap.get_set_ne _ _ hq)
  unfold State.logError
  extract_lets e q c s1 s2
  have h1 : s.KeepsTags s1 := ⟨rfl, hkind s1 _ rfl rfl, rfl⟩
  have h2 : s1.KeepsTags s2 := by
    unfold s2
    split
    · exact ⟨rfl, fun _ => rfl, rfl⟩
    · exact .refl s1
  have h3 : s2.KeepsTags ({ s2 with docket := { s2.docket with errCount := s.docket.errCount + 1 } }.setN R.DOCKET_LAST_ERR_SEQ s.now) :=
    ⟨rfl, fun _ => rfl, rfl⟩
  exact ((h1.trans h2).trans h3).trans (.of_rest (State.tick_rest _))

theorem State.aerDrop_keepsTags (s : State) (k : Nat) : s.KeepsTags (s.aerDrop k) := by
  unfold State.aerDrop
  extract_lets g n
  split
  · exact ⟨rfl, fun _ => rfl, rfl⟩
  · exact .refl s

/-- What serving does to a tag that does not wait is nothing. -/
theorem State.Served.ended {k : Nat} {g : Tag} (h : s.Served t) (hs : s.tagOf k = g) (hg : g.state = .completing) : t.tagOf k = g :=
  (h.still k (by rw [hs, hg]; decide)).trans hs

end

/-- A failing command of an NVMe or admin queue whose status does not freeze the queue awaits its hand-off. -/
theorem State.docketEnd_ends {s : State} {k : Nat} {st : Status} (det : Nat)
    (hkind : (s.queueOf (s.tagOf k).queue).kind = kNvme ∨ (s.queueOf (s.tagOf k).queue).kind = kAdmin)
    (hcls : 2 ≤ classOf st) (hfr : freezes st = false) :
    (s.docketEnd k st det).tagOf k = { s.tagOf k with
      state := .completing, ended := true, status := st
      detail := s.detailWord (s.tagOf k) st det ((s.tagOf k).tollUs + (s.tagOf k).tillUs) } ∧
    (s.docketEnd k st det).freeCtr = s.freeCtr := by
  have hst : st ≠ 0 := by
    rintro rfl
    exact absurd hcls (by decide)
  have hne {n : Nat} (h1 : n ≠ kNvme) (h2 : n ≠ kAdmin) : (s.queueOf (s.tagOf k).queue).kind ≠ n := by
    rintro rfl
    exact hkind.elim h1 h2
  unfold State.docketEnd
  extract_lets g0 delay late st1 det1 q g s1 s2 s3 x sl s4 s5
  have hst1 : st1 = st := if_neg (by simp [late, hst])
  have hg : g = { s.tagOf k with
      state := .completing, ended := true, status := st, detail := s.detailWord (s.tagOf k) st det ((s.tagOf k).tollUs + (s.tagOf k).tillUs) } := by
    unfold g det1
    rw [hst1]
  have h1 : ((s.aerDrop k).putTag k g).Served s1 := State.mirrorTag_served _ k
  have htag1 : s1.tagOf k = g := h1.ended (State.tagOf_putTag_self _ _ _) rfl
  have h2 : s1.KeepsTags s2 := by
    unfold s2
    split
    · exact State.logError_keepsTags _ _ _ _ _
    · exact .refl _
  have h3 : s2.KeepsTags s3 := by
    unfold s3
    split
    · exact .of_rest rfl
    · split
      · exact .of_rest rfl
      · split
        · exact .of_rest rfl
        · exact .refl _
  have h4 : s4 = s3 := (if_neg fun h => hne (n := kTake) (by decide) (by decide) h.1).trans
    ((if_neg fun h => hne (n := kInternal) (by decide) (by decide) h.1).trans
      (if_neg fun h => Nat.not_lt.2 hcls (hst1 ▸ h.2.2)))
  have h5 : s5 = s3 := (if_neg (by simp [hst1, hfr])).trans h4
  have htag3 : s3.tagOf k = g := by rw [h3.tagOf, h2.tagOf, htag1]
  have hoffer : s5.offer k g = s3 := by
    have hq : (s3.queueOf g.queue).kind ≠ kCarrier := by
      rw [h3.kind, h2.kind, h1.queueOf]
      exact fun h => hne (n := kCarrier) (by decide) (by decide) (((s.aerDrop_keepsTags k).kind _).symm.trans h)
    rw [h5]
    exact if_neg hq
  have hend : s3.Served (s5.offer k g).tollServe.moveCheck := by
    rw [hoffer]
    exact s3.tollServe_served.trans (State.moveCheck_served _)
  rw [if_neg (hne (n := 0) (by decide) (by decide)), ← hg]
  refine ⟨hend.ended htag3 rfl, ?_⟩
  rw [hend.freeCtr, h3.freeCtr, h2.freeCtr, h1.freeCtr]
  exact (s.aerDrop_keepsTags k).freeCtr

/-! ### Queue control (R142, R146) -/

/-- A queue's notice that it is FROZEN leaves the queues and memory alone, where its source is no Carrier peer. -/
theorem State.freezeNotice_keeps {s : State} {q : Nat} (hk : (s.queueOf q).kind ≠ kCarrier) :
    (s.freezeNotice q).docket.queues = s.docket.queues ∧ (s.freezeNotice q).mem = s.mem := by
  unfold State.freezeNotice
  dsimp only
  split
  · split <;> exact ⟨rfl, rfl⟩
  · exact ⟨rfl, rfl⟩

/-- An ACTIVE queue freezes. -/
theorem State.freezeQueue_frozen {s : State} {q : Nat} (b : Bool) (h0 : (s.queueOf q).kind ≠ 0) (hst : (s.queueOf q).state = 0)
    (hk : (s.queueOf q).kind ≠ kCarrier) :
    (s.freezeQueue q b).queueOf q = { s.queueOf q with state := 1, byError := b } ∧ (s.freezeQueue q b).mem = s.mem := by
  unfold State.freezeQueue
  dsimp only
  rw [if_neg (by simp [h0, hst])]
  obtain ⟨m, hm, -⟩ := State.foldl_tags (f := fun s t => if (s.tagOf t).state = .waiting then s.tagHold t else s)
    (fun s k => by
      split
      · exact .inr ⟨_, rfl, rfl, rfl⟩
      · exact .inl rfl) ((s.putQueue q { s.queueOf q with state := 1, byError := b }).tagsOfQueue q)
    (s.putQueue q { s.queueOf q with state := 1, byError := b })
  rw [hm]
  have hq : ((s.putQueue q { s.queueOf q with state := 1, byError := b }).withTags m).queueOf q =
      { s.queueOf q with state := 1, byError := b } := State.queueOf_putQueue_self _ _ _
  obtain ⟨hqs, hmem⟩ := State.freezeNotice_keeps (s := (s.putQueue q { s.queueOf q with state := 1, byError := b }).withTags m) (q := q)
    (by rw [hq]; exact hk)
  exact ⟨(congrArg (fun x : AMap Queue => x.get q) hqs).trans hq, hmem⟩

section
variable {s : State} {q : Nat} (hq : s.getF F.DOCKET_QSEL_VAL = q)
include hq

theorem docketQueueResume_activates (h0 : (s.queueOf q).kind ≠ 0) (hst : (s.queueOf q).state = 1) (hk : (s.queueOf q).kind ≠ kTake) :
    ∃ t, exec .docketQueueResume s = .next t ∧ completed t F.DOCKET_QCTL_STATUS 0 ∧
      t.queueOf q = { s.queueOf q with state := 0, byError := false } ∧ t.mem = s.mem := by
  subst hq
  exact ⟨_, congrArg Host.Outcome.next (if_pos ⟨h0, hst⟩), State.stat_completed _ (by decide) (by decide),
    State.queueOf_activateQueue hk, State.mem_activateQueue hk⟩

theorem docketQueueReset_resets (h0 : (s.queueOf q).kind ≠ 0) (hst : (s.queueOf q).state = 1) :
    ∃ t, exec .docketQueueReset s = .next t ∧ completed t F.DOCKET_QCTL_STATUS 0 ∧
      (tagsCanonical s → (s.queueOf q).kind ≠ kTake →
        (∀ k, (s.tagOf k).queue = q → (s.tagOf k).state ≠ .held ∧ (s.tagOf k).state ≠ .completing) →
        t.queueOf q = { s.queueOf q with state := 0, byError := false }) := by
  subst hq
  exact ⟨_, congrArg Host.Outcome.next (if_pos ⟨h0, hst⟩), State.stat_completed _ (by decide) (by decide),
    fun hs hk hidle => State.queueOf_resetQueue hk hs hidle⟩

theorem docketQueueFreeze_freezes (h0 : (s.queueOf q).kind ≠ 0) (hst : (s.queueOf q).state = 0) :
    ∃ t, exec .docketQueueFreeze s = .next t ∧ completed t F.DOCKET_QCTL_STATUS 0 ∧
      ((s.queueOf q).kind ≠ kCarrier → t.queueOf q = { s.queueOf q with state := 1, byError := false } ∧ t.mem = s.mem) := by
  subst hq
  exact ⟨_, rfl, State.stat_completed _ (by decide) (by decide), State.freezeQueue_frozen false h0 hst⟩

/-- A queue that is not FROZEN is not returned to ACTIVE. -/
theorem docketQueue_refused (hst : (s.queueOf q).state ≠ 1) :
    (∃ t, exec .docketQueueResume s = .next t ∧ completed t F.DOCKET_QCTL_STATUS 0x7063 ∧ t.docket = s.docket) ∧
      ∃ t, exec .docketQueueReset s = .next t ∧ completed t F.DOCKET_QCTL_STATUS 0x7063 ∧ t.docket = s.docket := by
  subst hq
  have hc : completed (s.stat F.DOCKET_QCTL_STATUS 0x7063) F.DOCKET_QCTL_STATUS 0x7063 := State.stat_completed _ (by decide) (by decide)
  exact ⟨⟨_, congrArg Host.Outcome.next (if_neg fun h => hst h.2), hc, rfl⟩,
    ⟨_, congrArg Host.Outcome.next (if_neg fun h => hst h.2), hc, rfl⟩⟩

end

/-! ### DOCKET_ABORT (R141, R146) -/

/-- DOCKET_ABORT shows a result, and its access completes with 0. -/
def State.abortShown (s : State) (r : Nat) : State := (s.setF F.DOCKET_ABORT_RESULT r).stat F.DOCKET_ABORT_STATUS 0

theorem State.abortShown_result (s : State) {r : Nat} (hr : r < 4) : (s.abortShown r).getF F.DOCKET_ABORT_RESULT = r ∧
    completed (s.abortShown r) F.DOCKET_ABORT_STATUS 0 :=
  ⟨(State.getF_setF_ne _ _ _ _ (by decide)).trans ((State.getF_setF_self _ _ _ (by decide)).trans (Nat.mod_eq_of_lt hr)),
    State.stat_completed _ (by decide) (by decide)⟩

section
variable {s : State} {tag : Nat} (ht : tag < 65536)
include ht

/-- An abort whose outcome is known at once shows it. -/
theorem docketAbortGo_shows {r : Nat} {u : State} (ha : (s.setF F.DOCKET_ABORT_TAG tag).abortTag tag 0x6060 = (r, u)) (hr : r ≠ 1) :
    exec (.docketAbortGo tag) s = .next (u.abortShown (r % 3)) := by
  have he : exec (.docketAbortGo tag) s = execDocketAbortGo tag s := rfl
  rw [he]
  unfold execDocketAbortGo
  dsimp only
  rw [Nat.mod_eq_of_lt ht, ha]
  exact congrArg Host.Outcome.next (if_neg hr)

theorem docketAbortGo_waiting (hst : (s.tagOf tag).state = .waiting) (hch : (s.tagOf tag).chain = 0)
    (hk : (s.queueOf (s.tagOf tag).queue).kind = kNvme ∨ (s.queueOf (s.tagOf tag).queue).kind = kAdmin) :
    ∃ t, exec (.docketAbortGo tag) s = .next t ∧ t.getF F.DOCKET_ABORT_RESULT = 0 ∧ completed t F.DOCKET_ABORT_STATUS 0 ∧
      (t.tagOf tag).state = .completing ∧ (t.tagOf tag).status = 0x6060 := by
  have htag : (s.setF F.DOCKET_ABORT_TAG tag).tagOf tag = s.tagOf tag := rfl
  have ha : (s.setF F.DOCKET_ABORT_TAG tag).abortTag tag 0x6060 =
      (0, ((s.setF F.DOCKET_ABORT_TAG tag).putTag tag { s.tagOf tag with aborted := true }).docketEnd tag 0x6060 0) := by
    unfold State.abortTag
    dsimp only
    rw [htag, if_neg (by simp [hst]), if_pos (by simp [Tag.catchable, hst, hch]), if_neg (by simp [hst])]
  obtain ⟨hend, -⟩ := State.docketEnd_ends (s := (s.setF F.DOCKET_ABORT_TAG tag).putTag tag { s.tagOf tag with aborted := true })
    (k := tag) (st := 0x6060) 0 (by rw [State.tagOf_putTag_self]; exact hk) (by decide) (by decide)
  refine ⟨_, docketAbortGo_shows ht ha (by decide), (State.abortShown_result _ (by decide)).1, (State.abortShown_result _ (by decide)).2,
    (congrArg Tag.state hend :), (congrArg Tag.status hend :)⟩

theorem docketAbortGo_dispatched (hst : (s.tagOf tag).state = .dispatched) (hcm : (s.tagOf tag).committing = false)
    (hch : (s.tagOf tag).chain = 0) (hen : (s.tagOf tag).ended = false) (hab : (s.tagOf tag).aborted = false) :
    ∃ t, exec (.docketAbortGo tag) s = .next t ∧ t.getF F.DOCKET_ABORT_RESULT = 0 ∧ completed t F.DOCKET_ABORT_STATUS 0 ∧
      t.tagOf tag = { s.tagOf tag with aborted := true, status := 0x6060 } ∧ t.mem = s.mem := by
  have htag : (s.setF F.DOCKET_ABORT_TAG tag).tagOf tag = s.tagOf tag := rfl
  have ha : (s.setF F.DOCKET_ABORT_TAG tag).abortTag tag 0x6060 =
      (3, (s.setF F.DOCKET_ABORT_TAG tag).putTag tag { s.tagOf tag with aborted := true, status := 0x6060 }) := by
    simp [State.abortTag, htag, Tag.catchable, hst, hcm, hch, hen, hab]
  obtain ⟨hr, hc⟩ := State.abortShown_result ((s.setF F.DOCKET_ABORT_TAG tag).putTag tag
    { s.tagOf tag with aborted := true, status := 0x6060 }) (r := 0) (by decide)
  exact ⟨_, docketAbortGo_shows ht ha (by decide), hr, hc, State.tagOf_putTag_self _ _ _, rfl⟩

theorem docketAbortGo_again (hst : (s.tagOf tag).state = .completing) (hab : (s.tagOf tag).aborted = true) :
    ∃ t, exec (.docketAbortGo tag) s = .next t ∧ t.getF F.DOCKET_ABORT_RESULT = 0 ∧ completed t F.DOCKET_ABORT_STATUS 0 ∧
      t.docket = s.docket := by
  have htag : (s.setF F.DOCKET_ABORT_TAG tag).tagOf tag = s.tagOf tag := rfl
  have ha : (s.setF F.DOCKET_ABORT_TAG tag).abortTag tag 0x6060 = (3, s.setF F.DOCKET_ABORT_TAG tag) := by
    simp [State.abortTag, htag, Tag.catchable, hst, hab]
  obtain ⟨hr, hc⟩ := State.abortShown_result (s.setF F.DOCKET_ABORT_TAG tag) (r := 0) (by decide)
  exact ⟨_, docketAbortGo_shows ht ha (by decide), hr, hc, rfl⟩

theorem docketAbortGo_unknown (hst : (s.tagOf tag).state = .free) :
    ∃ t, exec (.docketAbortGo tag) s = .next t ∧ t.getF F.DOCKET_ABORT_RESULT = 2 ∧ completed t F.DOCKET_ABORT_STATUS 0 ∧
      t.docket = s.docket := by
  have htag : (s.setF F.DOCKET_ABORT_TAG tag).tagOf tag = s.tagOf tag := rfl
  have ha : (s.setF F.DOCKET_ABORT_TAG tag).abortTag tag 0x6060 = (2, s.setF F.DOCKET_ABORT_TAG tag) := by
    simp [State.abortTag, htag, hst]
  obtain ⟨hr, hc⟩ := State.abortShown_result (s.setF F.DOCKET_ABORT_TAG tag) (r := 2) (by decide)
  exact ⟨_, docketAbortGo_shows ht ha (by decide), hr, hc, rfl⟩

/-- An abort that comes too late waits for the completion it lost to. -/
theorem docketAbortGo_late (hst : (s.tagOf tag).state = .completing) (hab : (s.tagOf tag).aborted = false) :
    ∃ t, exec (.docketAbortGo tag) s = .next t ∧ t.reply = 0 ∧
      t.tagOf tag = { s.tagOf tag with late := (s.tagOf tag).late ++ [[4, 1]] } ∧ t.mem = s.mem := by
  have htag : (s.setF F.DOCKET_ABORT_TAG tag).tagOf tag = s.tagOf tag := rfl
  have ha : (s.setF F.DOCKET_ABORT_TAG tag).abortTag tag 0x6060 = (1, s.setF F.DOCKET_ABORT_TAG tag) := by
    simp [State.abortTag, htag, Tag.catchable, hst, hab]
  have he : exec (.docketAbortGo tag) s = execDocketAbortGo tag s := rfl
  rw [he]
  unfold execDocketAbortGo
  dsimp only
  rw [Nat.mod_eq_of_lt ht, ha]
  exact ⟨_, congrArg Host.Outcome.next (if_pos rfl), rfl, State.tagOf_putTag_self _ _ _, rfl⟩

end

/-! ### Hand-offs (R125, R141) -/

theorem State.qpAcked_keeps (s : State) (q : Nat) : (s.qpAcked q).docket = s.docket ∧ (s.qpAcked q).outbox = s.outbox ∧ (s.qpAcked q).mem = s.mem := by
  unfold State.qpAcked
  split <;> exact ⟨rfl, rfl, rfl⟩

/-- Replies that DOCKET_ABORT alone waits for change its register alone. -/
theorem State.lateReplies_abort (s : State) {l : List (List Nat)} (hl : l = [] ∨ l = [[4, 1]]) :
    (s.lateReplies l).rest = s.rest ∧ (l ≠ [] → (s.lateReplies l).getF F.DOCKET_ABORT_RESULT = 1 ∧ (s.lateReplies l).getF F.DOCKET_ABORT_STATUS = 0) := by
  obtain rfl | rfl := hl
  · exact ⟨rfl, fun h => absurd rfl h⟩
  · exact ⟨rfl, fun _ => ⟨(State.getF_setF_ne _ _ _ _ (by decide)).trans (State.getF_setF_self _ _ _ (by decide)),
      State.getF_setF_self _ _ _ (by decide)⟩⟩

/-- A completion of an NVMe or admin queue is posted, and its tag freed. -/
theorem completionHandoff_posts {s : State} {tag : Nat} (hst : (s.tagOf tag).state = .completing) (hf : s.selfFenced = false)
    (hw : s.withheld tag = false)
    (hk : (s.queueOf (s.tagOf tag).queue).kind = kNvme ∨ (s.queueOf (s.tagOf tag).queue).kind = kAdmin)
    (hq : (s.queueOf (s.tagOf tag).queue).state ≠ 2) (hl : (s.tagOf tag).late = [] ∨ (s.tagOf tag).late = [[4, 1]])
    (he : (s.tagOf tag).entry ≠ 8) :
    ∃ t l, exec (.completionHandoff tag) s = .next t ∧ t.tagOf tag = default ∧
      t.outbox = s.outbox ++ l ++ [.nvme (s.tagOf tag).queue (s.tagOf tag).cid (s.tagOf tag).status
        (nvmeField (s.tagOf tag).status ((s.tagOf tag).entry = 0)) (s.tagOf tag).detail] ∧ t.mem = s.mem ∧
      ((s.tagOf tag).late ≠ [] → t.getF F.DOCKET_ABORT_RESULT = 1 ∧ t.getF F.DOCKET_ABORT_STATUS = 0) := by
  have hgo : (s.tagOf tag).state = .completing ∧ s.selfFenced = false ∧ s.withheld tag = false := ⟨hst, hf, hw⟩
  have hexec : exec (.completionHandoff tag) s = .next ((s.handOff tag).afterHandoff (s.tagOf tag)) := congrArg Host.Outcome.next (if_pos hgo)
  have hne {n : Nat} (h1 : n ≠ kNvme) (h2 : n ≠ kAdmin) : (s.queueOf (s.tagOf tag).queue).kind ≠ n := by
    rintro rfl
    exact hk.elim h1 h2
  generalize hg : s.tagOf tag = g at *
  let s1 := ((s.putTag tag default).mirrorTag tag).addN R.DOCKET_COMPLETED 1
  let s2 := (s1.qpAcked g.queue).send (.nvme g.queue g.cid g.status (nvmeField g.status (g.entry = 0)) g.detail)
  have h1 : (s.putTag tag default).Served s1 := (State.mirrorTag_served _ _).trans (.of_rest rfl)
  obtain ⟨hd2, ho2, hm2⟩ := s1.qpAcked_keeps g.queue
  obtain ⟨hrest, hlate⟩ := s2.lateReplies_abort hl
  have hd : (s2.lateReplies g.late).docket = s1.docket := (congrArg State.docket hrest :).trans hd2
  have hq3 : (s2.lateReplies g.late).queueOf g.queue = s.queueOf g.queue :=
    (congrArg (fun x : Docket => x.queues.get g.queue) hd).trans (h1.queueOf _)
  have hhand : s.handOff tag = s2.lateReplies g.late := by
    unfold State.handOff
    dsimp only
    rw [hg, if_pos hgo, if_pos hk.symm, if_neg (hne (by decide) (by decide))]
    exact if_neg fun h => hq (by rw [← hq3]; exact h.1)
  have hafter : (s.handOff tag).afterHandoff g = s2.lateReplies g.late := by
    unfold State.afterHandoff
    dsimp only
    rw [hhand, hq3, if_neg he, if_neg (hne (by decide) (by decide)), if_neg (hne (by decide) (by decide))]
  obtain ⟨l, hl1⟩ := h1.out
  refine ⟨s2.lateReplies g.late, l, hexec.trans (congrArg _ hafter), ?_, ?_, ?_, hlate⟩
  · refine (congrArg (fun x : Docket => x.tags.get tag) hd).trans ((h1.still tag ?_).trans (State.tagOf_putTag_self _ _ _))
    rw [State.tagOf_putTag_self]
    decide
  · refine (congrArg State.outbox hrest :).trans ?_
    rw [← show s1.outbox = s.outbox ++ l from hl1, ← ho2]
    rfl
  · exact (congrArg State.mem hrest :).trans (hm2.trans h1.mem)

/-! ### BULK commands held too long (R161) -/

theorem bulkHoldExpiry_ends {s : State} {tag : Nat} (hst : (s.tagOf tag).state = .waiting) (hp : (s.tagOf tag).tollPassed = false)
    (hfrom : (s.tagOf tag).tollFrom ≠ 0) (hcls : (s.queueOf (s.tagOf tag).queue).cls = 2)
    (hk : (s.queueOf (s.tagOf tag).queue).kind = kNvme) :
    ∃ t, exec (.bulkHoldExpiry tag) s = .next t ∧ (t.tagOf tag).state = .completing ∧ (t.tagOf tag).status = 0x2070 ∧
      (t.tagOf tag).detail = 0x0C * 2 ^ 24 + (Config.freeValue s.freeCtr).toNat % 2 ^ 24 ∧ t.freeCtr = s.freeCtr + 1 := by
  obtain ⟨hend, hfree⟩ := State.docketEnd_ends (s := s.draw.2) (k := tag) (st := 0x2070)
    (0x0C * 2 ^ 24 + (Config.freeValue s.freeCtr).toNat % 2 ^ 24) (.inl hk) (by decide) (by decide)
  refine ⟨_, congrArg Host.Outcome.next (if_pos ⟨hst, hp, hfrom, hcls, ?_, ?_⟩), (congrArg Tag.state hend :),
    (congrArg Tag.status hend :), (congrArg Tag.detail hend :).trans rfl, hfree⟩
  all_goals
    rw [hk]
    decide

/-! ### The Toll's window (R156, R159) -/

section
variable {α : Type} [Inhabited α] [DecidableEq α] {f : α → α} {l m : AMap α} {k : Nat}

theorem AMap.foldl_set_absent (h : ∀ v, (k, v) ∉ l) : (l.foldl (fun m p => m.set p.1 (f p.2)) m).get k = m.get k := by
  induction l generalizing m with
  | nil => rfl
  | cons p l ih =>
    have hk : k ≠ p.1 := by
      rintro rfl
      exact h p.2 List.mem_cons_self
    rw [List.foldl_cons, ih fun v hv => h v (List.mem_cons_of_mem _ hv), AMap.get_set_ne _ _ hk]

theorem AMap.foldl_set_listed {lo : Nat} (hl : AMap.wfFrom (fun _ => (default : α)) lo l = true) {v : α} (h : (k, v) ∈ l) :
    (l.foldl (fun m p => m.set p.1 (f p.2)) m).get k = f v := by
  induction l generalizing lo m with
  | nil => cases h
  | cons p l ih =>
    simp only [AMap.wfFrom, Bool.and_eq_true] at hl
    obtain he | h := List.mem_cons.1 h
    · subst he
      have hr : ∀ w, (k, w) ∉ l := fun w hw => absurd (AMap.le_of_mem hl.2 hw) (by simp)
      rw [List.foldl_cons, AMap.foldl_set_absent hr, AMap.get_set_self]
    · exact ih hl.2 h

/-- A change of every listed value is one of every value, where the default stays. -/
theorem AMap.foldl_set (hl : AMap.wf (fun _ => (default : α)) l = true) (hf : f default = default) (k : Nat) :
    (l.foldl (fun m p => m.set p.1 (f p.2)) l).get k = f (l.get k) := by
  by_cases h : ∃ v, (k, v) ∈ l
  · obtain ⟨v, hv⟩ := h
    rw [AMap.foldl_set_listed hl hv]
    exact congrArg f (AMap.getD_of_mem hl hv).symm
  · have habsent : ∀ v, (k, v) ∉ l := fun v hv => h ⟨v, hv⟩
    have hd : l.get k = default := by_contra fun hne => h ⟨_, AMap.mem_of_getD hne⟩
    rw [AMap.foldl_set_absent habsent, hd, hf]

end

/-- The balances of a new window, before the takes' gates. -/
def State.windowTokens (s : State) : State := { s with toll := { s.toll with
  inTok := refill s.toll.inTok s.toll.cap.ingest, rdTok := refill s.toll.rdTok s.toll.cap.read
  rebTok := refill s.toll.rebTok (s.toll.cap.rebuildFloor * 1000000), gleanTok := refill s.toll.gleanTok (s.toll.cap.gleanFloor * 1000000) } }

/-- A state with other takes. -/
def State.withTakes (s : State) (m : AMap Take) : State := { s with toll := { s.toll with takes := m } }

theorem State.foldl_putTake (l : AMap Take) (s : State) : l.foldl (fun s p => s.putTake p.1 p.2.refillGate) s =
    s.withTakes (l.foldl (fun m p => m.set p.1 p.2.refillGate) s.toll.takes) := by
  induction l generalizing s with
  | nil => rfl
  | cons p l ih => exact ih _

/-- A window with no command that waits for the Toll refills the balances and the gates. -/
theorem tollWindow_refills {s : State} (h : ∀ p ∈ s.docket.tags, p.2.state ≠ .waiting ∨ p.2.tollPassed = true)
    (hwf : AMap.wf (fun _ => (default : Take)) s.toll.takes = true) :
    ∃ t, exec .tollWindow s = .next t ∧ t.toll.inTok = refill s.toll.inTok s.toll.cap.ingest ∧
      t.toll.rdTok = refill s.toll.rdTok s.toll.cap.read ∧ (∀ k, t.takeOf k = (s.takeOf k).refillGate) ∧ t.docket = s.docket ∧ t.mem = s.mem := by
  let t := s.windowTokens.withTakes (s.toll.takes.foldl (fun m p => m.set p.1 p.2.refillGate) s.toll.takes)
  have ht : (s.toll.takes.foldl (fun s p => s.putTake p.1 p.2.refillGate) s.windowTokens).tollServe = t := by
    rw [State.foldl_putTake]
    exact State.tollServe_idle h
  exact ⟨t, congrArg Host.Outcome.next ht, rfl, rfl, AMap.foldl_set hwf (by decide), rfl, rfl⟩

/-- Settles O25: each register command, expiry and hand-off of the Docket and the Toll's window, by the rules above. -/
theorem queuesAbortsAndHandoffs : Obligations.QueuesAbortsAndHandoffs := by
  intro s
  refine ⟨⟨docketQueueResume_activates rfl, docketQueueReset_resets rfl, docketQueueFreeze_freezes rfl, docketQueue_refused rfl⟩,
    fun tag ht => ⟨docketAbortGo_waiting ht, docketAbortGo_dispatched ht, docketAbortGo_again ht, docketAbortGo_late ht,
      docketAbortGo_unknown ht⟩, fun _ => completionHandoff_posts, fun _ => bulkHoldExpiry_ends, tollWindow_refills⟩

end Sys2Proof.Machine
end
